-- ==== Sys2Proof/Word.lean ====
section
/-! DEFINITION. The words of the device and the one shape in which sparse state is held: a list of key and value
pairs, keys rising, no entry equal to what an unlisted key reads as. -/

namespace Sys2Proof

abbrev Word := BitVec 32
abbrev Byte := BitVec 8

/-- A word from a natural number, wrapping at 2^32. -/
abbrev word (n : Nat) : Word := BitVec.ofNat 32 n

/-- A sparse array: what stands at each listed key. What an unlisted key reads as is a function of the key, given
where the array is read. -/
abbrev SMap (α : Type) := List (Nat × α)

namespace SMap

variable {α : Type}

/-- What stands at key `k`, where `d` gives what an unlisted key reads as. -/
def get (d : Nat → α) : SMap α → Nat → α
  | [], k => d k
  | (a, v) :: m, k => if a = k then v else get d m k

/-- Puts an entry at its place in the rising order. -/
def insert : SMap α → Nat → α → SMap α
  | [], k, v => [(k, v)]
  | (a, w) :: m, k, v => if k < a then (k, v) :: (a, w) :: m else (a, w) :: insert m k v

/-- Every key that `p` names reads as unlisted again. -/
def erase (p : Nat → Bool) (m : SMap α) : SMap α := m.filter (fun e => !p e.1)

/-- Key `k` reads `v` from now on; the canonical form is kept (a value equal to the unlisted one is not listed). -/
def set [DecidableEq α] (d : Nat → α) (m : SMap α) (k : Nat) (v : α) : SMap α :=
  let m' := m.filter (fun e => decide (e.1 ≠ k))
  if v = d k then m' else insert m' k v

/-- The canonical form: keys strictly rising and no entry equal to what the key reads as unlisted. -/
def wf [DecidableEq α] (d : Nat → α) : SMap α → Bool
  | [] => true
  | (a, v) :: m => decide (v ≠ d a) && m.all (fun e => decide (a < e.1)) && wf d m

end SMap

end Sys2Proof
end

