-- ==== Sys2Proof/Config.lean ====
section
/-! DEFINITION. What one device fixes and the spec leaves open: values programmed at the factory, free values, and the
functions of the published standards that the spec names and does not define (R10). Nothing in Lean can evaluate
an `opaque` constant here, so a statement about one holds whatever it is. -/

namespace Sys2Proof.Config

/-- The ordering code of the device: FD-6400-IB5 where true, FD-6400-IB6 where false (R1). Free: what holds for this
constant holds of both codes. -/
opaque ib5 : Bool

/-- `GRADE`, programmed at the factory (R3, R45). -/
def grade : Nat := if ib5 then 5 else 6

/-- STEP of the nominal cluster clock: 500 MHz or 600 MHz (R1, R439). -/
def nominalStep : Nat := if ib5 then 2 else 6

/-- The greatest STEP: 550 MHz or 650 MHz (R1, R439). -/
def greatestStep : Nat := if ib5 then 4 else 8

/-- The PCI Express Vendor ID programmed at the factory (R4): the spec prints no value. -/
opaque vendorId : Nat

/-- Nelewald's JEDEC manufacturer code, in IDCODE (R531): the spec prints no value. -/
opaque jedecCode : Nat

/-- Where the configuration space places the capability that the argument names, as the next pointer before it holds it: 0
Power Management, 1 PCI Express, 2 MSI-X (R283 prints no offset). -/
opaque capAt : Nat → Nat

/-- A fresh free value for the draw numbered by the argument: random bits of ENT, link epochs, predictor keys, DRBG
bytes, and every value that the spec leaves open after an operation that goes on. -/
opaque freeValue : Nat → Nat

/-- The SP ROM's bytes: mask programmed, not printed by the spec. -/
opaque spRom : Nat → Byte

/-- A byte of the external octal SPI flash: outside the device. -/
opaque octalFlash : Nat → Byte

/-- A byte of the factory calibration sector of Parameter Flash, keyed by its offset in the sector (R346, R375). -/
opaque factoryByte : Nat → Byte

/-- FIPS 180-4 SHA-256 of a byte string, as 32 bytes (R10). -/
opaque sha256 : List Byte → List Byte

/-- FIPS 198-1 HMAC with SHA-256 under a key, as 32 bytes (R10). -/
opaque hmacSha256 : List Byte → List Byte → List Byte

/-- FIPS 186-4 ECDSA verification on P-256: key, message digest, signature (R10). -/
opaque ecdsaVerify : List Byte → List Byte → List Byte → Bool

/-- The recovery monitor that the SP copies from its ROM into MGS, and its entry (R404). -/
opaque monitor : List Byte
opaque monitorEntry : Nat

/-- How the AGM brings a quotient of its forecast to an integer of the margin report: the spec states no rounding (R478,
R479), nor a value where the divisor is 0. -/
opaque agmRound : Int → Int → Int

end Sys2Proof.Config
end

