-- ==== Sys2Proof/Machine/Registers.lean ====
section
/-! DEFINITION. The register map: for every register of the spec's register tables its address, its fields and its
reset value, written from the tables of R45, R79, R114, R171, R208, R281, R282, R287, R306, R329, R330, R344, R353,
R382, R383, R414, R415, R438, R439, R463, R464, R480, R502, R510, R524 to R530, R544 and R545. BAR0 set-up
blocks that the host alone addresses stand above 2^32 (log entry 4). -/

namespace Sys2Proof.Machine

/-- A bit field: the register's address, its lowest bit and its width. -/
structure Fld where
  reg : Nat
  lo  : Nat
  w   : Nat
  deriving DecidableEq, Repr

/-- One row of the register map: `n` instances `s` apart, each with `m` sub-instances `t` apart. `rw` are the bits
that software writes plainly, `w1c` those it clears by writing 1; every other bit ignores a plain write (R13). -/
structure RegRow where
  reg   : Nat
  n     : Nat
  s     : Nat
  m     : Nat
  t     : Nat
  reset : Nat
  rw    : Nat
  w1c   : Nat
  wo    : Nat
  deriving DecidableEq, Repr

namespace R

abbrev SYS_ID : Nat := 0x40000000
abbrev SYS_REV : Nat := 0x40000004
abbrev SYS_CPUNUM : Nat := 0x40000008
abbrev SYS_CAP : Nat := 0x4000000c
abbrev SYS_BERR_ADDR : Nat := 0x40000010
abbrev SYS_BERR_INFO : Nat := 0x40000014
abbrev SYS_VID : Nat := 0x40000018
abbrev RST_CAUSE : Nat := 0x40001000
abbrev RST_LAST : Nat := 0x40001004
abbrev RST_CTRL : Nat := 0x40001008
abbrev RST_CFG : Nat := 0x4000100c
abbrev RST_BLK : Nat := 0x40001010
abbrev RST_BLK_SFL : Nat := 0x40001014
abbrev RST_BLK_STAT : Nat := 0x40001018
abbrev RST_SEQ : Nat := 0x4000101c
abbrev RST_BLK_SFL_STAT : Nat := 0x40001020
abbrev CKG_STATUS : Nat := 0x40002000
abbrev CKG_CLFREQ (n : Nat) : Nat := 0x40002010 + 0x4 * n
abbrev CKG_CL_CTRL : Nat := 0x40002020
abbrev CKG_MON_CTRL : Nat := 0x40002030
abbrev CKG_MON_STAT : Nat := 0x40002034
abbrev CKG_TRIM_CTRL : Nat := 0x40002040
abbrev CKG_TRIM_REF : Nat := 0x40002044
abbrev CKG_TRIM_STAT : Nat := 0x40002048
abbrev CKG_TB_CORR : Nat := 0x4000204c
abbrev PMU_STATE : Nat := 0x40003000
abbrev PMU_DOM_CTRL : Nat := 0x40003004
abbrev PMU_DOM_STAT : Nat := 0x40003008
abbrev PMU_STBY : Nat := 0x40003010
abbrev PMU_STBY_STAT : Nat := 0x40003014
abbrev PMU_WAKE_SRC : Nat := 0x40003018
abbrev PMU_WAKE_PEND : Nat := 0x4000301c
abbrev PMU_AVS_CFG : Nat := 0x40003040
abbrev PMU_AVS_LIM : Nat := 0x40003044
abbrev PMU_AVS_TGT : Nat := 0x40003048
abbrev PMU_AVS_STAT : Nat := 0x4000304c
abbrev PMU_AVS_VOUT : Nat := 0x40003050
abbrev PMU_AVS_IOUT : Nat := 0x40003054
abbrev PMU_AVS_SW : Nat := 0x40003058
abbrev PMU_EVT_EN : Nat := 0x40003060
abbrev EVC_CLAIM : Nat := 0x40004000
abbrev EVC_EOI : Nat := 0x40004004
abbrev EVC_TAKE : Nat := 0x40004008
abbrev EVC_TAKE_RES : Nat := 0x4000400c
abbrev EVC_SPUR_CNT : Nat := 0x40004010
abbrev EVC_ACT : Nat := 0x40004014
abbrev EVC_ACT_V : Nat := 0x40004018
abbrev EVC_PEND (n : Nat) : Nat := 0x40004100 + 0x4 * n
abbrev EVC_MASK (n : Nat) : Nat := 0x40004120 + 0x4 * n
abbrev EVC_STORM (n : Nat) : Nat := 0x40004140 + 0x4 * n
abbrev EVC_CNT (n : Nat) : Nat := 0x40004200 + 0x4 * n
abbrev EVC_CFG (n : Nat) : Nat := 0x40004400 + 0x4 * n
abbrev MC_MGS_ECC : Nat := 0x40004f00
abbrev MC_MGS_UEADDR : Nat := 0x40004f04
abbrev BKD_STATUS : Nat := 0x40005000
abbrev BKD_RTC_SEC : Nat := 0x40005004
abbrev BKD_RTC_SUB : Nat := 0x40005008
abbrev BKD_ALM_SEC : Nat := 0x4000500c
abbrev BKD_CTRL : Nat := 0x40005010
abbrev BKD_WAKE_CFG : Nat := 0x40005014
abbrev BKD_EVQ_LO : Nat := 0x40005018
abbrev BKD_EVQ_HI : Nat := 0x4000501c
abbrev BKD_WAKE_EN : Nat := 0x40005020
abbrev GPIO_OUT (n : Nat) : Nat := 0x40006000 + 0x40 * n
abbrev GPIO_OE (n : Nat) : Nat := 0x40006004 + 0x40 * n
abbrev GPIO_IN (n : Nat) : Nat := 0x40006008 + 0x40 * n
abbrev GPIO_PULL (n : Nat) : Nat := 0x4000600c + 0x40 * n
abbrev GPIO_ODRAIN (n : Nat) : Nat := 0x40006010 + 0x40 * n
abbrev GPIO_MUX_LO (n : Nat) : Nat := 0x40006014 + 0x40 * n
abbrev GPIO_MUX_HI (n : Nat) : Nat := 0x40006018 + 0x40 * n
abbrev GPIO_IEDGE (n : Nat) : Nat := 0x4000601c + 0x40 * n
abbrev GPIO_ISTAT (n : Nat) : Nat := 0x40006020 + 0x40 * n
abbrev GPIO_WAKE_CFG : Nat := 0x400060f0
abbrev GPIO_HOLD : Nat := 0x400060f4
abbrev CVU_CFG (n : Nat) : Nat := 0x40007000 + 0x20 * n
abbrev CVU_INIT (n : Nat) : Nat := 0x40007004 + 0x20 * n
abbrev CVU_FOLD (n : Nat) : Nat := 0x40007008 + 0x20 * n
abbrev CVU_DATA (n : Nat) : Nat := 0x4000700c + 0x20 * n
abbrev CVU_RES (n : Nat) : Nat := 0x40007010 + 0x20 * n
abbrev MSE_START : Nat := 0x40007100
abbrev MSE_LEN : Nat := 0x40007104
abbrev MSE_EXPECT : Nat := 0x40007108
abbrev MSE_CTRL : Nat := 0x4000710c
abbrev MSE_STATUS : Nat := 0x40007110
abbrev MSE_RESULT : Nat := 0x40007114
abbrev MSE_SCRUB_CFG : Nat := 0x40007140
abbrev MSE_SCRUB_POS : Nat := 0x40007144
abbrev MSE_SCRUB_LAST : Nat := 0x40007148
abbrev MSE_SCRUB_PASS : Nat := 0x4000714c
abbrev MSE_SCRUB_ERR : Nat := 0x40007150
abbrev MSE_EVT_EN : Nat := 0x400071f0
abbrev BMV_CTRL : Nat := 0x40008000
abbrev BMV_STATUS : Nat := 0x40008004
abbrev BMV_HALT_ADDR : Nat := 0x40008008
abbrev BMV_HALT_INFO : Nat := 0x4000800c
abbrev BMV_END : Nat := 0x40008010
abbrev BMV_EVT_EN : Nat := 0x40008014
abbrev BMV_CH_CFG (n : Nat) : Nat := 0x40008100 + 0x20 * n
abbrev BMV_CH_HEAD (n : Nat) : Nat := 0x40008104 + 0x20 * n
abbrev BMV_CH_CTRL (n : Nat) : Nat := 0x40008108 + 0x20 * n
abbrev BMV_CH_STAT (n : Nat) : Nat := 0x4000810c + 0x20 * n
abbrev BMV_CH_DESC (n : Nat) : Nat := 0x40008110 + 0x20 * n
abbrev BMV_CH_RESID (n : Nat) : Nat := 0x40008114 + 0x20 * n
abbrev BMV_CH_EOFS (n : Nat) : Nat := 0x40008118 + 0x20 * n
abbrev BMV_CH_CNT (n : Nat) : Nat := 0x4000811c + 0x20 * n
abbrev PFL_STATUS : Nat := 0x40009000
abbrev PFL_ADDR : Nat := 0x40009004
abbrev PFL_DATA_LO : Nat := 0x40009008
abbrev PFL_DATA_HI : Nat := 0x4000900c
abbrev PFL_CMD : Nat := 0x40009010
abbrev PFL_ECC : Nat := 0x40009014
abbrev PFL_ECC_ADDR : Nat := 0x40009018
abbrev PFL_EVT_EN : Nat := 0x4000901c
abbrev NVR_STATUS : Nat := 0x4000a000
abbrev NVR_PWD_SEL : Nat := 0x4000a004
abbrev NVR_PWD_R : Nat := 0x4000a008
abbrev NVR_PWD_W : Nat := 0x4000a00c
abbrev NVR_PWD_NEW : Nat := 0x4000a010
abbrev NVR_PWD_CTRL : Nat := 0x4000a014
abbrev NVR_PWD_STAT : Nat := 0x4000a018
abbrev NVR_JSRC : Nat := 0x4000a020
abbrev NVR_JDST : Nat := 0x4000a024
abbrev NVR_JLEN : Nat := 0x4000a028
abbrev NVR_JCTRL : Nat := 0x4000a02c
abbrev NVR_JSTAT : Nat := 0x4000a030
abbrev NVR_PF_CTRL : Nat := 0x4000a040
abbrev NVR_RET_CTRL : Nat := 0x4000a044
abbrev NVR_RET_STAT : Nat := 0x4000a048
abbrev NVR_RET_SEQ : Nat := 0x4000a04c
abbrev NVR_RET_CYCLE : Nat := 0x4000a050
abbrev NVR_RET_PLAN_ID : Nat := 0x4000a054
abbrev NVR_RET_PLAN_VER : Nat := 0x4000a058
abbrev NVR_PF_TIME : Nat := 0x4000a05c
abbrev NVR_EVT_EN : Nat := 0x4000a060
abbrev ENT_STATUS : Nat := 0x4000c004
abbrev ENT_REQ : Nat := 0x4000c010
abbrev ENT_REQ_STAT : Nat := 0x4000c014
abbrev ENT_OUT (n : Nat) : Nat := 0x4000c020 + 0x4 * n
abbrev ENT_EVT_EN : Nat := 0x4000c040
abbrev AGM_CTRL : Nat := 0x4000d000
abbrev AGM_STATUS : Nat := 0x4000d004
abbrev AGM_MARGIN (n : Nat) : Nat := 0x4000d010 + 0x4 * n
abbrev AGM_MIN (n : Nat) : Nat := 0x4000d020 + 0x4 * n
abbrev AGM_REP_SEL : Nat := 0x4000d030
abbrev AGM_REP_DATA : Nat := 0x4000d034
abbrev AGM_CANARY (n : Nat) : Nat := 0x4000d040 + 0x4 * n
abbrev AGM_CANARY_LIM : Nat := 0x4000d050
abbrev AGM_VSENS : Nat := 0x4000d054
abbrev AGM_SETTLE : Nat := 0x4000d058
abbrev AGM_TEMP (n : Nat) : Nat := 0x4000d060 + 0x4 * n
abbrev AGM_VS (n : Nat) : Nat := 0x4000d080 + 0x4 * n
abbrev AGM_TEMP_HI : Nat := 0x4000d0a0
abbrev AGM_DERATE_CTRL : Nat := 0x4000d0b0
abbrev AGM_LEDGER_MARK : Nat := 0x4000d0c0
abbrev AGM_LEDGER_SEQ : Nat := 0x4000d0c4
abbrev AGM_EVT_EN : Nat := 0x4000d0d0
abbrev AGM_CAL_SEL : Nat := 0x4000de00
abbrev AGM_CAL_FACT : Nat := 0x4000de04
abbrev AGM_CAL_USER : Nat := 0x4000de08
abbrev AGM_CAL_EFF : Nat := 0x4000de0c
abbrev AGM_CAL_STATUS : Nat := 0x4000de10
abbrev CYC_CTRL : Nat := 0x4000e000
abbrev CYC_STATUS : Nat := 0x4000e004
abbrev CYC_PERIOD : Nat := 0x4000e008
abbrev CYC_SAMPLE_OFS : Nat := 0x4000e00c
abbrev CYC_IN_WINDOW : Nat := 0x4000e010
abbrev CYC_DISPATCH_OFS : Nat := 0x4000e014
abbrev CYC_OUT_DEADLINE : Nat := 0x4000e018
abbrev CYC_OUT_LAST : Nat := 0x4000e01c
abbrev CYC_APPLY_OFS : Nat := 0x4000e020
abbrev CYC_PHASE : Nat := 0x4000e024
abbrev CYC_ADM_CAP : Nat := 0x4000e028
abbrev CYC_CYCNUM : Nat := 0x4000e030
abbrev CYC_SYNC_ERR : Nat := 0x4000e034
abbrev CYC_SOC_TB_LO : Nat := 0x4000e038
abbrev CYC_SOC_TB_HI : Nat := 0x4000e03c
abbrev CYC_TRACK_LO : Nat := 0x4000e040
abbrev CYC_TRACK_HI : Nat := 0x4000e044
abbrev CYC_MODE_REQ : Nat := 0x4000e048
abbrev CYC_MODE_RESULT : Nat := 0x4000e04c
abbrev CYC_ADM_CAPC (n : Nat) : Nat := 0x4000e050 + 0x4 * n
abbrev CYC_ADM_USEDC (n : Nat) : Nat := 0x4000e060 + 0x4 * n
abbrev CYC_MISS_TOTAL : Nat := 0x4000e070
abbrev CYC_PMISS_SEL : Nat := 0x4000e074
abbrev CYC_PMISS_CNT : Nat := 0x4000e078
abbrev CYC_LSE_INVAL : Nat := 0x4000e07c
abbrev CYC_SPLIT_CNT : Nat := 0x4000e080
abbrev CYC_CNT_CLR : Nat := 0x4000e084
abbrev CYC_EVT_EN : Nat := 0x4000e088
abbrev CYC_CFG_BASE : Nat := 0x4000e100
abbrev CYC_CFG_CTRL : Nat := 0x4000e104
abbrev CYC_CFG_STATUS : Nat := 0x4000e108
abbrev CYC_CFG_SEQ : Nat := 0x4000e10c
abbrev CYC_CFG_ERR : Nat := 0x4000e110
abbrev CYC_CFG_SKIP : Nat := 0x4000e114
abbrev CYC_CFG_EVT_EN : Nat := 0x4000e118
abbrev DPR_CTRL : Nat := 0x4000f000
abbrev DPR_SPARES : Nat := 0x4000f004
abbrev DPR_WINDUP_LIMIT : Nat := 0x4000f008
abbrev DPR_REDISP_LO : Nat := 0x4000f00c
abbrev DPR_REDISP_HI : Nat := 0x4000f010
abbrev DPR_RETIRE : Nat := 0x4000f014
abbrev DPR_STATUS : Nat := 0x4000f018
abbrev DPR_RETIRED_LO : Nat := 0x4000f020
abbrev DPR_RETIRED_HI : Nat := 0x4000f024
abbrev DPR_SPARE_LO : Nat := 0x4000f028
abbrev DPR_SPARE_HI : Nat := 0x4000f02c
abbrev DPR_LAST_RETIRE : Nat := 0x4000f030
abbrev DPR_QSTAT (n : Nat) : Nat := 0x4000f040 + 0x4 * n
abbrev DPR_QUAR_LAST : Nat := 0x4000f050
abbrev DPR_QUAR_REL : Nat := 0x4000f054
abbrev DPR_QUAR_CNT : Nat := 0x4000f058
abbrev DPR_DISP_CNT : Nat := 0x4000f060
abbrev DPR_STEAL_CNT : Nat := 0x4000f064
abbrev DPR_STALE_DROP : Nat := 0x4000f068
abbrev DPR_OVERRUN_CNT : Nat := 0x4000f06c
abbrev DPR_RETIRE_CNT : Nat := 0x4000f070
abbrev DPR_REDISP_CNT : Nat := 0x4000f074
abbrev DPR_QOVF_CNT : Nat := 0x4000f078
abbrev DPR_BG_PROMO : Nat := 0x4000f07c
abbrev DPR_BG_FAIL : Nat := 0x4000f080
abbrev CMU_LATE_DROP : Nat := 0x4000f084
abbrev CMU_COMMIT_CNT : Nat := 0x4000f088
abbrev CMU_HOLD_CNT : Nat := 0x4000f08c
abbrev DPR_CNT_CLR : Nat := 0x4000f090
abbrev DPR_EVT_EN : Nat := 0x4000f094
abbrev CMU_GSEL : Nat := 0x4000f0a0
abbrev CMU_GSTAT : Nat := 0x4000f0a4
abbrev DPR_PLAN_SRC : Nat := 0x4000f0b0
abbrev DPR_PLAN_CTRL : Nat := 0x4000f0b4
abbrev DPR_PLAN_STATUS : Nat := 0x4000f0b8
abbrev DPR_PLAN_ERR : Nat := 0x4000f0bc
abbrev DPR_PLAN_ID : Nat := 0x4000f0c0
abbrev DPR_PLAN_VER : Nat := 0x4000f0c4
abbrev DPR_DEG_STATUS : Nat := 0x4000f0c8
abbrev DPR_SNAP_STATUS : Nat := 0x4000f0cc
abbrev DPR_LEWIN_SEL : Nat := 0x4000ff00
abbrev DPR_LEWIN_DATA : Nat := 0x4000ff04
abbrev DPR_CSM_ECC (n : Nat) : Nat := 0x4000ff10 + 0x4 * n
abbrev DPR_CSM_UEADDR (n : Nat) : Nat := 0x4000ff20 + 0x4 * n
abbrev DPR_CSM_ECC_CLR : Nat := 0x4000ff30
abbrev SFL_CTRL (n : Nat) : Nat := 0x40010000 + 0x1000 * n
abbrev SFL_STATUS (n : Nat) : Nat := 0x40010004 + 0x1000 * n
abbrev SFL_RETRY_T (n : Nat) : Nat := 0x40010008 + 0x1000 * n
abbrev SFL_DIAG_POLL (n : Nat) : Nat := 0x4001000c + 0x1000 * n
abbrev SFL_RUN_MAP (n : Nat) : Nat := 0x40010010 + 0x1000 * n
abbrev SFL_LOST_MAP (n : Nat) : Nat := 0x40010014 + 0x1000 * n
abbrev SFL_HOLD_MAP (n : Nat) : Nat := 0x40010018 + 0x1000 * n
abbrev SFL_FAULT_MAP (n : Nat) : Nat := 0x4001001c + 0x1000 * n
abbrev SFL_STSEL (n : Nat) : Nat := 0x40010020 + 0x1000 * n
abbrev SFL_STINFO (n : Nat) : Nat := 0x40010024 + 0x1000 * n
abbrev SFL_STDELAY (n : Nat) : Nat := 0x40010028 + 0x1000 * n
abbrev SFL_RESUME (n : Nat) : Nat := 0x4001002c + 0x1000 * n
abbrev SFL_ACK_PEND (n : Nat) : Nat := 0x40010030 + 0x1000 * n
abbrev SFL_RX_GOOD (n : Nat) : Nat := 0x40010040 + 0x1000 * n
abbrev SFL_RX_CRC (n : Nat) : Nat := 0x40010044 + 0x1000 * n
abbrev SFL_RX_CODE (n : Nat) : Nat := 0x40010048 + 0x1000 * n
abbrev SFL_RX_DISCARD (n : Nat) : Nat := 0x4001004c + 0x1000 * n
abbrev SFL_LATE_FRAME (n : Nat) : Nat := 0x40010050 + 0x1000 * n
abbrev SFL_LOSS_CNT (n : Nat) : Nat := 0x40010054 + 0x1000 * n
abbrev SFL_READMIT_CNT (n : Nat) : Nat := 0x40010058 + 0x1000 * n
abbrev SFL_HOLD_CNT (n : Nat) : Nat := 0x4001005c + 0x1000 * n
abbrev SFL_ACY_DONE (n : Nat) : Nat := 0x40010060 + 0x1000 * n
abbrev SFL_CNT_CLR (n : Nat) : Nat := 0x4001007c + 0x1000 * n
abbrev SFL_ACY_CFG (n : Nat) : Nat := 0x40010080 + 0x1000 * n
abbrev SFL_ACY_SUB (n : Nat) : Nat := 0x40010084 + 0x1000 * n
abbrev SFL_ACY_CANCEL (n : Nat) : Nat := 0x40010088 + 0x1000 * n
abbrev SFL_ACY_CRES (n : Nat) : Nat := 0x4001008c + 0x1000 * n
abbrev SFL_ACY_QSTAT (n : Nat) : Nat := 0x40010090 + 0x1000 * n
abbrev SFL_PAT_CTRL (n : Nat) : Nat := 0x400100a0 + 0x1000 * n
abbrev SFL_PAT_USER (n : Nat) : Nat := 0x400100a4 + 0x1000 * n
abbrev SFL_PAT_STATUS (n : Nat) : Nat := 0x400100a8 + 0x1000 * n
abbrev SFL_PAT_ERR (n : Nat) : Nat := 0x400100ac + 0x1000 * n
abbrev SFL_PAT_BITS (n : Nat) : Nat := 0x400100b0 + 0x1000 * n
abbrev SFL_EVT_EN (n : Nat) : Nat := 0x400100c0 + 0x1000 * n
abbrev TWL_CTRL : Nat := 0x40030000
abbrev TWL_STATUS : Nat := 0x40030004
abbrev TWL_TAKE_CFG : Nat := 0x40030008
abbrev TWL_DELAY : Nat := 0x4003000c
abbrev TWL_LAST_TAKE : Nat := 0x40030010
abbrev TWL_SET_STAT : Nat := 0x40030014
abbrev TWL_LSEL : Nat := 0x40030018
abbrev TWL_LDATA : Nat := 0x4003001c
abbrev TWL_RXBASE : Nat := 0x40030020
abbrev TWL_HB_MISS_CNT : Nat := 0x40030030
abbrev TWL_SET_CNT : Nat := 0x40030034
abbrev TWL_SET_SKIP : Nat := 0x40030038
abbrev TWL_CRC_ERR : Nat := 0x4003003c
abbrev TWL_CMD_IGN : Nat := 0x40030040
abbrev TWL_REFUSE_CNT : Nat := 0x40030044
abbrev TWL_CNT_CLR : Nat := 0x40030050
abbrev TWL_EVT_EN : Nat := 0x40030054
abbrev FPC_CTRL (n : Nat) : Nat := 0x40031000 + 0x20 * n
abbrev FPC_ILIM (n : Nat) : Nat := 0x40031004 + 0x20 * n
abbrev FPC_TLIM (n : Nat) : Nat := 0x40031008 + 0x20 * n
abbrev FPC_STATUS (n : Nat) : Nat := 0x4003100c + 0x20 * n
abbrev FPC_SENSE (n : Nat) : Nat := 0x40031010 + 0x20 * n
abbrev FPC_SETTLE : Nat := 0x400310c0
abbrev FPC_EVT_EN : Nat := 0x400310c4
abbrev HIF_ID : Nat := 0x40032000
abbrev HIF_STATUS : Nat := 0x40032004
abbrev HIF_STG_CFG : Nat := 0x40032008
abbrev HIF_EVT_SHARE : Nat := 0x4003200c
abbrev HIF_RING_ERR : Nat := 0x40032010
abbrev HIF_DEV_EVT : Nat := 0x40032014
abbrev HIF_DEV_EVT_EN : Nat := 0x40032018
abbrev HIF_FW_MSG : Nat := 0x4003201c
abbrev HIF_BADACC : Nat := 0x40032020
abbrev HIF_CPL_CNT : Nat := 0x40032024
abbrev HIF_WF_CNT : Nat := 0x40032028
abbrev HIF_EVT_DROP : Nat := 0x4003202c
abbrev HIF_CTRL : Nat := 0x40032800
abbrev HIF_SSID : Nat := 0x40032804
abbrev HIF_IND_ADDR : Nat := 0x40032808
abbrev HIF_IND_DATA : Nat := 0x4003280c
abbrev HIF_FWQ_BASE : Nat := 0x40032810
abbrev HIF_FWQ_POP : Nat := 0x40032814
abbrev HIF_FWQ_STAT : Nat := 0x40032818
abbrev HIF_FW_CPL : Nat := 0x4003281c
abbrev HIF_FW_TMO : Nat := 0x40032820
abbrev HIF_HOST_MSG : Nat := 0x40032824
abbrev HIF_LINK : Nat := 0x40032828
abbrev DBG_STATUS : Nat := 0x40033000
abbrev DBG_CTRL : Nat := 0x40033004
abbrev DBG_STR_SW : Nat := 0x40033008
abbrev DBG_HALT_STAT : Nat := 0x4003300c
abbrev DBG_STR_OUT (n : Nat) : Nat := 0x40033020 + 0x4 * n
abbrev DBG_CMP_SEL : Nat := 0x40033040
abbrev DBG_CMP_CTRL : Nat := 0x40033044
abbrev DBG_CMP_VAL : Nat := 0x40033048
abbrev DBG_CMP_MASK : Nat := 0x4003304c
abbrev DBG_EVT_EN : Nat := 0x40033050
abbrev TRC_CTRL : Nat := 0x40034000
abbrev TRC_SRC_EN : Nat := 0x40034004
abbrev TRC_FLOW : Nat := 0x40034008
abbrev TRC_WPTR : Nat := 0x4003400c
abbrev TRC_STAT : Nat := 0x40034010
abbrev TRC_SW : Nat := 0x40034014
abbrev UART_DATA (n : Nat) : Nat := 0x40035000 + 0x400 * n
abbrev UART_CFG (n : Nat) : Nat := 0x40035004 + 0x400 * n
abbrev UART_STAT (n : Nat) : Nat := 0x40035008 + 0x400 * n
abbrev UART_IEN (n : Nat) : Nat := 0x4003500c + 0x400 * n
abbrev SPI_DATA (n : Nat) : Nat := 0x40036000 + 0x100 * n
abbrev SPI_CFG (n : Nat) : Nat := 0x40036004 + 0x100 * n
abbrev SPI_STAT (n : Nat) : Nat := 0x40036008 + 0x100 * n
abbrev SPI_IEN (n : Nat) : Nat := 0x4003600c + 0x100 * n
abbrev I2C_CMD (n : Nat) : Nat := 0x40036200 + 0x100 * n
abbrev I2C_RX (n : Nat) : Nat := 0x40036204 + 0x100 * n
abbrev I2C_CFG (n : Nat) : Nat := 0x40036208 + 0x100 * n
abbrev I2C_STAT (n : Nat) : Nat := 0x4003620c + 0x100 * n
abbrev I2C_IEN (n : Nat) : Nat := 0x40036210 + 0x100 * n
abbrev TMR_CTRL (n : Nat) : Nat := 0x40037000 + 0x20 * n
abbrev TMR_CNT (n : Nat) : Nat := 0x40037004 + 0x20 * n
abbrev TMR_CMP (n : Nat) : Nat := 0x40037008 + 0x20 * n
abbrev TMR_CAP_LO (n : Nat) : Nat := 0x4003700c + 0x20 * n
abbrev TMR_CAP_HI (n : Nat) : Nat := 0x40037010 + 0x20 * n
abbrev TMR_STAT (n : Nat) : Nat := 0x40037014 + 0x20 * n
abbrev WDT_SYS_CTRL : Nat := 0x40037200
abbrev WDT_SYS_KICK : Nat := 0x40037204
abbrev WDT_SYS_STAT : Nat := 0x40037208
abbrev WDT_SP_CTRL : Nat := 0x40037300
abbrev WDT_SP_KICK : Nat := 0x40037304
abbrev WDT_SP_STAT : Nat := 0x40037308
abbrev SPM_START_OK : Nat := 0x40038000
abbrev SPM_BOOT_STAT : Nat := 0x40038100
abbrev SPM_BOOT_ERR : Nat := 0x40038104
abbrev SPM_IMG_VER : Nat := 0x40038108
abbrev SPM_MINVER : Nat := 0x4003810c
abbrev SPM_CONFIRM_LEFT : Nat := 0x40038110
abbrev SPM_UID_LO : Nat := 0x40038118
abbrev SPM_UID_HI : Nat := 0x4003811c
abbrev SPM_FUSE : Nat := 0x40038120
abbrev HIF_RCTRL (n : Nat) : Nat := 0x100001000 + 0x80 * n
abbrev HIF_RBASE_LO (n k : Nat) : Nat := 0x100001008 + 0x80 * n + 0x10 * k
abbrev HIF_RBASE_HI (n k : Nat) : Nat := 0x10000100c + 0x80 * n + 0x10 * k
abbrev HIF_RSIZE (n k : Nat) : Nat := 0x100001010 + 0x80 * n + 0x10 * k
abbrev HIF_RIDX (n k : Nat) : Nat := 0x100001014 + 0x80 * n + 0x10 * k
abbrev HIF_MOD_C (n : Nat) : Nat := 0x100001068 + 0x80 * n
abbrev HIF_MOD_E (n : Nat) : Nat := 0x10000106c + 0x80 * n
abbrev HIF_EVMASK (n : Nat) : Nat := 0x100001070 + 0x80 * n
abbrev HIF_PSTAT (n : Nat) : Nat := 0x100001074 + 0x80 * n
abbrev HIF_WBASE_LO (n k : Nat) : Nat := 0x100004000 + 0x100 * n + 0x10 * k
abbrev HIF_WBASE_HI (n k : Nat) : Nat := 0x100004004 + 0x100 * n + 0x10 * k
abbrev HIF_WCTRL (n k : Nat) : Nat := 0x100004008 + 0x100 * n + 0x10 * k

end R

namespace F

abbrev SYS_ID_GRADE : Fld := ⟨R.SYS_ID, 16, 4⟩
abbrev SYS_ID_PART : Fld := ⟨R.SYS_ID, 0, 16⟩
abbrev SYS_REV_MAJOR : Fld := ⟨R.SYS_REV, 8, 8⟩
abbrev SYS_REV_MINOR : Fld := ⟨R.SYS_REV, 0, 8⟩
abbrev SYS_CPUNUM_NUM : Fld := ⟨R.SYS_CPUNUM, 0, 8⟩
abbrev SYS_CAP_PARTS : Fld := ⟨R.SYS_CAP, 16, 8⟩
abbrev SYS_CAP_LINKS : Fld := ⟨R.SYS_CAP, 8, 8⟩
abbrev SYS_CAP_ENGINES : Fld := ⟨R.SYS_CAP, 0, 8⟩
abbrev SYS_BERR_ADDR_ADDR : Fld := ⟨R.SYS_BERR_ADDR, 0, 32⟩
abbrev SYS_BERR_INFO_OVF : Fld := ⟨R.SYS_BERR_INFO, 18, 1⟩
abbrev SYS_BERR_INFO_VALID : Fld := ⟨R.SYS_BERR_INFO, 17, 1⟩
abbrev SYS_BERR_INFO_WRITE : Fld := ⟨R.SYS_BERR_INFO, 16, 1⟩
abbrev SYS_BERR_INFO_PART : Fld := ⟨R.SYS_BERR_INFO, 8, 6⟩
abbrev SYS_BERR_INFO_INIT : Fld := ⟨R.SYS_BERR_INFO, 0, 8⟩
abbrev SYS_VID_VID : Fld := ⟨R.SYS_VID, 0, 16⟩
abbrev RST_CAUSE_SRC : Fld := ⟨R.RST_CAUSE, 0, 12⟩
abbrev RST_LAST_SCOPE : Fld := ⟨R.RST_LAST, 24, 2⟩
abbrev RST_LAST_CAUSE : Fld := ⟨R.RST_LAST, 0, 12⟩
abbrev RST_CTRL_KEY : Fld := ⟨R.RST_CTRL, 16, 16⟩
abbrev RST_CTRL_SCOPE : Fld := ⟨R.RST_CTRL, 0, 2⟩
abbrev RST_CFG_SAVE : Fld := ⟨R.RST_CFG, 0, 1⟩
abbrev RST_BLK_HIF : Fld := ⟨R.RST_BLK, 7, 1⟩
abbrev RST_BLK_BMV : Fld := ⟨R.RST_BLK, 6, 1⟩
abbrev RST_BLK_FPC : Fld := ⟨R.RST_BLK, 5, 1⟩
abbrev RST_BLK_TWL : Fld := ⟨R.RST_BLK, 4, 1⟩
abbrev RST_BLK_CL : Fld := ⟨R.RST_BLK, 0, 4⟩
abbrev RST_BLK_SFL_SFL : Fld := ⟨R.RST_BLK_SFL, 0, 24⟩
abbrev RST_BLK_STAT_BUSY : Fld := ⟨R.RST_BLK_STAT, 31, 1⟩
abbrev RST_BLK_STAT_HELD : Fld := ⟨R.RST_BLK_STAT, 0, 8⟩
abbrev RST_SEQ_STEP : Fld := ⟨R.RST_SEQ, 0, 3⟩
abbrev RST_BLK_SFL_STAT_HELD : Fld := ⟨R.RST_BLK_SFL_STAT, 0, 24⟩
abbrev CKG_STATUS_XSTB : Fld := ⟨R.CKG_STATUS, 24, 2⟩
abbrev CKG_STATUS_CL_STABLE : Fld := ⟨R.CKG_STATUS, 8, 1⟩
abbrev CKG_STATUS_MC_PATH : Fld := ⟨R.CKG_STATUS, 7, 1⟩
abbrev CKG_STATUS_CL_PATH : Fld := ⟨R.CKG_STATUS, 6, 1⟩
abbrev CKG_STATUS_REF_IOSC : Fld := ⟨R.CKG_STATUS, 5, 1⟩
abbrev CKG_STATUS_LK_LOCK : Fld := ⟨R.CKG_STATUS, 4, 1⟩
abbrev CKG_STATUS_MC_LOCK : Fld := ⟨R.CKG_STATUS, 3, 1⟩
abbrev CKG_STATUS_CL_LOCK : Fld := ⟨R.CKG_STATUS, 2, 1⟩
abbrev CKG_STATUS_XTAL_GOOD : Fld := ⟨R.CKG_STATUS, 0, 1⟩
abbrev CKG_CLFREQ_STEP (n : Nat) : Fld := ⟨(R.CKG_CLFREQ n), 0, 4⟩
abbrev CKG_CL_CTRL_PENDING : Fld := ⟨R.CKG_CL_CTRL, 2, 1⟩
abbrev CKG_CL_CTRL_REFUSED : Fld := ⟨R.CKG_CL_CTRL, 1, 1⟩
abbrev CKG_CL_CTRL_RESUME : Fld := ⟨R.CKG_CL_CTRL, 0, 1⟩
abbrev CKG_MON_CTRL_PROMOTE : Fld := ⟨R.CKG_MON_CTRL, 8, 4⟩
abbrev CKG_MON_CTRL_EN : Fld := ⟨R.CKG_MON_CTRL, 0, 7⟩
abbrev CKG_MON_STAT_LIVE : Fld := ⟨R.CKG_MON_STAT, 16, 7⟩
abbrev CKG_MON_STAT_FAIL : Fld := ⟨R.CKG_MON_STAT, 0, 7⟩
abbrev CKG_TRIM_CTRL_SRC : Fld := ⟨R.CKG_TRIM_CTRL, 0, 2⟩
abbrev CKG_TRIM_REF_US : Fld := ⟨R.CKG_TRIM_REF, 0, 17⟩
abbrev CKG_TRIM_STAT_REJECT : Fld := ⟨R.CKG_TRIM_STAT, 24, 8⟩
abbrev CKG_TRIM_STAT_TRIMMED : Fld := ⟨R.CKG_TRIM_STAT, 16, 1⟩
abbrev CKG_TRIM_STAT_CODE : Fld := ⟨R.CKG_TRIM_STAT, 0, 10⟩
abbrev CKG_TB_CORR_PPB : Fld := ⟨R.CKG_TB_CORR, 0, 32⟩
abbrev PMU_STATE_LIGHT : Fld := ⟨R.PMU_STATE, 0, 1⟩
abbrev PMU_DOM_CTRL_LOCK : Fld := ⟨R.PMU_DOM_CTRL, 8, 8⟩
abbrev PMU_DOM_CTRL_ON : Fld := ⟨R.PMU_DOM_CTRL, 0, 8⟩
abbrev PMU_DOM_STAT_REFUSED : Fld := ⟨R.PMU_DOM_STAT, 24, 8⟩
abbrev PMU_DOM_STAT_WOKEN : Fld := ⟨R.PMU_DOM_STAT, 16, 8⟩
abbrev PMU_DOM_STAT_BUSY : Fld := ⟨R.PMU_DOM_STAT, 8, 8⟩
abbrev PMU_DOM_STAT_PWR : Fld := ⟨R.PMU_DOM_STAT, 0, 8⟩
abbrev PMU_STBY_KEY : Fld := ⟨R.PMU_STBY, 16, 16⟩
abbrev PMU_STBY_XTAL_ON : Fld := ⟨R.PMU_STBY, 1, 1⟩
abbrev PMU_STBY_GO : Fld := ⟨R.PMU_STBY, 0, 1⟩
abbrev PMU_STBY_STAT_ABORTED : Fld := ⟨R.PMU_STBY_STAT, 31, 1⟩
abbrev PMU_STBY_STAT_REFUSED : Fld := ⟨R.PMU_STBY_STAT, 30, 1⟩
abbrev PMU_STBY_STAT_RCODE : Fld := ⟨R.PMU_STBY_STAT, 0, 4⟩
abbrev PMU_WAKE_SRC_VALID : Fld := ⟨R.PMU_WAKE_SRC, 31, 1⟩
abbrev PMU_WAKE_SRC_FROM : Fld := ⟨R.PMU_WAKE_SRC, 30, 1⟩
abbrev PMU_WAKE_SRC_SRC : Fld := ⟨R.PMU_WAKE_SRC, 0, 5⟩
abbrev PMU_WAKE_PEND_SRC : Fld := ⟨R.PMU_WAKE_PEND, 0, 32⟩
abbrev PMU_AVS_CFG_EN : Fld := ⟨R.PMU_AVS_CFG, 31, 1⟩
abbrev PMU_AVS_CFG_OWNER : Fld := ⟨R.PMU_AVS_CFG, 30, 1⟩
abbrev PMU_AVS_CFG_PEC : Fld := ⟨R.PMU_AVS_CFG, 29, 1⟩
abbrev PMU_AVS_CFG_FAST : Fld := ⟨R.PMU_AVS_CFG, 28, 1⟩
abbrev PMU_AVS_CFG_EXP : Fld := ⟨R.PMU_AVS_CFG, 16, 5⟩
abbrev PMU_AVS_CFG_ADDR : Fld := ⟨R.PMU_AVS_CFG, 8, 7⟩
abbrev PMU_AVS_CFG_SETTLE : Fld := ⟨R.PMU_AVS_CFG, 0, 8⟩
abbrev PMU_AVS_LIM_LOCK : Fld := ⟨R.PMU_AVS_LIM, 31, 1⟩
abbrev PMU_AVS_LIM_MAX : Fld := ⟨R.PMU_AVS_LIM, 16, 10⟩
abbrev PMU_AVS_LIM_MIN : Fld := ⟨R.PMU_AVS_LIM, 0, 10⟩
abbrev PMU_AVS_TGT_MV : Fld := ⟨R.PMU_AVS_TGT, 0, 10⟩
abbrev PMU_AVS_STAT_BUSY : Fld := ⟨R.PMU_AVS_STAT, 31, 1⟩
abbrev PMU_AVS_STAT_ERR : Fld := ⟨R.PMU_AVS_STAT, 30, 1⟩
abbrev PMU_AVS_STAT_IGN : Fld := ⟨R.PMU_AVS_STAT, 29, 1⟩
abbrev PMU_AVS_STAT_ALERT : Fld := ⟨R.PMU_AVS_STAT, 28, 1⟩
abbrev PMU_AVS_STAT_ECODE : Fld := ⟨R.PMU_AVS_STAT, 24, 4⟩
abbrev PMU_AVS_STAT_MV : Fld := ⟨R.PMU_AVS_STAT, 0, 10⟩
abbrev PMU_AVS_VOUT_VAL : Fld := ⟨R.PMU_AVS_VOUT, 0, 16⟩
abbrev PMU_AVS_IOUT_VAL : Fld := ⟨R.PMU_AVS_IOUT, 0, 16⟩
abbrev PMU_AVS_SW_VAL : Fld := ⟨R.PMU_AVS_SW, 0, 16⟩
abbrev PMU_EVT_EN_EN : Fld := ⟨R.PMU_EVT_EN, 0, 5⟩
abbrev EVC_CLAIM_VALID : Fld := ⟨R.EVC_CLAIM, 31, 1⟩
abbrev EVC_CLAIM_CNT : Fld := ⟨R.EVC_CLAIM, 24, 4⟩
abbrev EVC_CLAIM_PRIO : Fld := ⟨R.EVC_CLAIM, 16, 2⟩
abbrev EVC_CLAIM_SRC : Fld := ⟨R.EVC_CLAIM, 0, 8⟩
abbrev EVC_EOI_SRC : Fld := ⟨R.EVC_EOI, 0, 8⟩
abbrev EVC_TAKE_GO : Fld := ⟨R.EVC_TAKE, 31, 1⟩
abbrev EVC_TAKE_SRC : Fld := ⟨R.EVC_TAKE, 0, 8⟩
abbrev EVC_TAKE_RES_PEND : Fld := ⟨R.EVC_TAKE_RES, 8, 1⟩
abbrev EVC_TAKE_RES_CNT : Fld := ⟨R.EVC_TAKE_RES, 0, 4⟩
abbrev EVC_SPUR_CNT_COUNT : Fld := ⟨R.EVC_SPUR_CNT, 0, 32⟩
abbrev EVC_ACT_SRC : Fld := ⟨R.EVC_ACT, 0, 32⟩
abbrev EVC_ACT_V_V : Fld := ⟨R.EVC_ACT_V, 0, 4⟩
abbrev EVC_PEND_PEND (n : Nat) : Fld := ⟨(R.EVC_PEND n), 0, 32⟩
abbrev EVC_MASK_MASK (n : Nat) : Fld := ⟨(R.EVC_MASK n), 0, 32⟩
abbrev EVC_STORM_STORM (n : Nat) : Fld := ⟨(R.EVC_STORM n), 0, 32⟩
abbrev EVC_CNT_CNT (n : Nat) : Fld := ⟨(R.EVC_CNT n), 0, 32⟩
abbrev EVC_CFG_FILT (n : Nat) : Fld := ⟨(R.EVC_CFG n), 8, 8⟩
abbrev EVC_CFG_EDGE (n : Nat) : Fld := ⟨(R.EVC_CFG n), 4, 2⟩
abbrev EVC_CFG_STORM (n : Nat) : Fld := ⟨(R.EVC_CFG n), 3, 1⟩
abbrev EVC_CFG_PRIO (n : Nat) : Fld := ⟨(R.EVC_CFG n), 0, 2⟩
abbrev MC_MGS_ECC_UNCORR : Fld := ⟨R.MC_MGS_ECC, 16, 16⟩
abbrev MC_MGS_ECC_CORR : Fld := ⟨R.MC_MGS_ECC, 0, 16⟩
abbrev MC_MGS_UEADDR_ADDR : Fld := ⟨R.MC_MGS_UEADDR, 0, 32⟩
abbrev BKD_STATUS_LOST : Fld := ⟨R.BKD_STATUS, 31, 1⟩
abbrev BKD_STATUS_RTC_VALID : Fld := ⟨R.BKD_STATUS, 30, 1⟩
abbrev BKD_STATUS_REQ : Fld := ⟨R.BKD_STATUS, 29, 1⟩
abbrev BKD_STATUS_EVQ : Fld := ⟨R.BKD_STATUS, 8, 4⟩
abbrev BKD_STATUS_EVQ_OVF : Fld := ⟨R.BKD_STATUS, 0, 8⟩
abbrev BKD_RTC_SEC_SEC : Fld := ⟨R.BKD_RTC_SEC, 0, 32⟩
abbrev BKD_RTC_SUB_SUB : Fld := ⟨R.BKD_RTC_SUB, 0, 15⟩
abbrev BKD_ALM_SEC_SEC : Fld := ⟨R.BKD_ALM_SEC, 0, 32⟩
abbrev BKD_CTRL_REQ_EN : Fld := ⟨R.BKD_CTRL, 8, 5⟩
abbrev BKD_CTRL_REQ_CLR : Fld := ⟨R.BKD_CTRL, 1, 1⟩
abbrev BKD_CTRL_ALM_EN : Fld := ⟨R.BKD_CTRL, 0, 1⟩
abbrev BKD_WAKE_CFG_FILT : Fld := ⟨R.BKD_WAKE_CFG, 8, 8⟩
abbrev BKD_WAKE_CFG_EDGE : Fld := ⟨R.BKD_WAKE_CFG, 0, 8⟩
abbrev BKD_EVQ_LO_ENTRY : Fld := ⟨R.BKD_EVQ_LO, 0, 32⟩
abbrev BKD_EVQ_HI_ENTRY : Fld := ⟨R.BKD_EVQ_HI, 0, 32⟩
abbrev BKD_WAKE_EN_EN : Fld := ⟨R.BKD_WAKE_EN, 0, 32⟩
abbrev GPIO_OUT_OUT (n : Nat) : Fld := ⟨(R.GPIO_OUT n), 0, 16⟩
abbrev GPIO_OE_OE (n : Nat) : Fld := ⟨(R.GPIO_OE n), 0, 16⟩
abbrev GPIO_IN_IN (n : Nat) : Fld := ⟨(R.GPIO_IN n), 0, 16⟩
abbrev GPIO_PULL_PULL (n : Nat) : Fld := ⟨(R.GPIO_PULL n), 0, 32⟩
abbrev GPIO_ODRAIN_OD (n : Nat) : Fld := ⟨(R.GPIO_ODRAIN n), 0, 16⟩
abbrev GPIO_MUX_LO_MUX (n : Nat) : Fld := ⟨(R.GPIO_MUX_LO n), 0, 32⟩
abbrev GPIO_MUX_HI_MUX (n : Nat) : Fld := ⟨(R.GPIO_MUX_HI n), 0, 32⟩
abbrev GPIO_IEDGE_EDGE (n : Nat) : Fld := ⟨(R.GPIO_IEDGE n), 0, 32⟩
abbrev GPIO_ISTAT_ST (n : Nat) : Fld := ⟨(R.GPIO_ISTAT n), 0, 16⟩
abbrev GPIO_WAKE_CFG_FILT : Fld := ⟨R.GPIO_WAKE_CFG, 16, 8⟩
abbrev GPIO_WAKE_CFG_EDGE : Fld := ⟨R.GPIO_WAKE_CFG, 0, 16⟩
abbrev GPIO_HOLD_HELD : Fld := ⟨R.GPIO_HOLD, 1, 1⟩
abbrev GPIO_HOLD_RELEASE : Fld := ⟨R.GPIO_HOLD, 0, 1⟩
abbrev CVU_CFG_BUSY (n : Nat) : Fld := ⟨(R.CVU_CFG n), 31, 1⟩
abbrev CVU_CFG_FAIL (n : Nat) : Fld := ⟨(R.CVU_CFG n), 30, 1⟩
abbrev CVU_CFG_IGN (n : Nat) : Fld := ⟨(R.CVU_CFG n), 29, 1⟩
abbrev CVU_CFG_RESTART (n : Nat) : Fld := ⟨(R.CVU_CFG n), 4, 1⟩
abbrev CVU_CFG_OWNINIT (n : Nat) : Fld := ⟨(R.CVU_CFG n), 3, 1⟩
abbrev CVU_CFG_POLY (n : Nat) : Fld := ⟨(R.CVU_CFG n), 1, 2⟩
abbrev CVU_CFG_CLASS (n : Nat) : Fld := ⟨(R.CVU_CFG n), 0, 1⟩
abbrev CVU_INIT_INIT (n : Nat) : Fld := ⟨(R.CVU_INIT n), 0, 32⟩
abbrev CVU_FOLD_CONTEXT (n : Nat) : Fld := ⟨(R.CVU_FOLD n), 24, 8⟩
abbrev CVU_FOLD_ADDRESS (n : Nat) : Fld := ⟨(R.CVU_FOLD n), 16, 8⟩
abbrev CVU_FOLD_SEQ (n : Nat) : Fld := ⟨(R.CVU_FOLD n), 0, 16⟩
abbrev CVU_DATA_DATA (n : Nat) : Fld := ⟨(R.CVU_DATA n), 0, 32⟩
abbrev CVU_RES_RES (n : Nat) : Fld := ⟨(R.CVU_RES n), 0, 32⟩
abbrev MSE_START_ADDR : Fld := ⟨R.MSE_START, 0, 32⟩
abbrev MSE_LEN_LEN : Fld := ⟨R.MSE_LEN, 0, 27⟩
abbrev MSE_EXPECT_VAL : Fld := ⟨R.MSE_EXPECT, 0, 32⟩
abbrev MSE_CTRL_COMPARE : Fld := ⟨R.MSE_CTRL, 1, 1⟩
abbrev MSE_CTRL_GO : Fld := ⟨R.MSE_CTRL, 0, 1⟩
abbrev MSE_STATUS_BUSY : Fld := ⟨R.MSE_STATUS, 31, 1⟩
abbrev MSE_STATUS_DONE : Fld := ⟨R.MSE_STATUS, 30, 1⟩
abbrev MSE_STATUS_STATUS : Fld := ⟨R.MSE_STATUS, 0, 8⟩
abbrev MSE_RESULT_CRC : Fld := ⟨R.MSE_RESULT, 0, 32⟩
abbrev MSE_SCRUB_CFG_EN : Fld := ⟨R.MSE_SCRUB_CFG, 31, 1⟩
abbrev MSE_SCRUB_CFG_INTERVAL : Fld := ⟨R.MSE_SCRUB_CFG, 0, 10⟩
abbrev MSE_SCRUB_POS_LE : Fld := ⟨R.MSE_SCRUB_POS, 24, 6⟩
abbrev MSE_SCRUB_POS_PROG : Fld := ⟨R.MSE_SCRUB_POS, 8, 8⟩
abbrev MSE_SCRUB_LAST_VALID : Fld := ⟨R.MSE_SCRUB_LAST, 31, 1⟩
abbrev MSE_SCRUB_LAST_KIND : Fld := ⟨R.MSE_SCRUB_LAST, 24, 2⟩
abbrev MSE_SCRUB_LAST_LE : Fld := ⟨R.MSE_SCRUB_LAST, 16, 6⟩
abbrev MSE_SCRUB_LAST_PROG : Fld := ⟨R.MSE_SCRUB_LAST, 0, 8⟩
abbrev MSE_SCRUB_PASS_COUNT : Fld := ⟨R.MSE_SCRUB_PASS, 0, 32⟩
abbrev MSE_SCRUB_ERR_COUNT : Fld := ⟨R.MSE_SCRUB_ERR, 0, 32⟩
abbrev MSE_EVT_EN_EN : Fld := ⟨R.MSE_EVT_EN, 0, 2⟩
abbrev BMV_CTRL_HALT_CLR : Fld := ⟨R.BMV_CTRL, 0, 1⟩
abbrev BMV_STATUS_HALT : Fld := ⟨R.BMV_STATUS, 31, 1⟩
abbrev BMV_STATUS_ACTIVE : Fld := ⟨R.BMV_STATUS, 0, 16⟩
abbrev BMV_HALT_ADDR_ADDR : Fld := ⟨R.BMV_HALT_ADDR, 0, 32⟩
abbrev BMV_HALT_INFO_VALID : Fld := ⟨R.BMV_HALT_INFO, 31, 1⟩
abbrev BMV_HALT_INFO_OVF : Fld := ⟨R.BMV_HALT_INFO, 30, 1⟩
abbrev BMV_HALT_INFO_WRITE : Fld := ⟨R.BMV_HALT_INFO, 29, 1⟩
abbrev BMV_HALT_INFO_CH_VALID : Fld := ⟨R.BMV_HALT_INFO, 28, 1⟩
abbrev BMV_HALT_INFO_CH : Fld := ⟨R.BMV_HALT_INFO, 0, 4⟩
abbrev BMV_END_END : Fld := ⟨R.BMV_END, 0, 16⟩
abbrev BMV_EVT_EN_EN : Fld := ⟨R.BMV_EVT_EN, 0, 2⟩
abbrev BMV_CH_CFG_PART (n : Nat) : Fld := ⟨(R.BMV_CH_CFG n), 0, 6⟩
abbrev BMV_CH_HEAD_ADDR (n : Nat) : Fld := ⟨(R.BMV_CH_HEAD n), 0, 32⟩
abbrev BMV_CH_CTRL_ABORT (n : Nat) : Fld := ⟨(R.BMV_CH_CTRL n), 1, 1⟩
abbrev BMV_CH_CTRL_GO (n : Nat) : Fld := ⟨(R.BMV_CH_CTRL n), 0, 1⟩
abbrev BMV_CH_STAT_REFUSED (n : Nat) : Fld := ⟨(R.BMV_CH_STAT n), 31, 1⟩
abbrev BMV_CH_STAT_STATUS (n : Nat) : Fld := ⟨(R.BMV_CH_STAT n), 16, 8⟩
abbrev BMV_CH_STAT_ELEM (n : Nat) : Fld := ⟨(R.BMV_CH_STAT n), 8, 5⟩
abbrev BMV_CH_STAT_STATE (n : Nat) : Fld := ⟨(R.BMV_CH_STAT n), 0, 2⟩
abbrev BMV_CH_DESC_VAL (n : Nat) : Fld := ⟨(R.BMV_CH_DESC n), 0, 32⟩
abbrev BMV_CH_RESID_VAL (n : Nat) : Fld := ⟨(R.BMV_CH_RESID n), 0, 32⟩
abbrev BMV_CH_EOFS_VAL (n : Nat) : Fld := ⟨(R.BMV_CH_EOFS n), 0, 32⟩
abbrev BMV_CH_CNT_VAL (n : Nat) : Fld := ⟨(R.BMV_CH_CNT n), 0, 32⟩
abbrev PFL_STATUS_BUSY : Fld := ⟨R.PFL_STATUS, 31, 1⟩
abbrev PFL_STATUS_SUSPENDED : Fld := ⟨R.PFL_STATUS, 30, 1⟩
abbrev PFL_STATUS_DONE : Fld := ⟨R.PFL_STATUS, 29, 1⟩
abbrev PFL_STATUS_ERR : Fld := ⟨R.PFL_STATUS, 28, 1⟩
abbrev PFL_STATUS_RESULT : Fld := ⟨R.PFL_STATUS, 16, 8⟩
abbrev PFL_STATUS_SECTOR : Fld := ⟨R.PFL_STATUS, 0, 8⟩
abbrev PFL_ADDR_WORD : Fld := ⟨R.PFL_ADDR, 3, 17⟩
abbrev PFL_DATA_LO_DATA : Fld := ⟨R.PFL_DATA_LO, 0, 32⟩
abbrev PFL_DATA_HI_DATA : Fld := ⟨R.PFL_DATA_HI, 0, 32⟩
abbrev PFL_CMD_GO : Fld := ⟨R.PFL_CMD, 31, 1⟩
abbrev PFL_CMD_OP : Fld := ⟨R.PFL_CMD, 0, 3⟩
abbrev PFL_ECC_UNCORR : Fld := ⟨R.PFL_ECC, 16, 16⟩
abbrev PFL_ECC_CORR : Fld := ⟨R.PFL_ECC, 0, 16⟩
abbrev PFL_ECC_ADDR_ADDR : Fld := ⟨R.PFL_ECC_ADDR, 0, 32⟩
abbrev PFL_EVT_EN_EN : Fld := ⟨R.PFL_EVT_EN, 0, 2⟩
abbrev NVR_STATUS_READY : Fld := ⟨R.NVR_STATUS, 31, 1⟩
abbrev NVR_STATUS_SAVING : Fld := ⟨R.NVR_STATUS, 30, 1⟩
abbrev NVR_STATUS_PFSTOP : Fld := ⟨R.NVR_STATUS, 29, 1⟩
abbrev NVR_STATUS_ARMED : Fld := ⟨R.NVR_STATUS, 28, 1⟩
abbrev NVR_STATUS_RECOV : Fld := ⟨R.NVR_STATUS, 26, 2⟩
abbrev NVR_STATUS_LOCKED : Fld := ⟨R.NVR_STATUS, 16, 8⟩
abbrev NVR_STATUS_RUNLOCK : Fld := ⟨R.NVR_STATUS, 8, 8⟩
abbrev NVR_STATUS_WUNLOCK : Fld := ⟨R.NVR_STATUS, 0, 8⟩
abbrev NVR_PWD_SEL_REGION : Fld := ⟨R.NVR_PWD_SEL, 0, 3⟩
abbrev NVR_PWD_R_VAL : Fld := ⟨R.NVR_PWD_R, 0, 32⟩
abbrev NVR_PWD_W_VAL : Fld := ⟨R.NVR_PWD_W, 0, 32⟩
abbrev NVR_PWD_NEW_VAL : Fld := ⟨R.NVR_PWD_NEW, 0, 32⟩
abbrev NVR_PWD_CTRL_LOCK : Fld := ⟨R.NVR_PWD_CTRL, 2, 1⟩
abbrev NVR_PWD_CTRL_CHG_W : Fld := ⟨R.NVR_PWD_CTRL, 1, 1⟩
abbrev NVR_PWD_CTRL_CHG_R : Fld := ⟨R.NVR_PWD_CTRL, 0, 1⟩
abbrev NVR_PWD_STAT_FAIL : Fld := ⟨R.NVR_PWD_STAT, 31, 1⟩
abbrev NVR_PWD_STAT_TRIES : Fld := ⟨R.NVR_PWD_STAT, 8, 4⟩
abbrev NVR_JSRC_VAL : Fld := ⟨R.NVR_JSRC, 0, 32⟩
abbrev NVR_JDST_VAL : Fld := ⟨R.NVR_JDST, 0, 32⟩
abbrev NVR_JLEN_VAL : Fld := ⟨R.NVR_JLEN, 0, 32⟩
abbrev NVR_JCTRL_GO : Fld := ⟨R.NVR_JCTRL, 0, 1⟩
abbrev NVR_JSTAT_BUSY : Fld := ⟨R.NVR_JSTAT, 31, 1⟩
abbrev NVR_JSTAT_DONE : Fld := ⟨R.NVR_JSTAT, 30, 1⟩
abbrev NVR_JSTAT_STATUS : Fld := ⟨R.NVR_JSTAT, 0, 8⟩
abbrev NVR_PF_CTRL_TEST : Fld := ⟨R.NVR_PF_CTRL, 2, 1⟩
abbrev NVR_PF_CTRL_MON_EN : Fld := ⟨R.NVR_PF_CTRL, 1, 1⟩
abbrev NVR_PF_CTRL_PFN_EN : Fld := ⟨R.NVR_PF_CTRL, 0, 1⟩
abbrev NVR_RET_CTRL_GO : Fld := ⟨R.NVR_RET_CTRL, 31, 1⟩
abbrev NVR_RET_CTRL_OP : Fld := ⟨R.NVR_RET_CTRL, 0, 2⟩
abbrev NVR_RET_STAT_VALID : Fld := ⟨R.NVR_RET_STAT, 31, 1⟩
abbrev NVR_RET_STAT_HALF : Fld := ⟨R.NVR_RET_STAT, 30, 1⟩
abbrev NVR_RET_STAT_DONE : Fld := ⟨R.NVR_RET_STAT, 29, 1⟩
abbrev NVR_RET_STAT_BUSY : Fld := ⟨R.NVR_RET_STAT, 28, 1⟩
abbrev NVR_RET_STAT_RESULT : Fld := ⟨R.NVR_RET_STAT, 16, 8⟩
abbrev NVR_RET_STAT_N_EVT : Fld := ⟨R.NVR_RET_STAT, 0, 10⟩
abbrev NVR_RET_SEQ_VAL : Fld := ⟨R.NVR_RET_SEQ, 0, 32⟩
abbrev NVR_RET_CYCLE_VAL : Fld := ⟨R.NVR_RET_CYCLE, 0, 32⟩
abbrev NVR_RET_PLAN_ID_VAL : Fld := ⟨R.NVR_RET_PLAN_ID, 0, 32⟩
abbrev NVR_RET_PLAN_VER_VAL : Fld := ⟨R.NVR_RET_PLAN_VER, 0, 32⟩
abbrev NVR_PF_TIME_VAL : Fld := ⟨R.NVR_PF_TIME, 0, 32⟩
abbrev NVR_EVT_EN_EN : Fld := ⟨R.NVR_EVT_EN, 0, 4⟩
abbrev ENT_STATUS_FAILS : Fld := ⟨R.ENT_STATUS, 16, 16⟩
abbrev ENT_STATUS_APT : Fld := ⟨R.ENT_STATUS, 9, 1⟩
abbrev ENT_STATUS_RCT : Fld := ⟨R.ENT_STATUS, 8, 1⟩
abbrev ENT_STATUS_RETRIES : Fld := ⟨R.ENT_STATUS, 4, 4⟩
abbrev ENT_STATUS_STATE : Fld := ⟨R.ENT_STATUS, 0, 3⟩
abbrev ENT_REQ_GO : Fld := ⟨R.ENT_REQ, 31, 1⟩
abbrev ENT_REQ_LEN : Fld := ⟨R.ENT_REQ, 0, 6⟩
abbrev ENT_REQ_STAT_BUSY : Fld := ⟨R.ENT_REQ_STAT, 31, 1⟩
abbrev ENT_REQ_STAT_DONE : Fld := ⟨R.ENT_REQ_STAT, 30, 1⟩
abbrev ENT_REQ_STAT_STATUS : Fld := ⟨R.ENT_REQ_STAT, 0, 8⟩
abbrev ENT_OUT_DATA (n : Nat) : Fld := ⟨(R.ENT_OUT n), 0, 32⟩
abbrev ENT_EVT_EN_EN : Fld := ⟨R.ENT_EVT_EN, 0, 2⟩
abbrev AGM_CTRL_LEDGER_EN : Fld := ⟨R.AGM_CTRL, 3, 1⟩
abbrev AGM_CTRL_PROBE_EN : Fld := ⟨R.AGM_CTRL, 2, 1⟩
abbrev AGM_CTRL_LADDER : Fld := ⟨R.AGM_CTRL, 1, 1⟩
abbrev AGM_CTRL_EN : Fld := ⟨R.AGM_CTRL, 0, 1⟩
abbrev AGM_STATUS_CRIT : Fld := ⟨R.AGM_STATUS, 28, 4⟩
abbrev AGM_STATUS_WARN : Fld := ⟨R.AGM_STATUS, 24, 4⟩
abbrev AGM_STATUS_PEND : Fld := ⟨R.AGM_STATUS, 20, 4⟩
abbrev AGM_STATUS_FLOOR : Fld := ⟨R.AGM_STATUS, 16, 4⟩
abbrev AGM_STATUS_CEILING : Fld := ⟨R.AGM_STATUS, 15, 1⟩
abbrev AGM_STATUS_LEDGER_ERR : Fld := ⟨R.AGM_STATUS, 14, 1⟩
abbrev AGM_STATUS_LEDGER_READY : Fld := ⟨R.AGM_STATUS, 13, 1⟩
abbrev AGM_MARGIN_PCT (n : Nat) : Fld := ⟨(R.AGM_MARGIN n), 16, 16⟩
abbrev AGM_MARGIN_PS (n : Nat) : Fld := ⟨(R.AGM_MARGIN n), 0, 16⟩
abbrev AGM_MIN_PCT (n : Nat) : Fld := ⟨(R.AGM_MIN n), 16, 16⟩
abbrev AGM_MIN_PS (n : Nat) : Fld := ⟨(R.AGM_MIN n), 0, 16⟩
abbrev AGM_REP_SEL_CLUSTER : Fld := ⟨R.AGM_REP_SEL, 4, 2⟩
abbrev AGM_REP_SEL_REPLICA : Fld := ⟨R.AGM_REP_SEL, 0, 4⟩
abbrev AGM_REP_DATA_PROBE : Fld := ⟨R.AGM_REP_DATA, 16, 16⟩
abbrev AGM_REP_DATA_DELAY : Fld := ⟨R.AGM_REP_DATA, 0, 16⟩
abbrev AGM_CANARY_TOTAL (n : Nat) : Fld := ⟨(R.AGM_CANARY n), 16, 16⟩
abbrev AGM_CANARY_WIN (n : Nat) : Fld := ⟨(R.AGM_CANARY n), 0, 16⟩
abbrev AGM_CANARY_LIM_CRIT : Fld := ⟨R.AGM_CANARY_LIM, 8, 8⟩
abbrev AGM_CANARY_LIM_WARN : Fld := ⟨R.AGM_CANARY_LIM, 0, 8⟩
abbrev AGM_VSENS_PS : Fld := ⟨R.AGM_VSENS, 0, 16⟩
abbrev AGM_SETTLE_MS : Fld := ⟨R.AGM_SETTLE, 0, 12⟩
abbrev AGM_TEMP_VAL (n : Nat) : Fld := ⟨(R.AGM_TEMP n), 0, 16⟩
abbrev AGM_VS_VAL (n : Nat) : Fld := ⟨(R.AGM_VS n), 0, 16⟩
abbrev AGM_TEMP_HI_VAL : Fld := ⟨R.AGM_TEMP_HI, 0, 16⟩
abbrev AGM_DERATE_CTRL_CANCEL : Fld := ⟨R.AGM_DERATE_CTRL, 4, 4⟩
abbrev AGM_DERATE_CTRL_APPLY : Fld := ⟨R.AGM_DERATE_CTRL, 0, 4⟩
abbrev AGM_LEDGER_MARK_VAL : Fld := ⟨R.AGM_LEDGER_MARK, 0, 32⟩
abbrev AGM_LEDGER_SEQ_VAL : Fld := ⟨R.AGM_LEDGER_SEQ, 0, 32⟩
abbrev AGM_EVT_EN_EN : Fld := ⟨R.AGM_EVT_EN, 0, 4⟩
abbrev AGM_CAL_SEL_ITEM : Fld := ⟨R.AGM_CAL_SEL, 0, 8⟩
abbrev AGM_CAL_FACT_VALUE : Fld := ⟨R.AGM_CAL_FACT, 0, 32⟩
abbrev AGM_CAL_USER_MUL : Fld := ⟨R.AGM_CAL_USER, 16, 16⟩
abbrev AGM_CAL_USER_ADD : Fld := ⟨R.AGM_CAL_USER, 0, 16⟩
abbrev AGM_CAL_EFF_VALUE : Fld := ⟨R.AGM_CAL_EFF, 0, 32⟩
abbrev AGM_CAL_STATUS_FACT_BAD : Fld := ⟨R.AGM_CAL_STATUS, 31, 1⟩
abbrev AGM_CAL_STATUS_CLAMP : Fld := ⟨R.AGM_CAL_STATUS, 30, 1⟩
abbrev AGM_CAL_STATUS_EVT55_EN : Fld := ⟨R.AGM_CAL_STATUS, 29, 1⟩
abbrev AGM_CAL_STATUS_FORMAT : Fld := ⟨R.AGM_CAL_STATUS, 16, 8⟩
abbrev AGM_CAL_STATUS_N_ITEMS : Fld := ⟨R.AGM_CAL_STATUS, 0, 9⟩
abbrev CYC_CTRL_CYCOUT_W : Fld := ⟨R.CYC_CTRL, 8, 8⟩
abbrev CYC_CTRL_SYNC_SRC : Fld := ⟨R.CYC_CTRL, 4, 3⟩
abbrev CYC_CTRL_CYCOUT_EN : Fld := ⟨R.CYC_CTRL, 2, 1⟩
abbrev CYC_CTRL_COMMIT : Fld := ⟨R.CYC_CTRL, 1, 1⟩
abbrev CYC_CTRL_EN : Fld := ⟨R.CYC_CTRL, 0, 1⟩
abbrev CYC_STATUS_CFG_ERR_CODE : Fld := ⟨R.CYC_STATUS, 8, 4⟩
abbrev CYC_STATUS_OVER_CAP : Fld := ⟨R.CYC_STATUS, 5, 1⟩
abbrev CYC_STATUS_SERVICE : Fld := ⟨R.CYC_STATUS, 4, 1⟩
abbrev CYC_STATUS_SYNC_LOCK : Fld := ⟨R.CYC_STATUS, 3, 1⟩
abbrev CYC_STATUS_CFG_ERR : Fld := ⟨R.CYC_STATUS, 2, 1⟩
abbrev CYC_STATUS_CFG_PEND : Fld := ⟨R.CYC_STATUS, 1, 1⟩
abbrev CYC_STATUS_RUNNING : Fld := ⟨R.CYC_STATUS, 0, 1⟩
abbrev CYC_PERIOD_US : Fld := ⟨R.CYC_PERIOD, 0, 17⟩
abbrev CYC_SAMPLE_OFS_US : Fld := ⟨R.CYC_SAMPLE_OFS, 0, 17⟩
abbrev CYC_IN_WINDOW_US : Fld := ⟨R.CYC_IN_WINDOW, 0, 17⟩
abbrev CYC_DISPATCH_OFS_US : Fld := ⟨R.CYC_DISPATCH_OFS, 0, 17⟩
abbrev CYC_OUT_DEADLINE_US : Fld := ⟨R.CYC_OUT_DEADLINE, 0, 17⟩
abbrev CYC_OUT_LAST_US : Fld := ⟨R.CYC_OUT_LAST, 0, 17⟩
abbrev CYC_APPLY_OFS_US : Fld := ⟨R.CYC_APPLY_OFS, 0, 17⟩
abbrev CYC_PHASE_US : Fld := ⟨R.CYC_PHASE, 0, 17⟩
abbrev CYC_ADM_CAP_PCT : Fld := ⟨R.CYC_ADM_CAP, 0, 7⟩
abbrev CYC_CYCNUM_NUM : Fld := ⟨R.CYC_CYCNUM, 0, 32⟩
abbrev CYC_SYNC_ERR_ERR : Fld := ⟨R.CYC_SYNC_ERR, 0, 32⟩
abbrev CYC_SOC_TB_LO_TB : Fld := ⟨R.CYC_SOC_TB_LO, 0, 32⟩
abbrev CYC_SOC_TB_HI_TB : Fld := ⟨R.CYC_SOC_TB_HI, 0, 32⟩
abbrev CYC_TRACK_LO_TRACK : Fld := ⟨R.CYC_TRACK_LO, 0, 32⟩
abbrev CYC_TRACK_HI_TRACK : Fld := ⟨R.CYC_TRACK_HI, 0, 32⟩
abbrev CYC_MODE_REQ_TAG : Fld := ⟨R.CYC_MODE_REQ, 16, 16⟩
abbrev CYC_MODE_REQ_MODE : Fld := ⟨R.CYC_MODE_REQ, 8, 2⟩
abbrev CYC_MODE_REQ_PART : Fld := ⟨R.CYC_MODE_REQ, 0, 6⟩
abbrev CYC_MODE_RESULT_VALID : Fld := ⟨R.CYC_MODE_RESULT, 31, 1⟩
abbrev CYC_MODE_RESULT_LOST : Fld := ⟨R.CYC_MODE_RESULT, 30, 1⟩
abbrev CYC_MODE_RESULT_STATUS : Fld := ⟨R.CYC_MODE_RESULT, 16, 8⟩
abbrev CYC_MODE_RESULT_TAG : Fld := ⟨R.CYC_MODE_RESULT, 0, 16⟩
abbrev CYC_ADM_CAPC_SLOTS (n : Nat) : Fld := ⟨(R.CYC_ADM_CAPC n), 0, 32⟩
abbrev CYC_ADM_USEDC_SLOTS (n : Nat) : Fld := ⟨(R.CYC_ADM_USEDC n), 0, 32⟩
abbrev CYC_MISS_TOTAL_COUNT : Fld := ⟨R.CYC_MISS_TOTAL, 0, 32⟩
abbrev CYC_PMISS_SEL_PART : Fld := ⟨R.CYC_PMISS_SEL, 0, 6⟩
abbrev CYC_PMISS_CNT_COUNT : Fld := ⟨R.CYC_PMISS_CNT, 0, 32⟩
abbrev CYC_LSE_INVAL_COUNT : Fld := ⟨R.CYC_LSE_INVAL, 0, 32⟩
abbrev CYC_SPLIT_CNT_COUNT : Fld := ⟨R.CYC_SPLIT_CNT, 0, 32⟩
abbrev CYC_CNT_CLR_CLR : Fld := ⟨R.CYC_CNT_CLR, 0, 1⟩
abbrev CYC_EVT_EN_EN : Fld := ⟨R.CYC_EVT_EN, 0, 5⟩
abbrev CYC_CFG_BASE_ADDR : Fld := ⟨R.CYC_CFG_BASE, 0, 32⟩
abbrev CYC_CFG_CTRL_GO : Fld := ⟨R.CYC_CFG_CTRL, 31, 1⟩
abbrev CYC_CFG_CTRL_OP : Fld := ⟨R.CYC_CFG_CTRL, 0, 2⟩
abbrev CYC_CFG_STATUS_STATE : Fld := ⟨R.CYC_CFG_STATUS, 30, 2⟩
abbrev CYC_CFG_STATUS_IN_FORCE : Fld := ⟨R.CYC_CFG_STATUS, 29, 1⟩
abbrev CYC_CFG_STATUS_DONE : Fld := ⟨R.CYC_CFG_STATUS, 28, 1⟩
abbrev CYC_CFG_STATUS_VALID_A : Fld := ⟨R.CYC_CFG_STATUS, 27, 1⟩
abbrev CYC_CFG_STATUS_VALID_B : Fld := ⟨R.CYC_CFG_STATUS, 26, 1⟩
abbrev CYC_CFG_STATUS_EQUAL : Fld := ⟨R.CYC_CFG_STATUS, 25, 1⟩
abbrev CYC_CFG_STATUS_FALLBACK : Fld := ⟨R.CYC_CFG_STATUS, 24, 1⟩
abbrev CYC_CFG_STATUS_RESULT : Fld := ⟨R.CYC_CFG_STATUS, 16, 8⟩
abbrev CYC_CFG_SEQ_SEQ : Fld := ⟨R.CYC_CFG_SEQ, 0, 32⟩
abbrev CYC_CFG_ERR_OFFSET : Fld := ⟨R.CYC_CFG_ERR, 0, 32⟩
abbrev CYC_CFG_SKIP_COUNT : Fld := ⟨R.CYC_CFG_SKIP, 0, 32⟩
abbrev CYC_CFG_EVT_EN_EN : Fld := ⟨R.CYC_CFG_EVT_EN, 0, 1⟩
abbrev DPR_CTRL_QUAR_EN : Fld := ⟨R.DPR_CTRL, 1, 1⟩
abbrev DPR_CTRL_STEAL_EN : Fld := ⟨R.DPR_CTRL, 0, 1⟩
abbrev DPR_SPARES_SP3 : Fld := ⟨R.DPR_SPARES, 12, 3⟩
abbrev DPR_SPARES_SP2 : Fld := ⟨R.DPR_SPARES, 8, 3⟩
abbrev DPR_SPARES_SP1 : Fld := ⟨R.DPR_SPARES, 4, 3⟩
abbrev DPR_SPARES_SP0 : Fld := ⟨R.DPR_SPARES, 0, 3⟩
abbrev DPR_WINDUP_LIMIT_LIMIT : Fld := ⟨R.DPR_WINDUP_LIMIT, 0, 8⟩
abbrev DPR_REDISP_LO_EN : Fld := ⟨R.DPR_REDISP_LO, 0, 32⟩
abbrev DPR_REDISP_HI_EN : Fld := ⟨R.DPR_REDISP_HI, 0, 32⟩
abbrev DPR_RETIRE_GO : Fld := ⟨R.DPR_RETIRE, 31, 1⟩
abbrev DPR_RETIRE_LE : Fld := ⟨R.DPR_RETIRE, 0, 6⟩
abbrev DPR_STATUS_SLICE_OVER : Fld := ⟨R.DPR_STATUS, 8, 4⟩
abbrev DPR_STATUS_NOSPARE : Fld := ⟨R.DPR_STATUS, 0, 4⟩
abbrev DPR_RETIRED_LO_MAP : Fld := ⟨R.DPR_RETIRED_LO, 0, 32⟩
abbrev DPR_RETIRED_HI_MAP : Fld := ⟨R.DPR_RETIRED_HI, 0, 32⟩
abbrev DPR_SPARE_LO_MAP : Fld := ⟨R.DPR_SPARE_LO, 0, 32⟩
abbrev DPR_SPARE_HI_MAP : Fld := ⟨R.DPR_SPARE_HI, 0, 32⟩
abbrev DPR_LAST_RETIRE_VALID : Fld := ⟨R.DPR_LAST_RETIRE, 31, 1⟩
abbrev DPR_LAST_RETIRE_LBD : Fld := ⟨R.DPR_LAST_RETIRE, 16, 15⟩
abbrev DPR_LAST_RETIRE_NONE : Fld := ⟨R.DPR_LAST_RETIRE, 15, 1⟩
abbrev DPR_LAST_RETIRE_CAUSE : Fld := ⟨R.DPR_LAST_RETIRE, 8, 3⟩
abbrev DPR_LAST_RETIRE_LE : Fld := ⟨R.DPR_LAST_RETIRE, 0, 6⟩
abbrev DPR_QSTAT_OVF (n : Nat) : Fld := ⟨(R.DPR_QSTAT n), 31, 1⟩
abbrev DPR_QSTAT_HWM (n : Nat) : Fld := ⟨(R.DPR_QSTAT n), 16, 11⟩
abbrev DPR_QSTAT_DEPTH (n : Nat) : Fld := ⟨(R.DPR_QSTAT n), 0, 11⟩
abbrev DPR_QUAR_LAST_VALID : Fld := ⟨R.DPR_QUAR_LAST, 31, 1⟩
abbrev DPR_QUAR_LAST_LBD : Fld := ⟨R.DPR_QUAR_LAST, 0, 15⟩
abbrev DPR_QUAR_REL_GO : Fld := ⟨R.DPR_QUAR_REL, 31, 1⟩
abbrev DPR_QUAR_REL_ALL : Fld := ⟨R.DPR_QUAR_REL, 30, 1⟩
abbrev DPR_QUAR_REL_LBD : Fld := ⟨R.DPR_QUAR_REL, 0, 15⟩
abbrev DPR_QUAR_CNT_COUNT : Fld := ⟨R.DPR_QUAR_CNT, 0, 16⟩
abbrev DPR_DISP_CNT_COUNT : Fld := ⟨R.DPR_DISP_CNT, 0, 32⟩
abbrev DPR_STEAL_CNT_COUNT : Fld := ⟨R.DPR_STEAL_CNT, 0, 32⟩
abbrev DPR_STALE_DROP_COUNT : Fld := ⟨R.DPR_STALE_DROP, 0, 32⟩
abbrev DPR_OVERRUN_CNT_COUNT : Fld := ⟨R.DPR_OVERRUN_CNT, 0, 32⟩
abbrev DPR_RETIRE_CNT_COUNT : Fld := ⟨R.DPR_RETIRE_CNT, 0, 32⟩
abbrev DPR_REDISP_CNT_COUNT : Fld := ⟨R.DPR_REDISP_CNT, 0, 32⟩
abbrev DPR_QOVF_CNT_COUNT : Fld := ⟨R.DPR_QOVF_CNT, 0, 32⟩
abbrev DPR_BG_PROMO_COUNT : Fld := ⟨R.DPR_BG_PROMO, 0, 32⟩
abbrev DPR_BG_FAIL_COUNT : Fld := ⟨R.DPR_BG_FAIL, 0, 32⟩
abbrev CMU_LATE_DROP_COUNT : Fld := ⟨R.CMU_LATE_DROP, 0, 32⟩
abbrev CMU_COMMIT_CNT_COUNT : Fld := ⟨R.CMU_COMMIT_CNT, 0, 32⟩
abbrev CMU_HOLD_CNT_COUNT : Fld := ⟨R.CMU_HOLD_CNT, 0, 32⟩
abbrev DPR_CNT_CLR_CLR : Fld := ⟨R.DPR_CNT_CLR, 0, 1⟩
abbrev DPR_EVT_EN_EN : Fld := ⟨R.DPR_EVT_EN, 0, 3⟩
abbrev CMU_GSEL_GROUP : Fld := ⟨R.CMU_GSEL, 0, 12⟩
abbrev CMU_GSTAT_RES : Fld := ⟨R.CMU_GSTAT, 30, 2⟩
abbrev CMU_GSTAT_CYCLE : Fld := ⟨R.CMU_GSTAT, 0, 16⟩
abbrev DPR_PLAN_SRC_ADDR : Fld := ⟨R.DPR_PLAN_SRC, 0, 32⟩
abbrev DPR_PLAN_CTRL_GO : Fld := ⟨R.DPR_PLAN_CTRL, 31, 1⟩
abbrev DPR_PLAN_CTRL_OP : Fld := ⟨R.DPR_PLAN_CTRL, 0, 2⟩
abbrev DPR_PLAN_STATUS_STATE : Fld := ⟨R.DPR_PLAN_STATUS, 30, 2⟩
abbrev DPR_PLAN_STATUS_WHOLE : Fld := ⟨R.DPR_PLAN_STATUS, 29, 1⟩
abbrev DPR_PLAN_STATUS_DONE : Fld := ⟨R.DPR_PLAN_STATUS, 28, 1⟩
abbrev DPR_PLAN_STATUS_NSEG : Fld := ⟨R.DPR_PLAN_STATUS, 24, 4⟩
abbrev DPR_PLAN_STATUS_RESULT : Fld := ⟨R.DPR_PLAN_STATUS, 16, 8⟩
abbrev DPR_PLAN_STATUS_UNLOADED : Fld := ⟨R.DPR_PLAN_STATUS, 10, 4⟩
abbrev DPR_PLAN_STATUS_SECT : Fld := ⟨R.DPR_PLAN_STATUS, 0, 10⟩
abbrev DPR_PLAN_ERR_OFFSET : Fld := ⟨R.DPR_PLAN_ERR, 0, 32⟩
abbrev DPR_PLAN_ID_VAL : Fld := ⟨R.DPR_PLAN_ID, 0, 32⟩
abbrev DPR_PLAN_VER_VAL : Fld := ⟨R.DPR_PLAN_VER, 0, 32⟩
abbrev DPR_DEG_STATUS_ACTIVE : Fld := ⟨R.DPR_DEG_STATUS, 31, 1⟩
abbrev DPR_DEG_STATUS_OVER : Fld := ⟨R.DPR_DEG_STATUS, 0, 4⟩
abbrev DPR_SNAP_STATUS_BUSY : Fld := ⟨R.DPR_SNAP_STATUS, 31, 1⟩
abbrev DPR_SNAP_STATUS_SKIP : Fld := ⟨R.DPR_SNAP_STATUS, 30, 1⟩
abbrev DPR_SNAP_STATUS_VALID : Fld := ⟨R.DPR_SNAP_STATUS, 29, 1⟩
abbrev DPR_SNAP_STATUS_CYCLE : Fld := ⟨R.DPR_SNAP_STATUS, 0, 16⟩
abbrev DPR_LEWIN_SEL_CLR : Fld := ⟨R.DPR_LEWIN_SEL, 31, 1⟩
abbrev DPR_LEWIN_SEL_OFF : Fld := ⟨R.DPR_LEWIN_SEL, 30, 1⟩
abbrev DPR_LEWIN_SEL_LE : Fld := ⟨R.DPR_LEWIN_SEL, 8, 6⟩
abbrev DPR_LEWIN_SEL_REG : Fld := ⟨R.DPR_LEWIN_SEL, 0, 4⟩
abbrev DPR_LEWIN_DATA_DATA : Fld := ⟨R.DPR_LEWIN_DATA, 0, 32⟩
abbrev DPR_CSM_ECC_UNCORR (n : Nat) : Fld := ⟨(R.DPR_CSM_ECC n), 16, 16⟩
abbrev DPR_CSM_ECC_CORR (n : Nat) : Fld := ⟨(R.DPR_CSM_ECC n), 0, 16⟩
abbrev DPR_CSM_UEADDR_ADDR (n : Nat) : Fld := ⟨(R.DPR_CSM_UEADDR n), 0, 32⟩
abbrev DPR_CSM_ECC_CLR_CLR : Fld := ⟨R.DPR_CSM_ECC_CLR, 0, 4⟩
abbrev SFL_CTRL_RETRAIN (n : Nat) : Fld := ⟨(R.SFL_CTRL n), 1, 1⟩
abbrev SFL_CTRL_EN (n : Nat) : Fld := ⟨(R.SFL_CTRL n), 0, 1⟩
abbrev SFL_STATUS_DOWN_CAUSE (n : Nat) : Fld := ⟨(R.SFL_STATUS n), 24, 4⟩
abbrev SFL_STATUS_N_RUN (n : Nat) : Fld := ⟨(R.SFL_STATUS n), 16, 5⟩
abbrev SFL_STATUS_EPOCH (n : Nat) : Fld := ⟨(R.SFL_STATUS n), 8, 8⟩
abbrev SFL_STATUS_LOS (n : Nat) : Fld := ⟨(R.SFL_STATUS n), 4, 1⟩
abbrev SFL_STATUS_SYNC (n : Nat) : Fld := ⟨(R.SFL_STATUS n), 3, 1⟩
abbrev SFL_STATUS_STATE (n : Nat) : Fld := ⟨(R.SFL_STATUS n), 0, 3⟩
abbrev SFL_RETRY_T_MS (n : Nat) : Fld := ⟨(R.SFL_RETRY_T n), 0, 13⟩
abbrev SFL_DIAG_POLL_CYCLES (n : Nat) : Fld := ⟨(R.SFL_DIAG_POLL n), 0, 8⟩
abbrev SFL_RUN_MAP_MAP (n : Nat) : Fld := ⟨(R.SFL_RUN_MAP n), 1, 31⟩
abbrev SFL_LOST_MAP_MAP (n : Nat) : Fld := ⟨(R.SFL_LOST_MAP n), 1, 31⟩
abbrev SFL_HOLD_MAP_MAP (n : Nat) : Fld := ⟨(R.SFL_HOLD_MAP n), 1, 31⟩
abbrev SFL_FAULT_MAP_MAP (n : Nat) : Fld := ⟨(R.SFL_FAULT_MAP n), 1, 31⟩
abbrev SFL_STSEL_STATION (n : Nat) : Fld := ⟨(R.SFL_STSEL n), 0, 5⟩
abbrev SFL_STINFO_MISS (n : Nat) : Fld := ⟨(R.SFL_STINFO n), 16, 2⟩
abbrev SFL_STINFO_EPOCH (n : Nat) : Fld := ⟨(R.SFL_STINFO n), 8, 8⟩
abbrev SFL_STINFO_CAUSE (n : Nat) : Fld := ⟨(R.SFL_STINFO n), 4, 4⟩
abbrev SFL_STINFO_STATE (n : Nat) : Fld := ⟨(R.SFL_STINFO n), 0, 3⟩
abbrev SFL_STDELAY_NS (n : Nat) : Fld := ⟨(R.SFL_STDELAY n), 0, 32⟩
abbrev SFL_RESUME_GO (n : Nat) : Fld := ⟨(R.SFL_RESUME n), 31, 1⟩
abbrev SFL_RESUME_STATION (n : Nat) : Fld := ⟨(R.SFL_RESUME n), 8, 5⟩
abbrev SFL_RESUME_PART (n : Nat) : Fld := ⟨(R.SFL_RESUME n), 0, 6⟩
abbrev SFL_ACK_PEND_MAP (n : Nat) : Fld := ⟨(R.SFL_ACK_PEND n), 1, 31⟩
abbrev SFL_RX_GOOD_COUNT (n : Nat) : Fld := ⟨(R.SFL_RX_GOOD n), 0, 32⟩
abbrev SFL_RX_CRC_COUNT (n : Nat) : Fld := ⟨(R.SFL_RX_CRC n), 0, 32⟩
abbrev SFL_RX_CODE_COUNT (n : Nat) : Fld := ⟨(R.SFL_RX_CODE n), 0, 32⟩
abbrev SFL_RX_DISCARD_COUNT (n : Nat) : Fld := ⟨(R.SFL_RX_DISCARD n), 0, 32⟩
abbrev SFL_LATE_FRAME_COUNT (n : Nat) : Fld := ⟨(R.SFL_LATE_FRAME n), 0, 32⟩
abbrev SFL_LOSS_CNT_COUNT (n : Nat) : Fld := ⟨(R.SFL_LOSS_CNT n), 0, 32⟩
abbrev SFL_READMIT_CNT_COUNT (n : Nat) : Fld := ⟨(R.SFL_READMIT_CNT n), 0, 32⟩
abbrev SFL_HOLD_CNT_COUNT (n : Nat) : Fld := ⟨(R.SFL_HOLD_CNT n), 0, 32⟩
abbrev SFL_ACY_DONE_COUNT (n : Nat) : Fld := ⟨(R.SFL_ACY_DONE n), 0, 32⟩
abbrev SFL_CNT_CLR_CLR (n : Nat) : Fld := ⟨(R.SFL_CNT_CLR n), 0, 1⟩
abbrev SFL_ACY_CFG_TIMEOUT (n : Nat) : Fld := ⟨(R.SFL_ACY_CFG n), 16, 8⟩
abbrev SFL_ACY_CFG_REPEAT (n : Nat) : Fld := ⟨(R.SFL_ACY_CFG n), 8, 8⟩
abbrev SFL_ACY_CFG_BURST (n : Nat) : Fld := ⟨(R.SFL_ACY_CFG n), 0, 4⟩
abbrev SFL_ACY_SUB_VAL (n : Nat) : Fld := ⟨(R.SFL_ACY_SUB n), 0, 32⟩
abbrev SFL_ACY_CANCEL_VAL (n : Nat) : Fld := ⟨(R.SFL_ACY_CANCEL n), 0, 32⟩
abbrev SFL_ACY_CRES_VALID (n : Nat) : Fld := ⟨(R.SFL_ACY_CRES n), 31, 1⟩
abbrev SFL_ACY_CRES_STATUS (n : Nat) : Fld := ⟨(R.SFL_ACY_CRES n), 0, 8⟩
abbrev SFL_ACY_QSTAT_ACTIVE (n : Nat) : Fld := ⟨(R.SFL_ACY_QSTAT n), 8, 7⟩
abbrev SFL_ACY_QSTAT_DEPTH (n : Nat) : Fld := ⟨(R.SFL_ACY_QSTAT n), 0, 7⟩
abbrev SFL_PAT_CTRL_LOOP_MS (n : Nat) : Fld := ⟨(R.SFL_PAT_CTRL n), 16, 16⟩
abbrev SFL_PAT_CTRL_STATION (n : Nat) : Fld := ⟨(R.SFL_PAT_CTRL n), 8, 5⟩
abbrev SFL_PAT_CTRL_LOOP (n : Nat) : Fld := ⟨(R.SFL_PAT_CTRL n), 6, 2⟩
abbrev SFL_PAT_CTRL_CODED (n : Nat) : Fld := ⟨(R.SFL_PAT_CTRL n), 5, 1⟩
abbrev SFL_PAT_CTRL_PATTERN (n : Nat) : Fld := ⟨(R.SFL_PAT_CTRL n), 2, 3⟩
abbrev SFL_PAT_CTRL_STOP (n : Nat) : Fld := ⟨(R.SFL_PAT_CTRL n), 1, 1⟩
abbrev SFL_PAT_CTRL_START (n : Nat) : Fld := ⟨(R.SFL_PAT_CTRL n), 0, 1⟩
abbrev SFL_PAT_USER_PATTERN (n : Nat) : Fld := ⟨(R.SFL_PAT_USER n), 0, 20⟩
abbrev SFL_PAT_STATUS_REFUSED (n : Nat) : Fld := ⟨(R.SFL_PAT_STATUS n), 3, 1⟩
abbrev SFL_PAT_STATUS_SYNC_LOST (n : Nat) : Fld := ⟨(R.SFL_PAT_STATUS n), 2, 1⟩
abbrev SFL_PAT_STATUS_SYNC (n : Nat) : Fld := ⟨(R.SFL_PAT_STATUS n), 1, 1⟩
abbrev SFL_PAT_STATUS_ACTIVE (n : Nat) : Fld := ⟨(R.SFL_PAT_STATUS n), 0, 1⟩
abbrev SFL_PAT_ERR_COUNT (n : Nat) : Fld := ⟨(R.SFL_PAT_ERR n), 0, 32⟩
abbrev SFL_PAT_BITS_COUNT (n : Nat) : Fld := ⟨(R.SFL_PAT_BITS n), 0, 32⟩
abbrev SFL_EVT_EN_EN (n : Nat) : Fld := ⟨(R.SFL_EVT_EN n), 0, 4⟩
abbrev TWL_CTRL_HANDOVER : Fld := ⟨R.TWL_CTRL, 7, 1⟩
abbrev TWL_CTRL_WRESET : Fld := ⟨R.TWL_CTRL, 6, 1⟩
abbrev TWL_CTRL_PREF : Fld := ⟨R.TWL_CTRL, 5, 1⟩
abbrev TWL_CTRL_ROLE : Fld := ⟨R.TWL_CTRL, 1, 2⟩
abbrev TWL_CTRL_EN : Fld := ⟨R.TWL_CTRL, 0, 1⟩
abbrev TWL_STATUS_PAIR_EPOCH : Fld := ⟨R.TWL_STATUS, 24, 4⟩
abbrev TWL_STATUS_MISSED : Fld := ⟨R.TWL_STATUS, 16, 4⟩
abbrev TWL_STATUS_PEER : Fld := ⟨R.TWL_STATUS, 12, 2⟩
abbrev TWL_STATUS_ROLE : Fld := ⟨R.TWL_STATUS, 8, 2⟩
abbrev TWL_STATUS_CFG_DIFF : Fld := ⟨R.TWL_STATUS, 5, 1⟩
abbrev TWL_STATUS_PLAN_OK : Fld := ⟨R.TWL_STATUS, 4, 1⟩
abbrev TWL_STATUS_READY : Fld := ⟨R.TWL_STATUS, 3, 1⟩
abbrev TWL_STATUS_LINK : Fld := ⟨R.TWL_STATUS, 0, 3⟩
abbrev TWL_TAKE_CFG_HB_TOL : Fld := ⟨R.TWL_TAKE_CFG, 8, 8⟩
abbrev TWL_TAKE_CFG_MIN_LINKS : Fld := ⟨R.TWL_TAKE_CFG, 0, 5⟩
abbrev TWL_DELAY_NS : Fld := ⟨R.TWL_DELAY, 0, 16⟩
abbrev TWL_LAST_TAKE_VALID : Fld := ⟨R.TWL_LAST_TAKE, 31, 1⟩
abbrev TWL_LAST_TAKE_KIND : Fld := ⟨R.TWL_LAST_TAKE, 24, 3⟩
abbrev TWL_LAST_TAKE_CYCLE : Fld := ⟨R.TWL_LAST_TAKE, 0, 16⟩
abbrev TWL_SET_STAT_UNITS : Fld := ⟨R.TWL_SET_STAT, 16, 16⟩
abbrev TWL_SET_STAT_SET : Fld := ⟨R.TWL_SET_STAT, 0, 16⟩
abbrev TWL_LSEL_VAL : Fld := ⟨R.TWL_LSEL, 0, 32⟩
abbrev TWL_LDATA_VAL : Fld := ⟨R.TWL_LDATA, 0, 32⟩
abbrev TWL_RXBASE_ADDR : Fld := ⟨R.TWL_RXBASE, 0, 32⟩
abbrev TWL_HB_MISS_CNT_COUNT : Fld := ⟨R.TWL_HB_MISS_CNT, 0, 32⟩
abbrev TWL_SET_CNT_COUNT : Fld := ⟨R.TWL_SET_CNT, 0, 32⟩
abbrev TWL_SET_SKIP_COUNT : Fld := ⟨R.TWL_SET_SKIP, 0, 32⟩
abbrev TWL_CRC_ERR_COUNT : Fld := ⟨R.TWL_CRC_ERR, 0, 32⟩
abbrev TWL_CMD_IGN_COUNT : Fld := ⟨R.TWL_CMD_IGN, 0, 32⟩
abbrev TWL_REFUSE_CNT_COUNT : Fld := ⟨R.TWL_REFUSE_CNT, 0, 32⟩
abbrev TWL_CNT_CLR_CLR : Fld := ⟨R.TWL_CNT_CLR, 0, 1⟩
abbrev TWL_EVT_EN_EN : Fld := ⟨R.TWL_EVT_EN, 0, 4⟩
abbrev FPC_CTRL_SLEW (n : Nat) : Fld := ⟨(R.FPC_CTRL n), 8, 8⟩
abbrev FPC_CTRL_CLR (n : Nat) : Fld := ⟨(R.FPC_CTRL n), 1, 1⟩
abbrev FPC_CTRL_EN (n : Nat) : Fld := ⟨(R.FPC_CTRL n), 0, 1⟩
abbrev FPC_ILIM_MV (n : Nat) : Fld := ⟨(R.FPC_ILIM n), 0, 7⟩
abbrev FPC_TLIM_MS (n : Nat) : Fld := ⟨(R.FPC_TLIM n), 0, 8⟩
abbrev FPC_STATUS_RETRIES (n : Nat) : Fld := ⟨(R.FPC_STATUS n), 8, 2⟩
abbrev FPC_STATUS_FAULT (n : Nat) : Fld := ⟨(R.FPC_STATUS n), 5, 1⟩
abbrev FPC_STATUS_TIMEOUT (n : Nat) : Fld := ⟨(R.FPC_STATUS n), 4, 1⟩
abbrev FPC_STATUS_FAST (n : Nat) : Fld := ⟨(R.FPC_STATUS n), 3, 1⟩
abbrev FPC_STATUS_STATE (n : Nat) : Fld := ⟨(R.FPC_STATUS n), 0, 3⟩
abbrev FPC_SENSE_UV100 (n : Nat) : Fld := ⟨(R.FPC_SENSE n), 0, 16⟩
abbrev FPC_SETTLE_MS : Fld := ⟨R.FPC_SETTLE, 0, 16⟩
abbrev FPC_EVT_EN_EN : Fld := ⟨R.FPC_EVT_EN, 0, 6⟩
abbrev HIF_ID_GRADE : Fld := ⟨R.HIF_ID, 16, 4⟩
abbrev HIF_ID_PART : Fld := ⟨R.HIF_ID, 0, 16⟩
abbrev HIF_STATUS_WIDTH : Fld := ⟨R.HIF_STATUS, 12, 2⟩
abbrev HIF_STATUS_SPEED : Fld := ⟨R.HIF_STATUS, 8, 2⟩
abbrev HIF_STATUS_DEGRADED : Fld := ⟨R.HIF_STATUS, 3, 1⟩
abbrev HIF_STATUS_SERVICE : Fld := ⟨R.HIF_STATUS, 2, 1⟩
abbrev HIF_STATUS_RAGDOLL : Fld := ⟨R.HIF_STATUS, 1, 1⟩
abbrev HIF_STATUS_READY : Fld := ⟨R.HIF_STATUS, 0, 1⟩
abbrev HIF_STG_CFG_TRND : Fld := ⟨R.HIF_STG_CFG, 16, 8⟩
abbrev HIF_STG_CFG_EVT : Fld := ⟨R.HIF_STG_CFG, 8, 8⟩
abbrev HIF_STG_CFG_SNAP : Fld := ⟨R.HIF_STG_CFG, 0, 8⟩
abbrev HIF_EVT_SHARE_MAX : Fld := ⟨R.HIF_EVT_SHARE, 0, 12⟩
abbrev HIF_RING_ERR_VALID : Fld := ⟨R.HIF_RING_ERR, 31, 1⟩
abbrev HIF_RING_ERR_OVF : Fld := ⟨R.HIF_RING_ERR, 30, 1⟩
abbrev HIF_RING_ERR_PART : Fld := ⟨R.HIF_RING_ERR, 16, 6⟩
abbrev HIF_RING_ERR_RING : Fld := ⟨R.HIF_RING_ERR, 8, 4⟩
abbrev HIF_RING_ERR_STATUS : Fld := ⟨R.HIF_RING_ERR, 0, 8⟩
abbrev HIF_DEV_EVT_EVT_LOST : Fld := ⟨R.HIF_DEV_EVT, 3, 1⟩
abbrev HIF_DEV_EVT_RAGDOLL : Fld := ⟨R.HIF_DEV_EVT, 2, 1⟩
abbrev HIF_DEV_EVT_FW_TMO : Fld := ⟨R.HIF_DEV_EVT, 1, 1⟩
abbrev HIF_DEV_EVT_RING_ERR : Fld := ⟨R.HIF_DEV_EVT, 0, 1⟩
abbrev HIF_DEV_EVT_EN_EN : Fld := ⟨R.HIF_DEV_EVT_EN, 0, 4⟩
abbrev HIF_FW_MSG_MSG : Fld := ⟨R.HIF_FW_MSG, 0, 32⟩
abbrev HIF_BADACC_COUNT : Fld := ⟨R.HIF_BADACC, 0, 32⟩
abbrev HIF_CPL_CNT_COUNT : Fld := ⟨R.HIF_CPL_CNT, 0, 32⟩
abbrev HIF_WF_CNT_COUNT : Fld := ⟨R.HIF_WF_CNT, 0, 32⟩
abbrev HIF_EVT_DROP_COUNT : Fld := ⟨R.HIF_EVT_DROP, 0, 32⟩
abbrev HIF_CTRL_READY : Fld := ⟨R.HIF_CTRL, 1, 1⟩
abbrev HIF_CTRL_LTSSM_EN : Fld := ⟨R.HIF_CTRL, 0, 1⟩
abbrev HIF_SSID_SSID : Fld := ⟨R.HIF_SSID, 16, 16⟩
abbrev HIF_SSID_SSVID : Fld := ⟨R.HIF_SSID, 0, 16⟩
abbrev HIF_IND_ADDR_VAL : Fld := ⟨R.HIF_IND_ADDR, 0, 32⟩
abbrev HIF_IND_DATA_VAL : Fld := ⟨R.HIF_IND_DATA, 0, 32⟩
abbrev HIF_FWQ_BASE_ADDR : Fld := ⟨R.HIF_FWQ_BASE, 0, 32⟩
abbrev HIF_FWQ_POP_ADDR : Fld := ⟨R.HIF_FWQ_POP, 0, 32⟩
abbrev HIF_FWQ_STAT_OPEN : Fld := ⟨R.HIF_FWQ_STAT, 8, 7⟩
abbrev HIF_FWQ_STAT_PEND : Fld := ⟨R.HIF_FWQ_STAT, 0, 7⟩
abbrev HIF_FW_CPL_ADDR : Fld := ⟨R.HIF_FW_CPL, 0, 32⟩
abbrev HIF_FW_TMO_S : Fld := ⟨R.HIF_FW_TMO, 0, 10⟩
abbrev HIF_HOST_MSG_MSG : Fld := ⟨R.HIF_HOST_MSG, 0, 32⟩
abbrev HIF_LINK_DL_UP : Fld := ⟨R.HIF_LINK, 16, 1⟩
abbrev HIF_LINK_WIDTH : Fld := ⟨R.HIF_LINK, 12, 2⟩
abbrev HIF_LINK_SPEED : Fld := ⟨R.HIF_LINK, 8, 2⟩
abbrev DBG_STATUS_REFUSED : Fld := ⟨R.DBG_STATUS, 16, 16⟩
abbrev DBG_STATUS_LEVEL : Fld := ⟨R.DBG_STATUS, 8, 2⟩
abbrev DBG_CTRL_KEY : Fld := ⟨R.DBG_CTRL, 16, 16⟩
abbrev DBG_CTRL_SYSRST : Fld := ⟨R.DBG_CTRL, 1, 1⟩
abbrev DBG_CTRL_RESUME : Fld := ⟨R.DBG_CTRL, 0, 1⟩
abbrev DBG_STR_SW_PULSE : Fld := ⟨R.DBG_STR_SW, 0, 8⟩
abbrev DBG_HALT_STAT_HALTED : Fld := ⟨R.DBG_HALT_STAT, 31, 1⟩
abbrev DBG_HALT_STAT_STRING : Fld := ⟨R.DBG_HALT_STAT, 8, 3⟩
abbrev DBG_HALT_STAT_MEMBERS : Fld := ⟨R.DBG_HALT_STAT, 0, 6⟩
abbrev DBG_STR_OUT_EVT (n : Nat) : Fld := ⟨(R.DBG_STR_OUT n), 12, 1⟩
abbrev DBG_STR_OUT_TSTOP (n : Nat) : Fld := ⟨(R.DBG_STR_OUT n), 11, 1⟩
abbrev DBG_STR_OUT_TSTART (n : Nat) : Fld := ⟨(R.DBG_STR_OUT n), 10, 1⟩
abbrev DBG_STR_OUT_THALT (n : Nat) : Fld := ⟨(R.DBG_STR_OUT n), 9, 1⟩
abbrev DBG_STR_OUT_HALT (n : Nat) : Fld := ⟨(R.DBG_STR_OUT n), 0, 6⟩
abbrev DBG_CMP_SEL_CPU : Fld := ⟨R.DBG_CMP_SEL, 8, 7⟩
abbrev DBG_CMP_SEL_CMP : Fld := ⟨R.DBG_CMP_SEL, 0, 3⟩
abbrev DBG_CMP_CTRL_EN : Fld := ⟨R.DBG_CMP_CTRL, 31, 1⟩
abbrev DBG_CMP_CTRL_PART : Fld := ⟨R.DBG_CMP_CTRL, 24, 6⟩
abbrev DBG_CMP_CTRL_PARTEN : Fld := ⟨R.DBG_CMP_CTRL, 23, 1⟩
abbrev DBG_CMP_CTRL_STRING : Fld := ⟨R.DBG_CMP_CTRL, 16, 3⟩
abbrev DBG_CMP_CTRL_ACTION : Fld := ⟨R.DBG_CMP_CTRL, 8, 3⟩
abbrev DBG_CMP_CTRL_LINK : Fld := ⟨R.DBG_CMP_CTRL, 4, 1⟩
abbrev DBG_CMP_CTRL_KIND : Fld := ⟨R.DBG_CMP_CTRL, 0, 3⟩
abbrev DBG_CMP_VAL_VAL : Fld := ⟨R.DBG_CMP_VAL, 0, 32⟩
abbrev DBG_CMP_MASK_MASK : Fld := ⟨R.DBG_CMP_MASK, 0, 32⟩
abbrev DBG_EVT_EN_EN : Fld := ⟨R.DBG_EVT_EN, 0, 14⟩
abbrev TRC_CTRL_SYNC_INT : Fld := ⟨R.TRC_CTRL, 24, 8⟩
abbrev TRC_CTRL_FSTR : Fld := ⟨R.TRC_CTRL, 16, 3⟩
abbrev TRC_CTRL_FSEN : Fld := ⟨R.TRC_CTRL, 15, 1⟩
abbrev TRC_CTRL_STOPFULL : Fld := ⟨R.TRC_CTRL, 4, 1⟩
abbrev TRC_CTRL_DEST : Fld := ⟨R.TRC_CTRL, 2, 2⟩
abbrev TRC_CTRL_EN : Fld := ⟨R.TRC_CTRL, 0, 1⟩
abbrev TRC_SRC_EN_EN : Fld := ⟨R.TRC_SRC_EN, 0, 8⟩
abbrev TRC_FLOW_CPU : Fld := ⟨R.TRC_FLOW, 0, 7⟩
abbrev TRC_WPTR_OFS : Fld := ⟨R.TRC_WPTR, 0, 18⟩
abbrev TRC_STAT_WRAPPED : Fld := ⟨R.TRC_STAT, 31, 1⟩
abbrev TRC_STAT_FULL : Fld := ⟨R.TRC_STAT, 30, 1⟩
abbrev TRC_STAT_LOST : Fld := ⟨R.TRC_STAT, 0, 16⟩
abbrev TRC_SW_VAL : Fld := ⟨R.TRC_SW, 0, 32⟩
abbrev UART_DATA_FLAGS (n : Nat) : Fld := ⟨(R.UART_DATA n), 8, 4⟩
abbrev UART_DATA_DATA (n : Nat) : Fld := ⟨(R.UART_DATA n), 0, 8⟩
abbrev UART_CFG_DIVI (n : Nat) : Fld := ⟨(R.UART_CFG n), 16, 16⟩
abbrev UART_CFG_DIVF (n : Nat) : Fld := ⟨(R.UART_CFG n), 12, 4⟩
abbrev UART_CFG_EN (n : Nat) : Fld := ⟨(R.UART_CFG n), 11, 1⟩
abbrev UART_CFG_RTSCTS (n : Nat) : Fld := ⟨(R.UART_CFG n), 10, 1⟩
abbrev UART_CFG_PARITY (n : Nat) : Fld := ⟨(R.UART_CFG n), 8, 2⟩
abbrev UART_CFG_STOP2 (n : Nat) : Fld := ⟨(R.UART_CFG n), 7, 1⟩
abbrev UART_CFG_LEN (n : Nat) : Fld := ⟨(R.UART_CFG n), 5, 2⟩
abbrev UART_STAT_RXLVL (n : Nat) : Fld := ⟨(R.UART_STAT n), 16, 5⟩
abbrev UART_STAT_TXLVL (n : Nat) : Fld := ⟨(R.UART_STAT n), 8, 5⟩
abbrev UART_STAT_BRK (n : Nat) : Fld := ⟨(R.UART_STAT n), 3, 1⟩
abbrev UART_STAT_OVR (n : Nat) : Fld := ⟨(R.UART_STAT n), 2, 1⟩
abbrev UART_STAT_TXIDLE (n : Nat) : Fld := ⟨(R.UART_STAT n), 1, 1⟩
abbrev UART_IEN_EN (n : Nat) : Fld := ⟨(R.UART_IEN n), 0, 4⟩
abbrev SPI_DATA_DATA (n : Nat) : Fld := ⟨(R.SPI_DATA n), 0, 32⟩
abbrev SPI_CFG_DIV (n : Nat) : Fld := ⟨(R.SPI_CFG n), 24, 8⟩
abbrev SPI_CFG_CS (n : Nat) : Fld := ⟨(R.SPI_CFG n), 16, 2⟩
abbrev SPI_CFG_SIZE (n : Nat) : Fld := ⟨(R.SPI_CFG n), 12, 2⟩
abbrev SPI_CFG_MODE (n : Nat) : Fld := ⟨(R.SPI_CFG n), 8, 2⟩
abbrev SPI_CFG_LSB (n : Nat) : Fld := ⟨(R.SPI_CFG n), 4, 1⟩
abbrev SPI_CFG_CSHOLD (n : Nat) : Fld := ⟨(R.SPI_CFG n), 1, 1⟩
abbrev SPI_CFG_EN (n : Nat) : Fld := ⟨(R.SPI_CFG n), 0, 1⟩
abbrev SPI_STAT_BUSY (n : Nat) : Fld := ⟨(R.SPI_STAT n), 31, 1⟩
abbrev SPI_STAT_RXLVL (n : Nat) : Fld := ⟨(R.SPI_STAT n), 8, 4⟩
abbrev SPI_STAT_TXLVL (n : Nat) : Fld := ⟨(R.SPI_STAT n), 0, 4⟩
abbrev SPI_IEN_EN (n : Nat) : Fld := ⟨(R.SPI_IEN n), 0, 2⟩
abbrev I2C_CMD_OP (n : Nat) : Fld := ⟨(R.I2C_CMD n), 8, 3⟩
abbrev I2C_CMD_DATA (n : Nat) : Fld := ⟨(R.I2C_CMD n), 0, 8⟩
abbrev I2C_RX_VALID (n : Nat) : Fld := ⟨(R.I2C_RX n), 8, 1⟩
abbrev I2C_CFG_RECOVER (n : Nat) : Fld := ⟨(R.I2C_CFG n), 2, 1⟩
abbrev I2C_CFG_FAST (n : Nat) : Fld := ⟨(R.I2C_CFG n), 1, 1⟩
abbrev I2C_CFG_EN (n : Nat) : Fld := ⟨(R.I2C_CFG n), 0, 1⟩
abbrev I2C_STAT_BUSY (n : Nat) : Fld := ⟨(R.I2C_STAT n), 31, 1⟩
abbrev I2C_STAT_NACK (n : Nat) : Fld := ⟨(R.I2C_STAT n), 3, 1⟩
abbrev I2C_STAT_TMO (n : Nat) : Fld := ⟨(R.I2C_STAT n), 2, 1⟩
abbrev I2C_STAT_BUSERR (n : Nat) : Fld := ⟨(R.I2C_STAT n), 1, 1⟩
abbrev I2C_IEN_EN (n : Nat) : Fld := ⟨(R.I2C_IEN n), 0, 2⟩
abbrev TMR_CTRL_SOCSTART (n : Nat) : Fld := ⟨(R.TMR_CTRL n), 8, 1⟩
abbrev TMR_CTRL_OUT_EN (n : Nat) : Fld := ⟨(R.TMR_CTRL n), 6, 1⟩
abbrev TMR_CTRL_MODE (n : Nat) : Fld := ⟨(R.TMR_CTRL n), 4, 2⟩
abbrev TMR_CTRL_SRC (n : Nat) : Fld := ⟨(R.TMR_CTRL n), 1, 2⟩
abbrev TMR_CTRL_EN (n : Nat) : Fld := ⟨(R.TMR_CTRL n), 0, 1⟩
abbrev TMR_CNT_CNT (n : Nat) : Fld := ⟨(R.TMR_CNT n), 0, 32⟩
abbrev TMR_CMP_CMP (n : Nat) : Fld := ⟨(R.TMR_CMP n), 0, 32⟩
abbrev TMR_CAP_LO_TB (n : Nat) : Fld := ⟨(R.TMR_CAP_LO n), 0, 32⟩
abbrev TMR_CAP_HI_TB (n : Nat) : Fld := ⟨(R.TMR_CAP_HI n), 0, 32⟩
abbrev TMR_STAT_CAP (n : Nat) : Fld := ⟨(R.TMR_STAT n), 1, 1⟩
abbrev TMR_STAT_MATCH (n : Nat) : Fld := ⟨(R.TMR_STAT n), 0, 1⟩
abbrev WDT_SYS_CTRL_PERIOD : Fld := ⟨R.WDT_SYS_CTRL, 16, 16⟩
abbrev WDT_SYS_CTRL_EARLY : Fld := ⟨R.WDT_SYS_CTRL, 8, 8⟩
abbrev WDT_SYS_CTRL_WINDOW : Fld := ⟨R.WDT_SYS_CTRL, 1, 7⟩
abbrev WDT_SYS_CTRL_EN : Fld := ⟨R.WDT_SYS_CTRL, 0, 1⟩
abbrev WDT_SYS_KICK_KEY : Fld := ⟨R.WDT_SYS_KICK, 0, 16⟩
abbrev WDT_SYS_STAT_EARLY : Fld := ⟨R.WDT_SYS_STAT, 31, 1⟩
abbrev WDT_SYS_STAT_BADKICK : Fld := ⟨R.WDT_SYS_STAT, 30, 1⟩
abbrev WDT_SYS_STAT_LEFT : Fld := ⟨R.WDT_SYS_STAT, 0, 16⟩
abbrev WDT_SP_CTRL_PERIOD : Fld := ⟨R.WDT_SP_CTRL, 16, 16⟩
abbrev WDT_SP_CTRL_EARLY : Fld := ⟨R.WDT_SP_CTRL, 8, 8⟩
abbrev WDT_SP_CTRL_WINDOW : Fld := ⟨R.WDT_SP_CTRL, 1, 7⟩
abbrev WDT_SP_CTRL_EN : Fld := ⟨R.WDT_SP_CTRL, 0, 1⟩
abbrev WDT_SP_KICK_KEY : Fld := ⟨R.WDT_SP_KICK, 0, 16⟩
abbrev WDT_SP_STAT_EARLY : Fld := ⟨R.WDT_SP_STAT, 31, 1⟩
abbrev WDT_SP_STAT_BADKICK : Fld := ⟨R.WDT_SP_STAT, 30, 1⟩
abbrev WDT_SP_STAT_LEFT : Fld := ⟨R.WDT_SP_STAT, 0, 16⟩
abbrev SPM_START_OK_CODE : Fld := ⟨R.SPM_START_OK, 0, 32⟩
abbrev SPM_BOOT_STAT_CONFIRMED : Fld := ⟨R.SPM_BOOT_STAT, 31, 1⟩
abbrev SPM_BOOT_STAT_TRIAL : Fld := ⟨R.SPM_BOOT_STAT, 30, 1⟩
abbrev SPM_BOOT_STAT_SLOT : Fld := ⟨R.SPM_BOOT_STAT, 29, 1⟩
abbrev SPM_BOOT_STAT_FLAT : Fld := ⟨R.SPM_BOOT_STAT, 28, 1⟩
abbrev SPM_BOOT_STAT_RAGDOLL : Fld := ⟨R.SPM_BOOT_STAT, 27, 1⟩
abbrev SPM_BOOT_STAT_ACTIVE : Fld := ⟨R.SPM_BOOT_STAT, 26, 1⟩
abbrev SPM_BOOT_STAT_RELEASED : Fld := ⟨R.SPM_BOOT_STAT, 25, 1⟩
abbrev SPM_BOOT_STAT_UNLOCKED : Fld := ⟨R.SPM_BOOT_STAT, 24, 1⟩
abbrev SPM_BOOT_STAT_FAIL_B : Fld := ⟨R.SPM_BOOT_STAT, 20, 4⟩
abbrev SPM_BOOT_STAT_FAIL_A : Fld := ⟨R.SPM_BOOT_STAT, 16, 4⟩
abbrev SPM_BOOT_STAT_DBG_LEVEL : Fld := ⟨R.SPM_BOOT_STAT, 0, 2⟩
abbrev SPM_BOOT_ERR_ERR_B : Fld := ⟨R.SPM_BOOT_ERR, 8, 8⟩
abbrev SPM_BOOT_ERR_ERR_A : Fld := ⟨R.SPM_BOOT_ERR, 0, 8⟩
abbrev SPM_IMG_VER_VAL : Fld := ⟨R.SPM_IMG_VER, 0, 32⟩
abbrev SPM_MINVER_VAL : Fld := ⟨R.SPM_MINVER, 0, 32⟩
abbrev SPM_CONFIRM_LEFT_VAL : Fld := ⟨R.SPM_CONFIRM_LEFT, 0, 32⟩
abbrev SPM_UID_LO_VAL : Fld := ⟨R.SPM_UID_LO, 0, 32⟩
abbrev SPM_UID_HI_VAL : Fld := ⟨R.SPM_UID_HI, 0, 32⟩
abbrev SPM_FUSE_PROV_LOCK : Fld := ⟨R.SPM_FUSE, 8, 1⟩
abbrev SPM_FUSE_KEY_REVOKE : Fld := ⟨R.SPM_FUSE, 4, 4⟩
abbrev SPM_FUSE_DBG_LOCK : Fld := ⟨R.SPM_FUSE, 3, 1⟩
abbrev SPM_FUSE_AUTH_MODE : Fld := ⟨R.SPM_FUSE, 1, 2⟩
abbrev SPM_FUSE_SEC_EN : Fld := ⟨R.SPM_FUSE, 0, 1⟩
abbrev HIF_RCTRL_ACT (n : Nat) : Fld := ⟨(R.HIF_RCTRL n), 8, 6⟩
abbrev HIF_RCTRL_EN (n : Nat) : Fld := ⟨(R.HIF_RCTRL n), 0, 6⟩
abbrev HIF_RBASE_LO_BASE (n k : Nat) : Fld := ⟨(R.HIF_RBASE_LO n k), 6, 26⟩
abbrev HIF_RBASE_HI_BASE (n k : Nat) : Fld := ⟨(R.HIF_RBASE_HI n k), 0, 32⟩
abbrev HIF_RSIZE_LOG2 (n k : Nat) : Fld := ⟨(R.HIF_RSIZE n k), 0, 4⟩
abbrev HIF_RIDX_IDX (n k : Nat) : Fld := ⟨(R.HIF_RIDX n k), 0, 16⟩
abbrev HIF_MOD_C_URG (n : Nat) : Fld := ⟨(R.HIF_MOD_C n), 31, 1⟩
abbrev HIF_MOD_C_CYC (n : Nat) : Fld := ⟨(R.HIF_MOD_C n), 30, 1⟩
abbrev HIF_MOD_C_TIME (n : Nat) : Fld := ⟨(R.HIF_MOD_C n), 8, 10⟩
abbrev HIF_MOD_C_COUNT (n : Nat) : Fld := ⟨(R.HIF_MOD_C n), 0, 8⟩
abbrev HIF_MOD_E_URG (n : Nat) : Fld := ⟨(R.HIF_MOD_E n), 31, 1⟩
abbrev HIF_MOD_E_CYC (n : Nat) : Fld := ⟨(R.HIF_MOD_E n), 30, 1⟩
abbrev HIF_MOD_E_TIME (n : Nat) : Fld := ⟨(R.HIF_MOD_E n), 8, 10⟩
abbrev HIF_MOD_E_COUNT (n : Nat) : Fld := ⟨(R.HIF_MOD_E n), 0, 8⟩
abbrev HIF_EVMASK_EN (n : Nat) : Fld := ⟨(R.HIF_EVMASK n), 1, 12⟩
abbrev HIF_PSTAT_INFLIGHT (n : Nat) : Fld := ⟨(R.HIF_PSTAT n), 16, 8⟩
abbrev HIF_PSTAT_EVT_LOST (n : Nat) : Fld := ⟨(R.HIF_PSTAT n), 0, 16⟩
abbrev HIF_WBASE_LO_BASE (n k : Nat) : Fld := ⟨(R.HIF_WBASE_LO n k), 12, 20⟩
abbrev HIF_WBASE_HI_BASE (n k : Nat) : Fld := ⟨(R.HIF_WBASE_HI n k), 0, 32⟩
abbrev HIF_WCTRL_VALID (n k : Nat) : Fld := ⟨(R.HIF_WCTRL n k), 31, 1⟩
abbrev HIF_WCTRL_BUSY (n k : Nat) : Fld := ⟨(R.HIF_WCTRL n k), 30, 1⟩
abbrev HIF_WCTRL_WR (n k : Nat) : Fld := ⟨(R.HIF_WCTRL n k), 7, 1⟩
abbrev HIF_WCTRL_RD (n k : Nat) : Fld := ⟨(R.HIF_WCTRL n k), 6, 1⟩
abbrev HIF_WCTRL_LOG2 (n k : Nat) : Fld := ⟨(R.HIF_WCTRL n k), 0, 5⟩

end F

/-- The registers of the block at 0x40000000. -/
def regBlock_40000 : List RegRow := [
  ⟨0x40000000, 1, 0x4, 1, 0x4, 0x6400 + 0x10000 * Config.grade, 0x0, 0x0, 0x0⟩,
  ⟨0x40000004, 1, 0x4, 1, 0x4, 0x100, 0x0, 0x0, 0x0⟩,
  ⟨0x40000008, 1, 0x4, 1, 0x4, 0x0, 0x0, 0x0, 0x0⟩,
  ⟨0x4000000c, 1, 0x4, 1, 0x4, 0x401840, 0x0, 0x0, 0x0⟩,
  ⟨0x40000010, 1, 0x4, 1, 0x4, 0x0, 0x0, 0x0, 0x0⟩,
  ⟨0x40000014, 1, 0x4, 1, 0x4, 0x0, 0x0, 0x60000, 0x0⟩,
  ⟨0x40000018, 1, 0x4, 1, 0x4, Config.vendorId % 0x10000, 0x0, 0x0, 0x0⟩]

/-- The registers of the block at 0x40001000. -/
def regBlock_40001 : List RegRow := [
  ⟨0x40001000, 1, 0x4, 1, 0x4, 0x0, 0x0, 0xfff, 0x0⟩,
  ⟨0x40001004, 1, 0x4, 1, 0x4, 0x1000000, 0x0, 0x0, 0x0⟩,
  ⟨0x40001008, 1, 0x4, 1, 0x4, 0x0, 0x0, 0x0, 0xffff0003⟩,
  ⟨0x4000100c, 1, 0x4, 1, 0x4, 0x1, 0x1, 0x0, 0x0⟩,
  ⟨0x40001010, 1, 0x4, 1, 0x4, 0x0, 0xff, 0x0, 0x0⟩,
  ⟨0x40001014, 1, 0x4, 1, 0x4, 0x0, 0xffffff, 0x0, 0x0⟩,
  ⟨0x40001018, 1, 0x4, 1, 0x4, 0x0, 0x0, 0x0, 0x0⟩,
  ⟨0x4000101c, 1, 0x4, 1, 0x4, 0x1, 0x0, 0x0, 0x0⟩,
  ⟨0x40001020, 1, 0x4, 1, 0x4, 0x0, 0x0, 0x0, 0x0⟩]

/-- The registers of the block at 0x40002000. -/
def regBlock_40002 : List RegRow := [
  ⟨0x40002000, 1, 0x4, 1, 0x4, 0xc0, 0x0, 0x0, 0x0⟩,
  ⟨0x40002010, 4, 0x4, 1, 0x4, Config.nominalStep, 0xf, 0x0, 0x0⟩,
  ⟨0x40002020, 1, 0x4, 1, 0x4, 0x0, 0x0, 0x2, 0x0⟩,
  ⟨0x40002030, 1, 0x4, 1, 0x4, 0x7f, 0xf7f, 0x0, 0x0⟩,
  ⟨0x40002034, 1, 0x4, 1, 0x4, 0x0, 0x0, 0x7f, 0x0⟩,
  ⟨0x40002040, 1, 0x4, 1, 0x4, 0x1, 0x3, 0x0, 0x0⟩,
  ⟨0x40002044, 1, 0x4, 1, 0x4, 0x3e8, 0x1ffff, 0x0, 0x0⟩,
  ⟨0x40002048, 1, 0x4, 1, 0x4, 0x0, 0x0, 0x0, 0x0⟩,
  ⟨0x4000204c, 1, 0x4, 1, 0x4, 0x0, 0x0, 0x0, 0x0⟩]

/-- The registers of the block at 0x40003000. -/
def regBlock_40003 : List RegRow := [
  ⟨0x40003000, 1, 0x4, 1, 0x4, 0x0, 0x0, 0x0, 0x0⟩,
  ⟨0x40003004, 1, 0x4, 1, 0x4, 0xff, 0xffff, 0x0, 0x0⟩,
  ⟨0x40003008, 1, 0x4, 1, 0x4, 0xff, 0x0, 0xffff0000, 0x0⟩,
  ⟨0x40003010, 1, 0x4, 1, 0x4, 0x0, 0x0, 0x0, 0xffff0003⟩,
  ⟨0x40003014, 1, 0x4, 1, 0x4, 0x0, 0x0, 0xc0000000, 0x0⟩,
  ⟨0x40003018, 1, 0x4, 1, 0x4, 0x0, 0x0, 0x80000000, 0x0⟩,
  ⟨0x4000301c, 1, 0x4, 1, 0x4, 0x0, 0x0, 0xffffffff, 0x0⟩,
  ⟨0x40003040, 1, 0x4, 1, 0x4, 0x2014400a, 0xf01f7fff, 0x0, 0x0⟩,
  ⟨0x40003044, 1, 0x4, 1, 0x4, 0x38402bc, 0x3ff03ff, 0x0, 0x0⟩,
  ⟨0x40003048, 1, 0x4, 1, 0x4, 0x320, 0x3ff, 0x0, 0x0⟩,
  ⟨0x4000304c, 1, 0x4, 1, 0x4, 0x320, 0x0, 0x70000000, 0x0⟩,
  ⟨0x40003050, 1, 0x4, 1, 0x4, 0x0, 0x0, 0x0, 0x0⟩,
  ⟨0x40003054, 1, 0x4, 1, 0x4, 0x0, 0x0, 0x0, 0x0⟩,
  ⟨0x40003058, 1, 0x4, 1, 0x4, 0x0, 0x0, 0x0, 0x0⟩,
  ⟨0x40003060, 1, 0x4, 1, 0x4, 0x1f, 0x1f, 0x0, 0x0⟩]

/-- The registers of the block at 0x40004000. -/
def regBlock_40004 : List RegRow := [
  ⟨0x40004000, 1, 0x4, 1, 0x4, 0x0, 0x0, 0x0, 0x0⟩,
  ⟨0x40004004, 1, 0x4, 1, 0x4, 0x0, 0x0, 0x0, 0xff⟩,
  ⟨0x40004008, 1, 0x4, 1, 0x4, 0x0, 0x0, 0x0, 0x800000ff⟩,
  ⟨0x4000400c, 1, 0x4, 1, 0x4, 0x0, 0x0, 0x0, 0x0⟩,
  ⟨0x40004010, 1, 0x4, 1, 0x4, 0x0, 0x0, 0x0, 0x0⟩,
  ⟨0x40004014, 1, 0x4, 1, 0x4, 0x0, 0x0, 0x0, 0x0⟩,
  ⟨0x40004018, 1, 0x4, 1, 0x4, 0x0, 0x0, 0x0, 0x0⟩,
  ⟨0x40004100, 8, 0x4, 1, 0x4, 0x0, 0xffffffff, 0x0, 0x0⟩,
  ⟨0x40004120, 8, 0x4, 1, 0x4, 0x0, 0xffffffff, 0x0, 0x0⟩,
  ⟨0x40004140, 8, 0x4, 1, 0x4, 0x0, 0x0, 0xffffffff, 0x0⟩,
  ⟨0x40004200, 32, 0x4, 1, 0x4, 0x0, 0x0, 0x0, 0x0⟩,
  ⟨0x40004400, 256, 0x4, 1, 0x4, 0x0, 0xff3b, 0x0, 0x0⟩,
  ⟨0x40004f00, 1, 0x4, 1, 0x4, 0x0, 0x0, 0x0, 0x0⟩,
  ⟨0x40004f04, 1, 0x4, 1, 0x4, 0x0, 0x0, 0x0, 0x0⟩]

/-- The registers of the block at 0x40005000. -/
def regBlock_40005 : List RegRow := [
  ⟨0x40005000, 1, 0x4, 1, 0x4, 0x80000000, 0x0, 0x80000000, 0x0⟩,
  ⟨0x40005004, 1, 0x4, 1, 0x4, 0x0, 0xffffffff, 0x0, 0x0⟩,
  ⟨0x40005008, 1, 0x4, 1, 0x4, 0x0, 0x0, 0x0, 0x0⟩,
  ⟨0x4000500c, 1, 0x4, 1, 0x4, 0x0, 0xffffffff, 0x0, 0x0⟩,
  ⟨0x40005010, 1, 0x4, 1, 0x4, 0x0, 0x1f01, 0x0, 0x0⟩,
  ⟨0x40005014, 1, 0x4, 1, 0x4, 0x0, 0xffff, 0x0, 0x0⟩,
  ⟨0x40005018, 1, 0x4, 1, 0x4, 0x0, 0x0, 0x0, 0x0⟩,
  ⟨0x4000501c, 1, 0x4, 1, 0x4, 0x0, 0x0, 0x0, 0x0⟩,
  ⟨0x40005020, 1, 0x4, 1, 0x4, 0x0, 0xffffffff, 0x0, 0x0⟩]

/-- The registers of the block at 0x40006000. -/
def regBlock_40006 : List RegRow := [
  ⟨0x40006000, 3, 0x40, 1, 0x4, 0x0, 0xffff, 0x0, 0x0⟩,
  ⟨0x40006004, 3, 0x40, 1, 0x4, 0x0, 0xffff, 0x0, 0x0⟩,
  ⟨0x40006008, 3, 0x40, 1, 0x4, 0x0, 0x0, 0x0, 0x0⟩,
  ⟨0x4000600c, 3, 0x40, 1, 0x4, 0x55555555, 0xffffffff, 0x0, 0x0⟩,
  ⟨0x40006010, 3, 0x40, 1, 0x4, 0x0, 0xffff, 0x0, 0x0⟩,
  ⟨0x40006014, 3, 0x40, 1, 0x4, 0x0, 0xffffffff, 0x0, 0x0⟩,
  ⟨0x40006018, 3, 0x40, 1, 0x4, 0x0, 0xffffffff, 0x0, 0x0⟩,
  ⟨0x4000601c, 3, 0x40, 1, 0x4, 0x0, 0xffffffff, 0x0, 0x0⟩,
  ⟨0x40006020, 3, 0x40, 1, 0x4, 0x0, 0x0, 0xffff, 0x0⟩,
  ⟨0x400060f0, 1, 0x4, 1, 0x4, 0x0, 0xffffff, 0x0, 0x0⟩,
  ⟨0x400060f4, 1, 0x4, 1, 0x4, 0x0, 0x0, 0x0, 0x0⟩]

/-- The registers of the block at 0x40007000. -/
def regBlock_40007 : List RegRow := [
  ⟨0x40007000, 4, 0x20, 1, 0x4, 0x2, 0xf, 0x60000000, 0x0⟩,
  ⟨0x40007004, 4, 0x20, 1, 0x4, 0x0, 0xffffffff, 0x0, 0x0⟩,
  ⟨0x40007008, 4, 0x20, 1, 0x4, 0x0, 0xffffffff, 0x0, 0x0⟩,
  ⟨0x4000700c, 4, 0x20, 1, 0x4, 0x0, 0x0, 0x0, 0xffffffff⟩,
  ⟨0x40007010, 4, 0x20, 1, 0x4, 0x0, 0x0, 0x0, 0x0⟩,
  ⟨0x40007100, 1, 0x4, 1, 0x4, 0x0, 0xffffffff, 0x0, 0x0⟩,
  ⟨0x40007104, 1, 0x4, 1, 0x4, 0x0, 0x7ffffff, 0x0, 0x0⟩,
  ⟨0x40007108, 1, 0x4, 1, 0x4, 0x0, 0xffffffff, 0x0, 0x0⟩,
  ⟨0x4000710c, 1, 0x4, 1, 0x4, 0x0, 0x2, 0x0, 0x0⟩,
  ⟨0x40007110, 1, 0x4, 1, 0x4, 0x0, 0x0, 0x40000000, 0x0⟩,
  ⟨0x40007114, 1, 0x4, 1, 0x4, 0x0, 0x0, 0x0, 0x0⟩,
  ⟨0x40007140, 1, 0x4, 1, 0x4, 0x8000000a, 0x800003ff, 0x0, 0x0⟩,
  ⟨0x40007144, 1, 0x4, 1, 0x4, 0x0, 0x0, 0x0, 0x0⟩,
  ⟨0x40007148, 1, 0x4, 1, 0x4, 0x0, 0x0, 0x80000000, 0x0⟩,
  ⟨0x4000714c, 1, 0x4, 1, 0x4, 0x0, 0x0, 0x0, 0x0⟩,
  ⟨0x40007150, 1, 0x4, 1, 0x4, 0x0, 0x0, 0x0, 0x0⟩,
  ⟨0x400071f0, 1, 0x4, 1, 0x4, 0x3, 0x3, 0x0, 0x0⟩]

/-- The registers of the block at 0x40008000. -/
def regBlock_40008 : List RegRow := [
  ⟨0x40008000, 1, 0x4, 1, 0x4, 0x0, 0x0, 0x0, 0x0⟩,
  ⟨0x40008004, 1, 0x4, 1, 0x4, 0x0, 0x0, 0x0, 0x0⟩,
  ⟨0x40008008, 1, 0x4, 1, 0x4, 0x0, 0x0, 0x0, 0x0⟩,
  ⟨0x4000800c, 1, 0x4, 1, 0x4, 0x0, 0x0, 0xc0000000, 0x0⟩,
  ⟨0x40008010, 1, 0x4, 1, 0x4, 0x0, 0x0, 0xffff, 0x0⟩,
  ⟨0x40008014, 1, 0x4, 1, 0x4, 0x3, 0x3, 0x0, 0x0⟩,
  ⟨0x40008100, 16, 0x20, 1, 0x4, 0x0, 0x3f, 0x0, 0x0⟩,
  ⟨0x40008104, 16, 0x20, 1, 0x4, 0x0, 0xffffffff, 0x0, 0x0⟩,
  ⟨0x40008108, 16, 0x20, 1, 0x4, 0x0, 0x0, 0x0, 0x0⟩,
  ⟨0x4000810c, 16, 0x20, 1, 0x4, 0x0, 0x0, 0x80000000, 0x0⟩,
  ⟨0x40008110, 16, 0x20, 1, 0x4, 0x0, 0x0, 0x0, 0x0⟩,
  ⟨0x40008114, 16, 0x20, 1, 0x4, 0x0, 0x0, 0x0, 0x0⟩,
  ⟨0x40008118, 16, 0x20, 1, 0x4, 0x0, 0x0, 0x0, 0x0⟩,
  ⟨0x4000811c, 16, 0x20, 1, 0x4, 0x0, 0x0, 0x0, 0x0⟩]

/-- The registers of the block at 0x40009000. -/
def regBlock_40009 : List RegRow := [
  ⟨0x40009000, 1, 0x4, 1, 0x4, 0x0, 0x0, 0x30000000, 0x0⟩,
  ⟨0x40009004, 1, 0x4, 1, 0x4, 0x0, 0xffff8, 0x0, 0x0⟩,
  ⟨0x40009008, 1, 0x4, 1, 0x4, 0xffffffff, 0xffffffff, 0x0, 0x0⟩,
  ⟨0x4000900c, 1, 0x4, 1, 0x4, 0xffffffff, 0xffffffff, 0x0, 0x0⟩,
  ⟨0x40009010, 1, 0x4, 1, 0x4, 0x0, 0x7, 0x0, 0x0⟩,
  ⟨0x40009014, 1, 0x4, 1, 0x4, 0x0, 0x0, 0x0, 0x0⟩,
  ⟨0x40009018, 1, 0x4, 1, 0x4, 0x0, 0x0, 0x0, 0x0⟩,
  ⟨0x4000901c, 1, 0x4, 1, 0x4, 0x3, 0x3, 0x0, 0x0⟩]

/-- The registers of the block at 0x4000a000. -/
def regBlock_4000a : List RegRow := [
  ⟨0x4000a000, 1, 0x4, 1, 0x4, 0x0, 0x0, 0x0, 0x0⟩,
  ⟨0x4000a004, 1, 0x4, 1, 0x4, 0x0, 0x7, 0x0, 0x0⟩,
  ⟨0x4000a008, 1, 0x4, 1, 0x4, 0x0, 0x0, 0x0, 0xffffffff⟩,
  ⟨0x4000a00c, 1, 0x4, 1, 0x4, 0x0, 0x0, 0x0, 0xffffffff⟩,
  ⟨0x4000a010, 1, 0x4, 1, 0x4, 0x0, 0x0, 0x0, 0xffffffff⟩,
  ⟨0x4000a014, 1, 0x4, 1, 0x4, 0x0, 0x0, 0x0, 0x0⟩,
  ⟨0x4000a018, 1, 0x4, 1, 0x4, 0x0, 0x0, 0x80000000, 0x0⟩,
  ⟨0x4000a020, 1, 0x4, 1, 0x4, 0x0, 0xffffffff, 0x0, 0x0⟩,
  ⟨0x4000a024, 1, 0x4, 1, 0x4, 0x0, 0xffffffff, 0x0, 0x0⟩,
  ⟨0x4000a028, 1, 0x4, 1, 0x4, 0x0, 0xffffffff, 0x0, 0x0⟩,
  ⟨0x4000a02c, 1, 0x4, 1, 0x4, 0x0, 0x0, 0x0, 0x0⟩,
  ⟨0x4000a030, 1, 0x4, 1, 0x4, 0x0, 0x0, 0x40000000, 0x0⟩,
  ⟨0x4000a040, 1, 0x4, 1, 0x4, 0x3, 0x3, 0x0, 0x0⟩,
  ⟨0x4000a044, 1, 0x4, 1, 0x4, 0x0, 0x3, 0x0, 0x0⟩,
  ⟨0x4000a048, 1, 0x4, 1, 0x4, 0x0, 0x0, 0x20000000, 0x0⟩,
  ⟨0x4000a04c, 1, 0x4, 1, 0x4, 0x0, 0x0, 0x0, 0x0⟩,
  ⟨0x4000a050, 1, 0x4, 1, 0x4, 0x0, 0x0, 0x0, 0x0⟩,
  ⟨0x4000a054, 1, 0x4, 1, 0x4, 0x0, 0x0, 0x0, 0x0⟩,
  ⟨0x4000a058, 1, 0x4, 1, 0x4, 0x0, 0x0, 0x0, 0x0⟩,
  ⟨0x4000a05c, 1, 0x4, 1, 0x4, 0x0, 0x0, 0x0, 0x0⟩,
  ⟨0x4000a060, 1, 0x4, 1, 0x4, 0xf, 0xf, 0x0, 0x0⟩]

/-- The registers of the block at 0x4000c000. -/
def regBlock_4000c : List RegRow := [
  ⟨0x4000c004, 1, 0x4, 1, 0x4, 0x0, 0x0, 0x0, 0x0⟩,
  ⟨0x4000c010, 1, 0x4, 1, 0x4, 0x20, 0x3f, 0x0, 0x0⟩,
  ⟨0x4000c014, 1, 0x4, 1, 0x4, 0x0, 0x0, 0x0, 0x0⟩,
  ⟨0x4000c020, 8, 0x4, 1, 0x4, 0x0, 0x0, 0x0, 0x0⟩,
  ⟨0x4000c040, 1, 0x4, 1, 0x4, 0x3, 0x3, 0x0, 0x0⟩]

/-- The registers of the block at 0x4000d000. -/
def regBlock_4000d : List RegRow := [
  ⟨0x4000d000, 1, 0x4, 1, 0x4, 0xf, 0xf, 0x0, 0x0⟩,
  ⟨0x4000d004, 1, 0x4, 1, 0x4, 0x0, 0x0, 0xf0004000, 0x0⟩,
  ⟨0x4000d010, 4, 0x4, 1, 0x4, 0x80008000, 0x0, 0x0, 0x0⟩,
  ⟨0x4000d020, 4, 0x4, 1, 0x4, 0x80008000, 0x0, 0x0, 0x0⟩,
  ⟨0x4000d030, 1, 0x4, 1, 0x4, 0x0, 0x3f, 0x0, 0x0⟩,
  ⟨0x4000d034, 1, 0x4, 1, 0x4, 0xffff8000, 0x0, 0x0, 0x0⟩,
  ⟨0x4000d040, 4, 0x4, 1, 0x4, 0x0, 0x0, 0x0, 0x0⟩,
  ⟨0x4000d050, 1, 0x4, 1, 0x4, 0x801, 0xffff, 0x0, 0x0⟩,
  ⟨0x4000d054, 1, 0x4, 1, 0x4, 0x8, 0xffff, 0x0, 0x0⟩,
  ⟨0x4000d058, 1, 0x4, 1, 0x4, 0x64, 0xfff, 0x0, 0x0⟩,
  ⟨0x4000d060, 8, 0x4, 1, 0x4, 0x8000, 0x0, 0x0, 0x0⟩,
  ⟨0x4000d080, 8, 0x4, 1, 0x4, 0x8000, 0x0, 0x0, 0x0⟩,
  ⟨0x4000d0a0, 1, 0x4, 1, 0x4, 0x44c, 0xffff, 0x0, 0x0⟩,
  ⟨0x4000d0b0, 1, 0x4, 1, 0x4, 0x0, 0x0, 0x0, 0x0⟩,
  ⟨0x4000d0c0, 1, 0x4, 1, 0x4, 0x0, 0x0, 0x0, 0xffffffff⟩,
  ⟨0x4000d0c4, 1, 0x4, 1, 0x4, 0x0, 0x0, 0x0, 0x0⟩,
  ⟨0x4000d0d0, 1, 0x4, 1, 0x4, 0xf, 0xf, 0x0, 0x0⟩,
  ⟨0x4000de00, 1, 0x4, 1, 0x4, 0x0, 0xff, 0x0, 0x0⟩,
  ⟨0x4000de04, 1, 0x4, 1, 0x4, 0x0, 0x0, 0x0, 0x0⟩,
  ⟨0x4000de08, 1, 0x4, 1, 0x4, 0x0, 0x0, 0x0, 0x0⟩,
  ⟨0x4000de0c, 1, 0x4, 1, 0x4, 0x0, 0x0, 0x0, 0x0⟩,
  ⟨0x4000de10, 1, 0x4, 1, 0x4, 0x20000000, 0x20000000, 0x40000000, 0x0⟩]

/-- The registers of the block at 0x4000e000. -/
def regBlock_4000e : List RegRow := [
  ⟨0x4000e000, 1, 0x4, 1, 0x4, 0x6400, 0xff75, 0x0, 0x0⟩,
  ⟨0x4000e004, 1, 0x4, 1, 0x4, 0x0, 0x0, 0x4, 0x0⟩,
  ⟨0x4000e008, 1, 0x4, 1, 0x4, 0x3e8, 0x1ffff, 0x0, 0x0⟩,
  ⟨0x4000e00c, 1, 0x4, 1, 0x4, 0x0, 0x1ffff, 0x0, 0x0⟩,
  ⟨0x4000e010, 1, 0x4, 1, 0x4, 0xfa, 0x1ffff, 0x0, 0x0⟩,
  ⟨0x4000e014, 1, 0x4, 1, 0x4, 0x14, 0x1ffff, 0x0, 0x0⟩,
  ⟨0x4000e018, 1, 0x4, 1, 0x4, 0x2ee, 0x1ffff, 0x0, 0x0⟩,
  ⟨0x4000e01c, 1, 0x4, 1, 0x4, 0x30c, 0x1ffff, 0x0, 0x0⟩,
  ⟨0x4000e020, 1, 0x4, 1, 0x4, 0x384, 0x1ffff, 0x0, 0x0⟩,
  ⟨0x4000e024, 1, 0x4, 1, 0x4, 0x0, 0x1ffff, 0x0, 0x0⟩,
  ⟨0x4000e028, 1, 0x4, 1, 0x4, 0x41, 0x7f, 0x0, 0x0⟩,
  ⟨0x4000e030, 1, 0x4, 1, 0x4, 0x0, 0xffffffff, 0x0, 0x0⟩,
  ⟨0x4000e034, 1, 0x4, 1, 0x4, 0x0, 0x0, 0x0, 0x0⟩,
  ⟨0x4000e038, 1, 0x4, 1, 0x4, 0x0, 0x0, 0x0, 0x0⟩,
  ⟨0x4000e03c, 1, 0x4, 1, 0x4, 0x0, 0x0, 0x0, 0x0⟩,
  ⟨0x4000e040, 1, 0x4, 1, 0x4, 0xffffffff, 0x0, 0x0, 0x0⟩,
  ⟨0x4000e044, 1, 0x4, 1, 0x4, 0xffffffff, 0x0, 0x0, 0x0⟩,
  ⟨0x4000e048, 1, 0x4, 1, 0x4, 0x0, 0x0, 0x0, 0xffff033f⟩,
  ⟨0x4000e04c, 1, 0x4, 1, 0x4, 0x0, 0x0, 0xc0000000, 0x0⟩,
  ⟨0x4000e050, 4, 0x4, 1, 0x4, 0x0, 0x0, 0x0, 0x0⟩,
  ⟨0x4000e060, 4, 0x4, 1, 0x4, 0x0, 0x0, 0x0, 0x0⟩,
  ⟨0x4000e070, 1, 0x4, 1, 0x4, 0x0, 0x0, 0x0, 0x0⟩,
  ⟨0x4000e074, 1, 0x4, 1, 0x4, 0x0, 0x3f, 0x0, 0x0⟩,
  ⟨0x4000e078, 1, 0x4, 1, 0x4, 0x0, 0x0, 0x0, 0x0⟩,
  ⟨0x4000e07c, 1, 0x4, 1, 0x4, 0x0, 0x0, 0x0, 0x0⟩,
  ⟨0x4000e080, 1, 0x4, 1, 0x4, 0x0, 0x0, 0x0, 0x0⟩,
  ⟨0x4000e084, 1, 0x4, 1, 0x4, 0x0, 0x0, 0x0, 0x1⟩,
  ⟨0x4000e088, 1, 0x4, 1, 0x4, 0x1e, 0x1f, 0x0, 0x0⟩,
  ⟨0x4000e100, 1, 0x4, 1, 0x4, 0x0, 0xffffffff, 0x0, 0x0⟩,
  ⟨0x4000e104, 1, 0x4, 1, 0x4, 0x0, 0x3, 0x0, 0x0⟩,
  ⟨0x4000e108, 1, 0x4, 1, 0x4, 0x0, 0x0, 0x10000000, 0x0⟩,
  ⟨0x4000e10c, 1, 0x4, 1, 0x4, 0x0, 0x0, 0x0, 0x0⟩,
  ⟨0x4000e110, 1, 0x4, 1, 0x4, 0x0, 0x0, 0x0, 0x0⟩,
  ⟨0x4000e114, 1, 0x4, 1, 0x4, 0x0, 0x0, 0x0, 0x0⟩,
  ⟨0x4000e118, 1, 0x4, 1, 0x4, 0x1, 0x1, 0x0, 0x0⟩]

/-- The registers of the block at 0x4000f000. -/
def regBlock_4000f : List RegRow := [
  ⟨0x4000f000, 1, 0x4, 1, 0x4, 0x3, 0x3, 0x0, 0x0⟩,
  ⟨0x4000f004, 1, 0x4, 1, 0x4, 0x1111, 0x7777, 0x0, 0x0⟩,
  ⟨0x4000f008, 1, 0x4, 1, 0x4, 0x10, 0xff, 0x0, 0x0⟩,
  ⟨0x4000f00c, 1, 0x4, 1, 0x4, 0xffffffff, 0xffffffff, 0x0, 0x0⟩,
  ⟨0x4000f010, 1, 0x4, 1, 0x4, 0xffffffff, 0xffffffff, 0x0, 0x0⟩,
  ⟨0x4000f014, 1, 0x4, 1, 0x4, 0x0, 0x0, 0x0, 0x8000003f⟩,
  ⟨0x4000f018, 1, 0x4, 1, 0x4, 0x0, 0x0, 0x0, 0x0⟩,
  ⟨0x4000f020, 1, 0x4, 1, 0x4, 0x0, 0x0, 0x0, 0x0⟩,
  ⟨0x4000f024, 1, 0x4, 1, 0x4, 0x0, 0x0, 0x0, 0x0⟩,
  ⟨0x4000f028, 1, 0x4, 1, 0x4, 0x0, 0x0, 0x0, 0x0⟩,
  ⟨0x4000f02c, 1, 0x4, 1, 0x4, 0x0, 0x0, 0x0, 0x0⟩,
  ⟨0x4000f030, 1, 0x4, 1, 0x4, 0x0, 0x0, 0x80000000, 0x0⟩,
  ⟨0x4000f040, 4, 0x4, 1, 0x4, 0x0, 0x0, 0x80000000, 0x0⟩,
  ⟨0x4000f050, 1, 0x4, 1, 0x4, 0x0, 0x0, 0x80000000, 0x0⟩,
  ⟨0x4000f054, 1, 0x4, 1, 0x4, 0x0, 0x0, 0x0, 0xc0007fff⟩,
  ⟨0x4000f058, 1, 0x4, 1, 0x4, 0x0, 0x0, 0x0, 0x0⟩,
  ⟨0x4000f060, 1, 0x4, 1, 0x4, 0x0, 0x0, 0x0, 0x0⟩,
  ⟨0x4000f064, 1, 0x4, 1, 0x4, 0x0, 0x0, 0x0, 0x0⟩,
  ⟨0x4000f068, 1, 0x4, 1, 0x4, 0x0, 0x0, 0x0, 0x0⟩,
  ⟨0x4000f06c, 1, 0x4, 1, 0x4, 0x0, 0x0, 0x0, 0x0⟩,
  ⟨0x4000f070, 1, 0x4, 1, 0x4, 0x0, 0x0, 0x0, 0x0⟩,
  ⟨0x4000f074, 1, 0x4, 1, 0x4, 0x0, 0x0, 0x0, 0x0⟩,
  ⟨0x4000f078, 1, 0x4, 1, 0x4, 0x0, 0x0, 0x0, 0x0⟩,
  ⟨0x4000f07c, 1, 0x4, 1, 0x4, 0x0, 0x0, 0x0, 0x0⟩,
  ⟨0x4000f080, 1, 0x4, 1, 0x4, 0x0, 0x0, 0x0, 0x0⟩,
  ⟨0x4000f084, 1, 0x4, 1, 0x4, 0x0, 0x0, 0x0, 0x0⟩,
  ⟨0x4000f088, 1, 0x4, 1, 0x4, 0x0, 0x0, 0x0, 0x0⟩,
  ⟨0x4000f08c, 1, 0x4, 1, 0x4, 0x0, 0x0, 0x0, 0x0⟩,
  ⟨0x4000f090, 1, 0x4, 1, 0x4, 0x0, 0x0, 0x0, 0x1⟩,
  ⟨0x4000f094, 1, 0x4, 1, 0x4, 0x7, 0x7, 0x0, 0x0⟩,
  ⟨0x4000f0a0, 1, 0x4, 1, 0x4, 0x0, 0xfff, 0x0, 0x0⟩,
  ⟨0x4000f0a4, 1, 0x4, 1, 0x4, 0x0, 0x0, 0x0, 0x0⟩,
  ⟨0x4000f0b0, 1, 0x4, 1, 0x4, 0x0, 0xffffffff, 0x0, 0x0⟩,
  ⟨0x4000f0b4, 1, 0x4, 1, 0x4, 0x0, 0x3, 0x0, 0x0⟩,
  ⟨0x4000f0b8, 1, 0x4, 1, 0x4, 0x0, 0x0, 0x10000000, 0x0⟩,
  ⟨0x4000f0bc, 1, 0x4, 1, 0x4, 0x0, 0x0, 0x0, 0x0⟩,
  ⟨0x4000f0c0, 1, 0x4, 1, 0x4, 0x0, 0x0, 0x0, 0x0⟩,
  ⟨0x4000f0c4, 1, 0x4, 1, 0x4, 0x0, 0x0, 0x0, 0x0⟩,
  ⟨0x4000f0c8, 1, 0x4, 1, 0x4, 0x0, 0x0, 0x0, 0x0⟩,
  ⟨0x4000f0cc, 1, 0x4, 1, 0x4, 0x0, 0x0, 0x40000000, 0x0⟩,
  ⟨0x4000ff00, 1, 0x4, 1, 0x4, 0x0, 0x3f0f, 0x0, 0x0⟩,
  ⟨0x4000ff04, 1, 0x4, 1, 0x4, 0x0, 0x0, 0x0, 0x0⟩,
  ⟨0x4000ff10, 4, 0x4, 1, 0x4, 0x0, 0x0, 0x0, 0x0⟩,
  ⟨0x4000ff20, 4, 0x4, 1, 0x4, 0x0, 0x0, 0x0, 0x0⟩,
  ⟨0x4000ff30, 1, 0x4, 1, 0x4, 0x0, 0x0, 0x0, 0xf⟩]

/-- The registers of the block at 0x40010000. -/
def regBlock_40010 : List RegRow := [
  ⟨0x40010000, 24, 0x1000, 1, 0x4, 0x0, 0x1, 0x0, 0x0⟩,
  ⟨0x40010004, 24, 0x1000, 1, 0x4, 0x10, 0x0, 0x0, 0x0⟩,
  ⟨0x40010008, 24, 0x1000, 1, 0x4, 0x64, 0x1fff, 0x0, 0x0⟩,
  ⟨0x4001000c, 24, 0x1000, 1, 0x4, 0x8, 0xff, 0x0, 0x0⟩,
  ⟨0x40010010, 24, 0x1000, 1, 0x4, 0x0, 0x0, 0x0, 0x0⟩,
  ⟨0x40010014, 24, 0x1000, 1, 0x4, 0x0, 0x0, 0x0, 0x0⟩,
  ⟨0x40010018, 24, 0x1000, 1, 0x4, 0x0, 0x0, 0x0, 0x0⟩,
  ⟨0x4001001c, 24, 0x1000, 1, 0x4, 0x0, 0x0, 0x0, 0x0⟩,
  ⟨0x40010020, 24, 0x1000, 1, 0x4, 0x1, 0x1f, 0x0, 0x0⟩,
  ⟨0x40010024, 24, 0x1000, 1, 0x4, 0x0, 0x0, 0x0, 0x0⟩,
  ⟨0x40010028, 24, 0x1000, 1, 0x4, 0x0, 0x0, 0x0, 0x0⟩,
  ⟨0x4001002c, 24, 0x1000, 1, 0x4, 0x0, 0x0, 0x0, 0x80001f3f⟩,
  ⟨0x40010030, 24, 0x1000, 1, 0x4, 0x0, 0x0, 0x0, 0x0⟩,
  ⟨0x40010040, 24, 0x1000, 1, 0x4, 0x0, 0x0, 0x0, 0x0⟩,
  ⟨0x40010044, 24, 0x1000, 1, 0x4, 0x0, 0x0, 0x0, 0x0⟩,
  ⟨0x40010048, 24, 0x1000, 1, 0x4, 0x0, 0x0, 0x0, 0x0⟩,
  ⟨0x4001004c, 24, 0x1000, 1, 0x4, 0x0, 0x0, 0x0, 0x0⟩,
  ⟨0x40010050, 24, 0x1000, 1, 0x4, 0x0, 0x0, 0x0, 0x0⟩,
  ⟨0x40010054, 24, 0x1000, 1, 0x4, 0x0, 0x0, 0x0, 0x0⟩,
  ⟨0x40010058, 24, 0x1000, 1, 0x4, 0x0, 0x0, 0x0, 0x0⟩,
  ⟨0x4001005c, 24, 0x1000, 1, 0x4, 0x0, 0x0, 0x0, 0x0⟩,
  ⟨0x40010060, 24, 0x1000, 1, 0x4, 0x0, 0x0, 0x0, 0x0⟩,
  ⟨0x4001007c, 24, 0x1000, 1, 0x4, 0x0, 0x0, 0x0, 0x1⟩,
  ⟨0x40010080, 24, 0x1000, 1, 0x4, 0x50a02, 0xffff0f, 0x0, 0x0⟩,
  ⟨0x40010084, 24, 0x1000, 1, 0x4, 0x0, 0x0, 0x0, 0xffffffff⟩,
  ⟨0x40010088, 24, 0x1000, 1, 0x4, 0x0, 0x0, 0x0, 0xffffffff⟩,
  ⟨0x4001008c, 24, 0x1000, 1, 0x4, 0x0, 0x0, 0x80000000, 0x0⟩,
  ⟨0x40010090, 24, 0x1000, 1, 0x4, 0x0, 0x0, 0x0, 0x0⟩,
  ⟨0x400100a0, 24, 0x1000, 1, 0x4, 0x3e80100, 0xffff1ffc, 0x0, 0x0⟩,
  ⟨0x400100a4, 24, 0x1000, 1, 0x4, 0x0, 0xfffff, 0x0, 0x0⟩,
  ⟨0x400100a8, 24, 0x1000, 1, 0x4, 0x0, 0x0, 0xc, 0x0⟩,
  ⟨0x400100ac, 24, 0x1000, 1, 0x4, 0x0, 0x0, 0x0, 0x0⟩,
  ⟨0x400100b0, 24, 0x1000, 1, 0x4, 0x0, 0x0, 0x0, 0x0⟩,
  ⟨0x400100c0, 24, 0x1000, 1, 0x4, 0xb, 0xf, 0x0, 0x0⟩]

/-- The registers of the block at 0x40030000. -/
def regBlock_40030 : List RegRow := [
  ⟨0x40030000, 1, 0x4, 1, 0x4, 0x0, 0x27, 0x0, 0x0⟩,
  ⟨0x40030004, 1, 0x4, 1, 0x4, 0x0, 0x0, 0x0, 0x0⟩,
  ⟨0x40030008, 1, 0x4, 1, 0x4, 0x501, 0xff1f, 0x0, 0x0⟩,
  ⟨0x4003000c, 1, 0x4, 1, 0x4, 0x0, 0x0, 0x0, 0x0⟩,
  ⟨0x40030010, 1, 0x4, 1, 0x4, 0x0, 0x0, 0x80000000, 0x0⟩,
  ⟨0x40030014, 1, 0x4, 1, 0x4, 0x0, 0x0, 0x0, 0x0⟩,
  ⟨0x40030018, 1, 0x4, 1, 0x4, 0x0, 0xffffffff, 0x0, 0x0⟩,
  ⟨0x4003001c, 1, 0x4, 1, 0x4, 0x0, 0x0, 0x0, 0x0⟩,
  ⟨0x40030020, 1, 0x4, 1, 0x4, 0x0, 0xffffffff, 0x0, 0x0⟩,
  ⟨0x40030030, 1, 0x4, 1, 0x4, 0x0, 0x0, 0x0, 0x0⟩,
  ⟨0x40030034, 1, 0x4, 1, 0x4, 0x0, 0x0, 0x0, 0x0⟩,
  ⟨0x40030038, 1, 0x4, 1, 0x4, 0x0, 0x0, 0x0, 0x0⟩,
  ⟨0x4003003c, 1, 0x4, 1, 0x4, 0x0, 0x0, 0x0, 0x0⟩,
  ⟨0x40030040, 1, 0x4, 1, 0x4, 0x0, 0x0, 0x0, 0x0⟩,
  ⟨0x40030044, 1, 0x4, 1, 0x4, 0x0, 0x0, 0x0, 0x0⟩,
  ⟨0x40030050, 1, 0x4, 1, 0x4, 0x0, 0x0, 0x0, 0x1⟩,
  ⟨0x40030054, 1, 0x4, 1, 0x4, 0xf, 0xf, 0x0, 0x0⟩]

/-- The registers of the block at 0x40031000. -/
def regBlock_40031 : List RegRow := [
  ⟨0x40031000, 6, 0x20, 1, 0x4, 0xa00, 0xff01, 0x0, 0x0⟩,
  ⟨0x40031004, 6, 0x20, 1, 0x4, 0x14, 0x7f, 0x0, 0x0⟩,
  ⟨0x40031008, 6, 0x20, 1, 0x4, 0xa, 0xff, 0x0, 0x0⟩,
  ⟨0x4003100c, 6, 0x20, 1, 0x4, 0x0, 0x0, 0x20, 0x0⟩,
  ⟨0x40031010, 6, 0x20, 1, 0x4, 0x0, 0x0, 0x0, 0x0⟩,
  ⟨0x400310c0, 1, 0x4, 1, 0x4, 0xc8, 0xffff, 0x0, 0x0⟩,
  ⟨0x400310c4, 1, 0x4, 1, 0x4, 0x3f, 0x3f, 0x0, 0x0⟩]

/-- The registers of the block at 0x40032000. -/
def regBlock_40032 : List RegRow := [
  ⟨0x40032000, 1, 0x4, 1, 0x4, 0x6400 + 0x10000 * Config.grade, 0x0, 0x0, 0x0⟩,
  ⟨0x40032004, 1, 0x4, 1, 0x4, 0x0, 0x0, 0x0, 0x0⟩,
  ⟨0x40032008, 1, 0x4, 1, 0x4, 0x202040, 0xffffff, 0x0, 0x0⟩,
  ⟨0x4003200c, 1, 0x4, 1, 0x4, 0x100, 0xfff, 0x0, 0x0⟩,
  ⟨0x40032010, 1, 0x4, 1, 0x4, 0x0, 0x0, 0xc0000000, 0x0⟩,
  ⟨0x40032014, 1, 0x4, 1, 0x4, 0x0, 0x0, 0xf, 0x0⟩,
  ⟨0x40032018, 1, 0x4, 1, 0x4, 0xf, 0xf, 0x0, 0x0⟩,
  ⟨0x4003201c, 1, 0x4, 1, 0x4, 0x0, 0x0, 0x0, 0x0⟩,
  ⟨0x40032020, 1, 0x4, 1, 0x4, 0x0, 0x0, 0x0, 0x0⟩,
  ⟨0x40032024, 1, 0x4, 1, 0x4, 0x0, 0x0, 0x0, 0x0⟩,
  ⟨0x40032028, 1, 0x4, 1, 0x4, 0x0, 0x0, 0x0, 0x0⟩,
  ⟨0x4003202c, 1, 0x4, 1, 0x4, 0x0, 0x0, 0x0, 0x0⟩,
  ⟨0x40032800, 1, 0x4, 1, 0x4, 0x0, 0x3, 0x0, 0x0⟩,
  ⟨0x40032804, 1, 0x4, 1, 0x4, 0x0, 0xffffffff, 0x0, 0x0⟩,
  ⟨0x40032808, 1, 0x4, 1, 0x4, 0x0, 0xffffffff, 0x0, 0x0⟩,
  ⟨0x4003280c, 1, 0x4, 1, 0x4, 0x0, 0xffffffff, 0x0, 0x0⟩,
  ⟨0x40032810, 1, 0x4, 1, 0x4, 0x0, 0xffffffff, 0x0, 0x0⟩,
  ⟨0x40032814, 1, 0x4, 1, 0x4, 0x0, 0x0, 0x0, 0x0⟩,
  ⟨0x40032818, 1, 0x4, 1, 0x4, 0x0, 0x0, 0x0, 0x0⟩,
  ⟨0x4003281c, 1, 0x4, 1, 0x4, 0x0, 0x0, 0x0, 0xffffffff⟩,
  ⟨0x40032820, 1, 0x4, 1, 0x4, 0xa, 0x3ff, 0x0, 0x0⟩,
  ⟨0x40032824, 1, 0x4, 1, 0x4, 0x0, 0x0, 0x0, 0xffffffff⟩,
  ⟨0x40032828, 1, 0x4, 1, 0x4, 0x0, 0x0, 0x0, 0x0⟩]

/-- The registers of the block at 0x40033000. -/
def regBlock_40033 : List RegRow := [
  ⟨0x40033000, 1, 0x4, 1, 0x4, 0x0, 0x0, 0x0, 0x0⟩,
  ⟨0x40033004, 1, 0x4, 1, 0x4, 0x0, 0x0, 0x0, 0xffff0002⟩,
  ⟨0x40033008, 1, 0x4, 1, 0x4, 0x0, 0x0, 0x0, 0x0⟩,
  ⟨0x4003300c, 1, 0x4, 1, 0x4, 0x0, 0x0, 0x0, 0x0⟩,
  ⟨0x40033020, 8, 0x4, 1, 0x4, 0x0, 0x1e3f, 0x0, 0x0⟩,
  ⟨0x40033040, 1, 0x4, 1, 0x4, 0x0, 0x7f07, 0x0, 0x0⟩,
  ⟨0x40033044, 1, 0x4, 1, 0x4, 0x0, 0xbf870717, 0x0, 0x0⟩,
  ⟨0x40033048, 1, 0x4, 1, 0x4, 0x0, 0xffffffff, 0x0, 0x0⟩,
  ⟨0x4003304c, 1, 0x4, 1, 0x4, 0x0, 0xffffffff, 0x0, 0x0⟩,
  ⟨0x40033050, 1, 0x4, 1, 0x4, 0x3fff, 0x3fff, 0x0, 0x0⟩]

/-- The registers of the block at 0x40034000. -/
def regBlock_40034 : List RegRow := [
  ⟨0x40034000, 1, 0x4, 1, 0x4, 0x4000004, 0xff07801d, 0x0, 0x0⟩,
  ⟨0x40034004, 1, 0x4, 1, 0x4, 0x0, 0xff, 0x0, 0x0⟩,
  ⟨0x40034008, 1, 0x4, 1, 0x4, 0x7f, 0x7f, 0x0, 0x0⟩,
  ⟨0x4003400c, 1, 0x4, 1, 0x4, 0x0, 0x0, 0x0, 0x0⟩,
  ⟨0x40034010, 1, 0x4, 1, 0x4, 0x0, 0x0, 0x80000000, 0x0⟩,
  ⟨0x40034014, 1, 0x4, 1, 0x4, 0x0, 0x0, 0x0, 0xffffffff⟩]

/-- The registers of the block at 0x40035000. -/
def regBlock_40035 : List RegRow := [
  ⟨0x40035000, 4, 0x400, 1, 0x4, 0x0, 0xff, 0x0, 0x0⟩,
  ⟨0x40035004, 4, 0x400, 1, 0x4, 0x6c8060, 0xffffffe0, 0x0, 0x0⟩,
  ⟨0x40035008, 4, 0x400, 1, 0x4, 0x2, 0x0, 0xc, 0x0⟩,
  ⟨0x4003500c, 4, 0x400, 1, 0x4, 0x0, 0xf, 0x0, 0x0⟩]

/-- The registers of the block at 0x40036000. -/
def regBlock_40036 : List RegRow := [
  ⟨0x40036000, 2, 0x100, 1, 0x4, 0x0, 0xffffffff, 0x0, 0x0⟩,
  ⟨0x40036004, 2, 0x100, 1, 0x4, 0x3000000, 0xff033313, 0x0, 0x0⟩,
  ⟨0x40036008, 2, 0x100, 1, 0x4, 0x0, 0x0, 0x0, 0x0⟩,
  ⟨0x4003600c, 2, 0x100, 1, 0x4, 0x0, 0x3, 0x0, 0x0⟩,
  ⟨0x40036200, 2, 0x100, 1, 0x4, 0x0, 0x0, 0x0, 0x7ff⟩,
  ⟨0x40036204, 2, 0x100, 1, 0x4, 0x0, 0x0, 0x0, 0x0⟩,
  ⟨0x40036208, 2, 0x100, 1, 0x4, 0x0, 0x3, 0x0, 0x0⟩,
  ⟨0x4003620c, 2, 0x100, 1, 0x4, 0x0, 0x0, 0xe, 0x0⟩,
  ⟨0x40036210, 2, 0x100, 1, 0x4, 0x0, 0x3, 0x0, 0x0⟩]

/-- The registers of the block at 0x40037000. -/
def regBlock_40037 : List RegRow := [
  ⟨0x40037000, 8, 0x20, 1, 0x4, 0x0, 0x177, 0x0, 0x0⟩,
  ⟨0x40037004, 8, 0x20, 1, 0x4, 0x0, 0xffffffff, 0x0, 0x0⟩,
  ⟨0x40037008, 8, 0x20, 1, 0x4, 0xffffffff, 0xffffffff, 0x0, 0x0⟩,
  ⟨0x4003700c, 8, 0x20, 1, 0x4, 0x0, 0x0, 0x0, 0x0⟩,
  ⟨0x40037010, 8, 0x20, 1, 0x4, 0x0, 0x0, 0x0, 0x0⟩,
  ⟨0x40037014, 8, 0x20, 1, 0x4, 0x0, 0x0, 0x3, 0x0⟩,
  ⟨0x40037200, 1, 0x4, 1, 0x4, 0x3e80a00, 0xfffffffe, 0x0, 0x0⟩,
  ⟨0x40037204, 1, 0x4, 1, 0x4, 0x0, 0x0, 0x0, 0xffff⟩,
  ⟨0x40037208, 1, 0x4, 1, 0x4, 0x0, 0x0, 0x80000000, 0x0⟩,
  ⟨0x40037300, 1, 0x4, 1, 0x4, 0x3e80a00, 0xfffffffe, 0x0, 0x0⟩,
  ⟨0x40037304, 1, 0x4, 1, 0x4, 0x0, 0x0, 0x0, 0xffff⟩,
  ⟨0x40037308, 1, 0x4, 1, 0x4, 0x0, 0x0, 0x80000000, 0x0⟩]

/-- The registers of the block at 0x40038000. -/
def regBlock_40038 : List RegRow := [
  ⟨0x40038000, 1, 0x4, 1, 0x4, 0x0, 0x0, 0x0, 0xffffffff⟩,
  ⟨0x40038100, 1, 0x4, 1, 0x4, 0x0, 0x0, 0x0, 0x0⟩,
  ⟨0x40038104, 1, 0x4, 1, 0x4, 0x0, 0x0, 0x0, 0x0⟩,
  ⟨0x40038108, 1, 0x4, 1, 0x4, 0x0, 0x0, 0x0, 0x0⟩,
  ⟨0x4003810c, 1, 0x4, 1, 0x4, 0x0, 0x0, 0x0, 0x0⟩,
  ⟨0x40038110, 1, 0x4, 1, 0x4, 0x0, 0x0, 0x0, 0x0⟩,
  ⟨0x40038118, 1, 0x4, 1, 0x4, 0x0, 0x0, 0x0, 0x0⟩,
  ⟨0x4003811c, 1, 0x4, 1, 0x4, 0x0, 0x0, 0x0, 0x0⟩,
  ⟨0x40038120, 1, 0x4, 1, 0x4, 0x0, 0x0, 0x0, 0x0⟩]

/-- The registers of the block at 0x100000000. -/
def regBlock_100000 : List RegRow := [
  ⟨0x100001000, 64, 0x80, 1, 0x4, 0x0, 0x3f, 0x0, 0x0⟩,
  ⟨0x100001008, 64, 0x80, 6, 0x10, 0x0, 0xffffffc0, 0x0, 0x0⟩,
  ⟨0x10000100c, 64, 0x80, 6, 0x10, 0x0, 0xffffffff, 0x0, 0x0⟩,
  ⟨0x100001010, 64, 0x80, 6, 0x10, 0x4, 0xf, 0x0, 0x0⟩,
  ⟨0x100001014, 64, 0x80, 6, 0x10, 0x0, 0x0, 0x0, 0x0⟩,
  ⟨0x100001068, 64, 0x80, 1, 0x4, 0x80003208, 0xc003ffff, 0x0, 0x0⟩,
  ⟨0x10000106c, 64, 0x80, 1, 0x4, 0x80003208, 0xc003ffff, 0x0, 0x0⟩,
  ⟨0x100001070, 64, 0x80, 1, 0x4, 0x1ffe, 0x1ffe, 0x0, 0x0⟩,
  ⟨0x100001074, 64, 0x80, 1, 0x4, 0x0, 0x0, 0x0, 0x0⟩,
  ⟨0x100004000, 64, 0x100, 16, 0x10, 0x0, 0xfffff000, 0x0, 0x0⟩,
  ⟨0x100004004, 64, 0x100, 16, 0x10, 0x0, 0xffffffff, 0x0, 0x0⟩,
  ⟨0x100004008, 64, 0x100, 16, 0x10, 0xc, 0x800000df, 0x0, 0x0⟩]

/-- The rows of the block that the address lies in. -/
def regRows (a : Nat) : List RegRow :=
  if 0x100000000 ≤ a then regBlock_100000
  else if 0x40010000 ≤ a ∧ a < 0x40028000 then regBlock_40010
  else match a / 4096 with
  | 0x40000 => regBlock_40000
  | 0x40001 => regBlock_40001
  | 0x40002 => regBlock_40002
  | 0x40003 => regBlock_40003
  | 0x40004 => regBlock_40004
  | 0x40005 => regBlock_40005
  | 0x40006 => regBlock_40006
  | 0x40007 => regBlock_40007
  | 0x40008 => regBlock_40008
  | 0x40009 => regBlock_40009
  | 0x4000a => regBlock_4000a
  | 0x4000c => regBlock_4000c
  | 0x4000d => regBlock_4000d
  | 0x4000e => regBlock_4000e
  | 0x4000f => regBlock_4000f
  | 0x40030 => regBlock_40030
  | 0x40031 => regBlock_40031
  | 0x40032 => regBlock_40032
  | 0x40033 => regBlock_40033
  | 0x40034 => regBlock_40034
  | 0x40035 => regBlock_40035
  | 0x40036 => regBlock_40036
  | 0x40037 => regBlock_40037
  | 0x40038 => regBlock_40038
  | _ => []

/-- The address is one of the row's instances. -/
def RegRow.covers (r : RegRow) (a : Nat) : Bool :=
  decide (r.reg ≤ a) &&
    (let d := a - r.reg
     decide (d / r.s < r.n) && decide (d % r.s / r.t < r.m) && decide (d % r.s % r.t = 0)) || decide (a = r.reg)

/-- The row of the register at an address; `none` where no register stands (R15). -/
def regRow (a : Nat) : Option RegRow := (regRows a).find? (fun r => r.covers a)

/-- What a register that nothing has changed since its reset reads as (R13: the Reset column). -/
def regReset (a : Nat) : Word :=
  match regRow a with
  | some r => BitVec.ofNat 32 r.reset
  | none => 0

end Sys2Proof.Machine
end

