-- ==== Sys2Proof/Terms.lean ====
section
/-! DEFINITION. The operands that commands carry: processors, Gurno instruction fields, frames and records, as the
spec's formats name them. -/

namespace Sys2Proof

/-- The three kinds of Gurno processor (R116). -/
inductive ProcId where
  | le (n : Fin 64)
  | mc
  | sp
  deriving DecidableEq, Repr

/-- The Gurno operations: one for each instruction name of the opcode table (R128). -/
inductive GOp where
  | ld | st | ldx | stx | ldy | sty | ldh | ldb | sth | stb | leax | leay | mov | xch | ldu
  | add | sub | subr | mul | mulh | and | or | xor | shl | shr | sar | min | max | addx | addy
  | fadd | fsub | fmul | fdiv | fmac | fsubr | fmin | fmax | clamp | sat | fabs | fneg | itof | ftoi
  | cmp | fcmp | tst | pset | pand | por | pnot | br | call | ret | loop | sysc | sret | eret
  | nop | yield | wait | fence | mfs | mts
  deriving DecidableEq, Repr

/-- The fields of an instruction word besides its opcode, and the second word of an EXT instruction (R119). `rsv`: the OP field of a word
whose opcode or sub-operation is reserved, which stands in the NOP row (R121, R122; log entry 182). -/
structure Enc where
  pi  : Bool
  ps  : BitVec 2
  am  : BitVec 3
  opd : BitVec 20
  ext : Word
  rsv : Option (BitVec 6) := none
  deriving DecidableEq, Repr

/-- One instruction offered to a processor, with the clocks of stall it meets beyond the costs of R128 and R134 (the
spec gives those as averages only, R9). -/
structure Issue where
  p     : ProcId
  e     : Enc
  stall : Nat
  deriving DecidableEq, Repr

/-- The items of the configuration space (R283): identification, command, revision and class code, the address of one of the
three BARs, the subsystem, power management, device control of the PCI Express capability, MSI-X control, the places of the
MSI-X table and of its pending bits. -/
inductive CfgItem where
  | ids | command | classRev
  | bar (k : Fin 3) (upper : Bool)
  | ssid | power | devCtl | msixCtl | msixTable | msixPba
  | header | rom | capPtr | pmCap | pcieCap | devCap | linkCap
  deriving DecidableEq, Repr

/-- What the host addresses (R283, R284). -/
inductive HostSpace where
  | bar0 | bar2 | bar4
  | cfg (i : CfgItem)
  deriving DecidableEq, Repr

/-- An access of the host: its space, its width in bytes, and whether it reads. -/
structure HostAcc where
  space : HostSpace
  size : Nat
  read : Bool
  deriving DecidableEq, Repr

/-- Who accesses a register (R41, R285, R533): the MC, the SP, the debug port, or the host through its BARs and the
configuration space. -/
inductive Writer where
  | mc | sp | dbg
  | host (x : HostAcc)
  deriving DecidableEq, Repr

/-- A frame of the field link as received: header (R225), payload, check (R230), whether a code error or a framing fault of R217 fell
into it, and, at a station unit, whether port B received it (R247, R253). -/
structure Frame where
  type    : BitVec 8
  flags   : BitVec 8
  dest    : BitVec 8
  src     : BitVec 8
  epoch   : BitVec 8
  channel : BitVec 8
  seq     : BitVec 16
  len     : BitVec 16
  cycle   : BitVec 16
  payload : List Byte
  check   : Word
  fault   : Bool
  portB   : Bool
  deriving DecidableEq, Repr

/-- A K28.1 block as received (R218). -/
structure KBlock where
  cycle : BitVec 16
  flags : BitVec 8
  ofs   : BitVec 24
  crc   : BitVec 8
  fault : Bool
  deriving DecidableEq, Repr

/-- One input of a station (R237): VALUE, STN and Q. -/
structure InVal where
  value : Word
  stn   : BitVec 8
  q     : BitVec 2
  deriving DecidableEq, Repr

/-- What a station unit says of itself in IDENT_RSP (R246). -/
structure Ident where
  uid     : BitVec 64
  stype   : Word
  inMask  : BitVec 64
  outMask : BitVec 64
  fwdNs   : BitVec 16
  convUs  : BitVec 16
  deriving DecidableEq, Repr

/-- A command descriptor of a host ring (R295). -/
structure Desc where
  op    : BitVec 8
  flags : BitVec 8
  id    : BitVec 16
  arg0  : Word
  arg1  : Word
  arg2  : Word
  addr  : BitVec 64
  len   : Word
  arg3  : Word
  deriving DecidableEq, Repr

/-- What a read of host memory answers: the bytes, or an error response (R291). -/
inductive HostData where
  | bytes (l : List Byte)
  | error
  deriving DecidableEq, Repr

/-- A frame of the Twin Link as received (R483). -/
structure TwlFrame where
  type    : BitVec 8
  flags   : BitVec 8
  seq     : BitVec 16
  len     : BitVec 16
  rsv     : BitVec 16
  payload : List Byte
  check   : Word
  deriving DecidableEq, Repr

/-- What the ageing monitor measures in one window (R465): the window means of the 64 replicas in ps, canary counts of the
four clusters, and raw readings of the temperature and supply sensors. -/
structure AgmWindow where
  means  : List (BitVec 16)
  canary : List (BitVec 16)
  temp   : List (BitVec 16)
  vs     : List (BitVec 16)
  deriving DecidableEq, Repr

/-- The PLLs among the sources. -/
inductive Pll where
  | cl | mc | lk | pcie | twl
  deriving DecidableEq, Repr

/-- How a command ends on the bus. -/
inductive I2cEnd where
  | done (rx : BitVec 8)
  | nack
  | busError
  deriving DecidableEq, Repr

/-- A link's receiver acquires character synchronisation; `held`: it has kept it as long as TRAIN asks (R217, R260). -/
structure LinkSync where
  link : Fin 24
  held : Bool
  deriving DecidableEq, Repr

/-- A receiver declares loss of signal; `lasted`: it has lasted 1 ms. `unit`: `none`, the device's receiver of the link; else the
receiver of a station unit on port A or B (R217, R247). -/
structure LinkLos where
  link : Fin 24
  lasted : Bool
  unit : Option (Fin 32 × Bool)
  deriving DecidableEq, Repr

/-- Bits that the checker of a pattern test has received, each right or wrong; `ended`: LOOP_MS of a far-end test has passed (R276). -/
structure PatEvent where
  link : Fin 24
  rx : List Bool
  ended : Bool
  deriving DecidableEq, Repr

/-- A field power group with its shunt voltage as measured (R282). -/
structure Shunt where
  group : Fin 6
  uv : BitVec 16
  deriving DecidableEq, Repr

/-- The same at the end of LIMIT, with whether the gate stands at VDDFP (R279). -/
structure LimitEnd extends Shunt where
  gateUp : Bool
  deriving DecidableEq, Repr

/-- What the TAP takes in the DPACC row: an access with its OP, or another code of the instruction register (R531, R533; log entry 166). -/
inductive TapScan where
  | access (op : BitVec 2)
  | select (code : BitVec 5)
  deriving DecidableEq, Repr

/-- How a regulator transaction ends: READ_VOUT, or a failure with its ECODE (R455). -/
inductive AvsEnd where
  | vout (raw : BitVec 16)
  | nack | pec | scl
  deriving DecidableEq, Repr

end Sys2Proof
end

