-- ==== Sys2Proof/Machine/TypesCore.lean ====
section
/-! DEFINITION. The state of the control plane that stands in no register of the register map: processors, the
plan in force and its shadows, the Cycle Dispatcher and the Commit Unit (spec chapters 02 to 06). -/

namespace Sys2Proof.Machine

/-- Engine states (R88); the MC and the SP use `task`, `kernel` and `reset`. -/
inductive ProcState where
  | off | reset | idle | task | kernel | drain | retired
  deriving DecidableEq, Repr

/-- One hardware loop level (R136). -/
structure HwLoop where
  start : Word := 0
  stop  : Word := 0
  count : BitVec 16 := 0
  deriving DecidableEq, Repr

/-- What a store does at its target: plain bytes, or a part of a signal slot (R124). -/
inductive StoreKind where
  | plain
  | sig (part : Nat)
  deriving DecidableEq, Repr

/-- One entry of the store buffer (R101): address, size in bytes, data, the partition and generation it carries, the
loop block of the evaluation (R162), and the mode it was issued in. `hi` is the second word of a part-11 store. -/
structure StoreEntry where
  addr : Nat
  size : Nat
  data : Word
  hi   : Word
  kind : StoreKind
  part : Nat
  gen  : Nat
  blk  : Option Nat
  task : Bool
  deriving DecidableEq, Repr

/-- Why the pipeline holds an instruction (R85, R101, R141). -/
inductive StallWhy where
  | load | storeFull | fence
  deriving DecidableEq, Repr

/-- An instruction held at MA or by FENCE. -/
structure Stall where
  op  : GOp
  e   : Enc
  why : StallWhy
  deriving DecidableEq, Repr

/-- One predictor entry (R106). -/
structure PredEntry where
  valid : Bool := false
  tag   : Nat := 0
  ctr   : Nat := 0
  deriving DecidableEq, Repr

/-- The evaluation an engine holds: block, generation, dispatch budget, cycle and lateness (R90, R156, R63). -/
structure Eval where
  blk    : Nat
  gen    : Nat
  part   : Nat
  budget : Nat
  bg     : Bool
  late   : Bool
  /-- A late store error has arrived for one of its stores (R56). -/
  lse    : Bool := false
  deriving DecidableEq, Repr

/-- A debug comparator (R534). -/
structure Cmp where
  ctrl : Word := 0
  val  : Word := 0
  mask : Word := 0
  deriving DecidableEq, Repr

/-- A Gurno processor (R117). `st` holds ST without RSDEPTH, which is coded from `rsDepth` (R98). -/
structure Proc where
  a : Word := 0
  x : Word := 0
  y : Word := 0
  b : Word := 0
  p1 : Bool := false
  p2 : Bool := false
  p3 : Bool := false
  st : Word := 0x100
  pc : Word := 0
  lp0 : HwLoop := {}
  lp1 : HwLoop := {}
  lp2 : HwLoop := {}
  rs : SMap Word := []
  rsTop : Nat := 0
  rsDepth : Nat := 0
  epc : Word := 0
  estat : Word := 0
  vbr : Word := 0
  spc : Word := 0
  ssr : Word := 0
  fe : SMap Word := []
  lseAddr : Word := 0
  lseInfo : Word := 0
  lsePend : Bool := false
  sbl : Word := 0
  part : Nat := 0
  gen : Nat := 0
  cycnum : Word := 0
  ecnt : Nat := 0
  tbHi : Word := 0
  deriving DecidableEq, Repr

/-- What the last instructions leave to those behind them (R134, R135): X and Y as the last one and the one before it wrote them, the
predicates that the last one wrote (bit k: Pk), and the evaluation count from which A may be read, with whether FMAC wrote it. -/
structure Pipe where
  x1 : Bool := false
  y1 : Bool := false
  x2 : Bool := false
  y2 : Bool := false
  preds : Nat := 0
  aReady : Nat := 0
  aFmac : Bool := false
  deriving DecidableEq, Repr

/-- What surrounds a processor's registers: its state, store buffer, stall, predictor, counters, comparators. -/
structure Core where
  state : ProcState := .reset
  init : Bool := false
  gated : Bool := false
  halted : Bool := false
  stopped : Bool := false
  buf : List StoreEntry := []
  stall : Option Stall := none
  waiting : Option Nat := none
  pipe : Pipe := {}
  ev : Option Eval := none
  pred : SMap PredEntry := []
  brCount : Word := 0
  brMiss : Word := 0
  eccLim : Nat := 0
  eccLdm : Nat := 0
  cmps : SMap Cmp := []
  deriving DecidableEq, Repr

/-- A processor with what surrounds it. -/
structure Cpu where
  r : Proc := {}
  k : Core := {}
  deriving DecidableEq, Repr

/-- The MC's own special registers (R510): MPU regions, faults, NMI, lockstep. -/
structure McRegs where
  mpuBase : SMap Word := []
  mpuAttr : SMap Word := []
  mpuCtrl : Word := 2
  mpuFaddr : Word := 0
  mpuFinfo : Word := 0
  nmiStat : Word := 0
  nmiAct : Bool := false
  nmiNew : Bool := false
  lsStat : Word := 0
  deriving DecidableEq, Repr

/-! ### Plans (chapter 06) -/

/-- A dependency: an IN frame of a link and station, or a predecessor block (R182). -/
inductive Dep where
  | frame (link station : Nat)
  | pred (blk : Nat)
  deriving DecidableEq, Repr

/-- A loop block descriptor (R180) with its dependencies resolved (R182). -/
structure Block where
  entry : Nat := 0
  prog : Nat := 0
  part : Nat := 0
  prio : Nat := 0
  bg : Bool := false
  slack : Nat := 0
  steal : Bool := false
  ess : Bool := false
  home : Nat := 0
  rstrap : Bool := false
  cost : Nat := 0
  sbase : Nat := 0
  sbl : Nat := 0
  retofs : Nat := 0
  retlen : Nat := 0
  group : Option Nat := none
  gen : Nat := 0
  depcnt : Nat := 0
  deplist : Nat := 0
  trigOfs : Nat := 0
  trigN : Nat := 0
  deps : List Dep := []
  addr : Nat := 0
  deriving DecidableEq, Repr

/-- A partition record (R176). -/
structure PartRec where
  present : Bool := false
  restart : Bool := false
  hostAck : Bool := false
  prio : Nat := 0
  budget : Nat := 0
  quota : Nat := 0
  segVer : Nat := 0
  nLbd : Nat := 0
  nGroup : Nat := 0
  nSlot : Nat := 0
  deriving DecidableEq, Repr

/-- A program of a cluster's program table (R177). -/
structure Prog where
  id : Nat
  start : Nat
  len : Nat
  crc : Nat
  deriving DecidableEq, Repr

/-- A cluster's program set (R177): `kernel` holds the bytes of program 0, `ldm` the LDM image. -/
structure ProgSet where
  kinit : Nat := 0
  residency : Nat := 0
  progs : List Prog := []
  kernel : List Byte := []
  ldm : List Byte := []
  deriving DecidableEq, Repr

/-- A run of descriptors in one cluster (R179). -/
structure Extent where
  part : Nat
  cluster : Nat
  csmOfs : Nat
  first : Nat
  count : Nat
  deriving DecidableEq, Repr

/-- A binding entry (R192). KIND: 0 internal, 1 input-bound, 2 output-bound. -/
structure Bind where
  daddr : Nat := 0xFFFF
  owner : Nat := 0
  kind : Nat := 0
  ret : Bool := false
  int : Bool := false
  rset : Nat := 0
  deriving DecidableEq, Repr

/-- A SIGINIT entry (R194). -/
structure SigInit where
  slot : Nat
  value : Nat
  status : Nat
  deriving DecidableEq, Repr

/-- A commit group record (R195). -/
structure Group where
  owner : Nat := 0
  safe : Bool := false
  slots : List Nat := []
  deriving DecidableEq, Repr

/-- A station record of LINKCFG (R256). -/
structure StnCfg where
  addr : Nat := 0
  uidAny : Bool := false
  convMax : Nat := 0
  uid : Nat := 0
  stype : Nat := 0
  inMask : Nat := 0
  outMask : Nat := 0
  safe : List Nat := []
  deriving DecidableEq, Repr

/-- A link record of LINKCFG (R255) with its stations. -/
structure LinkCfg where
  en : Bool := false
  redundant : Bool := false
  fpg : Nat := 0xFF
  timeout : Nat := 0
  stns : List StnCfg := []
  deriving DecidableEq, Repr

/-- A plan in force, or the contents of an image (R172 to R196, R255). Absent sections are empty lists. -/
structure Plan where
  id : Nat := 0
  ver : Nat := 0
  parts : SMap PartRec := []
  sets : SMap ProgSet := []
  blocks : SMap Block := []
  extents : List Extent := []
  /-- The trigger directory of a cluster: its CSM offset and its lists as offset and count (R184). -/
  dirs : SMap (Nat × List (Nat × Nat)) := []
  binds : SMap Bind := []
  readsets : SMap Nat := []
  siginit : List SigInit := []
  groups : SMap Group := []
  links : SMap LinkCfg := []
  /-- CSMINIT data outside every other object: segment partition (64: whole plan), cluster, offset, length (R185). -/
  inits : List (Nat × Nat × Nat × Nat) := []
  deriving DecidableEq, Repr

/-- Who is told the end of a request: the register path, or the host command fetched under a serial number. -/
inductive Path where
  | regs
  | host (serial : Nat)
  deriving DecidableEq, Repr

/-- A loaded image waiting to come into force (R197, R201): READY, or PENDING since a commit request of `commit`. `plan`
holds what the image says; a segment's partition stands in `seg`; `writes` are the bytes that a cold plan puts into the
memories when it comes into force (R199). -/
structure Shadow where
  whole : Bool
  seg : Nat
  plan : Plan
  hot : Bool
  commit : Option Path
  writes : List (Nat × List Byte)
  /-- Clusters whose images the load left out because they were off, or lost with their supply since (R441, R442). -/
  left : List Nat := []
  deriving DecidableEq, Repr

/-- A load in progress (R198): a device address for the register path, a host address and length for a host command
of partition `part`. -/
structure Loading where
  src : Nat
  len : Nat
  part : Nat
  path : Path
  deriving DecidableEq, Repr

/-! ### The dispatcher (chapter 05) -/

/-- Where a block stands in the cycle (R147 to R166). -/
inductive BlkState where
  | waiting
  | ready
  | overflow
  | running (le : Nat)
  | good
  | failed (cause report : Nat)
  deriving DecidableEq, Repr

/-- A block's progress in the cycle: unsatisfied count, state, ready time; whether it was re-dispatched, and the cause of the
retirement before that (R159, R166). -/
structure BlkRun where
  count : Nat := 0
  state : BlkState := .waiting
  readyTime : Nat := 0
  redisp : Bool := false
  cause : Nat := 0
  deriving DecidableEq, Repr

/-- A commit group's resolution (R61): 0 none, 1 commit, 2 hold, and the cycle's low 16 bits. -/
structure GroupRes where
  res : Nat := 0
  cycle : Nat := 0
  deriving DecidableEq, Repr

/-- The dispatcher's and the Commit Unit's state besides registers. -/
structure Dpr where
  open' : Bool := false
  runs : SMap BlkRun := []
  gens : SMap Nat := []
  genChanged : List Nat := []
  suspect : List Nat := []
  quarantine : List Nat := []
  quarRel : List Nat := []
  windup : SMap Nat := []
  promoted : List Nat := []
  served : List Nat := []
  noRetry : List Nat := []
  stealPtr : Nat := 0
  ovfTold : List Nat := []
  sparesIn : SMap Nat := []
  /-- The engines that hold the spare role, as chosen at the last step 3 of R20 (R145, R146). -/
  spareSet : List Nat := [15, 31, 47, 63]
  /-- The admitted engines N_c as given to the CYC at the last step 3 (R146). -/
  admitted : SMap Nat := []
  stealIn : Bool := true
  limitIn : Nat := 16
  pmiss : SMap Nat := []
  missTold : Bool := false
  newVal : SMap Word := []
  /-- How each group last resolved, and how before that. -/
  groups : SMap GroupRes := []
  groupsWas : SMap GroupRes := []
  outBegun : List Nat := []
  /-- IN-frame dependencies satisfied or released in the cycle, as 32 × link + station. -/
  framesSat : List Nat := []
  /-- Groups resolved in the cycle. -/
  resolved : List Nat := []
  keys : SMap Nat := []
  /-- The snapshot copy (R187): copy every block next time; cycle, SOC time and blocks of the copy begun last; it is
  complete and awaits step 1 of R20; that step found it in progress. -/
  snapAll : Bool := false
  snapCycle : Nat := 0
  snapTb : Nat := 0
  snapBlocks : List Nat := []
  snapDone : Bool := false
  snapLate : Bool := false
  /-- The last cycle that reached its OUT deadline had no snapshot (R187, R364). -/
  skipped : Bool := false
  /-- Cycle number and SOC time of the last committed snapshot. -/
  comCycle : Nat := 0
  comTb : Nat := 0
  /-- LIM space freed by a commit, as cluster, start and length (R200). -/
  limFreed : List (Nat × Nat × Nat) := []
  /-- LIM writes of a cold commit that wait for the evaluations of the earlier plan (R200). -/
  limQueue : List (Nat × List Byte) := []
  /-- CSM ranges that hold undefined values (R185), and what their free values are drawn from. -/
  undef : List (Nat × Nat) := []
  undefKey : Nat := 0
  /-- Writes counted as ownership violations (R25); no register shows the count. -/
  violations : Nat := 0
  deriving DecidableEq, Repr

/-- A signal slot (R188, R189): value, status, and the SOC count of its last refresh. The owner stands in the
binding table (R31). -/
structure Slot where
  value : Word := 0
  status : Nat := 3
  /-- The low bits of the SOC count at the last refresh; `none`: never, age 255. -/
  fresh : Option Nat := none
  deriving DecidableEq, Repr

/-- A pending mode request (R74). -/
structure ModeReq where
  mode : Nat
  part : Nat
  tag : Nat
  path : Path
  deriving DecidableEq, Repr

/-- The Cycle Timer's state besides registers (chapter 02). -/
structure Cyc where
  /-- Shadow copies of the seven timing registers, keyed by register address. -/
  shadow : SMap Nat := []
  phaseNew : Option Nat := none
  pctNew : Option Nat := none
  modeReqs : List ModeReq := []
  autoRun : List Nat := []
  /-- Input slots refreshed by a good IN frame in the cycle, for R73. -/
  inRefreshed : List Nat := []
  socCount : Nat := 0
  first : Bool := true
  hiLatch : Option Nat := none
  inCycle : Bool := false
  cutoff : Bool := false
  deadline : Bool := false
  lastSocTb : Nat := 0
  cycOut : Bool := false
  firstDue : Bool := false
  /-- The apply instant of the cycle has passed: housekeeping runs until the boundary latch instant (R47). -/
  house : Bool := false
  /-- The K28.1 block that left all links last (R48, R221). -/
  block : Option KBlock := none
  /-- Stations not in RUN at the SOC whose IN frames some block waits for, as 32 × link + station (R265). -/
  outAtSoc : List Nat := []
  /-- SOCs that a debug halt has skipped (R538). -/
  skip : Nat := 0
  deriving DecidableEq, Repr

end Sys2Proof.Machine
end

