-- ==== Sys2Proof/Machine/TypesHif.lean ====
section
/-! DEFINITION. The state of the Host Interface that stands in no register (spec chapter 09). -/

namespace Sys2Proof.Machine

/-- An event in the event area of the staging buffer (R296). -/
structure EvRec where
  type : Nat
  part : Nat
  urgent : Bool
  cycle : Nat
  tb : Nat
  data : List Nat
  seq : Nat
  deriving DecidableEq, Repr

/-- An MSI-X vector (R298): entries written and not yet reported, whether its timer runs, its mask and pending bit. -/
structure Vec where
  n : Nat := 0
  timer : Bool := false
  masked : Bool := true
  pba : Bool := false
  /-- Its entry of the MSI-X table: message address and data. -/
  addr : Nat := 0
  data : Word := 0
  deriving DecidableEq, Repr

/-- What the device sends to the host: a memory write, the message of a vector with its address and data, or INT of the slots whose
words stand from an address on (R192; log entry 190). -/
inductive HostOut where
  | write (addr : Nat) (bytes : List Byte)
  | msg (vector addr : Nat) (data : Word)
  | ints (addr : Nat) (flags : List Bool)
  deriving DecidableEq, Repr

/-- What a completion entry carries besides its command (R295). -/
structure Cpl where
  status  : Nat := 0
  detail  : Nat := 0
  result  : Nat := 0
  result2 : Nat := 0
  applied : Bool := false
  deriving DecidableEq, Repr

/-- A command in progress (R295): its completion waits for room or for an event (`done`), or a HIF reset has taken its rings and
none will be written (`mute`, R286). -/
structure HostCmd where
  serial : Nat
  part : Nat
  ring : Nat
  desc : Desc
  started : Bool
  done : Option Cpl := none
  mute : Bool := false
  deriving DecidableEq, Repr

/-- A part of a read or write request (R300, R301): its unit, the block (or link and station), offset, length, host
address; whether it has staged with its bytes, or its failure status. -/
structure HPart where
  unit : Nat
  blk : Nat
  ofs : Nat
  len : Nat
  host : Nat
  staged : Bool
  fail : Nat
  bytes : List Byte
  deriving DecidableEq, Repr

/-- The kinds of split request: parameters written, stations resumed, parameters read, link status, slots. -/
inductive HKind where
  | write | resume | read | status | slots
  deriving DecidableEq, Repr

/-- A request whose parts wait for a boundary or a housekeeping span. `count` is the slot count of SNAPSHOT. -/
structure HReq where
  serial : Nat
  part : Nat
  kind : HKind
  partial' : Bool
  durable : Bool
  parts : List HPart
  first : Nat
  count : Nat
  deriving DecidableEq, Repr

/-- A partition's trend list (R302): decimation, slots, buffer, size, next offset, cycles since the last record. -/
structure Trend where
  dec : Nat := 0
  slots : List Nat := []
  addr : Nat := 0
  len : Nat := 0
  next : Nat := 0x40
  since : Nat := 0
  due : Bool := false
  deriving DecidableEq, Repr

/-- A record in the trend area (R28, R302): its partition and its bytes. -/
structure TrendRec where
  part : Nat
  bytes : List Byte
  ints : List Bool := []
  deriving DecidableEq, Repr

/-- A ring's state besides BAR0 (R292): the host's index and the phase. -/
structure Ring where
  hostIdx : Nat := 0
  phase : Bool := true
  deriving DecidableEq, Repr

/-- What the host sets in the configuration space (R283): memory space and bus master enable, the addresses of BAR0, BAR2 and
BAR4 as 0, 1 and 2, largest payload and read request, and MSI-X Enable. -/
structure HostCfg where
  command : Nat := 0
  bars : SMap Nat := []
  devCtl : Word := 0x2000
  msixOn : Bool := false
  deriving DecidableEq, Repr

structure Hif where
  evts : List EvRec := []
  seqs : SMap Nat := []
  discarded : SMap Nat := []
  vecs : SMap Vec := []
  funcMask : Bool := false
  cfg : HostCfg := {}
  /-- Everything sent to the host, oldest first. -/
  out : List HostOut := []
  rings : SMap Ring := []
  cmds : List HostCmd := []
  serial : Nat := 0
  rrPart : Nat := 0
  rrRing : SMap Nat := []
  reqs : List HReq := []
  trends : SMap Trend := []
  /-- The trend area, oldest record first. -/
  area : List TrendRec := []
  /-- Firmware-served commands: records pending, records popped and open, as record number and serial (R304). -/
  fwq : List (Nat × Nat) := []
  fwOpen : List (Nat × Nat) := []
  /-- Windows whose VALID is being cleared, as 16 × partition + window. -/
  clearing : List Nat := []
  /-- Commands that wait for their own end: DEVICE_RESET's scope, once its completion is written. -/
  resetDue : Option Nat := none
  /-- D3hot (R283). -/
  d3 : Bool := false
  /-- The HEALTH bits last told (R299). -/
  health : Nat := 0
  deriving DecidableEq, Repr

end Sys2Proof.Machine
end

