-- ==== Sys2Proof/Machine/TypesLink.lean ====
section
/-! DEFINITION. The state of the field links, of the stations on them and of the field power groups that stands in no
register (spec chapters 07 and 08). -/

namespace Sys2Proof.Machine

/-- An entry of a link's station table (R262): state 0 stands for no record. -/
structure Stn where
  state : Nat := 0
  cause : Nat := 0
  epoch : Nat := 0
  delay : Nat := 0
  miss  : Nat := 0
  /-- The retry timer runs (R267). -/
  retry : Bool := false
  /-- The step of R263 whose answer is awaited; 0: none. 6: admitted, RUN from the next SOC. In RUN after a takeover
  (R497): 7 ADMIT due, 8 ADMIT sent, 9 measurement due, 10 measuring, 11 further ADMIT sent. -/
  step  : Nat := 0
  /-- The station answered IDENT_REQ in ENUM, and passed the identity check (step 2). -/
  answered : Bool := false
  identOk : Bool := false
  newEpoch : Nat := 0
  /-- The UID that the station's IDENT_RSP gave, sent back in its ADMIT (R246). -/
  uid : Option Nat := none
  /-- Delay exchanges answered and tried, and the smallest RT − TURN with its half (R235). -/
  exGood : Nat := 0
  exTried : Nat := 0
  exBest : Nat := 0
  /-- An IN frame was checked good since the entry to RUN, or the first cycle in RUN has begun with n_in = 0. -/
  seen  : Bool := false
  /-- FWD_NS of the IDENT_RSP. -/
  fwd : Nat := 0
  /-- Partitions whose acknowledgement is awaited (R268). -/
  acks  : List Nat := []
  /-- An IN frame was checked good in the cycle; an IN frame of the cycle has come at all (R233). -/
  inNow : Bool := false
  inAny : Bool := false
  /-- An IDENT_REQ, or a delay exchange, waits for its place in a cycle; exchanges of the cycle (R235, R263). -/
  idWait : Bool := false
  dWait : Bool := false
  exCyc : Nat := 0
  /-- The station became LOST or entered HOLD, or its link went DOWN, since the last SOC (R190). -/
  fell : Bool := false
  pollWait : Bool := false
  pollCnt : Nat := 0
  seq0 : Nat := 0
  seq1 : Nat := 0
  seq2 : Nat := 0
  deriving DecidableEq, Repr

/-- Who asked for an acyclic request (R270): a record of firmware, or a host command. -/
inductive AcyOwner where
  | record (addr : Nat)
  | host (serial : Nat)
  deriving DecidableEq, Repr

/-- An entry of an acyclic queue: 0 QUEUED, 1 GRANTED, 2 WAITING. -/
structure Acy where
  owner : AcyOwner
  part  : Nat
  station : Nat
  tag   : Nat
  state : Nat
  seq   : Nat
  sent  : Nat
  due   : Bool
  payload : List Byte
  rspMax : Nat
  rspAddr : Nat
  deriving DecidableEq, Repr

/-- A frame that waits for a free span of its link, with its station's address (R258, R263, R266) and, for an ACY sent again (R272), its
SEQ. -/
inductive DueFrame where
  | hold (st : Nat)
  | admission (st : Nat)
  | again (st seq : Nat)
  deriving DecidableEq, Repr

/-- A link controller. -/
structure Lnk where
  /-- SFL_RETRY_T has elapsed since the entry to DOWN, or RETRAIN was written. -/
  waited : Bool := false
  stns : SMap Stn := []
  /-- Transmit amplitude and pre-emphasis codes at the pair; none before the link first sends (R558). -/
  drive : Option (Int × Int) := none
  acyq : List Acy := []
  acyPtr : Nat := 0
  due : List DueFrame := []
  /-- A station state or epoch of the link has changed since the last LINKSTATE frame for it (R491). -/
  changed : Bool := false
  /-- ENT has delivered a link epoch since reset (R410). -/
  entEpoch : Bool := false
  /-- The K28.1 block that the link last sent (R221, R259). -/
  soc : Option KBlock := none
  /-- The frame that the link last sent. -/
  tx : Option Frame := none
  /-- The OUT frames of the cycle, in the order sent (R239). -/
  outs : List Frame := []
  /-- IDENT_REQ frames of the cycle (R263). -/
  idCyc : Nat := 0
  /-- The channel 2 counters of addresses without a station record (R228, R266). -/
  holdSeq : SMap Nat := []
  /-- A pattern test's loopback mode and station, and the host command that asked for it (R275). -/
  testLoop : Nat := 0
  testStn : Nat := 0
  testBy : Option Nat := none
  /-- The checker (R276): error-free bits of its search, wrong bits among the last 256 compared, bits compared. -/
  patRun : Nat := 0
  patWin : List Bool := []
  patCnt : Nat := 0
  /-- A listening link of a standby (R489): SOC seen and report seen in the cycle. -/
  socSeen : Bool := false
  repSeen : Bool := false
  /-- SOC seen and report seen of the two cycles before, latest first. -/
  socHist : List Bool := []
  repHist : List Bool := []
  /-- The last 16 measurements of L_n in ns (R490). -/
  lineOfs : List Nat := []
  deriving DecidableEq, Repr

/-- The states of a station unit (R249). -/
inductive UnitState where
  | start | wait | held | admitted | loop
  deriving DecidableEq, Repr

/-- A station unit on a line (R249 to R254). -/
structure StnUnit where
  state : UnitState := .start
  ident : Ident := ⟨0, 0, 0, 0, 0, 0⟩
  epoch : Nat := 0
  linkNo : Option Nat := none
  linkEpoch : Option Nat := none
  identified : Bool := false
  /-- The parameters of the last ADMIT since start. -/
  admitted : Bool := false
  delay : Nat := 0
  timeout : Nat := 0
  redundant : Bool := false
  safe : List Word := []
  /-- Values at the output circuits; `none`: the unit's own power-up defaults. -/
  outs : Option (List Word) := none
  atSafe : Bool := true
  /-- The OUT frame consumed for the apply instant of the cycle. -/
  next : Option (List Word) := none
  /-- The cycle that the last accepted SOC block opened: number, flags, apply offset. -/
  cycle : Nat := 0
  flags : Nat := 0
  ofs : Nat := 0
  opened : Bool := false
  everSoc : Bool := false
  missTold : Bool := false
  sampled : Bool := false
  inSent : Bool := false
  applied : Bool := false
  noOut : Bool := false
  pairEpoch : Nat := 0
  portB : Bool := false
  portChanged : Bool := false
  /-- The port that delivered the SOC block of the cycle (R222), and whether two have been accepted (R254). -/
  socPort : Bool := false
  twoSocs : Bool := false
  /-- A valid SOC block has reached port A in the cycle (R227). -/
  socA : Bool := false
  cnt : SMap Nat := []
  seq0 : Nat := 0
  seq2 : Nat := 0
  /-- The SEQ and payload of the last final ACR. -/
  lastAcr : Option (Nat × List Byte) := none
  /-- The last own frame, and the ports that carried it: `true` port B (R252). -/
  tx : Option Frame := none
  txPorts : List Bool := []
  deriving DecidableEq, Repr

/-- A field power group (R278): its state stands in FPC_STATUS. -/
structure Fpg where
  /-- ON for FPC_SETTLE without interruption. -/
  settled : Bool := false
  deriving DecidableEq, Repr

end Sys2Proof.Machine
end

