-- ==== Sys2Proof/Machine/TypesMgmt.lean ====
section
/-! DEFINITION. The state of the management plane that stands in no register of the register map (spec chapters 12 to
19). -/

namespace Sys2Proof.Machine

/-- The trace unit (R540 to R543): a funnel FIFO of packets per source, packets lost since the last OVERFLOW, the
last TIME of each source, bytes since the last SYNC, and the round-robin pointer. -/
structure Trc where
  fifos : SMap (List (List Byte)) := []
  lost : SMap Nat := []
  lastTime : SMap (Option Nat) := []
  sinceSync : Nat := 0
  next : Nat := 0
  atEnd : Bool := false
  deriving DecidableEq, Repr

/-- The TAP's instruction, the debug port's last access, the status of the last UNLOCK (R531 to R533), the strings whose
outputs the debug port wrote (R536), and, while EXTEST is selected, the members that a string holds halted (R539). -/
structure Dbg where
  tap : Nat := 1
  dpStatus : Nat := 0
  dpAddr : Nat := 0
  dpData : Word := 0
  unlockStatus : Nat := 0
  /-- The level of a challenge that UNLOCK asked for in the first STARTUP of ENT; 0: none (R410). -/
  want : Nat := 0
  spStrings : List Nat := []
  extest : Option Nat := none
  /-- The boundary cells as PRELOAD or EXTEST last updated them (R10, R531). -/
  cells : Nat := 0
  deriving DecidableEq, Repr

/-- An access that waits for its domain (R444, R445): of a register, with the partition that it carries (R42), a read or a write, where,
and the value; a load that holds a pipeline; a buffered store. -/
inductive HeldAcc where
  | reg (w : Writer) (part : Nat) (read : Bool) (addr : Nat) (val : Word)
  | load (p : ProcId) (addr : Nat)
  | store (p : ProcId) (b : StoreEntry)
  | host (serial addr : Nat) (data : HostData)
  deriving DecidableEq, Repr

/-! ### Storage (chapter 12) -/

/-- What a journaled write carries (R361, R362): firmware's source address and length, the bytes of an NV_WRITE with its
command's serial number and partition, the record of a durable PARAM_WRITE with its RESULT (R303), or a password change of
a region. -/
inductive JSrc where
  | firmware (src len : Nat)
  | host (serial part : Nat) (bytes : List Byte)
  | param (serial result : Nat) (bytes : List Byte)
  | key (region : Nat) (write : Bool) (value : Word)
  deriving DecidableEq, Repr

/-- A journaled write that waits or runs. -/
structure JReq where
  src : JSrc
  dst : Nat
  deriving DecidableEq, Repr

/-- The NVR controller's state besides registers: passwords, attempt counts, journaled writes in order of request, what
has armed and started the save engine. -/
structure Nvr where
  keyR : SMap Word := []
  keyW : SMap Word := []
  tries : SMap Nat := []
  queue : List JReq := []
  /-- CYC_CTRL.EN has been 1 since the last reset (R367). -/
  enSeen : Bool := false
  cause : Nat := 0
  tbPf : Nat := 0
  deriving DecidableEq, Repr

/-- An operation of the Parameter Flash (R376). -/
inductive PflOp where
  | program (addr : Nat) (lo hi : Word)
  | erase (sector : Nat)
  deriving DecidableEq, Repr

/-- The PFL controller: the operation that runs, a suspended erase, and words programmed with all ones. -/
structure Pfl where
  op : Option PflOp := none
  suspended : Option Nat := none
  /-- A RESUME waits for the program that runs beside the suspended erase (R376). -/
  resuming : Bool := false
  ones : List Nat := []
  deriving DecidableEq, Repr

/-! ### Configuration (chapter 11) -/

/-- A configuration entry (R335). -/
structure CfgEntry where
  at' : Nat
  kind : Nat
  lsb : Nat
  width : Nat
  obj : Nat
  ofs : Nat
  value : Nat
  deriving DecidableEq, Repr

/-- The configuration loader's state besides registers. The copies loaded lie in the configuration store in MGS; `half`
and `pend` name the halves of the copy in force and of a PENDING one. -/
structure Cfg where
  half : Option Nat := none
  pend : Option Nat := none
  /-- User calibration in force by item: ADD and MUL as 16-bit fields. -/
  user : SMap (Nat × Nat) := []
  /-- The mode by partition, 1 RUN and 2 TRACK, and SERVICE, as the overlays were last computed (R343). -/
  modes : SMap Nat := []
  svc : Bool := false
  /-- EN has been set and the boundary that opens the first cycle is still to come (R343). -/
  first : Bool := false
  /-- The configuration write of the host that waits for its copy to come into force (R351). -/
  by' : Option Nat := none
  deriving DecidableEq, Repr

/-! ### Boot, fuses, entropy (chapter 13) -/

/-- The fuses (R384): a bit goes from 0 to 1 only. Digests and the DUK are numbers of 256 bits, most significant byte
first. -/
structure Fuses where
  secEn : Bool := false
  authMode : Nat := 0
  dbgLock : Bool := false
  keyDigest : SMap Nat := []
  keyRevoke : Nat := 0
  duk : Nat := 0
  uid : Nat := 0
  provLock : Bool := false
  deriving DecidableEq, Repr

/-- A debug challenge (R412). -/
structure Challenge where
  bytes : List Byte
  level : Nat
  deriving DecidableEq, Repr

/-- What WDT_SP supervises (R402). -/
inductive WdtSp where
  | off | confirm | own
  deriving DecidableEq, Repr

/-- What the XBL sends the octal flash (R393): a read in 1S-1S-1S or in 8D-8D-8D, with its command and dummy cycles; the write
enable; the bytes of the mode switch. -/
inductive XblCmd where
  | read (ddr : Bool) (cmd dummy : Nat)
  | writeEnable
  | modeSwitch (bytes : List Byte)
  deriving DecidableEq, Repr

/-- The SP's start and the debug unlock, besides registers, backup RAM and PFL. -/
structure Boot where
  fuses : Fuses := {}
  /-- BOOTSEL as sampled at the last COLD reset (R386). -/
  bootsel : Nat := 0
  /-- What the XBL has sent the flash in this start, oldest first: the last read says how the window reads (R386, R393). -/
  xbl : List XblCmd := []
  /-- The window lock (R395). -/
  lock : Bool := false
  /-- The header of the running image. -/
  header : List Byte := []
  wdt : WdtSp := .off
  /-- TB at which BOOT_CONFIRM ends. -/
  confirmEnd : Nat := 0
  /-- The unlock level in force (R411), the challenge, and AUTH_FAIL answers since the reset of AON. -/
  unlock : Nat := 0
  challenge : Option Challenge := none
  /-- The bytes of the challenge last issued (R532). -/
  issued : List Byte := []
  authFails : Nat := 0
  deriving DecidableEq, Repr

/-- A consumer that waits for the DRBG (R410): a RANDOM or DEBUG_CHALLENGE command, `ENT_REQ`, or UNLOCK of the TAP. -/
inductive EntWait where
  | random (serial : Nat)
  | challenge (serial : Nat)
  | req
  | unlock
  deriving DecidableEq, Repr

/-- The entropy source besides registers (R407 to R410). -/
structure Ent where
  /-- The last raw bit, and how many raw bits in a row have had its value (R407). -/
  last : Bool := false
  run : Nat := 0
  /-- Windows passed in a row in STARTUP. -/
  passes : Nat := 0
  /-- No failure since the reset of the SP domain. -/
  first : Bool := true
  /-- The 256 conditioned bits of the last passed window that no reseed has used. -/
  cond : Option (List Byte) := none
  /-- Requests served since the last reseed; 1,024 where a reseed is due. -/
  served : Nat := 0
  /-- The consumers that wait, in order of arrival. -/
  waiting : List EntWait := []
  deriving DecidableEq, Repr

/-! ### Resets and clocks (chapter 14) -/

/-- A reset that a save holds back (R371, R420): its sources and its scope, 1 COLD, 2 SYSTEM, 3 WARM, 4 HIF. -/
structure HeldReset where
  causes : Nat
  scope : Nat
  deriving DecidableEq, Repr

/-- A reset that has just taken effect (R422, R427): the count of the timebase, its sources and scope, and what its log entry holds. -/
structure NewReset where
  tb : Nat
  causes : Nat
  scope : Nat
  step : Nat
  cycle : Nat
  deriving DecidableEq, Repr

/-- The RST block and the bring-up besides registers. -/
structure Rst where
  after : Option HeldReset := none
  /-- The reset that another source of the same clock joins (R422). -/
  fresh : Option NewReset := none
  /-- The slot whose start the confirmation watchdog ends with the reset to come (R402). -/
  timeout : Option Nat := none
  /-- RSTOUT_N is asserted (R419). -/
  rstOut : Bool := true
  /-- RST_N is held low; a supply is out of range (R422). -/
  rstN : Bool := false
  supplyOut : Bool := false
  /-- The last judgement of XTAL by the clock monitor. -/
  xtalOk : Bool := false
  /-- The crystal start delay has ended (R428). -/
  xtalDone : Bool := false
  /-- The bring-up follows a STANDBY exit (R450). -/
  exit : Bool := false
  /-- Wrappers that are closing: 0 to 7 as RST_BLK, 8 + n for SFLn (R424). -/
  closing : List Nat := []
  deriving DecidableEq, Repr

/-- The CKG besides registers. -/
structure Clk where
  /-- Sources whose last window counted outside ±6 % (R433). -/
  badWin : List Nat := []
  /-- STEP writes that wait for a boundary (R432). -/
  stepNew : SMap Nat := []
  /-- PLL_CL has failed since the last boundary latch (R435). -/
  clFailed : Bool := false
  /-- Intervals accepted in a row within ±0.1 %, up to 8 (R430). -/
  trimGood : Nat := 0
  deriving DecidableEq, Repr

/-! ### Power (chapter 15) -/

/-- The device's power states with a processor stopped (R447). -/
inductive PowerState where
  | active | standby | backup
  deriving DecidableEq, Repr

/-- The PMU besides registers. -/
structure Pmu where
  state : PowerState := .active
  /-- Domains that switch off, and those of them that an access or a write wants on again (R445, R446). -/
  goingOff : List Nat := []
  wanted : List Nat := []
  comingOn : List Nat := []
  /-- A STANDBY entry runs; XTAL_ON of its request; the commit point is reached. -/
  entering : Bool := false
  xtalOn : Bool := false
  /-- AVS: the step in progress in mV, a repeat of it has begun, readings outside in a row. -/
  step : Option Nat := none
  repeated : Bool := false
  misses : Nat := 0
  /-- The last VOUT_COMMAND sent: its word, and whether it carried PEC (R453). -/
  sent : Option (Nat × Bool) := none
  /-- The SP has acknowledged, and the commit point waits for a transaction of AVS (R453). -/
  acked : Bool := false
  /-- The count of the timebase at the last wake (R452). -/
  wokeAt : Option Nat := none
  /-- The AON drives WAKE_N low since a wake (R450). -/
  wakeN : Bool := false
  deriving DecidableEq, Repr

/-- The backup domain besides registers: SEC latched by a read of SUB, and the event queue, oldest first (R457, R460). -/
structure Bkd where
  latched : Option Word := none
  evq : List Nat := []
  deriving DecidableEq, Repr

/-! ### Ageing monitor (chapter 16) -/

/-- The AGM besides registers. -/
structure Agm where
  started : Bool := false
  /-- Clusters that entered WARN while ceiling held (R472). -/
  ceilWarn : List Nat := []
  /-- The state has been judged since the AGM started (R470). -/
  judged : Bool := false
  /-- Q_c of the last window, exact, of the clusters that were on (R466). -/
  ratios : SMap Int := []
  /-- Clusters probed in the housekeeping span of this cycle (R468). -/
  probed : List Nat := []
  /-- Window means and last probes of replicas, keyed by 16 × cluster + replica. -/
  means : SMap Nat := []
  probes : SMap Nat := []
  /-- Probe results that count in the window in progress. -/
  fresh : SMap Nat := []
  /-- The voltage rung waits for source 64, then for the settle time; the settle time has passed since the last step. -/
  waitAvs : Bool := false
  settling : Bool := false
  settled : Bool := true
  /-- The settle time had passed at the last window end (R472). -/
  whole : Bool := true
  /-- Derates that APPLY requests (R473). -/
  apply : List Nat := []
  hot : Bool := false
  /-- Anchors: the number of the next one. -/
  anchor : Nat := 0
  lastDaily : Nat := 0
  dayTemp : Int := -32768
  /-- Records that wait for the NVR: anchor or ring, and the 28 bytes before CHK (R477). -/
  held : List (Bool × List Byte) := []
  deriving DecidableEq, Repr

/-! ### Redundant pairs (chapter 17) -/

/-- A heartbeat's payload as kept from the partner (R485). -/
structure Beat where
  cycle : Nat := 0
  role : Nat := 0
  epoch : Nat := 0
  health : Nat := 0
  tb : Nat := 0
  planId : Nat := 0
  planVer : Nat := 0
  packCrc : Nat := 0
  segSum : Nat := 0
  track : Nat := 0
  set : Nat := 0
  cfgSeq : Nat := 0
  service : Bool := false
  uid : Nat := 0
  deriving DecidableEq, Repr

/-- One station of a LINKSTATE table (R491). -/
structure LsEntry where
  state : Nat := 0
  epoch : Nat := 0
  fwd : Nat := 0
  delay : Nat := 0
  deriving DecidableEq, Repr

/-- A set being sent, or received (R492, R493): cycle, units sent or received, whether all frames so far passed, and the look
of the shadow engine at which a set sent began. -/
structure TwlSet where
  cycle : Nat
  units : SMap (List Byte)
  all : Bool
  look : Nat
  deriving DecidableEq, Repr

/-- The TWL besides registers. -/
structure Twl where
  /-- Lanes are deskewed; echo exchanges answered in TRAIN and the smallest RT − TURN (R482). -/
  deskewed : Bool := false
  echoes : Nat := 0
  best : Nat := 0
  seqs : SMap Nat := []
  /-- Frames sent, oldest first: TYPE, SEQ and payload. -/
  out : List (Nat × Nat × List Byte) := []
  peer : Option Beat := none
  /-- The last heartbeat heard of a PRIMARY partner since reset gave this pair epoch. -/
  heardEpoch : Option Nat := none
  /-- A claim for PRIMARY is open (R486), and it is lost. -/
  claim : Bool := false
  claimLost : Bool := false
  /-- Primary: the output image; the engine's looks at the units so far, one a cycle, the contents at the last of them and the
  look at which each unit last changed; the look of the last acknowledged set; full set due, the set in transit. -/
  outImg : SMap Word := []
  looks : Nat := 0
  seen : SMap (List Byte) := []
  changedAt : SMap Nat := []
  ackLook : Nat := 0
  full : Bool := true
  sending : Option TwlSet := none
  awaiting : Option TwlSet := none
  setDue : Bool := false
  lastSent : Nat := 0
  /-- Standby: the set being received, one that awaits application, the last set applied and cycles since. -/
  rx : Option TwlSet := none
  ready' : Option TwlSet := none
  lastApplied : Nat := 0
  sinceSet : Nat := 100
  fullApplied : Bool := false
  /-- Tables received: link epochs and entries keyed by 32 × link + station. -/
  lsEpoch : SMap Nat := []
  ls : SMap LsEntry := []
  /-- A handover agreed for cycle h, by the primary; the standby's side of it. -/
  handover : Option Nat := none
  handAcked : Bool := false
  handTake : Option Nat := none
  deriving DecidableEq, Repr

/-! ### Peripherals (chapter 18) -/

/-- A UART: received entries as `UARTn_DATA` [11:0], bytes to send, and the byte sent last (R525). -/
structure Uart where
  rx : List Nat := []
  tx : List Nat := []
  sent : Option Nat := none
  deriving DecidableEq, Repr

/-- An SPI master: frames received, frames to send with the one in transfer in front, the frame sent last, the chip select
that is asserted (R526). -/
structure Spi where
  rx : List Nat := []
  tx : List Nat := []
  sent : Option Nat := none
  cs : Option Nat := none
  deriving DecidableEq, Repr

/-- What an I2C controller did last on its bus (R527): a command, STOP, or nine pulses and STOP. -/
inductive I2cDid where
  | nothing
  | cmd (op data : Nat)
  | stop
  | recover
  deriving DecidableEq, Repr

/-- An I2C controller: the command FIFO as OP and DATA, and what it did last (R527). -/
structure I2c where
  fifo : List (Nat × Nat) := []
  did : I2cDid := .nothing
  deriving DecidableEq, Repr

/-- A timer: waiting for the SOC that starts it, its pin's level, the high word latched by a read (R528). -/
structure Tmr where
  waitSoc : Bool := false
  running : Bool := false
  pin : Bool := false
  latched : Option Word := none
  deriving DecidableEq, Repr

/-- A watchdog: TB at its start or last kick, and TB of the first key of a kick (R529). -/
structure Wdt where
  since : Nat := 0
  key : Option Nat := none
  deriving DecidableEq, Repr

/-- The peripherals besides registers. -/
structure Per where
  uarts : SMap Uart := []
  spis : SMap Spi := []
  i2cs : SMap I2c := []
  tmrs : SMap Tmr := []
  wdtSys : Wdt := {}
  wdtSp : Wdt := {}
  /-- Sources whose OR of enabled conditions is 1 (R511). -/
  conds : List Nat := []
  /-- Output, output enable and pull of each port as held at the STANDBY commit point (R523). -/
  pins : List (Word × Word × Word) := []
  deriving DecidableEq, Repr

/-! ### Block Mover and Memory Scan Engine (chapter 10) -/

/-- A descriptor as fetched and checked (R308, R309). -/
structure BmvDesc where
  next : Nat
  scatter : Bool
  irq : Bool
  op : Nat
  ctx : Nat
  contig : Nat
  elems : List (Nat × Nat)
  deriving DecidableEq, Repr

/-- A channel (R307): its descriptor, elements completed, bytes of the next one written, check bytes written, how the descriptor ends once that is known (status and WB_ELEM), and an abort that
met its last response (R320). -/
structure BmvCh where
  desc : Option BmvDesc := none
  done : Nat := 0
  eofs : Nat := 0
  chk : Nat := 0
  ending : Option (Nat × Nat) := none
  stop : Bool := false
  deriving DecidableEq, Repr

/-- The BMV besides registers: the channels and the round-robin pointer. -/
structure Bmv where
  chs : SMap BmvCh := []
  rr : Nat := 0
  deriving DecidableEq, Repr

/-- The MSE besides registers: the job's start, length and COMPARE; the scrub's engine, program by its place in the table,
offset, and check so far (R325, R326). -/
structure Mse where
  job : Option (Nat × Nat × Bool) := none
  engine : Nat := 0
  prog : Nat := 0
  ofs : Nat := 0
  crc : Word := 0xFFFFFFFF
  deriving DecidableEq, Repr

end Sys2Proof.Machine
end

