-- ==== Sys2Proof/Syntax.lean ====
section
/-! DEFINITION. The commands: one constructor for each row of `spec/opcode_table.json`, with the operands that the row's rule
gives it. A docstring names the row and its rule. -/

namespace Sys2Proof

/-- The commands of the block, in the order of the opcode table. -/
inductive Instr where
  /-- LD (R128). -/
  | ld (g : Issue)
  /-- ST (R128). -/
  | st (g : Issue)
  /-- LDX (R128). -/
  | ldx (g : Issue)
  /-- STX (R126). -/
  | stx (g : Issue)
  /-- LDY (R128). -/
  | ldy (g : Issue)
  /-- STY (R128). -/
  | sty (g : Issue)
  /-- LDH (R128). -/
  | ldh (g : Issue)
  /-- LDB (R128). -/
  | ldb (g : Issue)
  /-- STH (R128). -/
  | sth (g : Issue)
  /-- STB (R128). -/
  | stb (g : Issue)
  /-- LEAX (R128). -/
  | leax (g : Issue)
  /-- LEAY (R128). -/
  | leay (g : Issue)
  /-- MOV (R128). -/
  | mov (g : Issue)
  /-- XCH (R131). -/
  | xch (g : Issue)
  /-- LDU (R128). -/
  | ldu (g : Issue)
  /-- ADD (R128). -/
  | add (g : Issue)
  /-- SUB (R128). -/
  | sub (g : Issue)
  /-- SUBR (R128). -/
  | subr (g : Issue)
  /-- MUL (R128). -/
  | mul (g : Issue)
  /-- MULH (R128). -/
  | mulh (g : Issue)
  /-- AND (R128). -/
  | and (g : Issue)
  /-- OR (R128). -/
  | or (g : Issue)
  /-- XOR (R128). -/
  | xor (g : Issue)
  /-- SHL (R128). -/
  | shl (g : Issue)
  /-- SHR (R128). -/
  | shr (g : Issue)
  /-- SAR (R128). -/
  | sar (g : Issue)
  /-- MIN (R128). -/
  | min (g : Issue)
  /-- MAX (R128). -/
  | max (g : Issue)
  /-- ADDX (R126). -/
  | addx (g : Issue)
  /-- ADDY (R126). -/
  | addy (g : Issue)
  /-- FADD (R132). -/
  | fadd (g : Issue)
  /-- FSUB (R132). -/
  | fsub (g : Issue)
  /-- FMUL (R132). -/
  | fmul (g : Issue)
  /-- FDIV (R132). -/
  | fdiv (g : Issue)
  /-- FMAC (R126). -/
  | fmac (g : Issue)
  /-- FSUBR (R132). -/
  | fsubr (g : Issue)
  /-- FMIN (R132). -/
  | fmin (g : Issue)
  /-- FMAX (R132). -/
  | fmax (g : Issue)
  /-- CLAMP (R133). -/
  | clamp (g : Issue)
  /-- SAT (R133). -/
  | sat (g : Issue)
  /-- FABS (R128). -/
  | fabs (g : Issue)
  /-- FNEG (R128). -/
  | fneg (g : Issue)
  /-- ITOF (R132). -/
  | itof (g : Issue)
  /-- FTOI (R132). -/
  | ftoi (g : Issue)
  /-- CMP (R129). -/
  | cmp (g : Issue)
  /-- FCMP (R129). -/
  | fcmp (g : Issue)
  /-- TST (R128). -/
  | tst (g : Issue)
  /-- PSET (R130). -/
  | pset (g : Issue)
  /-- PAND (R128). -/
  | pand (g : Issue)
  /-- POR (R128). -/
  | por (g : Issue)
  /-- PNOT (R128). -/
  | pnot (g : Issue)
  /-- BR (R128). -/
  | br (g : Issue)
  /-- CALL (R139). -/
  | call (g : Issue)
  /-- RET (R139). -/
  | ret (g : Issue)
  /-- LOOP (R136). -/
  | loop (g : Issue)
  /-- SYSC (R99). -/
  | sysc (g : Issue)
  /-- SRET (R99). -/
  | sret (g : Issue)
  /-- ERET (R97). -/
  | eret (g : Issue)
  /-- NOP (R141). -/
  | nop (g : Issue)
  /-- YIELD (R92). -/
  | yield (g : Issue)
  /-- WAIT (R141). -/
  | wait (g : Issue)
  /-- FENCE (R101). -/
  | fence (g : Issue)
  /-- MFS (R140). -/
  | mfs (g : Issue)
  /-- MTS (R140). -/
  | mts (g : Issue)
  /-- WAIT_TIMEOUT (R141). -/
  | waitTimeout (p : ProcId)
  /-- LOAD_RESPONSE (R85). -/
  | loadResponse (p : ProcId) (outside : HostData)
  /-- STORE_RESPONSE (R101). -/
  | storeResponse (p : ProcId) (k : Fin 4)
  /-- LATE_STORE_ERROR (R104). -/
  | lateStoreError (p : ProcId) (k : Fin 4) (kind : Fin 4)
  /-- LSE (R104). -/
  | lse (p : ProcId)
  /-- INTERRUPT (R515). -/
  | interrupt (p : ProcId)
  /-- NMI (R509). -/
  | nmi
  /-- LOCKSTEP_MISMATCH (R504). -/
  | lockstepMismatch
  /-- BOUNDARY_LATCH (R20). -/
  | boundaryLatch
  /-- SOC (R48). -/
  | soc
  /-- FIRST_SOC (R78). -/
  | firstSoc
  /-- SAMPLE_MARK (R221). -/
  | sampleMark
  /-- DISPATCH_START (R152). -/
  | dispatchStart
  /-- INPUT_CUTOFF (R53). -/
  | inputCutoff
  /-- OUT_DEADLINE (R63). -/
  | outDeadline
  /-- SNAPSHOT_COPY_END (R187). -/
  | snapshotCopyEnd
  /-- APPLY_INSTANT (R47). -/
  | applyInstant
  /-- REFERENCE_EDGE (R76). -/
  | referenceEdge (err : Word)
  /-- REFERENCE_LOSS (R76). -/
  | referenceLoss
  /-- DISPATCH (R150). -/
  | dispatch (c : Fin 4)
  /-- STEAL (R153). -/
  | steal
  /-- ENGINE_REPORT (R92). -/
  | engineReport (n : Fin 64)
  /-- BUDGET_OVERRUN (R156). -/
  | budgetOverrun (n : Fin 64)
  /-- ENGINE_CLOCK_GATE (R113). -/
  | engineClockGate (n : Fin 64)
  /-- TIMING_SET_COMMIT (R50). -/
  | timingSetCommit
  /-- CYCLE_ENABLE (R78). -/
  | cycleEnable
  /-- CYCLE_DISABLE (R78). -/
  | cycleDisable
  /-- CYC_MODE_REQ (R74). -/
  | cycModeReq (mode : Fin 4) (part : Fin 64) (tag : BitVec 16)
  /-- CYC_CNT_CLR (R79). -/
  | cycCntClr
  /-- CYC_SOC_TB_LO_READ (R79). -/
  | cycSocTbLoRead
  /-- SELECT (R337). -/
  | select
  /-- CFG_COMMIT (R340). -/
  | cfgCommit
  /-- CFG_ABORT (R340). -/
  | cfgAbort
  /-- DPR_RETIRE (R160). -/
  | dprRetire (n : Fin 64)
  /-- DPR_QUAR_REL (R165). -/
  | dprQuarRel (all : Bool) (lbd : BitVec 15)
  /-- DPR_CNT_CLR (R171). -/
  | dprCntClr
  /-- DPR_LEWIN_CLR (R114). -/
  | dprLewinClr (n : Fin 64) (k : Fin 16)
  /-- DPR_CSM_ECC_CLR (R114). -/
  | dprCsmEccClr (m : BitVec 4)
  /-- DPR_PLAN_LOAD (R198). -/
  | dprPlanLoad
  /-- DPR_PLAN_COMMIT (R201). -/
  | dprPlanCommit
  /-- DPR_PLAN_ABORT (R205). -/
  | dprPlanAbort
  /-- PLAN_LOAD_END (R198). -/
  | planLoadEnd (d : HostData)
  /-- DOORBELL (R293). -/
  | doorbell (p : Fin 64) (v : Word)
  /-- DESCRIPTOR_FETCH (R295). -/
  | descriptorFetch (d : HostData)
  /-- RING_ENABLE (R292). -/
  | ringEnable (p : Fin 64) (k : Fin 6)
  /-- RING_DISABLE (R292). -/
  | ringDisable (p : Fin 64) (k : Fin 6)
  /-- WINDOW_VALID (R289). -/
  | windowValid (p : Fin 64) (w : Fin 16) (v : Word)
  /-- WINDOW_CLEAR_END (R289). -/
  | windowClearEnd (p : Fin 64) (w : Fin 16)
  /-- PART_STAGED (R300). -/
  | partStaged (serial : Nat) (k : Fin 32) (d : HostData)
  /-- EVENT_DELIVERY (R297). -/
  | eventDelivery (p : Fin 64)
  /-- MSIX_MESSAGE (R298). -/
  | msixMessage (v : Fin 128)
  /-- MSIX_UNMASK (R298). -/
  | msixUnmask (v : Option (Fin 130)) (masked : Bool)
  /-- PCIE_RESET (R286). -/
  | pcieReset
  /-- DATA_LINK_CHANGE (R306). -/
  | dataLinkChange (up : Bool) (width speed : Fin 4)
  /-- FW_COMMAND_TIMEOUT (R304). -/
  | fwCommandTimeout (serial : Nat)
  /-- HIF_FWQ_POP (R306). -/
  | hifFwqPop
  /-- HIF_FW_CPL (R304). -/
  | hifFwCpl (a : Word)
  /-- HIF_HOST_MSG (R298). -/
  | hifHostMsg (v : Word)
  /-- HIF_COUNTER_CLEAR (R287). -/
  | hifCounterClear (k : Fin 4)
  /-- HOST_NOP (R299). -/
  | hostNop (serial : Nat)
  /-- SIG_READ (R299). -/
  | sigRead (serial : Nat)
  /-- SIG_WRITE (R299). -/
  | sigWrite (serial : Nat) (d : HostData)
  /-- PARAM_READ (R301). -/
  | paramRead (serial : Nat) (d : HostData)
  /-- PARAM_WRITE (R300). -/
  | paramWrite (serial : Nat) (d : HostData)
  /-- SNAPSHOT (R299). -/
  | snapshot (serial : Nat)
  /-- TREND_SET (R302). -/
  | trendSet (serial : Nat) (d : HostData)
  /-- PLAN_LOAD (R198). -/
  | planLoad (serial : Nat)
  /-- PLAN_COMMIT (R201). -/
  | planCommit (serial : Nat)
  /-- PLAN_ABORT (R205). -/
  | planAbort (serial : Nat)
  /-- PLAN_STATUS (R299). -/
  | planStatus (serial : Nat)
  /-- MODE_SET (R74). -/
  | modeSet (serial : Nat)
  /-- MODE_QUERY (R299). -/
  | modeQuery (serial : Nat)
  /-- ACY_SUBMIT (R270). -/
  | acySubmit (serial : Nat) (d : HostData)
  /-- ACY_CANCEL (R273). -/
  | acyCancel (serial : Nat)
  /-- STATION_RESUME (R268). -/
  | stationResume (serial : Nat) (d : HostData)
  /-- LINK_STATUS (R301). -/
  | linkStatus (serial : Nat)
  /-- PAT_TEST (R276). -/
  | patTest (serial : Nat)
  /-- NV_READ (R360). -/
  | nvRead (serial : Nat)
  /-- NV_WRITE (R360). -/
  | nvWrite (serial : Nat) (d : HostData)
  /-- CFG_STATUS (R351). -/
  | cfgStatus (serial : Nat)
  /-- CFG_READ (R351). -/
  | cfgRead (serial : Nat)
  /-- CFG_WRITE (R351). -/
  | cfgWrite (serial : Nat) (d : HostData)
  /-- COSTUME_WRITE (R351). -/
  | costumeWrite (serial : Nat) (d : HostData)
  /-- UCAL_WRITE (R351). -/
  | ucalWrite (serial : Nat) (d : HostData)
  /-- CAL_READ (R351). -/
  | calRead (serial : Nat)
  /-- HEALTH_QUERY (R299). -/
  | healthQuery (serial : Nat)
  /-- MARGIN_REPORT (R479). -/
  | marginReport (serial : Nat)
  /-- RANDOM (R410). -/
  | random (serial : Nat)
  /-- TIME_GET (R299). -/
  | timeGet (serial : Nat)
  /-- BOARD_MAKER_COMMAND (R299). -/
  | boardMakerCommand (serial : Nat) (status : BitVec 8) (detail : BitVec 16) (result : Word) (result2 : BitVec 16)
  /-- DEVICE_RESET (R299). -/
  | deviceReset (serial : Nat)
  /-- HOST_RESET (R417). -/
  | hostReset
  /-- RAGDOLL_RELEASE (R405). -/
  | ragdollRelease (serial : Nat)
  /-- IMAGE_VERIFY (R405). -/
  | imageVerify (serial : Nat) (d : HostData)
  /-- FLASH_RELEASE (R395). -/
  | flashRelease (serial : Nat)
  /-- SLOT_TRIAL (R405). -/
  | slotTrial (serial : Nat)
  /-- BOOT_STATUS (R405). -/
  | bootStatus (serial : Nat)
  /-- DEBUG_CHALLENGE (R412). -/
  | debugChallenge (serial : Nat)
  /-- DEBUG_RESPONSE (R413). -/
  | debugResponse (serial : Nat) (d : HostData)
  /-- MINVER_ADVANCE (R403). -/
  | minverAdvance (serial : Nat)
  /-- FUSE_PROGRAM (R406). -/
  | fuseProgram (serial : Nat) (d : HostData) (verified : Bool)
  /-- IN_FRAME (R233). -/
  | inFrame (l : Fin 24) (f : Frame)
  /-- ANNOUNCE (R266). -/
  | announce (l : Fin 24) (f : Frame)
  /-- IDENT_RSP (R263). -/
  | identRsp (l : Fin 24) (f : Frame)
  /-- DELAY_RSP (R235). -/
  | delayRsp (l : Fin 24) (f : Frame) (rt : Word)
  /-- ADMIT_ACK (R263). -/
  | admitAck (l : Fin 24) (f : Frame)
  /-- ACR (R272). -/
  | acr (l : Fin 24) (f : Frame)
  /-- DIAG_RESPONSE (R264). -/
  | diagResponse (l : Fin 24) (f : Frame)
  /-- TRAIN_SYNC (R260). -/
  | trainSync (l : LinkSync)
  /-- TRAIN_TIMEOUT (R260). -/
  | trainTimeout (l : Fin 24)
  /-- ENUM_END (R260). -/
  | enumEnd (l : Fin 24)
  /-- LOSS_OF_SIGNAL (R260). -/
  | lossOfSignal (l : LinkLos)
  /-- LINK_RETRY (R260). -/
  | linkRetry (l : Fin 24)
  /-- STATION_RETRY_EXPIRY (R267). -/
  | stationRetryExpiry (l : Fin 24) (st : Fin 32)
  /-- ADMISSION_ANSWER_TIMEOUT (R263). -/
  | admissionAnswerTimeout (l : Fin 24) (st : Fin 32)
  /-- DIAG_POLL (R264). -/
  | diagPoll (l : Fin 24) (st : Fin 32)
  /-- DIAG_POLL_TIMEOUT (R264). -/
  | diagPollTimeout (l : Fin 24) (st : Fin 32)
  /-- ACYCLIC_SLOT (R271). -/
  | acyclicSlot (l : Fin 24)
  /-- ACR_TIMEOUT (R272). -/
  | acrTimeout (l : Fin 24) (st : Fin 32)
  /-- ACY_REPEAT_DUE (R272). -/
  | acyRepeatDue (l : Fin 24) (k : Fin 64)
  /-- ACY_REQUEST_TIMEOUT (R272). -/
  | acyRequestTimeout (l : Fin 24) (k : Fin 64)
  /-- SFLN_CTRL_EN (R260). -/
  | sflnCtrlEn (l : Fin 24) (en : Bool)
  /-- RETRAIN (R260). -/
  | retrain (l : Fin 24)
  /-- SFLN_RESUME (R268). -/
  | sflnResume (l : Fin 24) (st : Fin 32) (p : Fin 64)
  /-- SFLN_ACY_SUB (R274). -/
  | sflnAcySub (l : Fin 24) (a : Word)
  /-- SFLN_ACY_CANCEL (R273). -/
  | sflnAcyCancel (l : Fin 24) (tag : Word)
  /-- SFLN_CNT_CLR (R281). -/
  | sflnCntClr (l : Fin 24)
  /-- PAT_START (R276). -/
  | patStart (l : Fin 24) (v : Word)
  /-- PAT_STOP (R276). -/
  | patStop (l : Fin 24)
  /-- PAT_LOOP_END (R276). -/
  | patLoopEnd (l : PatEvent)
  /-- STATION_START (R250). -/
  | stationStart (l : Fin 24) (st : Fin 32) (epoch : BitVec 8) (j : Ident)
  /-- SOC_BLOCK_ACCEPT (R222). -/
  | socBlockAccept (l : Fin 24) (st : Fin 32) (portB quiet : Bool) (b : KBlock)
  /-- SAMPLE_MARK_ACCEPT (R223). -/
  | sampleMarkAccept (l : Fin 24) (st : Fin 32) (portB : Bool) (b : KBlock)
  /-- IN_FRAME_SEND (R238). -/
  | inFrameSend (l : Fin 24) (st : Fin 32) (fault : BitVec 16) (vals : List InVal)
  /-- OUT_FRAME_CONSUME (R240). -/
  | outFrameConsume (l : Fin 24) (st : Fin 32) (inTime : Bool) (f : Frame)
  /-- STATION_APPLY (R236). -/
  | stationApply (l : Fin 24) (st : Fin 32)
  /-- IDENT_REQ (R250). -/
  | identReq (l : Fin 24) (st : Fin 32) (f : Frame)
  /-- DELAY_REQ (R234). -/
  | delayReq (l : Fin 24) (st : Fin 32) (f : Frame) (turn : Word)
  /-- ADMIT (R250). -/
  | admitReq (l : Fin 24) (st : Fin 32) (f : Frame)
  /-- RELEASE (R250). -/
  | release (l : Fin 24) (st : Fin 32) (f : Frame)
  /-- HOLD (R250). -/
  | hold (l : Fin 24) (st : Fin 32) (f : Frame)
  /-- ACY (R244). -/
  | acy (l : Fin 24) (st : Fin 32) (f : Frame) (result : BitVec 16) (data : List Byte)
  /-- DIAG (R247). -/
  | diag (l : Fin 24) (st : Fin 32) (f : Frame)
  /-- TEST_LOOP_ON (R248). -/
  | testLoopOn (l : Fin 24) (st : Fin 32) (f : Frame)
  /-- TEST_LOOP_OFF (R248). -/
  | testLoopOff (l : Fin 24) (st : Fin 32) (f : Frame)
  /-- LOOPBACK_END (R248). -/
  | loopbackEnd (l : Fin 24) (st : Fin 32)
  /-- SOC_LOSS_TIMEOUT (R251). -/
  | socLossTimeout (l : Fin 24) (st : Fin 32)
  /-- HELD_TIMEOUT (R250). -/
  | heldTimeout (l : Fin 24) (st : Fin 32)
  /-- REPORT_FRAME (R254). -/
  | reportFrame (l : Fin 24) (st : Fin 32) (fault : BitVec 16)
  /-- FPC_CTRL_EN (R279). -/
  | fpcCtrlEn (g : Fin 6) (en : Bool)
  /-- FPC_CLR (R279). -/
  | fpcClr (g : Fin 6)
  /-- GATE_AT_VDDFP (R279). -/
  | gateAtVddfp (g : Shunt)
  /-- SHUNT_LIMIT (R279). -/
  | shuntLimit (g : Shunt)
  /-- LIMIT_RECOVERY (R279). -/
  | limitRecovery (g : LimitEnd)
  /-- LIMIT_TIMER (R279). -/
  | limitTimer (g : Fin 6)
  /-- FAST_TRIP (R279). -/
  | fastTrip (g : Shunt)
  /-- FPC_RETRY (R279). -/
  | fpcRetry (g : Fin 6)
  /-- ON_STABLE (R279). -/
  | onStable (g : Fin 6)
  /-- FPC_SETTLE (R280). -/
  | fpcSettle (g : Fin 6)
  /-- BMV_GO (R310). -/
  | bmvGo (n : Fin 16)
  /-- BMV_BURST (R307). -/
  | bmvBurst (d : HostData)
  /-- BMV_DESCRIPTOR_END (R311). -/
  | bmvDescriptorEnd (n : Fin 16)
  /-- BMV_ERROR_RESPONSE (R318). -/
  | bmvErrorResponse (n : Fin 16) (a : Word) (write : Bool)
  /-- BMV_ABORT (R317). -/
  | bmvAbort (n : Fin 16)
  /-- HALT_CLR (R318). -/
  | haltClr
  /-- CVU_RESTART (R323). -/
  | cvuRestart (c : Fin 4)
  /-- CVU_DATA (R323). -/
  | cvuData (c : Fin 4) (log2 : Fin 3) (v : Word)
  /-- MSE_GO (R325). -/
  | mseGo
  /-- MSE_JOB_END (R325). -/
  | mseJobEnd
  /-- MSE_SCRUB_READ (R326). -/
  | mseScrubRead
  /-- NVR_PWD_R (R357). -/
  | nvrPwdR (v : Word)
  /-- NVR_PWD_W (R357). -/
  | nvrPwdW (v : Word)
  /-- NVR_PWD_LOCK (R357). -/
  | nvrPwdLock
  /-- CHG_R (R358). -/
  | chgR
  /-- CHG_W (R358). -/
  | chgW
  /-- NVR_JCTRL_GO (R362). -/
  | nvrJctrlGo
  /-- JOURNALED_WRITE_END (R362). -/
  | journaledWriteEnd
  /-- NVS_RELEASE (R363). -/
  | nvsRelease
  /-- POWER_FAIL_TRIGGER (R367). -/
  | powerFailTrigger (pfn : Bool)
  /-- SAVE_SEAL (R368). -/
  | saveSeal
  /-- TEST (R374). -/
  | test
  /-- RESTORE (R373). -/
  | restore
  /-- RESTORE_END (R373). -/
  | restoreEnd
  /-- INVALIDATE (R373). -/
  | invalidate
  /-- PFL_PROGRAM (R376). -/
  | pflProgram (w : Writer)
  /-- PFL_ERASE (R376). -/
  | pflErase (w : Writer)
  /-- PFL_SUSPEND (R376). -/
  | pflSuspend
  /-- PFL_RESUME (R376). -/
  | pflResume
  /-- PFL_OPERATION_END (R376). -/
  | pflOperationEnd
  /-- BOR (R417). -/
  | bor
  /-- RST_N (R417). -/
  | rstN
  /-- RST_CTRL (R438). -/
  | rstCtrl (v : Word)
  /-- BRINGUP_STEP_END (R421). -/
  | bringupStepEnd (straps : BitVec 4) (flashA flashB : Fin 3)
  /-- CRYSTAL_START_DELAY (R428). -/
  | crystalStartDelay (good : Bool)
  /-- SPM_START_OK (R400). -/
  | spmStartOk (v : Word)
  /-- WDT_SP_EXPIRY (R402). -/
  | wdtSpExpiry
  /-- CHALLENGE_EXPIRY (R412). -/
  | challengeExpiry
  /-- ENT_WINDOW_END (R407). -/
  | entWindowEnd (lo hi : BitVec 512)
  /-- RETRY_WAIT_END (R408). -/
  | retryWaitEnd
  /-- DRBG_RESEED (R410). -/
  | drbgReseed
  /-- ENT_REQ (R415). -/
  | entReq (v : Word)
  /-- RST_BLK (R424). -/
  | rstBlk (sfl : Bool) (v : Word)
  /-- WRAPPER_CLOSED (R424). -/
  | wrapperClosed (k : Fin 32)
  /-- CLOCK_MONITOR_WINDOW (R433). -/
  | clockMonitorWindow (k : Fin 7) (outside : Bool)
  /-- PLL_LOCK_DROP (R433). -/
  | pllLockDrop (p : Pll)
  /-- PLL_RELOCK (R433). -/
  | pllRelock (p : Pll)
  /-- XTAL_GOOD (R433). -/
  | xtalGood
  /-- CL_STABLE (R436). -/
  | clStable
  /-- CL_RESUME (R436). -/
  | clResume
  /-- AUTO_TRIM_INTERVAL (R430). -/
  | autoTrimInterval (n : Word)
  /-- CLFREQ_STEP_WRITE (R432). -/
  | clfreqStepWrite (c : Fin 4) (v : BitVec 4)
  /-- DOMAIN_SWITCH_OFF (R443). -/
  | domainSwitchOff (d : Fin 8)
  /-- DOMAIN_SWITCH_ON (R444). -/
  | domainSwitchOn (d : Fin 8)
  /-- DOMAIN_OFF_END (R443). -/
  | domainOffEnd (d : Fin 8)
  /-- DOMAIN_ON_END (R444). -/
  | domainOnEnd (d : Fin 8)
  /-- WAKE_ON_DEMAND (R445). -/
  | wakeOnDemand (d : Fin 8)
  /-- STANDBY_REQUEST (R448). -/
  | standbyRequest (v : Word)
  /-- SP_STOP_ACK (R448). -/
  | spStopAck
  /-- SP_ACK_TIMEOUT (R448). -/
  | spAckTimeout
  /-- STANDBY_WAKE (R450). -/
  | standbyWake (k : Fin 32)
  /-- AVS_TARGET_WRITE (R454). -/
  | avsTargetWrite (mv : BitVec 10)
  /-- AVS_SETTLE (R453). -/
  | avsSettle (r : AvsEnd)
  /-- READ_IOUT_POLL (R453). -/
  | readIoutPoll (raw : BitVec 16)
  /-- PMB_ALERT (R455). -/
  | pmbAlert (status : BitVec 16)
  /-- MAIN_SUPPLY_LOSS (R447). -/
  | mainSupplyLoss
  /-- BKD_LOSS (R456). -/
  | bkdLoss
  /-- RTC_SEC_WRITE (R457). -/
  | rtcSecWrite (v : Word)
  /-- RTC_SUB_READ (R457). -/
  | rtcSubRead
  /-- RTC_ALARM (R458). -/
  | rtcAlarm
  /-- BACKUP_EVENT (R460). -/
  | backupEvent (k : Fin 4) (rising : Bool)
  /-- REQ_CLR (R460). -/
  | reqClr
  /-- BKD_EVQ_HI_READ (R464). -/
  | bkdEvqHiRead
  /-- AGM_WINDOW_END (R466). -/
  | agmWindowEnd (w : AgmWindow)
  /-- MARGIN_PROBE (R468). -/
  | marginProbe (c : Fin 4) (r : Fin 16) (slack : BitVec 16)
  /-- AGM_SETTLE_EXPIRY (R471). -/
  | agmSettleExpiry
  /-- DAILY_RECORD (R477). -/
  | dailyRecord
  /-- AGM_LEDGER_MARK (R477). -/
  | agmLedgerMark (v : Word)
  /-- APPLY (R473). -/
  | apply (m : BitVec 4)
  /-- CANCEL (R473). -/
  | cancel (m : BitVec 4)
  /-- CRIT_CLEAR (R475). -/
  | critClear (m : BitVec 4)
  /-- TWL_ENABLE (R482). -/
  | twlEnable (en : Bool)
  /-- TWL_TRAIN_RETRY (R482). -/
  | twlTrainRetry
  /-- TWL_LANE_SYNC_LOSS (R482). -/
  | twlLaneSyncLoss
  /-- ECHO (R482). -/
  | echo (f : TwlFrame) (rt turn : Word)
  /-- TWL_ROLE_WRITE (R486). -/
  | twlRoleWrite (r : Fin 4)
  /-- PRIMARY_CLAIM_END (R486). -/
  | primaryClaimEnd
  /-- HEARTBEAT (R485). -/
  | heartbeat (f : TwlFrame) (onTime : Bool) (claim : Option Bool)
  /-- HEARTBEAT_MISSED (R495). -/
  | heartbeatMissed
  /-- SHADOW (R493). -/
  | shadow (f : TwlFrame)
  /-- SHEND (R493). -/
  | shend (f : TwlFrame)
  /-- SET_APPLICATION (R493). -/
  | setApplication
  /-- SHACK (R492). -/
  | shack (f : TwlFrame)
  /-- LINKSTATE (R491). -/
  | linkstate (f : TwlFrame)
  /-- HANDOVER_REQUEST (R499). -/
  | handoverRequest
  /-- HANDOVER_CMD (R499). -/
  | handoverCmd (f : TwlFrame)
  /-- HANDOVER_ACK (R499). -/
  | handoverAck (f : TwlFrame)
  /-- WRESET (R500). -/
  | wreset
  /-- WARM_RESET (R500). -/
  | warmReset (f : TwlFrame)
  /-- TWL_CNT_CLR (R502). -/
  | twlCntClr
  /-- EVC_SOURCE_EVENT (R513). -/
  | evcSourceEvent (n : Fin 256)
  /-- EVC_CLAIM (R515). -/
  | evcClaim
  /-- EVC_EOI (R516). -/
  | evcEoi (n : Fin 256)
  /-- EVC_TAKE (R517). -/
  | evcTake (n : Fin 256)
  /-- GPIO_EDGE (R524). -/
  | gpioEdge (p : Fin 3) (j : Fin 16) (rising : Bool)
  /-- GPIO_HOLD_RELEASE (R523). -/
  | gpioHoldRelease
  /-- UART_DATA_WRITE (R525). -/
  | uartDataWrite (n : Fin 4) (v : BitVec 8)
  /-- UART_DATA_READ (R525). -/
  | uartDataRead (n : Fin 4)
  /-- UART_RX_BYTE (R525). -/
  | uartRxByte (n : Fin 4) (v : BitVec 8) (perr ferr brk : Bool)
  /-- SPI_DATA_WRITE (R526). -/
  | spiDataWrite (m : Fin 2) (v : Word)
  /-- SPI_DATA_READ (R526). -/
  | spiDataRead (m : Fin 2)
  /-- SPI_FRAME_END (R526). -/
  | spiFrameEnd (m : Fin 2) (v : Word)
  /-- I2C_CMD (R527). -/
  | i2cCmd (j : Fin 2) (op : BitVec 3) (data : BitVec 8)
  /-- I2C_COMMAND_END (R527). -/
  | i2cCommandEnd (j : Fin 2) (r : I2cEnd)
  /-- I2C_STRETCH_TIMEOUT (R527). -/
  | i2cStretchTimeout (j : Fin 2)
  /-- RECOVER (R527). -/
  | recover (j : Fin 2) (held : Bool)
  /-- TIMER_MATCH (R528). -/
  | timerMatch (t : Fin 8)
  /-- TIMER_CAPTURE (R528). -/
  | timerCapture (t : Fin 8)
  /-- WDT_SYS_EN (R529). -/
  | wdtSysEn
  /-- WDT_SYS_KICK (R529). -/
  | wdtSysKick (key : BitVec 16)
  /-- WDT_SYS_EARLY (R529). -/
  | wdtSysEarly
  /-- WDT_SYS_EXPIRY (R529). -/
  | wdtSysExpiry
  /-- DPACC (R533). -/
  | dpacc (op : TapScan) (a v : Word) (d : HostData)
  /-- UNLOCK (R532). -/
  | unlock (cmd : BitVec 8) (payload : List Byte)
  /-- EXTEST (R539). -/
  | extest
  /-- STRING_PULSE (R536). -/
  | stringPulse (w : Writer) (k : Fin 8)
  /-- DEBUG_RESUME (R538). -/
  | debugResume (w : Writer)
  /-- DEBUG_SYSTEM_RESET (R417). -/
  | debugSystemReset
  /-- DBG_CMP_WRITE (R535). -/
  | dbgCmpWrite (w : Writer) (which : Fin 3) (v : Word)
  /-- TRC_SW (R541). -/
  | trcSw (w : Writer) (v : Word)
  /-- TRACE_START (R542). -/
  | traceStart (w : Writer)
  /-- TRACE_BUFFER_END (R543). -/
  | traceBufferEnd
  /-- REGISTER_WRITE (R13). -/
  | registerWrite (w : Writer) (a v : Word)
  /-- POWER_ON_RESET (R417). -/
  | powerOnReset
  /-- BROWN_OUT_WARNING (R548). -/
  | brownOutWarning
  /-- RST_N_RELEASE (R422). -/
  | rstNRelease
  /-- HEARTBEAT_MILLISECOND (R485). -/
  | heartbeatMillisecond
  /-- TWL_TRAIN_TIMEOUT (R482). -/
  | twlTrainTimeout
  /-- TWL_LANES_DESKEWED (R482). -/
  | twlLanesDeskewed
  /-- SOC_SEEN (R489). -/
  | socSeen (l : Fin 24) (b : KBlock) (ofs : BitVec 16)
  /-- UART_TX_BYTE (R525). -/
  | uartTxByte (n : Fin 4)
  deriving DecidableEq, Repr

end Sys2Proof
end

