-- ==== Sys2Proof/Machine/State.lean ====
section
/-! DEFINITION. The state of the block, its state right after reset, and the reasons a step can stop. -/

namespace Sys2Proof.Machine

/-- The device (one of a pair, R1 to R8), what the field links reach (the station units, R219 to R267), and the queue of the
commands that wait. Maps list the keys at which something other than the reset value stands. -/
structure State where
  /-- The commands that wait, first in, first out. -/
  pending : List Instr
  /-- The timebase in 10 ns (R12). -/
  tb : Nat
  /-- Every byte of R40's memories that differs from what an unlisted byte reads as, by rising address. -/
  mem : List Host.Cell
  /-- Addresses of words whose check bits show one wrong bit, and more than one (R84, R110, R378, R507). -/
  ecc1 : List Nat
  ecc2 : List Nat
  /-- The registers of the register map by address, at values other than their reset values. -/
  regs : SMap Word
  /-- The 64 loop engines (R75), the MC and the SP. -/
  les : SMap Cpu
  mc : Cpu
  sp : Cpu
  /-- The MC's own special registers (R505 to R510). -/
  mcr : McRegs
  /-- The plan in force, the shadow stores, the load in progress, commits that wait for a boundary (R170 to R207). -/
  plan : Option Plan
  shadows : List Shadow
  loading : Option Loading
  commits : List Path
  /-- Clusters whose LIMs and LDMs hold no kernel since they were switched on (R442). -/
  unloaded : List Nat
  /-- The NV area of each partition: base, length and its own (R302). -/
  nvAreas : SMap (Nat × Nat × Nat)
  nvr : Nvr
  pfl : Pfl
  cfg : Cfg
  boot : Boot
  ent : Ent
  rst : Rst
  clk : Clk
  pmu : Pmu
  bkd : Bkd
  agm : Agm
  twl : Twl
  per : Per
  bmv : Bmv
  /-- The check registers of the four CVU contexts (R321). -/
  cvu : SMap Word
  mse : Mse
  dpr : Dpr
  cyc : Cyc
  /-- The signal slots (R188, R189). -/
  slots : SMap Slot
  /-- Stores under way of engines that a reset has stopped since (log entry 10). -/
  orphans : List (Nat × StoreEntry)
  trc : Trc
  dbg : Dbg
  hif : Hif
  /-- Accesses of registers that wait at the wrapper of a domain, in order of arrival (R444, R445). -/
  held : List HeldAcc
  /-- The 24 link controllers with their station tables, and the station units by 32 × link + position. -/
  links : SMap Lnk
  units : SMap StnUnit
  /-- The field power groups (R268 to R280). -/
  fpgs : SMap Fpg
  /-- The model's own: how many free values have been drawn (log entry 7). -/
  draws : Nat
  /-- The model's own: what the last register read answered. -/
  readData : Word
  deriving DecidableEq, Repr

/-- A command's meaning ends in no fault: every command of the table has an effect of the spec's. -/
inductive Fault where
  deriving DecidableEq, Repr

/-- Why a command would have no meaning. -/
inductive Refusal where
  /-- Raised by an arm of the dispatcher that has no meaning yet (none is left); safe. -/
  | notModelled (mnemonic : String)
  deriving DecidableEq, Repr

/-- The registers that differ from the reset column right after a power-on reset: its cause and scope (R427, R438), the
domains on (R441), step 1 of the bring-up (R421). -/
def resetRegs : SMap Word :=
  [(R.RST_CAUSE, 1), (R.RST_LAST, 0x01000001), (R.RST_SEQ, 1), (R.PMU_DOM_CTRL, 0xFF), (R.PMU_DOM_STAT, 0xFF)].filter
    (fun e => decide (e.2 ≠ regReset e.1))

/-- The bytes of backup RAM that the power-on reset's log entry sets: the next index, CAUSE and SCOPE (R427). -/
def resetLog : List Host.Cell := [(0x4000513F, 1), (0x40005148, 1), (0x4000514A, 1)]

/-- The machine right after a power-on reset: step 1 of the bring-up runs (R417 to R421). -/
def State.reset : State :=
  { pending := []
    tb := 0
    mem := resetLog
    ecc1 := []
    ecc2 := []
    regs := resetRegs
    les := []
    mc := {}
    sp := {}
    mcr := {}
    plan := none
    shadows := []
    loading := none
    commits := []
    unloaded := []
    nvAreas := []
    nvr := {}
    pfl := {}
    cfg := {}
    boot := {}
    ent := {}
    rst := {}
    clk := {}
    pmu := {}
    bkd := {}
    agm := {}
    twl := {}
    per := {}
    bmv := {}
    cvu := []
    mse := {}
    dpr := {}
    cyc := {}
    slots := []
    orphans := []
    trc := {}
    dbg := {}
    hif := {}
    held := []
    links := []
    units := []
    fpgs := []
    draws := 0
    readData := 0 }

end Sys2Proof.Machine
end

