-- ==== Sys2Proof/Machine/Ops.lean ====
section
/-! DEFINITION. The named operations over registers, memory and events that every meaning is written in. -/

namespace Sys2Proof.Machine

/-- What a command answers. -/
abbrev Outcome := Host.Outcome State Fault Refusal

/-! ### Registers -/

/-- What the register at an address holds. -/
def State.reg (s : State) (a : Nat) : Word := SMap.get regReset s.regs a

/-- Puts a value into the register at an address. -/
def State.setReg (s : State) (a : Nat) (v : Word) : State := { s with regs := SMap.set regReset s.regs a v }

/-- The value of a field within a word. -/
def Fld.of (f : Fld) (w : Word) : Nat := w.toNat / 2 ^ f.lo % 2 ^ f.w

/-- A word with one field replaced; the value is taken modulo the field's width. -/
def Fld.put (f : Fld) (w : Word) (v : Nat) : Word :=
  word (w.toNat - f.of w * 2 ^ f.lo + v % 2 ^ f.w * 2 ^ f.lo)

/-- What a field reads as. -/
def State.fld (s : State) (f : Fld) : Nat := f.of (s.reg f.reg)

/-- Sets a field. -/
def State.setFld (s : State) (f : Fld) (v : Nat) : State := s.setReg f.reg (f.put (s.reg f.reg) v)

/-- A one-bit field is 1. -/
def State.flag (s : State) (f : Fld) : Bool := decide (s.fld f ≠ 0)

/-- Bit `k` of a register. -/
def State.regBit (s : State) (a k : Nat) : Bool := (s.reg a).toNat.testBit k

/-- Sets or clears bit `k` of a register. -/
def State.setRegBit (s : State) (a k : Nat) (v : Bool) : State :=
  s.setReg a (if v then s.reg a ||| word (2 ^ k) else s.reg a &&& ~~~word (2 ^ k))

/-- Adds 1 to a counter field, saturating at the field's width. -/
def State.count (s : State) (f : Fld) : State :=
  if s.fld f + 1 < 2 ^ f.w then s.setFld f (s.fld f + 1) else s

/-- Adds 1 to a 32-bit counter register, saturating at 0xFFFF_FFFF. -/
def State.countReg (s : State) (a : Nat) : State := s.count ⟨a, 0, 32⟩

/-- A field set only where the value lies in the given range; another value leaves it unchanged. -/
def State.setFldIn (s : State) (f : Fld) (lo hi v : Nat) : State :=
  if lo ≤ v ∧ v ≤ hi then s.setFld f v else s

/-- Every register that `p` names returns to its reset value. -/
def State.resetRegs (s : State) (p : Nat → Bool) : State := { s with regs := SMap.erase p s.regs }

/-- A plain write of software to a register that the map holds: RW bits take the value, W1C bits clear where 1 is
written, every other bit keeps (R13). -/
def plainWrite (r : RegRow) (old v : Word) : Word :=
  ((old &&& ~~~word r.rw) ||| (v &&& word r.rw)) &&& ~~~(v &&& word r.w1c)

/-- The bits that a read never shows (WO fields read 0, R13). -/
def plainRead (r : RegRow) (v : Word) : Word := v &&& ~~~word r.wo

/-! ### Sets of numbers, held as rising lists -/

/-- Membership. -/
def has (l : List Nat) (k : Nat) : Bool := l.contains k

/-- Adds a number at its place. -/
def addTo : List Nat → Nat → List Nat
  | [], k => [k]
  | a :: l, k => if k < a then k :: a :: l else if k = a then a :: l else a :: addTo l k

/-- Removes a number. -/
def dropFrom (l : List Nat) (k : Nat) : List Nat := l.filter (fun a => decide (a ≠ k))

/-- Adds or removes a number. -/
def putIn (l : List Nat) (k : Nat) (on : Bool) : List Nat := if on then addTo l k else dropFrom l k

/-! ### Memory -/

/-- What a byte that nothing has written reads as: 0 in RAM (step 4 of R421) and in the NVR (log entry 6), 0xFF in
erased Parameter Flash, the factory's data in its calibration sector, the mask contents of the SP ROM, the external flash's contents in the octal window. -/
def blank (a : Nat) : Byte :=
  if a < 0x20000 then Config.spRom a
  else if 0x58001000 ≤ a ∧ a < 0x58002000 then Config.factoryByte (a - 0x58001000)
  else if 0x58000000 ≤ a ∧ a < 0x58100000 then 0xFF
  else if 0x60000000 ≤ a ∧ a < 0x64000000 then Config.octalFlash (a - 0x60000000)
  else 0

/-- The canonical form of memory. -/
def Memory.wf (m : List Host.Cell) : Bool := SMap.wf blank m

/-- The byte at an address. -/
def State.byte (s : State) (a : Nat) : Byte := SMap.get blank s.mem a

/-- Writes one byte. -/
def State.setByte (s : State) (a : Nat) (v : Byte) : State := { s with mem := SMap.set blank s.mem a v }

/-- `n` bytes from an address on. -/
def State.bytes (s : State) (a : Nat) : Nat → List Byte
  | 0 => []
  | n + 1 => s.byte a :: s.bytes (a + 1) n

/-- Writes bytes at rising addresses. -/
def State.setBytes (s : State) (a : Nat) : List Byte → State
  | [] => s
  | b :: l => (s.setByte a b).setBytes (a + 1) l

/-- A little-endian number (R11). -/
def leNat : List Byte → Nat
  | [] => 0
  | b :: l => b.toNat + 256 * leNat l

/-- The low `n` bytes of a number, little-endian (R11). -/
def leBytes : Nat → Nat → List Byte
  | 0, _ => []
  | n + 1, v => BitVec.ofNat 8 v :: leBytes n (v / 256)

/-! ### Undefined bytes (R185) -/

/-- Ranges without the `n` bytes from `a` on. -/
def cutRange (l : List (Nat × Nat)) (a n : Nat) : List (Nat × Nat) :=
  ((l.map (fun r => [(r.1, min (r.1 + r.2) a - r.1), (max r.1 (a + n), r.1 + r.2 - max r.1 (a + n))])).flatten).filter
    (fun r => decide (0 < r.2))

/-- The bytes of a range are defined from now on. -/
def State.define (s : State) (a n : Nat) : State :=
  if s.dpr.undef = [] then s else { s with dpr := { s.dpr with undef := cutRange s.dpr.undef a n } }

/-- A byte holds an undefined value. -/
def State.undefAt (s : State) (a : Nat) : Bool := s.dpr.undef.any (fun r => decide (r.1 ≤ a ∧ a < r.1 + r.2))

/-- The bytes that a reader meets: a free value for an undefined one. -/
def State.look (s : State) (a n : Nat) : List Byte :=
  if s.dpr.undef = [] then s.bytes a n
  else (List.range n).map (fun k =>
    if s.undefAt (a + k) then BitVec.ofNat 8 (Config.freeValue (s.dpr.undefKey + a + k)) else s.byte (a + k))

/-- A little-endian read of `n` bytes. -/
def State.rd (s : State) (a n : Nat) : Nat := leNat (s.bytes a n)

/-- A little-endian write of `n` bytes. -/
def State.wr (s : State) (a n v : Nat) : State := s.setBytes a (leBytes n v)

/-- Every byte that `p` names reads as unwritten again. -/
def State.wipe (s : State) (p : Nat → Bool) : State := { s with mem := SMap.erase p s.mem }

/-- `lo ≤ a < lo + n`. -/
def within (a lo n : Nat) : Bool := decide (lo ≤ a) && decide (a < lo + n)

/-- Erases a sector of Parameter Flash: every word and its check bits (R376). -/
def eraseSector (s : State) (k : Nat) : State :=
  let inSector := fun x => within x (0x58000000 + 4096 * k) 4096
  { s.wipe inSector with
    ecc1 := s.ecc1.filter (fun x => !inSector x), ecc2 := s.ecc2.filter (fun x => !inSector x)
    pfl := { s.pfl with ones := s.pfl.ones.filter (fun x => !within x (4096 * k) 4096) } }

/-- An engine's LDM and LIM (R40). -/
def ldmBase (n : Nat) : Nat := 0x38008000 + 0x10000 * n
def limBase (n : Nat) : Nat := 0x38000000 + 0x10000 * n

/-- A cluster's CSM (R40). -/
def csmBase (c : Nat) : Nat := 0x30000000 + 0x1000000 * c

/-! ### Check bits (R84, R110, R378, R507) -/

/-- The word that check bits cover: 32 bits in LIM and LDM, 64 bits elsewhere. -/
def eccWord (a : Nat) : Nat × Nat := if 0x38000000 ≤ a ∧ a < 0x38400000 then (a / 4 * 4, 4) else (a / 8 * 8, 8)

/-- A range covers the whole word of an address. -/
def coversWord (a n e : Nat) : Bool := decide (a ≤ (eccWord e).1 ∧ (eccWord e).1 + (eccWord e).2 ≤ a + n)

/-- A write of bytes; words written whole take new check bits. -/
def State.store (s : State) (a : Nat) (l : List Byte) : State :=
  let s1 := s.setBytes a l
  { s1 with
    ecc1 := s1.ecc1.filter (fun e => !coversWord a l.length e)
    ecc2 := s1.ecc2.filter (fun e => !coversWord a l.length e) }

/-! ### Free values -/

/-- The next free value, and the state that has drawn it (log entry 7). -/
def State.draw (s : State) : Nat × State := (Config.freeValue s.draws, { s with draws := s.draws + 1 })

/-! ### Events (R513) -/

/-- An event of EVC source `src` reaches the controller: pending, CNT up to 15, the storm guard at the event that brings CNT to 15 (R513). An event that
arises while the EVC is held in reset is lost (R519). -/
def evcEvent (s : State) (src : Nat) : State :=
  if s.mc.k.state = .reset then s else
  let cnt : Fld := ⟨R.EVC_CNT (src / 8), 4 * (src % 8), 4⟩
  let s1 := (s.setRegBit (R.EVC_PEND (src / 32)) (src % 32) true).count cnt
  if s.fld cnt = 14 ∧ s1.flag (F.EVC_CFG_STORM src) then
    (s1.setRegBit (R.EVC_MASK (src / 32)) (src % 32) false).setRegBit (R.EVC_STORM (src / 32)) (src % 32) true
  else s1

/-- An event of a source 0 to 31: the AON watcher latches it, in every state but BACKUP, and passes it to the EVC while the
device is ACTIVE or LIGHT (R451, R519). -/
def aonEvent (s : State) (src : Nat) : State :=
  match s.pmu.state with
  | .active => evcEvent (s.setRegBit R.PMU_WAKE_PEND src true) src
  | .standby => s.setRegBit R.PMU_WAKE_PEND src true
  | .backup => s

/-- An event of a block's source `first + k`, where bit `k` of the block's enable field lets it reach the EVC. -/
def evcIf (s : State) (en : Fld) (first k : Nat) : State :=
  if (s.fld en).testBit k then evcEvent s (first + k) else s

/-- A raised NMI kind sets its bit whatever IE holds (R508). -/
def raiseNmi (s : State) (kind : Nat) : State :=
  { s with mcr := { s.mcr with nmiStat := s.mcr.nmiStat ||| word (2 ^ kind), nmiNew := true } }

/-- A read of MGS meets an uncorrectable error (R507): counted in `MC_MGS_ECC`, its address kept, NMI kind MGS_UE. -/
def mgsUe (s : State) (a : Nat) : State :=
  raiseNmi ((s.count F.MC_MGS_ECC_UNCORR).setReg R.MC_MGS_UEADDR (word (a / 8 * 8))) 3

/-- A range of MGS holds an uncorrectable error (R507). -/
def mgsBad (s : State) (a n : Nat) : Option Nat := s.ecc2.find? (fun e => decide (e / 8 * 8 < a + n ∧ a < e / 8 * 8 + 8))

/-! ### Processors -/

/-- The engine's state at reset (R98, R117). -/
def cpuReset : Cpu := {}

/-- A processor. -/
def State.cpu (s : State) : ProcId → Cpu
  | .le n => SMap.get (fun _ => cpuReset) s.les n.val
  | .mc => s.mc
  | .sp => s.sp

/-- Engine `n` of any number. -/
def State.le (s : State) (n : Nat) : Cpu := SMap.get (fun _ => cpuReset) s.les n

def State.setLe (s : State) (n : Nat) (c : Cpu) : State :=
  { s with les := SMap.set (fun _ => cpuReset) s.les n c }

/-- Replaces a processor. -/
def State.setCpu (s : State) (p : ProcId) (c : Cpu) : State :=
  match p with
  | .le n => s.setLe n.val c
  | .mc => { s with mc := c }
  | .sp => { s with sp := c }

/-- Changes a processor's registers. -/
def State.upd (s : State) (p : ProcId) (f : Proc → Proc) : State :=
  s.setCpu p { s.cpu p with r := f (s.cpu p).r }

/-- Changes what surrounds a processor. -/
def State.updK (s : State) (p : ProcId) (f : Core → Core) : State :=
  s.setCpu p { s.cpu p with k := f (s.cpu p).k }

/-- The initiator code of a processor (R42). -/
def initCode : ProcId → Nat
  | .le n => n.val
  | .mc => 0x40
  | .sp => 0x41

/-- ST bits by number (R98). -/
def stBit (w : Word) (k : Nat) : Bool := w.toNat.testBit k

/-- ST with one bit set or cleared. -/
def setBit (w : Word) (k : Nat) (v : Bool) : Word := if v then w ||| word (2 ^ k) else w &&& ~~~word (2 ^ k)

/-- Supervisor mode (ST.S). -/
def Proc.sup (r : Proc) : Bool := stBit r.st 8
/-- ST.IE. -/
def Proc.ie (r : Proc) : Bool := stBit r.st 9

/-- What ST reads as: RSDEPTH in [15:12], 16 entries reading 0 (R98). -/
def Proc.stVal (r : Proc) : Word := (r.st &&& 0xFFFF0FFF) ||| word (r.rsDepth % 16 * 4096)

/-- PRED as MFS reads it: P3, P2, P1, P0 (R140). -/
def Proc.predBits (r : Proc) : Nat :=
  (if r.p1 then 2 else 0) + (if r.p2 then 4 else 0) + (if r.p3 then 8 else 0) + 1

end Sys2Proof.Machine
end

