-- ==== Sys2Proof/Machine/Operands.lean ====
section
/-! DEFINITION. Gurno operands: which addressing modes, operand bits and codes each opcode admits (R122 to R128), and
the address or constant that each mode gives. -/

namespace Sys2Proof.Machine

/-- The addressing mode sets of the opcode table (R128). `fma` is V without its two constants. -/
inductive AmSet where
  | v | s | m | mNoIxp | i | t | fma
  deriving DecidableEq, Repr

/-- The addressing modes of each opcode (R128). -/
def amSet : GOp → AmSet
  | .ld | .ldx | .ldy => .v
  | .st | .stx | .sty => .s
  | .ldh | .ldb | .sth | .stb | .xch | .clamp => .m
  | .leax | .leay => .mNoIxp
  | .mov | .ldu => .i
  | .add | .sub | .subr | .mul | .mulh | .and | .or | .xor | .shl | .shr | .sar | .min | .max | .addx | .addy => .v
  | .fadd | .fsub | .fmul | .fdiv | .fsubr | .fmin | .fmax | .sat | .fabs | .fneg | .itof | .ftoi => .v
  | .fmac => .fma
  | .cmp | .fcmp | .tst => .v
  | .pset | .pand | .por | .pnot => .i
  | .br | .call => .t
  | .ret | .loop | .sysc | .sret | .eret | .nop | .yield | .wait | .fence | .mfs | .mts => .i

/-- The opcode's number (R128). -/
def opcode : GOp → Nat
  | .ld => 0x00 | .st => 0x01 | .ldx => 0x02 | .stx => 0x03 | .ldy => 0x04 | .sty => 0x05 | .ldh => 0x06 | .ldb => 0x07
  | .sth => 0x08 | .stb => 0x09 | .leax => 0x0A | .leay => 0x0B | .mov => 0x0C | .xch => 0x0D | .ldu => 0x0E
  | .add => 0x10 | .sub => 0x11 | .subr => 0x12 | .mul => 0x13 | .mulh => 0x14 | .and => 0x15 | .or => 0x16
  | .xor => 0x17 | .shl => 0x18 | .shr => 0x19 | .sar => 0x1A | .min => 0x1B | .max => 0x1C | .addx => 0x1D
  | .addy => 0x1E
  | .fadd => 0x20 | .fsub => 0x21 | .fmul => 0x22 | .fdiv => 0x23 | .fmac => 0x24 | .fsubr => 0x25 | .fmin => 0x26
  | .fmax => 0x27 | .clamp => 0x28 | .sat => 0x29 | .fabs => 0x2A | .fneg => 0x2B | .itof => 0x2C | .ftoi => 0x2D
  | .cmp => 0x30 | .fcmp => 0x31 | .tst => 0x32 | .pset => 0x33 | .pand => 0x34 | .por => 0x35 | .pnot => 0x36
  | .br => 0x38 | .call => 0x39 | .ret => 0x3A | .loop => 0x3B | .sysc => 0x3C | .sret => 0x3C | .eret => 0x3C
  | .nop => 0x3D | .yield => 0x3D | .wait => 0x3D | .fence => 0x3D | .mfs => 0x3E | .mts => 0x3F

/-- OPD[19:16] of the SYS and CTL groups (R128); 0 for every other opcode. -/
def subcode : GOp → Nat
  | .sret => 1 | .eret => 2 | .yield => 1 | .wait => 2 | .fence => 3
  | _ => 0

/-- The SYS and CTL groups, whose OPD[19:16] the instruction's name fixes. -/
def hasSub : GOp → Bool
  | .sysc | .sret | .eret | .nop | .yield | .wait | .fence => true
  | _ => false

/-- A reserved opcode, or a reserved sub-operation of the SYS and CTL groups (R128). -/
def reservedCode (code sub : Nat) : Bool :=
  decide (code = 0x0F ∨ code = 0x1F ∨ code = 0x2E ∨ code = 0x2F ∨ code = 0x37) || (decide (code = 0x3C) && decide (3 ≤ sub)) ||
    (decide (code = 0x3D) && decide (4 ≤ sub))

/-- Opcodes 0x20 to 0x2F (R116). -/
def isFloat (op : GOp) : Bool := decide (0x20 ≤ opcode op ∧ opcode op ≤ 0x2F)

/-- Opcodes whose IMM constant is the upper 20 bits of a binary32 (R123). -/
def floatConst (op : GOp) : Bool :=
  decide ((0x20 ≤ opcode op ∧ opcode op ≤ 0x2B) ∨ opcode op = 0x2D ∨ opcode op = 0x31)

/-- OPD with the sub-operation of SYS and CTL as the instruction's name has it. -/
def opdOf (op : GOp) (e : Enc) : Nat :=
  if hasSub op then e.opd.toNat % 65536 + subcode op * 65536 else e.opd.toNat

/-- A field of OPD. -/
def opdBits (e : Enc) (lo w : Nat) : Nat := e.opd.toNat / 2 ^ lo % 2 ^ w

/-- The word's second word counts as an address (OPD[19], R123). -/
def extAddr (e : Enc) : Bool := opdBits e 19 1 = 1

/-- The instruction's length in bytes: AM alone decides it (R119). -/
def ilen (e : Enc) : Nat := if e.am = 7 then 8 else 4

/-- The opcode permits the mode (R122, R128). -/
def amOk (op : GOp) (e : Enc) : Bool :=
  match amSet op with
  | .v => true
  | .s => e.am != 0 && (e.am != 7 || extAddr e)
  | .m => e.am != 0 && e.am != 6 && (e.am != 7 || extAddr e)
  | .mNoIxp => e.am != 0 && e.am != 6 && e.am != 5 && (e.am != 7 || extAddr e)
  | .i => e.am == 0
  | .t => e.am == 0 || e.am == 3 || (e.am == 7 && extAddr e)
  | .fma => e.am != 0 && (e.am != 7 || extAddr e)

/-- The mode's reserved OPD bits are 0 (R123). IMM has none beyond those of the opcode. -/
def amBitsOk (e : Enc) : Bool :=
  match e.am.toNat with
  | 0 => true
  | 5 => opdBits e 8 12 = 0
  | 6 => opdBits e 18 2 = 0
  | 7 => opdBits e 0 19 = 0
  | _ => opdBits e 16 4 = 0

/-- A store opcode. -/
def isStore : GOp → Bool
  | .st | .stx | .sty | .sth | .stb => true
  | _ => false

/-- The slot part of a SIG operand is permitted for the opcode (R124). -/
def sigOk (op : GOp) (e : Enc) : Bool :=
  e.am != 6 ||
    (match opdBits e 16 2 with
     | 2 => !isStore op
     | 3 => op == .ld || op == .st
     | _ => true)

/-- Special register numbers of R140 that a processor has; `mts` asks whether MTS is permitted. On the SP, for which the table gives PART
no access by MTS, it is ILLEGAL (log entry 184). -/
def specialOk (p : ProcId) (mts : Bool) (n : Nat) : Bool :=
  let ro := n = 0x06 ∨ n = 0x1D ∨ n = 0x23 ∨ n = 0x25 ∨ n = 0x26 ∨ n = 0x27 ∨ n = 0x28 ∨ n = 0x29
  let rw := n ≤ 0x05 ∨ n = 0x07 ∨ (0x08 ≤ n ∧ n ≤ 0x12) ∨ (0x14 ≤ n ∧ n ≤ 0x16) ∨ (0x18 ≤ n ∧ n ≤ 0x1A) ∨
    n = 0x1C ∨ n = 0x20 ∨ n = 0x21 ∨ n = 0x24
  if rw then true
  else if n = 0x22 then !mts || p == .mc
  else if ro then !mts
  else
    match p with
    | .le _ => false
    | .mc =>
      if 0x40 ≤ n ∧ n ≤ 0x5F then true
      else if n = 0x60 ∨ n = 0x62 ∨ n = 0x68 ∨ n = 0x69 ∨ n = 0x6A then true
      else if n = 0x61 then !mts
      else false
    | .sp => decide (0x40 ≤ n ∧ n ≤ 0x7F)

/-- The special registers that MFS reads in task mode (R140, "T"). -/
def specialTask (n : Nat) : Bool :=
  decide (n = 0x00 ∨ (0x10 ≤ n ∧ n ≤ 0x1A) ∨ n = 0x1D ∨ (0x20 ≤ n ∧ n ≤ 0x29))

/-- The opcode's own operand codes and reserved bits (R122, R128, R136, R140). -/
def codesOk (p : ProcId) (op : GOp) (e : Enc) : Bool :=
  match op with
  | .mov => opdBits e 8 12 = 0 && opdBits e 4 4 < 4 && opdBits e 0 4 < 4
  | .pset => opdBits e 6 14 = 0 && opdBits e 4 2 != 0
  | .pand | .por => opdBits e 8 12 = 0 && opdBits e 4 2 != 0
  | .pnot => opdBits e 6 14 = 0 && opdBits e 0 2 = 0 && opdBits e 4 2 != 0
  | .ret => e.opd = 0
  | .loop =>
    if opdBits e 0 10 = 0 then opdBits e 10 10 = 0
    else opdBits e 19 1 = 0 || opdBits e 10 9 = 0
  | .sysc => opdBits e 4 12 = 0 && opdBits e 0 4 < 8
  | .sret | .eret => opdBits e 0 16 = 0
  | .yield => (match p with | .le _ => true | _ => false)
  | .wait => true
  | .mfs => opdBits e 8 12 = 0 && specialOk p false (opdBits e 0 8)
  | .mts => opdBits e 8 12 = 0 && specialOk p true (opdBits e 0 8)
  | _ => true

/-- An executed instruction that does not raise ILLEGAL for its encoding (R122, R116, R124). -/
def encodingOk (p : ProcId) (op : GOp) (e : Enc) : Bool :=
  e.rsv == none && amOk op e && amBitsOk e && sigOk op e && codesOk p op e && !(isFloat op && p == .sp)

/-- A supervisor-only instruction or register in task mode (R94, R118, R140, R141). -/
def privileged (op : GOp) (e : Enc) : Bool :=
  match op with
  | .mts | .sret | .eret | .wait => true
  | .mov => opdBits e 4 4 = 3
  | .mfs => !specialTask (opdBits e 0 8)
  | _ => false

/-- Sign extension of the low `w` bits of OPD. -/
def sext (e : Enc) (w : Nat) : Word :=
  if opdBits e (w - 1) 1 = 1 then word (opdBits e 0 w + (2 ^ 32 - 2 ^ w)) else word (opdBits e 0 w)

/-- An operand: a constant, an address, or a part of a slot (R123, R124). -/
inductive Operand where
  | const (w : Word)
  | addr (a : Word)
  | sig (slot part : Nat)
  deriving DecidableEq, Repr

/-- Base of DIR addressing (R116). -/
def dirBase : ProcId → Word
  | .le _ => 0
  | .mc => 0x10000000
  | .sp => 0x01000000

/-- The operand that the addressing mode gives (R123). -/
def operand (p : ProcId) (r : Proc) (op : GOp) (e : Enc) : Operand :=
  match e.am.toNat with
  | 0 => .const (if floatConst op then word (e.opd.toNat * 4096) else sext e 20)
  | 1 => .addr (dirBase p + word (opdBits e 0 16))
  | 2 => .addr (r.b + word (opdBits e 0 16))
  | 3 => .addr (r.x + sext e 16)
  | 4 => .addr (r.y + sext e 16)
  | 5 => .addr r.x
  | 6 => .sig (opdBits e 0 16) (opdBits e 16 2)
  | _ => if extAddr e then .addr e.ext else .const e.ext

/-- X after the post-update of IXP; unchanged in every other mode (R123). -/
def ixpX (r : Proc) (e : Enc) : Word := if e.am = 5 then r.x + sext e 8 else r.x

/-- Target of BR and CALL (R128); bits [1:0] are ignored (R127). -/
def branchTarget (r : Proc) (e : Enc) : Word :=
  let t :=
    match e.am.toNat with
    | 0 => r.pc + word (4 * (sext e 20).toNat)
    | 3 => r.x + sext e 16
    | _ => e.ext
  t &&& 0xFFFFFFFC

/-- Size in bytes of the access an opcode makes; CLAMP and part 11 take 8 (R127). -/
def accessSize : GOp → Nat
  | .ldh | .sth => 2
  | .ldb | .stb => 1
  | .clamp => 8
  | _ => 4

end Sys2Proof.Machine
end

