-- ==== Sys2Proof/WellFormed.lean ====
section
/-! DEFINITION. Which terms of `Instr` a sender can bring about: second words, sub-operations, and lengths of lists that the
spec fixes. -/

namespace Sys2Proof

open Sys2Proof.Machine

/-- The Gurno operation and the issue of an instruction row; `none` for every other command. -/
def Instr.gurno : Instr → Option (GOp × Issue)
  | .ld g => some (.ld, g)
  | .st g => some (.st, g)
  | .ldx g => some (.ldx, g)
  | .stx g => some (.stx, g)
  | .ldy g => some (.ldy, g)
  | .sty g => some (.sty, g)
  | .ldh g => some (.ldh, g)
  | .ldb g => some (.ldb, g)
  | .sth g => some (.sth, g)
  | .stb g => some (.stb, g)
  | .leax g => some (.leax, g)
  | .leay g => some (.leay, g)
  | .mov g => some (.mov, g)
  | .xch g => some (.xch, g)
  | .ldu g => some (.ldu, g)
  | .add g => some (.add, g)
  | .sub g => some (.sub, g)
  | .subr g => some (.subr, g)
  | .mul g => some (.mul, g)
  | .mulh g => some (.mulh, g)
  | .and g => some (.and, g)
  | .or g => some (.or, g)
  | .xor g => some (.xor, g)
  | .shl g => some (.shl, g)
  | .shr g => some (.shr, g)
  | .sar g => some (.sar, g)
  | .min g => some (.min, g)
  | .max g => some (.max, g)
  | .addx g => some (.addx, g)
  | .addy g => some (.addy, g)
  | .fadd g => some (.fadd, g)
  | .fsub g => some (.fsub, g)
  | .fmul g => some (.fmul, g)
  | .fdiv g => some (.fdiv, g)
  | .fmac g => some (.fmac, g)
  | .fsubr g => some (.fsubr, g)
  | .fmin g => some (.fmin, g)
  | .fmax g => some (.fmax, g)
  | .clamp g => some (.clamp, g)
  | .sat g => some (.sat, g)
  | .fabs g => some (.fabs, g)
  | .fneg g => some (.fneg, g)
  | .itof g => some (.itof, g)
  | .ftoi g => some (.ftoi, g)
  | .cmp g => some (.cmp, g)
  | .fcmp g => some (.fcmp, g)
  | .tst g => some (.tst, g)
  | .pset g => some (.pset, g)
  | .pand g => some (.pand, g)
  | .por g => some (.por, g)
  | .pnot g => some (.pnot, g)
  | .br g => some (.br, g)
  | .call g => some (.call, g)
  | .ret g => some (.ret, g)
  | .loop g => some (.loop, g)
  | .sysc g => some (.sysc, g)
  | .sret g => some (.sret, g)
  | .eret g => some (.eret, g)
  | .nop g => some (.nop, g)
  | .yield g => some (.yield, g)
  | .wait g => some (.wait, g)
  | .fence g => some (.fence, g)
  | .mfs g => some (.mfs, g)
  | .mts g => some (.mts, g)
  | _ => none

/-- The instruction row of an operation. -/
def GOp.instr : GOp → Issue → Instr
  | .ld => .ld
  | .st => .st
  | .ldx => .ldx
  | .stx => .stx
  | .ldy => .ldy
  | .sty => .sty
  | .ldh => .ldh
  | .ldb => .ldb
  | .sth => .sth
  | .stb => .stb
  | .leax => .leax
  | .leay => .leay
  | .mov => .mov
  | .xch => .xch
  | .ldu => .ldu
  | .add => .add
  | .sub => .sub
  | .subr => .subr
  | .mul => .mul
  | .mulh => .mulh
  | .and => .and
  | .or => .or
  | .xor => .xor
  | .shl => .shl
  | .shr => .shr
  | .sar => .sar
  | .min => .min
  | .max => .max
  | .addx => .addx
  | .addy => .addy
  | .fadd => .fadd
  | .fsub => .fsub
  | .fmul => .fmul
  | .fdiv => .fdiv
  | .fmac => .fmac
  | .fsubr => .fsubr
  | .fmin => .fmin
  | .fmax => .fmax
  | .clamp => .clamp
  | .sat => .sat
  | .fabs => .fabs
  | .fneg => .fneg
  | .itof => .itof
  | .ftoi => .ftoi
  | .cmp => .cmp
  | .fcmp => .fcmp
  | .tst => .tst
  | .pset => .pset
  | .pand => .pand
  | .por => .por
  | .pnot => .pnot
  | .br => .br
  | .call => .call
  | .ret => .ret
  | .loop => .loop
  | .sysc => .sysc
  | .sret => .sret
  | .eret => .eret
  | .nop => .nop
  | .yield => .yield
  | .wait => .wait
  | .fence => .fence
  | .mfs => .mfs
  | .mts => .mts

/-- The fields of an instruction word go together: a second word only in EXT mode (R119), and OPD[19:16] as the operation's
name has it (R128). -/
def Enc.wf (op : GOp) (e : Enc) : Bool :=
  (decide (e.am = 7) || decide (e.ext = 0)) &&
    (match e.rsv with
     | none => !hasSub op || decide (e.opd.toNat / 65536 = subcode op)
     | some c => op == .nop && reservedCode c.toNat (e.opd.toNat / 65536))

/-- LEN counts the payload, at most 1,024 bytes (R225). -/
def Frame.wf (f : Frame) : Bool := decide (f.len.toNat = f.payload.length) && decide (f.payload.length ≤ 1024)

/-- LEN counts the payload, at most 4,096 bytes (R483). -/
def TwlFrame.wf (f : TwlFrame) : Bool := decide (f.len.toNat = f.payload.length) && decide (f.payload.length ≤ 4096)

/-- A window measures 64 replicas, four canaries, and as many sensors as the monitor has (R465). -/
def AgmWindow.wf (w : AgmWindow) : Bool :=
  decide (w.means.length = 64) && decide (w.canary.length = 4) && decide (w.temp.length = 8) && decide (w.vs.length = 8)

/-- A command that a sender can bring about. -/
def Instr.wf (i : Instr) : Bool :=
  match i.gurno with
  | some (op, g) => g.e.wf op
  | none =>
    match i with
    | .inFrame _ f => f.wf
    | .announce _ f => f.wf
    | .identRsp _ f => f.wf
    | .delayRsp _ f _ => f.wf
    | .admitAck _ f => f.wf
    | .acr _ f => f.wf
    | .diagResponse _ f => f.wf
    | .inFrameSend _ _ _ vals => decide (vals.length ≤ 64)
    | .outFrameConsume _ _ _ f => f.wf
    | .identReq _ _ f => f.wf
    | .delayReq _ _ f _ => f.wf
    | .admitReq _ _ f => f.wf
    | .release _ _ f => f.wf
    | .hold _ _ f => f.wf
    | .acy _ _ f _ data => f.wf && decide (data.length ≤ 1020)
    | .diag _ _ f => f.wf
    | .testLoopOn _ _ f => f.wf
    | .testLoopOff _ _ f => f.wf
    | .agmWindowEnd w => w.wf
    | .echo f _ _ => f.wf
    | .heartbeat f _ _ => f.wf
    | .shadow f => f.wf
    | .shend f => f.wf
    | .shack f => f.wf
    | .linkstate f => f.wf
    | .handoverCmd f => f.wf
    | .handoverAck f => f.wf
    | .warmReset f => f.wf
    | .unlock _ payload => decide (payload.length ≤ 128)
    | _ => true

end Sys2Proof
end

