-- ==== Sys2Proof/Decode.lean ====
section
/-! DEFINITION. Words: the table gives its rows no bits; a Gurno instruction has the words of R119, read and written here. -/

namespace Sys2Proof

open Sys2Proof.Machine

/-- The command that a word of the opcode table spells: the table gives no row any bits. -/
def decodeTableWord (_nbits _w : Nat) : Option Instr := none

/-! ### Words of Gurno instructions (R119, R128) -/

/-- The operations in the order of the opcode table. -/
def allOps : List GOp :=
  [.ld, .st, .ldx, .stx, .ldy, .sty, .ldh, .ldb, .sth, .stb, .leax, .leay, .mov, .xch, .ldu, .add, .sub, .subr, .mul, .mulh,
    .and, .or, .xor, .shl, .shr, .sar, .min, .max, .addx, .addy, .fadd, .fsub, .fmul, .fdiv, .fmac, .fsubr, .fmin, .fmax,
    .clamp, .sat, .fabs, .fneg, .itof, .ftoi, .cmp, .fcmp, .tst, .pset, .pand, .por, .pnot, .br, .call, .ret, .loop, .sysc,
    .sret, .eret, .nop, .yield, .wait, .fence, .mfs, .mts]

/-- An operation's code: OP, and OPD[19:16] where the SYS and CTL groups need it. -/
def opMatches (code sub : Nat) (op : GOp) : Bool := decide (opcode op = code) && (!hasSub op || decide (subcode op = sub))

/-- The operation of OP and OPD[19:16]; `none` for a reserved code. -/
def opOfCode (code sub : Nat) : Option GOp := allOps.find? (opMatches code sub)

/-- PI of a word, and the other fields (R119). -/
def wordPi (w : Word) : Bool := w.getLsbD 31
def wordPs (w : Word) : BitVec 2 := w.extractLsb' 29 2
def wordOp (w : Word) : BitVec 6 := w.extractLsb' 23 6
def wordAm (w : Word) : BitVec 3 := w.extractLsb' 20 3
def wordOpd (w : Word) : BitVec 20 := w.extractLsb' 0 20

/-- The instruction of a word and the word behind it, as processor `p` meets it with a stall; a reserved code stands in the NOP row. -/
def decodeGurno (p : ProcId) (stall : Nat) (w x : Word) : Option Instr :=
  match opOfCode (wordOp w).toNat ((wordOpd w).toNat / 65536) with
  | some op => some (op.instr ⟨p, ⟨wordPi w, wordPs w, wordAm w, wordOpd w, if wordAm w = 7 then x else 0, none⟩, stall⟩)
  | none => some (GOp.nop.instr ⟨p, ⟨wordPi w, wordPs w, wordAm w, wordOpd w, if wordAm w = 7 then x else 0, some (wordOp w)⟩, stall⟩)

/-- The first word of an instruction. -/
def gurnoWord (op : GOp) (e : Enc) : Word :=
  BitVec.ofBool e.pi ++ e.ps ++ e.rsv.getD (BitVec.ofNat 6 (opcode op)) ++ e.am ++ e.opd

/-- The words of an instruction row: the first, and the second as it stands in EXT mode, else 0. -/
def encodeGurno (i : Instr) : Option (Word × Word) :=
  match i.gurno with
  | some (op, g) => some (gurnoWord op g.e, g.e.ext)
  | none => none

end Sys2Proof
end

