-- ==== Sys2Proof/Machine/Crc.lean ====
section
/-! DEFINITION. Check values: the CRC-32C of frames and images (R174, R230), CRC-8 of K28.1 blocks (R220). -/

namespace Sys2Proof.Machine

/-- One bit of a reflected 32-bit CRC with reversed polynomial `poly`. -/
def crcBit (poly c : BitVec 32) : BitVec 32 := if c.toNat % 2 = 1 then (c >>> 1) ^^^ poly else c >>> 1

def crcBits (poly : BitVec 32) : Nat → BitVec 32 → BitVec 32
  | 0, c => c
  | n + 1, c => crcBits poly n (crcBit poly c)

/-- CRC-32C over bytes from a running register, without the final XOR (reversed 0x1EDC6F41). -/
def crc32cRun (c : BitVec 32) : List Byte → BitVec 32
  | [] => c
  | b :: l => crc32cRun (crcBits 0x82F63B78 8 (c ^^^ b.zeroExtend 32)) l

/-- CRC-32C with a seed and the final XOR (R230). -/
def crc32cFrom (seed : BitVec 32) (l : List Byte) : BitVec 32 := crc32cRun seed l ^^^ 0xFFFFFFFF

/-- CRC-32C with the plain seed (R174). -/
def crc32c (l : List Byte) : BitVec 32 := crc32cFrom 0xFFFFFFFF l

/-- One bit of the CRC-8 of R220: polynomial 0x07, most significant bit first. -/
def crc8Bits : Nat → BitVec 8 → BitVec 8
  | 0, c => c
  | n + 1, c => crc8Bits n (if c.msb then (c <<< 1) ^^^ 0x07 else c <<< 1)

def crc8Run (c : BitVec 8) : List Byte → BitVec 8
  | [] => c
  | b :: l => crc8Run (crc8Bits 8 (c ^^^ b)) l

/-- The CRC-8 of a K28.1 block (R220). -/
def crc8 (l : List Byte) : BitVec 8 := crc8Run 0 l

end Sys2Proof.Machine
end

