-- ==== Sys2Proof/Machine/Trace.lean ====
section
/-! DEFINITION. The trace unit's packets, funnels and buffer (R540 to R543). -/

namespace Sys2Proof.Machine

/-- A debug-range EVC source 232 + `k` (R536). -/
def dbgEvent (s : State) (k : Nat) : State := evcIf s F.DBG_EVT_EN_EN 232 k

/-- Base and size of the trace buffer (R40). -/
def trcBase : Nat := 0x80000000
def trcSize : Nat := 0x40000

/-- TB[15:0] as two bytes (R541). -/
def tb16 (s : State) : List Byte := leBytes 2 (s.tb % 65536)

/-- The packets of R541: header [7:4] TYPE and [3:0] SRC, then the payload. -/
def packet (ty src : Nat) (body : List Byte) : List Byte := BitVec.ofNat 8 (16 * ty + src) :: body

def pktSync : List Byte := packet 0 0 (List.replicate 7 0xA5)
def pktTime (s : State) (src : Nat) : List Byte := packet 1 src (leBytes 8 s.tb)
def pktCycle (s : State) (cyc flags : Nat) : List Byte := packet 2 6 (leBytes 4 cyc ++ leBytes 1 flags ++ tb16 s)
def pktDispatch (s : State) (le blk gen : Nat) : List Byte :=
  packet 3 (le / 16) (leBytes 1 le ++ leBytes 2 blk ++ leBytes 1 gen ++ tb16 s)
def pktReport (s : State) (le blk code ecnt : Nat) : List Byte :=
  packet 4 (le / 16) (leBytes 1 le ++ leBytes 2 blk ++ leBytes 1 code ++ leBytes 2 ecnt ++ tb16 s)
def pktExc (s : State) (src init cause : Nat) (epc : Word) : List Byte :=
  packet 5 src (leBytes 1 init ++ leBytes 1 cause ++ leBytes 4 epc.toNat ++ tb16 s)
def pktFlow (s : State) (src init : Nat) (target : Word) : List Byte :=
  packet 6 src (leBytes 1 init ++ leBytes 4 target.toNat ++ tb16 s)
def pktMark (s : State) (src init cmp : Nat) (addr data : Word) : List Byte :=
  packet 7 src (leBytes 1 init ++ leBytes 1 cmp ++ leBytes 4 addr.toNat ++ leBytes 4 data.toNat ++ tb16 s)
def pktSw (s : State) (v : Word) : List Byte := packet 8 4 (leBytes 4 v.toNat ++ tb16 s)
def pktPower (s : State) (src : Nat) (up : Bool) : List Byte :=
  packet 9 src (leBytes 1 (if up then 1 else 0) ++ leBytes 8 s.tb)
def pktOverflow (src lost : Nat) : List Byte := packet 10 src (leBytes 2 (min lost 65535))
def pktHalt (s : State) (string : Nat) (resume : Bool) : List Byte :=
  packet 11 7 (leBytes 1 string ++ leBytes 1 (if resume then 1 else 0) ++ leBytes 8 s.tb)

/-- Trace runs and source `src` is enabled. -/
def trcOn (s : State) (src : Nat) : Bool := s.flag F.TRC_CTRL_EN && (s.fld F.TRC_SRC_EN_EN).testBit src

def fifoOf (s : State) (src : Nat) : List (List Byte) := SMap.get (fun _ => []) s.trc.fifos src
def fifoBytes (l : List (List Byte)) : Nat := (l.map List.length).sum
def setFifo (s : State) (src : Nat) (l : List (List Byte)) : State :=
  { s with trc := { s.trc with fifos := SMap.set (fun _ => []) s.trc.fifos src l } }
def lostOf (s : State) (src : Nat) : Nat := SMap.get (fun _ => 0) s.trc.lost src
def setLost (s : State) (src n : Nat) : State :=
  { s with trc := { s.trc with lost := SMap.set (fun _ => 0) s.trc.lost src n } }
def lastTimeOf (s : State) (src : Nat) : Option Nat := SMap.get (fun _ => none) s.trc.lastTime src
def setLastTime (s : State) (src : Nat) (t : Option Nat) : State :=
  { s with trc := { s.trc with lastTime := SMap.set (fun _ => none) s.trc.lastTime src t } }

/-- A packet meets its funnel: dropped and counted when it does not fit the 64 bytes; preceded by OVERFLOW when
packets were lost, and by TIME when the source's last TIME is 65,536 counts old (R540, R541). -/
def trcEmit (s : State) (src : Nat) (pkt : List Byte) : State :=
  if !trcOn s src then s
  else
    let time :=
      match lastTimeOf s src with
      | some t => if s.tb < t + 65536 then [] else [pktTime s src]
      | none => [pktTime s src]
    let ovf := if lostOf s src = 0 then [] else [pktOverflow src (lostOf s src)]
    let add := ovf ++ time ++ [pkt]
    if fifoBytes (fifoOf s src) + fifoBytes add ≤ 64 then
      let s1 := setLost (setFifo s src (fifoOf s src ++ add)) src 0
      if time = [] then s1 else setLastTime s1 src (some s.tb)
    else dbgEvent ((setLost s src (lostOf s src + 1)).count F.TRC_STAT_LOST) 9

/-- One byte of output: into the buffer where DEST includes it, circularly or up to the end (R543). The port's bytes leave the
device. -/
def trcByte (s : State) (b : Byte) : State :=
  if (s.fld F.TRC_CTRL_DEST).testBit 0 && !(s.trc.atEnd && s.flag F.TRC_CTRL_STOPFULL) && !s.flag F.TRC_STAT_FULL then
    let o := s.fld F.TRC_WPTR_OFS
    let s1 := s.setByte (trcBase + o) b
    if o + 1 = trcSize then { s1.setFld F.TRC_WPTR_OFS 0 with trc := { s1.trc with atEnd := true } }
    else s1.setFld F.TRC_WPTR_OFS (o + 1)
  else s

def trcBytes (s : State) : List Byte → State
  | [] => s
  | b :: l => trcBytes (trcByte s b) l

/-- SYNC and a TIME of every enabled source among the first `n` (R542). -/
def trcTimes (s : State) : Nat → State
  | 0 => s
  | n + 1 =>
    let s1 := trcTimes s n
    if trcOn s1 n then setLastTime (trcBytes s1 (pktTime s1 n)) n (some s1.tb) else s1

def trcSync (s : State) : State :=
  let s1 := trcTimes (trcBytes s pktSync) 8
  { s1 with trc := { s1.trc with sinceSync := 0 } }

/-- Trace starts: EN, LOST cleared, the buffer stop released, SYNC and TIME (R542, R545). -/
def trcStart (s : State) : State :=
  if s.flag F.TRC_CTRL_EN then s
  else
    let s1 := ((s.setFld F.TRC_CTRL_EN 1).setFld F.TRC_STAT_LOST 0).setFld F.TRC_STAT_FULL 0
    trcSync { s1 with trc := { s1.trc with atEnd := false } }

/-- Trace stops. -/
def trcStop (s : State) : State := s.setFld F.TRC_CTRL_EN 0

/-- The first source at or after `k` in round-robin order whose funnel holds a packet. -/
def trcPick (s : State) : Nat → Nat → Option Nat
  | _, 0 => none
  | k, n + 1 => if fifoOf s (k % 8) = [] then trcPick s (k + 1) n else some (k % 8)

/-- A POWER packet with 1, which SYNC follows (R542). -/
def powerUp (pkt : List Byte) : Bool := (pkt.take 2).map BitVec.toNat == [9 * 16 + (pkt.headD 0).toNat % 16, 1]

/-- The unit serves one packet in round-robin order; it waits while the buffer stands at its end (R540, R543). -/
def trcServe (s : State) : State :=
  if s.trc.atEnd then s
  else
    match trcPick s s.trc.next 8 with
    | none => s
    | some src =>
      match fifoOf s src with
      | [] => s
      | pkt :: l =>
        let s1 := trcBytes (setFifo s src l) pkt
        let n := s1.trc.sinceSync + pkt.length
        let s2 := { s1 with trc := { s1.trc with next := (src + 1) % 8, sinceSync := n } }
        if s2.fld F.TRC_CTRL_SYNC_INT * 1024 ≤ n || powerUp pkt then trcSync s2 else s2

/-- The funnel of a source is flushed to its destination (R462). -/
def trcFlush (s : State) (src : Nat) : State := trcBytes (setFifo s src []) (fifoOf s src).flatten

/-- The power-down packet of a source, and its funnel flushed (R462). -/
def trcDown (s : State) (src : Nat) : State := trcFlush (trcEmit s src (pktPower s src false)) src

/-- The power-up packet of a source; SYNC follows where the packet is written (R462, R542). -/
def trcUp (s : State) (src : Nat) : State := trcEmit s src (pktPower s src true)

/-! ### Debug levels (R387, R411, R531) -/

/-- A flat start: SEC_EN is not set (R387). -/
def State.flat (s : State) : Bool := !s.boot.fuses.secEn

/-- The level of debug access: 2 where no unlock is needed. -/
def debugLevel (s : State) : Nat := if s.boot.fuses.dbgLock && !s.flat then s.boot.unlock else 2

/-! ### Strings (R536) -/

/-- The processors of a halt member: 0 SP, 1 MC, 2 to 5 the engines of CL0 to CL3 (R544). -/
def setHalted (s : State) (p : ProcId) (h : Bool) : State := s.updK p (fun k => { k with halted := h })

def haltEngines (s : State) (c : Nat) (h : Bool) : Nat → State
  | 0 => s
  | n + 1 =>
    let s1 := haltEngines s c h n
    s1.setLe (16 * c + n) { s1.le (16 * c + n) with k := { (s1.le (16 * c + n)).k with halted := h } }

def haltMember (s : State) (m : Nat) (h : Bool) : State :=
  if m = 0 then setHalted s .sp h else if m = 1 then setHalted s .mc h else haltEngines s (m - 2) h 16

def haltMembers (s : State) (mask : Nat) (h : Bool) : Nat → State
  | 0 => s
  | n + 1 => let s1 := haltMembers s mask h n; if mask.testBit n then haltMember s1 n h else s1

/-- The halt of selected members and of the periphery (R537); source 244 where it is entered. -/
def haltAll (s : State) (mask string : Nat) : State :=
  let s1 := haltMembers s mask true 6
  let s2 := s1.setFld F.DBG_HALT_STAT_MEMBERS (s1.fld F.DBG_HALT_STAT_MEMBERS ||| mask)
  let s3 := { s2 with dbg := { s2.dbg with extest := s2.dbg.extest.map (fun m => m ||| mask) } }
  let s4 := ((s3.setFld F.DBG_HALT_STAT_HALTED 1).setFld F.DBG_HALT_STAT_STRING string).setFld F.CYC_STATUS_RUNNING 0
  if s.flag F.DBG_HALT_STAT_HALTED then s4 else dbgEvent s4 12

/-- Every member and the periphery are released, with a HALT packet and source 245 (R536, R538, R541). -/
def haltRelease (s : State) : State :=
  let s1 := ((haltMembers s 63 false 6).setFld F.DBG_HALT_STAT_MEMBERS 0).setFld F.DBG_HALT_STAT_HALTED 0
  dbgEvent (trcEmit s1 7 (pktHalt s1 (s1.fld F.DBG_HALT_STAT_STRING) true)) 13

/-- A pulse on string `k` performs every output set in `DBG_STRk_OUT` (R536): halts while debug is open at level 2,
and otherwise counted in REFUSED; trace outputs; source 232 + k. DESIGN CHOICE: the outputs act in the order halt, trace stop, trace start,
HALT packet, source (log entry 221). -/
def stringPulse (s : State) (k : Nat) : State :=
  let mask0 := s.fld (F.DBG_STR_OUT_HALT k)
  let mask := if has s.dbg.spStrings k then mask0 else mask0 - mask0 % 2
  let s1 :=
    if mask0 = 0 then s
    else if debugLevel s = 2 then (if mask = 0 then s else haltAll s mask k)
    else s.count F.DBG_STATUS_REFUSED
  let s2 := if s1.flag (F.DBG_STR_OUT_TSTOP k) then trcStop s1 else s1
  let s3 := if s2.flag (F.DBG_STR_OUT_TSTART k) then trcStart s2 else s2
  let s4 := if s3.flag (F.DBG_STR_OUT_THALT k) then trcEmit s3 7 (pktHalt s3 k false) else s3
  if s4.flag (F.DBG_STR_OUT_EVT k) then dbgEvent s4 k else s4

/-- The periphery is halted by debug (R537). -/
def State.dbgHalted (s : State) : Bool := s.flag F.DBG_HALT_STAT_HALTED

end Sys2Proof.Machine
end

