-- ==== Sys2Proof/Machine/Events.lean ====
section
/-! DEFINITION. Events of partitions and MSI-X vectors (R28, R296 to R298). -/

namespace Sys2Proof.Machine

/-- The state of a vector (R298). -/
def State.vec (s : State) (v : Nat) : Vec := SMap.get (fun _ => {}) s.hif.vecs v

def State.setVec (s : State) (v : Nat) (x : Vec) : State :=
  { s with hif := { s.hif with vecs := SMap.set (fun _ => {}) s.hif.vecs v x } }

/-- Something leaves for the host. -/
def State.post (s : State) (o : HostOut) : State := { s with hif := { s.hif with out := s.hif.out ++ [o] } }

/-- A vector's message is due: it leaves the device, or sets the pending bit while the vector or the function is
masked; the count and the timer restart (R298). -/
def sendVector (s : State) (v : Nat) : State :=
  let x := s.vec v
  if x.masked || s.hif.funcMask || s.hif.d3 then s.setVec v { x with n := 0, timer := false, pba := true }
  else (s.setVec v { x with n := 0, timer := false }).post (.msg v x.addr x.data)

/-- The moderation register of a vector 0 to 127: MODp_C for 2p, MODp_E for 2p + 1. -/
def modReg (v : Nat) : Nat := if v % 2 = 0 then R.HIF_MOD_C (v / 2) else R.HIF_MOD_E (v / 2)

/-- An entry has been written for a moderated vector: COUNT, URG and the timer (R298). -/
def vecEntry (s : State) (v : Nat) (urgent : Bool) : State :=
  let m := modReg v
  let x := s.vec v
  let s1 := s.setVec v { x with n := x.n + 1, timer := true }
  if s.fld ⟨m, 0, 8⟩ ≤ x.n + 1 ∨ (urgent = true ∧ s.fld ⟨m, 31, 1⟩ = 1) then sendVector s1 v else s1

/-- CYC = 1 vectors with unreported entries are sent at the boundary latch instant (R298). -/
def vecsAtLatch (s : State) : Nat → State
  | 0 => s
  | v + 1 =>
    let s1 := vecsAtLatch s v
    if s1.fld ⟨modReg v, 30, 1⟩ = 1 ∧ 1 ≤ (s1.vec v).n then sendVector s1 v else s1

/-- Bit `k` of HIF_DEV_EVT is set; an enabled bit going from 0 to 1 sends vector 128 (R298). -/
def devEvt (s : State) (k : Nat) : State :=
  if s.regBit R.HIF_DEV_EVT k then s
  else
    let s1 := s.setRegBit R.HIF_DEV_EVT k true
    if s.regBit R.HIF_DEV_EVT_EN k then sendVector s1 128 else s1

/-- Events that a partition holds in the event area. -/
def evHeld (s : State) (part : Nat) : Nat := (s.hif.evts.filter (fun e => decide (e.part = part))).length

/-- Urgent event types (R296). -/
def evUrgent (type : Nat) : Bool :=
  decide (type = 1 ∨ type = 2 ∨ type = 3 ∨ type = 6 ∨ type = 9 ∨ type = 0xA ∨ type = 0xB)

/-- The event's record with the cycle number and TB of its moment, and its partition's next SEQ. -/
def mkEvent (s : State) (part type : Nat) (data : List Nat) : EvRec :=
  { type := type, part := part, urgent := evUrgent type, cycle := (s.reg R.CYC_CYCNUM).toNat, tb := s.tb,
    data := data, seq := SMap.get (fun _ => 0) s.hif.seqs part }

def bumpSeq (s : State) (part : Nat) : State :=
  { s with hif := { s.hif with
      seqs := SMap.set (fun _ => 0) s.hif.seqs part ((SMap.get (fun _ => 0) s.hif.seqs part + 1) % 65536) } }

/-- The event area has room for one more record. -/
def areaRoom (s : State) : Bool := decide ((s.hif.evts.length + 1) * 32 ≤ s.fld F.HIF_STG_CFG_EVT * 4096)

/-- An event arises for a partition (R296, R297): not generated while its type is masked or a save runs (R368); staged while the partition's
share and the area have room; else discarded and counted. -/
def postEvent (s : State) (part type : Nat) (data : List Nat) : State :=
  if !s.regBit (R.HIF_EVMASK part) type || s.flag F.NVR_STATUS_SAVING then s
  else
    let e := mkEvent s part type data
    let s1 := bumpSeq s part
    if evHeld s part + 1 < s.fld F.HIF_EVT_SHARE_MAX ∧ areaRoom s then
      { s1 with hif := { s1.hif with evts := s1.hif.evts ++ [e] } }
    else
      let s2 := (s1.countReg R.HIF_EVT_DROP).count (F.HIF_PSTAT_EVT_LOST part)
      let d := SMap.get (fun _ => 0) s2.hif.discarded part
      devEvt { s2 with hif := { s2.hif with discarded := SMap.set (fun _ => 0) s2.hif.discarded part (d + 1) } } 3

/-- Space has become free: the EVENT_OVERFLOW of a partition that lost events takes an entry of its share, the kept one
included (R28, R297). -/
def postOverflow (s : State) (part : Nat) : State :=
  let d := SMap.get (fun _ => 0) s.hif.discarded part
  if d = 0 ∨ !s.regBit (R.HIF_EVMASK part) 9 ∨ !areaRoom s ∨ s.fld F.HIF_EVT_SHARE_MAX ≤ evHeld s part then s
  else
    let e := mkEvent s part 9 (leBytes 4 d |>.map BitVec.toNat)
    let s1 := bumpSeq s part
    { s1 with hif := { s1.hif with
        evts := s1.hif.evts ++ [e]
        discarded := SMap.set (fun _ => 0) s1.hif.discarded part 0 } }

/-- `l` filled with 0 to `n` bytes. -/
def padTo (l : List Byte) (n : Nat) : List Byte := l ++ List.replicate (n - l.length) 0

/-- The bytes of an event entry but its FLAGS (R296). -/
def evBytes (e : EvRec) : List Byte :=
  leBytes 2 e.type ++ leBytes 1 e.part ++ leBytes 1 (if e.urgent then 1 else 0) ++ leBytes 4 e.cycle ++ leBytes 8 e.tb ++
    padTo (e.data.map (BitVec.ofNat 8)) 12 ++ leBytes 2 e.seq ++ [0]

/-- The same event for each partition of a list. -/
def postEvents (s : State) (type : Nat) (data : List Nat) : List Nat → State
  | [] => s
  | p :: l => postEvents (postEvent s p type data) type data l

/-! ### Status codes (R305) -/

namespace St
abbrev ok : Nat := 0
abbrev part : Nat := 1
abbrev aborted : Nat := 2
abbrev cancelled : Nat := 3
abbrev tooLate : Nat := 4
abbrev windowFault : Nat := 5
abbrev busError : Nat := 6
abbrev checkFail : Nat := 7
abbrev notOwner : Nat := 8
abbrev badDescriptor : Nat := 9
abbrev modeRefused : Nat := 0xA
abbrev noSpace : Nat := 0xB
abbrev entFail : Nat := 0xC
abbrev timeout : Nat := 0xD
abbrev linkDown : Nat := 0xE
abbrev stale : Nat := 0xF
abbrev nvLocked : Nat := 0x10
abbrev versionRefused : Nat := 0x11
abbrev authFail : Nat := 0x12
abbrev busy : Nat := 0x13
abbrev degraded : Nat := 0x14
end St

end Sys2Proof.Machine
end

