-- ==== Sys2Proof/Machine/Ssm.lean ====
section
/-! DEFINITION. The plan in force as the running device asks it, partitions' modes, and signal slots (R22 to R34, R68 to
R72, R188 to R194). -/

namespace Sys2Proof.Machine

/-! ### The plan in force -/

/-- The plan in force; an empty one where none is. -/
def State.thePlan (s : State) : Plan := s.plan.getD {}

def Plan.block (p : Plan) (i : Nat) : Block := SMap.get (fun _ => {}) p.blocks i
/-- A block has a cost bound of at least 1 (R180): an index without a block reads 0. -/
def Plan.hasBlock (p : Plan) (i : Nat) : Bool := decide ((p.block i).cost ≠ 0)
def Plan.part (p : Plan) (k : Nat) : PartRec := SMap.get (fun _ => {}) p.parts k
def Plan.bind (p : Plan) (n : Nat) : Bind := SMap.get (fun _ => {}) p.binds n
def Plan.group (p : Plan) (g : Nat) : Group := SMap.get (fun _ => {}) p.groups g
def Plan.link (p : Plan) (l : Nat) : LinkCfg := SMap.get (fun _ => {}) p.links l
def Plan.set (p : Plan) (c : Nat) : ProgSet := SMap.get (fun _ => {}) p.sets c

def State.block (s : State) (i : Nat) : Block := s.thePlan.block i

/-- The blocks that wait for an IN frame of a link and station (R184). -/
def Plan.frameDeps (p : Plan) (l st : Nat) : List Nat :=
  (p.blocks.filter (fun e => e.2.deps.any (fun d => d == .frame l st))).map Prod.fst

/-- The successors of a block (R184). -/
def Plan.succs (p : Plan) (i : Nat) : List Nat :=
  (p.blocks.filter (fun e => e.2.deps.any (fun d => d == .pred i))).map Prod.fst

/-- The member blocks of a group (R195). -/
def Plan.members (p : Plan) (g : Nat) : List Nat :=
  (p.blocks.filter (fun e => e.2.group == some g)).map Prod.fst

/-- Link, station and endpoint of a data address (R30). -/
def daLink (d : Nat) : Nat := d / 2048
def daStation (d : Nat) : Nat := d / 64 % 32
def daEndpoint (d : Nat) : Nat := d % 64

/-- The slots bound to a station, lowest first. -/
def Plan.stationSlots (p : Plan) (l st kind : Nat) : List Nat :=
  (p.binds.filter (fun e => decide (e.2.kind = kind ∧ daLink e.2.daddr = l ∧ daStation e.2.daddr = st))).map Prod.fst

/-- The station record of a link, if it has one (R256). -/
def Plan.station (p : Plan) (l st : Nat) : Option StnCfg := (p.link l).stns.find? (fun c => decide (c.addr = st))

/-- Numbers of the set bits below `n`. -/
def bitsBelow (m : Nat) : Nat → List Nat
  | 0 => []
  | n + 1 => bitsBelow m n ++ (if m.testBit n then [n] else [])

/-- The safe value of an output endpoint (R256): one per set bit of OUT_MASK, ascending. -/
def StnCfg.safeOf (c : StnCfg) (ep : Nat) : Nat :=
  c.safe.getD (bitsBelow c.outMask ep).length 0

/-- The safe value of an output-bound slot. -/
def Plan.safeValue (p : Plan) (n : Nat) : Word :=
  let d := (p.bind n).daddr
  match p.station (daLink d) (daStation d) with
  | some c => word (c.safeOf (daEndpoint d))
  | none => 0

/-- The partitions that own an endpoint of a station, without repeats, with P0 first (R296, type 0x03). -/
def Plan.stationOwners (p : Plan) (l st : Nat) : List Nat :=
  (p.stationSlots l st 1 ++ p.stationSlots l st 2).foldl (fun a n => addTo a (p.bind n).owner) [0]

/-! ### Modes -/

/-- The partition is in TRACK (R79, CYC_TRACK). -/
def State.track (s : State) (p : Nat) : Bool :=
  if p < 32 then s.regBit R.CYC_TRACK_LO p else s.regBit R.CYC_TRACK_HI (p - 32)

def State.setTrack (s : State) (p : Nat) (t : Bool) : State :=
  if p < 32 then s.setRegBit R.CYC_TRACK_LO p t else s.setRegBit R.CYC_TRACK_HI (p - 32) t

/-- The device holds STANDBY, or PRIMARY, of a redundant pair (R486). -/
def State.standby (s : State) : Bool := decide (s.fld F.TWL_STATUS_ROLE = 2)
def State.primary (s : State) : Bool := decide (s.fld F.TWL_STATUS_ROLE = 1)

/-- The device is in SERVICE (R72). -/
def State.service (s : State) : Bool := s.flag F.CYC_STATUS_SERVICE

/-- The cycle runs (CYC_CTRL.EN). -/
def State.cycEn (s : State) : Bool := s.flag F.CYC_CTRL_EN

/-- The next SOC after a debug halt is the first instant of the raster at least 100 µs after the resume (R538). -/
def resumeRaster (s : State) : State :=
  if !s.cyc.inCycle then s
  else
    let p := 100 * s.fld F.CYC_PERIOD_US
    let k := (s.tb + 10000 - s.cyc.lastSocTb + p - 1) / p
    { s with cyc := { s.cyc with skip := k - 1 } }

/-- The degraded plan is in force (R207). -/
def State.degraded (s : State) : Bool := s.flag F.DPR_DEG_STATUS_ACTIVE

/-- A block that the degraded plan suspends (R207). -/
def State.suspended (s : State) (b : Block) : Bool := s.degraded && !b.ess

/-- The clock of cluster `c` in MHz: 450 + 25 × STEP, 100 on the IOSC path (R37, R435). -/
def State.clusterMHz (s : State) (c : Nat) : Nat :=
  if s.flag F.CKG_STATUS_CL_PATH then 100 else 450 + 25 * s.fld (F.CKG_CLFREQ_STEP c)

/-! ### Domains and wrappers (R424, R440) -/

/-- The switchable domain that an address lies in, as `PMU_DOM_CTRL` numbers them (R440, R463). -/
def domainOf (a : Nat) : Option Nat :=
  if 0x30000000 ≤ a ∧ a < 0x34000000 then some (a / 0x1000000 % 16)
  else if 0x38000000 ≤ a ∧ a < 0x38400000 then some ((a - 0x38000000) / 0x100000)
  else if within a 0x20000000 0x80000 || within a 0x4000E000 0x2000 then some 4
  else if within a 0x40010000 0x18000 || within a 0x40030000 0x2000 then some 5
  else if within a 0x40032000 0x1000 || within a 0x70000000 0x10000000 then some 6
  else if within a 0x40009000 0x2000 || within a 0x50000000 0x100000 || within a 0x58000000 0x100000 then some 7
  else none

/-- A switchable domain is on. -/
def State.powered (s : State) (d : Nat) : Bool := (s.fld F.PMU_DOM_STAT_PWR).testBit d

/-- The block's wrapper is closing or closed: 0 to 7 as `RST_BLK`, 8 + n for SFLn (R424, R425). In Rag Doll mode the SP keeps the
clusters, the TWL, the FPC and the links in reset (R404). -/
def State.blockHeld (s : State) (k : Nat) : Bool :=
  (if k < 8 then (s.fld ⟨R.RST_BLK, 0, 8⟩).testBit k else (s.fld F.RST_BLK_SFL_SFL).testBit (k - 8)) ||
    (s.flag F.SPM_BOOT_STAT_RAGDOLL && decide (k < 6 ∨ 8 ≤ k))

/-- The block behind whose wrapper an address lies, numbered as in `blockHeld`. -/
def behindWrapper (a : Nat) : Option Nat :=
  if 0x30000000 ≤ a ∧ a < 0x34000000 then some (a / 0x1000000 % 16)
  else if 0x38000000 ≤ a ∧ a < 0x38400000 then some ((a - 0x38000000) / 0x100000)
  else if within a 0x40010000 0x18000 then some (8 + (a - 0x40010000) / 0x1000)
  else if within a 0x40030000 0x1000 then some 4
  else if within a 0x40031000 0x1000 then some 5
  else if within a 0x40008000 0x1000 then some 6
  else if within a 0x40032000 0x1000 || within a 0x70000000 0x10000000 then some 7
  else none

/-- The block at an address stands behind a wrapper that is closing or closed (R424, R425). -/
def State.wrapped (s : State) (a : Nat) : Bool := match behindWrapper a with | some k => s.blockHeld k | none => false

/-- The block at an address serves accesses: its domain is on and its wrapper is open. -/
def State.serves (s : State) (a : Nat) : Bool :=
  (match domainOf a with | some d => s.powered d | none => true) && !s.wrapped a

/-- Cluster `c` takes part: its domain is on and stays so, its wrapper open, and it is not unloaded (R425, R441 to R443). -/
def State.clusterIn (s : State) (c : Nat) : Bool :=
  s.serves (0x30000000 + c * 0x1000000) && !has s.unloaded c && !has s.pmu.goingOff c

/-! ### Signal slots -/

def State.slot (s : State) (n : Nat) : Slot := SMap.get (fun _ => {}) s.slots n

def State.setSlot (s : State) (n : Nat) (x : Slot) : State :=
  { s with slots := SMap.set (fun _ => {}) s.slots n x }

/-- The age field: SOCs since the last refresh, up to 255 (R189). -/
def State.age (s : State) (n : Nat) : Nat :=
  match (s.slot n).fresh with
  | none => 255
  | some k => min 255 (s.cyc.socCount - k)

/-- The 64-bit slot as it reads: value, status, owner, age (R22, R188). -/
def State.slot64 (s : State) (n : Nat) : Nat :=
  (s.slot n).value.toNat + (s.slot n).status % 65536 * 2 ^ 32 + (s.thePlan.bind n).owner * 2 ^ 48 + s.age n * 2 ^ 56

/-- The partition may read the slot: its owner, or a member of its read set (R32, R193). -/
def State.mayReadSlot (s : State) (part n : Nat) : Bool :=
  let b := s.thePlan.bind n
  decide (b.owner = part) || (SMap.get (fun _ => 0) s.thePlan.readsets b.rset).testBit part

/-- The part of a slot that a SIG load returns; part 11 returns both words (R124). -/
def State.sigPart (s : State) (n part : Nat) : Nat :=
  let v := s.slot64 n
  match part with
  | 0 => v % 2 ^ 32
  | 1 => v / 2 ^ 32 % 65536
  | 2 => v / 2 ^ 48 % 65536 / 256 * 256 + v / 2 ^ 48 % 256
  | _ => v

/-- A write of an internal slot refreshes it; owner and age fields take no write (R189). -/
def State.writeInternal (s : State) (n : Nat) (value : Option Word) (status : Option Nat) : State :=
  let x := s.slot n
  s.setSlot n { value := value.getD x.value, status := status.getD x.status, fresh := some s.cyc.socCount }

/-- Status bits (R188). -/
def stSafe : Nat := 32
def stHeld : Nat := 16
def stLink : Nat := 8
def stStale : Nat := 4

/-- Sets or clears bits of a status. -/
def putBits (st bits : Nat) (on : Bool) : Nat := if on then st ||| bits else st - (st &&& bits)

/-- Replaces the Q field. -/
def putQ (st q : Nat) : Nat := st - st % 4 + q % 4

/-- The group of an output-bound slot resolves as commit (R191). -/
def slotCommit (s : State) (n : Nat) (v : Word) : State :=
  let x := s.slot n
  s.setSlot n { value := v, status := putBits (putQ x.status 0) (stHeld + stSafe) false, fresh := some s.cyc.socCount }

/-- The group resolves as hold, or TRACK with HOLD_LAST (R191). -/
def slotHold (s : State) (n : Nat) : State :=
  let x := s.slot n
  s.setSlot n { x with status := putBits x.status stHeld true }

/-- TRACK with policy SAFE, or SERVICE (R191). -/
def slotSafe (s : State) (n : Nat) : State :=
  let x := s.slot n
  s.setSlot n { x with value := s.thePlan.safeValue n, status := putBits x.status (stHeld + stSafe) true }

/-! ### Links and their station tables -/

def State.lnk (s : State) (l : Nat) : Lnk := SMap.get (fun _ => {}) s.links l
def State.setLnk (s : State) (l : Nat) (x : Lnk) : State :=
  { s with links := SMap.set (fun _ => {}) s.links l x }

def Lnk.stn (x : Lnk) (st : Nat) : Stn := SMap.get (fun _ => {}) x.stns st
def Lnk.setStn (x : Lnk) (st : Nat) (y : Stn) : Lnk := { x with stns := SMap.set (fun _ => {}) x.stns st y }

/-- The entry of a station in its link's table (R262). -/
def State.stn (s : State) (l st : Nat) : Stn := (s.lnk l).stn st
def State.setStn (s : State) (l st : Nat) (y : Stn) : State := s.setLnk l ((s.lnk l).setStn st y)

/-- The stations of a link's table, ascending. -/
def State.stnList (s : State) (l : Nat) : List Nat := (s.lnk l).stns.map Prod.fst

/-- The station is in RUN (R262). -/
def State.stnRun (s : State) (l st : Nat) : Bool := decide ((s.stn l st).state = 3)

/-- Link state (R259). -/
def State.linkState (s : State) (l : Nat) : Nat := s.fld (F.SFL_STATUS_STATE l)

/-- The output endpoint of a slot is gated (R268): its station is in RUN and its first good IN frame or its
partition's acknowledgement is outstanding. -/
def State.gated (s : State) (n : Nat) : Bool :=
  let b := s.thePlan.bind n
  let y := s.stn (daLink b.daddr) (daStation b.daddr)
  decide (y.state = 3) && (!y.seen || has y.acks b.owner)

/-- Applies `f` for each number of a list. -/
def eachNat (f : State → Nat → State) (s : State) : List Nat → State
  | [] => s
  | n :: l => eachNat f (f s n) l

/-! ### The retain snapshot buffer (R186) -/

/-- Two ranges meet. -/
def meets (a n b m : Nat) : Bool := decide (a < b + m ∧ b < a + n)

def snapBase : Nat := 0x10180000

/-- Bytes of the retain snapshot. -/
def retainTotal (p : Plan) : Nat :=
  (p.blocks.map (fun e => 8 * e.2.retlen)).sum + 8 * (p.binds.filter (fun e => e.2.ret)).length

/-- The buffer is closed to writes. -/
def snapClosed (s : State) (a n : Nat) : Bool :=
  meets a n snapBase 0x80000 && decide (0 < retainTotal s.thePlan)

end Sys2Proof.Machine
end

