-- ==== Sys2Proof/Machine/PlanImage.lean ====
section
/-! DEFINITION. Plan images: layout, sections, and the loader's checks 1 to 8 (R172 to R196, R198, R255, R256). An image
is an accessor from byte offset to byte. -/

namespace Sys2Proof.Machine

/-- The bytes of an image by offset. -/
abbrev Img := Nat → Byte

/-- `n` bytes of an image. -/
def imgBytes (m : Img) (o n : Nat) : List Byte := (List.range n).map (fun k => m (o + k))

/-- A little-endian number of an image (R11). -/
def imgLe (m : Img) (o n : Nat) : Nat := leNat (imgBytes m o n)

/-- `n` bytes are 0. -/
def imgZero (m : Img) (o n : Nat) : Bool := (imgBytes m o n).all (fun b => b == 0)

/-- Why a load fails: status, section index, byte offset (R198). -/
structure LoadErr where
  status : Nat
  sect   : Nat
  ofs    : Nat
  deriving DecidableEq, Repr

/-- The result of a check; `none`: passed. -/
abbrev Chk := Option LoadErr

def need (c : Bool) (status sect ofs : Nat) : Chk := if c then none else some ⟨status, sect, ofs⟩

/-- The first failure. -/
def firstErr (l : List Chk) : Chk := l.findSome? id

/-- One check for each element. -/
def eachChk {α : Type} (l : List α) (f : α → Chk) : Chk := l.findSome? f

/-- No number stands twice. -/
def noDup (l : List Nat) : Bool := decide l.Nodup

/-- The same numbers, each once in the first list. -/
def sameSet (l m : List Nat) : Bool := noDup l && l.all (fun a => m.contains a) && m.all (fun a => l.contains a)

/-! ### Header and directory (R173 to R175) -/

def imgLen (m : Img) : Nat := imgLe m 0x10 4
def imgSegment (m : Img) : Bool := m 0x16 != 0
def imgSegPart (m : Img) : Nat := (m 0x17).toNat

/-- A directory entry. -/
structure Sect where
  idx   : Nat
  type  : Nat
  param : Nat
  ofs   : Nat
  len   : Nat
  deriving DecidableEq, Repr

def imgSects (m : Img) : List Sect :=
  (List.range (imgLe m 0x14 2)).map (fun i =>
    ⟨i, imgLe m (64 + 16 * i) 2, imgLe m (66 + 16 * i) 2, imgLe m (68 + 16 * i) 4, imgLe m (72 + 16 * i) 4⟩)

/-- Offset of a section's directory entry. -/
def Sect.entry (t : Sect) : Nat := 64 + 16 * t.idx

/-- Sections of one type. -/
def ofType (ss : List Sect) (ty : Nat) : List Sect := ss.filter (fun t => decide (t.type = ty))

/-- Types that name a cluster (R175). -/
def clusterType (ty : Nat) : Bool := decide (ty = 2 ∨ ty = 3 ∨ ty = 4 ∨ ty = 5)

/-- Steps 1 to 3 of R198; `size` is how many bytes the source holds from the image's start on. -/
def checkHeader (m : Img) (size : Nat) : Chk :=
  firstErr [
    need (decide (imgLe m 0 4 = 0x4E4C5046)) St.badDescriptor 0 0,
    need (decide (imgLen m % 4 = 0 ∧ imgLen m ≤ 0x1000000 ∧ imgLen m ≤ size)) St.badDescriptor 0 0x10,
    need (decide (64 + 16 * imgLe m 0x14 2 ≤ imgLen m)) St.badDescriptor 0 0x14,
    need (decide (imgLe m 4 2 = 0x0100)) St.versionRefused 0 4,
    need (decide (imgLe m 6 2 = 0x6400)) St.versionRefused 0 6,
    need (decide ((crc32c (imgBytes (fun k => if 0x3C ≤ k ∧ k < 0x40 then 0 else m k) 0 (imgLen m))).toNat = imgLe m 0x3C 4))
      St.checkFail 0 0x3C]

/-- Step 4 of R198. -/
def checkBase (s : State) (m : Img) : Chk :=
  if imgSegment m then
    match s.plan with
    | none => some ⟨St.stale, 0, 0x18⟩
    | some p => firstErr [need (decide (imgLe m 0x18 4 = p.id)) St.stale 0 0x18, need (decide (imgLe m 0x1C 4 = p.ver)) St.stale 0 0x1C]
  else none

/-- How often a type stands in the directory, for one cluster or in all. -/
def countType (ss : List Sect) (ty : Nat) (c : Option Nat) : Nat :=
  ((ofType ss ty).filter (fun t => match c with | some k => decide (t.param = k) | none => true)).length

/-- The counts of R175. -/
def checkCounts (ss : List Sect) (seg : Bool) : Chk :=
  let bad := St.badDescriptor
  let one (ty : Nat) : Chk := need (decide (countType ss ty none = 1)) bad 0 0x14
  let most (ty : Nat) : Chk := need (decide (countType ss ty none ≤ 1)) bad 0 0x14
  let clus (ty : Nat) : Chk :=
    need ((List.range 4).all (fun c => if seg then decide (countType ss ty (some c) ≤ 1) else decide (countType ss ty (some c) = 1)))
      bad 0 0x14
  firstErr [one 1, clus 2, clus 4, most 6, most 7, most 8, most 9,
    if seg then need (decide (countType ss 7 none = 0 ∧ countType ss 10 none = 0)) bad 0 0x14 else one 10]

/-- One directory entry (R172, R175). -/
def checkEntry (m : Img) (t : Sect) : Chk :=
  let bad := St.badDescriptor
  firstErr [
    need (decide (1 ≤ t.type ∧ t.type ≤ 10)) bad t.idx t.entry,
    need (decide (if clusterType t.type then t.param < 4 else t.param = 0)) bad t.idx (t.entry + 2),
    need (decide (t.ofs % 4 = 0 ∧ t.ofs ≤ imgLen m)) bad t.idx (t.entry + 4),
    need (decide (t.ofs + t.len ≤ imgLen m)) bad t.idx (t.entry + 8),
    need (imgZero m (t.entry + 12) 4) bad t.idx (t.entry + 12)]

/-! ### PARTITIONS (R176) -/

def partRec (m : Img) (o : Nat) : PartRec :=
  { present := (m (o + 1)).toNat.testBit 0, restart := (m (o + 1)).toNat.testBit 1, hostAck := (m (o + 1)).toNat.testBit 2,
    prio := (m (o + 2)).toNat, budget := imgLe m (o + 4) 4, quota := imgLe m (o + 8) 4, segVer := imgLe m (o + 12) 4,
    nLbd := imgLe m (o + 16) 2, nGroup := imgLe m (o + 18) 2, nSlot := imgLe m (o + 20) 2 }

/-- The records: number and offset. -/
def partRecs (m : Img) (t : Sect) : List (Nat × Nat) :=
  (List.range (t.len / 32)).map (fun k => ((m (t.ofs + 32 * k)).toNat, t.ofs + 32 * k))

def checkParts (m : Img) (seg : Bool) (t : Sect) : Chk :=
  let bad := St.badDescriptor
  let ids := (partRecs m t).map Prod.fst
  firstErr [
    need (decide (t.len = if seg then 32 else 2048)) bad t.idx (t.entry + 8),
    need (if seg then ids == [imgSegPart m] else sameSet ids (List.range 64)) bad t.idx t.ofs,
    eachChk (partRecs m t) (fun r => firstErr [
      need (decide ((m (r.2 + 1)).toNat < 8)) bad t.idx (r.2 + 1),
      need (decide ((m (r.2 + 2)).toNat < 8)) bad t.idx (r.2 + 2),
      need (imgZero m (r.2 + 3) 1) bad t.idx (r.2 + 3),
      need (imgZero m (r.2 + 22) 10) bad t.idx (r.2 + 22)])]

/-! ### PROGSET (R177, R178) -/

def nProg (m : Img) (t : Sect) : Nat := imgLe m (t.ofs + 6) 2
def limLen (m : Img) (t : Sect) : Nat := imgLe m (t.ofs + 2) 2
def ldmLen (m : Img) (t : Sect) : Nat := imgLe m (t.ofs + 4) 2
def progOfs (t : Sect) (k : Nat) : Nat := t.ofs + 0x28 + 12 * k
/-- Offset of the LIM image. -/
def limOfs (m : Img) (t : Sect) : Nat := t.ofs + 0x28 + 12 * nProg m t

def progList (m : Img) (t : Sect) : List Prog :=
  (List.range (nProg m t)).map (fun k =>
    ⟨(m (progOfs t k)).toNat, imgLe m (progOfs t k + 2) 2, imgLe m (progOfs t k + 4) 2, imgLe m (progOfs t k + 8) 4⟩)

/-- LIM_BASE: the START of the first entry. -/
def limStart (m : Img) (t : Sect) : Nat := imgLe m (progOfs t 0 + 2) 2

/-- The LIM bytes of a program of the section. -/
def progBytes (m : Img) (t : Sect) (p : Prog) : List Byte := imgBytes m (limOfs m t + (p.start - limStart m t)) p.len

/-- Programs lie one after the other. -/
def contiguous : List Prog → Bool
  | a :: b :: l => decide (a.start + a.len = b.start) && contiguous (b :: l)
  | _ => true

def checkProgset (m : Img) (seg : Bool) (t : Sect) : Chk :=
  let bad := St.badDescriptor
  let n := nProg m t
  let ps := progList m t
  firstErr [
    need (decide (0x28 ≤ t.len ∧ t.len = 0x28 + 12 * n + limLen m t + ldmLen m t)) bad t.idx (t.entry + 8),
    need (!seg || decide (imgLe m t.ofs 2 = 0xFFFF)) bad t.idx t.ofs,
    need (decide (limLen m t % 4 = 0 ∧ limLen m t ≤ 32768)) bad t.idx (t.ofs + 2),
    need (decide (ldmLen m t % 4 = 0 ∧ ldmLen m t ≤ 16384 ∧ (seg = true → ldmLen m t = 0))) bad t.idx (t.ofs + 4),
    need (decide (1 ≤ n ∧ n ≤ 256)) bad t.idx (t.ofs + 6),
    eachChk (List.range n) (fun k =>
      let o := progOfs t k
      firstErr [
        need (imgZero m (o + 1) 1) bad t.idx (o + 1),
        need (decide (imgLe m (o + 2) 2 % 4 = 0 ∧ imgLe m (o + 2) 2 + imgLe m (o + 4) 2 ≤ 32768)) bad t.idx (o + 2),
        need (decide (imgLe m (o + 4) 2 % 4 = 0 ∧ 4 ≤ imgLe m (o + 4) 2)) bad t.idx (o + 4),
        need (imgZero m (o + 6) 2) bad t.idx (o + 6)]),
    need (contiguous ps && decide (limLen m t = (ps.map (fun p => p.len)).sum)) bad t.idx (t.ofs + 0x28),
    need (noDup (ps.map (fun p => p.id)) &&
      (List.range 256).all (fun i => (imgLe m (t.ofs + 8) 32).testBit i == (ps.map (fun p => p.id)).contains i))
      bad t.idx (t.ofs + 8)]

/-- A program agrees with every program of the same ID in a list (R178). -/
def progAgrees (p : Prog) (l : List Prog) : Bool := l.all (fun q => decide (q.id ≠ p.id) || decide (q = p))

/-- Step 6 of R198. `old` are the programs in force, for a segment. -/
def checkPrograms (m : Img) (seg : Bool) (ss : List Sect) (old : List Prog) : Chk :=
  let ts := ofType ss 2
  let all := (ts.map (progList m)).flatten ++ (if seg then old else [])
  eachChk ts (fun t =>
    firstErr [
      need (seg || (progList m t).any (fun p => decide (p.id = 0))) St.checkFail t.idx (t.ofs + 0x28),
      eachChk (List.range (nProg m t)) (fun k =>
        match (progList m t)[k]? with
        | none => none
        | some p => firstErr [
            need (!(seg && decide (p.id = 0))) St.checkFail t.idx (progOfs t k),
            need (decide ((crc32c (progBytes m t p)).toNat = p.crc)) St.checkFail t.idx (progOfs t k + 8),
            need (progAgrees p all) St.checkFail t.idx (progOfs t k + 2)])])

/-! ### LBD (R179 to R183) and CSMINIT (R185) -/

def checkLbd (m : Img) (t : Sect) : Chk :=
  let bad := St.badDescriptor
  let n := imgLe m (t.ofs + 6) 2
  firstErr [
    need (decide (8 ≤ t.len ∧ t.len = 8 + 32 * n)) bad t.idx (t.entry + 8),
    need (decide (imgLe m t.ofs 4 % 32 = 0)) bad t.idx t.ofs,
    need (decide (1 ≤ n)) bad t.idx (t.ofs + 6),
    need (decide (imgLe m (t.ofs + 4) 2 + n ≤ 32768)) bad t.idx (t.ofs + 4)]

def checkInit (m : Img) (t : Sect) : Chk :=
  firstErr [need (decide (4 ≤ t.len)) St.badDescriptor t.idx (t.entry + 8),
    need (decide (imgLe m t.ofs 4 % 4 = 0)) St.badDescriptor t.idx t.ofs]

/-- CSM offset and length of a CSMINIT section. -/
def initOfs (m : Img) (t : Sect) : Nat := imgLe m t.ofs 4
def initLen (t : Sect) : Nat := t.len - 4

/-- The byte that the image's CSMINIT data puts at a CSM offset of cluster `c`; the last section decides. -/
def initByte (m : Img) (ss : List Sect) (c a : Nat) : Option Byte :=
  ((ofType ss 5).filter (fun t => decide (t.param = c))).reverse.findSome? (fun t =>
    if within a (initOfs m t) (initLen t) then some (m (t.ofs + 4 + (a - initOfs m t))) else none)

/-- A number of `n` bytes that CSMINIT data wholly gives. -/
def initLe (m : Img) (ss : List Sect) (c a : Nat) : Nat → Option Nat
  | 0 => some 0
  | n + 1 =>
    match initByte m ss c a, initLe m ss c (a + 1) n with
    | some b, some v => some (b.toNat + 256 * v)
    | _, _ => none

/-- A list of `n` numbers of `size` bytes that CSMINIT data wholly gives. -/
def initList (m : Img) (ss : List Sect) (c size a : Nat) : Nat → Option (List Nat)
  | 0 => some []
  | n + 1 =>
    match initLe m ss c a size, initList m ss c size (a + size) n with
    | some v, some l => some (v :: l)
    | _, _ => none

/-- A dependency entry (R182). -/
def depOf (v : Nat) : Dep := if v.testBit 31 then .frame (v / 2048 % 32) (v / 64 % 32) else .pred (v % 32768)

/-- A dependency entry's form (R30, R182). -/
def depFormOk (v : Nat) : Bool :=
  decide (v / 65536 % 32768 = 0) &&
    (if v.testBit 31 then decide (v % 64 = 0 ∧ v / 2048 % 32 < 24 ∧ 1 ≤ v / 64 % 32) else !v.testBit 15)

/-- A descriptor of an image. -/
structure RawDesc where
  sect : Nat
  ofs  : Nat
  idx  : Nat
  cluster : Nat
  blk  : Block
  dep  : Option (List Nat)
  succ : Option (List Nat)
  deriving DecidableEq, Repr

/-- A descriptor read at an image offset (R180). -/
def rawBlock (m : Img) (o addr : Nat) (deps : List Dep) : Block :=
  let cls := (m (o + 4)).toNat
  let home := (m (o + 5)).toNat
  let grp := imgLe m (o + 16) 2
  let trig := imgLe m (o + 24) 4
  { entry := imgLe m o 2, prog := (m (o + 2)).toNat, part := (m (o + 3)).toNat % 64, prio := cls % 8,
    bg := cls.testBit 3, slack := cls / 16 % 4, steal := cls.testBit 6, ess := cls.testBit 7,
    home := home % 4, rstrap := home.testBit 2, cost := imgLe m (o + 6) 2, sbase := imgLe m (o + 8) 4 % 2 ^ 20,
    sbl := imgLe m (o + 12) 2, retofs := (m (o + 14)).toNat, retlen := (m (o + 15)).toNat,
    group := if grp.testBit 15 then none else some (grp % 4096), gen := (m (o + 18)).toNat,
    depcnt := (m (o + 19)).toNat % 8, deplist := imgLe m (o + 20) 4 % 2 ^ 20, trigOfs := trig % 2 ^ 20, trigN := trig / 2 ^ 20,
    deps := deps, addr := addr }

def rawDesc (m : Img) (ss : List Sect) (t : Sect) (k : Nat) : RawDesc :=
  let o := t.ofs + 8 + 32 * k
  let c := t.param
  let dep := initList m ss c 4 (imgLe m (o + 20) 4 % 2 ^ 20) ((m (o + 19)).toNat % 8)
  let trig := imgLe m (o + 24) 4
  { sect := t.idx, ofs := o, idx := imgLe m (t.ofs + 4) 2 + k, cluster := c,
    blk := rawBlock m o (0x30000000 + c * 0x1000000 + imgLe m t.ofs 4 + 32 * k) ((dep.getD []).map depOf),
    dep := dep, succ := initList m ss c 2 (trig % 2 ^ 20) (trig / 2 ^ 20) }

/-- Every descriptor of an image. -/
def imgDescs (m : Img) (ss : List Sect) : List RawDesc :=
  ((ofType ss 3).map (fun t => (List.range (imgLe m (t.ofs + 6) 2)).map (rawDesc m ss t))).flatten

/-- The descriptor's own form and ranges (R180, R181); `p` is the plan as it would stand. -/
def checkDesc (m : Img) (p : Plan) (d : RawDesc) : Chk :=
  let b := d.blk
  let bad (c : Bool) (k : Nat) : Chk := need c St.badDescriptor d.sect (d.ofs + k)
  let ps := (p.set d.cluster).progs.filter (fun q => decide (q.id = b.prog))
  firstErr [
    bad (ps.any (fun q => decide (q.start ≤ b.entry ∧ b.entry < q.start + q.len))) 0,
    bad (decide ((m (d.ofs + 3)).toNat < 64) && (p.part b.part).present) 3,
    bad (b.bg || decide ((p.part b.part).prio ≤ b.prio)) 4,
    bad (!b.bg || (decide (b.prio = 0 ∧ b.slack = 0 ∧ b.depcnt = 0) && !b.steal && !b.ess && b.group.isNone)) 4,
    bad (decide ((m (d.ofs + 5)).toNat < 8 ∧ b.home = d.cluster)) 5,
    bad (decide (1 ≤ b.cost)) 6,
    bad (decide (imgLe m (d.ofs + 8) 4 < 2 ^ 20 ∧ b.sbase % 8 = 0)) 8,
    bad (decide (8 ≤ b.sbl ∧ b.sbl ≤ 8192 ∧ b.sbl % 8 = 0)) 12,
    bad (decide (b.retofs + b.retlen ≤ b.sbl / 8)) 14,
    bad (decide (b.retlen ≤ 16)) 15,
    bad (decide (imgLe m (d.ofs + 16) 2 / 4096 % 8 = 0)) 16,
    bad (decide ((m (d.ofs + 19)).toNat ≤ 4)) 19,
    bad (decide (imgLe m (d.ofs + 20) 4 < 2 ^ 20 ∧ (b.depcnt = 0 ∨ b.deplist % 4 = 0))) 20,
    bad (d.dep.isSome && (d.dep.getD []).all depFormOk) 20,
    bad (decide (b.trigOfs % 2 = 0) && d.succ.isSome) 24,
    bad (imgZero m (d.ofs + 28) 4) 28]

/-- The extent's blocks belong to one partition (R179). -/
def checkExtent (ds : List RawDesc) (t : Sect) : Chk :=
  let mine := ds.filter (fun d => decide (d.sect = t.idx))
  need (mine.all (fun d => decide (some d.blk.part = mine.head?.map (fun e => e.blk.part)))) St.badDescriptor t.idx t.ofs

/-- R183 for one descriptor, the missing cycle apart. -/
def checkDeps (p : Plan) (d : RawDesc) : Chk :=
  let b := d.blk
  let preds := b.deps.filterMap (fun x => match x with | .pred i => some i | .frame _ _ => none)
  let frames := b.deps.filterMap (fun x => match x with | .pred _ => none | .frame l st => some (32 * l + st))
  need (noDup preds && noDup frames &&
    preds.all (fun i => p.hasBlock i && !(p.block i).bg && decide ((p.block i).part = b.part) && (!b.ess || (p.block i).ess)) &&
    frames.all (fun k => (p.station (k / 32) (k % 32)).isSome)) St.badDescriptor d.sect (d.ofs + 20)

/-- Removes the blocks none of whose predecessors remain. -/
def peel (p : Plan) (l : List Nat) : List Nat :=
  l.filter (fun i => (p.block i).deps.any (fun x => match x with | .pred j => l.contains j | .frame _ _ => false))

def peelAll (p : Plan) (l : List Nat) : Nat → List Nat
  | 0 => l
  | n + 1 => if l = [] then [] else peelAll p (peel p l) n

/-- The predecessor relation has no cycle (R183): a block of the image on one fails with its DEPLIST. -/
def checkAcyclic (p : Plan) (ds : List RawDesc) : Chk :=
  let all := p.blocks.map Prod.fst
  let left := peelAll p all all.length
  eachChk ds (fun d => need (!left.contains d.idx) St.badDescriptor d.sect (d.ofs + 20))

/-! ### Trigger directories (R184) -/

/-- An entry of a directory: key 32 × link + station, offset, count, contents. -/
structure DirEntry where
  key  : Nat
  ofs  : Nat
  n    : Nat
  list : Option (List Nat)
  deriving DecidableEq, Repr

def dirEntry (m : Img) (ss : List Sect) (t : Sect) (k : Nat) : DirEntry :=
  let v := imgLe m (t.ofs + 4 + 4 * k) 4
  ⟨k, v % 2 ^ 20, v / 2 ^ 20, initList m ss t.param 2 (v % 2 ^ 20) (v / 2 ^ 20)⟩

def dirEntries (m : Img) (ss : List Sect) (t : Sect) : List DirEntry := (List.range 768).map (dirEntry m ss t)

def checkDirForm (m : Img) (t : Sect) : Chk :=
  firstErr [need (decide (t.len = 4 + 4 * 768)) St.badDescriptor t.idx (t.entry + 8),
    need (decide (imgLe m t.ofs 4 % 4 = 0)) St.badDescriptor t.idx t.ofs]

/-- The directory of cluster `c` names exactly the blocks homed there with the dependency, each once. -/
def checkDir (m : Img) (ss : List Sect) (p : Plan) (t : Sect) : Chk :=
  eachChk (dirEntries m ss t) (fun e =>
    let want := (p.frameDeps (e.key / 32) (e.key % 32)).filter (fun i => decide ((p.block i).home = t.param))
    let ok :=
      if e.key % 32 = 0 then decide (e.ofs = 0 ∧ e.n = 0)
      else decide (e.ofs % 2 = 0) && (match e.list with | some l => sameSet l want | none => false)
    need ok St.badDescriptor t.idx (t.ofs + 4 + 4 * e.key))

/-- The successor list of a block names exactly the blocks that have it as predecessor. -/
def checkSucc (p : Plan) (d : RawDesc) : Chk :=
  need (match d.succ with | some l => sameSet l (p.succs d.idx) | none => false) St.badDescriptor d.sect (d.ofs + 24)

/-- IN-frame dependencies of a partition's blocks homed in `c`. -/
def frameDepsOf (p : Plan) (part c : Nat) : List (Nat × Dep) :=
  ((p.blocks.filter (fun e => decide (e.2.part = part ∧ e.2.home = c))).map (fun e =>
    (e.2.deps.filter (fun d => match d with | .frame _ _ => true | .pred _ => false)).map (fun d => (e.1, d)))).flatten

/-- A segment carries every directory that its changes require (R184). -/
def checkDirsCarried (ss : List Sect) (old new : Plan) (part : Nat) : Chk :=
  eachChk (List.range 4) (fun c =>
    let a := frameDepsOf old part c
    let b := frameDepsOf new part c
    need ((ofType ss 4).any (fun t => decide (t.param = c)) || (a.all (fun x => b.contains x) && b.all (fun x => a.contains x)))
      St.badDescriptor 0 0x14)

/-! ### BIND, READSETS, SIGINIT (R192 to R194) -/

def bindSlot (m : Img) (o : Nat) : Nat := imgLe m o 2
def bindOf (m : Img) (o : Nat) : Bind :=
  let f := (m (o + 5)).toNat
  { daddr := imgLe m (o + 2) 2, owner := (m (o + 4)).toNat % 64, kind := f % 4, ret := f.testBit 2, int := f.testBit 3,
    rset := (m (o + 6)).toNat }

/-- Offsets of the entries of `n` bytes of a section. -/
def entryOfs (t : Sect) (n : Nat) : List Nat := (List.range (t.len / n)).map (fun k => t.ofs + n * k)

def imgBinds (m : Img) (ss : List Sect) : SMap Bind :=
  ((ofType ss 6).map (fun t => (entryOfs t 8).map (fun o => (bindSlot m o, bindOf m o)))).flatten

/-- Numbers rise. -/
def rising : List Nat → Bool
  | a :: b :: l => decide (a < b) && rising (b :: l)
  | _ => true

def checkBindForm (m : Img) (t : Sect) : Chk :=
  let bad := St.badDescriptor
  firstErr [
    need (decide (t.len % 8 = 0)) bad t.idx (t.entry + 8),
    need (rising ((entryOfs t 8).map (bindSlot m))) bad t.idx t.ofs,
    eachChk (entryOfs t 8) (fun o => firstErr [
      need (decide ((m (o + 4)).toNat < 64)) bad t.idx (o + 4),
      need (decide ((m (o + 5)).toNat < 16 ∧ (bindOf m o).kind < 3)) bad t.idx (o + 5),
      need (imgZero m (o + 7) 1) bad t.idx (o + 7)])]

/-- An endpoint of a station record stands in the mask of its direction. -/
def endpointOk (p : Plan) (b : Bind) : Bool :=
  match p.station (daLink b.daddr) (daStation b.daddr) with
  | some c => (if b.kind = 1 then c.inMask else c.outMask).testBit (daEndpoint b.daddr)
  | none => false

/-- R192 for one entry; `p` is the plan as it would stand. -/
def checkBind (m : Img) (seg : Bool) (p : Plan) (t : Sect) (o : Nat) : Chk :=
  let b := bindOf m o
  let bad (c : Bool) (k : Nat) : Chk := need c St.badDescriptor t.idx (o + k)
  firstErr [
    bad (decide (b.kind = 0 ↔ b.daddr = 0xFFFF)) 2,
    bad (b.kind == 0 || decide (bindSlot m o < 8192)) 0,
    bad (b.kind == 0 || decide (((p.binds.filter (fun e => decide (e.2.daddr = b.daddr))).length = 1))) 2,
    bad (b.kind == 0 || endpointOk p b) 2,
    bad (!b.ret || b.kind != 1) 5,
    bad (!seg || decide (b.rset = 0 ∨ SMap.get (fun _ => 0) p.readsets b.rset ≠ 0)) 6]

def checkReadsets (m : Img) (t : Sect) : Chk :=
  firstErr [need (decide (t.len = 2048)) St.badDescriptor t.idx (t.entry + 8), need (imgZero m t.ofs 8) St.badDescriptor t.idx t.ofs]

def imgReadsets (m : Img) (ss : List Sect) : SMap Nat :=
  (((ofType ss 7).map (fun t => (List.range 256).map (fun k => (k, imgLe m (t.ofs + 8 * k) 8)))).flatten).filter
    (fun e => decide (e.2 ≠ 0))

def sigInitOf (m : Img) (o : Nat) : SigInit := ⟨imgLe m o 2, imgLe m (o + 4) 4, imgLe m (o + 8) 2⟩

def checkSigInit (m : Img) (t : Sect) : Chk :=
  firstErr [
    need (decide (t.len % 16 = 0)) St.badDescriptor t.idx (t.entry + 8),
    eachChk (entryOfs t 16) (fun o => firstErr [
      need (imgZero m (o + 2) 2) St.badDescriptor t.idx (o + 2),
      need (imgZero m (o + 10) 6) St.badDescriptor t.idx (o + 10)])]

/-! ### GROUPS (R195, R196) -/

/-- A record at an offset: its number, contents and length. -/
structure RawGroup where
  ofs : Nat
  num : Nat
  grp : Group
  deriving DecidableEq, Repr

/-- Length of a record, padding included. -/
def groupLen (m : Img) (o : Nat) : Nat := 8 + (2 * imgLe m (o + 4) 2 + 3) / 4 * 4

def rawGroup (m : Img) (o : Nat) : RawGroup :=
  let slots := (List.range (imgLe m (o + 4) 2)).map (fun k => imgLe m (o + 8 + 2 * k) 2)
  ⟨o, imgLe m o 2 % 4096, ⟨(m (o + 2)).toNat % 64, (m (o + 3)).toNat.testBit 0, slots⟩⟩

/-- The records up to `stop`, and whether they end there. -/
def groupWalk (m : Img) (o stop : Nat) : Nat → List RawGroup × Bool
  | 0 => ([], decide (o = stop))
  | n + 1 =>
    if o = stop then ([], true)
    else if stop < o + 8 ∨ stop < o + groupLen m o then ([], false)
    else
      let r := groupWalk m (o + groupLen m o) stop n
      (rawGroup m o :: r.1, r.2)

def groupsOf (m : Img) (t : Sect) : List RawGroup × Bool := groupWalk m t.ofs (t.ofs + t.len) (t.len / 8)

def checkGroupForm (m : Img) (t : Sect) : Chk :=
  let bad := St.badDescriptor
  let r := groupsOf m t
  firstErr [
    need r.2 bad t.idx (t.entry + 8),
    need (noDup (r.1.map (fun g => g.num))) bad t.idx t.ofs,
    eachChk r.1 (fun g => firstErr [
      need (decide (imgLe m g.ofs 2 < 4096)) bad t.idx g.ofs,
      need (decide ((m (g.ofs + 2)).toNat < 64)) bad t.idx (g.ofs + 2),
      need (decide ((m (g.ofs + 3)).toNat < 2)) bad t.idx (g.ofs + 3),
      need (decide (1 ≤ g.grp.slots.length ∧ g.grp.slots.length ≤ 4096)) bad t.idx (g.ofs + 4),
      need (imgZero m (g.ofs + 6) 2) bad t.idx (g.ofs + 6),
      need (rising g.grp.slots && imgZero m (g.ofs + 8 + 2 * g.grp.slots.length) (groupLen m g.ofs - 8 - 2 * g.grp.slots.length))
        bad t.idx (g.ofs + 8)])]

def imgGroups (m : Img) (ss : List Sect) : List RawGroup := ((ofType ss 9).map (fun t => (groupsOf m t).1)).flatten

/-- R196 for a plan as it would stand. -/
def groupsOk (p : Plan) : Bool :=
  let members := (p.groups.map (fun e => e.2.slots)).flatten
  noDup members &&
    (p.binds.all (fun e => decide (e.2.kind = 2) == members.contains e.1)) &&
    members.all (fun n => decide ((p.bind n).kind = 2)) &&
    p.groups.all (fun e =>
      let bs := p.members e.1
      decide (bs ≠ []) && e.2.slots.all (fun n => decide ((p.bind n).owner = e.2.owner)) &&
        bs.all (fun i => decide ((p.block i).part = e.2.owner)) &&
        (bs.all (fun i => (p.block i).ess) || bs.all (fun i => !(p.block i).ess))) &&
    p.blocks.all (fun e => match e.2.group with
      | some g => p.groups.any (fun x => decide (x.1 = g))
      | none => true)

/-- R196 for one record of the image, and where it fails; `p` is the plan as it would stand. -/
def checkGroup (p : Plan) (t : Sect) (g : RawGroup) : Chk :=
  let bs := p.members g.num
  let bad (c : Bool) (k : Nat) : Chk := need c St.badDescriptor t.idx (g.ofs + k)
  firstErr [
    bad (g.grp.slots.all (fun n => decide ((p.bind n).kind = 2 ∧ (p.bind n).owner = g.grp.owner) &&
      p.groups.all (fun e => decide (e.1 = g.num) || !e.2.slots.contains n))) 8,
    bad (decide (bs ≠ []) && ((bs.all (fun i => (p.block i).ess)) || bs.all (fun i => !(p.block i).ess))) 0]

/-- R196 for a descriptor's GROUP. -/
def checkMember (p : Plan) (d : RawDesc) : Chk :=
  need (match d.blk.group with
    | some g => p.groups.any (fun x => decide (x.1 = g ∧ x.2.owner = d.blk.part))
    | none => true) St.badDescriptor d.sect (d.ofs + 16)

/-- R196 for a BIND entry: an output-bound slot is a member of a group. -/
def checkBound (m : Img) (p : Plan) (t : Sect) (o : Nat) : Chk :=
  need (decide ((bindOf m o).kind ≠ 2) || p.groups.any (fun e => e.2.slots.contains (bindSlot m o))) St.badDescriptor t.idx (o + 5)

/-! ### LINKCFG (R255, R256) -/

def stnCfgLen (m : Img) (o : Nat) : Nat := 40 + 4 * (bitsBelow (imgLe m (o + 0x18) 8) 64).length

def stnCfg (m : Img) (o : Nat) : StnCfg :=
  { addr := (m o).toNat, uidAny := (m (o + 1)).toNat.testBit 0, convMax := imgLe m (o + 2) 2, uid := imgLe m (o + 4) 8,
    stype := imgLe m (o + 12) 4, inMask := imgLe m (o + 16) 8, outMask := imgLe m (o + 24) 8,
    safe := (List.range ((stnCfgLen m o - 40) / 4)).map (fun k => imgLe m (o + 40 + 4 * k) 4) }

/-- `n` station records from an offset on, with the offset behind them; `none` where they leave the section. -/
def stnWalk (m : Img) (o stop : Nat) : Nat → Option (List (Nat × StnCfg) × Nat)
  | 0 => some ([], o)
  | n + 1 =>
    if stop < o + 40 ∨ stop < o + stnCfgLen m o then none
    else
      match stnWalk m (o + stnCfgLen m o) stop n with
      | some r => some ((o, stnCfg m o) :: r.1, r.2)
      | none => none

/-- The links from `l` on, with their stations by offset. -/
def linkWalk (m : Img) (base o stop l : Nat) : Nat → Option (List (Nat × List (Nat × StnCfg)) × Nat)
  | 0 => some ([], o)
  | n + 1 =>
    match stnWalk m o stop (m (base + 16 * l + 1)).toNat with
    | none => none
    | some r =>
      match linkWalk m base r.2 stop (l + 1) n with
      | some q => some ((l, r.1) :: q.1, q.2)
      | none => none

def linksOf (m : Img) (t : Sect) : Option (List (Nat × List (Nat × StnCfg))) :=
  match linkWalk m t.ofs (t.ofs + 384) (t.ofs + t.len) 0 24 with
  | some r => if r.2 = t.ofs + t.len then some r.1 else none
  | none => none

def linkCfgOf (m : Img) (o : Nat) (stns : List StnCfg) : LinkCfg :=
  { en := (m o).toNat.testBit 0, redundant := (m o).toNat.testBit 1, fpg := (m (o + 2)).toNat, timeout := imgLe m (o + 4) 4,
    stns := stns }

def imgLinks (m : Img) (ss : List Sect) : SMap LinkCfg :=
  ((ofType ss 10).map (fun t =>
    ((linksOf m t).getD []).map (fun e => (e.1, linkCfgOf m (t.ofs + 16 * e.1) (e.2.map Prod.snd))))).flatten

/-- Endpoints of station records. -/
def endpoints (l : List StnCfg) : Nat :=
  (l.map (fun c => (bitsBelow c.inMask 64).length + (bitsBelow c.outMask 64).length)).sum

def checkLinks (m : Img) (t : Sect) : Chk :=
  let bad := St.badDescriptor
  match linksOf m t with
  | none => some ⟨bad, t.idx, t.entry + 8⟩
  | some ls =>
    firstErr [
      need (decide (384 ≤ t.len)) bad t.idx (t.entry + 8),
      eachChk ls (fun e =>
        let o := t.ofs + 16 * e.1
        let en := (m o).toNat.testBit 0
        let f := (m (o + 2)).toNat
        firstErr [
          need (decide ((m o).toNat < 4)) bad t.idx o,
          need (decide ((m (o + 1)).toNat ≤ 31) && (en || decide (e.2 = []))) bad t.idx (o + 1),
          need (decide ((f ≤ 5 ∨ f = 0xFF) ∧
            (f = 0xFF ∨ ((List.range 24).filter (fun l => decide ((m (t.ofs + 16 * l + 2)).toNat = f))).length ≤ 4))) bad t.idx (o + 2),
          need (imgZero m (o + 3) 1) bad t.idx (o + 3),
          need (!en || decide (100 ≤ imgLe m (o + 4) 4 ∧ imgLe m (o + 4) 4 ≤ 1000000)) bad t.idx (o + 4),
          need (imgZero m (o + 8) 8) bad t.idx (o + 8),
          need (decide (endpoints (e.2.map Prod.snd) ≤ 512) && rising (e.2.map (fun x => x.2.addr))) bad t.idx (o + 1),
          eachChk e.2 (fun x => firstErr [
            need (decide (1 ≤ x.2.addr ∧ x.2.addr ≤ 31)) bad t.idx x.1,
            need (decide ((m (x.1 + 1)).toNat < 2)) bad t.idx (x.1 + 1),
            need (decide (x.2.inMask &&& x.2.outMask = 0)) bad t.idx (x.1 + 0x18),
            need (imgZero m (x.1 + 0x20) 8) bad t.idx (x.1 + 0x20)])]),
      need (decide (endpoints ((ls.map (fun e => e.2.map Prod.snd)).flatten) ≤ 8192)) bad t.idx t.ofs]

/-! ### Step 5 -/

/-- The form of one section. -/
def checkForm (m : Img) (seg : Bool) (t : Sect) : Chk :=
  match t.type with
  | 1 => checkParts m seg t
  | 2 => checkProgset m seg t
  | 3 => checkLbd m t
  | 4 => checkDirForm m t
  | 5 => checkInit m t
  | 6 => checkBindForm m t
  | 7 => checkReadsets m t
  | 8 => checkSigInit m t
  | 9 => checkGroupForm m t
  | _ => checkLinks m t

/-- Step 5 of R198; `busy` are the clusters whose directory another shadow carries (R184, R197). -/
def checkSections (m : Img) (busy : List Nat) : Chk :=
  let bad := St.badDescriptor
  let seg := imgSegment m
  let ss := imgSects m
  firstErr [
    need (decide (1 ≤ ss.length ∧ ss.length ≤ 512)) bad 0 0x14,
    need (decide ((m 0x16).toNat ≤ 1)) bad 0 0x16,
    need (decide (imgSegPart m < 64 ∧ (seg = false → imgSegPart m = 0))) bad 0 0x17,
    need (seg || imgZero m 0x18 8) bad 0 0x18,
    need (imgZero m 0x20 28) bad 0 0x20,
    eachChk ss (checkEntry m),
    checkCounts ss seg,
    eachChk ss (checkForm m seg),
    eachChk (if seg then ofType ss 4 else []) (fun t => need (!has busy t.param) St.busy t.idx t.entry)]

/-! ### The contents of an image -/

/-- Bytes of program 0 in a program set section. -/
def kernelOf (m : Img) (t : Sect) : List Byte :=
  match (progList m t).find? (fun p => decide (p.id = 0)) with
  | some p => progBytes m t p
  | none => []

def imgSet (m : Img) (t : Sect) : ProgSet :=
  { kinit := imgLe m t.ofs 2, residency := imgLe m (t.ofs + 8) 32, progs := progList m t, kernel := kernelOf m t,
    ldm := imgBytes m (limOfs m t + limLen m t) (ldmLen m t) }

/-- Rising order by key. -/
def sortMap {α : Type} (l : SMap α) : SMap α := l.foldl (fun a e => SMap.insert a e.1 e.2) []

/-- CSM ranges of a plan's objects in cluster `c`, CSMINIT data apart (R185). -/
def csmObjects (p : Plan) (c : Nat) : List (Nat × Nat) :=
  let bs := (p.blocks.filter (fun e => decide (e.2.home = c))).map Prod.snd
  (p.extents.filter (fun e => decide (e.cluster = c))).map (fun e => (e.csmOfs, 32 * e.count)) ++
    bs.map (fun b => (b.sbase, b.sbl)) ++
    bs.map (fun b => (b.deplist, 4 * b.depcnt)) ++
    bs.map (fun b => (b.trigOfs, 2 * b.trigN)) ++
    ((p.dirs.filter (fun e => decide (e.1 = c))).map (fun e =>
      (e.2.1, 3072) :: e.2.2.map (fun x => (x.1, 2 * x.2)))).flatten

/-- Two ranges share a byte. -/
def overlap (a b : Nat × Nat) : Bool := decide (0 < a.2 ∧ 0 < b.2 ∧ a.1 < b.1 + b.2 ∧ b.1 < a.1 + a.2)

/-- What an image says, as a plan of its own. -/
def imgPlan (m : Img) : Plan :=
  let ss := imgSects m
  let ds := imgDescs m ss
  let tag := if imgSegment m then imgSegPart m else 64
  let p : Plan := {
    id := imgLe m 8 4, ver := imgLe m 12 4,
    parts := sortMap ((ofType ss 1).map (fun t => (partRecs m t).map (fun r => (r.1, partRec m r.2)))).flatten,
    sets := sortMap ((ofType ss 2).map (fun t => (t.param, imgSet m t))),
    blocks := sortMap (ds.map (fun d => (d.idx, d.blk))),
    extents := (ofType ss 3).map (fun t =>
      ⟨(m (t.ofs + 11)).toNat % 64, t.param, imgLe m t.ofs 4, imgLe m (t.ofs + 4) 2, imgLe m (t.ofs + 6) 2⟩),
    dirs := sortMap ((ofType ss 4).map (fun t =>
      (t.param, (imgLe m t.ofs 4, ((dirEntries m ss t).filter (fun e => decide (e.n ≠ 0))).map (fun e => (e.ofs, e.n)))))),
    binds := imgBinds m ss, readsets := imgReadsets m ss,
    siginit := ((ofType ss 8).map (fun t => (entryOfs t 16).map (sigInitOf m))).flatten,
    groups := sortMap ((imgGroups m ss).map (fun g => (g.num, g.grp))), links := imgLinks m ss }
  { p with inits := (ofType ss 5).filterMap (fun t =>
      let r := (initOfs m t, initLen t)
      if (csmObjects p t.param).any (overlap r) then none else some (tag, t.param, r.1, r.2)) }

/-! ### Layout (R185) -/

/-- A range lies wholly inside, or wholly outside, another. -/
def wholly (a b : Nat × Nat) : Bool := !overlap a b || decide (b.1 ≤ a.1 ∧ a.1 + a.2 ≤ b.1 + b.2)

/-- Pairs of a list share no byte. -/
def disjoint : List (Nat × Nat) → Bool
  | [] => true
  | a :: l => l.all (fun b => !overlap a b) && disjoint l

/-- State blocks of a plan in cluster `c`, and its other objects. -/
def stateRanges (p : Plan) (c : Nat) : List (Nat × Nat) :=
  (p.blocks.filter (fun e => decide (e.2.home = c))).map (fun e => (e.2.sbase, e.2.sbl))
def otherRanges (p : Plan) (c : Nat) : List (Nat × Nat) :=
  csmObjects { p with blocks := p.blocks.map (fun e => (e.1, { e.2 with sbl := 0 })) } c ++
    (p.inits.filter (fun e => decide (e.2.1 = c))).map (fun e => e.2.2)

/-- An object that is no state block lies below the DPR's area, and over no state block. -/
def rangeOk (p : Plan) (c : Nat) (r : Nat × Nat) : Bool :=
  decide (r.1 + r.2 ≤ 0xFC000) && (stateRanges p c).all (fun o => !overlap r o)

/-- R185 for the objects of one descriptor in the combined plan `p`: its state block, its lists. -/
def layoutDesc (p : Plan) (d : RawDesc) : Chk :=
  let b := d.blk
  let r := (b.sbase, b.sbl)
  let rest := (p.blocks.filter (fun e => decide (e.1 ≠ d.idx ∧ e.2.home = d.cluster))).map (fun e => (e.2.sbase, e.2.sbl))
  let bad (c : Bool) (k : Nat) : Chk := need c St.badDescriptor d.sect (d.ofs + k)
  firstErr [
    bad (decide (b.sbase + b.sbl ≤ 0xFC000) && (rest ++ otherRanges p d.cluster).all (fun o => !overlap r o)) 8,
    bad (decide (b.depcnt = 0) || rangeOk p d.cluster (b.deplist, 4 * b.depcnt)) 20,
    bad (rangeOk p d.cluster (b.trigOfs, 2 * b.trigN)) 24]

/-- R185 for what a section itself places: extents, directories with their lists, CSMINIT data. -/
def layoutSect (m : Img) (ss : List Sect) (p : Plan) (t : Sect) : Chk :=
  let bad (c : Bool) (k : Nat) : Chk := need c St.badDescriptor t.idx (t.ofs + k)
  match t.type with
  | 3 => bad (rangeOk p t.param (imgLe m t.ofs 4, 32 * imgLe m (t.ofs + 6) 2)) 0
  | 4 => firstErr [bad (rangeOk p t.param (imgLe m t.ofs 4, 3072)) 0,
      eachChk (dirEntries m ss t) (fun e => bad (rangeOk p t.param (e.ofs, 2 * e.n)) (4 + 4 * e.key))]
  | 5 =>
    let r := (initOfs m t, initLen t)
    bad (decide (r.1 + r.2 ≤ 0xFC000) && (csmObjects { p with extents := [] } t.param).all (wholly r)) 0
  | _ => none

/-- R185 for an image; `p` is the plan as it would stand (R198). -/
def checkLayout (m : Img) (ss : List Sect) (ds : List RawDesc) (p : Plan) : Chk :=
  firstErr [eachChk ds (layoutDesc p), eachChk ss (layoutSect m ss p)]

/-- No index stands twice; the failing field is FIRST of the second extent that brings it (R179). -/
def checkIndices (ss : List Sect) (ds : List RawDesc) : Chk :=
  eachChk ds (fun d =>
    need (ds.all (fun x => decide (x.idx ≠ d.idx ∨ d.ofs ≤ x.ofs))) St.badDescriptor d.sect
      (((ss.find? (fun t => decide (t.idx = d.sect))).map (fun t => t.ofs)).getD 0 + 4))

/-! ### The combined plan -/

/-- Some block of a list names a program, or it is the kernel. -/
def namedIn (blocks : SMap Block) (q : Prog) : Bool := decide (q.id = 0) || blocks.any (fun e => decide (e.2.prog = q.id))

/-- The programs of a cluster whose LIM space a plan uses (R200). -/
def liveProgs (p : Plan) (c : Nat) : List Prog := (p.set c).progs.filter (namedIn p.blocks)

/-- The programs of a cluster's set that stay beside a segment's (R200): the kernel, and those that some block still names. -/
def keptProgs (old new : Plan) (blocks : SMap Block) (c : Nat) : List Prog :=
  (old.set c).progs.filter (fun q => !(new.set c).progs.any (fun x => decide (x.id = q.id)) && namedIn blocks q)

/-- A program into a list in ascending START (R326). -/
def insertProg (p : Prog) : List Prog → List Prog
  | [] => [p]
  | q :: l => if p.start < q.start then p :: q :: l else q :: insertProg p l

/-- The program set of a cluster with a segment, in ascending START. -/
def mergeProgs (old new : Plan) (blocks : SMap Block) (c : Nat) : List Prog :=
  (keptProgs old new blocks c ++ (new.set c).progs).foldr insertProg []

/-- The programs of the plan that stands before a segment which R178 holds the segment's to: those that stay in their cluster's set,
and those that a block of another partition still names where the segment brings their ID. -/
def standingProgs (old new : Plan) (part : Nat) : List Prog :=
  let rest := old.blocks.filter (fun e => decide (e.2.part ≠ part))
  ((List.range 4).map (fun c => keptProgs old new (rest ++ new.blocks) c ++ (old.set c).progs.filter (namedIn rest))).flatten

def mergeSet (old new : Plan) (blocks : SMap Block) (c : Nat) : ProgSet :=
  let ps := mergeProgs old new blocks c
  { old.set c with progs := ps, residency := (ps.map (fun q => 2 ^ q.id)).sum }

/-- A plan with the segment of partition `part` in place of what that partition owned. -/
def mergeSeg (old new : Plan) (part : Nat) : Plan :=
  let blocks := sortMap (old.blocks.filter (fun e => decide (e.2.part ≠ part)) ++ new.blocks)
  { old with
    parts := sortMap (old.parts.filter (fun e => decide (e.1 ≠ part)) ++ new.parts)
    sets := (List.range 4).map (fun c => (c, mergeSet old new blocks c))
    blocks := blocks
    extents := old.extents.filter (fun e => decide (e.part ≠ part)) ++ new.extents
    dirs := sortMap (old.dirs.filter (fun e => !new.dirs.any (fun x => decide (x.1 = e.1))) ++ new.dirs)
    binds := sortMap (old.binds.filter (fun e => decide (e.2.owner ≠ part)) ++ new.binds)
    siginit := new.siginit
    groups := sortMap (old.groups.filter (fun e => decide (e.2.owner ≠ part)) ++ new.groups)
    inits := old.inits.filter (fun e => decide (e.1 ≠ part)) ++ new.inits }

/-! ### Steps 7 and 8 -/

/-- Step 7 of R198: `base` is the plan in force with every other shadow. -/
def checkOwners (m : Img) (base : Plan) : Chk :=
  let part := imgSegPart m
  let ss := imgSects m
  let no := St.notOwner
  let merged := mergeSeg base (imgPlan m) part
  firstErr [
    eachChk (imgDescs m ss) (fun d => firstErr [
      need (!base.hasBlock d.idx || decide ((base.block d.idx).part = part)) no d.sect d.ofs,
      need (decide (d.blk.part = part)) no d.sect (d.ofs + 3)]),
    eachChk (ofType ss 9) (fun t => eachChk (groupsOf m t).1 (fun g => firstErr [
      need (!base.groups.any (fun e => decide (e.1 = g.num ∧ e.2.owner ≠ part))) no t.idx g.ofs,
      need (decide (g.grp.owner = part)) no t.idx (g.ofs + 2),
      need (g.grp.slots.all (fun n => decide ((merged.bind n).owner = part))) no t.idx (g.ofs + 8)])),
    eachChk (ofType ss 6) (fun t => eachChk (entryOfs t 8) (fun o => firstErr [
      need (!base.binds.any (fun e => decide (e.1 = bindSlot m o ∧ e.2.owner ≠ part))) no t.idx o,
      need (decide ((bindOf m o).owner = part)) no t.idx (o + 4)])),
    eachChk (ofType ss 8) (fun t => eachChk (entryOfs t 16) (fun o =>
      need (decide ((merged.bind (sigInitOf m o).slot).owner = part)) no t.idx o))]

/-- The counts of a partition record (R176). -/
def checkPartCounts (m : Img) (p : Plan) (t : Sect) : Chk :=
  eachChk (partRecs m t) (fun r =>
    let q := partRec m r.2
    let nb := (p.blocks.filter (fun e => decide (e.2.part = r.1))).length
    let ng := (p.groups.filter (fun e => decide (e.2.owner = r.1))).length
    let ns := (p.binds.filter (fun e => decide (e.2.owner = r.1))).length
    let bad (c : Bool) (k : Nat) : Chk := need c St.badDescriptor t.idx (r.2 + k)
    firstErr [
      bad (decide (q.nLbd = nb ∧ (q.present = true ∨ nb = 0))) 16,
      bad (decide (q.nGroup = ng ∧ (q.present = true ∨ ng = 0))) 18,
      bad (decide (q.nSlot = ns % 65536 ∧ (q.present = true ∨ q.nSlot = 0))) 20])

/-- KINIT of a whole plan (R177). -/
def checkKinit (m : Img) (t : Sect) : Chk :=
  let k := imgLe m t.ofs 2
  need ((progList m t).any (fun p => decide (p.id = 0 ∧ k % 4 = 0 ∧ p.start ≤ k ∧ k + 4 ≤ p.start + p.len)))
    St.badDescriptor t.idx t.ofs

/-- Step 8 of R198: `force` is the plan in force, `merged` the plan as it would stand. -/
def checkContents (m : Img) (force merged : Plan) : Chk :=
  let seg := imgSegment m
  let ss := imgSects m
  let ds := imgDescs m ss
  let p := imgPlan m
  let inForce := if seg then mergeSeg force p (imgSegPart m) else p
  firstErr [
    eachChk (ofType ss 1) (checkPartCounts m p),
    if seg then none else eachChk (ofType ss 2) (checkKinit m),
    eachChk (ofType ss 3) (checkExtent ds),
    eachChk ds (checkDesc m merged),
    checkIndices ss ds,
    eachChk ds (checkDeps merged),
    checkAcyclic merged ds,
    eachChk (ofType ss 4) (checkDir m ss inForce),
    if seg then checkDirsCarried ss force inForce (imgSegPart m) else none,
    eachChk ds (checkSucc merged),
    checkLayout m ss ds merged,
    eachChk (ofType ss 6) (fun t => eachChk (entryOfs t 8) (checkBind m seg merged t)),
    eachChk (ofType ss 8) (fun t => eachChk (entryOfs t 16) (fun o =>
      need (decide ((merged.bind (sigInitOf m o).slot).kind = 0)) St.badDescriptor t.idx o)),
    eachChk (ofType ss 9) (fun t => eachChk (groupsOf m t).1 (checkGroup merged t)),
    eachChk ds (checkMember merged),
    eachChk (ofType ss 6) (fun t => eachChk (entryOfs t 8) (checkBound m merged t)),
    need (groupsOk merged) St.badDescriptor 0 0]

end Sys2Proof.Machine
end

