-- ==== Sys2Proof/Machine/Calib.lean ====
section
/-! DEFINITION. Calibration: the factory record, user corrections, effective values and what they do to a reading (R346 to
R350). -/

namespace Sys2Proof.Machine

/-- Two's complement of `w` bits. -/
def signed (w n : Nat) : Int := if n % 2 ^ w < 2 ^ (w - 1) then (n % 2 ^ w : Nat) else (n % 2 ^ w : Nat) - (2 ^ w : Nat)

/-- Division with halves rounded away from 0. -/
def roundAway (n d : Int) : Int := if 0 ≤ n then (2 * n + d) / (2 * d) else -((2 * -n + d) / (2 * d))

/-- A calibration item (R347): least, greatest and nominal value, and whether users may correct it. -/
structure CalItem where
  lo   : Int
  hi   : Int
  nom  : Int
  user : Bool
  deriving DecidableEq, Repr

def calOfs : CalItem := ⟨-32768, 32767, 0, true⟩
def calGain : CalItem := ⟨32768, 131072, 65536, true⟩

def calItem (i : Nat) : Option CalItem :=
  if i = 0 then some ⟨0, 1023, 512, false⟩
  else if i = 1 then some ⟨0, 255, 128, false⟩
  else if i = 2 then some ⟨100, 2000, 800, true⟩
  else if i = 3 then some ⟨100, 1000, 300, true⟩
  else if (0x10 ≤ i ∧ i < 0x30) ∨ (0x60 ≤ i ∧ i < 0x6C) then some (if i % 2 = 0 then calOfs else calGain)
  else if 0x30 ≤ i ∧ i < 0x48 then some ⟨0, 31, 20, true⟩
  else if 0x48 ≤ i ∧ i < 0x60 then some ⟨0, 15, 4, true⟩
  else if 0x80 ≤ i ∧ i < 0xC0 then some ⟨0, 4000, 1000, false⟩
  else none

/-- The factory record in Parameter Flash sector 1. -/
def factImg (s : State) : Img := fun k => s.byte (0x58001000 + k)

/-- The factory record passes its check (R346). -/
def factGood (s : State) : Bool :=
  let m := factImg s
  let n := imgLe m 6 2
  decide (imgLe m 0 4 = 0x4C414346 ∧ imgLe m 4 2 = 0x0100 ∧ 1 ≤ n ∧ n ≤ 256) &&
    decide ((crc32c (imgBytes m 0 (8 + 8 * n))).toNat = imgLe m (8 + 8 * n) 4)

/-- The factory value of an item, or its nominal value. -/
def factVal (s : State) (i : Nat) : Int :=
  match calItem i with
  | none => 0
  | some c =>
    let m := factImg s
    if factGood s then
      match (List.range (imgLe m 6 2)).find? (fun k => decide ((m (8 + 8 * k)).toNat = i)) with
      | some k => signed 32 (imgLe m (12 + 8 * k) 4)
      | none => c.nom
    else c.nom

/-- The effective value under a user correction, and whether it was clamped (R349). -/
def effOf (s : State) (i : Nat) (u : Nat × Nat) : Int × Bool :=
  match calItem i with
  | none => (0, false)
  | some c =>
    let e := roundAway ((factVal s i + signed 16 u.1) * (65536 + signed 16 u.2)) 65536
    if e < c.lo then (c.lo, true) else if c.hi < e then (c.hi, true) else (e, false)

def userOf (u : SMap (Nat × Nat)) (i : Nat) : Nat × Nat := SMap.get (fun _ => (0, 0)) u i

/-- The effective value in force. -/
def eff (s : State) (i : Nat) : Int := (effOf s i (userOf s.cfg.user i)).1

/-- A sensor reading under OFS and GAIN (R350). -/
def calibrated (s : State) (ofs raw : Int) (gainItem : Nat) : Int := roundAway ((raw - ofs) * eff s gainItem) 65536

/-- User calibration comes into force (R349): CLAMP where the effective value of an item is clamped, corrected by the user or
not. -/
def useCal (s : State) (u : SMap (Nat × Nat)) : State :=
  let s1 := { s with cfg := { s.cfg with user := u } }
  if (List.range 256).any (fun i => (effOf s i (userOf u i)).2) then s1.setFld F.AGM_CAL_STATUS_CLAMP 1 else s1

/-- The calibration window (R353). -/
def calRead (s : State) (a : Nat) : Option Word :=
  let i := s.fld F.AGM_CAL_SEL_ITEM
  if a = R.AGM_CAL_FACT then some (BitVec.ofInt 32 (factVal s i))
  else if a = R.AGM_CAL_USER then some (word ((userOf s.cfg.user i).2 * 65536 + (userOf s.cfg.user i).1))
  else if a = R.AGM_CAL_EFF then some (BitVec.ofInt 32 (eff s i))
  else none

/-- The SP checks the factory record at start (R346); a factory value out of its item's range is clamped (R349). -/
def checkFactory (s : State) : State :=
  let m := factImg s
  let s1 := (s.setFld F.AGM_CAL_STATUS_FORMAT (imgLe m 4 1)).setFld F.AGM_CAL_STATUS_N_ITEMS (imgLe m 6 2)
  if factGood s then useCal (s1.setFld F.AGM_CAL_STATUS_FACT_BAD 0) s.cfg.user
  else evcIf (s1.setFld F.AGM_CAL_STATUS_FACT_BAD 1) F.AGM_CAL_STATUS_EVT55_EN 55 0

end Sys2Proof.Machine
end

