-- ==== Sys2Proof/Machine/Domains.lean ====
section
/-! DEFINITION. The way to a block: bus errors captured in SYS (R45, R46), domains on, off and waking (R440 to R445), and writes
that wait at a closed wrapper. -/

namespace Sys2Proof.Machine

/-! ### Bus errors (R42, R45, R46) -/

/-- The initiators of the fabric besides the processors, by their codes (R42). -/
def codeBmv : Nat := 0x48
def codeHif : Nat := 0x49
def codeXbl : Nat := 0x4A
def codeSave : Nat := 0x4B
def codeDbg : Nat := 0x4C
def codeMse : Nat := 0x4D
def codeTwl : Nat := 0x4E
def codeTrc : Nat := 0x4F

/-- SYS captures a bus error; EVC source 32. -/
def busErrOf (s : State) (code part a : Nat) (write : Bool) : State :=
  let s1 :=
    if s.flag F.SYS_BERR_INFO_VALID then s.setFld F.SYS_BERR_INFO_OVF 1
    else (s.setReg R.SYS_BERR_ADDR (word a)).setReg R.SYS_BERR_INFO
      (word (2 ^ 17 + (if write then 2 ^ 16 else 0) + part % 64 * 256 + code))
  evcEvent s1 32

/-- The partition that an access of registers carries: that of a processor's PART; the debug port and the HIF carry 0 (R42, R91,
R533). -/
def writerPart (s : State) : Writer → Nat
  | .mc => s.mc.r.part
  | .sp => s.sp.r.part
  | .dbg | .host _ => 0

/-- The initiator code of an accessor of registers. -/
def writerCode : Writer → Nat
  | .mc => 0x40
  | .sp => 0x41
  | .dbg => codeDbg
  | .host _ => codeHif

/-- A 64-bit word of the CSM with an uncorrectable error overlaps a range; `whole`: but for words that the range covers. -/
def badWord (s : State) (a n : Nat) (whole : Bool) : Bool :=
  s.ecc2.any (fun e => let w := e / 8 * 8; decide (w < a + n ∧ a < w + 8) && !(whole && decide (a ≤ w ∧ w + 8 ≤ a + n)))

/-! ### Domains (R440 to R446) -/

def pmuEvent (s : State) (k : Nat) : State := evcIf s F.PMU_EVT_EN_EN 64 k

def domLocked (s : State) (d : Nat) : Bool := (s.fld F.PMU_DOM_CTRL_LOCK).testBit d

/-- The engines of a cluster. -/
def clusterEngines (c : Nat) : List Nat := (List.range 16).map (fun i => 16 * c + i)

/-- A cluster that switches off still drains the stores of its engines (R102, R443). -/
def draining (s : State) (d : Nat) : Bool :=
  decide (d < 4) && (clusterEngines d).any (fun n => decide ((s.le n).k.buf ≠ []))

/-- A domain begins to power up (R444). -/
def startOn (s : State) (d : Nat) : State :=
  let s1 := s.setRegBit R.PMU_DOM_CTRL d true
  { s1.setRegBit R.PMU_DOM_STAT (8 + d) true with pmu := { s1.pmu with comingOn := addTo s1.pmu.comingOn d } }

/-- A domain is wanted on: at once where it is off, as soon as it is off where it switches off. -/
def switchOn (s : State) (d : Nat) : State :=
  if has s.pmu.goingOff d then
    { s.setRegBit R.PMU_DOM_CTRL d true with pmu := { s.pmu with wanted := addTo s.pmu.wanted d } }
  else if s.powered d || has s.pmu.comingOn d then s.setRegBit R.PMU_DOM_CTRL d true
  else startOn s d

/-- An access to a domain that is off or going off (R445): whether it is held, and the state with the wake begun, which source 67 tells
once. A locked domain answers with an error, unless it is coming on (R446). -/
def wakeAccess (s : State) (d : Nat) : Bool × State :=
  let waking := has s.pmu.comingOn d
  if domLocked s d && !waking then (false, s)
  else
    let told := s.regBit R.PMU_DOM_STAT (16 + d) && (waking || has s.pmu.wanted d)
    let s1 := (switchOn s d).setRegBit R.PMU_DOM_STAT (16 + d) true
    (true, if told then s1 else pmuEvent s1 3)

/-- The domain of an access is off, or its wrapper is closed because it goes off (R443, R445). -/
def asleep (s : State) (a : Nat) : Option Nat :=
  match domainOf a with
  | some d => if !s.powered d || (has s.pmu.goingOff d && !draining s d) then some d else none
  | none => none

/-- The block at an address takes a new access: its wrapper is open, its domain on and not going off (R424, R445). -/
def State.accepts (s : State) (a : Nat) : Bool := !s.wrapped a && (asleep s a).isNone

/-- An access waits at the wrapper of its domain (R444, R445). -/
def holdAccess (s : State) (w : Writer) (read : Bool) (a : Nat) (v : Word) : State :=
  { s with held := s.held ++ [.reg w (writerPart s w) read a v] }

/-- An access of registers that finds its block closed (R15, R424, R445): an error response of the wrapper or of a locked
domain, else it waits and wakes the domain. -/
def accessAway (s : State) (w : Writer) (read : Bool) (a : Nat) (v : Word) : State :=
  if s.wrapped a then busErrOf s (writerCode w) (writerPart s w) a !read
  else
    match asleep s a with
    | none => s
    | some d =>
      let r := wakeAccess s d
      if r.1 then holdAccess r.2 w read a v else busErrOf r.2 (writerCode w) (writerPart s w) a !read

/-- A row that writes one register: its effect, or the register's write at a closed block (R15). -/
def atRegBy (s : State) (w : Writer) (a : Nat) (v : Word) (effect : State) : Outcome :=
  .next (if s.accepts a then effect else accessAway s w false a v)

/-- The same for a write of the MC. -/
def atReg (s : State) (a : Nat) (v : Word) (effect : State) : Outcome := atRegBy s .mc a v effect

/-- A row that reads one register: what it returns and what the read does, or the read at a closed block (R15). -/
def atRead (s : State) (a : Nat) (r : Word × State) : Outcome :=
  .next (if s.accepts a then { r.2 with readData := r.1 } else accessAway s .mc true a 0)

end Sys2Proof.Machine
end

