-- ==== Sys2Proof/Machine/Rings.lean ====
section
/-! DEFINITION. The rings of the host interface: commands in progress, their start and their completions, the records of
firmware's, and the host windows (R34, R286 to R299, R304). -/

namespace Sys2Proof.Machine

/-! ### Completions (R294, R295) -/

/-- The HIF block serves accesses: it is held in reset until the bring-up ends (R422). -/
def hifUp (s : State) : Bool := s.accepts R.HIF_CTRL && s.fld F.RST_SEQ_STEP == 0

/-- The ring engine works: no D3hot, no debug halt. -/
def ringRuns (s : State) : Bool := hifUp s && !s.hif.d3 && !s.dbgHalted

def State.ring (s : State) (p k : Nat) : Ring := SMap.get (fun _ => {}) s.hif.rings (8 * p + k)
def State.setRing (s : State) (p k : Nat) (x : Ring) : State :=
  { s with hif := { s.hif with rings := SMap.set (fun _ => {}) s.hif.rings (8 * p + k) x } }

/-- Host address of a ring (R287). -/
def ringBase (s : State) (p k : Nat) : Nat :=
  s.fld (F.HIF_RBASE_LO_BASE p k) * 64 + s.fld (F.HIF_RBASE_HI_BASE p k) * 2 ^ 32

/-- Entries of a ring. -/
def ringSize (s : State) (p k : Nat) : Nat := 2 ^ s.fld (F.HIF_RSIZE_LOG2 p k)

/-- Ring `k` of partition `p` is enabled. -/
def ringAct (s : State) (p k : Nat) : Bool := (s.fld (F.HIF_RCTRL_ACT p)).testBit k

/-- The device may write an entry: the ring is enabled and not full (R294). -/
def ringRoom (s : State) (p k : Nat) : Bool :=
  ringAct s p k && decide ((s.fld (F.HIF_RIDX_IDX p k) + 1) % ringSize s p k ≠ (s.ring p k).hostIdx)

/-- Writes one entry of a completion or event ring: `body` without its last byte, FLAGS with PHASE after it; the
phase inverts where the producer wraps (R294). -/
def ringPut (s : State) (p k : Nat) (body : List Byte) (flags : Nat) : State :=
  let i := s.fld (F.HIF_RIDX_IDX p k)
  let r := s.ring p k
  let fl := BitVec.ofNat 8 (flags + (if r.phase then 1 else 0))
  let s1 := s.post (.write (ringBase s p k + i * (body.length + 1)) (body ++ [fl]))
  let j := (i + 1) % ringSize s p k
  (s1.setFld (F.HIF_RIDX_IDX p k) j).setRing p k { r with phase := if j = 0 then !r.phase else r.phase }

/-- The command in progress with a number; one whose completion only waits to be written has ended. -/
def findCmd (s : State) (serial : Nat) : Option HostCmd := s.hif.cmds.find? (fun c => decide (c.serial = serial) && c.done.isNone)

/-- A command leaves. -/
def dropCmd (s : State) (serial : Nat) : State :=
  { s with hif := { s.hif with cmds := s.hif.cmds.filter (fun c => decide (c.serial ≠ serial)) } }

/-! ### Commands that run (R295, R304) -/

/-- A command of a ring may start: in ring order, and with FENCE only when every earlier one of the ring has completed
(R295). -/
def mayStart (s : State) (c : HostCmd) : Bool :=
  !c.started && s.hif.cmds.all (fun d =>
    !(decide (d.part = c.part ∧ d.ring = c.ring ∧ d.serial < c.serial)) || (d.started && !c.desc.flags.toNat.testBit 2))

def markStarted (s : State) (serial : Nat) : State :=
  { s with hif := { s.hif with cmds := s.hif.cmds.map (fun d => if d.serial = serial then { d with started := true } else d) } }

/-- Opcodes that only P0 may issue (R35, R299, R351, R405). -/
def onlyP0 (op : Nat) : Bool :=
  [0x11, 0x12, 0x24, 0x33, 0x34, 0x36].contains op || (decide (0x70 ≤ op ∧ op < 0x80) && op != 0x75)

/-- Reserved opcodes (R299, R351, R405). -/
def opReserved (op : Nat) : Bool :=
  !((decide (op ≤ 0x06)) || decide (0x10 ≤ op ∧ op ≤ 0x15) || decide (0x20 ≤ op ∧ op ≤ 0x24) ||
    decide (0x30 ≤ op ∧ op ≤ 0x37) || decide (0x40 ≤ op ∧ op ≤ 0x43) || decide (0x50 ≤ op ∧ op ≤ 0x79))

/-- Plan and status queries (R34): PLAN_STATUS, MODE_QUERY, LINK_STATUS, CFG_STATUS, HEALTH_QUERY, BOOT_STATUS. -/
def opQuery (op : Nat) : Bool := [0x13, 0x15, 0x23, 0x32, 0x40, 0x75].contains op

/-- A tenant that the plan in force does not hold: its rings take queries alone (R34; log entry 174). -/
def absent (s : State) (part : Nat) : Bool :=
  decide (part ≠ 0) && !(s.thePlan.part part).present

/-- The status that refuses a command before its own checks; 0: none. -/
def cmdRefused (s : State) (c : HostCmd) : Nat :=
  let op := c.desc.op.toNat
  let fl := c.desc.flags.toNat
  if s.flag F.SPM_BOOT_STAT_RAGDOLL && !([0x00, 0x40, 0x43].contains op || decide (0x70 ≤ op ∧ op < 0x80)) then St.modeRefused
  else if opReserved op then St.badDescriptor
  else if absent s c.part && !opQuery op then St.notOwner
  else if 16 ≤ fl ∨ (fl.testBit 0 = true ∧ op ≠ 0x03 ∧ op ≠ 0x23) ∨
      (fl.testBit 1 = true ∧ ¬(op = 0x04 ∨ op = 0x34 ∨ op = 0x35 ∨ op = 0x36)) then St.badDescriptor
  else if onlyP0 op && c.part != 0 then St.notOwner
  else St.ok

/-- Opcodes that the ring engine passes to firmware (R299, R351, R405). -/
def opFirmware (op : Nat) : Bool := decide ((0x32 ≤ op ∧ op ≤ 0x37) ∨ (0x50 ≤ op ∧ op ≤ 0x6F) ∨ (0x71 ≤ op ∧ op ≤ 0x79))

/-- The 32 bytes of a descriptor (R295). -/
def descBytes (d : Desc) : List Byte :=
  [d.op, d.flags] ++ leBytes 2 d.id.toNat ++ leBytes 4 d.arg0.toNat ++ leBytes 4 d.arg1.toNat ++ leBytes 4 d.arg2.toNat ++
    leBytes 8 d.addr.toNat ++ leBytes 4 d.len.toNat ++ leBytes 4 d.arg3.toNat

/-- The record area (R304, R306). -/
def fwBase (s : State) : Nat := (s.reg R.HIF_FWQ_BASE).toNat / 4096 * 4096

/-- A record that neither waits nor is open, sought from the command's own number on. -/
def fwFree (s : State) (serial : Nat) : Option Nat :=
  ((List.range 64).map (fun k => (serial + k) % 64)).find? (fun n => (s.hif.fwq ++ s.hif.fwOpen).all (fun e => decide (e.1 ≠ n)))

/-! ### Completions are written (R294, R295) -/

/-- The events that a command causes (R295, R296; log entry 176): PAT_TEST the state of its link and of that link's stations;
MODE_SET the mode change, and link and station states where SERVICE ends tests; PLAN_COMMIT refusals, mode changes, the end
of a degraded plan, health, and the states of the links and stations that it starts anew. -/
def caused (d : Desc) (e : EvRec) : Bool :=
  match d.op.toNat with
  | 0x11 => [3, 5, 6, 7, 8, 0xA].contains e.type
  | 0x14 => e.type = 8 || ([3, 5].contains e.type && decide (d.arg0.toNat % 4 = 3))
  | 0x24 => [3, 5].contains e.type && e.data.headD 0 = d.arg1.toNat
  | _ => false

/-- An event of a kind that the command causes still waits for its event ring (R295); a disabled ring holds nothing up (log
entry 176). -/
def evPending (s : State) (c : HostCmd) : Bool :=
  s.hif.evts.any (fun e => caused c.desc e && ringAct s e.part 5)

/-- The bytes of a completion entry but the last (R295). -/
def cplBytes (c : HostCmd) (sqHead : Nat) (x : Cpl) : List Byte :=
  leBytes 2 c.desc.id.toNat ++ leBytes 1 c.ring ++ leBytes 1 x.status ++ leBytes 2 sqHead ++ leBytes 2 x.detail ++
    leBytes 4 x.result ++ leBytes 2 x.result2 ++ [0]

/-- The completion entry, counters and vector of a command. -/
def writeCpl (s : State) (c : HostCmd) (x : Cpl) : State :=
  let s2 := ringPut (dropCmd s c.serial) c.part 4 (cplBytes c (s.fld (F.HIF_RIDX_IDX c.part c.ring)) x) (if x.applied then 2 else 0)
  let s3 := (s2.countReg R.HIF_CPL_CNT).setFld (F.HIF_PSTAT_INFLIGHT c.part) (s.fld (F.HIF_PSTAT_INFLIGHT c.part) - 1)
  if c.desc.flags.toNat.testBit 3 then s3 else vecEntry s3 (2 * c.part) (decide (x.status ≠ 0))

/-- A command that has ended has its completion written, where the ring has room and its events are delivered; it waits
otherwise. One that a HIF reset cut off leaves without (R286). -/
def tryCpl (s : State) (c : HostCmd) : State :=
  match c.done with
  | none => s
  | some x =>
    if c.mute then dropCmd s c.serial
    else if ringRoom s c.part 4 && !evPending s c then writeCpl s c x
    else s

/-- Its record of R304 is free. -/
def freeRecord (s : State) (serial : Nat) : State :=
  let keep (e : Nat × Nat) : Bool := decide (e.2 ≠ serial)
  { s with hif := { s.hif with fwq := s.hif.fwq.filter keep, fwOpen := s.hif.fwOpen.filter keep } }

/-- The state with a command marked as ended. -/
def markDone (s : State) (serial : Nat) (x : Cpl) : State :=
  { s with hif := { s.hif with cmds := s.hif.cmds.map (fun d => if d.serial = serial then { d with done := some x } else d) } }

/-- A command ends. -/
def finishCmd (s : State) (serial : Nat) (x : Cpl) : State :=
  match findCmd s serial with
  | none => s
  | some c => tryCpl (markDone (freeRecord s serial) serial x) { c with done := some x }

/-- A command's record is placed, and EVC source 224 raised; it waits while the area is full or does not lie in MGS. -/
def fwPlace (s : State) (c : HostCmd) : State :=
  match fwFree s c.serial with
  | none => s
  | some n =>
    if fwBase s < 0x10000000 ∨ 0x10200000 < fwBase s + 4096 then s
    else if snapClosed s (fwBase s + 64 * n) 64 then
      finishCmd (busErrOf (markStarted s c.serial) codeHif c.part (fwBase s + 64 * n) true) c.serial { status := St.busError }
    else
      let s1 := (markStarted s c.serial).setBytes (fwBase s + 64 * n)
        (descBytes c.desc ++ leBytes 1 c.part ++ leBytes 1 c.ring ++ List.replicate 30 0)
      evcEvent { s1 with hif := { s1.hif with fwq := s1.hif.fwq ++ [(n, c.serial)] } } 224

/-- A command that no unit serves, where it may start: firmware's goes into a record, or ends where it is refused; one of a
reserved opcode ends (R299, R304). -/
def fwStep (s : State) (c : HostCmd) : State :=
  let op := c.desc.op.toNat
  if !(opFirmware op || opReserved op) || !mayStart s c then s
  else if cmdRefused s c ≠ St.ok then finishCmd (markStarted s c.serial) c.serial { status := cmdRefused s c }
  else fwPlace s c

/-- Every such command, in order of fetch. -/
def fwPump (s : State) : State := s.hif.cmds.foldl fwStep s

/-- Completions that waited, then what may start after them. -/
def settle (s : State) : State := fwPump (s.hif.cmds.foldl tryCpl s)

/-- A command in progress completes (R295). -/
def hostComplete (s : State) (serial : Nat) (x : Cpl) : State := fwPump (finishCmd s serial x)

/-- The end of a request is told on the path that asked (R201): the register path has its registers. -/
def tellPath (s : State) (p : Path) (x : Cpl) : State :=
  match p with
  | .regs => s
  | .host n => hostComplete s n x

/-! ### Host windows (R288, R290) -/

def winBase (s : State) (p w : Nat) : Nat :=
  s.fld (F.HIF_WBASE_LO_BASE p w) * 4096 + s.fld (F.HIF_WBASE_HI_BASE p w) * 2 ^ 32

/-- Bytes of a window; 0 where it is not in use or is being cleared. -/
def winSize (s : State) (p w : Nat) : Nat :=
  if s.flag (F.HIF_WCTRL_VALID p w) && !has s.hif.clearing (16 * p + w) then 2 ^ s.fld (F.HIF_WCTRL_LOG2 p w) else 0

/-- Window `w` of a partition admits a transfer of the host range (R288). -/
def winHolds (s : State) (p : Nat) (write : Bool) (a n w : Nat) : Bool :=
  decide (winBase s p w ≤ a ∧ a + n ≤ winBase s p w + winSize s p w) &&
    (if write then s.flag (F.HIF_WCTRL_WR p w) else s.flag (F.HIF_WCTRL_RD p w))

/-- Some window of a partition admits a transfer. -/
def winOk (s : State) (p : Nat) (write : Bool) (a n : Nat) : Bool := (List.range 16).any (winHolds s p write a n)

/-! ### Ends of commands -/

/-- Ends a command with a status alone. -/
def endCmd (s : State) (c : HostCmd) (st : Nat) : State := hostComplete s c.serial { status := st }

/-- A host range fails its window check (R288). -/
def endWindow (s : State) (c : HostCmd) : State := endCmd (s.countReg R.HIF_WF_CNT) c St.windowFault

/-- A read of the command's buffer: its window, its bytes, an error response (R288, R291). -/
def withHostData (s : State) (c : HostCmd) (a n : Nat) (d : HostData) (k : List Byte → State) : State :=
  if !winOk s c.part false a n then endWindow s c
  else match d with
    | .error => endCmd s c St.busError
    | .bytes l => k (padTo (l.take n) n)

/-- The command ends OK with bytes at a host address (R288). -/
def answerHost (s : State) (c : HostCmd) (a : Nat) (l : List Byte) (x : Cpl) : State :=
  if !winOk s c.part true a l.length then endWindow s c
  else hostComplete (s.post (.write a l)) c.serial x

/-- Slot words, and INT of each (R192). -/
def slotWords (s : State) (l : List Nat) : List Byte := (l.map (fun n => leBytes 8 (s.slot64 n))).flatten
def slotInts (s : State) (l : List Nat) : List Bool := l.map (fun n => (s.thePlan.bind n).int)

/-- Slot words go to the host, with INT. -/
def postSlots (s : State) (a : Nat) (l : List Nat) : State := (s.post (.write a (slotWords s l))).post (.ints a (slotInts s l))

/-- A command answers with slots. -/
def answerSlots (s : State) (c : HostCmd) (a : Nat) (l : List Nat) : State :=
  if !winOk s c.part true a (8 * l.length) then endWindow s c else hostComplete (postSlots s a l) c.serial {}

/-- The parts of a request all lie in one unit (R300). -/
def HReq.oneUnit (r : HReq) : Bool := (r.parts.map (fun q => q.unit)).dedup.length ≤ 1

/-! ### Health (R299) -/

/-- ENT serves its consumers (R408). -/
def State.entOk (s : State) : Bool := decide (s.fld F.ENT_STATUS_STATE = 1)

/-- The DRBG may serve one more request before it reseeds (R410). -/
def State.entReady (s : State) : Bool := s.entOk && decide (s.ent.served < 1024)

/-- The DRBG has served a request; after 1,024 it reseeds from the conditioned window at hand, or from the next one (R410). -/
def State.drbgUsed (s : State) : State :=
  if 1024 ≤ s.ent.served + 1 ∧ s.ent.cond.isSome = true then { s with ent := { s.ent with served := 0, cond := none } }
  else { s with ent := { s.ent with served := min 1024 (s.ent.served + 1) } }

/-- A value from the DRBG. The predictor keys and link epochs, which R410 lets wait for nothing, draw also where a reseed is due
(log entry 199). -/
def State.drbg (s : State) : Nat × State := (s.draw.1, s.draw.2.drbgUsed)

/-- ENT is failed: since a test failure until the next entry to OK (R409). -/
def State.entFailed (s : State) : Bool := !s.entOk && !s.ent.first

/-- The health word (R299). -/
def healthWord (s : State) : Nat :=
  let b (x : Bool) (k : Nat) : Nat := if x then 2 ^ k else 0
  b (s.flag F.CYC_STATUS_OVER_CAP) 0 + b s.degraded 1 + b (decide (s.fld F.AGM_STATUS_CRIT ≠ 0)) 2 + b s.entFailed 3 +
    s.fld F.DPR_STATUS_NOSPARE * 16 + s.fld F.DPR_STATUS_SLICE_OVER * 256 + b (s.flag F.CYC_STATUS_SYNC_LOCK) 12 +
    b s.service 13 + s.fld F.TWL_STATUS_ROLE * 2 ^ 14

/-- Every partition (R28, R296). -/
def everyPart : List Nat := List.range 64

/-- A HEALTH event where bits [3:0] or [15:14] have changed. -/
def healthTell (s : State) : State :=
  let w := healthWord s
  let k := w % 16 + w / 2 ^ 14 % 4 * 2 ^ 14
  if s.hif.health = k then s
  else postEvents { s with hif := { s.hif with health := k } } 0xA ((leBytes 4 w).map BitVec.toNat) everyPart

end Sys2Proof.Machine
end

