-- ==== Sys2Proof/Machine/Frames.lean ====
section
/-! DEFINITION. Frames and K28.1 blocks that the device sends on the field links (R218 to R230, R239). -/

namespace Sys2Proof.Machine

/-! ### Frames (R224 to R233) -/

/-- The folded seed of R230. -/
def frameSeed (context address seq : Nat) : Word :=
  0xFFFFFFFF ^^^ word (context % 256 * 2 ^ 24 + address % 256 * 2 ^ 16 + seq % 65536)

end Sys2Proof.Machine

namespace Sys2Proof

open Sys2Proof.Machine

/-- Bytes of the header (R225). -/
def Frame.header (f : Frame) : List Byte :=
  [f.type, f.flags, f.dest, f.src, f.epoch, f.channel] ++ leBytes 2 f.seq.toNat ++ leBytes 2 f.len.toNat ++
    leBytes 2 f.cycle.toNat

/-- The check that a frame must carry (R230). -/
def Frame.checkOf (f : Frame) (context address : Nat) : Word :=
  crc32cFrom (frameSeed context address f.seq.toNat) (f.header ++ f.payload)

/-- Byte `k` of the payload. -/
def Frame.pay (f : Frame) (k : Nat) : Nat := (f.payload.getD k 0).toNat
/-- `n` bytes of the payload from `k`, little-endian. -/
def Frame.payLe (f : Frame) (k n : Nat) : Nat := leNat ((f.payload.drop k).take n)

/-- More than 1,042 characters follow the SOF before the EOF (R217, R224). -/
def Frame.tooLong (f : Frame) : Bool := decide (1042 < 12 + f.payload.length + 4)

/-- The frame is an ADM ANNOUNCE (R245). -/
def Frame.isAnnounce (f : Frame) : Bool := decide (f.type = 5 ∧ f.pay 0 = 0x84)
def Frame.isIdentRsp (f : Frame) : Bool := decide (f.type = 5 ∧ f.pay 0 = 0x81)

end Sys2Proof

namespace Sys2Proof.Machine

/-- The CHANNEL of each TYPE (R226). -/
def typeChannel (ty : Nat) : Option Nat :=
  match ty with
  | 1 => some 0
  | 2 => some 0
  | 3 => some 1
  | 4 => some 1
  | 5 => some 2
  | 6 => some 2
  | 7 => some 2
  | 8 => some 2
  | _ => none

/-- Types that travel from a station to the device (R226). -/
def inboundType (ty : Nat) : Bool := decide (ty = 2 ∨ ty = 4 ∨ ty = 5 ∨ ty = 6)
/-- Types that travel from the device to a station (R226). -/
def outboundType (ty : Nat) : Bool := decide (ty = 1 ∨ ty = 3 ∨ ty = 5 ∨ ty = 6 ∨ ty = 7 ∨ ty = 8)

/-- The low 16 bits of the cycle number, as `CYC_CYCNUM` holds it: a write of it while EN is 0 renumbers a cycle that still runs to its end
(R78; log entry 187). -/
def cycle16 (s : State) : Nat := (s.reg R.CYC_CYCNUM).toNat % 65536

/-- The device sends a frame to a station: link epoch, the station's counter of the channel, cycle, check (R225, R228,
R230). `seq` stands for a repeated number; an address without a record is sent HOLD alone. Halted by debug, the link sends K28.5 only
(R537). -/
def sendFrame (s : State) (l st ty ch : Nat) (payload : List Byte) (seq : Option Nat) : State :=
  if s.dbgHalted then s else
  let x := s.lnk l
  let y := x.stn st
  let n := seq.getD (if y.state = 0 then SMap.get (fun _ => 0) x.holdSeq st else match ch with | 0 => y.seq0 | 1 => y.seq1 | _ => y.seq2)
  let f0 : Frame := ⟨BitVec.ofNat 8 ty, 0, BitVec.ofNat 8 st, 0, BitVec.ofNat 8 (s.fld (F.SFL_STATUS_EPOCH l)),
    BitVec.ofNat 8 ch, BitVec.ofNat 16 n, BitVec.ofNat 16 payload.length, BitVec.ofNat 16 (cycle16 s), payload, 0, false, false⟩
  let f := { f0 with check := f0.checkOf l st }
  let y1 :=
    if seq.isSome then y
    else match ch with
      | 0 => { y with seq0 := (n + 1) % 65536 }
      | 1 => { y with seq1 := (n + 1) % 65536 }
      | _ => { y with seq2 := (n + 1) % 65536 }
  let x1 :=
    if y.state ≠ 0 then x.setStn st y1
    else if seq.isSome then x
    else { x with holdSeq := SMap.set (fun _ => 0) x.holdSeq st ((n + 1) % 65536) }
  s.setLnk l { x1 with tx := some f }

/-- Flag bits of a K28.1 block (R219). -/
def blockFlags (s : State) (mark sample : Bool) : Nat :=
  s.fld F.TWL_STATUS_PAIR_EPOCH % 16 * 16 + (if s.cyc.first then 8 else 0) + (if mark then 4 else 0) +
    (if sample then 2 else 0) + (if s.service then 1 else 0)

/-- A K28.1 block of a cycle (R218). -/
def mkBlock (cycle flags ofs : Nat) : KBlock :=
  { cycle := BitVec.ofNat 16 cycle, flags := BitVec.ofNat 8 flags, ofs := BitVec.ofNat 24 ofs,
    crc := crc8 (leBytes 2 cycle ++ leBytes 1 flags ++ leBytes 3 ofs), fault := false }

/-- The SOC block of the cycle (R219, R221). -/
def socBlock (s : State) : KBlock :=
  mkBlock (cycle16 s) (blockFlags s false (decide (s.fld F.CYC_SAMPLE_OFS_US = 0))) (s.fld F.CYC_APPLY_OFS_US * 100)

/-- The sample mark of the cycle that a block opened: its CYCLE, PAIR_EPOCH, SERVICE and FIRST, with MARK and SAMPLE
(R221). -/
def markBlock (s : State) (b : KBlock) : KBlock :=
  mkBlock b.cycle.toNat (b.flags.toNat ||| 6) (s.fld F.CYC_SAMPLE_OFS_US * 100)

/-- What a link's transmitter sends (R259, R275). -/
inductive Transmit where
  | idle | identification | admission | traffic | pattern
  deriving DecidableEq, Repr

/-- The transmitter of a link by its state: near-end tests keep it at K28.5. -/
def transmits (s : State) (l : Nat) : Transmit :=
  match s.linkState l with
  | 2 => .identification
  | 3 => .admission
  | 4 => .traffic
  | 5 => if (s.lnk l).testLoop = 0 then .idle else .pattern
  | _ => .idle

/-- The link sends K28.1 blocks: in TRAIN, ENUM, ADMIT and RUN (R259). -/
def sendsBlocks (s : State) (l : Nat) : Bool := decide (1 ≤ s.linkState l ∧ s.linkState l ≤ 4)

/-- A K28.1 block leaves every link that sends blocks (R48, R221, R259). -/
def sendBlock (s : State) (b : KBlock) : State :=
  eachNat (fun t l => if sendsBlocks t l then t.setLnk l { t.lnk l with soc := some b } else t)
    { s with cyc := { s.cyc with block := some b } } (List.range 24)

/-- The value of an output endpoint (R62, R191, R239): its slot's; where no slot is bound to it the spec states none, and a
free value stands. -/
def endpointValue (s : State) (l st ep : Nat) : Word × State :=
  match s.thePlan.binds.find? (fun e => decide (e.2.kind = 2 ∧ e.2.daddr = l * 2048 + st * 64 + ep)) with
  | some e => ((s.slot e.1).value, s)
  | none => (word s.draw.1, s.draw.2)

/-- The payload of an OUT frame for the endpoints listed. -/
def outPayload (s : State) (l st : Nat) : List Nat → List Byte × State
  | [] => ([], s)
  | ep :: eps =>
    let v := endpointValue s l st ep
    let r := outPayload v.2 l st eps
    (leBytes 4 v.1.toNat ++ r.1, r.2)

/-- The OUT frame of one station of a link (R239). -/
def outFrame (l : Nat) (s : State) (c : StnCfg) : State :=
  let eps := bitsBelow c.outMask 64
  if eps = [] ∨ s.stnRun l c.addr = false then s
  else
    let p := outPayload s l c.addr eps
    let s1 := sendFrame p.2 l c.addr 1 0 p.1 none
    let x := s1.lnk l
    s1.setLnk l { x with outs := x.outs ++ x.tx.toList }

/-- A link sends its OUT frames of the cycle, in ascending station address (R239): in RUN, outside SERVICE, and not on a
standby (R488). -/
def outFrames (s : State) (l : Nat) : State :=
  if s.linkState l ≠ 4 ∨ s.service = true ∨ s.standby = true then s
  else (s.thePlan.link l).stns.foldl (outFrame l) s

end Sys2Proof.Machine
end

