-- ==== Sys2Proof/Machine/Dpr.lean ====
section
/-! DEFINITION. The Cycle Dispatcher and the Commit Unit: readiness, queues, dispatch, stealing, retirement,
generations, quarantine, commit groups (R56 to R67, R88 to R92, R143 to R171). -/

namespace Sys2Proof.Machine

/-! ### Progress of blocks -/

def State.run (s : State) (i : Nat) : BlkRun := SMap.get (fun _ => {}) s.dpr.runs i
def State.setRun (s : State) (i : Nat) (x : BlkRun) : State :=
  { s with dpr := { s.dpr with runs := SMap.set (fun _ => {}) s.dpr.runs i x } }
def State.gen (s : State) (i : Nat) : Nat := SMap.get (fun _ => 0) s.dpr.gens i
def State.setGen (s : State) (i g : Nat) : State :=
  { s with dpr := { s.dpr with gens := SMap.set (fun _ => 0) s.dpr.gens i (g % 256) } }
def State.windupOf (s : State) (i : Nat) : Nat := SMap.get (fun _ => 0) s.dpr.windup i
def State.setWindup (s : State) (i w : Nat) : State :=
  { s with dpr := { s.dpr with windup := SMap.set (fun _ => 0) s.dpr.windup i w } }

/-- The current generation of a block advances (R158, R165); step 3 of R20 writes it back. -/
def State.bumpGen (s : State) (i : Nat) : State :=
  let s1 := s.setGen i (s.gen i + 1)
  { s1 with dpr := { s1.dpr with genChanged := addTo s1.dpr.genChanged i } }

/-- The entries of a cluster's ready queue: the ready blocks homed there (R148). -/
def State.queue (s : State) (c : Nat) : List Nat :=
  (s.dpr.runs.filter (fun e => decide (e.2.state = .ready ∧ (s.block e.1).home = c))).map Prod.fst

/-- The blocks of a cluster's overflow bitmap, lowest index first (R149). -/
def State.bitmap (s : State) (c : Nat) : List Nat :=
  (s.dpr.runs.filter (fun e => decide (e.2.state = .overflow ∧ (s.block e.1).home = c))).map Prod.fst

/-- A promoted background block (R168). -/
def State.isPromoted (s : State) (i : Nat) : Bool := has s.dpr.promoted i

/-- The dispatch key, most significant field first (R148); a re-dispatched block has slack and priority 0 (R159). -/
def dispatchKey (s : State) (i : Nat) : List Nat :=
  let b := s.block i
  let r := s.run i
  [ if s.isPromoted i then 0 else 1,
    if b.bg then 1 else 0,
    if r.redisp then 0 else b.slack,
    if r.redisp || b.bg then 0 else b.prio,
    if b.bg then 255 - s.windupOf i else 0,
    r.readyTime,
    i ]

/-- Field by field, lower first. -/
def keyLt : List Nat → List Nat → Bool
  | a :: l, b :: m => if a < b then true else if b < a then false else keyLt l m
  | [], _ :: _ => true
  | _, [] => false

/-- The entry of least key. -/
def leastKey (s : State) : List Nat → Option Nat
  | [] => none
  | i :: l =>
    match leastKey s l with
    | none => some i
    | some j => if keyLt (dispatchKey s j) (dispatchKey s i) then some j else some i

/-- Inserts in key order. -/
def insertKey (s : State) (i : Nat) : List Nat → List Nat
  | [] => [i]
  | j :: l => if keyLt (dispatchKey s i) (dispatchKey s j) then i :: j :: l else j :: insertKey s i l

/-- Blocks in dispatch key order. -/
def sortKeys (s : State) (l : List Nat) : List Nat := l.foldl (fun a i => insertKey s i a) []

/-- DPR's EVC sources 39 to 41 (R171). -/
def dprEvent (s : State) (k : Nat) : State := evcIf s F.DPR_EVT_EN_EN 39 k

/-- High-water mark of a queue (R171). -/
def markHwm (s : State) (c : Nat) : State :=
  let d := (s.queue c).length
  if s.fld (F.DPR_QSTAT_HWM c) < d then s.setFld (F.DPR_QSTAT_HWM c) d else s

/-- A ready block is placed: into its home queue, or into the overflow bitmap where 1,024 entries stand (R149). An
entry in any queue lets thieves try again (R154). -/
def place (s : State) (i : Nat) : State :=
  let c := (s.block i).home
  let r := s.run i
  if (s.queue c).length < 1024 then
    let s1 := s.setRun i { r with state := .ready }
    markHwm { s1 with dpr := { s1.dpr with noRetry := [] } } c
  else
    let s1 := (s.setRun i { r with state := .overflow }).countReg R.DPR_QOVF_CNT
    let s2 := s1.setFld (F.DPR_QSTAT_OVF c) 1
    if has s2.dpr.ovfTold c then s2
    else dprEvent { s2 with dpr := { s2.dpr with ovfTold := addTo s2.dpr.ovfTold c } } 2

/-- An entry has left a queue that was full: the set bit of lowest index moves in, ready at the move (R149). -/
def refill (s : State) (c : Nat) (wasFull : Bool) : State :=
  if !wasFull then s
  else
    match s.bitmap c with
    | [] => s
    | i :: _ =>
      let s1 := s.setRun i { s.run i with state := .ready, readyTime := s.tb }
      markHwm { s1 with dpr := { s1.dpr with noRetry := [] } } c

/-- A ready block enters a queue (R54, R147): after dispatch start; a quarantined block is not dispatched (R165),
nor one homed in a cluster that is in reset or unloaded (R425, R442). -/
def mayQueue (s : State) (i : Nat) : Bool :=
  s.dpr.open' && !has s.dpr.quarantine i && s.clusterIn (s.block i).home

/-- Blocks become ready in one instant: those that may enter a queue are offered in key order (R54, R147, R149). -/
def makeReady (s : State) (l : List Nat) : State :=
  let ready := l.filter (mayQueue s)
  let s1 := eachNat (fun t i => t.setRun i { t.run i with readyTime := t.tb }) s ready
  eachNat place s1 (sortKeys s1 ready)

/-- One dependency of each block of a list is satisfied (R147): the blocks whose count reaches 0, and the state. -/
def lowerCounts (s : State) : List Nat → List Nat × State
  | [] => ([], s)
  | i :: l =>
    let r := s.run i
    if r.state = .waiting ∧ 0 < r.count then
      (let q := lowerCounts (s.setRun i { r with count := r.count - 1 }) l
       (if r.count = 1 then i :: q.1 else q.1, q.2))
    else lowerCounts s l

/-- The trigger list of a link and station is walked, once in a cycle (R53, R147). -/
def walkFrame (s : State) (l st : Nat) : List Nat × State :=
  let k := 32 * l + st
  if has s.dpr.framesSat k then ([], s)
  else lowerCounts { s with dpr := { s.dpr with framesSat := addTo s.dpr.framesSat k } } (s.thePlan.frameDeps l st)

/-- A frame of a link and station has been checked good (R53, R147). -/
def frameTrigger (s : State) (l st : Nat) : State :=
  let r := walkFrame s l st
  makeReady r.2 r.1

/-- A failed block's successors, and theirs, fail with cause DEPENDENCY (R57, R147). -/
def failSuccs (s : State) (i : Nat) : Nat → State
  | 0 => s
  | fuel + 1 =>
    eachNat (fun t j =>
      match (t.run j).state with
      | .waiting => failSuccs (t.setRun j { t.run j with state := .failed 3 0 }) j fuel
      | _ => t) s (s.thePlan.succs i)

/-- A foreground block fails with a miss cause and report code (R166). -/
def failBlock (s : State) (i cause report : Nat) : State :=
  failSuccs (s.setRun i { s.run i with state := .failed cause report }) i 64

/-! ### Commit groups (R61, R62, R65) -/

/-- The links that carry a slot of a group. -/
def groupLinks (p : Plan) (g : Nat) : List Nat :=
  (p.group g).slots.foldl (fun a n => addTo a (daLink (p.bind n).daddr)) []

/-- The groups with a slot on a link. -/
def linkGroups (p : Plan) (l : Nat) : List Nat :=
  (p.groups.filter (fun e => e.2.slots.any (fun n => decide (daLink (p.bind n).daddr = l)))).map Prod.fst

/-- OUT frames of each link of the list begin once every group with a slot on it has resolved (R65). -/
def beginOut (s : State) : List Nat → State
  | [] => s
  | l :: ls =>
    let s1 :=
      if (linkGroups s.thePlan l).all (fun g => has s.dpr.resolved g) && !has s.dpr.outBegun l then
        outFrames { s with dpr := { s.dpr with outBegun := addTo s.dpr.outBegun l } } l
      else s
    beginOut s1 ls

/-- How the group last resolved, and how before that. -/
def groupRes (s : State) (g : Nat) : GroupRes := SMap.get (fun _ => {}) s.dpr.groups g
def groupWas (s : State) (g : Nat) : GroupRes := SMap.get (fun _ => {}) s.dpr.groupsWas g

/-- The group resolves in this cycle. -/
def setGroupRes (s : State) (g res : Nat) : State :=
  { s with dpr := { s.dpr with
      groupsWas := SMap.set (fun _ => {}) s.dpr.groupsWas g (groupRes s g)
      groups := SMap.set (fun _ => {}) s.dpr.groups g ⟨res, (s.reg R.CYC_CYCNUM).toNat % 65536⟩
      resolved := addTo s.dpr.resolved g } }

/-- The value a member wrote to the slot in the cycle, else the one it holds. -/
def newValue (s : State) (n : Nat) : Word :=
  match s.dpr.newVal.find? (fun e => decide (e.1 = n)) with
  | some e => e.2
  | none => (s.slot n).value

/-- The group resolves as commit (R61, R62, R191); a gated endpoint takes its safe value (R268). -/
def groupCommit (s : State) (g : Nat) : State :=
  let put (t : State) (n : Nat) : State := if t.gated n then slotSafe t n else slotCommit t n (newValue t n)
  let s1 := eachNat put s (s.thePlan.group g).slots
  beginOut ((setGroupRes s1 g 1).countReg R.CMU_COMMIT_CNT) (groupLinks s.thePlan g)

/-- The group resolves as hold in RUN (R61, R191). -/
def groupHold (s : State) (g : Nat) : State :=
  let s1 := eachNat slotHold s (s.thePlan.group g).slots
  beginOut ((setGroupRes s1 g 2).countReg R.CMU_HOLD_CNT) (groupLinks s.thePlan g)

/-- The group of a TRACK partition at the OUT deadline: its policy (R68, R70, R191). -/
def groupTrack (s : State) (g : Nat) : State :=
  let gr := s.thePlan.group g
  let s1 := eachNat (if gr.safe then slotSafe else slotHold) s gr.slots
  beginOut (setGroupRes s1 g 3) (groupLinks s.thePlan g)

/-- The last member has completed good: the group commits, unless its partition is in TRACK (R61, R70). -/
def groupCheck (s : State) (g : Nat) : State :=
  if has s.dpr.resolved g || s.track (s.thePlan.group g).owner then s
  else if (s.thePlan.members g).all (fun i => (s.run i).state == .good) then groupCommit s g
  else s

/-! ### Engines -/

def updLe (s : State) (n : Nat) (f : Cpu → Cpu) : State := s.setLe n (f (s.le n))

/-- The engine holds the spare role (R145). -/
def State.isSpare (s : State) (n : Nat) : Bool := has s.dpr.spareSet n

/-- Retired engines of a cluster. -/
def retiredIn (s : State) (c : Nat) : Nat :=
  ((clusterEngines c).filter (fun n => (s.le n).k.state == .retired)).length

/-- Configured spares of a cluster in force (R146). -/
def State.sparesOf (s : State) (c : Nat) : Nat := SMap.get (fun _ => 1) s.dpr.sparesIn c

/-- The spare pool S_c (R145). -/
def sparePool (s : State) (c : Nat) : Nat := s.sparesOf c - retiredIn s c

/-- N_c as step 3 of R146 gave it to the CYC last; 15 with the default spare. -/
def State.admittedOf (s : State) (c : Nat) : Nat := SMap.get (fun _ => 15) s.dpr.admitted c

/-- Admitted engines N_c (R58, R146); 0 while the cluster is off, in reset or unloaded (R425, R441, R442). -/
def admittedN (s : State) (c : Nat) : Nat :=
  if s.clusterIn c then s.admittedOf c else 0

/-- The reset of an engine: registers, predictor and store buffer; stores already issued may still arrive (R102,
R109; log entry 10). Counters and ECC_CNT stay (R115). -/
def resetLe (s : State) (n : Nat) (st : ProcState) : State :=
  let c := s.le n
  let s1 := { s with orphans := s.orphans ++ c.k.buf.map (fun b => (n, b)) }
  let k := { c.k with
    state := st, init := false, gated := false, buf := [], stall := none, waiting := none, pipe := {}, ev := none, pred := [] }
  s1.setLe n { r := {}, k := k }

/-- The reset of an engine with its cluster, or with its domain's supply: its counters and ECC_CNT are cleared too (R115). -/
def resetLeAll (s : State) (n : Nat) (st : ProcState) : State :=
  let s1 := resetLe s n st
  let c := s1.le n
  s1.setLe n { c with k := { c.k with brCount := 0, brMiss := 0, eccLim := 0, eccLdm := 0 } }

/-- The engine is released to the kernel initialisation entry of the plan (R89). -/
def startKernel (s : State) (n : Nat) : State :=
  let c := s.le n
  s.setLe n { r := { c.r with pc := word (s.thePlan.set (n / 16)).kinit },
              k := { c.k with state := .kernel, init := true, gated := false } }

/-- Clocks left to the OUT deadline at the block's home clock (R159). -/
def clocksLeft (s : State) (c : Nat) : Nat :=
  (s.cyc.lastSocTb + s.fld F.CYC_OUT_DEADLINE_US * 100 - s.tb) * s.clusterMHz c / 100

def redispBit (s : State) (p : Nat) : Bool :=
  if p < 32 then s.regBit R.DPR_REDISP_LO p else s.regBit R.DPR_REDISP_HI (p - 32)

/-- An evaluation abandoned by a retirement: re-dispatched where R159 allows and its block may enter a queue (R165, R425), else
failed with cause RETIRED. -/
def abandoned (s : State) (v : Eval) (cause : Nat) : State :=
  let b := s.block v.blk
  if v.bg then s.countReg R.DPR_BG_FAIL
  else if v.late then s
  else if redispBit s v.part && mayQueue s v.blk && decide (b.cost ≤ clocksLeft s b.home) then
    place ((s.setRun v.blk { s.run v.blk with redisp := true, cause := cause }).countReg R.DPR_REDISP_CNT) v.blk
  else failBlock s v.blk 5 cause

/-- Retires an engine (R158): reset and held, the block's generation advanced, recorded, counted, source 39; then the
abandoned evaluation is dealt with (R159). An engine already RETIRED is left alone (R160). -/
def retireEngine (s : State) (n cause : Nat) : State :=
  let c := s.le n
  if c.k.state = .retired ∨ c.k.state = .off then s
  else
    let s1 := resetLe s n .retired
    let s2 := match c.k.ev with | some v => s1.bumpGen v.blk | none => s1
    let lbd := match c.k.ev with | some v => v.blk | none => 0
    let s3 := s2.setReg R.DPR_LAST_RETIRE
      (word (2 ^ 31 + lbd * 2 ^ 16 + (if c.k.ev = none then 2 ^ 15 else 0) + cause * 256 + n))
    let s4 := dprEvent (s3.countReg R.DPR_RETIRE_CNT) 0
    match c.k.ev with
    | some v => abandoned s4 v cause
    | none => s4

/-- The registers that a dispatch sets and clears (R90). -/
def dispatchRegs (s : State) (r : Proc) (b : Block) (gen : Nat) : Proc :=
  { r with
    a := 0, x := 0, y := 0, p1 := false, p2 := false,
    p3 := s.track b.part,
    st := word (2 ^ 9 + (if b.rstrap then 2 ^ 10 else 0)),
    pc := word b.entry,
    b := word (0x30000000 + b.home * 0x1000000 + b.sbase),
    sbl := word b.sbl,
    lp0 := { r.lp0 with count := 0 }, lp1 := { r.lp1 with count := 0 }, lp2 := { r.lp2 with count := 0 },
    rsDepth := 0,
    part := b.part, gen := gen, cycnum := s.reg R.CYC_CYCNUM, ecnt := 0 }

/-- Block `i` is dispatched to engine `n` (R90, R150, R156): the entry leaves its queue, the engine runs. -/
def dispatchTo (s : State) (n i : Nat) : State :=
  let b := s.block i
  let full := decide ((s.queue b.home).length = 1024)
  let g := s.gen i
  let s1 := s.setRun i { s.run i with state := .running n }
  let s2 := updLe s1 n (fun c =>
    { r := dispatchRegs s1 c.r b g
      k := { c.k with state := .task, gated := false, stall := none, waiting := none, pipe := {},
                      ev := some { blk := i, gen := g, part := b.part, budget := 2 * b.cost, bg := b.bg, late := false } } })
  let s3 := s2.countReg R.DPR_DISP_CNT
  let s4 :=
    if b.bg then
      { s3 with dpr := { s3.dpr with served := addTo s3.dpr.served i, promoted := dropFrom s3.dpr.promoted i } }
    else s3
  trcEmit (refill s4 b.home full) (n / 16) (pktDispatch s4 n i g)

/-- Idle engines of a cluster that debug has not halted; none takes work while programs of a cold plan are still to be written
(R200; log entry 189). -/
def idleIn (s : State) (c : Nat) : List Nat :=
  if s.dpr.limQueue ≠ [] then [] else (clusterEngines c).filter (fun n => (s.le n).k.state == .idle && !(s.le n).k.halted)

/-- The head of a queue (R148). -/
def headOf (s : State) (c : Nat) : Option Nat := leastKey s (s.queue c)

/-- The first background entry of a queue. -/
def firstBg (s : State) (c : Nat) : Option Nat := leastKey s ((s.queue c).filter (fun i => (s.block i).bg))

/-- The entries of a victim queue that a thief of cluster `c` may take (R153); none of a cluster in reset (R425). -/
def stealable (s : State) (c victim : Nat) : List Nat :=
  if !s.clusterIn victim then [] else (s.queue victim).filter (fun i =>
    !(s.block i).bg && (s.block i).steal && ((s.thePlan.set c).residency).testBit (s.block i).prog)

/-- Earliest ready time, then lowest index (R153). -/
def earliest (s : State) : List Nat → Option Nat
  | [] => none
  | i :: l =>
    match earliest s l with
    | none => some i
    | some j =>
      if (s.run j).readyTime < (s.run i).readyTime ∨ ((s.run j).readyTime = (s.run i).readyTime ∧ j < i) then some j
      else some i

/-- The first grantable entry in victim order c + 1, c + 2, c + 3 (R153). -/
def stealTarget (s : State) (c : Nat) : Option Nat :=
  if !s.dpr.stealIn then none
  else
    match earliest s (stealable s c ((c + 1) % 4)) with
    | some i => some i
    | none =>
      match earliest s (stealable s c ((c + 2) % 4)) with
      | some i => some i
      | none => earliest s (stealable s c ((c + 3) % 4))

/-- The head is work of step 1 for an admitted engine: foreground, or promoted (R151). -/
def headForAdmitted (s : State) (c : Nat) : Option Nat :=
  match headOf s c with
  | some i => if !(s.block i).bg || s.isPromoted i then some i else none
  | none => none

/-- What an idle engine takes from its own queue (R151); an admitted engine first asks for a steal. -/
def takes (s : State) (n : Nat) : Option Nat :=
  let c := n / 16
  if s.isSpare n then
    match headOf s c with
    | some i => if s.isPromoted i then some i else firstBg s c
    | none => none
  else
    match headForAdmitted s c with
    | some i => some i
    | none => if (stealTarget s c).isSome then none else firstBg s c

/-- The order in which idle engines are offered work (R151). -/
def offerOrder (s : State) (c : Nat) : List Nat :=
  let idle := idleIn s c
  let sp := idle.filter (fun n => s.isSpare n)
  let ad := idle.filter (fun n => !s.isSpare n)
  match headOf s c with
  | some i => if s.isPromoted i then sp ++ ad else ad ++ sp
  | none => ad ++ sp

/-- The first engine of the list that takes work, with the block it takes. -/
def firstTaker (s : State) : List Nat → Option (Nat × Nat)
  | [] => none
  | n :: l =>
    match takes s n with
    | some i => some (n, i)
    | none => firstTaker s l

/-- One dispatch of cluster `c`'s unit (R150, R151); none in SERVICE (R68). -/
def dispatchUnit (s : State) (c : Nat) : State :=
  if s.dbgHalted || !s.dpr.open' || s.service then s
  else
    match firstTaker s (offerOrder s c) with
    | some (n, i) => dispatchTo s n i
    | none => s

/-- The thief of a cluster: its lowest idle admitted engine, where its own queue has no work of step 1 (R151, R153). -/
def thiefOf (s : State) (c : Nat) : Option Nat :=
  if (headForAdmitted s c).isSome || has s.dpr.noRetry c then none
  else ((idleIn s c).filter (fun n => !s.isSpare n)).head?

/-- The requesting cluster that round-robin serves next (R154). -/
def nextThief (s : State) (c : Nat) : Nat → Option (Nat × Nat)
  | 0 => none
  | k + 1 =>
    match thiefOf s (c % 4) with
    | some n => some (c % 4, n)
    | none => nextThief s (c + 1) k

/-- One clock of the steal arbiter (R153, R154): one request served; a thief that finds nothing waits for an entry. -/
def stealArbiter (s : State) : State :=
  if s.dbgHalted || !s.dpr.open' || s.service || !s.dpr.stealIn then s
  else
    match nextThief s s.dpr.stealPtr 4 with
    | none => s
    | some (c, n) =>
      let s1 := { s with dpr := { s.dpr with stealPtr := (c + 1) % 4 } }
      match stealTarget s1 c with
      | some i => (dispatchTo s1 n i).countReg R.DPR_STEAL_CNT
      | none => { s1 with dpr := { s1.dpr with noRetry := addTo s1.dpr.noRetry c } }

/-! ### Reports (R56, R89, R92, R166) -/

/-- What an engine in DRAIN reports: the code, 0 for complete; `none` for failed, cause LSE (R92). -/
def reportCode (r : Proc) : Option Nat :=
  if r.lsePend then none else if r.sup then some (r.a.toNat % 256) else some 0

/-- A foreground evaluation completes good (R55, R147, R165). -/
def blockGood (s : State) (i : Nat) : State :=
  let s1 := s.setRun i { s.run i with state := .good }
  let s2 := { s1 with dpr := { s1.dpr with suspect := dropFrom s1.dpr.suspect i } }
  let r := lowerCounts s2 (s2.thePlan.succs i)
  let s3 := makeReady r.2 r.1
  match (s3.block i).group with
  | some g => groupCheck s3 g
  | none => s3

/-- The DPR records the report of an evaluation (R56, R64, R92, R144, R166): an evaluation for one of whose stores a late store
error has arrived fails, and is counted in `CYC_LSE_INVAL`. A late background evaluation that ends with code 0 is neither
good nor counted as failed (log entry 167). -/
def recordReport (s : State) (v : Eval) (code : Option Nat) : State :=
  let bad := v.lse || code.isNone
  let s1 := if bad then s.countReg R.CYC_LSE_INVAL else s
  if v.bg then
    (if code = some 0 ∧ bad = false then
       (if v.late then s1
        else
          let s2 := s1.setRun v.blk { s1.run v.blk with state := .good }
          { s2 with dpr := { s2.dpr with suspect := dropFrom s2.dpr.suspect v.blk } })
     else s1.countReg R.DPR_BG_FAIL)
  else if v.late then s1
  else
    match code with
    | none => failBlock s1 v.blk 4 0x0A
    | some 0 => if v.lse then failBlock s1 v.blk 4 0x0A else blockGood s1 v.blk
    | some 0x0A => failBlock s1 v.blk 4 0x0A
    | some k => failBlock s1 v.blk 1 k

/-- An engine in DRAIN whose store buffer is answered reports (R92); kernel initialisation ends in IDLE or in
retirement with cause 6 (R89). -/
def engineReport (s : State) (n : Nat) : State :=
  let c := s.le n
  if c.k.state ≠ .drain ∨ c.k.buf ≠ [] ∨ s.dbgHalted then s
  else
    let code := reportCode c.r
    let s1 := updLe s n (fun c => { r := { c.r with lsePend := false },
                                    k := { c.k with state := .idle, init := false, ev := none } })
    if c.k.init then (if code = some 0 ∧ c.r.sup then s1 else retireEngine s n 6)
    else
      match c.k.ev with
      | some v =>
        let s2 := recordReport s1 v code
        trcEmit s2 (n / 16) (pktReport s2 n v.blk (code.getD 0x0A) (c.r.ecnt % 65536))
      | none => s1

/-! ### Watchdog and quarantine (R156, R165) -/

/-- A block that waits in a queue or in the bitmap leaves it. -/
def unqueue (s : State) (i : Nat) : State :=
  let c := (s.block i).home
  match (s.run i).state with
  | .ready =>
    let full := decide ((s.queue c).length = 1024)
    refill (s.setRun i { s.run i with state := .waiting }) c full
  | .overflow => s.setRun i { s.run i with state := .waiting }
  | _ => s

/-- A quarantine reset (R165). The block is dispatched no more: where it waits in a queue of the next cycle already, it
leaves it. -/
def quarantineReset (s : State) (n : Nat) (v : Eval) : State :=
  let s1 := (startKernel (resetLe s n .reset) n).bumpGen v.blk
  let s2 := { s1 with dpr := { s1.dpr with quarantine := addTo s1.dpr.quarantine v.blk } }
  let s3 := unqueue (dprEvent (s2.setReg R.DPR_QUAR_LAST (word (2 ^ 31 + v.blk))) 1) v.blk
  if v.bg then s3.countReg R.DPR_BG_FAIL
  else if v.late then s3 else failBlock s3 v.blk 5 1

/-- Clocks pass that no row charges: the engine drains, waits, or holds an instruction (R86). -/
def Core.idles (k : Core) : Bool := k.state == .drain || k.waiting.isSome || k.stall.isSome

/-- The evaluation counter has reached the dispatch budget (R156, R165); where clocks pass unseen, the row says so (log entry 180). -/
def budgetOverrun (s : State) (n : Nat) : State :=
  let c := s.le n
  match c.k.ev with
  | none => s
  | some v =>
    if (c.r.ecnt < v.budget ∧ c.k.idles = false) ∨ ¬(c.k.state = .task ∨ c.k.state = .kernel ∨ c.k.state = .drain) then s
    else
      let s1 := s.countReg R.DPR_OVERRUN_CNT
      if has s1.dpr.suspect v.blk && s1.flag F.DPR_CTRL_QUAR_EN then quarantineReset s1 n v
      else retireEngine { s1 with dpr := { s1.dpr with suspect := addTo s1.dpr.suspect v.blk } } n 1

/-- Releases blocks from quarantine; they stay suspect (R165, DPR_QUAR_REL). -/
def releaseQuar (s : State) (l : List Nat) : State :=
  { s with dpr := { s.dpr with quarantine := s.dpr.quarantine.filter (fun i => !has l i) } }

/-! ### Readiness over the cycle (R147, R152) -/

/-- Unsatisfied counts at the SOC: every foreground block of the plan in force, suspended ones apart (R147, R207). -/
def loadCounts (s : State) : State :=
  let runs := s.thePlan.blocks.filterMap (fun e =>
    if e.2.bg || s.suspended e.2 then none else some (e.1, ({ count := e.2.depcnt } : BlkRun)))
  let clean : SMap BlkRun := runs.filter (fun e => decide (e.2 ≠ {}))
  { s with dpr := { s.dpr with
      runs := clean, framesSat := [], resolved := [], outBegun := [], newVal := [], ovfTold := [],
      served := [], missTold := false, noRetry := [] } }

/-- Dispatch start: blocks without a pending dependency and background blocks are offered in key order (R54, R149,
R152). In SERVICE they enter the queues and are not dispatched (R54, R68; log entry 168). -/
def openQueues (s : State) : State :=
  let s1 := { s with dpr := { s.dpr with open' := true } }
  makeReady s1 ((s1.thePlan.blocks.filter (fun e =>
    !s1.suspended e.2 &&
      (e.2.bg && !((s1.run e.1).state matches .running _) ||
        (!e.2.bg && decide ((s1.run e.1).state = .waiting ∧ (s1.run e.1).count = 0))))).map Prod.fst)

/-- Misses of a partition (CYC_PMISS_CNT, saturating). -/
def countMiss (s : State) (p : Nat) : State :=
  let m := SMap.get (fun _ => 0) s.dpr.pmiss p
  let s1 := s.countReg R.CYC_MISS_TOTAL
  { s1 with dpr := { s1.dpr with pmiss := SMap.set (fun _ => 0) s1.dpr.pmiss p (min 0xFFFFFFFF (m + 1)) } }

/-- The miss cause and report code of a block at the OUT deadline; `none` for a good one (R159, R165, R166). A quarantined block
whose predecessor failed is NOT_READY (log entry 169). -/
def missCause (s : State) (i : Nat) : Option (Nat × Nat) :=
  let r := s.run i
  match r.state with
  | .good => none
  | .ready => some (if r.redisp && s.clusterIn (s.block i).home then (5, r.cause) else (2, 0))
  | .overflow => some (if !s.clusterIn (s.block i).home then (2, 0) else if r.redisp then (5, r.cause) else (2, 1))
  | .running _ => some (1, 0)
  | .failed c k => some (if c = 3 ∧ has s.dpr.quarantine i = true then (2, 2) else (c, k))
  | .waiting =>
    if has s.dpr.quarantine i then some (2, 2)
    else if r.count = 0 ∨ s.clusterIn (s.block i).home = false then some (2, 0)
    else some (3, 0)

/-- One miss: counted, its event delivered (R64, R296). -/
def missBlock (s : State) (i : Nat) : State :=
  match missCause s i with
  | none => s
  | some (c, r) =>
    let b := s.block i
    let g := b.group.getD 0xFFFF
    let s1 := postEvent (countMiss s b.part) b.part 1 [i % 256, i / 256, c, r, g % 256, g / 256]
    { s1 with dpr := { s1.dpr with missTold := true } }

/-- Groups unresolved at the OUT deadline: hold, or the TRACK policy (R61, R70). -/
def closeGroup (s : State) (g : Nat) : State :=
  if has s.dpr.resolved g then s
  else if s.track (s.thePlan.group g).owner then groupTrack s g
  else groupHold s g

/-- Evaluations still running become late; ready entries leave the queues and the bitmap (R63, R152). -/
def markLate (s : State) : Nat → State
  | 0 => s
  | n + 1 =>
    updLe (markLate s n) n (fun c => { c with k := { c.k with ev := c.k.ev.map (fun v => { v with late := true }) } })

/-- CYC's EVC sources 33 to 37 (R79). -/
def cycEvent (s : State) (k : Nat) : State := evcIf s F.CYC_EVT_EN_EN 33 k

/-- The OUT deadline of the cycle (R61 to R64): misses, groups, late evaluations, empty queues. -/
def closeCompute (s : State) : State :=
  let fg := (s.thePlan.blocks.filter (fun e => !e.2.bg && !s.suspended e.2)).map Prod.fst
  let s1 := eachNat missBlock s fg
  let s2 := if s1.dpr.missTold then cycEvent s1 1 else s1
  let s3 := if s.service then s2 else eachNat closeGroup s2 (s2.thePlan.groups.map Prod.fst)
  let s4 := markLate s3 64
  let keep := s4.dpr.runs.filter (fun e => !decide (e.2.state = .ready) && !decide (e.2.state = .overflow))
  { s4 with dpr := { s4.dpr with open' := false, runs := keep } }

/-! ### Step 3 of the boundary (R146, R161, R168) -/

/-- The S_c highest-numbered engines of a cluster that are not RETIRED (R145). -/
def highest (s : State) (c k : Nat) : List Nat :=
  let live := (clusterEngines c).filter (fun n => (s.le n).k.state != .retired)
  live.drop (live.length - k)

/-- The spares of cluster `c` become those of a list. -/
def setSpares (s : State) (c : Nat) (l : List Nat) : State :=
  { s with dpr := { s.dpr with spareSet := l.foldl addTo (s.dpr.spareSet.filter (fun n => decide (n / 16 ≠ c))) } }

/-- Step 1 of R146: S_c with the retirements of the ending cycle, the lowest-numbered spares becoming admitted; where engines
have come back from RETIRED with a reset of their cluster, the spares are again the highest-numbered engines (R145). -/
def rolesRetired (s : State) (c : Nat) : State :=
  let mine := s.dpr.spareSet.filter (fun n => decide (n / 16 = c) && (s.le n).k.state != .retired)
  let pool := sparePool s c
  setSpares s c (if mine.length < pool then highest s c pool else mine.drop (mine.length - pool))

/-- Step 2 of R146: a written `SPc` takes effect. -/
def rolesWritten (s : State) (c : Nat) : State :=
  let want := s.fld ⟨R.DPR_SPARES, 4 * c, 3⟩
  if want = s.sparesOf c then s
  else
    let s1 := { s with dpr := { s.dpr with sparesIn := SMap.set (fun _ => 1) s.dpr.sparesIn c want } }
    setSpares s1 c (highest s1 c (sparePool s1 c))

/-- Step 3 of R146: N_c goes to the CYC; NOSPARE follows. -/
def rolesCount (s : State) (c : Nat) : State :=
  let s1 := { s with dpr := { s.dpr with
    admitted := SMap.set (fun _ => 15) s.dpr.admitted c (16 - retiredIn s c - sparePool s c) } }
  s1.setRegBit R.DPR_STATUS c (decide (s1.sparesOf c ≠ 0 ∧ sparePool s1 c = 0))

/-- Roles of one cluster at step 3 of R20 (R146). -/
def clusterRoles (s : State) (c : Nat) : State := rolesCount (rolesWritten (rolesRetired s c) c) c

/-- Changed generations are written into their descriptors (R161). -/
def writeGens (s : State) : State :=
  let s1 := eachNat (fun t i =>
    if t.thePlan.hasBlock i then t.setByte ((t.block i).addr + 0x12) (BitVec.ofNat 8 (t.gen i)) else t) s s.dpr.genChanged
  { s1 with dpr := { s1.dpr with genChanged := [] } }

/-- Wind-up of one background block (R168). DESIGN CHOICE: a promoted block that was not served keeps its promotion, also where LIMIT
has been raised above its counter (log entry 203). -/
def windupStep (s : State) (i : Nat) : State :=
  if s.suspended (s.block i) then s
  else
    let w := if has s.dpr.served i then 0 else min 255 (s.windupOf i + 1)
    let s1 := s.setWindup i w
    if s1.dpr.limitIn ≤ w then
      { (s1.countReg R.DPR_BG_PROMO) with dpr := { (s1.countReg R.DPR_BG_PROMO).dpr with
          promoted := addTo s1.dpr.promoted i } }
    else s1

/-- Wind-up counters of every background block (R168). -/
def windupAll (s : State) : State :=
  eachNat windupStep s ((s.thePlan.blocks.filter (fun e => e.2.bg)).map Prod.fst)

/-! ### Ports (R24, R63, R70, R125, R162, R163) -/

/-- A store of an evaluation is stale: its generation is not the block's current one (R162). -/
def staleStore (s : State) (b : StoreEntry) (n : Option Nat) : Bool :=
  match b.blk, n with
  | some i, some _ => decide (s.gen i ≠ b.gen)
  | _, _ => false

/-- The evaluation that issued the store is late: its engine's evaluation is marked, or the cycle's compute window is
closed and the engine holds another (R63). -/
def lateStore (s : State) (n : Option Nat) (b : StoreEntry) : Bool :=
  match n with
  | some k =>
    (match (s.le k).k.ev with
     | some v => b.blk == some v.blk && v.late
     | none => false)
  | none => false

/-- A write is dropped and counted as an ownership violation (R25). -/
def ownViolation (s : State) : State := { s with dpr := { s.dpr with violations := s.dpr.violations + 1 } }

/-- A value stored to an output-bound slot arrives at the CMU (R125, R163, R196): `n` is the storing engine. -/
def cmuStore (s : State) (n : Option Nat) (b : StoreEntry) (slot part : Nat) : State :=
  if staleStore s b n then s.countReg R.DPR_STALE_DROP
  else if lateStore s n b then s.countReg R.CMU_LATE_DROP
  else if s.track b.part then s
  else if part = 1 then s
  else
    match n, b.blk with
    | some _, some i =>
      (match (s.block i).group with
       | some g =>
         if (s.thePlan.group g).slots.contains slot then
           { s with dpr := { s.dpr with newVal := (s.dpr.newVal.filter (fun e => decide (e.1 ≠ slot))) ++ [(slot, b.data)] } }
         else ownViolation s
       | none => ownViolation s)
    | _, _ => ownViolation s

/-- A store to an internal slot arrives at the SSM write port (R24, R25, R163). -/
def ssmStore (s : State) (n : Option Nat) (b : StoreEntry) (slot part : Nat) : State :=
  if staleStore s b n then s.countReg R.DPR_STALE_DROP
  else if lateStore s n b then s.countReg R.CMU_LATE_DROP
  else if (s.thePlan.bind slot).owner ≠ b.part then ownViolation s
  else
    match part with
    | 0 => s.writeInternal slot (some b.data) none
    | 1 => s.writeInternal slot none (some (b.data.toNat % 65536))
    | _ => s.writeInternal slot (some b.data) (some (b.hi.toNat % 65536))

end Sys2Proof.Machine
end

