-- ==== Sys2Proof/Machine/Link.lean ====
section
/-! DEFINITION. Link controllers and their station tables: frames, link states, admission, retry, acyclic requests,
pattern tests (R224 to R248 on the device's side, R259 to R277), and field power groups (R278 to R280). -/

namespace Sys2Proof.Machine

/-- Why an inbound frame is not accepted: code error, failed check, or another rule of R233. -/
inductive FrameRes where
  | ok | code | crc | discard
  deriving DecidableEq, Repr

/-- R233 for a frame on link `l`, besides what an IN frame must meet to be checked good. -/
def frameRes (s : State) (l : Nat) (f : Frame) : FrameRes :=
  let src := f.src.toNat
  let ctx := if f.isAnnounce then 0xFF else l
  if f.fault then .code
  else if f.tooLong then .discard
  else if f.check ≠ f.checkOf ctx src then .crc
  else if !inboundType f.type.toNat || typeChannel f.type.toNat ≠ some f.channel.toNat || f.len.toNat ≠ f.payload.length ||
      decide (1024 < f.payload.length) then
    .discard
  else if f.isAnnounce then .ok
  else if (s.thePlan.station l src).isNone then .discard
  else if f.isIdentRsp then .ok
  else if (s.stn l src).state = 3 then (if f.epoch.toNat = (s.stn l src).epoch then .ok else .discard)
  else if (s.stn l src).state = 2 then (if f.epoch.toNat = (s.stn l src).newEpoch then .ok else .discard)
  else .discard

/-- The same for a frame that is discarded whatever it holds. -/
def badRes (s : State) (l : Nat) (f : Frame) : FrameRes := match frameRes s l f with | .ok => .discard | r => r

/-- Counts a frame that is not accepted (R233, R281). -/
def countBad (s : State) (l : Nat) : FrameRes → State
  | .ok => s
  | .code => s.countReg (R.SFL_RX_CODE l)
  | .crc => s.countReg (R.SFL_RX_CRC l)
  | .discard => s.countReg (R.SFL_RX_DISCARD l)

/-! ### Events and states -/

/-- EVC source 128 + 4l + k (R281). -/
def sflEvent (s : State) (l k : Nat) : State := evcIf s (F.SFL_EVT_EN_EN l) (128 + 4 * l) k

/-- P0 and every owner of an endpoint of a station of the link (R296). -/
def linkOwners (s : State) (l : Nat) : List Nat :=
  (s.thePlan.link l).stns.foldl (fun a c => (s.thePlan.stationOwners l c.addr).foldl addTo a) [0]

/-- Acyclic request states. -/
def acyQueued : Nat := 0
def acyGranted : Nat := 1
def acyWaiting : Nat := 2

/-- A link controller writes MGS for the MC; the closed snapshot buffer answers with a bus error (R186; log entry 178). -/
def recordPut (s : State) (a : Nat) (l : List Byte) : State :=
  if snapClosed s a l.length then busErrOf s 0x40 0 a true else s.setBytes a l

/-- A request leaves the queue and completes (R272, R274): a record takes RESULT, RSP_LEN, data, STATUS and DONE; a
host command its completion. -/
def acyComplete (s : State) (l k status result : Nat) (data : List Byte) : State :=
  match (s.lnk l).acyq[k]? with
  | none => s
  | some a =>
    let s1 := s.setLnk l { s.lnk l with acyq := (s.lnk l).acyq.eraseIdx k }
    let n := min data.length a.rspMax
    let st := if status = St.ok ∧ a.rspMax < data.length then St.part else status
    let s2 :=
      match a.owner with
      | .record r =>
        let t := if n = 0 then s1 else recordPut s1 a.rspAddr (data.take n)
        recordPut (recordPut (recordPut (recordPut t (r + 0x14) (leBytes 1 st)) (r + 0x16) (leBytes 2 result)) (r + 0x18) (leBytes 2 n))
          (r + 0x1C) (leBytes 4 1)
      | .host c =>
        if n = 0 then hostComplete s1 c { status := st, result := result % 65536 }
        else if winOk s1 a.part true a.rspAddr n then
          hostComplete (s1.post (.write a.rspAddr (data.take n))) c { status := st, result := result % 65536 + n * 65536 }
        else hostComplete (s1.countReg R.HIF_WF_CNT) c { status := St.windowFault }
    let s3 := s2.countReg (R.SFL_ACY_DONE l)
    match a.owner with
    | .record _ => sflEvent s3 l 2
    | .host _ => s3

/-- Every request of the link that `p` names completes with LINK_DOWN, from the last to the first. -/
def acyFail (s : State) (l : Nat) (p : Acy → Bool) : Nat → State
  | 0 => s
  | k + 1 =>
    let s1 := match (s.lnk l).acyq[k]? with
      | some a => if p a then acyComplete s l k St.linkDown 0 [] else s
      | none => s
    acyFail s1 l p k

/-- A station changes state with a cause (R269): counters, the acyclic requests of one that leaves RUN, the event. -/
def stnTo (s : State) (l st state cause : Nat) : State :=
  let y := s.stn l st
  let s1 := s.setStn l st { y with
    state := state, cause := cause, step := if state = 2 then y.step else 0, idWait := false, dWait := false,
    fell := y.fell || decide ((state = 4 ∨ state = 5) ∧ y.state ≠ state) }
  let s2 := s1.setLnk l { s1.lnk l with changed := true }
  let s3 := if state = 4 ∧ y.state ≠ 4 then s2.countReg (R.SFL_LOSS_CNT l) else s2
  let s4 := if state = 3 ∧ y.state ≠ 3 then s3.countReg (R.SFL_READMIT_CNT l) else s3
  let s5 := if y.state = 3 ∧ state ≠ 3 then acyFail s4 l (fun a => decide (a.station = st)) (s4.lnk l).acyq.length else s4
  let s6 := if y.state = state then s5 else sflEvent s5 l 1
  if state = 4 ∧ y.state ≠ 4 then postEvents s6 3 [l, st, cause] (s6.thePlan.stationOwners l st) else s6

/-- Starts or stops a station's retry timer (R267). -/
def setRetry (s : State) (l st : Nat) (on : Bool) : State := s.setStn l st { s.stn l st with retry := on }

/-- The station passes to LOST or FAULT and its retry timer starts (R263, R267). -/
def stnOut (s : State) (l st state cause : Nat) : State :=
  let s1 := stnTo s l st state cause
  s1.setStn l st { s1.stn l st with retry := true, pollWait := false, seen := false, acks := [] }

/-- HOLD is sent to a station address and counted (R266). -/
def sendHold (s : State) (l st : Nat) : State := (sendFrame s l st 8 2 [] none).countReg (R.SFL_HOLD_CNT l)

/-- The codes SFLn_AMP and SFLn_PRE take effect at the pair when the link enters TRAIN (R347, R558). A link that sends before its first
TRAIN sends with the codes of that moment (log entry 217). -/
def lineDrive (s : State) (l state : Nat) : Option (Int × Int) :=
  let old := (s.lnk l).drive
  if state = 1 ∨ (old = none ∧ state ≠ 0) then some (eff s (0x30 + l), eff s (0x48 + l)) else old

/-- The link enters another state: EVC source and LINK_STATE events (R281, R296). -/
def linkTo (s : State) (l state : Nat) : State :=
  let s0 := s.setLnk l { s.lnk l with drive := lineDrive s l state }
  let s1 := sflEvent (s0.setFld (F.SFL_STATUS_STATE l) state) l 0
  postEvents s1 5 [l, state, s1.fld (F.SFL_STATUS_DOWN_CAUSE l)] (linkOwners s1 l)

/-- Ends a test's registers and tells the host command that asked for it (R276, R299). -/
def endTest (s : State) (l : Nat) : State :=
  if s.linkState l ≠ 5 then s
  else
    let x := s.lnk l
    let s1 := (s.setFld (F.SFL_PAT_STATUS_ACTIVE l) 0).setFld (F.SFL_PAT_STATUS_SYNC l) 0
    let s2 := sflEvent (s1.setLnk l { x with testBy := none }) l 3
    match x.testBy with
    | some c => hostComplete s2 c { result := (s2.reg (R.SFL_PAT_ERR l)).toNat }
    | none => s2

/-- The link enters DOWN with a cause (R260, R261). -/
def linkDown (s : State) (l cause : Nat) : State :=
  if s.linkState l = 0 then s
  else
    let s0 := endTest s l
    let s1 := linkTo (s0.setFld (F.SFL_STATUS_DOWN_CAUSE l) cause) l 0
    let s2 := s1.setLnk l { s1.lnk l with waited := false, due := [] }
    let s3 := eachNat (fun t st =>
      let y := t.stn l st
      if y.state = 1 then t.setStn l st { y with fell := true }
      else setRetry (stnTo t l st 4 4) l st false) s2 (s2.stnList l)
    acyFail s3 l (fun _ => true) (s3.lnk l).acyq.length

/-- The device's receiver declares loss of signal; `lasted`: for 1 ms, and the link goes DOWN (R217, R260). -/
def signalLost (s : State) (l : Nat) (lasted : Bool) : State :=
  let s1 := (s.setFld (F.SFL_STATUS_LOS l) 1).setFld (F.SFL_STATUS_SYNC l) 0
  let k := s.linkState l
  if lasted = false ∨ k = 0 ∨ k = 5 then s1 else linkDown s1 l 2

/-- XTAL good in the sense of R260: XTAL_GOOD and the lock of PLL_LK (R434). -/
def xtalGood (s : State) : Bool := s.flag F.CKG_STATUS_XTAL_GOOD && s.flag F.CKG_STATUS_LK_LOCK

def State.fpg (s : State) (g : Nat) : Fpg := SMap.get (fun _ => {}) s.fpgs g
def State.setFpg (s : State) (g : Nat) (x : Fpg) : State := { s with fpgs := SMap.set (fun _ => {}) s.fpgs g x }

/-- The link's field power group has been ON for FPC_SETTLE, or it has none (R260, R280). -/
def powerReady (s : State) (l : Nat) : Bool :=
  let g := (s.thePlan.link l).fpg
  decide (5 < g) || (s.fpg g).settled

/-- The link listens (R489). -/
def State.listens (s : State) (l : Nat) : Bool :=
  s.standby && decide (s.linkState l = 0) && (s.thePlan.link l).en && (s.thePlan.link l).redundant && s.flag (F.SFL_CTRL_EN l)

/-- The conditions of the first row of R260 besides the wait. -/
def mayTrain (s : State) (l : Nat) : Bool :=
  s.flag (F.SFL_CTRL_EN l) && (s.thePlan.link l).en && powerReady s l && xtalGood s && !s.blockHeld (8 + l) && !s.standby

/-- A DOWN link whose conditions hold enters TRAIN (R260). -/
def tryTrain (s : State) (l : Nat) : State :=
  if s.linkState l = 0 ∧ mayTrain s l = true ∧ (s.lnk l).waited = true then linkTo s l 1 else s

/-- The link leaves TEST (R260): TRAIN where the conditions hold, else DOWN with cause 6. -/
def leaveTest (s : State) (l : Nat) : State :=
  if s.linkState l ≠ 5 then s
  else if mayTrain s l && (s.lnk l).waited then linkTo (endTest s l) l 1
  else linkDown s l 6

/-! ### Admission (R263 to R269) -/

/-- The IDENT_REQ, DELAY_REQ and RELEASE payloads (R245). -/
def admPayload (sub l : Nat) : List Byte := [BitVec.ofNat 8 sub, BitVec.ofNat 8 l, 0, 0]

/-- The ADMIT payload (R246). -/
def admitPayload (l : Nat) (k : LinkCfg) (c : StnCfg) (delay uid : Nat) : List Byte :=
  [3, BitVec.ofNat 8 l] ++ leBytes 2 (if k.redundant then 1 else 0) ++ leBytes 4 delay ++ leBytes 4 k.timeout ++
    leBytes 8 uid ++ (c.safe.map (leBytes 4)).flatten

/-- The UID of the station admitted: its record's, or with UID_ANY the one of its IDENT_RSP; a station carried over by a
takeover has sent this device none, and its UID is a free value. -/
def admitUid (s : State) (l st : Nat) (c : StnCfg) : Nat × State :=
  if c.uidAny then
    match (s.stn l st).uid with
    | some u => (u, s)
    | none =>
      let (v, s1) := s.draw
      (v, s1.setStn l st { s1.stn l st with uid := some v })
  else (c.uid, s)

/-- Step 5: ADMIT is sent. -/
def sendAdmit (s : State) (l st : Nat) : State :=
  match s.thePlan.station l st with
  | some c =>
    let (u, s1) := admitUid s l st c
    sendFrame s1 l st 5 2 (admitPayload l (s1.thePlan.link l) c (s1.stn l st).delay u) none
  | none => s

/-- A free span of the link: in RUN from the input cutoff to the OUT deadline and from the link's OUT frames on, subject to R66, else
from dispatch start on; at any time where no cycle runs; none while debug halts the periphery (R537), and none in DOWN and TEST
(R259). -/
def freeSpan (s : State) (l : Nat) : Bool :=
  !s.dbgHalted && decide (s.linkState l ≠ 0 ∧ s.linkState l ≠ 5) && (!s.cyc.inCycle ||
    (if s.linkState l = 4 then s.cyc.cutoff && (!s.cyc.deadline || has s.dpr.outBegun l)
     else s.dpr.open' || s.cyc.cutoff || s.cyc.deadline))

/-- The position of the entry that a station's ACR answers. -/
def acyAt (s : State) (l : Nat) (p : Acy → Bool) : Option Nat := (s.lnk l).acyq.findIdx? p

/-- An ACY without an answer goes out again with the same SEQ, where its entry is still GRANTED (R272). -/
def acyAgain (s : State) (l st seq : Nat) : State :=
  match acyAt s l (fun a => decide (a.station = st ∧ a.state = acyGranted ∧ a.seq = seq)) with
  | none => s
  | some k =>
    match (s.lnk l).acyq[k]? with
    | none => s
    | some a =>
      let s1 := sendFrame s l st 3 1 a.payload (some a.seq)
      s1.setLnk l { s1.lnk l with acyq := (s1.lnk l).acyq.set k { a with sent := a.sent + 1 } }

/-- A frame that was due goes out, where it still applies: HOLD to no station that is sought or admitted (R266), ADMIT to one in step
5 or in RUN, an ACY again. -/
def sendDue (l : Nat) (s : State) : DueFrame → State
  | .hold st => if (s.stn l st).state = 1 ∨ (s.stn l st).state = 2 then s else sendHold s l st
  | .admission st => if ((s.stn l st).state = 2 ∧ (s.stn l st).step = 5) ∨ s.stnRun l st = true then sendAdmit s l st else s
  | .again st seq => acyAgain s l st seq

/-- A frame waits for a free span. -/
def putDue (s : State) (l : Nat) (x : DueFrame) : State :=
  if (s.lnk l).due.contains x then s else s.setLnk l { s.lnk l with due := (s.lnk l).due ++ [x] }

/-- A frame goes out in the first free span. -/
def askFrame (s : State) (l : Nat) (x : DueFrame) : State := if freeSpan s l then sendDue l s x else putDue s l x

/-- The frames that waited for a free span. -/
def pumpDue (s : State) (l : Nat) : State := (s.lnk l).due.foldl (sendDue l) (s.setLnk l { s.lnk l with due := [] })

/-- Admission of a station begins (R263, step 1): its IDENT_REQ is due. -/
def soughtStn (s : State) (l st : Nat) : State :=
  let s1 := stnTo s l st 2 0
  s1.setStn l st { s1.stn l st with
    step := 1, retry := false, answered := false, identOk := false, exGood := 0, exTried := 0, exBest := 0, idWait := true }

/-- An IDENT_REQ that is due goes out in a free span: in ENUM at most 8 in a cycle (R263). -/
def identStn (l : Nat) (s : State) (st : Nat) : State :=
  let x := s.lnk l
  if (s.stn l st).idWait && freeSpan s l && (decide (x.idCyc < 8 ∨ s.linkState l ≠ 2) || !s.cyc.inCycle) then
    let s1 := s.setLnk l { x with idCyc := x.idCyc + 1 }
    sendFrame (s1.setStn l st { s1.stn l st with idWait := false }) l st 5 2 (admPayload 1 l) none
  else s

/-- The IDENT_REQ frames that a link has due, in ascending address. -/
def pumpIdent (s : State) (l : Nat) : State := eachNat (identStn l) s (s.stnList l)

/-- Admission of a station in RUN of the link begins. -/
def beginAdmission (s : State) (l st : Nat) : State := identStn l (soughtStn s l st) st

/-- A delay exchange may take place (R235, R259, R263, R537): debug does not halt the link, it is not in DOWN or TEST, the input window has closed, no acyclic request is outstanding on the link, no OUT
frame is due, and the station has had fewer than 4 in the cycle. DEDUCED: outstanding are the requests whose frame has been sent, the
GRANTED ones (log entry 207). -/
def exchangeMay (s : State) (l st : Nat) : Bool :=
  !s.dbgHalted && decide (s.linkState l ≠ 0 ∧ s.linkState l ≠ 5) && (!s.cyc.inCycle || (s.cyc.cutoff && decide ((s.stn l st).exCyc < 4) && (!s.cyc.deadline || has s.dpr.outBegun l))) &&
    (s.lnk l).acyq.all (fun a => decide (a.state ≠ acyGranted))

/-- A delay exchange that is due takes place. -/
def exchangeStn (l : Nat) (s : State) (st : Nat) : State :=
  let y := s.stn l st
  if y.dWait && exchangeMay s l st then
    sendFrame (s.setStn l st { y with dWait := false, exCyc := y.exCyc + 1 }) l st 5 2 (admPayload 2 l) none
  else s

/-- The delay exchanges that a link has due. -/
def pumpDelay (s : State) (l : Nat) : State := eachNat (exchangeStn l) s (s.stnList l)

/-- What waits for a free span of the link: due frames, then IDENT_REQ frames and delay exchanges. -/
def pumpLink (s : State) (l : Nat) : State := if freeSpan s l then pumpDelay (pumpIdent (pumpDue s l) l) l else s

/-- A delay exchange is unanswered on the link: no acyclic request may be outstanding meanwhile (R235). -/
def exchanging (s : State) (l : Nat) : Bool :=
  (s.stnList l).any (fun st =>
    let y := s.stn l st
    !y.dWait && decide ((y.state = 2 ∧ y.step = 3) ∨ (y.state = 3 ∧ y.step = 10)))

/-- A delay exchange is due. -/
def askDelay (s : State) (l st : Nat) : State := exchangeStn l (s.setStn l st { s.stn l st with dWait := true }) st

/-- A delay exchange of step 3 (R263). -/
def delayReq (s : State) (l st : Nat) : State := askDelay (s.setStn l st { s.stn l st with step := 3 }) l st

/-- In RUN one station is admitted at a time (R263): the next one that waits begins. -/
def nextAdmission (s : State) (l : Nat) : State :=
  if s.linkState l ≠ 4 then s
  else if (s.stnList l).any (fun st => decide ((s.stn l st).state = 2 ∧ (s.stn l st).step ≠ 0 ∧ (s.stn l st).step ≠ 6)) then s
  else
    match (s.stnList l).find? (fun st => decide ((s.stn l st).state = 2 ∧ (s.stn l st).step = 0)) with
    | some st => beginAdmission s l st
    | none => s

/-- ADMIT ends once every station that answered has been admitted or refused (R260). -/
def admitCheck (s : State) (l : Nat) : State :=
  if s.linkState l = 3 ∧ (s.stnList l).all (fun st =>
      decide ((s.stn l st).state ≠ 2 ∨ (s.stn l st).step = 6 ∨ (s.stn l st).step = 0)) = true then
    nextAdmission (linkTo s l 4) l
  else nextAdmission s l

/-- The procedure ends with LOST or FAULT; a refused station is sent HOLD (R263). -/
def admissionFail (s : State) (l st state cause : Nat) : State :=
  let s1 := stnOut s l st state cause
  admitCheck (if state = 6 then askFrame s1 l (.hold st) else s1) l

/-- Step 2: identity (R263). -/
def identityOk (c : StnCfg) (uid stype inMask outMask fwd conv : Nat) : Bool :=
  (c.uidAny || decide (uid = c.uid)) && decide (stype = c.stype) && decide (inMask = c.inMask) &&
    decide (outMask = c.outMask) && decide (fwd ≤ 400) && decide (conv ≤ c.convMax)

/-- Input endpoints of a station record. -/
def StnCfg.nIn (c : StnCfg) : Nat := (bitsBelow c.inMask 64).length
def StnCfg.nOut (c : StnCfg) : Nat := (bitsBelow c.outMask 64).length

/-- T_OUT of a link in ns (R257). -/
def tOut (c : LinkCfg) : Nat :=
  (c.stns.map (fun y => if y.nOut = 0 then 0 else 40 * (4 * y.nOut + 20))).sum

/-- D_LINE of a link in ns (R257). -/
def dLine (s : State) (l : Nat) : Nat :=
  (s.stnList l).foldl (fun m st => if s.stnRun l st then max m (s.stn l st).delay else m) 0

/-- Rule 4 of R51 for a link whose D_LINE is `d`. -/
def ruleFourAt (c : LinkCfg) (apply outLast d : Nat) : Bool :=
  decide (outLast + (tOut c + 999) / 1000 + (d + 999) / 1000 + 2 ≤ apply)

/-- Step 4 and step 5 after the eighth exchange (R235, R263). -/
def delayDone (s : State) (l st : Nat) : State :=
  let y := s.stn l st
  let d := (y.exBest + 1) / 2
  let s1 := s.setStn l st { y with delay := d }
  let k := s1.thePlan.link l
  if ruleFourAt k (s1.fld F.CYC_APPLY_OFS_US) (s1.fld F.CYC_OUT_LAST_US) (max d (dLine s1 l)) then
    let s2 := s1.setStn l st { s1.stn l st with step := 5 }
    askFrame s2 l (.admission st)
  else admissionFail s1 l st 6 7

/-- A miss of a station in RUN; the third consecutive one makes it LOST (R264). -/
def stnMiss (s : State) (l st cause : Nat) : State :=
  let y := s.stn l st
  let s1 := s.setStn l st { y with miss := y.miss + 1 }
  if y.miss + 1 < 3 then s1 else stnOut s1 l st 4 cause

/-! ### Slots of a station (R190, R191, R268) -/

/-- The LINK condition at an SOC (R190): input slots BAD, STALE, LINK; output slots BAD, LINK. -/
def markLink (s : State) (l st : Nat) (bad : Bool) : State :=
  let put (stale : Bool) (t : State) (n : Nat) : State :=
    let x := t.slot n
    let st1 := putBits x.status stLink true
    t.setSlot n { x with status := if bad then putBits (putQ st1 2) stStale (stale || decide (st1.testBit 2)) else st1 }
  eachNat (put false) (eachNat (put true) s (s.thePlan.stationSlots l st 1)) (s.thePlan.stationSlots l st 2)

/-- The station serves again: LINK of its output slots clears (R191); input slots clear with a good IN frame. -/
def clearLink (s : State) (l st : Nat) : State :=
  eachNat (fun t n => t.setSlot n { t.slot n with status := putBits (t.slot n).status stLink false }) s
    (s.thePlan.stationSlots l st 2)

/-- A released dependency at the cutoff, or at dispatch start: GOOD becomes UNCERTAIN, STALE (R190, R265). -/
def markStale (s : State) (l st : Nat) : State :=
  eachNat (fun t n =>
    let x := t.slot n
    let q := if x.status % 4 = 0 then 1 else x.status % 4
    t.setSlot n { x with status := putBits (putQ x.status q) stStale true }) s (s.thePlan.stationSlots l st 1)

/-- Gated output endpoints read the safe value with SAFE and HELD (R268). -/
def gateSlots (s : State) (l st : Nat) : State :=
  eachNat (fun t n => if t.gated n then slotSafe t n else t) s (s.thePlan.stationSlots l st 2)

/-- A gate's last condition is met before the OUT deadline: a slot whose group committed in the cycle takes its value,
unless the link's OUT frames have begun (R65, R268). -/
def releaseGate (s : State) (l st : Nat) : State :=
  if s.cyc.deadline || has s.dpr.outBegun l then s
  else
    eachNat (fun t n =>
      let g := (t.thePlan.groups.filter (fun e => e.2.slots.contains n)).map Prod.fst
      if !t.gated n && g.any (fun k => has t.dpr.resolved k &&
          decide ((SMap.get (fun _ => ({} : GroupRes)) t.dpr.groups k).res = 1)) then
        slotCommit t n (newValue t n) else t) s (s.thePlan.stationSlots l st 2)

/-- Writes the input slots of a station from a good IN frame (R237, R190). -/
def writeInputs (s : State) (l st : Nat) (c : StnCfg) (f : Frame) : State :=
  eachNat (fun t n =>
    let k := 4 + 6 * (bitsBelow c.inMask (daEndpoint (t.thePlan.bind n).daddr)).length
    let t1 := t.setSlot n
      { value := word (f.payLe k 4), status := f.pay (k + 4) * 256 + f.pay (k + 5) % 4, fresh := some t.cyc.socCount }
    { t1 with cyc := { t1.cyc with inRefreshed := addTo t1.cyc.inRefreshed n } }) s (s.thePlan.stationSlots l st 1)

/-- R67: a station reports NO_OUT and a slot of it belongs to a multi-link group that committed in the cycle before. -/
def commitSplits (s : State) (l st : Nat) : State :=
  let prev := (cycle16 s + 65535) % 65536
  let gs := s.thePlan.groups.filter (fun e =>
    decide (1 < (groupLinks s.thePlan e.1).length) &&
    e.2.slots.any (fun n => decide (daLink (s.thePlan.bind n).daddr = l ∧ daStation (s.thePlan.bind n).daddr = st)) &&
    decide (groupRes s e.1 = ⟨1, prev⟩ ∨ groupWas s e.1 = ⟨1, prev⟩))
  eachNat (fun t g =>
    let t1 := cycEvent (t.countReg R.CYC_SPLIT_CNT) 4
    postEvent t1 (t1.thePlan.group g).owner 2 [g % 256, g / 256, l, st]) s (gs.map Prod.fst)

/-! ### Inbound frames -/

/-- Cycles that have begun since the one that a frame names. -/
def frameAge (s : State) (f : Frame) : Nat := (cycle16 s + 65536 - f.cycle.toNat) % 65536

/-- The frame has come after the input cutoff of its own cycle (R55). -/
def frameLate (s : State) (f : Frame) : Bool :=
  (decide (frameAge s f = 0) && s.cyc.cutoff) || decide (0 < frameAge s f ∧ frameAge s f < 32768)

/-- A station in RUN delivers an IN frame that R233 accepts: late, discarded, or checked good (R53, R55); a good one may report
NO_OUT (R67). -/
def inAccepted (s : State) (l : Nat) (f : Frame) (c : StnCfg) : State :=
  let st := f.src.toNat
  let y := s.stn l st
  let sA := if frameAge s f = 0 then s.setStn l st { y with inAny := true } else s
  if frameLate s f then sA.countReg (R.SFL_LATE_FRAME l)
  else if frameAge s f ≠ 0 ∨ f.flags.toNat.testBit 2 = true ∨ f.payload.length ≠ 4 + 6 * c.nIn ∨ y.inAny = true then
    sA.countReg (R.SFL_RX_DISCARD l)
  else
    let s0 := if f.flags.toNat.testBit 0 then commitSplits sA l st else sA
    let s1 := (writeInputs s0 l st c f).countReg (R.SFL_RX_GOOD l)
    let s2 := s1.setStn l st { s1.stn l st with miss := 0, inNow := true, seen := true }
    frameTrigger (if y.seen then s2 else releaseGate s2 l st) l st

/-- A frame is a report for a listening link: it stands the framing of R217, its check and R226, and carries NO_SOC_A with the cycle's
number (R489). -/
def isReport (s : State) (l : Nat) (f : Frame) : Bool :=
  !f.fault && !f.tooLong && f.check == f.checkOf l f.src.toNat && inboundType f.type.toNat &&
    typeChannel f.type.toNat == some f.channel.toNat && f.flags.toNat.testBit 1 && decide (f.cycle.toNat = cycle16 s)

/-- IN_FRAME (R233, R237). A listening standby's link takes notice of reports, and discards every other frame (R489). -/
def inFrame (s : State) (l : Nat) (f : Frame) : State :=
  let x := s.lnk l
  if s.listens l then (if isReport s l f then s.setLnk l { x with repSeen := true } else countBad s l (badRes s l f))
  else if s.linkState l = 0 ∨ s.linkState l = 5 then countBad s l (badRes s l f)
  else
    match frameRes s l f with
    | .ok =>
      (match s.thePlan.station l f.src.toNat with
       | some c => if f.type = 2 ∧ s.linkState l = 4 ∧ s.stnRun l f.src.toNat = true then inAccepted s l f c else countBad s l .discard
       | none => countBad s l .discard)
    | r => countBad s l r

/-- ANNOUNCE (R266). -/
def announce (s : State) (l : Nat) (f : Frame) : State :=
  let st := f.src.toNat
  if s.linkState l = 0 ∨ s.linkState l = 5 then countBad s l (badRes s l f)
  else
    match frameRes s l f with
    | .ok =>
      if !f.isAnnounce || f.payload.length ≠ 12 then countBad s l .discard
      else
        match (s.stn l st).state with
        | 3 => askFrame (stnOut s l st 4 3) l (.hold st)
        | 4 => askFrame (stnTo s l st 5 (s.stn l st).cause) l (.hold st)
        | 6 => askFrame s l (.hold st)
        | 5 => askFrame s l (.hold st)
        | 0 => askFrame s l (.hold st)
        | _ => s
    | r => countBad s l r

/-- The answers of an admission procedure: accepted under R233 from a station of the stated state and step. -/
def answerOk (s : State) (l : Nat) (f : Frame) (sub len step : Nat) : FrameRes :=
  match frameRes s l f with
  | .ok =>
    if f.type = 5 ∧ f.pay 0 = sub ∧ f.payload.length = len ∧ (s.stn l f.src.toNat).state = 2 ∧
        (s.stn l f.src.toNat).step = step ∧ (s.stn l f.src.toNat).idWait = false ∧ (s.stn l f.src.toNat).dWait = false ∧
        (s.lnk l).due.contains (.admission f.src.toNat) = false ∧ s.linkState l ≠ 0 ∧ s.linkState l ≠ 5 then .ok
    else .discard
  | r => r

/-- The answers that a station in RUN sends after a takeover (R497). -/
def takenOk (s : State) (l : Nat) (f : Frame) (sub len step : Nat) : Bool :=
  decide (frameRes s l f = .ok ∧ f.type = 5 ∧ f.pay 0 = sub ∧ f.payload.length = len ∧ s.linkState l = 4 ∧
    s.stnRun l f.src.toNat = true ∧ (s.stn l f.src.toNat).step = step ∧ (s.stn l f.src.toNat).dWait = false)

/-- IDENT_RSP (R263, steps 1 and 2). In ENUM the outcome waits for the ADMIT state. -/
def identRsp (s : State) (l : Nat) (f : Frame) : State :=
  let st := f.src.toNat
  match answerOk s l f 0x81 40 1, s.thePlan.station l st with
  | .ok, some c =>
    if f.payLe 4 2 ≠ 0x0100 then (if s.linkState l = 2 then s else admissionFail s l st 4 6)
    else
      let good := identityOk c (f.payLe 8 8) (f.payLe 16 4) (f.payLe 20 8) (f.payLe 28 8) (f.payLe 36 2) (f.payLe 38 2)
      let s1 := s.setStn l st { s.stn l st with
        answered := true, identOk := good, uid := some (f.payLe 8 8), newEpoch := f.epoch.toNat, fwd := f.payLe 36 2,
        step := if s.linkState l = 2 then 2 else 1 }
      if s.linkState l = 2 then s1
      else if good then delayReq s1 l st
      else admissionFail s1 l st 6 5
  | .ok, none => countBad s l .discard
  | r, _ => countBad s l r

/-- A delay exchange of a station in RUN after a takeover; after the eighth a further ADMIT corrects a DELAY that is more
than 100 ns away (R497). -/
def takenDelay (s : State) (l st v : Nat) : State :=
  let y := s.stn l st
  let best := if y.exGood = 0 then v else min y.exBest v
  let s1 := s.setStn l st { y with exGood := y.exGood + 1, exTried := y.exTried + 1, exBest := best }
  if y.exGood + 1 = 8 then
    (let d := (best + 1) / 2
     let far := decide (y.delay + 100 < d ∨ d + 100 < y.delay)
     let s2 := s1.setStn l st { s1.stn l st with delay := d, step := if far then 11 else 0 }
     if far then askFrame s2 l (.admission st) else s2)
  else if y.exTried + 1 = 16 then stnOut s1 l st 4 6
  else askDelay s1 l st

/-- DELAY_RSP with the measured RT in ns (R235). -/
def delayRsp (s : State) (l : Nat) (f : Frame) (rt : Nat) : State :=
  let st := f.src.toNat
  if takenOk s l f 0x82 8 10 then takenDelay s l st (rt - f.payLe 4 4) else
  match answerOk s l f 0x82 8 3 with
  | .ok =>
    let y := s.stn l st
    let v := rt - f.payLe 4 4
    let s1 := s.setStn l st { y with
      exGood := y.exGood + 1, exTried := y.exTried + 1, exBest := if y.exGood = 0 then v else min y.exBest v }
    if y.exGood + 1 = 8 then delayDone s1 l st
    else if y.exTried + 1 = 16 then admissionFail s1 l st 4 6
    else delayReq s1 l st
  | r => countBad s l r

/-- ADMIT_ACK (R263, steps 5 and 6): the station enters RUN at the next SOC. A station in RUN may answer the new ADMIT
of R258. -/
def admitAck (s : State) (l : Nat) (f : Frame) : State :=
  let st := f.src.toNat
  if takenOk s l f 0x83 12 8 then s.setStn l st { s.stn l st with step := 9 }
  else if takenOk s l f 0x83 12 11 then s.setStn l st { s.stn l st with step := 0 }
  else
  match answerOk s l f 0x83 12 5, s.thePlan.station l st with
  | .ok, some c =>
    if f.payLe 4 8 = (if c.uidAny then (s.stn l st).uid.getD 0 else c.uid) then
      let y := s.stn l st
      admitCheck (s.setStn l st { y with step := 6, seq0 := 0, seq1 := 0, seq2 := 0 }) l
    else s
  | .ok, none => countBad s l .discard
  | r, _ =>
    if decide (frameRes s l f = .ok ∧ f.type = 5 ∧ f.pay 0 = 0x83 ∧ f.payload.length = 12 ∧ s.linkState l = 4) && s.stnRun l st then s
    else countBad s l r

/-- The stations of step 6 enter RUN at the SOC (R263, R268): the gate closes, READMIT events. -/
def stnEnterRun (s : State) (l st : Nat) : State :=
  match s.thePlan.station l st with
  | none => s
  | some c =>
    let acks := (s.thePlan.stationSlots l st 2).foldl (fun a n =>
      let o := (s.thePlan.bind n).owner
      if (s.thePlan.part o).hostAck then addTo a o else a) []
    let y := s.stn l st
    let s1 := stnTo (s.setStn l st { y with
      epoch := y.newEpoch, miss := 0, seen := decide (c.nIn = 0), acks := acks, inNow := false,
      inAny := false, pollWait := false, pollCnt := 0 }) l st 3 0
    let s2 := gateSlots (clearLink s1 l st) l st
    eachNat (fun t p => postEvent t p 4 [l, st, if has acks p then 1 else 0]) s2 (s2.thePlan.stationOwners l st)

/-- A partition acknowledges a readmitted station (R268). -/
def stnAck (s : State) (l st p : Nat) : State :=
  let y := s.stn l st
  if y.state = 3 ∧ has y.acks p = true then
    releaseGate (s.setStn l st { y with acks := dropFrom y.acks p }) l st
  else s

/-! ### Acyclic requests (R270 to R274) -/

/-- Why a request is not accepted (R270); 0: accepted. -/
def acyRefuse (s : State) (l st part len : Nat) : Nat :=
  if 64 ≤ (s.lnk l).acyq.length then St.noSpace
  else if !s.stnRun l st then St.linkDown
  else if part ≠ 0 ∧ ¬ (has (s.thePlan.stationOwners l st) part = true ∧
      ((s.thePlan.stationSlots l st 1 ++ s.thePlan.stationSlots l st 2).any (fun n => decide ((s.thePlan.bind n).owner = part))) = true) then
    St.notOwner
  else if len < 6 ∨ 1024 < len then St.badDescriptor
  else St.ok

/-- Puts a request into the queue. -/
def acyPut (s : State) (l : Nat) (a : Acy) : State :=
  s.setLnk l { s.lnk l with acyq := (s.lnk l).acyq ++ [a] }

/-- Grants entry `k`: its ACY is sent with a new SEQ, or with its own again (R271, R272, R228). -/
def acyGrant (s : State) (l k : Nat) : State :=
  match (s.lnk l).acyq[k]? with
  | none => s
  | some a =>
    let first := decide (a.sent = 0)
    let n := if first then (s.stn l a.station).seq1 else a.seq
    let s1 := sendFrame s l a.station 3 1 a.payload (if first then none else some n)
    s1.setLnk l { s1.lnk l with
      acyq := (s1.lnk l).acyq.set k { a with state := acyGranted, seq := n, sent := 1, due := false } }

/-- Indices of the entries that may be granted now: none to a station with an entry GRANTED. -/
def acyFree (q : List Acy) (p : Acy → Bool) : List Nat :=
  (List.range q.length).filter (fun k =>
    match q[k]? with
    | some a => p a && q.all (fun b => decide (b.station ≠ a.station ∨ b.state ≠ acyGranted))
    | none => false)

/-- The partition, from `ptr` on in round-robin order, with an entry that may be granted. -/
def acyNextPart (q : List Acy) (ptr : Nat) : Nat → Option Nat
  | 0 => none
  | k + 1 =>
    match (acyFree q (fun a => decide (a.state = acyQueued ∧ a.part = ptr % 64))).head? with
    | some i => some i
    | none => acyNextPart q (ptr + 1) k

/-- One grant of the arbiter (R271): due WAITING entries oldest first, then QUEUED ones by partition. -/
def acyOne (s : State) (l : Nat) : Option State :=
  let q := (s.lnk l).acyq
  match (acyFree q (fun a => decide (a.state = acyWaiting) && a.due)).head? with
  | some k => some (acyGrant s l k)
  | none =>
    match acyNextPart q (s.lnk l).acyPtr 64 with
    | some k =>
      let p := match q[k]? with | some a => a.part | none => 0
      let s1 := acyGrant s l k
      some (s1.setLnk l { s1.lnk l with acyPtr := (p + 1) % 64 })
    | none => none

def acyMany (s : State) (l : Nat) : Nat → State
  | 0 => s
  | n + 1 => match acyOne s l with | some s1 => acyMany s1 l n | none => s

/-- ACR (R272). -/
def acr (s : State) (l : Nat) (f : Frame) : State :=
  let st := f.src.toNat
  if s.linkState l = 0 ∨ s.linkState l = 5 then countBad s l (badRes s l f)
  else
    match frameRes s l f with
    | .ok =>
      if f.type ≠ 4 ∨ s.linkState l ≠ 4 ∨ s.stnRun l st = false ∨ f.payload.length < 4 then countBad s l .discard
      else
        match acyAt s l (fun a => decide (a.station = st ∧ a.state = acyGranted ∧ a.seq = f.seq.toNat)) with
        | none => countBad s l .discard
        | some k =>
          if f.payLe 2 2 = 1 then
            s.setLnk l { s.lnk l with acyq := (s.lnk l).acyq.modify k (fun a => { a with state := acyWaiting, due := false, sent := 1 }) }
          else acyComplete s l k St.ok (f.payLe 2 2) f.payload
    | r => countBad s l r

/-- No ACR within 5 ms of the ACY: re-sent in a free span at most twice, then TIMEOUT (R272); one that waits to be sent again times
nothing out. -/
def acrTimeout (s : State) (l st : Nat) : State :=
  match acyAt s l (fun a => decide (a.station = st ∧ a.state = acyGranted)) with
  | none => s
  | some k =>
    match (s.lnk l).acyq[k]? with
    | none => s
    | some a =>
      if (s.lnk l).due.contains (.again st a.seq) then s
      else if a.sent < 3 then askFrame s l (.again st a.seq)
      else acyComplete s l k St.timeout 0 []

/-- A cancel of the request at a position (R273): its own status, the request's end where QUEUED. -/
def acyCancelAt (s : State) (l : Nat) (k : Option Nat) : Nat × State :=
  match k with
  | none => (St.badDescriptor, s)
  | some i =>
    match (s.lnk l).acyq[i]? with
    | none => (St.badDescriptor, s)
    | some a =>
      if a.state = acyQueued then (St.cancelled, acyComplete s l i St.cancelled 0 []) else (St.tooLate, s)

/-- The request record of firmware at an MGS address (R270, R273, R274). DESIGN CHOICE: reserved bytes that are not 0 complete
BAD_DESCRIPTOR, before every other check (log entry 210). -/
def acySubmitRecord (s : State) (l r : Nat) : State :=
  let st := s.rd r 1
  let part := s.rd (r + 1) 1
  let len := s.rd (r + 0xC) 2
  let e := if s.rd (r + 2) 2 ≠ 0 then St.badDescriptor else acyRefuse s l st part len
  let a : Acy := {
    owner := .record r, part := part, station := st, tag := s.rd (r + 4) 4, state := acyQueued, seq := 0,
    sent := 0, due := false, payload := s.bytes (s.rd (r + 8) 4) len, rspMax := s.rd (r + 0xE) 2, rspAddr := s.rd (r + 0x10) 4 }
  if e = St.ok then acyPut s l a
  else
    let t := recordPut (recordPut (recordPut s (r + 0x14) (leBytes 1 e)) (r + 0x16) (leBytes 2 0)) (r + 0x18) (leBytes 2 0)
    sflEvent ((recordPut t (r + 0x1C) (leBytes 4 1)).countReg (R.SFL_ACY_DONE l)) l 2

/-- MGS holds the whole range, aligned as said. -/
def inMgs (a n al : Nat) : Bool := decide (0x10000000 ≤ a ∧ a + n ≤ 0x10200000 ∧ a % al = 0)

/-! ### Pattern tests (R275, R276) -/

/-- The first station on the line: the one of least line delay in RUN (R210, R275). -/
def firstStation (s : State) (l : Nat) : Option Nat :=
  (s.stnList l).foldl (fun b st =>
    if !s.stnRun l st then b
    else match b with
      | some k => if (s.stn l st).delay < (s.stn l k).delay then some st else b
      | none => some st) none

/-- A start is permitted (R260, R275): reserved PATTERN and LOOP values, and a CODED user pattern, are not. -/
def testAllowed (s : State) (l pattern coded loop st : Nat) : Bool :=
  decide (pattern < 7 ∧ loop < 3 ∧ ¬(coded = 1 ∧ pattern = 6)) && s.linkState l != 5 &&
    (if loop = 1 then
       s.service && decide (s.linkState l = 4) && s.stnRun l st && (decide (coded = 1) || firstStation s l == some st)
     else decide (s.linkState l = 0) || (s.service && decide (s.linkState l = 4)))

/-- A start with the settings of a write of `SFLn_PAT_CTRL` is permitted. -/
def startAllowed (s : State) (l : Nat) (v : Word) : Bool :=
  let n := v.toNat
  testAllowed s l (n / 4 % 8) (n / 32 % 2) (n / 64 % 4) (n / 256 % 32)

/-- Starts a test with the settings of `SFLn_PAT_CTRL`; `by'` is the host command that asked (R276). -/
def patStart (s : State) (l : Nat) (by' : Option Nat) : State :=
  let s0 := ((s.setReg (R.SFL_PAT_ERR l) 0).setReg (R.SFL_PAT_BITS l) 0)
  let loop := s.fld (F.SFL_PAT_CTRL_LOOP l)
  let st := s.fld (F.SFL_PAT_CTRL_STATION l)
  if testAllowed s l (s.fld (F.SFL_PAT_CTRL_PATTERN l)) (s.fld (F.SFL_PAT_CTRL_CODED l)) loop st then
    let s1 := if loop = 1 then sendFrame s0 l st 7 2 ([1, 0, 0, 0] ++ leBytes 4 (s.fld (F.SFL_PAT_CTRL_LOOP_MS l))) none else s0
    let s2 := (s1.setFld (F.SFL_PAT_STATUS_ACTIVE l) 1).setFld (F.SFL_PAT_STATUS_SYNC l) 0
    linkTo (s2.setLnk l { s2.lnk l with testLoop := loop, testStn := st, testBy := by', patRun := 0, patWin := [], patCnt := 0 }) l 5
  else
    let s1 := s.setFld (F.SFL_PAT_STATUS_REFUSED l) 1
    match by' with
    | some c => hostComplete s1 c { status := St.modeRefused }
    | none => s1

/-- STOP: in far-end mode TEST LOOP_OFF is sent first (R276). -/
def patStop (s : State) (l : Nat) : State :=
  if s.linkState l ≠ 5 then s
  else
    let s1 := if (s.lnk l).testLoop = 1 then
      sendFrame s l (s.lnk l).testStn 7 2 ([2, 0, 0, 0] ++ leBytes 4 (s.fld (F.SFL_PAT_CTRL_LOOP_MS l))) none else s
    leaveTest s1 l

/-- One bit of the checked stream, and whether it is as the pattern says (R276): 64 right ones synchronise the checker; from then on
every bit is compared, and 16 wrong ones among 256 lose synchronisation. -/
def patBit (l : Nat) (s : State) (right : Bool) : State :=
  let x := s.lnk l
  let ok := right || decide (x.testLoop = 0)
  if !s.flag (F.SFL_PAT_STATUS_SYNC l) then
    let k := if ok then x.patRun + 1 else 0
    let s1 := s.setLnk l { x with patRun := k, patWin := [] }
    if 64 ≤ k then s1.setFld (F.SFL_PAT_STATUS_SYNC l) 1 else s1
  else
    let w := ((!ok) :: x.patWin).take 256
    let s1 := s.setLnk l { x with patRun := 0, patWin := w, patCnt := x.patCnt + 1 }
    let s2 := if (x.patCnt + 1) % 1024 = 0 then s1.countReg (R.SFL_PAT_BITS l) else s1
    let s3 := if ok then s2 else s2.countReg (R.SFL_PAT_ERR l)
    if 16 ≤ (w.filter id).length then
      sflEvent ((s3.setFld (F.SFL_PAT_STATUS_SYNC l) 0).setFld (F.SFL_PAT_STATUS_SYNC_LOST l) 1) l 3
    else s3

/-- Bits of the checked stream of a test that runs. -/
def patBits (s : State) (l : Nat) (rx : List Bool) : State := if s.linkState l = 5 then rx.foldl (patBit l) s else s

/-! ### Field power (R278 to R280) -/

/-- FPC states (R278). -/
def fpcState (s : State) (g : Nat) : Nat := s.fld (F.FPC_STATUS_STATE g)

/-- Links whose LINKCFG names the group. -/
def fpgLinks (s : State) (g : Nat) : List Nat := (s.thePlan.links.filter (fun e => decide (e.2.fpg = g))).map Prod.fst

/-- Field power is at 0 V in OFF, WAIT and LOCKED (R278). -/
def gateOff (state : Nat) : Bool := decide (state = 0 ∨ 4 ≤ state)

/-- The stations of the links that a predicate names lose their supply (R250, R278). -/
def unitsOff (s : State) (p : Nat → Bool) : State :=
  { s with units := s.units.map (fun e =>
      if p (e.1 / 32) then (e.1, { state := .start, epoch := e.2.epoch, ident := e.2.ident }) else e) }

/-- The links of the groups whose gate is up. -/
def fedLink (s : State) (l : Nat) : Bool :=
  let g := (s.thePlan.link l).fpg
  decide (g < 6) && !gateOff (fpcState s g)

/-- The group changes state: with the gate at 0 V its stations have no supply (R250); one that leaves ON takes its links DOWN (R280). -/
def fpcTo (s : State) (g state : Nat) : State :=
  let was := fpcState s g
  let s0 := if gateOff state && !gateOff was then unitsOff s (fun l => decide ((s.thePlan.link l).fpg = g)) else s
  let s1 := s0.setFld (F.FPC_STATUS_STATE g) state
  if was = 2 ∧ state ≠ 2 then
    eachNat (fun t l => linkDown t l 5) (s1.setFpg g { s1.fpg g with settled := false }) (fpgLinks s1 g)
  else s1

/-- A fault (R279): FAULT and its kind, WAIT, or LOCKED with RETRIES = 3; EVC source 44 + g and the P0 event. -/
def fpcFault (s : State) (g : Nat) (fast : Bool) : State :=
  let s1 := fpcTo s g (if s.fld (F.FPC_STATUS_RETRIES g) = 3 then 5 else 4)
  let s2 := ((s1.setFld (F.FPC_STATUS_FAULT g) 1).setFld (F.FPC_STATUS_FAST g) (if fast then 1 else 0)).setFld
    (F.FPC_STATUS_TIMEOUT g) (if fast then 0 else 1)
  postEvent (evcIf s2 F.FPC_EVT_EN_EN 44 g) 0 0xB [g, fpcState s2 g]

/-- EN of a group is written (R279). -/
def fpcEn (s : State) (g : Nat) (en : Bool) : State :=
  let s1 := s.setFld (F.FPC_CTRL_EN g) (if en then 1 else 0)
  if en then (if fpcState s1 g = 0 then fpcTo s1 g 1 else s1)
  else
    let s2 := (fpcTo s1 g 0).setFld (F.FPC_STATUS_RETRIES g) 0
    s2.setFpg g {}

/-- CLR of a group is written (R279). -/
def fpcClr (s : State) (g : Nat) : State :=
  if fpcState s g = 5 ∧ s.flag (F.FPC_CTRL_EN g) = true then (fpcTo s g 1).setFld (F.FPC_STATUS_RETRIES g) 0 else s

/-! ### Reads of the SFL blocks (R281) -/

/-- Bit map of the stations in a state. -/
def stnMap (s : State) (l state : Nat) : Nat :=
  ((s.lnk l).stns.filter (fun e => decide (e.2.state = state))).foldl (fun m e => m ||| 2 ^ e.1) 0

/-- The fields of an SFL block that are views of the station table and the acyclic queue; `none`: a plain register. -/
def sflRead (s : State) (l ofs : Nat) : Option Word :=
  let y := s.stn l (s.fld (F.SFL_STSEL_STATION l))
  let q := (s.lnk l).acyq
  match ofs with
  | 0x004 => some (word ((s.reg (R.SFL_STATUS l)).toNat ||| ((s.lnk l).stns.filter (fun e => decide (e.2.state = 3))).length % 32 * 2 ^ 16))
  | 0x010 => some (word (stnMap s l 3))
  | 0x014 => some (word (stnMap s l 4))
  | 0x018 => some (word (stnMap s l 5))
  | 0x01C => some (word (stnMap s l 6))
  | 0x024 => some (word (y.miss % 4 * 2 ^ 16 + y.epoch % 256 * 256 + y.cause % 16 * 16 + y.state % 8))
  | 0x028 => some (word y.delay)
  | 0x030 => some (word (((s.lnk l).stns.filter (fun e => e.2.acks != [])).foldl (fun m e => m ||| 2 ^ e.1) 0))
  | 0x090 => some (word ((q.filter (fun a => decide (a.state ≠ acyQueued))).length * 256 + q.length))
  | _ => none

end Sys2Proof.Machine
end

