-- ==== Sys2Proof/Machine/LinkCmds.lean ====
section
/-! DEFINITION. The meanings of the device-side link rows, of the acyclic and pattern-test rows, and of the field power
rows (R233, R235, R260 to R280). -/

namespace Sys2Proof.Machine

/-! ### Inbound frames -/

/-- IN_FRAME (R233). -/
def execInFrame (l : Fin 24) (f : Frame) (s : State) : Outcome := .next (inFrame s l.val f)

/-- ANNOUNCE (R266). -/
def execAnnounce (l : Fin 24) (f : Frame) (s : State) : Outcome := .next (announce s l.val f)

/-- IDENT_RSP (R263). -/
def execIdentRsp (l : Fin 24) (f : Frame) (s : State) : Outcome := .next (identRsp s l.val f)

/-- DELAY_RSP (R235): `rt` is t4 − t1 in ns. -/
def execDelayRsp (l : Fin 24) (f : Frame) (rt : Word) (s : State) : Outcome := .next (delayRsp s l.val f rt.toNat)

/-- ADMIT_ACK (R263). -/
def execAdmitAck (l : Fin 24) (f : Frame) (s : State) : Outcome := .next (admitAck s l.val f)

/-- ACR (R272). -/
def execAcr (l : Fin 24) (f : Frame) (s : State) : Outcome := .next (acr s l.val f)

/-- DIAG_RESPONSE (R264): the poll of a station in RUN is answered; the miss count returns to 0. -/
def execDiagResponse (l : Fin 24) (f : Frame) (s : State) : Outcome :=
  let st := f.src.toNat
  let y := s.stn l.val st
  if s.linkState l.val = 0 ∨ s.linkState l.val = 5 then .next (countBad s l.val (badRes s l.val f)) else
  match frameRes s l.val f with
  | .ok =>
    if f.type = 6 ∧ f.payload.length = 20 ∧ y.state = 3 ∧ y.pollWait = true ∧ s.linkState l.val = 4 then
      .next (s.setStn l.val st { y with miss := 0, pollWait := false })
    else .next (countBad s l.val .discard)
  | r => .next (countBad s l.val r)

/-! ### Link states (R260) -/

/-- A new link epoch from ENT (R229); while ENT does not serve, the current one, or 1 + (TB mod 255) where ENT has delivered
none since reset (R410). -/
def newEpoch (s : State) (l : Nat) : State :=
  if s.fld F.ENT_STATUS_STATE = 1 then
    let (v, s1) := s.drbg
    (s1.setLnk l { s1.lnk l with entEpoch := true }).setFld (F.SFL_STATUS_EPOCH l) (1 + v % 255)
  else if (s.lnk l).entEpoch then s
  else s.setFld (F.SFL_STATUS_EPOCH l) (1 + s.tb % 255)

/-- TRAIN becomes ENUM with a new link epoch, where every station record is sought (R260, R261, R269). -/
def enumStart (s : State) (l : Nat) : State :=
  let s1 := newEpoch s l
  pumpIdent (eachNat (fun t st => soughtStn t l st) (linkTo s1 l 2) (s1.stnList l)) l

/-- TRAIN_SYNC (R217, R260): the receiver acquires character synchronisation; where it has kept it for 100 µs in TRAIN, ENUM begins. -/
def execTrainSync (l : LinkSync) (s : State) : Outcome :=
  let s0 := (s.setFld (F.SFL_STATUS_SYNC l.link.val) 1).setFld (F.SFL_STATUS_LOS l.link.val) 0
  if s.linkState l.link.val ≠ 1 ∨ l.held = false then .next s0 else .next (enumStart s0 l.link.val)

/-- TRAIN_TIMEOUT (R260): 10 ms in TRAIN; while debug halts the periphery the time stands still (R537). -/
def execTrainTimeout (l : Fin 24) (s : State) : Outcome :=
  if s.linkState l.val = 1 ∧ s.dbgHalted = false then .next (linkDown s l.val 3) else .next s

/-- What ENUM left of a station (R263): no answer, a wrong identity, or the delay measurement. -/
def enumResult (l : Nat) (s : State) (st : Nat) : State :=
  let y := s.stn l st
  if y.state ≠ 2 then s
  else if !y.answered then stnOut s l st 4 6
  else if !y.identOk then askFrame (stnOut s l st 6 5) l (.hold st)
  else delayReq s l st

/-- ENUM_END (R260): the link enters ADMIT, once no IDENT_REQ is still due. -/
def execEnumEnd (l : Fin 24) (s : State) : Outcome :=
  if s.linkState l.val ≠ 2 ∨ ((s.stnList l.val).any (fun st => (s.stn l.val st).idWait)) = true then .next s
  else .next (admitCheck (eachNat (enumResult l.val) (linkTo s l.val 3) (s.stnList l.val)) l.val)

/-- LINK_RETRY (R260, R537): SFL_RETRY_T has elapsed since the entry to DOWN; a link under test keeps that. -/
def execLinkRetry (l : Fin 24) (s : State) : Outcome :=
  if (s.linkState l.val = 0 ∨ s.linkState l.val = 5) ∧ s.dbgHalted = false then
    .next (tryTrain (s.setLnk l.val { s.lnk l.val with waited := true }) l.val)
  else .next s

/-- STATION_RETRY_EXPIRY (R267, R537): admission starts, or waits for the one that runs. -/
def execStationRetryExpiry (l : Fin 24) (st : Fin 32) (s : State) : Outcome :=
  let y := s.stn l.val st.val
  if y.retry = true ∧ (y.state = 4 ∨ y.state = 5 ∨ y.state = 6) ∧ s.dbgHalted = false then
    let s1 := stnTo (setRetry s l.val st.val false) l.val st.val 2 0
    .next (nextAdmission (s1.setStn l.val st.val { s1.stn l.val st.val with step := 0 }) l.val)
  else .next s

/-- The same for a station carried over by a takeover (R497): it passes to LOST, or its delay exchange is repeated. -/
def takenTimeout (s : State) (l st : Nat) : State :=
  let y := s.stn l st
  if (s.lnk l).due.contains (.admission st) then s
  else if y.step = 8 ∨ y.step = 11 then stnOut s l st 4 6
  else if y.step = 10 ∧ y.dWait = false then
    (let s1 := s.setStn l st { y with exTried := y.exTried + 1 }
     if 16 ≤ y.exTried + 1 then stnOut s1 l st 4 6 else askDelay s1 l st)
  else s

/-- ADMISSION_ANSWER_TIMEOUT (R263): the awaited answer of a step has not come in time. In ENUM the outcome waits for
ENUM_END, and a later answer is none. -/
def execAdmissionAnswerTimeout (l : Fin 24) (st : Fin 32) (s : State) : Outcome :=
  let y := s.stn l.val st.val
  if y.state = 3 then .next (takenTimeout s l.val st.val)
  else if y.state ≠ 2 ∨ y.idWait = true ∨ y.dWait = true ∨ (s.lnk l.val).due.contains (.admission st.val) = true then .next s
  else if s.linkState l.val = 2 then .next (if y.step = 1 then s.setStn l.val st.val { y with step := 2 } else s)
  else
    match y.step with
    | 1 => .next (admissionFail s l.val st.val 4 6)
    | 3 =>
      let s1 := s.setStn l.val st.val { y with exTried := y.exTried + 1 }
      if 16 ≤ y.exTried + 1 then .next (admissionFail s1 l.val st.val 4 6) else .next (delayReq s1 l.val st.val)
    | 5 => .next (admissionFail s l.val st.val 4 6)
    | _ => .next s

/-! ### Polls (R264) -/

/-- DIAG_POLL (R66, R259, R264): a station in RUN without inputs is polled, CYCLES cycles after its entry to RUN or its last poll, in a
free span of its link in RUN. -/
def execDiagPoll (l : Fin 24) (st : Fin 32) (s : State) : Outcome :=
  match s.thePlan.station l.val st.val with
  | some c =>
    let y := s.stn l.val st.val
    if s.linkState l.val = 4 ∧ freeSpan s l.val = true ∧ y.state = 3 ∧ c.nIn = 0 ∧ y.pollWait = false ∧ s.fld (F.SFL_DIAG_POLL_CYCLES l.val) ≤ y.pollCnt then
      let s1 := sendFrame s l.val st.val 6 2 [1, 0, 0, 0] none
      .next (s1.setStn l.val st.val { s1.stn l.val st.val with pollWait := true, pollCnt := 0 })
    else .next s
  | none => .next s

/-- DIAG_POLL_TIMEOUT (R264): 1 ms without an answer. -/
def execDiagPollTimeout (l : Fin 24) (st : Fin 32) (s : State) : Outcome :=
  let y := s.stn l.val st.val
  if y.state = 3 ∧ y.pollWait = true then
    .next (stnMiss (s.setStn l.val st.val { y with pollWait := false }) l.val st.val 2)
  else .next s

/-! ### Acyclic requests -/

/-- The ADMIT of a station carried over by a takeover, in the first free span (R497). -/
def takenAdmit (l : Nat) (s : State) (st : Nat) : State :=
  if s.stnRun l st ∧ (s.stn l st).step = 7 then
    sendAdmit (s.setStn l st { s.stn l st with step := 8 }) l st
  else s

/-- The delay of stations carried over is measured one at a time in free spans (R497). -/
def takenMeasure (s : State) (l : Nat) : State :=
  if (s.stnList l).any (fun st => s.stnRun l st && decide ((s.stn l st).step = 10 ∨ (s.stn l st).step = 11)) then s
  else
    match (s.stnList l).find? (fun st => s.stnRun l st && decide ((s.stn l st).step = 9)) with
    | some st =>
      askDelay (s.setStn l st { s.stn l st with step := 10, exGood := 0, exTried := 0, exBest := 0 }) l st
    | none => s

/-- ACYCLIC_SLOT (R271): in a free span of the link the frames of its admissions go first (R263), then the arbiter grants up to BURST
entries; none while a delay exchange is unanswered (R235). -/
def execAcyclicSlot (l : Fin 24) (s : State) : Outcome :=
  if s.linkState l.val ≠ 4 ∨ freeSpan s l.val = false then .next s
  else
    let s1 := takenMeasure (eachNat (takenAdmit l.val) (pumpLink s l.val) (s.stnList l.val)) l.val
    .next (if exchanging s1 l.val then s1 else acyMany s1 l.val (s1.fld (F.SFL_ACY_CFG_BURST l.val)))

/-- ACR_TIMEOUT (R272). -/
def execAcrTimeout (l : Fin 24) (st : Fin 32) (s : State) : Outcome := .next (acrTimeout s l.val st.val)

/-- ACY_REPEAT_DUE (R272): the WAITING entry at position `k` is due again. -/
def execAcyRepeatDue (l : Fin 24) (k : Fin 64) (s : State) : Outcome :=
  let x := s.lnk l.val
  .next (s.setLnk l.val { x with
    acyq := x.acyq.modify k.val (fun a => if a.state = acyWaiting then { a with due := true } else a) })

/-- ACY_REQUEST_TIMEOUT (R272): the time limit after the first grant of the entry at position `k`. -/
def execAcyRequestTimeout (l : Fin 24) (k : Fin 64) (s : State) : Outcome :=
  match (s.lnk l.val).acyq[k.val]? with
  | some a => if a.state = acyQueued then .next s else .next (acyComplete s l.val k.val St.timeout 0 [])
  | none => .next s

/-- SFLN_ACY_SUB (R274): firmware submits the request record at an MGS address. DESIGN CHOICE: an address that holds no aligned record in
MGS submits nothing (log entry 209). -/
def execSflnAcySub (l : Fin 24) (a : Word) (s : State) : Outcome :=
  atReg s (R.SFL_ACY_SUB l.val) a (if inMgs a.toNat 32 32 then acySubmitRecord s l.val a.toNat else s)

/-- The effect of a write of `SFLn_ACY_CANCEL` (R273): the result stands in `SFLn_ACY_CRES`. -/
def acyCancelTag (s : State) (l tag : Nat) : State :=
  let k := acyAt s l (fun a => (match a.owner with | .record _ => true | .host _ => false) && decide (a.tag = tag))
  let (st, s1) := acyCancelAt s l k
  (s1.setFld (F.SFL_ACY_CRES_STATUS l) st).setFld (F.SFL_ACY_CRES_VALID l) 1

/-- SFLN_ACY_CANCEL (R273). -/
def execSflnAcyCancel (l : Fin 24) (tag : Word) (s : State) : Outcome :=
  atReg s (R.SFL_ACY_CANCEL l.val) tag (acyCancelTag s l.val tag.toNat)

/-! ### Controls of an SFL block (R281) -/

/-- The effect of a write of `SFLn_CTRL.EN` (R260). -/
def sflEn (s : State) (l : Nat) (en : Bool) : State :=
  let s1 := s.setFld (F.SFL_CTRL_EN l) (if en then 1 else 0)
  if en then tryTrain s1 l else linkDown s1 l 1

/-- SFLN_CTRL_EN (R260). -/
def execSflnCtrlEn (l : Fin 24) (en : Bool) (s : State) : Outcome :=
  atReg s (R.SFL_CTRL l.val) (if en then 1 else 0) (sflEn s l.val en)

/-- The effect of RETRAIN (R260): DOWN is left without waiting for SFL_RETRY_T. -/
def retrain (s : State) (l : Nat) : State :=
  if s.linkState l = 0 then tryTrain (s.setLnk l { s.lnk l with waited := true }) l else s

/-- RETRAIN (R260). -/
def execRetrain (l : Fin 24) (s : State) : Outcome :=
  atReg s (R.SFL_CTRL l.val) (s.reg (R.SFL_CTRL l.val) ||| 2) (retrain s l.val)

/-- SFLN_RESUME (R268): firmware acknowledges a station for a partition. -/
def execSflnResume (l : Fin 24) (st : Fin 32) (p : Fin 64) (s : State) : Outcome :=
  atReg s (R.SFL_RESUME l.val) (word (2 ^ 31 + 256 * st.val + p.val)) (stnAck s l.val st.val p.val)

/-- The effect of `SFLn_CNT_CLR` (R281). -/
def sflCntClr (s : State) (l : Nat) : State :=
  s.resetRegs (fun a => within a (R.SFL_RX_GOOD l) 0x24)

/-- SFLN_CNT_CLR (R281). -/
def execSflnCntClr (l : Fin 24) (s : State) : Outcome :=
  atReg s (R.SFL_CNT_CLR l.val) 1 (sflCntClr s l.val)

/-! ### Pattern tests (R276) -/

/-- Puts the settings of a write into `SFLn_PAT_CTRL`, without START and STOP. LOOP_MS outside 1 to 60,000 is left. -/
def patSettings (s : State) (l : Nat) (v : Word) : State :=
  let ms := v.toNat / 65536
  let keep := if 1 ≤ ms ∧ ms ≤ 60000 then ms else s.fld (F.SFL_PAT_CTRL_LOOP_MS l)
  s.setReg (R.SFL_PAT_CTRL l) (word (keep * 65536) ||| (v &&& 0x1FFC))

/-- PAT_START (R276): a write of `SFLn_PAT_CTRL` with START, whose other fields are those of `v`. -/
def execPatStart (l : Fin 24) (v : Word) (s : State) : Outcome :=
  atReg s (R.SFL_PAT_CTRL l.val) (v ||| 1) (patStart (patSettings s l.val v) l.val none)

/-- PAT_STOP (R276). -/
def execPatStop (l : Fin 24) (s : State) : Outcome :=
  atReg s (R.SFL_PAT_CTRL l.val) (s.reg (R.SFL_PAT_CTRL l.val) ||| 2) (patStop s l.val)

/-- PAT_LOOP_END (R276): the checker takes its bits; the end of LOOP_MS ends a far-end test. -/
def execPatLoopEnd (l : PatEvent) (s : State) : Outcome :=
  let s1 := patBits s l.link.val l.rx
  if l.ended = true ∧ s1.linkState l.link.val = 5 ∧ (s1.lnk l.link.val).testLoop = 1 then .next (leaveTest s1 l.link.val) else .next s1

/-! ### Field power (R279, R280) -/

/-- FPC_CTRL_EN (R279). -/
def execFpcCtrlEn (g : Fin 6) (en : Bool) (s : State) : Outcome :=
  atReg s (R.FPC_CTRL g.val) ((s.reg (R.FPC_CTRL g.val) &&& 0xFFFFFFFE) ||| (if en then 1 else 0)) (fpcEn s g.val en)

/-- FPC_CLR (R279). -/
def execFpcClr (g : Fin 6) (s : State) : Outcome :=
  atReg s (R.FPC_CTRL g.val) (s.reg (R.FPC_CTRL g.val) ||| 2) (fpcClr s g.val)

/-- The shunt voltage as measured, under the group's OFS and GAIN, stands in `FPC_SENSEg` (R282, R350). -/
def sensed (s : State) (g : Shunt) : State :=
  let k := g.group.val
  s.setFld (F.FPC_SENSE_UV100 k)
    (BitVec.ofInt 16 (calibrated s (eff s (0x60 + 2 * k)) g.uv.toNat (0x61 + 2 * k))).toNat

/-- GATE_AT_VDDFP (R279): RAMP becomes ON. -/
def execGateAtVddfp (g : Shunt) (s : State) : Outcome :=
  let s1 := sensed s g
  if fpcState s1 g.group.val = 1 then .next (fpcTo s1 g.group.val 2) else .next s1

/-- SHUNT_LIMIT (R279): RAMP or ON becomes LIMIT. -/
def execShuntLimit (g : Shunt) (s : State) : Outcome :=
  let s1 := sensed s g
  if fpcState s1 g.group.val = 1 ∨ fpcState s1 g.group.val = 2 then .next (fpcTo s1 g.group.val 3) else .next s1

/-- LIMIT_RECOVERY (R279): RAMP, or ON where the gate stands at VDDFP. -/
def execLimitRecovery (g : LimitEnd) (s : State) : Outcome :=
  let s1 := sensed s g.toShunt
  if fpcState s1 g.group.val = 3 then .next (fpcTo s1 g.group.val (if g.gateUp then 2 else 1)) else .next s1

/-- LIMIT_TIMER (R279). -/
def execLimitTimer (g : Fin 6) (s : State) : Outcome :=
  if fpcState s g.val = 3 then .next (fpcFault s g.val false) else .next s

/-- FAST_TRIP (R279). -/
def execFastTrip (g : Shunt) (s : State) : Outcome :=
  let s1 := sensed s g
  let k := fpcState s1 g.group.val
  if k = 1 ∨ k = 2 ∨ k = 3 then .next (fpcFault s1 g.group.val true) else .next s1

/-- FPC_RETRY (R279): 1 s after the fault. -/
def execFpcRetry (g : Fin 6) (s : State) : Outcome :=
  if fpcState s g.val = 4 ∧ s.fld (F.FPC_STATUS_RETRIES g.val) ≤ 2 then
    .next ((fpcTo s g.val 1).setFld (F.FPC_STATUS_RETRIES g.val) (s.fld (F.FPC_STATUS_RETRIES g.val) + 1))
  else .next s

/-- ON_STABLE (R279): 1 s in ON without a fault. -/
def execOnStable (g : Fin 6) (s : State) : Outcome :=
  if fpcState s g.val = 2 then .next (s.setFld (F.FPC_STATUS_RETRIES g.val) 0) else .next s

/-- FPC_SETTLE (R280): the group's links may leave DOWN. -/
def execFpcSettle (g : Fin 6) (s : State) : Outcome :=
  if fpcState s g.val = 2 then
    let s1 := s.setFpg g.val { s.fpg g.val with settled := true }
    .next (eachNat tryTrain s1 (fpgLinks s1 g.val))
  else .next s

end Sys2Proof.Machine
end

