-- ==== Sys2Proof/Machine/PlanLoad.lean ====
section
/-! DEFINITION. The plan loader's placement, admission and copies (R58, R143, R186, R197 to R200, R206, R258, R359,
R442), and the rows that start and end a load. -/

namespace Sys2Proof.Machine

/-! ### Supply and caps (R58, R60, R167, R206) -/

/-- The values that admission depends on: the cap percentage and the compute window in µs. -/
structure Adm where
  pct : Nat
  w   : Nat
  deriving DecidableEq, Repr

/-- The timing set in force. -/
def State.adm (s : State) : Adm :=
  ⟨s.fld F.CYC_ADM_CAP_PCT, s.fld F.CYC_OUT_DEADLINE_US - s.fld F.CYC_IN_WINDOW_US⟩

/-- N_c as admission counts it: for a whole plan an unloaded cluster counts as it will stand after the load (R442). -/
def admN (s : State) (whole : Bool) (c : Nat) : Nat :=
  if whole then (if s.serves (csmBase c) then s.admittedOf c else 0) else admittedN s c

/-- Supply S_c in issue slots. -/
def supply (s : State) (a : Adm) (whole : Bool) (c : Nat) : Nat := admN s whole c * s.clusterMHz c * a.w

/-- Cap C_c. -/
def capOf (s : State) (a : Adm) (whole : Bool) (c : Nat) : Nat := a.pct * supply s a whole c / 100

/-- Reserved slice R_c. -/
def sliceOf (s : State) (a : Adm) (whole : Bool) (c : Nat) : Nat := 5 * supply s a whole c / 100

/-- The limit of the ESSENTIAL sum (R206). -/
def degLimit (s : State) (a : Adm) (whole : Bool) (c : Nat) : Nat := a.pct * (admN s whole c * 100 * a.w) / 100

/-- The blocks that `q` names. -/
def Plan.pick (p : Plan) (q : Block → Bool) : List Block := (p.blocks.filter (fun e => q e.2)).map Prod.snd

/-- Sum of cost bounds. -/
def costs (l : List Block) : Nat := (l.map (fun b => b.cost)).sum

def fgCost (p : Plan) (c : Nat) : Nat := costs (p.pick (fun b => !b.bg && decide (b.home = c)))
def bgCost (p : Plan) (c : Nat) : Nat := costs (p.pick (fun b => b.bg && decide (b.home = c)))
def essCost (p : Plan) (c : Nat) : Nat := costs (p.pick (fun b => b.ess && decide (b.home = c)))

/-- Partition budget shares (R58). -/
def budgetsOk (p : Plan) : Bool :=
  (List.range 64).all (fun k => decide (costs (p.pick (fun b => !b.bg && decide (b.part = k))) ≤ (p.part k).budget))

/-! ### NV areas (R359) -/

/-- The partition pool: base and bytes (R354). -/
def poolBase : Nat := 0x50042000
def poolSize : Nat := 122880

/-- Quota of a partition that is present. -/
def quotaOf (p : Plan) (k : Nat) : Nat := if (p.part k).present then (p.part k).quota else 0

/-- Bytes of an area. -/
def areaBytes (quota : Nat) : Nat := (quota + 255) / 256 * 256

/-- An area is an offset in the pool, its bytes and the quota. -/
abbrev Areas := SMap (Nat × Nat × Nat)

/-- The least offset at which `n` bytes fit between the areas. -/
def firstFit (l : Areas) (n : Nat) : Option Nat :=
  let ends := 0 :: l.map (fun e => e.2.1 + e.2.2.1)
  let fits := ends.filter (fun o => decide (o + n ≤ poolSize) && l.all (fun e => !overlap (o, n) (e.2.1, e.2.2.1)))
  fits.foldl (fun b o => match b with | none => some o | some k => some (min k o)) none

/-- Areas for the partitions of a list that have none yet. -/
def placeAreas (p : Plan) (l : Areas) : List Nat → Option Areas
  | [] => some l
  | k :: ks =>
    if quotaOf p k = 0 ∨ l.any (fun e => decide (e.1 = k)) = true then placeAreas p l ks
    else
      match firstFit l (areaBytes (quotaOf p k)) with
      | some o => placeAreas p (SMap.insert l k (o, areaBytes (quotaOf p k), quotaOf p k)) ks
      | none => none

/-- The areas that a plan has; `none`: they do not fit, or a quota changes to another non-zero value. -/
def areasFor (old : Areas) (p : Plan) : Option Areas :=
  if old.any (fun e => decide (quotaOf p e.1 ≠ 0 ∧ quotaOf p e.1 ≠ e.2.2.2)) then none
  else placeAreas p (old.filter (fun e => decide (quotaOf p e.1 ≠ 0))) (List.range 64)

/-! ### Admission: step 10 of R198 -/

/-- Step 10 for a plan as it would stand. -/
def admits (s : State) (a : Adm) (whole : Bool) (p : Plan) : Bool :=
  decide (retainTotal p ≤ 524288) && decide (p.extents.length ≤ 256) && decide (p.blocks.length ≤ 32768) &&
    (areasFor s.nvAreas p).isSome && budgetsOk p &&
    decide (((List.range 64).map (fun k => (p.part k).budget)).sum ≤ ((List.range 4).map (capOf s a whole)).sum) &&
    (List.range 4).all (fun c =>
      decide (fgCost p c ≤ capOf s a whole c) && decide (bgCost p c ≤ sliceOf s a whole c) &&
        decide ((p.pick (fun b => b.bg && decide (b.home = c))).length ≤ 512) &&
        decide (essCost p c ≤ degLimit s a whole c) &&
        (decide (p.pick (fun b => decide (b.home = c)) = []) || s.powered c))

/-- Caps of one cluster (R58, R167, R206): `CYC_ADM_CAPc` and OVER follow; SLICE_OVER, once set, stays until a plan that passes
admission is committed. -/
def capStep (s : State) (c : Nat) : State :=
  let a := s.adm
  let p := s.thePlan
  let s1 := s.setFld (F.CYC_ADM_CAPC_SLOTS c) (capOf s a false c)
  let s2 := if sliceOf s a false c < bgCost p c then s1.setRegBit R.DPR_STATUS (8 + c) true else s1
  s2.setRegBit R.DPR_DEG_STATUS c (decide (degLimit s a false c < essCost p c))

/-- The CYC recomputes C_c and R_c (R60, R167): OVER_CAP, once set, stays until a plan that passes admission is committed (log
entry 170). -/
def recomputeCaps (s : State) : State :=
  let s1 := eachNat capStep s (List.range 4)
  let above := (List.range 4).any (fun c => decide (capOf s1 s1.adm false c < fgCost s1.thePlan c))
  if above then healthTell (s1.setFld F.CYC_STATUS_OVER_CAP 1) else s1

/-- A plan that passed admission comes into force: OVER_CAP and SLICE_OVER end (R60, R167). -/
def admittedPlan (s : State) : State :=
  healthTell (recomputeCaps ((s.setFld F.CYC_STATUS_OVER_CAP 0).setFld F.DPR_STATUS_SLICE_OVER 0))

/-! ### Placement: step 9 of R198 (R199, R258) -/

/-- CSM ranges that a plan uses in cluster `c`. -/
def csmUsed (p : Plan) (c : Nat) : List (Nat × Nat) :=
  csmObjects p c ++ (p.inits.filter (fun e => decide (e.2.1 = c))).map (fun e => e.2.2)

/-- The block keeps the state block of the same index and partition in force, without CSMINIT data for it (R199). -/
def keepsState (m : Img) (force : Plan) (i : Nat) (b : Block) : Bool :=
  let o := force.block i
  force.hasBlock i && decide (o.part = b.part ∧ o.home = b.home ∧ o.sbase = b.sbase ∧ o.sbl = b.sbl) &&
    !((ofType (imgSects m) 5).any (fun t => decide (t.param = b.home) && overlap (initOfs m t, initLen t) (b.sbase, b.sbl)))

/-- CSM ranges that an image writes anew in cluster `c`. -/
def csmNew (m : Img) (force p : Plan) (c : Nat) : List (Nat × Nat) :=
  csmUsed { p with blocks := p.blocks.map (fun e => (e.1, if keepsState m force e.1 e.2 then { e.2 with sbl := 0 } else e.2)) } c ++
    ((ofType (imgSects m) 5).filter (fun t => decide (t.param = c))).map (fun t => (initOfs m t, initLen t))

/-- Each new range lies outside every used one. -/
def apart (l used : List (Nat × Nat)) : Bool := l.all (fun a => used.all (fun b => !overlap a b))

/-- Programs that share LIM space agree (R199). -/
def progsFit (new used : List Prog) : Bool :=
  new.all (fun q => used.contains q || used.all (fun x => !overlap (q.start, q.len) (x.start, x.len)))

/-- The station record of the same address. -/
def stnIn (k : LinkCfg) (a : Nat) : Option StnCfg := k.stns.find? (fun c => decide (c.addr = a))

/-- A link record changes only as R258 permits while links run; `new` is the new plan. -/
def linkHot (new : Plan) (l : Nat) (a b : LinkCfg) : Bool :=
  a.redundant == b.redundant && decide (a.fpg = b.fpg) &&
    b.stns.all (fun y => match stnIn a y.addr with
      | some x => decide ({ x with safe := y.safe } = y)
      | none => true) &&
    a.stns.all (fun x => (stnIn b x.addr).isSome ||
      decide (new.stationSlots l x.addr 1 = [] ∧ new.stationSlots l x.addr 2 = []))

/-- Cluster `c` holds nothing of the plan in force that the image could meet: none is in force, its domain is off, or
it is unloaded (R199, R442). -/
def clusterFree (s : State) (c : Nat) : Bool := s.plan.isNone || !s.powered c || has s.unloaded c

/-- The image is hot (R199). -/
def imageHot (s : State) (m : Img) : Bool :=
  let p := imgPlan m
  let f := s.thePlan
  let whole := !imgSegment m
  (List.range 4).all (fun c => clusterFree s c ||
      (apart (csmNew m f p c) (csmUsed f c) && progsFit (p.set c).progs (liveProgs f c) &&
        (!whole || decide ((p.set c).kernel = (f.set c).kernel ∧ (p.set c).ldm = (f.set c).ldm)))) &&
    (!whole || s.plan.isNone || (List.range 24).all (fun l => linkHot p l (f.link l) (p.link l)))

/-- The image meets no space of another shadow. -/
def clearOfShadows (s : State) (m : Img) : Bool :=
  let p := imgPlan m
  s.shadows.all (fun x => (List.range 4).all (fun c =>
    apart (csmNew m s.thePlan p c) (csmUsed x.plan c) && progsFit (p.set c).progs (x.plan.set c).progs))

/-- A segment names no unloaded cluster (R442). -/
def segLoaded (s : State) (p : Plan) : Bool :=
  s.unloaded.all (fun c => decide (p.pick (fun b => decide (b.home = c)) = [] ∧ (p.set c).progs = []))

/-! ### The checks of a load -/

/-- The plan in force with every shadow. -/
def withShadows (s : State) : Plan :=
  s.shadows.foldl (fun p x => if x.whole then x.plan else mergeSeg p x.plan x.seg) s.thePlan

/-- The first five cases of R197, besides a load in progress, and the issuer's right (R299). -/
def checkBusy (s : State) (ld : Loading) (m : Img) : Chk :=
  let seg := imgSegment m
  firstErr [
    need (ld.part == 0 || (seg && decide (imgSegPart m = ld.part))) St.notOwner 0 0x17,
    need (!s.shadows.any (fun x => x.whole) && (seg || decide (s.shadows = [])) && decide (s.shadows.length < 8) &&
      !(seg && s.shadows.any (fun x => decide (x.seg = imgSegPart m)))) St.busy 0 0x16]

/-- Clusters whose directory a shadow carries. -/
def shadowDirs (s : State) : List Nat := (s.shadows.map (fun x => x.plan.dirs.map Prod.fst)).flatten

/-- Every check of R198 in its order. -/
def checkImage (s : State) (ld : Loading) (m : Img) (size : Nat) : Chk :=
  let seg := imgSegment m
  let base := withShadows s
  let merged := if seg then mergeSeg base (imgPlan m) (imgSegPart m) else imgPlan m
  let old := standingProgs base (imgPlan m) (imgSegPart m)
  let hot := imageHot s m
  firstErr [
    checkBusy s ld m,
    checkHeader m size,
    checkBase s m,
    checkSections m (shadowDirs s),
    checkPrograms m seg (imgSects m) old,
    if seg then checkOwners m base else none,
    checkContents m s.thePlan merged,
    need (hot || s.service || !s.cycEn) St.modeRefused 0 0,
    need (clearOfShadows s m) St.noSpace 0 0,
    need ((!seg || segLoaded s (imgPlan m)) && admits s s.adm (!seg) merged) St.noSpace 0 0]

/-! ### The copy into the device (R185, R200) -/

/-- The bytes of a new state block: CSMINIT data, and a free value where none is given (R185). -/
def stateBytes (s : State) (m : Img) (b : Block) : List Byte :=
  (List.range b.sbl).map (fun k =>
    (initByte m (imgSects m) b.home (b.sbase + k)).getD
      (BitVec.ofNat 8 (Config.freeValue (s.draws + b.home * 2 ^ 20 + b.sbase + k))))

/-- What a program set section puts into the sixteen engines of its cluster; `used` stays as it is. -/
def progWrites (m : Img) (used : List Prog) (ldm : Bool) (t : Sect) : List (Nat × List Byte) :=
  let ps := (progList m t).filter (fun q => !used.contains q)
  ((clusterEngines t.param).map (fun n =>
    ps.map (fun q => (limBase n + q.start, progBytes m t q)) ++
      (if ldm then [(ldmBase n, imgBytes m (limOfs m t + limLen m t) (ldmLen m t))] else []))).flatten

/-- Every write of a load, memories of clusters that are off left out. -/
def imageWrites (s : State) (m : Img) (hot : Bool) : List (Nat × List Byte) :=
  let ss := imgSects m
  let p := imgPlan m
  let f := s.thePlan
  let keep (c : Nat) : Bool := hot && !clusterFree s c
  let on (t : Sect) : Bool := s.powered t.param
  ((ofType ss 2).filter on |>.map (fun t =>
      progWrites m (if keep t.param then liveProgs f t.param else []) (!keep t.param && decide (ldmLen m t ≠ 0)) t)).flatten ++
    (p.blocks.filter (fun e => s.powered e.2.home && !(s.plan.isSome && keepsState m f e.1 e.2))).map (fun e =>
      (csmBase e.2.home + e.2.sbase, stateBytes s m e.2)) ++
    ((ofType ss 5).filter on).map (fun t => (csmBase t.param + initOfs m t, imgBytes m (t.ofs + 4) (initLen t))) ++
    ((ofType ss 3).filter on).map (fun t =>
      (csmBase t.param + imgLe m t.ofs 4, imgBytes m (t.ofs + 8) (32 * imgLe m (t.ofs + 6) 2))) ++
    ((ofType ss 4).filter on).map (fun t => (csmBase t.param + imgLe m t.ofs 4, imgBytes m (t.ofs + 4) 3072))

/-- The byte lies in the LIM, LDM or CSM of a cluster. -/
def clusterByte (c a : Nat) : Bool := within a (csmBase c) 0x100000 || within a (limBase (16 * c)) 0x100000

/-- Performs writes in order; none reaches a cluster that is off (R441). -/
def writeAll (s : State) : List (Nat × List Byte) → State
  | [] => s
  | w :: l =>
    if (List.range 4).any (fun c => !s.powered c && clusterByte c w.1) then writeAll s l
    else writeAll ((s.store w.1 w.2).define w.1 w.2.length) l

/-- The EVC source and the registers of an ended load, commit or refusal (R208). -/
def planResult (s : State) (status : Nat) : State :=
  (s.setFld F.DPR_PLAN_STATUS_RESULT status).setFld F.DPR_PLAN_STATUS_DONE 1

/-- A load ends in failure. -/
def loadFails (s : State) (path : Path) (e : LoadErr) : State :=
  let s1 := planResult s e.status
  let s2 := (s1.setFld F.DPR_PLAN_STATUS_SECT e.sect).setReg R.DPR_PLAN_ERR (word e.ofs)
  tellPath (evcEvent s2 42) path { status := e.status, result := e.ofs, detail := e.sect }

/-- A load ends in success: the shadow is READY (R198). -/
def loadPasses (s : State) (ld : Loading) (m : Img) : State :=
  let hot := imageHot s m
  let w := imageWrites s m hot
  let sh : Shadow := {
    whole := !imgSegment m, seg := imgSegPart m, plan := imgPlan m, hot := hot, commit := none,
    writes := if hot then [] else w, left := (List.range 4).filter (fun c => !s.powered c) }
  let s1 := { (if hot then writeAll s w else s) with shadows := s.shadows ++ [sh], draws := s.draws + 2 ^ 23 }
  tellPath (evcEvent (planResult s1 St.ok) 42) ld.path {}

/-- Evaluations of an earlier plan that have not reported: late ones, and those whose block a commit has replaced or removed
(R200, R203). -/
def oldEvals (s : State) : Bool :=
  (List.range 64).any (fun n => match (s.le n).k.ev with
    | some v => v.late || decide (v.gen ≠ s.gen v.blk) || !s.thePlan.hasBlock v.blk
    | none => false)

/-- Engines in RESET of a cluster that takes part are released to kernel initialisation. -/
def releaseEngines (s : State) : State :=
  eachNat (fun t n =>
    if (t.le n).k.state = .reset ∧ t.clusterIn (n / 16) = true ∧ t.plan.isSome = true then startKernel t n else t)
    s (List.range 64)

/-- Some engine holds an evaluation. -/
def evaluating (s : State) : Bool := (List.range 64).any (fun n => (s.le n).k.ev.isSome)

/-- The LIM writes of a cold commit take place once every evaluation has reported or has been abandoned (R200); the scrub then
goes on from the first program of its engine (R327), and the engines in RESET begin their kernels. -/
def limFlush (s : State) : State :=
  if s.dpr.limQueue = [] ∨ evaluating s = true then s
  else
    releaseEngines (writeAll { s with
      dpr := { s.dpr with limQueue := [] }
      mse := { s.mse with prog := 0, ofs := 0, crc := 0xFFFFFFFF } } s.dpr.limQueue)

/-- A write of a load goes to an LIM. -/
def limWrite (w : Nat × List Byte) : Bool := within w.1 0x38000000 0x400000 && decide (w.1 % 0x10000 < 0x8000)

/-- The LIM writes of a commit. -/
def limCommit (s : State) (l : List (Nat × List Byte)) : State :=
  if l = [] then releaseEngines s else limFlush { s with dpr := { s.dpr with limQueue := s.dpr.limQueue ++ l } }

/-- The image writes LIM space freed by a commit while evaluations of the earlier plan run (R200). -/
def limWaits (s : State) (m : Img) : Bool :=
  oldEvals s && (imgSects m |> fun ss => (ofType ss 2).any (fun t => (progList m t).any (fun q =>
    s.dpr.limFreed.any (fun x => decide (x.1 = t.param) && overlap (q.start, q.len) x.2))))

/-- The end of a load of image `m`, of which the source holds `size` bytes. -/
def endLoad (s : State) (ld : Loading) (m : Img) (size : Nat) : State :=
  let s1 := { s with loading := none }
  match checkImage s1 ld m size with
  | some e => loadFails s1 ld.path e
  | none => if limWaits s m then s else loadPasses s1 ld m

/-! ### Starting a load -/

/-- A load is requested (R197): BUSY while one is in progress. -/
def startLoad (s : State) (ld : Loading) : State :=
  if s.loading.isSome then loadFails s ld.path ⟨St.busy, 0, 0⟩ else { s with loading := some ld }

/-- Bytes that the source of a register load holds from an address on, in MGS, the octal SPI window or the host window
of P0 (R208, R290). -/
def srcSize (s : State) (a : Nat) : Nat :=
  if within a 0x10000000 0x200000 then 0x10200000 - a
  else if within a 0x60000000 0x4000000 then 0x64000000 - a
  else if within a 0x70000000 0x10000000 then winSize s 0 (a / 0x1000000 % 16) - a % 0x1000000
  else 0

/-- Bytes of host data, 0 beyond them. -/
def dataImg (l : List Byte) : Img := fun k => l.getD k 0

/-- The image of a register load: device memory, or what the host window delivers. A released flash and a word of MGS that cannot be
corrected meet a bus error of the loader, initiator 0x40 (R197, R395, R507). -/
def regLoad (s : State) (ld : Loading) (d : HostData) : State :=
  let a := ld.src
  if a % 4 ≠ 0 ∨ ¬(within a 0x10000000 0x200000 = true ∨ within a 0x60000000 0x4000000 = true ∨ within a 0x70000000 0x10000000 = true) then
    loadFails { s with loading := none } ld.path ⟨St.badDescriptor, 0, 0⟩
  else if within a 0x70000000 0x10000000 then
    let w := a / 0x1000000 % 16
    if winHolds s 0 false (winBase s 0 w + a % 0x1000000) 64 w = false then
      loadFails (busErrOf { s with loading := none } 0x40 0 a false) ld.path ⟨St.busError, 0, 0⟩
    else
    match d with
    | .bytes l => endLoad s ld (dataImg l) (srcSize s a)
    | .error => loadFails (busErrOf { s with loading := none } 0x40 0 a false) ld.path ⟨St.busError, 0, 0⟩
  else if within a 0x60000000 0x4000000 && s.flag F.SPM_BOOT_STAT_RELEASED then
    loadFails (busErrOf { s with loading := none } 0x40 0 a false) ld.path ⟨St.busError, 0, 0⟩
  else
    let m : Img := fun k => s.byte (a + k)
    match mgsBad s a (min (srcSize s a) (imgLen m)) with
    | some e => loadFails (mgsUe (busErrOf { s with loading := none } 0x40 0 e false) e) ld.path ⟨St.busError, 0, 0⟩
    | none => endLoad s ld m (srcSize s a)

/-- The image of a host command: `ADDR` and `LEN` of the descriptor, under the issuer's windows (R288, R299). -/
def hostLoad (s : State) (ld : Loading) (d : HostData) : State :=
  let s1 := { s with loading := none }
  if winOk s ld.part false ld.src ld.len = false then
    loadFails (s1.countReg R.HIF_WF_CNT) ld.path ⟨St.windowFault, 0, 0⟩
  else
    match d with
    | .error => loadFails s1 ld.path ⟨St.busError, 0, 0⟩
    | .bytes l =>
      if imgLen (dataImg l) = ld.len then endLoad s ld (dataImg l) ld.len
      else loadFails s1 ld.path ⟨St.badDescriptor, 0, 0x10⟩

/-- PLAN_LOAD_END (R198): the loader has read the image; `d` is what host memory delivered, where it lies there. -/
def execPlanLoadEnd (d : HostData) (s : State) : Outcome :=
  match s.loading with
  | none => .next s
  | some ld =>
    match ld.path with
    | .regs => .next (regLoad s ld d)
    | .host _ => .next (hostLoad s ld d)

/-- DPR_PLAN_LOAD (R197, R198): firmware starts a load from `DPR_PLAN_SRC`. -/
def execDprPlanLoad (s : State) : Outcome :=
  atReg s R.DPR_PLAN_CTRL 0x80000001
    (startLoad (s.setFld F.DPR_PLAN_CTRL_OP 1) ⟨(s.reg R.DPR_PLAN_SRC).toNat, 0, 0, .regs⟩)

/-- `DPR_PLAN_STATUS` as it reads (R208): STATE, WHOLE, NSEG and UNLOADED follow the shadow store. -/
def planStatus (s : State) : Word :=
  let st := if s.loading.isSome then 1
    else if s.shadows.any (fun x => x.commit.isSome) then 3
    else if s.shadows = [] then 0 else 2
  let whole := s.shadows.any (fun x => x.whole)
  word (st * 2 ^ 30 + (if whole then 2 ^ 29 else 2 ^ 24 * s.shadows.length) +
    (s.unloaded.map (fun c => 2 ^ (10 + c))).sum) ||| (s.reg R.DPR_PLAN_STATUS &&& 0x10FF03FF)

end Sys2Proof.Machine
end

