-- ==== Sys2Proof/Machine/PlanCommit.lean ====
section
/-! DEFINITION. Bringing plans into force: COMMIT, ABORT, the application of shadows at a boundary (R201 to R205, R258,
R359, R442), and their rows. -/

namespace Sys2Proof.Machine

/-! ### What a commit changes -/

/-- The slots in the first cycle of a plan (R194): kept where the binding entry is unchanged from a plan in force and no
SIGINIT entry names it; SIGINIT contents of age 0 at the SOC; else no value. -/
def initSlots (s : State) (p : Plan) : State :=
  let kept : SMap Slot :=
    if s.plan.isNone then []
    else s.slots.filter (fun e => decide (s.thePlan.bind e.1 = p.bind e.1))
  p.siginit.foldl (fun t i =>
    if (p.bind i.slot).kind = 0 then
      t.setSlot i.slot ⟨word i.value, i.status, some (s.cyc.socCount + 1)⟩
    else t) { s with slots := kept }

/-- The modes of partitions at a commit (R204): one that becomes present enters in TRACK and, with RESTART_RUN, waits for
its automatic move (R73). -/
def enterModes (s : State) (old new : Plan) : State :=
  eachNat (fun t k =>
    let was := (old.part k).present
    let is := (new.part k).present
    if is && !was then
      let t1 := t.setTrack k true
      { t1 with cyc := { t1.cyc with autoRun := putIn t1.cyc.autoRun k (new.part k).restart } }
    else if was && !is then { t with cyc := { t.cyc with autoRun := dropFrom t.cyc.autoRun k } }
    else t) s (List.range 64)

/-- Parts of host requests that name a block which a commit removes or replaces are stale (R300). -/
def staleParts (s : State) (out : Nat → Bool) : State :=
  { s with hif := { s.hif with reqs := s.hif.reqs.map (fun r =>
      if r.kind = .write ∨ r.kind = .read then
        { r with parts := r.parts.map (fun q => if out q.blk && decide (q.fail = 0) then { q with fail := St.stale } else q) }
      else r) } }

/-- Generations of the indices that an image brings (R203): the descriptor's GEN, or the current one plus 1, which is
written into the new descriptor; an index that leaves the plan keeps its generation (R161). Readiness, wind-up and quarantine of
replaced blocks restart, and a replaced background block has not been served (R165, R168, R203; log entry 171). -/
def newGens (s : State) (old : Plan) (fresh gone : List Nat) (p : Plan) : State :=
  let s1 := eachNat (fun t i =>
    let b := p.block i
    if old.hasBlock i then
      let t1 := t.setGen i (t.gen i + 1)
      if t1.powered b.home then t1.setByte (b.addr + 0x12) (BitVec.ofNat 8 (t1.gen i)) else t1
    else t.setGen i b.gen) s fresh
  let out (i : Nat) : Bool := has fresh i || has gone i
  staleParts { s1 with dpr := { s1.dpr with
      runs := s1.dpr.runs.filter (fun e => !out e.1)
      windup := s1.dpr.windup.filter (fun e => !out e.1)
      promoted := s1.dpr.promoted.filter (fun i => !out i)
      served := s1.dpr.served.filter (fun i => !out i)
      quarantine := s1.dpr.quarantine.filter (fun i => !out i)
      quarRel := s1.dpr.quarRel.filter (fun i => !out i)
      genChanged := s1.dpr.genChanged.filter (fun i => !out i) } } out

/-- NV areas at a commit (R359): freed ones are written with 0. -/
def newAreas (s : State) (p : Plan) : State :=
  match areasFor s.nvAreas p with
  | none => s
  | some l =>
    let gone := s.nvAreas.filter (fun e => !l.any (fun x => decide (x.1 = e.1)))
    let s1 := { s with nvAreas := l }
    gone.foldl (fun t e => t.wipe (fun a => within a (poolBase + e.2.1) e.2.2.1)) s1

/-- What the retain snapshot packs (R186). -/
def packing (p : Plan) : List (Nat × Nat) × List Nat :=
  ((p.blocks.filter (fun e => decide (e.2.retlen ≠ 0))).map (fun e => (e.1, e.2.retlen)),
   (p.binds.filter (fun e => e.2.ret)).map Prod.fst)

/-- The first snapshot copy after a commit that changes the packing copies every block (R187). DESIGN CHOICE: a copy in progress at that
commit is dropped (log entry 204). -/
def newPacking (s : State) (old new : Plan) : State :=
  if packing old = packing new then s
  else
    let s1 := (s.setFld F.DPR_SNAP_STATUS_VALID 0).setFld F.DPR_SNAP_STATUS_BUSY 0
    { s1 with dpr := { s1.dpr with snapAll := true, snapDone := false, snapLate := false } }

/-- LIM space that a commit frees: of the programs that no block names any more (R200). -/
def freeLim (s : State) (old new : Plan) : State :=
  let gone (c : Nat) : List (Nat × Nat × Nat) :=
    ((old.set c).progs.filter (fun q => !(liveProgs new c).contains q)).map (fun q => (c, q.start, q.len))
  let kept := if oldEvals s then s.dpr.limFreed else []
  { s with dpr := { s.dpr with limFreed := kept ++ ((List.range 4).map gone).flatten } }

/-! ### Links at a commit (R258) -/

/-- A station record leaves the link's table. -/
def dropStn (s : State) (l st : Nat) : State :=
  let s1 := if s.linkState l = 0 then s else sendFrame s l st 5 2 (admPayload 4 l) none
  let s2 := acyFail s1 l (fun a => decide (a.station = st)) (s1.lnk l).acyq.length
  s2.setStn l st {}

/-- A link whose record changes hot: stations leave and come, changed SAFE and TIMEOUT are sent in a new ADMIT. -/
def hotLink (s : State) (old new : Plan) (l : Nat) : State :=
  let a := old.link l
  let b := new.link l
  let s1 := eachNat (fun t st => if (stnIn b st).isNone then dropStn t l st else t) s (a.stns.map (fun c => c.addr))
  let s2 := eachNat (fun t st => if (stnIn a st).isNone then t.setStn l st { state := 1 } else t) s1 (b.stns.map (fun c => c.addr))
  eachNat (fun t st =>
    match stnIn a st, stnIn b st with
    | some x, some y =>
      if t.stnRun l st = true ∧ (x.safe ≠ y.safe ∨ a.timeout ≠ b.timeout) then
        (if t.cyc.inCycle then putDue t l (.admission st) else askFrame t l (.admission st))
      else t
    | _, _ => t) s2 (b.stns.map (fun c => c.addr))

/-- A link whose record changes cold: it goes DOWN, and every station of the new record starts in IDLE. -/
def coldLink (s : State) (new : Plan) (l : Nat) : State :=
  let s1 := linkDown s l 1
  let s2 := s1.setLnk l { s1.lnk l with stns := [] }
  eachNat (fun t st => t.setStn l st { state := 1 }) s2 ((new.link l).stns.map (fun c => c.addr))

/-- One link at a commit; the plan in force is already the new one. -/
def commitLink (s : State) (old new : Plan) (l : Nat) : State :=
  let a := old.link l
  let b := new.link l
  let s1 := if linkHot new l a b then hotLink s old new l else coldLink s new l
  if b.en && (!a.en || !linkHot new l a b) then tryTrain (s1.setLnk l { s1.lnk l with waited := true }) l
  else if a.en && !b.en then linkDown s1 l 1
  else s1

/-! ### Engines at a commit (R89, R202, R442) -/

/-- Every engine of a cluster that is not RETIRED passes through RESET. -/
def resetCluster (s : State) (c : Nat) : State :=
  eachNat (fun t n => if (t.le n).k.state = .retired ∨ (t.le n).k.state = .off then t else resetLe t n .reset) s
    (clusterEngines c)

/-- Clusters whose kernel a whole plan changes (R202), or that it loads again (R442). -/
def changedKernels (s : State) (old new : Plan) : List Nat :=
  (List.range 4).filter (fun c => s.powered c && (has s.unloaded c || decide ((old.set c).kernel ≠ (new.set c).kernel)))

/-- The CSM bytes that a whole plan does not initialise hold undefined values, those of a state block that it keeps apart (R185,
R199). -/
def forget (s : State) (p : Plan) : State :=
  let free (c : Nat) : List (Nat × Nat) :=
    if s.powered c then (csmUsed p c).foldl (fun l r => cutRange l (csmBase c + r.1) r.2) [(csmBase c, 0xFC000)] else []
  { s with
    dpr := { s.dpr with undef := ((List.range 4).map free).flatten, undefKey := s.draws }
    draws := s.draws + 2 ^ 30 }

/-- A reloaded partition's predictor key comes anew from ENT, unless ENT does not serve, and every engine drops the
entries tagged with it (R109, R410). -/
def rekey (s : State) (p : Nat) : State :=
  let r := s.drbg
  let s1 := if s.fld F.ENT_STATUS_STATE = 1 then
      { r.2 with dpr := { r.2.dpr with keys := SMap.set (fun _ => 0) s.dpr.keys p (r.1 % 512) } }
    else s
  { s1 with les := s1.les.map (fun e =>
      (e.1, { e.2 with k := { e.2.k with pred := e.2.k.pred.filter (fun x => decide (x.2.tag ≠ p)) } })) }

/-- The MSE gives up its check in a cluster whose program table changes (R327). -/
def mseTables (s : State) (old new : Plan) : State :=
  let c := s.mse.engine / 16
  if (old.set c).progs = (new.set c).progs then s
  else { s with mse := { s.mse with prog := 0, ofs := 0, crc := 0xFFFFFFFF } }

/-! ### The commits -/

/-- A whole plan comes into force (R201 to R204, R258, R442). The group resolutions of the CMU return to none (R171; log entry 188). -/
def commitWhole (s : State) (x : Shadow) : State :=
  let old := s.thePlan
  let p := x.plan
  let changed := if s.plan.isNone then [0, 1, 2, 3] else changedKernels s old p
  let s1 := forget (writeAll s (x.writes.filter (fun w => !limWrite w))) p
  let s2 := initSlots s1 p
  let s3 := newGens s2 old (p.blocks.map Prod.fst)
    ((old.blocks.map Prod.fst).filter (fun i => !p.hasBlock i)) p
  let s4 := newAreas s3 p
  let s5 := freeLim (newPacking s4 old p) old p
  let s6 := { s5 with
    plan := some p
    unloaded := (List.range 4).filter (fun c => !s.powered c || has x.left c) }
  let s7 := enterModes ((s6.setReg R.DPR_PLAN_ID (word p.id)).setReg R.DPR_PLAN_VER (word p.ver)) old p
  let s8 := eachNat (fun t l => commitLink t old p l) s7 (List.range 24)
  let s9 := eachNat resetCluster s8 (changed.filter (fun c => s8.powered c))
  let s10 := eachNat rekey s9 ((List.range 64).filter (fun k => (p.part k).present))
  admittedPlan (limCommit (mseTables { s10 with
    dpr := { s10.dpr with groups := [], groupsWas := [] },
    twl := { s10.twl with full := true } } old p) (x.writes.filter limWrite))

/-- A segment comes into force (R201, R203, R204). -/
def commitSeg (s : State) (x : Shadow) : State :=
  let old := s.thePlan
  let p := mergeSeg old x.plan x.seg
  let fresh := x.plan.blocks.map Prod.fst
  let gone := ((old.blocks.filter (fun e => decide (e.2.part = x.seg))).map Prod.fst).filter (fun i => !has fresh i)
  let s1 := initSlots (writeAll s (x.writes.filter (fun w => !limWrite w))) p
  let s2 := newAreas (newGens s1 old fresh gone p) p
  let s3 := { freeLim (newPacking s2 old p) old p with plan := some p }
  let s4 := rekey (enterModes s3 old p) x.seg
  admittedPlan (limCommit (mseTables { s4 with
    dpr := { s4.dpr with
      groups := s4.dpr.groups.filter (fun e => decide ((old.group e.1).owner ≠ x.seg))
      groupsWas := s4.dpr.groupsWas.filter (fun e => decide ((old.group e.1).owner ≠ x.seg)) },
    twl := { s4.twl with full := true } } old p) (x.writes.filter limWrite))

/-- Rule 4 of R51 for every link in RUN under the timing set in force (R257). -/
def ruleFourAll (s : State) (p : Plan) : Bool :=
  (List.range 24).all (fun l =>
    decide (s.linkState l ≠ 4) ||
      ruleFourAt (p.link l) (s.fld F.CYC_APPLY_OFS_US) (s.fld F.CYC_OUT_LAST_US) (dLine s l))

/-- A PENDING shadow is judged and applied, or refused (R201); the number of those applied follows. -/
def judgeShadow (s : State) (x : Shadow) : Bool × State :=
  let p := if x.whole then x.plan else mergeSeg s.thePlan x.plan x.seg
  let s0 := { s with shadows := s.shadows.filter (fun y => decide (y ≠ x)) }
  if admits s s.adm x.whole p && ruleFourAll s p then
    (true, evcEvent (planResult (if x.whole then commitWhole s0 x else commitSeg s0 x) St.ok) 43)
  else
    let s1 := evcEvent (planResult s0 St.noSpace) 43
    let data := (leBytes 4 x.plan.id ++ leBytes 4 x.plan.ver).map BitVec.toNat ++ [St.noSpace]
    (false, postEvents s1 7 data (addTo [0] x.seg))

/-- Shadows in ascending partition number. -/
def insertSeg (x : Shadow) : List Shadow → List Shadow
  | [] => [x]
  | y :: l => if x.seg < y.seg then x :: y :: l else y :: insertSeg x l

/-- Applies PENDING shadows in order; the answers are applied and refused counts by requesting path. -/
def judgeAll (s : State) : List Shadow → List (Path × Bool) × State
  | [] => ([], s)
  | x :: l =>
    let r := judgeShadow s x
    let q := judgeAll r.2 l
    ((x.commit.getD .regs, r.1) :: q.1, q.2)

/-- Every COMMIT request of the boundary completes on its path (R201, R299). -/
def tellCommits (s : State) (res : List (Path × Bool)) : List Path → State
  | [] => s
  | p :: l =>
    let mine := res.filter (fun e => decide (e.1 = p))
    let good := (mine.filter (fun e => e.2)).length
    let bad := mine.length - good
    tellCommits (tellPath s p { status := if bad = 0 then St.ok else St.noSpace, result := good, detail := bad }) res l

/-- The PENDING shadows are applied at step 2 of R20, or at once while EN is 0 (R201, R202). -/
def applyShadows (s : State) : State :=
  let pend := (s.shadows.filter (fun x => x.commit.isSome)).foldl (fun a x => insertSeg x a) []
  let r := judgeAll s pend
  tellCommits { r.2 with commits := [] } r.1 s.commits

/-- A COMMIT request (R201, R202). -/
def requestCommit (s : State) (path : Path) : State :=
  let s1 := { s with
    shadows := s.shadows.map (fun x => if x.commit.isNone then { x with commit := some path } else x)
    commits := s.commits ++ [path] }
  if s1.cycEn then s1 else recomputeCaps (applyShadows s1)

/-- ABORT (R205): every shadow, READY and PENDING alike. The shadows of a boundary whose latch instant has come are
already applied or refused: BOUNDARY_LATCH does so at that instant. -/
def abortShadows (s : State) : State := { s with shadows := [] }

/-- The plan in force ends: its shadows go too, and the engines stay as they are (R441: SSM switched off). -/
def endPlan (s : State) : State :=
  let s1 := { s with plan := none, shadows := [], loading := none }
  s1.resetRegs (fun a => a == R.DPR_PLAN_ID || a == R.DPR_PLAN_VER || a == R.DPR_PLAN_STATUS)

/-- DPR_PLAN_COMMIT (R201). -/
def execDprPlanCommit (s : State) : Outcome :=
  atReg s R.DPR_PLAN_CTRL 0x80000002 (requestCommit (s.setFld F.DPR_PLAN_CTRL_OP 2) .regs)

/-- DPR_PLAN_ABORT (R205). -/
def execDprPlanAbort (s : State) : Outcome :=
  atReg s R.DPR_PLAN_CTRL 0x80000003 (abortShadows (s.setFld F.DPR_PLAN_CTRL_OP 3))

end Sys2Proof.Machine
end

