-- ==== Sys2Proof/Machine/Nvr.lean ====
section
/-! DEFINITION. Non-volatile storage: the NVR's passwords, journal and retain area, the retain snapshot, the power-fail
save and the restore, and the Parameter Flash (R187, R354 to R383). -/

namespace Sys2Proof.Machine

/-- NVR EVC source 56 + `k` (R382). -/
def nvrEvent (s : State) (k : Nat) : State := evcIf s F.NVR_EVT_EN_EN 56 k

/-- A save is in progress, or has completed (R368). -/
def State.saving (s : State) : Bool := s.flag F.NVR_STATUS_SAVING
def State.pfstop (s : State) : Bool := s.flag F.NVR_STATUS_PFSTOP

/-! ### Regions and passwords (R354, R357, R358) -/

/-- The region of an NVR address. -/
def regionOf (a : Nat) : Nat := (a - 0x50000000) / 0x20000

/-- A region's password for reads or writes. -/
def regionKey (s : State) (r : Nat) (write : Bool) : Word :=
  SMap.get (fun _ => 0) (if write then s.nvr.keyW else s.nvr.keyR) r

def regionLocked (s : State) (r : Nat) : Bool := (s.fld F.NVR_STATUS_LOCKED).testBit r

/-- The region is open for a kind of access: no password, or unlocked. -/
def regionOpen (s : State) (r : Nat) (write : Bool) : Bool :=
  regionKey s r write == 0 ||
    (if write then (s.fld F.NVR_STATUS_WUNLOCK).testBit r else (s.fld F.NVR_STATUS_RUNLOCK).testBit r)

def setUnlock (s : State) (r : Nat) (write on : Bool) : State :=
  s.setRegBit R.NVR_STATUS (if write then r else 8 + r) on

/-- A candidate is tried (R357, R358). -/
def tryPassword (s : State) (write : Bool) (v : Word) : State :=
  let r := s.fld F.NVR_PWD_SEL_REGION
  if regionLocked s r then s
  else if regionKey s r write = v then setUnlock s r write true
  else
    let n := SMap.get (fun _ => 0) s.nvr.tries r + 1
    let s1 := (s.setFld F.NVR_PWD_STAT_FAIL 1)
    let s2 := { s1 with nvr := { s1.nvr with tries := SMap.set (fun _ => 0) s1.nvr.tries r n } }
    if n = 8 then nvrEvent (s2.setRegBit R.NVR_STATUS (16 + r) true) 1 else s2

/-- LOCK of `NVR_PWD_CTRL`: both unlocks of the selected region go. -/
def lockRegion (s : State) : State :=
  let r := s.fld F.NVR_PWD_SEL_REGION
  setUnlock (setUnlock s r false false) r true false

/-- A password change (R358): through the journal; refused where the region is not write-unlocked. -/
def changePassword (s : State) (write : Bool) : State :=
  let r := s.fld F.NVR_PWD_SEL_REGION
  if regionLocked s r || !regionOpen s r true then s.setFld F.NVR_PWD_STAT_FAIL 1
  else { s with nvr := { s.nvr with queue := s.nvr.queue ++ [⟨.key r write (s.reg R.NVR_PWD_NEW), 0⟩] } }

/-- TRIES of `NVR_PWD_STAT` shows the selected region. -/
def pwdStat (s : State) : Word :=
  (s.reg R.NVR_PWD_STAT &&& 0x80000000) ||| word (256 * SMap.get (fun _ => 0) s.nvr.tries (s.fld F.NVR_PWD_SEL_REGION))

/-! ### The journal (R361 to R363) -/

def journalBase : Nat := 0x50040000

/-- The data of a journaled write. -/
def jBytes (s : State) (q : JReq) : List Byte :=
  match q.src with
  | .firmware src len => s.bytes src len
  | .host _ _ b => b
  | .param _ _ b => b
  | .key _ _ v => leBytes 4 v.toNat

/-- Firmware may write the destination: within CFG-A or CFG-B, or within the partition pool (R354). -/
def fwArea (a n : Nat) : Bool :=
  decide ((0x50000000 ≤ a ∧ a + n ≤ 0x50020000) ∨ (0x50020000 ≤ a ∧ a + n ≤ 0x50040000) ∨ (poolBase ≤ a ∧ a + n ≤ 0x50060000))

/-- Step 1 of R362: the status that ends the write, 0 where it goes on. -/
def jCheck (s : State) (q : JReq) : Nat :=
  match q.src with
  | .firmware src len =>
    if len < 1 ∨ 3840 < len ∨ ¬(0x10000000 ≤ src ∧ src + len ≤ 0x10200000) then St.badDescriptor
    else if !fwArea q.dst len then St.notOwner
    else if regionLocked s (regionOf q.dst) || !regionOpen s (regionOf q.dst) true then St.nvLocked
    else St.ok
  | .host _ _ _ => if regionLocked s (regionOf q.dst) then St.nvLocked else St.ok
  | .param _ _ _ => if regionLocked s (regionOf q.dst) then St.nvLocked else St.ok
  | .key _ _ _ => St.ok

/-- Steps 2 and 3 of R362: the journal holds the write and is COMMITTED. -/
def jCommit (s : State) (q : JReq) : State :=
  let d := jBytes s q
  let seq := (s.rd (journalBase + 4) 4 + 1) % 2 ^ 32
  let s1 := s.setBytes (journalBase + 0x40) d
  let s2 := ((s1.wr (journalBase + 4) 4 seq).wr (journalBase + 8) 4 q.dst).wr (journalBase + 0xC) 4 d.length
  let s3 := s2.wr (journalBase + 0x10) 4 (crc32cFrom (frameSeed 0xD1 0 (seq % 65536)) d).toNat
  s3.wr journalBase 4 0x4A434D54

/-- Step 4: the data stand at their destination; a password in the key page. -/
def jApply (s : State) (q : JReq) : State :=
  match q.src with
  | .key r write v =>
    if write then { s with nvr := { s.nvr with keyW := SMap.set (fun _ => 0) s.nvr.keyW r v } }
    else { s with nvr := { s.nvr with keyR := SMap.set (fun _ => 0) s.nvr.keyR r v } }
  | _ => s.setBytes q.dst (jBytes s q)

/-- The write ends with a status (R360, R362). -/
def jTell (s : State) (q : JReq) (status : Nat) : State :=
  match q.src with
  | .firmware _ _ | .key _ _ _ => nvrEvent ((s.setFld F.NVR_JSTAT_STATUS status).setFld F.NVR_JSTAT_DONE 1) 2
  | .host serial _ _ => nvrEvent (hostComplete s serial { status := status }) 2
  | .param serial result _ =>
    nvrEvent (hostComplete s serial { status := status, result := result, applied := decide (status ≠ St.ok) }) 2

/-- The word of MGS by which the controller's read of firmware's data meets an uncorrectable error (R507). -/
def jFault (s : State) (q : JReq) : Option Nat :=
  match q.src with
  | .firmware src len => if jCheck s q = St.ok then mgsBad s src len else none
  | _ => none

/-- The journaled write in front of the queue runs to its end (R362). -/
def jRun (s : State) : State :=
  match s.nvr.queue with
  | [] => s
  | q :: l =>
    let s1 := { s with nvr := { s.nvr with queue := l } }
    match jFault s q with
    | some e => jTell (mgsUe (busErrOf s1 codeSave 0 e false) e) q St.busError
    | none =>
    if jCheck s q = St.ok then jTell ((jApply (jCommit s1 q) q).wr journalBase 4 0) q St.ok
    else jTell s1 q (jCheck s q)

/-- The running write is cut off (R368, R372): where it had got to is open, either before the journal was committed, or
after it with a part of the data copied. -/
def jCut (s : State) : State :=
  match s.nvr.queue with
  | [] => s
  | q :: _ =>
    let (v, s1) := s.draw
    let s2 := { s1 with nvr := { s1.nvr with queue := [] } }
    if v % 2 = 0 ∨ jCheck s q ≠ St.ok then s2
    else
      match q.src with
      | .key _ _ _ => jApply s2 q
      | _ => (jCommit s2 q).setBytes q.dst ((jBytes s q).take (8 * (v / 2 % ((jBytes s q).length / 8 + 1))))

/-- Journal recovery (R363). -/
def jRecover (s : State) : State :=
  if s.rd journalBase 4 = 0x4A434D54 then
    let n := min 3840 (s.rd (journalBase + 0xC) 4)
    let d := s.bytes (journalBase + 0x40) n
    let seq := s.rd (journalBase + 4) 4 % 65536
    if (crc32cFrom (frameSeed 0xD1 0 seq) d).toNat = s.rd (journalBase + 0x10) 4 then
      (((s.setBytes (s.rd (journalBase + 8) 4) d)).wr journalBase 4 0).setFld F.NVR_STATUS_RECOV 1
    else (s.wr journalBase 4 0).setFld F.NVR_STATUS_RECOV 2
  else s.setFld F.NVR_STATUS_RECOV 0

/-! ### The retain area (R364 to R366) -/

def retainBase : Nat := 0x50060000
def retainSize : Nat := 655360

/-- Address of byte `k` of the record of a half, through the wrap of the area. -/
def retAddr (half k : Nat) : Nat := retainBase + (half * 327680 + k) % retainSize

def retBytes (s : State) (half k n : Nat) : List Byte := (List.range n).map (fun i => s.byte (retAddr half (k + i)))
def retLe (s : State) (half k n : Nat) : Nat := leNat (retBytes s half k n)

/-- Writes bytes of a record. -/
def retWrite (s : State) (half k : Nat) : List Byte → State
  | [] => s
  | b :: l => retWrite (s.setByte (retAddr half k) b) half (k + 1) l

def retSeq (s : State) (half : Nat) : Nat := retLe s half 8 4
def retLen (s : State) (half : Nat) : Nat := retLe s half 0xC 4

/-- The check of a record (R364). -/
def retCrc (half seq : Nat) (bytes : List Byte) : Nat :=
  let z := bytes.take 0xF8 ++ List.replicate 8 0 ++ bytes.drop 0x100
  (crc32cFrom (frameSeed 0xD0 half (seq % 65536)) z).toNat

/-- A record is valid (R365). -/
def retValid (s : State) (half : Nat) : Bool :=
  decide (retLe s half 0 4 = 0x52544E52 ∧ retLe s half 4 2 = 0x0100 ∧ retLe s half 6 2 = 0x6400) &&
    decide (retLen s half % 8 = 0 ∧ 256 ≤ retLen s half ∧ retLen s half ≤ retainSize) &&
    decide (1 ≤ retSeq s half ∧ retSeq s half ≤ 0xFFFFFFFE) &&
    decide (retLe s half 0xFC 4 = Nat.xor (retSeq s half) 0x2E7A1A5D) &&
    decide (retLe s half 0xF8 4 = retCrc half (retSeq s half) (retBytes s half 0 (retLen s half)))

/-- The half of the newest record. -/
def newest (s : State) : Option Nat :=
  match retValid s 0, retValid s 1 with
  | true, true => some (if retSeq s 0 < retSeq s 1 then 1 else 0)
  | true, false => some 0
  | false, true => some 1
  | false, false => none

/-- The scan of the retain area (R363, R365): the newest record stands in the registers. -/
def scanRetain (s : State) : State :=
  match newest s with
  | none =>
    let s1 := (((s.setReg R.NVR_RET_SEQ 0).setReg R.NVR_RET_CYCLE 0).setReg R.NVR_RET_PLAN_ID 0).setReg R.NVR_RET_PLAN_VER 0
    (((s1.setReg R.NVR_PF_TIME 0).setFld F.NVR_RET_STAT_VALID 0).setFld F.NVR_RET_STAT_HALF 0).setFld F.NVR_RET_STAT_N_EVT 0
  | some h =>
    let s1 := ((s.setReg R.NVR_RET_SEQ (word (retSeq s h))).setReg R.NVR_RET_CYCLE (word (retLe s h 0x24 4)))
    let s2 := (s1.setReg R.NVR_RET_PLAN_ID (word (retLe s h 0x10 4))).setReg R.NVR_RET_PLAN_VER (word (retLe s h 0x14 4))
    let s3 := ((s2.setFld F.NVR_RET_STAT_VALID 1).setFld F.NVR_RET_STAT_HALF h).setFld F.NVR_RET_STAT_N_EVT (retLe s h 0x20 2)
    if retSeq s h = 0xFFFFFFFE then retWrite s3 (1 - h) 0xFC (leBytes 4 0) else s3

/-- The NVS domain is released from reset: journal recovery, scan, READY (R363). -/
def nvrReady (s : State) : State := nvrEvent ((scanRetain (jRecover s)).setFld F.NVR_STATUS_READY 1) 0

/-- PACK_CRC of a plan (R366). -/
def packCrc (p : Plan) : Nat :=
  let k := packing p
  (crc32c ((k.1.map (fun e => leBytes 2 e.1 ++ leBytes 1 e.2 ++ [0])).flatten ++
    (k.2.map (fun n => leBytes 2 n ++ [0, 1])).flatten)).toNat

/-! ### The retain snapshot (R186, R187) -/

/-- Places of retained fields in the buffer from an offset on: index, offset. -/
def snapPlaces (l : List (Nat × Nat)) (o : Nat) : List (Nat × Nat × Nat) :=
  match l with
  | [] => []
  | e :: m => (e.1, o, 8 * e.2) :: snapPlaces m (o + 8 * e.2)

/-- Address of a block's retained field. -/
def retainedAt (b : Block) : Nat := csmBase b.home + b.sbase + 8 * b.retofs

/-- Bytes of all retained fields. -/
def fieldTotal (p : Plan) : Nat := ((packing p).1.map (fun e => 8 * e.2)).sum

/-- The copy itself (R187). -/
def snapCopy (s : State) : State :=
  let p := s.thePlan
  let s1 := (snapPlaces (packing p).1 0).foldl (fun t e =>
    if s.dpr.snapAll || has s.dpr.snapBlocks e.1 then t.setBytes (snapBase + e.2.1) (s.bytes (retainedAt (p.block e.1)) e.2.2)
    else t) s
  (snapPlaces ((packing p).2.map (fun n => (n, 1))) (fieldTotal p)).foldl (fun t e =>
    t.setBytes (snapBase + e.2.1) (leBytes 8 (s.slot64 e.1))) s1

/-- The copy becomes the last committed snapshot. -/
def snapCommit (s : State) : State :=
  let s1 := (s.setFld F.DPR_SNAP_STATUS_VALID 1).setFld F.DPR_SNAP_STATUS_CYCLE (s.dpr.snapCycle % 65536)
  { s1 with dpr := { s1.dpr with snapDone := false, snapLate := false, comCycle := s.dpr.snapCycle, comTb := s.dpr.snapTb } }

/-- A copy begins at the OUT deadline, unless the previous one still runs (R187). -/
def snapBegin (s : State) : State :=
  if s.plan.isNone then s
  else if s.flag F.DPR_SNAP_STATUS_BUSY then
    { s.setFld F.DPR_SNAP_STATUS_SKIP 1 with dpr := { s.dpr with skipped := true } }
  else
    let good := (s.dpr.runs.filter (fun e => decide (e.2.state = .good))).map Prod.fst
    let s1 := s.setFld F.DPR_SNAP_STATUS_BUSY 1
    { s1 with dpr := { s1.dpr with
        snapBlocks := good, snapCycle := (s.reg R.CYC_CYCNUM).toNat, snapTb := s.cyc.lastSocTb,
        snapDone := false, snapLate := false, skipped := false } }

/-- The copy ends. -/
def snapEnd (s : State) : State :=
  if !s.flag F.DPR_SNAP_STATUS_BUSY then s
  else
    let s1 := (snapCopy s).setFld F.DPR_SNAP_STATUS_BUSY 0
    let s2 := { s1 with dpr := { s1.dpr with snapAll := false, snapDone := true } }
    if s2.dpr.snapLate then snapCommit s2 else s2

/-- Step 1 of R20 for the snapshot. -/
def snapBoundary (s : State) : State :=
  if s.dpr.snapDone then snapCommit s
  else if s.flag F.DPR_SNAP_STATUS_BUSY then { s with dpr := { s.dpr with snapLate := true } }
  else s


/-! ### The power-fail save (R367 to R374) -/

/-- The save engine is armed (R367). -/
def State.armed (s : State) : Bool := s.flag F.NVR_STATUS_READY && s.plan.isSome && s.nvr.enSeen

/-- A free value for `n` bytes from an address on: contents that the spec leaves undefined. -/
def scramble (s : State) (a n : Nat) : State :=
  { s.setBytes a ((List.range n).map (fun k => BitVec.ofNat 8 (Config.freeValue (s.draws + k)))) with draws := s.draws + n }

/-- A PFL word with its check bits is left undefined: data, and no, a single-bit or an uncorrectable error (R372, R378). -/
def scrambleWord (s : State) (a : Nat) : State :=
  let (v, s1) := (scramble { s with ecc1 := dropFrom s.ecc1 a, ecc2 := dropFrom s.ecc2 a } a 8).draw
  { s1 with ecc1 := putIn s1.ecc1 a (decide (v % 3 = 1)), ecc2 := putIn s1.ecc2 a (decide (v % 3 = 2)) }

/-- The words of a sector are left undefined. -/
def scrambleSector (s : State) (k : Nat) : State :=
  eachNat (fun t i => scrambleWord t (0x58000000 + 4096 * k + 8 * i)) s (List.range 512)

/-- A program or erase that is cut off leaves its word or sector undefined (R372). -/
def pflCut (s : State) : State :=
  let s1 := match s.pfl.op with
    | some (.program a _ _) => scrambleWord s (0x58000000 + a)
    | some (.erase k) => scrambleSector s k
    | none => s
  let s2 := match s.pfl.suspended with
    | some k => scrambleSector s1 k
    | none => s1
  (({ s2 with pfl := { s2.pfl with op := none, suspended := none, resuming := false } }).setFld F.PFL_STATUS_BUSY 0).setFld F.PFL_STATUS_SUSPENDED 0

/-- Every engine stops (step 2 of R368). -/
def stopEngines (s : State) : State :=
  eachNat (fun t n => t.setLe n { t.le n with k := { (t.le n).k with stopped := true } }) s (List.range 64)

/-- Steps 1 and 2 of a save with a CAUSE (R368); a debug halt is released first (R539). -/
def startSave (s : State) (cause : Nat) : State :=
  if s.saving then s
  else
    let s0 := if s.dbgHalted then (let r := resumeRaster (haltRelease s); { r with dbg := { r.dbg with extest := none } }) else s
    let s1 := pflCut (jCut (s0.setFld F.NVR_STATUS_SAVING 1))
    let s2 := { s1 with nvr := { s1.nvr with cause := cause, tbPf := s.tb } }
    stopEngines { s2 with dpr := { s2.dpr with open' := false } }

/-- The undelivered events that a save keeps of a partition: its oldest, at most 8. -/
def savedEvents (s : State) (p : Nat) : List EvRec := (s.hif.evts.filter (fun e => decide (e.part = p))).take 8

/-- Events of a partition that a save does not keep. -/
def lostEvents (s : State) (p : Nat) : Nat :=
  min 65535 ((s.hif.evts.filter (fun e => decide (e.part = p))).length - (savedEvents s p).length)

/-- The header of a retain record, CRC and SEAL 0 (R364). -/
def retHeader (s : State) (seq len snap n : Nat) : List Byte :=
  let p := s.thePlan
  leBytes 4 0x52544E52 ++ leBytes 2 0x0100 ++ leBytes 2 0x6400 ++ leBytes 4 seq ++ leBytes 4 len ++ leBytes 4 p.id ++
    leBytes 4 p.ver ++ leBytes 4 (packCrc p) ++ leBytes 4 snap ++ leBytes 2 n ++ leBytes 1 s.nvr.cause ++
    leBytes 1 (if s.dpr.skipped then 1 else 0) ++ leBytes 4 s.dpr.comCycle ++ leBytes 8 s.dpr.comTb ++
    leBytes 8 s.nvr.tbPf ++ List.replicate 8 0 ++ ((List.range 64).map (fun k => leBytes 2 (lostEvents s k))).flatten ++
    List.replicate 64 0

/-- Step 3 of a save: a snapshot copy in progress is completed. -/
def saveSnap (s : State) : State := let s1 := snapEnd s; if s1.dpr.snapDone then snapCommit s1 else s1

/-- The record of a save, CRC and SEAL 0, with its half and SEQ (R364, R365). -/
def saveBody (s2 : State) : Nat × Nat × List Byte :=
  let half := match newest s2 with | some h => 1 - h | none => 0
  let seq := match newest s2 with | some h => if retSeq s2 h = 0xFFFFFFFE then 1 else retSeq s2 h + 1 | none => 1
  let evs := ((List.range 64).map (savedEvents s2)).flatten
  let snap := retainTotal s2.thePlan
  let len := 256 + snap + 32 * evs.length
  let body := retHeader s2 seq len snap evs.length ++ s2.bytes snapBase snap ++ (evs.map (fun e => evBytes e ++ [0])).flatten
  (half, seq, body)

/-- Steps 3 to 5 of a save: the record is written and sealed (R364, R365, R368). -/
def writeRecord (s : State) : State :=
  let s1 := saveSnap s
  let b := saveBody s1
  retWrite (retWrite (retWrite s1 b.1 0 b.2.2) b.1 0xF8 (leBytes 4 (retCrc b.1 b.2.1 b.2.2))) b.1 0xFC
    (leBytes 4 (Nat.xor b.2.1 0x2E7A1A5D))

/-- A save that power loss ends before its seal: how far its record was written is open, and a record longer than its half has cost the
previous one where it got so far (R365, R371, R372). -/
def saveCut (s : State) : State :=
  let (v, s1) := (saveSnap s).draw
  let b := saveBody s1
  retWrite s1 b.1 0 (b.2.2.take (v % (b.2.2.length + 1)))

/-- The save ends (steps 3 to 6 of R368, R369): no further SOC. -/
def finishSave (s : State) : State :=
  let s1 := (writeRecord s).setReg R.NVR_PF_TIME (word ((s.tb - s.nvr.tbPf) / 100))
  ((s1.setFld F.NVR_STATUS_PFSTOP 1).setFld F.NVR_STATUS_SAVING 0).setFld F.CYC_STATUS_RUNNING 0

/-- POWER_FAIL_TRIGGER (R367): PF_N held low for 2 µs, or a trip of the supply monitor. PF_N drives EVC source 0. -/
def execPowerFailTrigger (pfn : Bool) (s : State) : Outcome :=
  let s1 := if pfn then aonEvent s 0 else s
  let en := if pfn then s1.flag F.NVR_PF_CTRL_PFN_EN else s1.flag F.NVR_PF_CTRL_MON_EN
  if en && s1.armed then .next (startSave s1 (if pfn then 1 else 2)) else .next s1

/-- TEST (R374): a test save while the device is in SERVICE. -/
def testSave (s : State) : State := if s.service then startSave s 3 else s

def execTest (s : State) : Outcome := atReg s R.NVR_PF_CTRL (s.reg R.NVR_PF_CTRL ||| 4) (testSave s)

/-! ### The restore (R373) -/

/-- A RESTORE or INVALIDATE has ended. -/
def retDone (s : State) (status : Nat) : State :=
  ((s.setFld F.NVR_RET_STAT_RESULT status).setFld F.NVR_RET_STAT_DONE 1).setFld F.NVR_RET_STAT_BUSY 0

/-- RESTORE is requested. -/
def startRestore (s : State) : State :=
  let s1 := s.setFld F.NVR_RET_CTRL_OP 1
  if s1.cycEn || s1.plan.isNone || !s1.flag F.NVR_STATUS_READY then nvrEvent (retDone s1 St.modeRefused) 3
  else s1.setFld F.NVR_RET_STAT_BUSY 1

/-- The retained slots of the record (step 3 of R373). -/
def restoreSlots (s : State) : State :=
  let p := s.thePlan
  (snapPlaces ((packing p).2.map (fun n => (n, 1))) (fieldTotal p)).foldl (fun t e =>
    let st := t.rd (snapBase + e.2.1 + 4) 2
    let st1 := if (p.bind e.1).kind = 2 then putBits st stHeld true else st
    t.setSlot e.1 ⟨word (t.rd (snapBase + e.2.1) 4), st1, none⟩) s

/-- The event at an offset of a record. -/
def retEvent (s : State) (half k : Nat) : EvRec :=
  { type := retLe s half k 2, part := retLe s half (k + 2) 1 % 64, urgent := (retLe s half (k + 3) 1).testBit 0,
    cycle := retLe s half (k + 4) 4, tb := retLe s half (k + 8) 8,
    data := (retBytes s half (k + 16) 12).map BitVec.toNat, seq := retLe s half (k + 28) 2 }

/-- The saved events come first; lost ones are told by EVENT_OVERFLOW (step 4 of R373). -/
def restoreEvents (s : State) (half : Nat) : State :=
  let o := 256 + retLe s half 0x1C 4
  let evs := (List.range (retLe s half 0x20 2)).map (fun k => retEvent s half (o + 32 * k))
  let s1 := { s with hif := { s.hif with evts := evs ++ s.hif.evts } }
  eachNat (fun t k =>
    let n := retLe s half (0x40 + 2 * k) 2
    postOverflow { t with hif := { t.hif with
      discarded := SMap.set (fun _ => 0) t.hif.discarded k (SMap.get (fun _ => 0) t.hif.discarded k + n) } } k) s1 (List.range 64)

/-- The retained fields of the snapshot buffer go into the state blocks (step 2 of R373, R493); none into a cluster that is off or in
reset. -/
def restoreFields (s : State) : State :=
  let p := s.thePlan
  (snapPlaces (packing p).1 0).foldl (fun t e =>
    if s.serves (csmBase (p.block e.1).home) then t.setBytes (retainedAt (p.block e.1)) (s.bytes (snapBase + e.2.1) e.2.2) else t) s

/-- The restore of the newest record. -/
def restore (s : State) : State :=
  match newest s with
  | none => nvrEvent (retDone s St.checkFail) 3
  | some h =>
    let p := s.thePlan
    if retLe s h 0x10 4 ≠ p.id ∨ retLe s h 0x14 4 ≠ p.ver ∨ retLe s h 0x18 4 ≠ packCrc p then nvrEvent (retDone s St.stale) 3
    else
      let s1 := (s.setBytes snapBase (retBytes s h 256 (retLe s h 0x1C 4))).setFld F.DPR_SNAP_STATUS_VALID 1
      let s2 := { s1.setFld F.DPR_SNAP_STATUS_CYCLE (retLe s h 0x24 4 % 65536) with
        dpr := { s1.dpr with comCycle := retLe s h 0x24 4, comTb := retLe s h 0x28 8, snapAll := false } }
      nvrEvent (retDone (restoreEvents (restoreSlots (restoreFields s2)) h) St.ok) 3

/-- RESTORE (R373). -/
def execRestore (s : State) : Outcome := atReg s R.NVR_RET_CTRL 0x80000001 (startRestore s)

/-- RESTORE_END (R373). -/
def execRestoreEnd (s : State) : Outcome :=
  if s.flag F.NVR_RET_STAT_BUSY then .next (restore s) else .next s

/-- INVALIDATE (R373): the SEAL of both halves is written with 0. -/
def invalidate (s : State) : State :=
  let s1 := retWrite (retWrite (s.setFld F.NVR_RET_CTRL_OP 2) 0 0xFC (leBytes 4 0)) 1 0xFC (leBytes 4 0)
  retDone (scanRetain s1) St.ok

def execInvalidate (s : State) : Outcome := atReg s R.NVR_RET_CTRL 0x80000002 (invalidate s)

/-! ### Rows of the NVR's registers -/

/-- The NVR answers register and fabric accesses: on, ready, and no save in progress (R363, R368). -/
def nvrServes (s : State) : Bool := s.serves R.NVR_STATUS

/-- NVR_PWD_R (R357). -/
def execNvrPwdR (v : Word) (s : State) : Outcome := atReg s R.NVR_PWD_R v (tryPassword s false v)

/-- NVR_PWD_W (R357). -/
def execNvrPwdW (v : Word) (s : State) : Outcome := atReg s R.NVR_PWD_W v (tryPassword s true v)

/-- NVR_PWD_LOCK (R357). -/
def execNvrPwdLock (s : State) : Outcome := atReg s R.NVR_PWD_CTRL 4 (lockRegion s)

/-- CHG_R (R358). -/
def execChgR (s : State) : Outcome := atReg s R.NVR_PWD_CTRL 1 (changePassword s false)

/-- CHG_W (R358). -/
def execChgW (s : State) : Outcome := atReg s R.NVR_PWD_CTRL 2 (changePassword s true)

/-- GO of `NVR_JCTRL` queues a journaled write of firmware (R362). -/
def queueJournal (s : State) : State :=
  { s with nvr := { s.nvr with queue := s.nvr.queue ++
      [⟨.firmware (s.reg R.NVR_JSRC).toNat (s.reg R.NVR_JLEN).toNat, (s.reg R.NVR_JDST).toNat⟩] } }

/-- NVR_JCTRL_GO (R362). -/
def execNvrJctrlGo (s : State) : Outcome := atReg s R.NVR_JCTRL 1 (queueJournal s)

/-- JOURNALED_WRITE_END (R362): the write in front of the queue runs to its end; it waits while the NVR is not ready
(R363). -/
def execJournaledWriteEnd (s : State) : Outcome :=
  if nvrServes s && s.flag F.NVR_STATUS_READY && !s.saving then .next (jRun s) else .next s

/-! ### Parameter Flash (R375 to R378) -/

/-- The writer may program and erase a sector (R375). -/
def pflOwner (w : Writer) (sector : Nat) : Bool :=
  match w with
  | .sp => decide (sector = 0 ∨ sector = 2 ∨ sector = 3 ∨ (4 ≤ sector ∧ sector < 64))
  | .mc => decide (4 ≤ sector ∧ sector < 256)
  | .dbg | .host _ => false

def pflRefuse (s : State) (status : Nat) : State := (s.setFld F.PFL_STATUS_ERR 1).setFld F.PFL_STATUS_RESULT status

/-- The byte offset in `PFL_ADDR`. -/
def pflAddr (s : State) : Nat := 8 * s.fld F.PFL_ADDR_WORD

/-- GO with PROGRAM (R376). -/
def pflProgram (s : State) (w : Writer) : State :=
  let a := pflAddr s
  let k := a / 4096
  if !pflOwner w k then pflRefuse s St.notOwner
  else if s.pfl.op.isSome || s.pfl.suspended == some k then pflRefuse s St.busy
  else
    let s1 := { s with pfl := { s.pfl with op := some (.program a (s.reg R.PFL_DATA_LO) (s.reg R.PFL_DATA_HI)) } }
    (s1.setFld F.PFL_STATUS_BUSY 1).setFld F.PFL_STATUS_SECTOR k

/-- GO with ERASE. -/
def pflErase (s : State) (w : Writer) : State :=
  let k := pflAddr s / 4096
  if !pflOwner w k then pflRefuse s St.notOwner
  else if s.flag F.PFL_STATUS_BUSY then pflRefuse s St.busy
  else
    let s1 := { s with pfl := { s.pfl with op := some (.erase k) } }
    (s1.setFld F.PFL_STATUS_BUSY 1).setFld F.PFL_STATUS_SECTOR k

/-- GO with SUSPEND: an erase that runs halts, and the SUSPEND has ended. -/
def pflSuspend (s : State) : State :=
  match s.pfl.op with
  | some (.erase k) =>
    let s1 := ({ s with pfl := { s.pfl with op := none, suspended := some k } }).setFld F.PFL_STATUS_SUSPENDED 1
    evcIf ((s1.setFld F.PFL_STATUS_DONE 1).setFld F.PFL_STATUS_RESULT St.ok) F.PFL_EVT_EN_EN 60 0
  | _ => s

/-- The suspended erase of sector `k` continues. -/
def eraseOn (s : State) (k : Nat) : State :=
  (({ s with pfl := { s.pfl with op := some (.erase k), suspended := none, resuming := false } }).setFld F.PFL_STATUS_SUSPENDED 0).setFld
    F.PFL_STATUS_SECTOR k

/-- GO with RESUME: a suspended erase continues once no program runs. -/
def pflResume (s : State) : State :=
  match s.pfl.suspended, s.pfl.op with
  | some k, none => eraseOn s k
  | some _, some _ => { s with pfl := { s.pfl with resuming := true } }
  | none, _ => s

/-- The word at a window offset is erased. -/
def pflErased (s : State) (a : Nat) : Bool := (s.bytes (0x58000000 + a) 8).all (fun b => b == 0xFF) && !has s.pfl.ones a

/-- The operation takes its effect; a word programmed twice holds undefined data and ECC (R378). -/
def pflEffect (s : State) : PflOp → State
  | .program a lo hi =>
    let at' := 0x58000000 + a
    let clean := { s with ecc1 := dropFrom s.ecc1 at', ecc2 := dropFrom s.ecc2 at' }
    if pflErased s a then
      let s1 := (clean.wr at' 4 lo.toNat).wr (at' + 4) 4 hi.toNat
      if lo = 0xFFFFFFFF ∧ hi = 0xFFFFFFFF then { s1 with pfl := { s1.pfl with ones := addTo s1.pfl.ones a } } else s1
    else
      scrambleWord s at'
  | .erase k => eraseSector s k

/-- The operation that runs ends (R376). -/
def pflEnd (s : State) : State :=
  match s.pfl.op with
  | none => s
  | some op =>
    let s1 := pflEffect { s with pfl := { s.pfl with op := none } } op
    let s2 := (s1.setFld F.PFL_STATUS_DONE 1).setFld F.PFL_STATUS_RESULT St.ok
    let s3 := evcIf (s2.setFld F.PFL_STATUS_BUSY (if s2.pfl.suspended.isSome then 1 else 0)) F.PFL_EVT_EN_EN 60 0
    match s3.pfl.suspended with
    | some k => if s3.pfl.resuming then eraseOn s3 k else s3
    | none => s3

/-- PFL_PROGRAM (R376). -/
def execPflProgram (w : Writer) (s : State) : Outcome :=
  atRegBy s w R.PFL_CMD (word (2 ^ 31 + 1)) (pflProgram (s.setFld F.PFL_CMD_OP 1) w)

/-- PFL_ERASE (R376). -/
def execPflErase (w : Writer) (s : State) : Outcome :=
  atRegBy s w R.PFL_CMD (word (2 ^ 31 + 2)) (pflErase (s.setFld F.PFL_CMD_OP 2) w)

/-- PFL_SUSPEND (R376). -/
def execPflSuspend (s : State) : Outcome :=
  atReg s R.PFL_CMD 0x80000003 (pflSuspend (s.setFld F.PFL_CMD_OP 3))

/-- PFL_RESUME (R376). -/
def execPflResume (s : State) : Outcome :=
  atReg s R.PFL_CMD 0x80000004 (pflResume (s.setFld F.PFL_CMD_OP 4))

/-- PFL_OPERATION_END (R376). -/
def execPflOperationEnd (s : State) : Outcome := .next (pflEnd s)

/-! ### Reads of the NVR block (R382) -/

/-- The registers that are views of the controller's state. -/
def nvrRead (s : State) (a : Nat) : Option Word :=
  if a = R.NVR_STATUS then some (s.reg a ||| (if s.armed then 0x10000000 else 0))
  else if a = R.NVR_PWD_STAT then some (pwdStat s)
  else if a = R.NVR_JSTAT then some (s.reg a ||| (if s.nvr.queue = [] then 0 else 0x80000000))
  else none

end Sys2Proof.Machine
end

