-- ==== Sys2Proof/Machine/RegSet.lean ====
section
/-! DEFINITION. Writes of registers whose effect stays within their own block: plain fields with their permitted ranges,
and the fields that the configuration may set (R13, R59, R79, R146, R171, R281, R287, R289, R336, R568). -/

namespace Sys2Proof.Machine

/-- Fields that a write outside a range leaves unchanged: lowest bit, width, least and greatest value. -/
def fieldRanges (a : Nat) : List (Nat × Nat × Nat × Nat) :=
  if a = R.CYC_ADM_CAP then [(0, 7, 10, 90)]
  else if a = R.DPR_SPARES then [(0, 3, 0, 4), (4, 3, 0, 4), (8, 3, 0, 4), (12, 3, 0, 4)]
  else if a = R.DPR_WINDUP_LIMIT then [(0, 8, 1, 255)]
  else if within a 0x40010000 0x18000 then
    (match a % 4096 with
     | 0x008 => [(0, 13, 10, 5000)]
     | 0x00C => [(0, 8, 1, 255)]
     | 0x080 => [(0, 4, 1, 8)]
     | _ => [])
  else if (List.range 6).any (fun g => decide (a = R.FPC_CTRL g)) then [(8, 8, 1, 100)]
  else if a = R.HIF_EVT_SHARE then [(0, 12, 2, 4095)]
  else if a = R.HIF_FW_TMO then [(0, 10, 1, 600)]
  else if (List.range 64).any (fun p => decide (a = R.HIF_MOD_C p ∨ a = R.HIF_MOD_E p)) then [(0, 8, 1, 255)]
  else if a = R.MSE_SCRUB_CFG then [(0, 10, 1, 1000)]
  else if (List.range 4).any (fun c => decide (a = R.CKG_CLFREQ c)) then [(0, 4, 0, 8)]
  else if a = R.CKG_TRIM_REF then [(0, 17, 250, 100000)]
  else if a = R.AGM_CANARY_LIM then [(0, 8, 1, 255), (8, 8, 1, 255)]
  else if a = R.AGM_SETTLE then [(0, 12, 10, 4000)]
  else if a = R.TWL_TAKE_CFG then [(0, 5, 1, 24)]
  else if a = R.TRC_CTRL then [(24, 8, 1, 255)]
  else []

/-- Puts back the old value of each field that would leave its range. -/
def keepRanges (a : Nat) (old w : Word) : Word :=
  (fieldRanges a).foldl (fun v r =>
    let f : Fld := ⟨a, r.1, r.2.1⟩
    if r.2.2.1 ≤ f.of v ∧ f.of v ≤ r.2.2.2 then v else f.put v (f.of old)) w

/-- A plain write under the access codes and ranges (R13). -/
def plainReg (s : State) (a : Nat) (v : Word) : State :=
  match regRow a with
  | some r => s.setReg a (keepRanges a (s.reg a) (plainWrite r (s.reg a) v))
  | none => s

/-- The word that a write of one field sends: the other fields as they read, W1C bits 0. -/
def fieldWord (s : State) (f : Fld) (v : Nat) : Word :=
  let clear : Nat := match regRow f.reg with | some r => r.w1c | none => 0
  f.put (s.reg f.reg &&& ~~~word clear) v

/-! ### CYC -/

/-- The seven timing registers (R50). -/
def timingRegs : List Nat :=
  [R.CYC_PERIOD, R.CYC_SAMPLE_OFS, R.CYC_IN_WINDOW, R.CYC_DISPATCH_OFS, R.CYC_OUT_DEADLINE, R.CYC_OUT_LAST, R.CYC_APPLY_OFS]

/-- The shadow copy of a timing register; the value in force where nothing was written since. -/
def shadowOf (s : State) (a : Nat) : Nat :=
  match s.cyc.shadow.find? (fun e => decide (e.1 = a)) with
  | some e => e.2
  | none => (s.reg a).toNat

/-- A write of a CYC register whose effect is plain or waits for a boundary (R79, R568): until then `CYC_ADM_CAP.PCT` reads the
value in force (log entry 172). A value written while EN is 0 replaces one that still waits. -/
def cycSet (s : State) (a : Nat) (v : Word) : State :=
  if timingRegs.contains a then
    { s with cyc := { s.cyc with
        shadow := SMap.insert (s.cyc.shadow.filter (fun e => decide (e.1 ≠ a))) a (v.toNat % 2 ^ 17) } }
  else if a = R.CYC_PHASE then
    (if s.cycEn then { s with cyc := { s.cyc with phaseNew := some (v.toNat % 2 ^ 17) } }
     else recomputeCaps ({ s with cyc := { s.cyc with phaseNew := none } }.setFld F.CYC_PHASE_US v.toNat))
  else if a = R.CYC_ADM_CAP then
    (let pct := v.toNat % 128
     if pct < 10 ∨ 90 < pct then s
     else if s.cycEn then { s with cyc := { s.cyc with pctNew := some pct } }
     else recomputeCaps ({ s with cyc := { s.cyc with pctNew := none } }.setFld F.CYC_ADM_CAP_PCT pct))
  else if a = R.CYC_CYCNUM then (if s.cycEn then s else s.setReg a v)
  else plainReg s a v

/-! ### DPR -/

/-- The values that DPR registers bring at a boundary, or at once while EN is 0 (R146, R153, R168, R568). -/
def dprTake (s : State) : State :=
  { s with dpr := { s.dpr with
      stealIn := s.flag F.DPR_CTRL_STEAL_EN
      limitIn := s.fld F.DPR_WINDUP_LIMIT_LIMIT } }

/-- Hot spares of every cluster (R146). -/
def rolesAll (s : State) : State := eachNat clusterRoles s (List.range 4)

/-- A write of `DPR_SPARES` while EN is 0: steps 2 and 3 of R146 (R568). -/
def rolesNow (s : State) : State := eachNat (fun t c => rolesCount (rolesWritten t c) c) s (List.range 4)

def dprSet (s : State) (a : Nat) (v : Word) : State :=
  let s1 := plainReg s a v
  if s.cycEn then s1
  else if a = R.DPR_CTRL ∨ a = R.DPR_WINDUP_LIMIT then recomputeCaps (dprTake s1)
  else if a = R.DPR_SPARES then recomputeCaps (rolesNow s1)
  else s1

/-! ### SFL and FPC -/

def sflSet (s : State) (l a : Nat) (v : Word) : State :=
  if a = R.SFL_CTRL l then sflEn s l (v.toNat.testBit 0) else plainReg s a v

def fpcSet (s : State) (a : Nat) (v : Word) : State :=
  match (List.range 6).find? (fun g => decide (a = R.FPC_CTRL g)) with
  | some g => fpcEn (plainReg s a v) g (v.toNat.testBit 0)
  | none => plainReg s a v

/-! ### HIF (R287) -/

/-- No ring of any partition is enabled. -/
def noRings (s : State) : Bool := (List.range 64).all (fun p => decide (s.fld (F.HIF_RCTRL_ACT p) = 0))

/-- A write of `HIF_STG_CFG` takes effect. -/
def stgOk (s : State) (v : Word) : Bool :=
  let f (k : Nat) : Nat := v.toNat / 2 ^ (8 * k) % 256
  noRings s && [f 0, f 1, f 2].all (fun x => decide (1 ≤ x ∧ x ≤ 126)) && decide (f 0 + f 1 + f 2 ≤ 128)

/-- A write of a plain HIF register; space of the event area that it frees takes the overflow events that wait (R28). -/
def hifSet (s : State) (a : Nat) (v : Word) : State :=
  if a = R.HIF_STG_CFG ∧ !stgOk s v then s
  else
    let s1 := plainReg s a v
    if a = R.HIF_STG_CFG ∨ a = R.HIF_EVT_SHARE then eachNat postOverflow s1 (List.range 64) else s1

/-! ### By address -/

/-- Writes a register that the configuration may set, or another one plainly. -/
def regSet (s : State) (a : Nat) (v : Word) : State :=
  if within a 0x4000E000 0x1000 then cycSet s a v
  else if within a 0x4000F000 0x1000 then dprSet s a v
  else if within a 0x40010000 0x18000 then sflSet s ((a - 0x40010000) / 0x1000) a v
  else if within a 0x40031000 0x1000 then fpcSet s a v
  else if within a 0x40032000 0x1000 ∨ 0x100000000 ≤ a then hifSet s a v
  else plainReg s a v

/-- Writes one field. -/
def fieldSet (s : State) (f : Fld) (v : Nat) : State := regSet s f.reg (fieldWord s f v)

end Sys2Proof.Machine
end

