-- ==== Sys2Proof/Machine/Config.lean ====
section
/-! DEFINITION. The configuration copies, costumes and calibration (R331 to R353). -/

namespace Sys2Proof.Machine

/-! ### Copies and entries (R332 to R336) -/

/-- CFG-A and CFG-B. -/
def copyImg (s : State) (k : Nat) : Img := fun o => s.byte (0x50000000 + 0x20000 * k + o)

/-- A half of the configuration store. -/
def halfImg (s : State) (h : Nat) : Img := fun o => s.byte ((s.reg R.CYC_CFG_BASE).toNat + 0x20000 * h + o)

def copySeq (m : Img) : Nat := imgLe m 8 4
def copyLen (m : Img) : Nat := imgLe m 12 4

/-- R334: the first field by which copy `k` is not valid. -/
def validErr (m : Img) (k : Nat) : Chk :=
  let field (c : Bool) (o : Nat) : Chk := need c St.checkFail 0 o
  firstErr [
    field (decide (imgLe m 0 4 = 0x47464346)) 0,
    field (decide (imgLe m 4 2 = 0x0100)) 4,
    field (decide (imgLe m 6 2 = 0x6400)) 6,
    field (decide (0x248 ≤ copyLen m ∧ copyLen m ≤ 131072 ∧ copyLen m % 4 = 0)) 0xC,
    field (decide (imgLe m 0x3C 4 = Nat.xor (copySeq m) 0x5EA1C0DE)) 0x3C,
    field (decide ((crc32cFrom (frameSeed 0xC0 k (copySeq m % 65536))
      (imgBytes (fun o => if 0x38 ≤ o ∧ o < 0x40 then 0 else m o) 0 (copyLen m))).toNat = imgLe m 0x38 4)) 0x38]

/-- R334. -/
def copyValid (m : Img) (k : Nat) : Bool := (validErr m k).isNone

def cfgEntry (m : Img) (o : Nat) : CfgEntry :=
  { at' := o, kind := (m o).toNat, lsb := (m (o + 1)).toNat, width := (m (o + 2)).toNat, obj := imgLe m (o + 4) 2,
    ofs := imgLe m (o + 6) 2, value := imgLe m (o + 8) 4 }

def cfgEntries (m : Img) (o n : Nat) : List CfgEntry := (List.range n).map (fun k => cfgEntry m (o + 16 * k))

def baseEntries (m : Img) : List CfgEntry := cfgEntries m (imgLe m 0x10 4) (imgLe m 0x14 2)

/-- Offset of the costume of directory entry `k`; 0: none (R341). -/
def costumeOfs (m : Img) (k : Nat) : Nat := imgLe m (0x40 + 4 * k) 4 % 2 ^ 17
def costumeN (m : Img) (k : Nat) : Nat := imgLe m (costumeOfs m k) 2
def costume (m : Img) (k : Nat) : List CfgEntry :=
  if costumeOfs m k = 0 then [] else cfgEntries m (costumeOfs m k + 4) (costumeN m k)

/-- The user calibration section (R348). -/
def ucalEntries (m : Img) : List (Nat × Nat × Nat) :=
  (List.range (imgLe m 0x16 2)).map (fun k =>
    let o := imgLe m 0x18 4 + 8 * k
    ((m o).toNat, imgLe m (o + 2) 2, imgLe m (o + 4) 2))

/-- The field that a REG entry names (R335, R336): of the HIF by its BAR0 offset. An offset past its block names no register;
0 stands for that. -/
def entryFld (e : CfgEntry) : Fld :=
  let a :=
    if e.obj = 0x32 then (if 0x100 ≤ e.ofs then 0x100000000 + e.ofs else 0x40032000 + e.ofs)
    else if e.ofs < 0x1000 then 0x40000000 + 0x1000 * e.obj + e.ofs
    else 0
  ⟨a, e.lsb, e.width⟩

/-- Start-only fields of R336. -/
def startFields : List Fld :=
  timingRegs.map (fun a => ⟨a, 0, 17⟩) ++
    [F.CYC_CTRL_SYNC_SRC, F.CYC_CTRL_CYCOUT_EN, F.CYC_CTRL_CYCOUT_W, F.CYC_PHASE_US,
     F.HIF_STG_CFG_TRND, F.HIF_STG_CFG_EVT, F.HIF_STG_CFG_SNAP]

/-- Other device-scope fields of R336. -/
def deviceFields : List Fld :=
  [F.CYC_ADM_CAP_PCT, F.CYC_EVT_EN_EN, F.DPR_CTRL_QUAR_EN, F.DPR_CTRL_STEAL_EN, F.DPR_SPARES_SP0, F.DPR_SPARES_SP1,
   F.DPR_SPARES_SP2, F.DPR_SPARES_SP3, F.DPR_WINDUP_LIMIT_LIMIT, F.DPR_EVT_EN_EN, F.FPC_SETTLE_MS, F.FPC_EVT_EN_EN,
   F.HIF_EVT_SHARE_MAX, F.HIF_DEV_EVT_EN_EN, F.MSE_SCRUB_CFG_EN, F.MSE_SCRUB_CFG_INTERVAL] ++
    ((List.range 24).map (fun l => [F.SFL_CTRL_EN l, F.SFL_RETRY_T_MS l, F.SFL_DIAG_POLL_CYCLES l, F.SFL_ACY_CFG_TIMEOUT l,
      F.SFL_ACY_CFG_REPEAT l, F.SFL_ACY_CFG_BURST l, F.SFL_EVT_EN_EN l])).flatten ++
    ((List.range 6).map (fun g => [F.FPC_CTRL_SLEW g, F.FPC_CTRL_EN g, F.FPC_ILIM_MV g, F.FPC_TLIM_MS g])).flatten

/-- Fields of partition `p`. -/
def partitionFields (p : Nat) : List Fld :=
  [⟨if p < 32 then R.DPR_REDISP_LO else R.DPR_REDISP_HI, p % 32, 1⟩,
   F.HIF_MOD_C_URG p, F.HIF_MOD_C_CYC p, F.HIF_MOD_C_TIME p, F.HIF_MOD_C_COUNT p,
   F.HIF_MOD_E_URG p, F.HIF_MOD_E_CYC p, F.HIF_MOD_E_TIME p, F.HIF_MOD_E_COUNT p, F.HIF_EVMASK_EN p]

/-- The scope of a configurable field: the device, or a partition. -/
inductive Scope where
  | device
  | part (p : Nat)
  deriving DecidableEq, Repr

/-- Scope and start-only mark of a field; `none`: it cannot be configured (R336). -/
def scopeOf (f : Fld) : Option (Scope × Bool) :=
  if startFields.contains f then some (.device, true)
  else if deviceFields.contains f then some (.device, false)
  else
    match (List.range 64).find? (fun p => (partitionFields p).contains f) with
    | some p => some (.part p, false)
    | none => none

/-- The block of a STATE entry has the offset below its SBL; a block that no plan in force holds has none (log entry 54). -/
def belowSbl (p : Option Plan) (e : CfgEntry) : Bool :=
  match p with
  | some q => !q.hasBlock e.obj || decide (e.ofs < (q.block e.obj).sbl)
  | none => true

/-- The form of an entry (R335); `p` the plan in force, if any. -/
def checkCfgEntry (m : Img) (p : Option Plan) (e : CfgEntry) : Chk :=
  let bad (c : Bool) (k : Nat) : Chk := need c St.badDescriptor 0 (e.at' + k)
  firstErr [
    bad (decide (1 ≤ e.kind ∧ e.kind ≤ 3)) 0,
    bad (if e.kind = 1 then decide (e.lsb ≤ 31) else decide (e.lsb = 0)) 1,
    bad (if e.kind = 1 then decide (1 ≤ e.width ∧ e.lsb + e.width ≤ 32) else decide (e.width = 32)) 2,
    bad (imgZero m (e.at' + 3) 1) 3,
    bad (if e.kind = 1 then decide (e.obj < 256) else if e.kind = 2 then decide (e.obj < 32768) else true) 4,
    bad (if e.kind = 3 then decide (e.ofs = 0) else decide (e.ofs % 4 = 0)) 6,
    bad (decide (e.kind ≠ 2) || belowSbl p e) 6,
    bad (decide (e.kind ≠ 1) || (scopeOf (entryFld e)).isSome) 6,
    bad (imgZero m (e.at' + 12) 4) 12]

/-- An entry of a costume (R342): `who` is the partition, or none for SERVICE, which has no owner to check STATE and SLOT entries
against (R343; log entry 54); `p` the plan in force, if any. -/
def checkCostumeEntry (m : Img) (p : Option Plan) (who : Option Nat) (e : CfgEntry) : Chk :=
  let own (c : Bool) : Chk := need c St.notOwner 0 e.at'
  if e.kind = 1 then
    match scopeOf (entryFld e) with
    | none => some ⟨St.badDescriptor, 0, e.at'⟩
    | some (sc, start) =>
      firstErr [
        need (!start) St.badDescriptor 0 e.at',
        own (match sc, who with
          | .device, none => true
          | .device, some k => decide (k = 0)
          | .part j, some k => decide (j = k)
          | .part _, none => false),
        need ((baseEntries m).any (fun b => decide (b.kind = 1 ∧ entryFld b = entryFld e))) St.badDescriptor 0 e.at']
  else
    match p, who with
    | some q, some k =>
      own (if e.kind = 2 then q.hasBlock e.obj && decide ((q.block e.obj).part = k)
           else decide ((q.bind e.obj).owner = k ∧ (q.bind e.obj).kind = 0))
    | _, none => none
    | none, _ => none

/-- The partition of a directory entry; none for SERVICE. -/
def costumeOwner (k : Nat) : Option Nat := if k = 128 then none else some (k / 2)

/-- Ranges of a copy's parts. -/
def copyParts (m : Img) : List (Nat × Nat) :=
  [(0, 0x248), (imgLe m 0x10 4, 16 * imgLe m 0x14 2), (imgLe m 0x18 4, 8 * imgLe m 0x16 2)] ++
    ((List.range 129).filter (fun k => decide (costumeOfs m k ≠ 0))).map (fun k => (costumeOfs m k, 4 + 16 * costumeN m k))

/-- The user calibration section (R348, R349). -/
def checkUcal (s : State) (m : Img) : Chk :=
  let l := ucalEntries m
  let o := imgLe m 0x18 4
  let u : SMap (Nat × Nat) := l
  firstErr [
    need (rising (l.map Prod.fst)) St.badDescriptor 0 o,
    eachChk (List.range l.length) (fun k => firstErr [
      need (match calItem (m (o + 8 * k)).toNat with | some c => c.user | none => false) St.badDescriptor 0 (o + 8 * k),
      need (imgZero m (o + 8 * k + 1) 1) St.badDescriptor 0 (o + 8 * k + 1),
      need (imgZero m (o + 8 * k + 6) 2) St.badDescriptor 0 (o + 8 * k + 6)]),
    need (decide ((effOf s 3 (userOf u 3)).1 < (effOf s 2 (userOf u 2)).1)) St.badDescriptor 0 o]

/-- The checks of R335, R336, R341 and R342 on a valid copy. -/
def checkCopy (s : State) (m : Img) : Chk :=
  let bad (c : Bool) (o : Nat) : Chk := need c St.badDescriptor 0 o
  firstErr [
    bad (decide (1 ≤ copySeq m ∧ copySeq m ≤ 0xFFFFFFFE)) 8,
    bad (decide (imgLe m 0x10 4 % 4 = 0)) 0x10,
    bad (decide (imgLe m 0x14 2 ≤ 4095)) 0x14,
    bad (decide (imgLe m 0x16 2 ≤ 256)) 0x16,
    bad (decide (imgLe m 0x18 4 % 4 = 0)) 0x18,
    bad (imgZero m 0x1C 28) 0x1C,
    bad (imgZero m 0x244 4) 0x244,
    eachChk (List.range 129) (fun k => bad (decide (imgLe m (0x40 + 4 * k) 4 < 2 ^ 17 ∧ costumeOfs m k % 4 = 0)) (0x40 + 4 * k)),
    eachChk ((List.range 129).filter (fun k => decide (costumeOfs m k ≠ 0))) (fun k =>
      bad (imgZero m (costumeOfs m k + 2) 2 && decide (costumeN m k ≤ 4095)) (costumeOfs m k)),
    eachChk (copyParts m) (fun r => bad (decide (r.1 + r.2 ≤ copyLen m)) r.1),
    bad (disjoint (copyParts m)) 0x40,
    eachChk (baseEntries m) (checkCfgEntry m s.plan),
    eachChk (List.range 129) (fun k => eachChk (costume m k) (checkCfgEntry m s.plan)),
    eachChk (List.range 129) (fun k => eachChk (costume m k) (checkCostumeEntry m s.plan (costumeOwner k))),
    checkUcal s m]

/-! ### Values and their sources (R343) -/

/-- The last REG entry of a list that names a field. -/
def named (l : List CfgEntry) (f : Fld) : Option Nat :=
  (l.reverse.find? (fun e => decide (e.kind = 1 ∧ entryFld e = f))).map (fun e => e.value % 2 ^ e.width)

/-- The costume that a field's scope looks at, by the modes given; 1 RUN, 2 TRACK, 0 absent. -/
def scopeCostume (modes : SMap Nat) (f : Fld) : Option Nat :=
  let p := match scopeOf f with | some (.part p, _) => p | _ => 0
  match SMap.get (fun _ => 0) modes p with
  | 1 => some (2 * p)
  | 2 => some (2 * p + 1)
  | _ => none

/-- Source and value of a field: 200 the SERVICE costume, 1 + k costume k, 0 the base entry. -/
def fieldSource (m : Img) (modes : SMap Nat) (svc : Bool) (f : Fld) : Option (Nat × Nat) :=
  let overlay :=
    match scopeCostume modes f with
    | some k => (named (costume m k) f).map (fun v => (1 + k, v))
    | none => none
  let base := (named (baseEntries m) f).map (fun v => (0, v))
  match (if svc then named (costume m 128) f else none) with
  | some v => some (200, v)
  | none => match overlay with | some x => some x | none => base

/-- Fields that the base section names, each once. -/
def baseFields (m : Img) : List Fld := ((baseEntries m).filter (fun e => decide (e.kind = 1))).map entryFld |>.dedup

/-- Modes of the partitions now: 0 absent, 1 RUN, 2 TRACK. -/
def modesNow (s : State) : SMap Nat :=
  ((List.range 64).filter (fun p => (s.thePlan.part p).present)).map (fun p => (p, if s.track p then 2 else 1))

/-! ### Entry writes (R344) -/

/-- A word written to a state block at a boundary, as a parameter write is (R300, R344): none reaches a cluster that is off or in
reset, or a word with an uncorrectable error (log entry 197). -/
def stateWrite (s : State) (home a v : Nat) : State :=
  if !s.serves (csmBase home) || badWord s a 4 true then s else s.store a (leBytes 4 v)

/-- One entry write of a partition's costume; skipped ones are counted. -/
def entryWrite (who : Option Nat) (s : State) (e : CfgEntry) : State :=
  let p := s.thePlan
  if e.kind = 2 then
    let b := p.block e.obj
    if p.hasBlock e.obj && decide (who = none ∨ who = some b.part) && decide (e.ofs < b.sbl) then
      stateWrite s b.home (csmBase b.home + b.sbase + e.ofs) e.value
    else s.countReg R.CYC_CFG_SKIP
  else if e.kind = 3 then
    let b := p.bind e.obj
    if decide (b.kind = 0) && decide (who = none ∨ who = some b.owner) then s.writeInternal e.obj (some (word e.value)) none
    else s.countReg R.CYC_CFG_SKIP
  else s

/-- The entry writes of costume `k`. -/
def entryWrites (s : State) (m : Img) (k : Nat) : State := (costume m k).foldl (entryWrite (costumeOwner k)) s

/-! ### Application -/

/-- Writes every field of the copy in force whose source or value has changed (R340, R343). -/
def applyFields (s : State) (m : Img) (modes : SMap Nat) (svc : Bool) (old : Fld → Option (Nat × Nat)) (oldBase : Fld → Option Nat) :
    State :=
  (baseFields m).foldl (fun t f =>
    let new := fieldSource m modes svc f
    if new = old f ∧ named (baseEntries m) f = oldBase f then t
    else match new with | some x => fieldSet t f x.2 | none => t) s

/-- The host's configuration write ends with its copy (R351). -/
def cfgTell (s : State) (status : Nat) : State :=
  match s.cfg.by' with
  | some n => hostComplete { s with cfg := { s.cfg with by' := none } } n { status := status }
  | none => s

/-- A PENDING copy becomes the copy in force (R340): base fields, calibration, overlays. -/
def takeCopy (s : State) : State :=
  match s.cfg.pend with
  | none => s
  | some h =>
    let m := halfImg s h
    let old (f : Fld) : Option (Nat × Nat) := match s.cfg.half with
      | some g => fieldSource (halfImg s g) s.cfg.modes s.cfg.svc f
      | none => none
    let oldBase (f : Fld) : Option Nat := match s.cfg.half with
      | some g => named (baseEntries (halfImg s g)) f
      | none => none
    let s1 := { s with cfg := { s.cfg with half := some h, pend := none } }
    let s2 := useCal (applyFields s1 m s.cfg.modes s.cfg.svc old oldBase) (ucalEntries m)
    let copy := 1 - s.fld F.CYC_CFG_STATUS_IN_FORCE
    let inForce := if s.cfg.half.isNone then 0 else copy
    let s3 := ((s2.setFld F.CYC_CFG_STATUS_STATE 1).setFld F.CYC_CFG_STATUS_IN_FORCE inForce).setReg R.CYC_CFG_SEQ (word (copySeq m))
    cfgTell (evcIf ((s3.setFld F.CYC_CFG_STATUS_DONE 1).setFld F.CYC_CFG_STATUS_RESULT St.ok) F.CYC_CFG_EVT_EN_EN 54 0) St.ok

/-- The overlays of the modes as they now are (R343): every field whose source has changed is written. -/
def cfgOverlays (s : State) : State :=
  let s1 := match s.cfg.half with
    | none => s
    | some h =>
      let m := halfImg s h
      applyFields s m (modesNow s) s.service (fieldSource m s.cfg.modes s.cfg.svc) (named (baseEntries m))
  { s1 with cfg := { s1.cfg with modes := modesNow s, svc := s.service } }

/-- The costumes whose entry writes a boundary performs, by directory entry (R343): those of the modes entered since the overlays
were last computed, in ascending partition number, and that of SERVICE last. At the boundary that opens the first cycle every
present partition counts as entering TRACK, whichever mode it was left in (log entry 198). -/
def enteredCostumes (s : State) : List Nat :=
  let now := modesNow s
  (if s.cfg.first then now.map (fun e => 2 * e.1 + 1)
   else (now.filter (fun e => decide (SMap.get (fun _ => 0) s.cfg.modes e.1 ≠ e.2))).map (fun e => 2 * e.1 + (e.2 - 1))) ++
  (if s.service && !s.cfg.svc then [128] else [])

/-- Step 5 of R20 for the configuration: a PENDING copy, overlays of the modes as they now are, entry writes (R340,
R343). -/
def cfgBoundary (s : State) : State :=
  let s1 := takeCopy s
  let s2 := cfgOverlays s1
  let s3 := match s1.cfg.half with
    | none => s2
    | some h => (enteredCostumes s1).foldl (fun t k => entryWrites t (halfImg s1 h) k) s2
  { s3 with cfg := { s3.cfg with first := false } }

/-! ### SELECT, COMMIT, ABORT (R337 to R340) -/

/-- A SELECT, COMMIT or ABORT ends. -/
def cfgEnd (s : State) (status : Nat) : State :=
  evcIf ((s.setFld F.CYC_CFG_STATUS_DONE 1).setFld F.CYC_CFG_STATUS_RESULT status) F.CYC_CFG_EVT_EN_EN 54 0

/-- The validity of both copies is recorded. -/
def markValid (s : State) : State :=
  (s.setFld F.CYC_CFG_STATUS_VALID_A (if copyValid (copyImg s 0) 0 then 1 else 0)).setFld F.CYC_CFG_STATUS_VALID_B
    (if copyValid (copyImg s 1) 1 then 1 else 0)

/-- Loads a copy into a half of the store. -/
def loadCopy (s : State) (k h : Nat) : State :=
  s.setBytes ((s.reg R.CYC_CFG_BASE).toNat + 0x20000 * h) (imgBytes (copyImg s k) 0 (copyLen (copyImg s k)))

/-- A selected copy comes into force: every base entry, then its user calibration (R338). -/
def useCopy (s : State) (k : Nat) : State :=
  let m := copyImg s k
  let s1 := loadCopy s k 0
  let s2 := { s1 with cfg := { half := some 0, pend := none, user := [], modes := [], svc := false, by' := s.cfg.by' } }
  let s3 := (baseEntries m).foldl (fun t e =>
    if e.kind = 1 then fieldSet t (entryFld e) (e.value % 2 ^ e.width) else entryWrite none t e) s2
  let s4 := useCal s3 (ucalEntries m)
  (((s4.setFld F.CYC_CFG_STATUS_STATE 1).setFld F.CYC_CFG_STATUS_IN_FORCE k).setReg R.CYC_CFG_SEQ (word (copySeq m)))

/-- No copy comes into force. -/
def noCopy (s : State) (e : LoadErr) : State :=
  let s1 := { s with cfg := { half := none, pend := none, user := [], modes := [], svc := false, by' := s.cfg.by' } }
  cfgEnd (((s1.setFld F.CYC_CFG_STATUS_STATE 0).setReg R.CYC_CFG_SEQ 0).setReg R.CYC_CFG_ERR (word e.ofs)) e.status

/-- The store lies in MGS at a multiple of 0x4_0000 (R352). -/
def storeOk (s : State) : Bool := inMgs (s.reg R.CYC_CFG_BASE).toNat 0x40000 0x40000

/-- SELECT (R337, R338). -/
def cfgSelect (s : State) : State :=
  let s0 := (if s.cycEn then s else cfgTell s St.cancelled).setFld F.CYC_CFG_CTRL_OP 1
  if s0.cycEn then cfgEnd s0 St.modeRefused
  else if !storeOk s0 then cfgEnd s0 St.badDescriptor
  else
    let va := copyValid (copyImg s0 0) 0
    let vb := copyValid (copyImg s0 1) 1
    let qa := copySeq (copyImg s0 0)
    let qb := copySeq (copyImg s0 1)
    let s1 := (markValid s0).setFld F.CYC_CFG_STATUS_EQUAL (if va && vb && decide (qa = qb) then 1 else 0)
    let s2 := s1.setFld F.CYC_CFG_STATUS_FALLBACK 0
    if !va && !vb then noCopy s2 ((validErr (copyImg s2 0) 0).getD ⟨St.checkFail, 0, 0⟩)
    else
      let k := if va && (!vb || decide (qb ≤ qa)) then 0 else 1
      match checkCopy s2 (copyImg s2 k) with
      | none => cfgEnd (useCopy s2 k) St.ok
      | some e =>
        if va && vb then
          let s3 := (s2.setFld F.CYC_CFG_STATUS_FALLBACK 1).setReg R.CYC_CFG_ERR (word e.ofs)
          (match checkCopy s3 (copyImg s3 (1 - k)) with
           | none => cfgEnd (useCopy s3 (1 - k)) St.ok
           | some _ => noCopy s3 e)
        else noCopy s2 e

/-- The target copy (R339). -/
def targetCopy (s : State) : Nat := if s.cfg.half.isNone then 0 else 1 - s.fld F.CYC_CFG_STATUS_IN_FORCE

/-- The first base entry by which the copy changes a start-only field (R340). -/
def startChanged (s : State) (m : Img) : Option CfgEntry :=
  (baseEntries m).find? (fun e =>
    let f := entryFld e
    let old := match s.cfg.half with | some h => (named (baseEntries (halfImg s h)) f).getD (s.fld f) | none => s.fld f
    decide (e.kind = 1) && startFields.contains f && decide (named (baseEntries m) f ≠ some old))

/-- COMMIT (R340). -/
def cfgCommit (s : State) : State :=
  let s0 := s.setFld F.CYC_CFG_CTRL_OP 2
  if s0.cfg.pend.isSome then cfgEnd s0 St.busy
  else
    let k := targetCopy s0
    let m := copyImg s0 k
    let s1 := markValid s0
    let refuse (e : LoadErr) : State :=
      let s2 := if copyValid m k then s1.wr (0x50000000 + 0x20000 * k + 0x3C) 4 0 else s1
      cfgTell (cfgEnd (s2.setReg R.CYC_CFG_ERR (word e.ofs)) e.status) e.status
    if !copyValid m k then refuse ((validErr m k).getD ⟨St.checkFail, 0, 0⟩)
    else if copySeq m ≠ (s1.reg R.CYC_CFG_SEQ).toNat + 1 then refuse ⟨St.stale, 0, 8⟩
    else
      match checkCopy s1 m with
      | some e => refuse e
      | none =>
        match (if s1.cycEn then startChanged s1 m else none) with
        | some e => refuse ⟨St.modeRefused, 0, e.at' + 8⟩
        | none =>
        if !storeOk s1 then refuse ⟨St.badDescriptor, 0, 0⟩
        else
          let h := match s1.cfg.half with | some g => 1 - g | none => 0
          let s2 := (loadCopy s1 k h).setFld F.CYC_CFG_STATUS_STATE 2
          let s3 := { s2 with cfg := { s2.cfg with pend := some h } }
          if s3.cycEn then s3 else recomputeCaps (cfgOverlays (takeCopy s3))

/-- ABORT (R340): a PENDING copy is discarded; its latch instant has not come, since BOUNDARY_LATCH takes it there. -/
def cfgAbort (s : State) : State :=
  let s0 := s.setFld F.CYC_CFG_CTRL_OP 3
  if s0.cfg.pend.isNone then s0
  else
    let s1 := { s0 with cfg := { s0.cfg with pend := none } }
    cfgTell (cfgEnd (s1.setFld F.CYC_CFG_STATUS_STATE (if s1.cfg.half.isSome then 1 else 0)) St.cancelled) St.cancelled

/-- SELECT (R337). -/
def execSelect (s : State) : Outcome := atReg s R.CYC_CFG_CTRL 0x80000001 (cfgSelect s)

/-- CFG_COMMIT (R340). -/
def execCfgCommit (s : State) : Outcome := atReg s R.CYC_CFG_CTRL 0x80000002 (cfgCommit s)

/-- CFG_ABORT (R340). -/
def execCfgAbort (s : State) : Outcome := atReg s R.CYC_CFG_CTRL 0x80000003 (cfgAbort s)

end Sys2Proof.Machine
end

