-- ==== Sys2Proof/Machine/Boot.lean ====
section
/-! DEFINITION. Boot and image trust: fuses, the SEC state and the start counts with their logs in Parameter Flash, the check
of a boot image, the choice of a slot and the release of the MC, confirmation, and debug unlock (R379, R384 to R406,
R411 to R414). -/

namespace Sys2Proof.Machine

/-- The low `n` bytes of a number, most significant first (the exception of R388 to R11). -/
def beBytes (n v : Nat) : List Byte := (leBytes n v).reverse

/-- A number from bytes, most significant first. -/
def beNat (l : List Byte) : Nat := leNat l.reverse

/-- The ASCII bytes of a label. -/
def ascii (t : String) : List Byte := t.toList.map (fun c => BitVec.ofNat 8 c.toNat)

/-! ### Logs in Parameter Flash (R379) -/

def pflBase : Nat := 0x58000000
def sectorAt (k : Nat) : Nat := pflBase + 4096 * k
def allOnes : Nat := 2 ^ 64 - 1

/-- A record: key, data, and whether its commit word and CRC hold. -/
structure LogRec where
  key : Nat
  data : List Byte
  good : Bool
  deriving DecidableEq, Repr

/-- Words of data of a record of `len` bytes. -/
def recWords (len : Nat) : Nat := (len + 7) / 8

/-- The records of a sector from an offset on, and the offset at which the next record would stand; `none` where a broken
header word ends the records. -/
def logFrom (s : State) (k : Nat) : Nat → Nat → List LogRec × Option Nat
  | 0, o => ([], some o)
  | fuel + 1, o =>
    if 4096 < o + 24 then ([], some o)
    else
      let h := s.rd (sectorAt k + o) 8
      let len := h / 65536 % 4096
      let n := recWords len
      if h = allOnes then ([], some o)
      else if has s.ecc2 (sectorAt k + o) || decide (len < 1 ∨ 4048 < len ∨ 4096 < o + 16 + 8 * n) then ([], none)
      else
        let d := s.bytes (sectorAt k + o + 8) len
        let good := decide (s.rd (sectorAt k + o + 8 + 8 * n) 8 = allOnes - h ∧ (crc32c d).toNat = h / 2 ^ 32)
        let r := logFrom s k fuel (o + 16 + 8 * n)
        (⟨h % 65536, d, good⟩ :: r.1, r.2)

/-- The sector is open: MAGIC and ACTIVE programmed, OBSOLETE erased. -/
def sectorOpen (s : State) (k : Nat) : Bool :=
  decide (s.rd (sectorAt k) 4 = 0x474F4C45 ∧ s.rd (sectorAt k + 8) 8 = 0x4143544956450000 ∧ s.rd (sectorAt k + 16) 8 = allOnes)

/-- The newest good record of a key in a sector. -/
def newestIn (s : State) (k key : Nat) : Option (List Byte) :=
  if sectorOpen s k then
    (((logFrom s k 256 32).1.filter (fun r => r.good && r.key == key)).getLast?).map LogRec.data
  else none

/-- Opens an erased sector with SSEQ and ERASES, the ACTIVE marker last (R379). -/
def openSector (s : State) (k sseq erases : Nat) : State :=
  let s1 := (s.wr (sectorAt k) 4 0x474F4C45).wr (sectorAt k + 4) 4 sseq
  (s1.wr (sectorAt k + 24) 8 (erases % 2 ^ 32)).wr (sectorAt k + 8) 8 0x4143544956450000

/-- The record's words at an offset: header, data padded with 0xFF, commit word. -/
def putRecord (s : State) (k o key : Nat) (d : List Byte) : State :=
  let h := key + d.length * 65536 + (crc32c d).toNat * 2 ^ 32
  let n := recWords d.length
  let body := d ++ List.replicate (8 * n - d.length) 0xFF
  ((s.wr (sectorAt k + o) 8 h).setBytes (sectorAt k + o + 8) body).wr (sectorAt k + o + 8 + 8 * n) 8 (allOnes - h)

/-- Where a record of `len` bytes can be appended in an open sector. -/
def roomAt (s : State) (k len : Nat) : Option Nat :=
  match (logFrom s k 256 32).2 with
  | some o => if o + 16 + 8 * recWords len ≤ 4096 then some o else none
  | none => none

/-- ERASES and SSEQ of a sector; 0 where it has no header; ERASES of its next header, after an erase. -/
def sectorErases (s : State) (k : Nat) : Nat := if s.rd (sectorAt k) 4 = 0x474F4C45 then s.rd (sectorAt k + 24) 4 else 0
def sectorSeq (s : State) (k : Nat) : Nat := if s.rd (sectorAt k) 4 = 0x474F4C45 then s.rd (sectorAt k + 4) 4 else 0

def nextErases (s : State) (k : Nat) : Nat := if s.rd (sectorAt k) 4 = 0x474F4C45 then sectorErases s k + 1 else 0

/-! ### The mirror log, sectors 2 and 3 (R397) -/

/-- The open sector of the mirror log. -/
def mirrorSector (s : State) : Option Nat :=
  match sectorOpen s 2, sectorOpen s 3 with
  | true, true => some (if sectorSeq s 2 < sectorSeq s 3 then 3 else 2)
  | true, false => some 2
  | false, true => some 3
  | false, false => none

def mirrorNewest (s : State) (key : Nat) : Option (List Byte) :=
  match mirrorSector s with
  | some k => newestIn s k key
  | none => none

/-- Copies the newest record of a key of a sector into another. -/
def copyNewest (s : State) (from' to' key : Nat) : State :=
  match newestIn s from' key with
  | none => s
  | some d => match roomAt s to' d.length with | some o => putRecord s to' o key d | none => s

/-- Appends a record to the mirror log, through the other sector where it does not fit (R397). -/
def mirrorAppend (s : State) (key : Nat) (d : List Byte) : State :=
  match mirrorSector s with
  | none =>
    let s1 := openSector (eraseSector s 2) 2 1 (nextErases s 2)
    putRecord s1 2 32 key d
  | some k =>
    match roomAt s k d.length with
    | some o => putRecord s k o key d
    | none =>
      let j := 5 - k
      let s1 := openSector (eraseSector s j) j (sectorSeq s k + 1) (nextErases s j)
      let s2 := copyNewest (copyNewest s1 k j 1) k j 2
      let s3 := match roomAt s2 j d.length with | some o => putRecord s2 j o key d | none => s2
      s3.wr (sectorAt k + 16) 8 0x4F42534F4C455445

/-! ### The emulation record log, sectors 4 to 63 (R379 to R381) -/

def logSectors : List Nat := (List.range 60).map (· + 4)

/-- Every word of the sector reads as erased and none was programmed: a listed byte is none that `blank` reads. -/
def sectorErased (s : State) (k : Nat) : Bool :=
  s.mem.all (fun c => !within c.1 (sectorAt k) 4096) && s.pfl.ones.all (fun a => !within a (4096 * k) 4096)
    && (s.ecc1 ++ s.ecc2).all (fun a => !within a (sectorAt k) 4096)

/-- The sector is headed by a valid word 0 (R379). -/
def sectorHeaded (s : State) (k : Nat) : Bool := decide (s.rd (sectorAt k) 4 = 0x474F4C45) && !has s.ecc2 (sectorAt k)

/-- Of a list of sectors, the one of highest SSEQ, and the one of lowest. -/
def highestSeq (s : State) (l : List Nat) : Option Nat :=
  l.foldl (fun b k => match b with | none => some k | some j => if sectorSeq s j < sectorSeq s k then some k else b) none
def lowestSeq (s : State) (l : List Nat) : Option Nat :=
  l.foldl (fun b k => match b with | none => some k | some j => if sectorSeq s k < sectorSeq s j then some k else b) none

/-- The sectors that carry ACTIVE without OBSOLETE; the active sector is the one of highest SSEQ (R380). -/
def openSectors (s : State) : List Nat := logSectors.filter (sectorOpen s)

/-- The erased sector that follows `k` in the ring 4 → 5 → … → 63 → 4 (R380). -/
def nextErased (s : State) (k : Nat) : Option Nat :=
  ((List.range 59).map (fun i => (k - 4 + 1 + i) % 60 + 4)).find? (sectorErased s)

/-- A record is appended in the active sector, or in the next erased sector of the ring where it does not fit; the new header carries
ERASES on from the header before it in the ring (R379, R380; log entry 195). -/
def appendRaw (s : State) (key : Nat) (d : List Byte) : Option State :=
  match highestSeq s (openSectors s) with
  | none => none
  | some k =>
    match roomAt s k d.length with
    | some o => some (putRecord s k o key d)
    | none =>
      (nextErased s k).map (fun j => putRecord (openSector s j (sectorSeq s k + 1) (sectorErases s k)) j 32 key d)

/-- Copies forward the newest good record of each listed key that no other open sector holds; none where one finds no room. -/
def copyForward (k : Nat) (s : State) : List Nat → Option State
  | [] => some s
  | key :: l =>
    if (openSectors s).any (fun j => j != k && (newestIn s j key).isSome) then copyForward k s l
    else
      match newestIn s k key with
      | none => copyForward k s l
      | some d =>
        match appendRaw s key d with
        | none => none
        | some t => copyForward k t l

/-- The keys of a sector's records. -/
def logKeys (s : State) (k : Nat) : List Nat := ((logFrom s k 256 32).1.map LogRec.key).dedup

/-- The sector of lowest SSEQ is reclaimed: its newest records are copied forward, OBSOLETE is programmed, and it is erased (R380). A
record that finds no room leaves it as it is. -/
def reclaim (s : State) : State :=
  match lowestSeq s (logSectors.filter (sectorHeaded s)) with
  | none => s
  | some k =>
    if some k = highestSeq s (openSectors s) then s
    else
      match copyForward k s (logKeys s k) with
      | none => s
      | some t => eraseSector (t.wr (sectorAt k + 16) 8 0x4F42534F4C455445) k

/-- Opening another sector would leave fewer than 2 erased ones (R380). -/
def logTight (s : State) : Bool := decide ((logSectors.filter (sectorErased s)).length ≤ 2)

/-- A writer's append (R380): before the erased sectors fall below 2, the sector of lowest SSEQ is reclaimed. -/
def logAppend (s : State) (key : Nat) (d : List Byte) : Option State :=
  match highestSeq s (openSectors s) with
  | none => none
  | some k => appendRaw (if (roomAt s k d.length).isNone && logTight s then reclaim s else s) key d

/-- The second repair of R381: of two sectors with ACTIVE and without OBSOLETE, the one of lower SSEQ is retired after its newest
records are copied forward. -/
def retireSecond (s : State) : State :=
  if (openSectors s).length < 2 then s
  else
    match lowestSeq s (openSectors s) with
    | none => s
    | some k =>
      match copyForward k s (logKeys s k) with
      | none => s
      | some t => t.wr (sectorAt k + 16) 8 0x4F42534F4C455445

/-- The repairs of the log at start (R381), made before the SP's own first append. DEDUCED: the SP, whose ROM also writes the log,
makes them, and a record that finds no room leaves the second sector as it is (log entry 191). -/
def repairLog (s : State) : State :=
  retireSecond (logSectors.foldl (fun t k => if sectorErased t k || sectorHeaded t k then t else eraseSector t k) s)

/-! ### The SEC state (R396) -/

/-- ACTIVE, TRIAL with its slot, and MINVER. -/
structure Sec where
  minver : Nat := 0
  active : Nat := 0
  trial : Bool := false
  trialSlot : Nat := 0
  deriving DecidableEq, Repr

def secOf (l : List Byte) : Sec :=
  { minver := leNat (l.take 4), active := (l.getD 4 0).toNat % 2, trial := l.getD 5 0 == 1, trialSlot := (l.getD 6 0).toNat % 2 }

def Sec.bytes (x : Sec) : List Byte :=
  leBytes 4 x.minver ++ leBytes 1 x.active ++ leBytes 1 (if x.trial then 1 else 0) ++ leBytes 1 x.trialSlot ++ [0]

/-- The SEC state: the newest record of sector 0, else of key 0x0002 of the mirror log, else A, no trial, 0. -/
def State.sec (s : State) : Sec :=
  match newestIn s 0 0x10 with
  | some d => secOf d
  | none => match mirrorNewest s 2 with | some d => secOf d | none => {}

/-- Writes the SEC state, reclaiming sector 0 where the record does not fit (R396). -/
def writeSec (s : State) (x : Sec) : State :=
  if sectorOpen s 0 then
    match roomAt s 0 8 with
    | some o => putRecord s 0 o 0x10 x.bytes
    | none =>
      let s1 := eraseSector (mirrorAppend s 2 s.sec.bytes) 0
      putRecord (openSector s1 0 (sectorSeq s 0 + 1) (nextErases s 0)) 0 32 0x10 x.bytes
  else putRecord (openSector (eraseSector s 0) 0 (sectorSeq s 0 + 1) (nextErases s 0)) 0 32 0x10 x.bytes

/-! ### Start counts (R397) -/

/-- FAIL_A, FAIL_B, PENDING and PEND_SLOT. -/
structure Counts where
  a : Nat := 0
  b : Nat := 0
  pending : Bool := false
  slot : Nat := 0
  deriving DecidableEq, Repr

def Counts.fail (c : Counts) (slot : Nat) : Nat := if slot = 0 then c.a else c.b
def Counts.setFail (c : Counts) (slot n : Nat) : Counts := if slot = 0 then { c with a := min n 15 } else { c with b := min n 15 }

/-- The four bytes of the counts with their check byte (log entry 17). -/
def Counts.bytes (c : Counts) : List Byte :=
  let x : Byte := BitVec.ofNat 8 (c.a + 16 * c.b)
  let y : Byte := BitVec.ofNat 8 ((if c.pending then 1 else 0) + 2 * c.slot)
  [x, y, 0, ~~~(x ^^^ y)]

def countsOf (l : List Byte) : Counts :=
  let x := (l.getD 0 0).toNat
  let y := (l.getD 1 0).toNat
  { a := x % 16, b := x / 16, pending := decide (y % 2 = 1), slot := y / 2 % 2 }

/-- The check byte holds. -/
def countsGood (l : List Byte) : Bool := l.getD 3 0 == ~~~(l.getD 0 0 ^^^ l.getD 1 0 ^^^ l.getD 2 0)

def bkdRam : Nat := 0x40005100

/-- The counts: from the backup RAM where the check byte holds, else from the mirror log. -/
def State.counts (s : State) : Counts :=
  if countsGood (s.bytes bkdRam 4) then countsOf (s.bytes bkdRam 4)
  else match mirrorNewest s 1 with | some d => countsOf d | none => {}

/-- Writes the counts, backup RAM and mirror. -/
def writeCounts (s : State) (c : Counts) : State := mirrorAppend (s.setBytes bkdRam c.bytes) 1 c.bytes

/-! ### The boot image (R388 to R392) -/

/-- A section entry (R389). -/
structure BootSect where
  type : Nat
  clmask : Nat
  src : Nat
  dest : Nat
  len : Nat
  digest : List Byte
  deriving DecidableEq, Repr

def bootN (m : Img) : Nat := imgLe m 0xC 2

def bootSect (m : Img) (i : Nat) : BootSect :=
  let o := 0x40 + 48 * i
  ⟨imgLe m o 1, imgLe m (o + 1) 1, imgLe m (o + 4) 4, imgLe m (o + 8) 4, imgLe m (o + 12) 4, imgBytes m (o + 16) 32⟩

def bootSects (m : Img) : List BootSect := (List.range (bootN m)).map (bootSect m)

/-- One section is well formed (R389, R390). -/
def bootSectOk (m : Img) (i : Nat) : Bool :=
  let t := bootSect m i
  imgZero m (0x42 + 48 * i) 2 &&
    decide (1 ≤ t.type ∧ t.type ≤ 4 ∧ t.src % 4 = 0 ∧ 0x400 ≤ t.src ∧ t.len % 4 = 0 ∧ 4 ≤ t.len ∧ t.src + t.len ≤ 0x800000) &&
    (match t.type with
     | 1 => decide (t.clmask = 0 ∧ 0x10000000 ≤ t.dest ∧ t.dest + t.len ≤ 0x10180000)
     | 2 => decide (t.clmask < 16 ∧ t.dest + t.len ≤ 0x8000)
     | _ => decide (t.clmask = 0 ∧ t.dest = 0))

/-- Two copied sections overlap at their destinations. -/
def bootOverlap (a b : BootSect) : Bool :=
  decide (a.dest < b.dest + b.len ∧ b.dest < a.dest + a.len) &&
    (decide (a.type = 1 ∧ b.type = 1) || (decide (a.type = 2 ∧ b.type = 2) && decide (a.clmask &&& b.clmask ≠ 0)))

def anyOverlap : List BootSect → Bool
  | [] => false
  | a :: l => l.any (bootOverlap a) || anyOverlap l

/-- MC_ENTRY and CONFIRM of a header. -/
def bootEntry (m : Img) : Nat := imgLe m 0x10 4
def bootConfirm (m : Img) : Nat := let c := imgLe m 0x16 2; if c = 0 then 50 else c

/-- FORMAT is judged before; well formed, ranges and reserved fields (R388 to R390). -/
def bootFormed (m : Img) : Bool :=
  let l := bootSects m
  let fl := (m 0xF).toNat
  let cf := imgLe m 0x16 2
  decide (1 ≤ bootN m ∧ bootN m ≤ 16 ∧ (m 0xE).toNat < 4 ∧ fl < 2 ∧ (fl = 0 ∨ (4 ≤ (m 0x14).toNat ∧ (m 0x14).toNat ≤ 30)) ∧
      (m 0x15).toNat ≤ 8 ∧ (cf = 0 ∨ (10 ≤ cf ∧ cf ≤ 600))) &&
    imgZero m 0x20 32 && imgZero m 0x3E0 32 && (List.range (bootN m)).all (bootSectOk m) &&
    imgZero m (0x40 + 48 * bootN m) (48 * (16 - bootN m)) && !anyOverlap l &&
    decide ((l.filter (fun t => t.type == 3)).length ≤ 1) &&
    l.any (fun t => t.type == 1 && decide (t.dest ≤ bootEntry m ∧ bootEntry m < t.dest + t.len))

/-- The keys that the SP derives from the DUK (R384). -/
def kImg (s : State) : List Byte := Config.hmacSha256 (beBytes 32 s.boot.fuses.duk) (ascii "FD6400-IMG")
def kDbg (s : State) : List Byte := Config.hmacSha256 (beBytes 32 s.boot.fuses.duk) (ascii "FD6400-DBG")

def digestFuse (s : State) (slot : Nat) : Nat := SMap.get (fun _ => 0) s.boot.fuses.keyDigest slot

/-- A public key is the one of a slot, and the slot is not revoked (R391, R413). -/
def keyOk (s : State) (slot : Nat) (pub : List Byte) : Bool :=
  decide (Config.sha256 pub = beBytes 32 (digestFuse s slot)) && !s.boot.fuses.keyRevoke.testBit slot

/-- Authentication of a header (R391). -/
def bootAuth (s : State) (m : Img) : Bool :=
  let body := imgBytes m 0 0x340
  let pub := imgBytes m 0x3A0 64
  let hm := decide (Config.hmacSha256 (kImg s) body = imgBytes m 0x340 32)
  let ec := keyOk s (m 0xE).toNat pub && Config.ecdsaVerify pub (Config.sha256 body) (imgBytes m 0x360 64)
  match s.boot.fuses.authMode with
  | 0 => hm
  | 1 => ec
  | _ => hm && ec

/-- The header's part of the check, steps 1 to 4 of R392. `flash`: 0 answers, 1 does not respond, 2 fails in the sections; a flat
start skips steps 3 and 4 (R387); `size` bounds the stream. -/
def headerCheck (s : State) (m : Img) (flash size : Nat) (flat : Bool) : Nat :=
  if flash = 1 then St.busError
  else if imgLe m 0 4 ≠ 0x544F4F42 ∨ imgLe m 6 2 ≠ 0x6400 then St.badDescriptor
  else if imgLe m 4 2 ≠ 0x0100 then St.versionRefused
  else if !bootFormed m || (bootSects m).any (fun t => decide (size < t.src + t.len)) then St.badDescriptor
  else if !flat && !bootAuth s m then St.authFail
  else if !flat && decide (imgLe m 8 4 < s.sec.minver) then St.versionRefused
  else St.ok

/-- The check of an image in the order of R392, 0 where it passes. -/
def bootCheck (s : State) (m : Img) (flash size : Nat) (flat : Bool) : Nat :=
  if headerCheck s m flash size flat ≠ St.ok then headerCheck s m flash size flat
  else if flash = 2 then St.busError
  else if (bootSects m).all (fun t => decide (Config.sha256 (imgBytes m t.src t.len) = t.digest)) then St.ok
  else St.checkFail

/-! ### The start sequence (R385, R387, R399) -/

/-- A slot's image in the octal flash. -/
def slotImg (s : State) (slot : Nat) : Img := fun k => s.byte (0x60000000 + 0x800000 * slot + k)

/-- A copied section stands at its destination (R389). -/
def copySect (m : Img) (s : State) (t : BootSect) : State :=
  let d := imgBytes m t.src t.len
  match t.type with
  | 1 => s.setBytes t.dest d
  | 2 => eachNat (fun u n => if t.clmask.testBit (n / 16) then u.setBytes (limBase n + t.dest) d else u) s (List.range 64)
  | _ => s

/-- The XBL reads a slot (R386, R393): the header in 1S-1S-1S; the sections too, unless the header asks for 8D-8D-8D and BOOTSEL lets
the XBL switch, with the write enable and the SW bytes. BOOTSEL 11 behaves as 00. `past`: the header passed. -/
def xblRead (s : State) (m : Img) (past : Bool) : List XblCmd :=
  .read false 0x0B 8 ::
    (if past && (m 0xF).toNat.testBit 0 && s.boot.bootsel != 1 then
      [.writeEnable, .modeSwitch (imgBytes m 0x18 (m 0x15).toNat), .read true 0xEEEE (m 0x14).toNat]
     else [])

/-- A processor leaves reset at an address, in supervisor mode (R98). -/
def releaseCpu (s : State) (p : ProcId) (pc : Nat) : State :=
  s.setCpu p { r := { pc := word pc }, k := { state := .kernel, cmps := (s.cpu p).k.cmps } }

/-- The EVC leaves reset with the MC: the sources latched in `PMU_WAKE_PEND` are pending with CNT 1 (R519). -/
def evcFromWatch (s : State) : State :=
  let w := s.reg R.PMU_WAKE_PEND
  let cnt (j : Nat) : Word := word ((List.range 8).map (fun i => if w.toNat.testBit (8 * j + i) then 16 ^ i else 0)).sum
  eachNat (fun t j => t.setReg (R.EVC_CNT j) (cnt j)) (s.setReg (R.EVC_PEND 0) w) (List.range 4)

/-- WDT_SP is loaded with a period in ms, and runs from now (R402, R529). -/
def wdtSpLoad (s : State) (ms : Nat) : State :=
  let s1 := (s.setFld F.WDT_SP_CTRL_PERIOD ms).setFld F.WDT_SP_CTRL_EN 1
  { s1 with per := { s1.per with wdtSp := { since := s.tb } } }

/-- WDT_SP is loaded with the SP's own supervision period, which no rule gives: a free value (R402). -/
def wdtSpOwn (s : State) : State := wdtSpLoad s.draw.2 s.draw.1

/-- Step 6 of R385: the sections are copied, the window is locked in a secured start, the confirmation armed, and the MC
released. -/
def releaseMc (s : State) (slot : Nat) : State :=
  let m := slotImg s slot
  let s1 := wdtSpLoad ((bootSects m).foldl (copySect m) s) (100 * bootConfirm m)
  let s2 := { s1 with boot := { s1.boot with
    lock := !s.flat, header := imgBytes m 0 1024, wdt := .confirm, confirmEnd := s.tb + bootConfirm m * 10000000 } }
  let x := s2.sec
  let s3 := (s2.setFld F.SPM_BOOT_STAT_SLOT slot).setFld F.SPM_BOOT_STAT_TRIAL (if x.trial && x.trialSlot == slot then 1 else 0)
  evcFromWatch (releaseCpu (((s3.setFld F.SPM_BOOT_STAT_FLAT (if s.flat then 1 else 0)).setFld F.SPM_BOOT_STAT_CONFIRMED 0).setFld
    F.SPM_BOOT_STAT_RAGDOLL 0) .mc (bootEntry m))

/-- Rag Doll mode (R404): no slot runs, none is confirmed or on trial; the monitor runs from MGS, and does what R404 says of it. The
blocks that the SP keeps in reset follow from RAGDOLL (`State.blockHeld`). -/
def enterRagDoll (s : State) : State :=
  let s0 := wdtSpOwn s
  let s1 := { s0.setBytes 0x10000000 Config.monitor with boot := { s0.boot with header := [], wdt := .own, lock := !s.flat } }
  let s2 := s1.setReg R.SPM_BOOT_STAT (word (2 ^ 27 + if s.flat then 2 ^ 28 else 0))
  let s3 := (s2.setFld F.HIF_CTRL_LTSSM_EN 1).setFld F.HIF_CTRL_READY 1
  evcFromWatch (releaseCpu (devEvt { s3 with pmu := { s3.pmu with wakeN := false } } 2) .mc Config.monitorEntry)

/-- The last failure status of a slot. -/
def setBootErr (s : State) (slot status : Nat) : State :=
  s.setFld (if slot = 0 then F.SPM_BOOT_ERR_ERR_A else F.SPM_BOOT_ERR_ERR_B) status

/-- The slots in the order of R399 are counted and checked until one starts. -/
def trySlots (s : State) (flash : Nat → Nat) : List Nat → State
  | [] => enterRagDoll s
  | k :: l =>
    let c := s.counts
    if c.fail k < 3 then
      let s1 := writeCounts s { c.setFail k (c.fail k + 1) with pending := true, slot := k }
      let m := slotImg s1 k
      let status := bootCheck s1 m (flash k) 0x800000 s1.flat
      let s2 := { s1 with boot := { s1.boot with
        xbl := s1.boot.xbl ++ xblRead s1 m (decide (headerCheck s1 m (flash k) 0x800000 s1.flat = St.ok)) } }
      if status = St.ok then releaseMc s2 k
      else trySlots (setBootErr (writeCounts s2 { s2.counts.setFail k 3 with pending := false }) k status) flash l
    else trySlots s flash l

/-- What the SP shows of a start stands at its reset value while the next start chooses its slot, and the flash is the XBL's again
(R395, R414). -/
def startFresh (s : State) : State := { s.setReg R.SPM_BOOT_STAT 0 with boot := { s.boot with xbl := [] } }

/-- Step 4 of R385 with the rest of the start (R399): `power` says that the last reset came from power-on or brown-out. -/
def startSlots (s : State) (power : Bool) (flash : Nat → Nat) : State :=
  if s.boot.bootsel = 2 then enterRagDoll s
  else
    let c := s.counts
    let c1 := if c.pending && power then c.setFail c.slot (c.fail c.slot - 1) else c
    let s1 := if c = { c1 with pending := false } then s else writeCounts s { c1 with pending := false }
    let x := s1.sec
    let revert := x.trial && decide (3 ≤ c1.fail x.trialSlot)
    let s2 := if revert then writeSec s1 { x with trial := false } else s1
    let order := if x.trial && !revert then [x.trialSlot, x.active] else [x.active, 1 - x.active]
    trySlots s2 flash order

/-- The running slot's number. -/
def runningSlot (s : State) : Nat := s.fld F.SPM_BOOT_STAT_SLOT

/-- The running image is on trial. -/
def onTrial (s : State) : Bool := s.flag F.SPM_BOOT_STAT_TRIAL

/-- START_OK (R400, R402): the confirmation of a start, which ends a trial. -/
def startOk (s : State) (v : Word) : State :=
  if v ≠ 0x53544F4B ∨ s.boot.wdt ≠ .confirm then s
  else
    let k := runningSlot s
    let s1 := if onTrial s then writeSec s { s.sec with active := s.sec.trialSlot, trial := false } else s
    let s2 := wdtSpOwn (writeCounts s1 { s1.counts.setFail k 0 with pending := false })
    { (s2.setFld F.SPM_BOOT_STAT_CONFIRMED 1).setFld F.SPM_BOOT_STAT_TRIAL 0 with boot := { s2.boot with wdt := .own } }

/-! ### Device control (R403, R405, R406) -/

/-- MINVER_ADVANCE (R403): the status, and the state after. -/
def minverAdvance (s : State) : Nat × State :=
  if s.sec.trial then (St.busy, s)
  else if s.flag F.SPM_BOOT_STAT_CONFIRMED && decide (runningSlot s = s.sec.active) then
    let v := leNat ((s.boot.header.drop 8).take 4)
    (St.ok, writeSec s { s.sec with minver := max s.sec.minver v })
  else (St.modeRefused, s)

/-- SLOT_TRIAL (R405); in Rag Doll mode no slot runs. -/
def slotTrial (s : State) (slot : Nat) : Nat × State :=
  if s.flag F.SPM_BOOT_STAT_RAGDOLL = false ∧ slot = runningSlot s then (St.badDescriptor, s)
  else if s.sec.trial then (St.busy, s)
  else (St.ok, writeSec (writeCounts s (s.counts.setFail slot 0)) { s.sec with trial := true, trialSlot := slot })

/-- RAGDOLL_RELEASE (R405). -/
def ragdollRelease (s : State) : Nat × State :=
  if s.flag F.SPM_BOOT_STAT_RAGDOLL then (St.ok, writeCounts s ((s.counts.setFail 0 0).setFail 1 0)) else (St.modeRefused, s)

/-- FLASH_RELEASE (R395). -/
def flashRelease (s : State) : State := s.setFld F.SPM_BOOT_STAT_RELEASED 1

/-- Buffer lengths of FUSE_PROGRAM (R406). -/
def fuseLen : Nat → Nat
  | 3 => 32
  | 5 => 32
  | 6 => 8
  | _ => 1

/-- Bits of a fuse. -/
def fuseBits : Nat → Nat
  | 1 => 2
  | 3 => 256
  | 4 => 4
  | 5 => 256
  | 6 => 64
  | _ => 1

/-- The value of a buffer in the layout of R406. -/
def fuseValue (f : Nat) (l : List Byte) : Nat := if f = 3 ∨ f = 5 then beNat l else leNat l

def orBool (a : Bool) (v : Nat) : Bool := a || v.testBit 0

/-- The requested bits are set. -/
def fuseSet (x : Fuses) (f slot v : Nat) : Fuses :=
  match f with
  | 0 => { x with secEn := orBool x.secEn v }
  | 1 => { x with authMode := x.authMode ||| v }
  | 2 => { x with dbgLock := orBool x.dbgLock v }
  | 3 => { x with keyDigest := SMap.set (fun _ => 0) x.keyDigest slot (SMap.get (fun _ => 0) x.keyDigest slot ||| v) }
  | 4 => { x with keyRevoke := x.keyRevoke ||| v }
  | 5 => { x with duk := x.duk ||| v }
  | 6 => { x with uid := x.uid ||| v }
  | _ => { x with provLock := orBool x.provLock v }

/-- FUSE_PROGRAM (R406): ARG0, LEN, the buffer and whether every requested bit reads 1 afterwards. -/
def fuseProgram (s : State) (arg len : Nat) (l : List Byte) (verified : Bool) : Nat × State :=
  let f := arg % 8
  let slot := arg / 256 % 4
  if arg ≠ f + (if f = 3 then 256 * slot else 0) ∨ len ≠ fuseLen f then (St.badDescriptor, s)
  else if 2 ^ fuseBits f ≤ fuseValue f l then (St.badDescriptor, s)
  else if s.boot.fuses.provLock && !(f == 2 || f == 4) then (St.notOwner, s)
  else if f = 5 ∧ s.boot.fuses.duk ≠ 0 then (St.notOwner, s)
  else if verified then
    (St.ok, { s with boot := { s.boot with fuses := fuseSet s.boot.fuses f slot (fuseValue f l) } })
  else
    let (v, s1) := s.draw
    (St.checkFail, { s1 with boot := { s1.boot with fuses := fuseSet s.boot.fuses f slot (fuseValue f l &&& v) } })

/-! ### Debug unlock (R411 to R413) -/

/-- Bytes of randomness. -/
def drawBytes (s : State) : Nat → List Byte × State
  | 0 => ([], s)
  | n + 1 =>
    let r := s.draw
    let q := drawBytes r.2 n
    (BitVec.ofNat 8 r.1 :: q.1, q.2)

/-- A challenge is issued (R412), by one request of the DRBG. -/
def issueChallenge (s : State) (level : Nat) : List Byte × State :=
  let r := drawBytes s 16
  let c := r.1 ++ leBytes 8 s.boot.fuses.uid ++ leBytes 1 level ++ List.replicate 7 0
  (c, { r.2.drbgUsed with boot := { r.2.boot with challenge := some ⟨c, level⟩, issued := c } })

/-- A response's fields that the AUTH_MODE does not use, and the reserved ones, are 0. -/
def responseFormed (s : State) (l : List Byte) : Bool :=
  let z (o n : Nat) : Bool := ((l.drop o).take n).all (fun b => b == 0)
  decide (l.length = 128) && z 0x61 31 &&
    (if s.boot.fuses.authMode = 0 then z 0x20 64 && z 0x60 1 else z 0 32 && decide ((l.getD 0x60 0).toNat < 4))

/-- The response proves the key (R413). -/
def responseProves (s : State) (c : Challenge) (l : List Byte) : Bool :=
  if s.boot.fuses.authMode = 0 then decide (l.take 32 = Config.hmacSha256 (kDbg s) c.bytes)
  else
    let pub := (s.boot.header.drop 0x3A0).take 64
    keyOk s (l.getD 0x60 0).toNat pub && Config.ecdsaVerify pub (Config.sha256 c.bytes) ((l.drop 0x20).take 64)

/-- A response is judged (R412, R413); EVC sources 242 and 243 tell the outcome (R536). -/
def judgeResponse (s : State) (l : List Byte) : Nat × State :=
  let s0 := { s with boot := { s.boot with challenge := none } }
  match s.boot.challenge with
  | some c =>
    if decide (s.boot.authFails < 8) && responseFormed s l && responseProves s c l then
      (St.ok, dbgEvent { s0 with boot := { s0.boot with unlock := c.level } } 10)
    else (St.authFail, dbgEvent { s0 with boot := { s0.boot with authFails := s.boot.authFails + 1 } } 11)
  | none => (St.authFail, dbgEvent { s0 with boot := { s0.boot with authFails := s.boot.authFails + 1 } } 11)

/-! ### The SP mailbox as read (R414) -/

def spmRead (s : State) (a : Nat) : Option Word :=
  let fu := s.boot.fuses
  let b (x : Bool) : Nat := if x then 1 else 0
  if a = R.SPM_BOOT_STAT then
    some (s.reg a ||| word (s.sec.active * 2 ^ 26 + b (debugLevel s != 0) * 2 ^ 24 + s.counts.b * 2 ^ 20 + s.counts.a * 2 ^ 16 +
      s.boot.unlock))
  else if a = R.SPM_IMG_VER then some (word (leNat ((s.boot.header.drop 8).take 4)))
  else if a = R.SPM_MINVER then some (word s.sec.minver)
  else if a = R.SPM_CONFIRM_LEFT then
    some (if s.boot.wdt = .confirm then word ((s.boot.confirmEnd - s.tb) / 100000) else 0)
  else if a = R.SPM_UID_LO then some (word fu.uid)
  else if a = R.SPM_UID_HI then some (word (fu.uid / 2 ^ 32))
  else if a = R.SPM_FUSE then
    some (word (b fu.provLock * 256 + fu.keyRevoke * 16 + b fu.dbgLock * 8 + fu.authMode * 2 + b fu.secEn))
  else none

/-- SPM_START_OK (R400). -/
def execSpmStartOk (v : Word) (s : State) : Outcome := .next (startOk s v)

/-- CHALLENGE_EXPIRY (R412): 60 s have passed since the challenge was issued. -/
def execChallengeExpiry (s : State) : Outcome := .next { s with boot := { s.boot with challenge := none } }

end Sys2Proof.Machine
end

