-- ==== Sys2Proof/Machine/Health.lean ====
section
/-! DEFINITION. The entropy source (R407 to R410, R415). -/

namespace Sys2Proof.Machine

/-! ### ENT -/

/-- ENT EVC source 62 + `k`. -/
def entEvent (s : State) (k : Nat) : State := evcIf s F.ENT_EVT_EN_EN 62 k

/-- `ENT_OUTk` read 0. -/
def clearOut (s : State) : State := eachNat (fun t k => t.setReg (R.ENT_OUT k) 0) s (List.range 8)

/-- Random bytes stand in `ENT_OUTk`. -/
def putOut (s : State) (l : List Byte) : State :=
  eachNat (fun t k => t.setReg (R.ENT_OUT k) (word (leNat ((l.drop (4 * k)).take 4)))) s (List.range 8)

/-- One request of the DRBG is served (R410). -/
def drbgServe (s : State) (n : Nat) : List Byte × State := ((drawBytes s n).1, (drawBytes s n).2.drbgUsed)

/-- `ENT_REQ` is answered (R415). -/
def reqAnswer (s : State) : State :=
  let r := drbgServe s (s.fld F.ENT_REQ_LEN)
  ((putOut r.2 r.1).setReg R.ENT_REQ_STAT 0x40000000)

/-- `ENT_REQ` ends with ENT_FAIL. -/
def reqFail (s : State) : State := s.setReg R.ENT_REQ_STAT (word (0x40000000 + St.entFail))

/-- RANDOM is answered (R299, R410). -/
def randomAnswer (s : State) (c : HostCmd) : State :=
  let r := drbgServe s c.desc.len.toNat
  answerHost r.2 c c.desc.addr.toNat r.1 {}

/-- DEBUG_CHALLENGE is answered (R412). -/
def challengeAnswer (s : State) (c : HostCmd) : State :=
  let r := issueChallenge s (c.desc.arg0.toNat % 4)
  answerHost r.2 c c.desc.addr.toNat r.1 {}

/-- What UNLOCK waits for is answered: a challenge, or ENT_FAIL (R410, R532). -/
def serveUnlock (s : State) (ok : Bool) : State :=
  if s.dbg.want = 0 then s
  else
    let s1 := if ok then (issueChallenge s s.dbg.want).2 else s
    { s1 with dbg := { s1.dbg with want := 0, unlockStatus := if ok then St.ok else St.entFail } }

/-- A host command of a consumer, where it is still in progress. -/
def entCmd (s : State) (serial : Nat) (ok : Bool) (k : State → HostCmd → State) : State :=
  match findCmd s serial with
  | some c => if ok then k s c else hostComplete s serial { status := St.entFail }
  | none => s

/-- A consumer that waits is served, or receives ENT_FAIL. -/
def entServe (ok : Bool) (s : State) : EntWait → State
  | .random n => entCmd s n ok randomAnswer
  | .challenge n => entCmd s n ok challengeAnswer
  | .req => if s.flag F.ENT_REQ_STAT_BUSY then (if ok then reqAnswer s else reqFail s) else s
  | .unlock => serveUnlock s ok

/-- The consumers that wait are served in order of arrival, as far as the DRBG may go before it reseeds (R410). -/
def serveQueue (s : State) : List EntWait → State
  | [] => { s with ent := { s.ent with waiting := [] } }
  | w :: l => if s.entReady then serveQueue (entServe true s w) l else { s with ent := { s.ent with waiting := w :: l } }

/-- A consumer asks for random bits (R410): served at once where none waits before it; failed while ENT is failed; it waits in the first
STARTUP, and while a reseed is due. -/
def entAsk (s : State) (w : EntWait) : State :=
  if s.entFailed then entServe false s w
  else serveQueue s (if s.ent.waiting.contains w then s.ent.waiting else s.ent.waiting ++ [w])

/-- A test failure (R408, R409): every consumer that waits receives ENT_FAIL. -/
def entFailure (s : State) (rct apt : Bool) : State :=
  let start := decide (s.fld F.ENT_STATUS_STATE = 0)
  let r := s.fld F.ENT_STATUS_RETRIES + (if start then 1 else 0)
  let s1 := ((s.count F.ENT_STATUS_FAILS).setFld F.ENT_STATUS_RCT (if rct then 1 else 0)).setFld F.ENT_STATUS_APT (if apt then 1 else 0)
  let s2 := (s1.setFld F.ENT_STATUS_RETRIES r).setFld F.ENT_STATUS_STATE (if start && decide (8 ≤ r) then 3 else 2)
  let s3 := clearOut { s2 with ent := { s2.ent with run := 0, passes := 0, first := false, cond := none, waiting := [] } }
  healthTell (entEvent (s.ent.waiting.foldl (entServe false) s3) 0)

/-- ENT enters OK (R408, R409): waiting consumers are served. -/
def entEnterOk (s : State) : State :=
  let again := s.entFailed
  let s1 := (s.setFld F.ENT_STATUS_STATE 1).setFld F.ENT_STATUS_RETRIES 0
  let s2 := { s1 with ent := { s1.ent with passes := 0, first := true, served := 0, cond := none } }
  let s3 := serveQueue s2 s2.ent.waiting
  if again then healthTell (entEvent s3 1) else s3

/-- The DRBG reseeds from a fresh conditioned window, and the consumers that waited for it are served (R410). -/
def entReseed (s : State) : State :=
  serveQueue { s with ent := { s.ent with served := 0, cond := none } } s.ent.waiting

/-- A window passes both tests (R407, R408): it is conditioned into 256 bits with SHA-256, the first raw bit in bit 0 of the first
byte (log entry 200). -/
def entPass (s : State) (window : List Byte) : State :=
  match s.fld F.ENT_STATUS_STATE with
  | 0 =>
    if s.ent.passes = 5 then entEnterOk s else { s with ent := { s.ent with passes := s.ent.passes + 1 } }
  | 1 =>
    if 1024 ≤ s.ent.served then entReseed s else { s with ent := { s.ent with cond := some (Config.sha256 window) } }
  | _ => s

/-- The two health tests as they stand after some raw bits (R407): the run of equal bits, how often the first bit of the window has
stood in it, and which test has failed. -/
structure RawTests where
  last : Bool
  run : Nat
  count : Nat
  rct : Bool
  apt : Bool
  deriving DecidableEq, Repr

/-- One raw bit: 41 equal ones in a row fail the repetition count test, 840 recurrences of the window's first bit the adaptive
proportion test (R407; log entry 200). The first failure ends the window. -/
def rawBit (first : Bool) (t : RawTests) (b : Bool) : RawTests :=
  if t.rct || t.apt then t
  else
    let run := if t.run ≠ 0 ∧ b = t.last then t.run + 1 else 1
    let count := if b = first then t.count + 1 else t.count
    { last := b, run := run, count := count, rct := decide (41 ≤ run), apt := decide (840 < count) }

/-- The raw bits of a window in the order of arrival. -/
def windowBits (lo hi : BitVec 512) : List Bool := (List.range 512).map lo.getLsbD ++ (List.range 512).map hi.getLsbD

/-- The tests over a window (R407); the run goes on from the window before it. -/
def rawTests (s : State) (lo hi : BitVec 512) : RawTests :=
  (windowBits lo hi).foldl (rawBit (lo.getLsbD 0)) ⟨s.ent.last, s.ent.run, 0, false, false⟩

/-- ENT_WINDOW_END (R407): 1,024 raw bits of a window, `lo` the first 512. -/
def execEntWindowEnd (lo hi : BitVec 512) (s : State) : Outcome :=
  if 2 ≤ s.fld F.ENT_STATUS_STATE then .next s
  else
    let t := rawTests s lo hi
    if t.rct || t.apt then .next (entFailure s t.rct t.apt)
    else .next (entPass { s with ent := { s.ent with last := t.last, run := t.run } } (leBytes 64 lo.toNat ++ leBytes 64 hi.toNat))

/-- RETRY_WAIT_END (R408): 1 s after entry to RETRY_WAIT, while RETRIES < 8. -/
def execRetryWaitEnd (s : State) : Outcome :=
  if s.fld F.ENT_STATUS_STATE = 2 ∧ s.fld F.ENT_STATUS_RETRIES < 8 then .next (s.setFld F.ENT_STATUS_STATE 0) else .next s

/-- DRBG_RESEED (R410), at least once per second: from the conditioned window at hand, else from the next one. -/
def execDrbgReseed (s : State) : Outcome :=
  if !s.entOk then .next s
  else if s.ent.cond.isSome then .next (entReseed s)
  else .next { s with ent := { s.ent with served := 1024 } }

/-- GO of `ENT_REQ` (R415). -/
def entReq (s : State) (v : Word) : State :=
  let n := v.toNat % 64
  let s1 := s.setFldIn F.ENT_REQ_LEN 1 32 n
  if !v.toNat.testBit 31 || s.flag F.ENT_REQ_STAT_BUSY then s1
  else
    entAsk ((clearOut s1).setReg R.ENT_REQ_STAT 0x80000000) .req

/-- ENT_REQ (R415). -/
def execEntReq (v : Word) (s : State) : Outcome := .next (entReq s v)

end Sys2Proof.Machine
end

