-- ==== Sys2Proof/Machine/Reset.lean ====
section
/-! DEFINITION. Resets: sources, scopes and what each clears, the save before a reset, the reset log, the bring-up, and the
isolation wrappers of blocks (R416 to R428, R450). -/

namespace Sys2Proof.Machine

/-! ### What a scope clears (R418) -/

/-- Registers of the AON domain: RST, PMU, DBG/CTI, the TB correction, wake enables (R36, R438, R439, R463, R464, R519). -/
def aonReg (a : Nat) : Bool :=
  within a 0x40001000 0x1000 || within a 0x40003000 0x1000 || within a 0x40033000 0x1000 ||
    [R.CKG_TB_CORR, R.BKD_WAKE_EN, R.GPIO_WAKE_CFG].contains a

/-- Registers of the backup domain. -/
def bkdReg (a : Nat) : Bool := within a 0x40005000 0x1000 && a != R.BKD_WAKE_EN

/-- Registers of the SP domain: ENT, WDT_SP, the mailbox. -/
def spReg (a : Nat) : Bool := within a 0x4000C000 0x1000 || within a 0x40037300 0x100 || within a 0x40038000 0x1000

/-- Registers that show pins. -/
def pinReg (a : Nat) : Bool := (List.range 3).any (fun p => decide (a = R.GPIO_IN p))

/-- A reset of a scope (1 COLD, 2 SYSTEM, 3 WARM) keeps the register at an address. -/
def keepsReg (scope a : Nat) : Bool :=
  bkdReg a || pinReg a || (decide (2 ≤ scope) && aonReg a) ||
    (decide (scope = 3) && (spReg a || within a 0x40002000 0x1000 || within a 0x4000D000 0x1000 || a == R.WDT_SYS_STAT))

/-- A reset of a scope keeps the byte at an address: NVR and PFL contents and the backup RAM always, the SP RAM through
WARM, MGS through a STANDBY exit (R450). -/
def keepsByte (scope : Nat) (exit : Bool) (a : Nat) : Bool :=
  within a 0x50000000 0x100000 || within a 0x58000000 0x100000 || within a 0x40005100 0x100 ||
    (decide (scope = 3) && within a 0x01000000 0x20000) || (exit && within a 0x10000000 0x200000)

/-- The TB at a COLD reset (R431). -/
def tbReload (s : State) : Nat :=
  if s.flag F.BKD_STATUS_RTC_VALID then
    (s.reg R.BKD_RTC_SEC).toNat * 100000000 + s.fld F.BKD_RTC_SUB_SUB * 100000000 / 32768
  else 0

/-- What `PMU_WAKE_SRC` is loaded with at a COLD reset (R461). -/
def coldWake (s : State) : Word :=
  match s.flag F.BKD_STATUS_REQ, s.bkd.evq with
  | true, e :: _ => word (2 ^ 31 + 2 ^ 30 + e / 2 ^ 48 % 32)
  | true, [] => word (2 ^ 31 + 2 ^ 30)
  | false, _ => 0

/-- The CKG besides registers: a WARM reset keeps it, and a queued STEP takes effect with `CYC_CTRL.EN` 0 (R418, R568); the trim state
lies in the AON domain. -/
def clkAfter (k : Clk) (scope : Nat) : Clk :=
  if scope = 3 then { k with stepNew := [], clFailed := false } else if scope = 2 then { trimGood := k.trimGood } else {}

/-- The PMU besides registers: the AON domain keeps it but for domains in transition and a STANDBY entry (R418). -/
def pmuAfter (k : Pmu) (scope : Nat) : Pmu :=
  if scope = 1 then {}
  else { k with state := .active, goingOff := [], wanted := [], comingOn := [], entering := false, acked := false }

/-- Fields of the CKG that a SYSTEM reset leaves: XSTB as sampled, and the trim code (R418, R439). -/
def keepFields (s t : State) (scope : Nat) : State :=
  if scope = 2 then (t.setFld F.CKG_STATUS_XSTB (s.fld F.CKG_STATUS_XSTB)).setFld F.CKG_TRIM_STAT_CODE (s.fld F.CKG_TRIM_STAT_CODE)
  else if scope = 3 then s.clk.stepNew.foldl (fun u e => u.setFld (F.CKG_CLFREQ_STEP e.1) e.2) t
  else t

/-- Registers, memories and units return to their reset state. -/
def scopeClear (s : State) (scope : Nat) (exit : Bool) : State :=
  let keepE := fun a => keepsByte scope exit a
  let s1 := keepFields s (((unitsOff s (fedLink s)).resetRegs (fun a => !keepsReg scope a)).wipe (fun a => !keepsByte scope exit a)) scope
  let warm := decide (scope = 3)
  { s1 with
    ecc1 := s1.ecc1.filter keepE
    ecc2 := s1.ecc2.filter keepE
    les := []
    mc := {}
    sp := if warm then { s1.sp with k := { s1.sp.k with halted := false, cmps := [] } } else {}
    mcr := { lsStat := if scope = 1 then 0 else s1.mcr.lsStat &&& 0xFFFF }
    plan := none
    shadows := []
    loading := none
    commits := []
    unloaded := []
    nvr := { keyR := s1.nvr.keyR, keyW := s1.nvr.keyW }
    pfl := { ones := s1.pfl.ones }
    cfg := {}
    boot := { s1.boot with
      lock := false
      header := if warm then s1.boot.header else []
      wdt := if warm then s1.boot.wdt else .off
      unlock := if scope = 1 then 0 else s1.boot.unlock
      challenge := if scope = 1 then none else s1.boot.challenge
      issued := if scope = 1 then [] else s1.boot.issued
      authFails := if scope = 1 then 0 else s1.boot.authFails }
    ent := if warm then s1.ent else {}
    rst := { s1.rst with after := none, fresh := none, timeout := none, closing := [], rstOut := true, exit := exit }
    clk := clkAfter s1.clk scope
    pmu := pmuAfter s1.pmu scope
    held := []
    agm := if warm then s1.agm else {}
    twl := {}
    per := { wdtSp := if warm then s1.per.wdtSp else {} }
    bmv := {}
    cvu := []
    mse := {}
    dpr := {}
    cyc := {}
    slots := []
    orphans := []
    trc := {}
    dbg := if scope = 1 then {} else { s1.dbg with spStrings := [], extest := none, want := 0 }
    hif := { out := s1.hif.out, serial := s1.hif.serial }
    links := []
    fpgs := [] }

/-! ### The reset log (R427) -/

/-- The 14 bytes before CHK. -/
def logEntry (tb causes scope step cycle : Nat) : List Byte :=
  leBytes 8 tb ++ leBytes 2 causes ++ leBytes 1 scope ++ leBytes 1 step ++ leBytes 2 cycle

/-- An entry of the reset log is written, then the index advances. -/
def writeLog (s : State) (tb causes scope step cycle : Nat) : State :=
  let l := logEntry tb causes scope step cycle
  let i := (s.byte (bkdRam + 0x3F)).toNat % 8
  let s1 := s.setBytes (bkdRam + 0x40 + 16 * i) (l ++ [l.foldl (fun a b => a ^^^ b) 0, 0])
  s1.setByte (bkdRam + 0x3F) (BitVec.ofNat 8 ((i + 1) % 8))

/-- The entry written last is to be written again. -/
def unlog (s : State) : State :=
  s.setByte (bkdRam + 0x3F) (BitVec.ofNat 8 (((s.byte (bkdRam + 0x3F)).toNat % 8 + 7) % 8))

/-- A reset is recorded in `RST_CAUSE` and the log. -/
def recordReset (s : State) (tb causes scope step cycle : Nat) : State :=
  let s1 := writeLog s tb causes scope step cycle
  s1.setReg R.RST_CAUSE ((if scope = 1 then 0 else s1.reg R.RST_CAUSE) ||| word causes)

/-! ### Bring-up (R421, R422) -/

/-- The first step of a scope. -/
def firstStep (scope : Nat) : Nat := scope

/-- A source that stays asserted holds the step (R422). -/
def stepHeld (s : State) (k : Nat) : Bool := (k == 1 && s.rst.supplyOut) || (k == 2 && s.rst.rstN)

/-- What the beginning of a step does: step 2 releases the SP, with the MC in a flat start (R387). -/
def stepAction (s : State) (k : Nat) : State :=
  if k = 2 then
    (let s1 := releaseCpu s .sp 0
     if s1.flat then releaseCpu s1 .mc 0 else s1)
  else s

/-- A step begins, or waits for what holds it; `RST_SEQ.STEP` shows it. -/
def beginStep (s : State) (k : Nat) : State :=
  let s1 := s.setFld F.RST_SEQ_STEP k
  if stepHeld s1 k then s1 else stepAction s1 k

/-- The bring-up from a state whose scope is cleared; the MC of a flat WARM start leaves reset at once (R387). -/
def bringUp (s : State) (scope : Nat) : State :=
  let s1 := beginStep s (firstStep scope)
  if scope = 3 ∧ s1.flat = true then releaseCpu s1 .mc 0 else s1

/-- An accepted RESUME is cancelled where the lock drops before its boundary (R436). -/
def cancelResume (s : State) : State :=
  if s.flag F.CKG_CL_CTRL_PENDING then (s.setFld F.CKG_CL_CTRL_PENDING 0).setFld F.CKG_CL_CTRL_REFUSED 1 else s

/-- Clocks at the entry of a reset: a WARM reset restarts PLL_CL and PLL_LK, another clears the CKG (R418, R436). -/
def resetClocks (s : State) (scope : Nat) : State :=
  if scope = 3 then
    cancelResume ((((s.setFld F.CKG_STATUS_CL_LOCK 0).setFld F.CKG_STATUS_LK_LOCK 0).setFld F.CKG_STATUS_CL_PATH 1).setFld
      F.CKG_STATUS_CL_STABLE 0)
  else s

/-- A COLD reset clears the AON domain: the oscillator starts anew, the TB is reloaded. -/
def resetAon (s : State) (scope tb : Nat) (wake : Word) : State :=
  if scope = 1 then
    { s.setReg R.PMU_WAKE_SRC wake with tb := tb, rst := { s.rst with xtalDone := false, xtalOk := false } }
  else s

/-- Every domain is powered and none in transition (R421, R447); `PMU_DOM_CTRL` keeps what it holds (R463). -/
def allPowered (s : State) : State :=
  ((s.setFld F.PMU_DOM_STAT_PWR 0xFF).setFld F.PMU_DOM_STAT_BUSY 0).setFld F.PMU_STATE_LIGHT 0

/-- A start that the confirmation watchdog ended is recorded as TIMEOUT for its slot (R402). -/
def tellTimeout (s : State) (slot : Option Nat) : State := match slot with | some k => setBootErr s k St.timeout | none => s

/-- A reset takes effect (R419, R427), with the step and the cycle that its log entry shows. -/
def enterResetAt (s : State) (causes scope step cycle : Nat) : State :=
  let tb := if scope = 1 then tbReload s else s.tb
  let s1 := scopeClear (pflCut (jCut s)) scope false
  let s2 := resetAon (resetClocks s1 scope) scope tb (coldWake s)
  let s3 := recordReset s2 tb causes scope step (if scope = 1 then 0 else cycle)
  let s4 := (s3.setReg R.RST_LAST (word (scope * 2 ^ 24 + causes))).setFld F.SPM_BOOT_STAT_RELEASED 0
  let s5 := (((s4.setReg R.RST_BLK 0).setReg R.RST_BLK_SFL 0).setReg R.RST_BLK_STAT 0).setReg R.RST_BLK_SFL_STAT 0
  let s6 := bringUp (tellTimeout (allPowered s5) s.rst.timeout) scope
  { s6 with rst := { s6.rst with fresh := some ⟨tb, causes, scope, step, cycle⟩ } }

/-- A reset takes effect. -/
def enterReset (s : State) (causes scope : Nat) : State :=
  enterResetAt s causes scope (s.fld F.RST_SEQ_STEP) ((s.reg R.CYC_CYCNUM).toNat % 65536)

/-- Another source comes in the clock of a reset: one reset, of the wider scope, with one log entry of all sources (R422). -/
def joinReset (s : State) (f : NewReset) (causes scope : Nat) : State :=
  enterResetAt (unlog s) (f.causes ||| causes) (min f.scope scope) f.step f.cycle

/-! ### The reset of the HIF (R286, R417) -/

/-- A request that a HIF reset ends: a split write not yet committed is rolled back, and what a read would send has no receiver
(R286). -/
def reqEnds (r : HReq) : Bool := !(decide (r.kind = .write ∨ r.kind = .resume) && r.oneUnit)

/-- What a reset of the HIF clears (R286): rings disabled, BAR0, the configuration space and the MSI-X table reset; commands in
progress run to their end and get no completion, and a split write not yet committed is rolled back. -/
def hifClear (s : State) : State :=
  let s1 := s.resetRegs (fun a => within a 0x40032000 0x100 || decide (0x100000000 ≤ a))
  { s1 with hif := { s1.hif with
      vecs := [], funcMask := false, cfg := {}, rings := [], clearing := [], d3 := false
      cmds := (s1.hif.cmds.filter (fun c => c.done.isNone && !(s1.hif.reqs.any (fun r => reqEnds r && r.serial == c.serial)))).map
        (fun c => { c with mute := true })
      reqs := s1.hif.reqs.filter (fun r => !reqEnds r) } }


/-- The HIF's own reset; EVC source 226 (R286, R306). -/
def hifReset (s : State) : State := hifClear (evcEvent s 226)

/-- A reset of scope HIF by sources (R417, R422, R427): absorbed during bring-up. -/
def hifResetOf (s : State) (causes : Nat) : State :=
  let s1 := s.setReg R.RST_CAUSE (s.reg R.RST_CAUSE ||| word causes)
  if s.fld F.RST_SEQ_STEP = 0 then hifReset s1 else s1

/-! ### Requests (R417, R420, R422) -/

/-- CAUSE bit of CLKFAIL. -/
def clkfailBit : Nat := 2 ^ 5

/-- A reset request meets a save in progress (R371): power-on and brown-out end it unsealed, another waits. -/
def duringSave (s : State) (causes scope : Nat) : State :=
  if scope = 1 then enterReset (saveCut s) causes scope
  else
    match s.rst.after with
    | some h => { s with rst := { s.rst with after := some ⟨h.causes ||| causes, min h.scope scope⟩ } }
    | none => { s with rst := { s.rst with after := some ⟨causes, scope⟩ } }

/-- A reset of scope HIF by source `k`; a save holds it back (R371). -/
def hifResetBy (s : State) (k : Nat) : State := if s.saving then duringSave s (2 ^ k) 4 else hifResetOf s (2 ^ k)

/-- The reset that has taken effect in this clock: since its bring-up began the timebase stands (log entry 192). -/
def freshReset (s : State) : Option NewReset := s.rst.fresh.filter (fun f => f.tb == s.tb)

/-- A device reset is requested (R420, R422): with another of its clock it is one; within a bring-up it restarts it, or is recorded and
absorbed. In BACKUP no part of the device is there to reset. -/
def requestReset (s : State) (causes scope : Nat) : State :=
  let step := s.fld F.RST_SEQ_STEP
  if s.pmu.state = .backup then s
  else
  match freshReset s with
  | some f => joinReset s f causes scope
  | none =>
  if step ≠ 0 ∧ step < firstStep scope then
    recordReset s s.tb causes scope step ((s.reg R.CYC_CYCNUM).toNat % 65536)
  else if s.saving then duringSave s causes scope
  else if step = 0 ∧ scope ≠ 1 ∧ causes &&& clkfailBit = 0 ∧ s.flag F.RST_CFG_SAVE = true ∧ s.armed = true then
    (let s1 := startSave s 4
     { s1 with rst := { s1.rst with after := some ⟨causes, scope⟩ } })
  else enterReset s causes scope

/-- A source of code `k`. -/
def resetEntry (s : State) (k scope : Nat) : State := requestReset s (2 ^ k) scope

/-- No engine holds a store (R102). -/
def allDrained (s : State) : Bool := (List.range 64).all (fun n => (s.le n).k.buf == [])

/-- SAVE_SEAL (R102, R368, R371, R420): every engine is drained; the save ends, and a reset that waits for it takes effect. -/
def execSaveSeal (s : State) : Outcome :=
  if s.saving && allDrained s then
    (let s1 := finishSave s
     match s1.rst.after with
     | some h => .next (if h.scope = 4 then hifResetOf { s1 with rst := { s1.rst with after := none } } h.causes else enterReset s1 h.causes h.scope)
     | none => .next s1)
  else .next s

/-- BOR (R417): VDD below its brown-out threshold for 1 µs. While it stays there step 1 does not end: no BRINGUP_STEP_END comes (log
entry 193). -/
def execBor (s : State) : Outcome := .next (resetEntry s 1 1)

/-- POWER_ON_RESET (R417): VDD, VDDM and VDDIO are all in range after one was out. -/
def execPowerOnReset (s : State) : Outcome :=
  let s1 := { s with rst := { s.rst with supplyOut := false }, pmu := { s.pmu with state := .active } }
  .next (resetEntry s1 0 1)

/-- RST_N (R417): held low for 10 µs or more. -/
def execRstN (s : State) : Outcome := .next (resetEntry { s with rst := { s.rst with rstN := true } } 2 2)

/-- RST_N_RELEASE (R422): a bring-up held by RST_N begins its step. -/
def execRstNRelease (s : State) : Outcome :=
  let s1 := { s with rst := { s.rst with rstN := false } }
  if s.rst.rstN && s.fld F.RST_SEQ_STEP == 2 && !stepHeld s1 2 then .next (stepAction s1 2) else .next s1

/-- A write of `RST_CTRL` (R438): KEY 0x5253 with SCOPE 1 or 2. -/
def rstCtrl (s : State) (v : Word) : State :=
  if v.toNat / 65536 = 0x5253 then
    (match v.toNat % 4 with
     | 1 => resetEntry s 6 2
     | 2 => resetEntry s 6 3
     | _ => s)
  else s

/-- RST_CTRL (R438). -/
def execRstCtrl (v : Word) (s : State) : Outcome := .next (rstCtrl s v)

/-- WDT_SP expires: a reset of source 4, scope SYSTEM; a start that it ends is recorded as TIMEOUT for its slot (log entry 18). -/
def wdtSpExpire (s : State) : State :=
  resetEntry (if s.boot.wdt = .confirm then { s with rst := { s.rst with timeout := some (runningSlot s) } } else s) 4 2

/-- WDT_SP_EXPIRY (R402, R417): the watchdog of the SP runs from the release of the MC on, and while EN is 1. It stands while the SP is
halted by debug (R537). -/
def execWdtSpExpiry (s : State) : Outcome :=
  if s.sp.k.halted || (s.boot.wdt == .off && !s.flag F.WDT_SP_CTRL_EN) then .next s else .next (wdtSpExpire s)

/-- DEBUG_SYSTEM_RESET (R417): with debug unlocked at level 2. -/
def execDebugSystemReset (s : State) : Outcome := if debugLevel s = 2 then .next (resetEntry s 7 2) else .next s

/-! ### The end of a step -/

/-- End of step 1: straps are sampled, the IOSC runs with its trim (R386, R428, R429). -/
def endStep1 (s : State) (straps : Nat) : State :=
  let s1 := { s with boot := { s.boot with bootsel := straps % 4 } }
  beginStep ((s1.setFld F.CKG_STATUS_XSTB (straps / 4)).setFld F.CKG_TRIM_STAT_CODE (eff s1 0).toNat) 2

/-- The bring-up is that of a WARM reset. -/
def warmStart (s : State) : Bool := !s.rst.exit && decide (s.fld F.RST_LAST_SCOPE = 3)

/-- PLL_CL and PLL_LK are locked again after a WARM reset, with the settings in force, and failed no more (R418, R421, R433). -/
def warmLocks (s : State) : State :=
  let s1 := (s.setFld F.CKG_STATUS_CL_LOCK 1).setFld F.CKG_STATUS_CL_PATH 0
  let s2 := s1.setFld F.CKG_STATUS_LK_LOCK (if s.flag F.CKG_STATUS_XTAL_GOOD then 1 else 0)
  (s2.setRegBit R.CKG_MON_STAT 17 false).setRegBit R.CKG_MON_STAT 19 false

/-- Every PLL is locked and takes its domains, with the reference that the clock monitor judges good (R428). -/
def allLocks (s : State) : State :=
  let g := if s.rst.xtalOk then 1 else 0
  let s1 := ((s.setFld F.CKG_STATUS_XTAL_GOOD g).setFld F.CKG_STATUS_REF_IOSC (1 - g)).setFld F.CKG_STATUS_CL_LOCK 1
  let s2 := ((s1.setFld F.CKG_STATUS_MC_LOCK 1).setFld F.CKG_STATUS_LK_LOCK g).setFld F.CKG_STATUS_CL_PATH 0
  s2.setFld F.CKG_STATUS_MC_PATH 0

/-- End of step 3: the PLLs are locked; RSTOUT_N is released (R419, R421, R428; log entry 19). -/
def endStep3 (s : State) : State :=
  let s1 := if warmStart s then warmLocks s else allLocks s
  beginStep { s1 with rst := { s1.rst with rstOut := false } } 4

/-- End of step 6: the record log is repaired (R381), and a slot is chosen, checked and started (R385, R399). Power-on and brown-out leave a start uncounted, a
STANDBY exit does not (R398, R450). -/
def endStep6 (s : State) (flash : Nat → Nat) : State :=
  let power := !s.rst.exit && decide (s.fld F.RST_LAST_CAUSE % 4 ≠ 0)
  let s1 := checkFactory (startSlots (startFresh (repairLog s)) power flash)
  { s1.setFld F.RST_SEQ_STEP 0 with rst := { s1.rst with exit := false } }

/-- The step in progress ends (R421). -/
def endStep (s : State) (straps : Nat) (flash : Nat → Nat) : State :=
  match s.fld F.RST_SEQ_STEP with
  | 0 => s
  | 1 => endStep1 s straps
  | 2 => beginStep s 3
  | 3 => if s.rst.xtalDone then endStep3 s else s
  | 4 => beginStep s 5
  | 5 => beginStep s 6
  | _ => endStep6 s flash

/-- BRINGUP_STEP_END (R421): the straps XSTB and BOOTSEL as sampled in step 1, and how the flash answers reads of each slot
in step 6. -/
def execBringupStepEnd (straps : BitVec 4) (flashA flashB : Fin 3) (s : State) : Outcome :=
  if stepHeld s (s.fld F.RST_SEQ_STEP) || s.pmu.state != .active then .next s
  else .next (endStep { s with rst := { s.rst with fresh := none } } straps.toNat (fun k => if k = 0 then flashA.val else flashB.val))

/-- CRYSTAL_START_DELAY (R428): the delay ends, and the clock monitor judges XTAL. -/
def execCrystalStartDelay (good : Bool) (s : State) : Outcome :=
  if s.rst.xtalDone then .next s
  else .next { s with rst := { s.rst with xtalDone := true, xtalOk := good } }

/-! ### Block resets (R424 to R426) -/

/-- Source 228 + `k` of the TWL (R502). -/
def twlEvent (s : State) (k : Nat) : State := evcIf s F.TWL_EVT_EN_EN 228 k

/-- The TWL at its reset state: role NONE, link DOWN (R425, R486). -/
def twlClear (s : State) : State := { s.resetRegs (fun a => within a 0x40030000 0x1000) with twl := {} }

/-- The TWL is reset: the changes of link, role and readiness are told (R425, R502). -/
def twlBlockReset (s : State) : State :=
  let tell (b : Bool) (k : Nat) (t : State) : State := if b then twlEvent t k else t
  healthTell (twlClear (tell (s.flag F.TWL_STATUS_READY) 3 (tell (s.fld F.TWL_STATUS_ROLE != 0) 1
    (tell (s.fld F.TWL_STATUS_LINK != 0) 0 s))))

/-- What an engine evaluates is lost with it: the block runs no more, and misses. -/
def evalLost (s : State) (n : Nat) : State :=
  match (s.le n).k.ev with
  | some v => if s.run v.blk = { s.run v.blk with state := .running n } then s.setRun v.blk { s.run v.blk with state := .waiting } else s
  | none => s

/-- A cluster's engines go to RESET; what they evaluated is lost, and its blocks miss (R425). -/
def clusterBlockReset (s : State) (c : Nat) : State :=
  eachNat (fun t n => if (t.le n).k.state = .off then evalLost t n else resetLeAll (evalLost t n) n .reset) s (clusterEngines c)

/-- The BMV is reset. -/
def bmvReset (s : State) : State :=
  let attached := (List.range 4).filter (fun c => s.flag (F.CVU_CFG_BUSY c))
  let s1 := eachNat (fun t c => t.setFld (F.CVU_CFG_BUSY c) 0) s attached
  { s1.resetRegs (fun a => within a 0x40008000 0x1000) with bmv := {} }

/-- A link controller is reset: DOWN with cause FIRMWARE. -/
def sflReset (s : State) (l : Nat) : State :=
  let s1 := linkDown s l 1
  let s2 := s1.resetRegs (fun a => within a (0x40010000 + 0x1000 * l) 0x1000)
  s2.setFld (F.SFL_STATUS_DOWN_CAUSE l) 1

/-- The FPC is reset: every gate at 0 V, the links of its groups DOWN. -/
def fpcReset (s : State) : State :=
  let s1 := eachNat (fun t g => if fpcState t g = 0 then t else fpcTo t g 0) s (List.range 6)
  { s1.resetRegs (fun a => within a 0x40031000 0x1000) with fpgs := [] }

/-- Block `k` (0 to 7 as `RST_BLK`, 8 + n for SFLn) is in reset (R425). -/
def blockReset (s : State) (k : Nat) : State :=
  if k < 4 then clusterBlockReset s k
  else if k = 4 then twlBlockReset s
  else if k = 5 then fpcReset s
  else if k = 6 then bmvReset s
  else if k = 7 then hifReset s
  else sflReset s (k - 8)

def setHeld (s : State) (k : Nat) (v : Bool) : State :=
  if k < 8 then s.setRegBit R.RST_BLK_STAT k v else s.setRegBit R.RST_BLK_SFL_STAT (k - 8) v

/-- The wrapper has closed: step 4 of R424. -/
def wrapperClosed (s : State) (k : Nat) : State :=
  if has s.rst.closing k then
    setHeld (blockReset { s with rst := { s.rst with closing := dropFrom s.rst.closing k } } k) k true
  else s

/-- Release of a block (R425): engines run the kernel initialisation, a link returns to what R260 says. -/
def blockRelease (s : State) (k : Nat) : State :=
  let s1 := setHeld (wrapperClosed s k) k false
  if k < 4 then releaseEngines s1
  else if 8 ≤ k then tryTrain s1 (k - 8)
  else s1

/-- One bit of `RST_BLK` or `RST_BLK_SFL` takes a value. -/
def blockBit (v : Nat) (first : Nat) (s : State) (i : Nat) : State :=
  let f : Nat := if first = 0 then R.RST_BLK else R.RST_BLK_SFL
  let old := s.regBit f i
  let new := v.testBit i
  if old = new then s
  else if new then
    { s.setRegBit f i true with rst := { s.rst with closing := addTo s.rst.closing (first + i) } }
  else blockRelease (s.setRegBit f i false) (first + i)

/-- A write of `RST_BLK`, or of `RST_BLK_SFL` (R424, R426). -/
def blockWrite (s : State) (sfl : Bool) (v : Word) : State :=
  (List.range (if sfl then 24 else 8)).foldl (blockBit v.toNat (if sfl then 8 else 0)) s

/-- RST_BLK (R424). -/
def execRstBlk (sfl : Bool) (v : Word) (s : State) : Outcome := .next (blockWrite s sfl v)

/-- WRAPPER_CLOSED (R424): 0 to 7 as `RST_BLK`, 8 + n for SFLn. -/
def execWrapperClosed (k : Fin 32) (s : State) : Outcome := .next (wrapperClosed s k.val)

/-- BUSY of `RST_BLK_STAT`. -/
def rstRead (s : State) (a : Nat) : Option Word :=
  if a = R.RST_BLK_STAT then some (s.reg a ||| (if s.rst.closing = [] then 0 else 0x80000000)) else none

end Sys2Proof.Machine
end

