-- ==== Sys2Proof/Machine/Ledger.lean ====
section
/-! DEFINITION. What the ageing monitor's margin states and its ledger are made of: states, ceiling, records, entry to WARN
(R465, R470, R471, R476, R477). -/

namespace Sys2Proof.Machine

/-! ### Margin states -/

/-- Margin states (R470), as `AGM_STATUS` shows them. -/
inductive Margin where
  | ok | warn | pend | crit
  deriving DecidableEq, Repr

def agmBit (s : State) (lo c : Nat) : Bool := s.regBit R.AGM_STATUS (lo + c)
def setAgmBit (s : State) (lo c : Nat) (v : Bool) : State := s.setRegBit R.AGM_STATUS (lo + c) v

def marginState (s : State) (c : Nat) : Margin :=
  if agmBit s 28 c then .crit else if agmBit s 20 c then .pend else if agmBit s 24 c then .warn else .ok

def agmEvent (s : State) (k : Nat) : State := evcIf s F.AGM_EVT_EN_EN 69 k

def stepOf (s : State) (c : Nat) : Nat := s.fld (F.CKG_CLFREQ_STEP c)

/-- The low 16 bits of an integer. -/
def low16 (z : Int) : Nat := (BitVec.ofInt 16 z).toNat

/-- The greatest of a list of integers. -/
def mostInt : Int → List Int → Int
  | a, [] => a
  | a, b :: l => mostInt (max a b) l

/-- The highest temperature as `AGM_TEMPk` hold it; 0x8000 where every sensor is off. -/
def highestTemp (s : State) : Int := mostInt (-32768) ((List.range 8).map (fun k => signed 16 (s.fld (F.AGM_TEMP_VAL k))))

/-- Ceiling (R471). -/
def ceiling (s : State) : Bool :=
  decide (s.fld F.PMU_AVS_LIM_MAX < s.fld F.PMU_AVS_STAT_MV + 10) || !s.flag F.PMU_AVS_CFG_EN || s.flag F.PMU_AVS_STAT_ERR

/-! ### The ledger (R476, R477) -/

def ledgerBase : Nat := 0x50041000
def ledgerAt (slot : Nat) : Nat := ledgerBase + 32 * slot

def ledgerCrc (slot seq : Nat) (l : List Byte) : Nat := (crc32cFrom (frameSeed 0xA6 slot (seq % 65536)) l).toNat

/-- A slot holds a valid record. -/
def ledgerValid (s : State) (slot : Nat) : Bool :=
  decide (s.rd (ledgerAt slot + 28) 4 = ledgerCrc slot (s.rd (ledgerAt slot + 8) 4) (s.bytes (ledgerAt slot) 28)) &&
    decide (1 ≤ s.rd (ledgerAt slot + 12) 1 ∧ s.rd (ledgerAt slot + 12) 1 ≤ 10)

/-- Highest SEQ of the valid slots of a list. -/
def ledgerTop (s : State) (l : List Nat) : Option Nat :=
  (l.filter (ledgerValid s)).foldl (fun b k =>
    let q := s.rd (ledgerAt k + 8) 4
    match b with | none => some q | some x => some (max x q)) none

def ringSlots : List Nat := List.range 120
def anchorSlots : List Nat := (List.range 8).map (fun k => 120 + k)

/-- The NVR takes the AGM's writes, and the ledger's counters are known. -/
def ledgerOpen (s : State) : Bool :=
  s.flag F.NVR_STATUS_READY && s.powered 7 && !s.saving && !s.pfstop && s.flag F.AGM_STATUS_LEDGER_READY

/-- A record is written with the next SEQ (R476); `l` holds the 8 bytes before SEQ and the 16 after it. -/
def ledgerWrite (s : State) (anchor : Bool) (l : List Byte) : State :=
  let seq := if anchor then s.agm.anchor else if 0xFFFFFFFE ≤ s.fld F.AGM_LEDGER_SEQ_VAL then 1 else s.fld F.AGM_LEDGER_SEQ_VAL + 1
  let slot := if anchor then 120 + seq % 8 else seq % 120
  let d := l.take 8 ++ leBytes 4 seq ++ l.drop 8
  let s1 := s.setBytes (ledgerAt slot) (d ++ leBytes 4 (ledgerCrc slot seq d))
  if anchor then { s1 with agm := { s1.agm with anchor := seq + 1 } } else s1.setFld F.AGM_LEDGER_SEQ_VAL seq

/-- A record is written, held, or lost (R477). -/
def ledgerPut (s : State) (anchor : Bool) (l : List Byte) : State :=
  if !s.flag F.AGM_CTRL_LEDGER_EN then s
  else if ledgerOpen s then ledgerWrite s anchor l
  else if s.agm.held.length < 4 then { s with agm := { s.agm with held := s.agm.held ++ [(anchor, l)] } }
  else agmEvent (s.setFld F.AGM_STATUS_LEDGER_ERR 1) 3

/-- Held records are written once the NVR takes them. -/
def ledgerFlush (s : State) : State :=
  if s.flag F.AGM_CTRL_LEDGER_EN && ledgerOpen s then s.agm.held.foldl (fun t e => ledgerWrite t e.1 e.2) { s with agm := { s.agm with held := [] } } else s

/-- STEPS: a nibble per cluster. -/
def stepsWord (s : State) : Nat := ((List.range 4).map (fun c => stepOf s c * 16 ^ c)).sum

/-- A record's bytes but SEQ and CHK. -/
def ledgerBytes (s : State) (kind cluster : Nat) (temp : Int) (margin : List Byte) : List Byte :=
  leBytes 8 s.tb ++ leBytes 1 kind ++ leBytes 1 cluster ++ leBytes 2 (low16 temp) ++ leBytes 2 (s.fld F.PMU_AVS_STAT_MV) ++
    leBytes 2 (stepsWord s) ++ margin

/-- The four M_c at this moment, and the day's lowest; 0x8000 of a cluster that is off (R476). -/
def marginsNow (s : State) : List Byte := ((List.range 4).map (fun c => leBytes 2 (s.fld (F.AGM_MARGIN_PS c)))).flatten
def marginsDay (s : State) : List Byte :=
  ((List.range 4).map (fun c => leBytes 2 (if s.powered c then s.fld (F.AGM_MIN_PS c) else 0x8000))).flatten

/-- An event's record: kind and cluster, 0xFF for none. -/
def record (s : State) (kind cluster : Nat) : State :=
  ledgerPut s false (ledgerBytes s kind cluster (highestTemp s) (marginsNow s))

/-! ### Entry to WARN (R470) -/

/-- A cluster enters WARN, from whichever state: EVC source 69, a WARN record, and whether ceiling holds at that moment (R472). -/
def enterWarn (s : State) (c : Nat) : State :=
  let s1 := agmEvent (setAgmBit s 24 c true) 0
  record { s1 with agm := { s1.agm with ceilWarn := putIn s1.agm.ceilWarn c (ceiling s) } } 2 c

/-- Clears PEND with its APPLY. -/
def clearPend (s : State) (c : Nat) : State :=
  let s1 := setAgmBit s 20 c false
  { s1 with agm := { s1.agm with apply := dropFrom s1.agm.apply c } }

/-- A pending derate is no longer pending: PEND becomes WARN (R470, R473). -/
def dropDerate (s : State) (c : Nat) : State := if agmBit s 20 c then enterWarn (clearPend s c) c else s

/-- The sensors of a cluster that goes off read 0x8000, and its margin takes no part (R465). -/
def sensorsOff (s : State) (c : Nat) : State :=
  let s1 := (s.setReg (R.AGM_MARGIN c) 0x80008000).setFld (F.AGM_CANARY_WIN c) 0x8000
  let s2 := (s1.setFld (F.AGM_TEMP_VAL (2 * c)) 0x8000).setFld (F.AGM_TEMP_VAL (2 * c + 1)) 0x8000
  { s2 with agm := { s2.agm with
      ratios := SMap.erase (fun k => k == c) s2.agm.ratios
      means := SMap.erase (fun k => k / 16 == c) s2.agm.means } }

/-- The AGM starts once the NVR is ready (R477): the counters of the ledger, and a START record. -/
def agmStart (s : State) : State :=
  if s.agm.started || !s.flag F.AGM_CTRL_EN || !s.flag F.NVR_STATUS_READY || !s.powered 7 then s
  else
    let s1 := s.setFld F.AGM_LEDGER_SEQ_VAL ((ledgerTop s ringSlots).getD 0)
    let s2 := { s1.setFld F.AGM_STATUS_LEDGER_READY 1 with agm := { s1.agm with
      started := true, anchor := match ledgerTop s anchorSlots with | some a => a + 1 | none => 0 } }
    record (ledgerFlush s2) 8 0xFF

/-- NVS_RELEASE (R363, R421): from step 5 on, or with the domain switched on. The ledger may then be read and written (R477). -/
def execNvsRelease (s : State) : Outcome :=
  if s.powered 7 && !s.flag F.NVR_STATUS_READY && (decide (5 ≤ s.fld F.RST_SEQ_STEP) || decide (s.fld F.RST_SEQ_STEP = 0)) then
    .next (ledgerFlush (agmStart (nvrReady s)))
  else .next s

end Sys2Proof.Machine
end

