-- ==== Sys2Proof/Machine/Clocks.lean ====
section
/-! DEFINITION. Clocks: the clock monitor, the responses to failures, PLLs, the degraded plan, auto-trim and the cluster
clock's STEP (R428 to R437, R473, R475). -/

namespace Sys2Proof.Machine

/-! ### Responses -/

/-- Every link that is not DOWN goes DOWN with a cause. -/
def linksDown (s : State) (cause : Nat) : State :=
  eachNat (fun t l => if t.linkState l = 0 then t else linkDown t l cause) s (List.range 24)

/-- The Twin Link changes state (R482). -/
def twlTo (s : State) (st : Nat) : State :=
  if s.fld F.TWL_STATUS_LINK = st then s else twlEvent (s.setFld F.TWL_STATUS_LINK st) 0

/-- The Twin Link goes down: training restarts from nothing, a set in transit is abandoned (R482, R492). -/
def twlDown (s : State) : State :=
  let s1 := if s.twl.sending.isSome then s.countReg R.TWL_SET_SKIP else s
  twlTo { s1 with twl := { s1.twl with deskewed := false, echoes := 0, sending := none, rx := none } } 0

/-- PLL_CL fails (R435): clusters and fabric on their IOSC paths; the degraded plan is due. -/
def clFails (s : State) : State :=
  let s1 := cancelResume (((s.setFld F.CKG_STATUS_CL_LOCK 0).setFld F.CKG_STATUS_CL_PATH 1).setFld F.CKG_STATUS_CL_STABLE 0)
  raiseNmi (aonEvent { s1 with clk := { s1.clk with clFailed := true } } 11) 0

/-- PLL_MC fails. -/
def mcFails (s : State) : State :=
  raiseNmi (aonEvent ((s.setFld F.CKG_STATUS_MC_LOCK 0).setFld F.CKG_STATUS_MC_PATH 1) 12) 0

/-- A source's status bits, now and sticky. -/
def markFail (s : State) (k : Nat) : State :=
  (s.setRegBit R.CKG_MON_STAT k true).setRegBit R.CKG_MON_STAT (16 + k) true

def clearLive (s : State) (k : Nat) : State := s.setRegBit R.CKG_MON_STAT (16 + k) false
def live (s : State) (k : Nat) : Bool := s.regBit R.CKG_MON_STAT (16 + k)

/-- XTAL fails (R437): PLL_CL and PLL_MC relock on IOSC with their own responses, PLL_LK and the TWL's PLL stop. -/
def xtalFails (s : State) : State :=
  let s1 := ((s.setFld F.CKG_STATUS_XTAL_GOOD 0).setFld F.CKG_STATUS_REF_IOSC 1).setFld F.CKG_STATUS_LK_LOCK 0
  let s2 := raiseNmi (aonEvent { s1 with rst := { s1.rst with xtalOk := false } } 10) 0
  twlDown (linksDown (mcFails (markFail (clFails (markFail s2 1)) 2)) 4)

/-- The data link of the HIF goes down (R286, R434). -/
def dataLinkDown (s : State) : State := hifResetBy (evcEvent (s.setReg R.HIF_LINK 0) 225) 9

/-- The response to a failure of source `k` (R434). -/
def clockResponse (s : State) (k : Nat) : State :=
  match k with
  | 0 => xtalFails s
  | 1 => clFails s
  | 2 => mcFails s
  | 3 => raiseNmi (aonEvent (linksDown (s.setFld F.CKG_STATUS_LK_LOCK 0) 4) 13) 0
  | 4 => dataLinkDown s
  | 5 => twlDown s
  | _ => s

/-- Source `k` fails (R433, R434): a promoted one resets the device. -/
def clockFail (s : State) (k : Nat) : State :=
  if live s k then s
  else
    let s1 := markFail s k
    if k < 4 ∧ (s1.fld F.CKG_MON_CTRL_PROMOTE).testBit k = true then
      resetEntry { s1 with rst := { s1.rst with xtalOk := s1.rst.xtalOk && decide (k ≠ 0) } } 5 2
    else clockResponse s1 k

/-- CLOCK_MONITOR_WINDOW (R433): a window of source `k` has counted within ±6 % or not; two outside in a row are a failure
of a source that is monitored. -/
def execClockMonitorWindow (k : Fin 7) (outside : Bool) (s : State) : Outcome :=
  let second := has s.clk.badWin k.val
  let s1 := { s with clk := { s.clk with badWin := putIn s.clk.badWin k.val outside } }
  if outside && second && (s.fld F.CKG_MON_CTRL_EN).testBit k.val then .next (clockFail s1 k.val) else .next s1

/-- The number of a PLL among the monitored sources (R432). -/
def pllSource : Pll → Nat
  | .cl => 1
  | .mc => 2
  | .lk => 3
  | .pcie => 4
  | .twl => 5

/-- PLL_LOCK_DROP (R433): its domains switch whatever the monitor's enable holds. -/
def execPllLockDrop (p : Pll) (s : State) : Outcome := .next (clockFail s (pllSource p))

/-- A failed PLL is judged locked again (R434). -/
def pllRelock (s : State) (k : Nat) : State :=
  let s1 := clearLive s k
  match k with
  | 1 => s1.setFld F.CKG_STATUS_CL_LOCK 1
  | 2 => (s1.setFld F.CKG_STATUS_MC_LOCK 1).setFld F.CKG_STATUS_MC_PATH 0
  | 3 => if s1.flag F.CKG_STATUS_XTAL_GOOD then eachNat tryTrain (s1.setFld F.CKG_STATUS_LK_LOCK 1) (List.range 24) else s1
  | _ => s1

/-- PLL_RELOCK (R433): 1 ms of uninterrupted lock and good counts. -/
def execPllRelock (p : Pll) (s : State) : Outcome := .next (pllRelock s (pllSource p))

/-- XTAL_GOOD (R433): 10 ms of good counts; the PLLs take XTAL again. -/
def execXtalGood (s : State) : Outcome :=
  let s1 := clearLive { s with rst := { s.rst with xtalOk := true } } 0
  .next ((s1.setFld F.CKG_STATUS_XTAL_GOOD 1).setFld F.CKG_STATUS_REF_IOSC 0)

/-- CL_STABLE (R436): PLL_CL has held lock for 10 ms. -/
def execClStable (s : State) : Outcome :=
  if s.flag F.CKG_STATUS_CL_LOCK then .next (s.setFld F.CKG_STATUS_CL_STABLE 1) else .next s

/-- RESUME of `CKG_CL_CTRL` (R436). -/
def clResume (s : State) : State :=
  if s.flag F.CKG_STATUS_CL_STABLE then s.setFld F.CKG_CL_CTRL_PENDING 1 else s.setFld F.CKG_CL_CTRL_REFUSED 1

/-- CL_RESUME (R436). -/
def execClResume (s : State) : Outcome := .next (clResume s)

/-! ### The degraded plan (R207, R435, R436) -/

/-- The partitions with suspended blocks, and how many each has. -/
def suspendedOf (s : State) (p : Nat) : Nat :=
  (s.thePlan.blocks.filter (fun e => decide (e.2.part = p) && !e.2.ess)).length

/-- One DEGRADED_PLAN event for each partition with suspended blocks. -/
def tellDegraded (s : State) (start : Nat) : State :=
  eachNat (fun t p =>
    let n := suspendedOf t p
    if n = 0 then t else postEvent t p 6 (start :: (leBytes 2 n).map BitVec.toNat)) s everyPart

/-- The degraded plan starts. -/
def degStart (s : State) : State :=
  if s.degraded then s else healthTell (tellDegraded (s.setFld F.DPR_DEG_STATUS_ACTIVE 1) 1)

/-- The degraded plan ends. -/
def degEnd (s : State) : State :=
  if s.degraded then healthTell (tellDegraded (s.setFld F.DPR_DEG_STATUS_ACTIVE 0) 0) else s

/-- What a boundary does before and at step 2 for the clocks: an accepted RESUME returns the clusters to PLL_CL and ends the
degraded plan; a failure since the last latch instant starts it. -/
def clocksAtBoundary (s : State) : State :=
  if s.flag F.CKG_CL_CTRL_PENDING then
    (let s1 := (s.setFld F.CKG_CL_CTRL_PENDING 0).setFld F.CKG_STATUS_CL_PATH 0
     degEnd { s1 with clk := { s1.clk with clFailed := false } })
  else if s.clk.clFailed then degStart { s with clk := { s.clk with clFailed := false } }
  else s

/-! ### Auto-trim (R430) -/

/-- Expected IOSC periods of the selected reference; `none` where the code is held. -/
def trimExpected (s : State) : Option Nat :=
  match s.fld F.CKG_TRIM_CTRL_SRC with
  | 1 => if s.flag F.CKG_STATUS_XTAL_GOOD then some 1048576 else none
  | 2 => some (100 * s.fld F.CKG_TRIM_REF_US)
  | 3 => some (100 * s.fld F.CYC_PERIOD_US)
  | _ => none

/-- Distance of two counts. -/
def apartBy (a b : Nat) : Nat := (a - b) + (b - a)

/-- The code one step toward the expected count: a greater code is a greater frequency (R429). -/
def trimStep (s : State) (n e : Nat) : State :=
  let c := s.fld F.CKG_TRIM_STAT_CODE
  s.setFld F.CKG_TRIM_STAT_CODE (if e < n then c - 1 else min 1023 (c + 1))

/-- An interval that counted `n` periods where `e` were expected. -/
def trimInterval (s : State) (n e : Nat) : State :=
  let d := apartBy n e
  if e * 2 < d * 100 then s.count F.CKG_TRIM_STAT_REJECT
  else
    let s1 := if e * 4 < d * 10000 then trimStep s n e else s
    let k := if d * 1000 ≤ e then min 8 (s.clk.trimGood + 1) else 0
    { s1.setFld F.CKG_TRIM_STAT_TRIMMED (if k = 8 then 1 else 0) with clk := { s1.clk with trimGood := k } }

/-- The most that the correction of the TB's rate changes over 262,144 XTAL periods, at 100 ppm per second (R431): parts per 10⁹. -/
def steerMost : Int := 1048

/-- The rate corrector steers the TB toward exactly 4 counts per XTAL period, with XTAL good (R431; log entry 194). -/
def steerTb (s : State) (n : Nat) : State :=
  if s.fld F.CKG_TRIM_CTRL_SRC = 1 ∧ n ≠ 0 then
    let now := (s.reg R.CKG_TB_CORR).toInt
    let goal : Int := (1048576 - (n : Int)) * 1000000000 / n
    s.setReg R.CKG_TB_CORR (BitVec.ofInt 32 (max (now - steerMost) (min (now + steerMost) goal)))
  else s

/-- AUTO_TRIM_INTERVAL (R430, R431): IOSC periods counted over a reference interval. -/
def execAutoTrimInterval (n : Word) (s : State) : Outcome :=
  match trimExpected s with
  | some e => .next (steerTb (trimInterval s n.toNat e) n.toNat)
  | none => .next s

/-! ### Cluster clocks (R432, R473, R475) -/

/-- STEP of a cluster takes a value; above 0 a further derate is possible again. -/
def setStep (s : State) (c v : Nat) : State :=
  let s1 := s.setFld (F.CKG_CLFREQ_STEP c) v
  if v = 0 then s1 else s1.setRegBit R.AGM_STATUS (16 + c) false

/-- The greatest STEP of the grade (R439). -/
def maxStep : Nat := Config.greatestStep

/-- A firmware write of STEP (R432, R473, R475, R568): ignored above the maximum, or where it would raise the STEP of a
cluster in CRIT; it clears a pending derate, and with EN 0 also what a write before it left for the boundary. -/
def stepWrite (s : State) (c v : Nat) : State :=
  if maxStep < v then s
  else if (s.fld F.AGM_STATUS_CRIT).testBit c ∧ s.fld (F.CKG_CLFREQ_STEP c) < v then s
  else
    let s1 := dropDerate s c
    let s2 := { s1 with clk := { s1.clk with stepNew := SMap.erase (fun k => k == c) s1.clk.stepNew } }
    if s2.cycEn then { s2 with clk := { s2.clk with stepNew := SMap.insert s2.clk.stepNew c v } }
    else healthTell (recomputeCaps (setStep s2 c v))

/-- CLFREQ_STEP_WRITE (R432). -/
def execClfreqStepWrite (c : Fin 4) (v : BitVec 4) (s : State) : Outcome := .next (stepWrite s c.val v.toNat)

/-- STEP writes take effect at a boundary. -/
def stepsAtBoundary (s : State) : State :=
  let s1 := s.clk.stepNew.foldl (fun t e => setStep t e.1 e.2) s
  { s1 with clk := { s1.clk with stepNew := [] } }

/-- BROWN_OUT_WARNING (R548). -/
def execBrownOutWarning (s : State) : Outcome := .next (aonEvent s 14)

end Sys2Proof.Machine
end

