-- ==== Sys2Proof/Machine/Pins.lean ====
section
/-! DEFINITION. The general-purpose pins and the counting of timers (R520, R521, R528). -/

namespace Sys2Proof.Machine

/-- What a pin can carry (R520): a UART's TX, RX, RTS_N, CTS_N as 0 to 3; an SPI's SCK, MOSI, MISO, CS0_N to CS3_N as 0 to 6; an
I2C's SCL, SDA as 0, 1; a timer. -/
inductive PinFn where
  | uart (n sig : Nat)
  | spi (m sig : Nat)
  | i2c (j sig : Nat)
  | tmr (t : Nat)
  deriving DecidableEq, Repr

/-- The chip selects of SPI `m` above CS0_N. -/
def csPin (m j : Nat) : Option PinFn := if j < 3 then some (.spi m (4 + j)) else none

/-- The function of ALT `alt` of pin `i` of port `p` (0 GPA, 1 GPB, 2 GPC), R520. -/
def pinFn (p i alt : Nat) : Option PinFn :=
  let j := i % 4
  match p, i / 4, alt with
  | 0, 0, 1 => some (.uart 0 j)
  | 0, 0, 2 => some (.tmr j)
  | 0, 1, 1 => some (.uart 1 j)
  | 0, 1, 2 => some (.tmr (4 + j))
  | 0, 2, 1 => some (.spi 0 j)
  | 0, 2, 2 => some (.uart 2 j)
  | 0, 3, 1 => csPin 0 j
  | 0, 3, 2 => some (.i2c (j / 2) (j % 2))
  | 1, 0, 1 => some (.spi 1 j)
  | 1, 0, 2 => some (.uart 3 j)
  | 1, 1, 1 => csPin 1 j
  | 1, 1, 2 => some (.tmr j)
  | 1, 2, 1 => some (.i2c (j / 2) (j % 2))
  | 1, 2, 2 => some (.uart 2 j)
  | 1, 2, 3 => some (.tmr (4 + j))
  | 1, 3, 1 => some (.uart 3 j)
  | 1, 3, 2 => some (.tmr (4 + j))
  | 1, 3, 3 => csPin 0 j
  | 2, 0, 1 => some (.tmr i)
  | 2, 1, 1 => some (.tmr i)
  | 2, 0, 2 => some (.uart (i / 2) (i % 2))
  | 2, 1, 2 => some (.uart (i / 2) (i % 2))
  | _, _, _ => none

/-- The MUX field of a pin. -/
def pinMux (s : State) (p i : Nat) : Nat :=
  s.fld ⟨if i < 8 then R.GPIO_MUX_LO p else R.GPIO_MUX_HI p, 4 * (i % 8), 4⟩

def State.uart (s : State) (n : Nat) : Uart := SMap.get (fun _ => {}) s.per.uarts n
def State.setUart (s : State) (n : Nat) (x : Uart) : State := { s with per := { s.per with uarts := SMap.set (fun _ => {}) s.per.uarts n x } }
def State.spi (s : State) (m : Nat) : Spi := SMap.get (fun _ => {}) s.per.spis m
def State.setSpi (s : State) (m : Nat) (x : Spi) : State := { s with per := { s.per with spis := SMap.set (fun _ => {}) s.per.spis m x } }
def State.i2c (s : State) (j : Nat) : I2c := SMap.get (fun _ => {}) s.per.i2cs j
def State.setI2c (s : State) (j : Nat) (x : I2c) : State := { s with per := { s.per with i2cs := SMap.set (fun _ => {}) s.per.i2cs j x } }
def State.tmr (s : State) (t : Nat) : Tmr := SMap.get (fun _ => {}) s.per.tmrs t
def State.setTmr (s : State) (t : Nat) (x : Tmr) : State := { s with per := { s.per with tmrs := SMap.set (fun _ => {}) s.per.tmrs t x } }

/-- Output and output enable of a function, between the frames and bytes that it sends. `v` is a free value: MOSI's level. -/
def fnDrive (s : State) (v : Nat) : PinFn → Bool × Bool
  | .uart n 0 => (true, s.flag (F.UART_CFG_EN n))
  | .uart n 2 => (decide (16 ≤ (s.uart n).rx.length), s.flag (F.UART_CFG_EN n) && s.flag (F.UART_CFG_RTSCTS n))
  | .uart _ _ => (false, false)
  | .spi m 0 => ((s.fld (F.SPI_CFG_MODE m)).testBit 1, s.flag (F.SPI_CFG_EN m))
  | .spi m 1 => (v.testBit m, s.flag (F.SPI_CFG_EN m))
  | .spi _ 2 => (false, false)
  | .spi m k => ((s.spi m).cs != some (k - 3), s.flag (F.SPI_CFG_EN m))
  | .i2c j _ => (true, s.flag (F.I2C_CFG_EN j))
  | .tmr t => ((s.tmr t).pin, s.flag (F.TMR_CTRL_OUT_EN t))

/-- What a boundary cell drives on its ball while EXTEST is selected (R10, R531). -/
def cellDrive (s : State) (k : Nat) : Option Bool := if s.dbg.extest.isSome then some (s.dbg.cells.testBit k) else none

/-- Output and output enable of a pin (R521). An open-drain pin that drives 1 is not driven. -/
def pinFunction (s : State) (v p i : Nat) : Bool × Bool :=
  let f := pinFn p i (pinMux s p i)
  let d := match f with | some x => fnDrive s v x | none => (false, false)
  let oe := s.regBit (R.GPIO_OE p) i
  let out := (d.1 && d.2) || (s.regBit (R.GPIO_OUT p) i && oe)
  let od := s.regBit (R.GPIO_ODRAIN p) i || (match f with | some (.i2c _ _) => true | _ => false)
  (out, (d.2 || oe) && !(od && out))

/-- Output and output enable of a pin: of its boundary cell while EXTEST is selected, else its function's. -/
def pinDrive (s : State) (v p i : Nat) : Bool × Bool :=
  match cellDrive s (16 * p + i) with
  | some b => (b, true)
  | none => pinFunction s v p i

/-- A port's outputs, output enables and pulls. -/
def portPins (s : State) (v p : Nat) : Word × Word × Word :=
  let bits (g : Nat → Bool) : Word := word ((List.range 16).map (fun i => if g i then 2 ^ i else 0)).sum
  (bits (fun i => (pinDrive s v p i).1), bits (fun i => (pinDrive s v p i).2), s.reg (R.GPIO_PULL p))

/-- Outputs, output enables and pulls of a port at the pins: held ones from the STANDBY commit point on (R523). -/
def pinsNow (s : State) (v p : Nat) : Word × Word × Word :=
  match s.flag F.GPIO_HOLD_HELD, s.per.pins[p]? with
  | true, some x => x
  | _, _ => portPins s v p

/-- The levels of a port's pins, as `GPIOx_IN` reads them (R521, R524): of a pin that the device drives, what it drives; of another,
the level that its last GPIO_EDGE gave it (log entry 215). -/
def pinLevels (s : State) (p : Nat) : Word :=
  let x := pinsNow s s.draw.1 p
  (x.1 &&& x.2.1) ||| (s.reg (R.GPIO_IN p) &&& ~~~ x.2.1)

/-- A running timer counts once; it stands at its match value until TIMER_MATCH, but in capture mode. -/
def tmrCount (s : State) (t : Nat) : State :=
  if (s.tmr t).running && (s.fld (F.TMR_CTRL_MODE t) == 2 || s.reg (R.TMR_CNT t) != s.reg (R.TMR_CMP t)) then
    s.setReg (R.TMR_CNT t) (s.reg (R.TMR_CNT t) + 1)
  else s

end Sys2Proof.Machine
end

