-- ==== Sys2Proof/Machine/Power.lean ====
section
/-! DEFINITION. Power domains, wake on demand, STANDBY and BACKUP, adaptive voltage scaling and the backup domain
(R440 to R464). -/

namespace Sys2Proof.Machine

/-! ### Domains (R440 to R446) -/

def domOn (s : State) (d : Nat) : Bool := (s.fld F.PMU_DOM_CTRL_ON).testBit d

/-- `PMU_STATE.LIGHT`: some switchable domain is off (R447). -/
def lightNow (s : State) : State := s.setFld F.PMU_STATE_LIGHT (if s.fld F.PMU_DOM_STAT_PWR = 0xFF then 0 else 1)

/-- The PMU refuses to switch a domain off (R441). -/
def offRefused (s : State) (d : Nat) : Bool :=
  if d < 4 then s.thePlan.blocks.any (fun e => decide (e.2.home = d))
  else if d = 4 then s.cycEn
  else if d = 5 then s.cycEn && (List.range 24).any (fun l => s.flag (F.SFL_CTRL_EN l))
  else if d = 6 then s.flag F.HIF_CTRL_LTSSM_EN
  else !s.flag F.NVR_STATUS_READY || s.saving || decide (s.nvr.queue ≠ [])

/-- A switch-off starts: the wrapper closes (R443, step 2); a cluster's engines drain and enter OFF. -/
def startOff (s : State) (d : Nat) : State :=
  { s.setRegBit R.PMU_DOM_STAT (8 + d) true with pmu := { s.pmu with goingOff := addTo s.pmu.goingOff d } }

/-- DOMAIN_SWITCH_OFF (R441, R443, R446): refused, also against an access that wakes the domain; or started. -/
def switchOff (s : State) (d : Nat) : State :=
  if has s.pmu.comingOn d || has s.pmu.wanted d then s.setRegBit R.PMU_DOM_STAT (24 + d) true
  else if !s.powered d || has s.pmu.goingOff d then s.setRegBit R.PMU_DOM_CTRL d false
  else if offRefused s d then s.setRegBit R.PMU_DOM_STAT (24 + d) true
  else startOff (s.setRegBit R.PMU_DOM_CTRL d false) d

/-- Registers of a domain's blocks. -/
def domReg (d a : Nat) : Bool := domainOf a == some d || (d == 6 && decide (0x100000000 ≤ a))

/-- The engines of a cluster enter OFF (R89, R443); stores still in their buffers have been drained, and what they evaluated is lost. -/
def clusterOff (s : State) (c : Nat) : State := eachNat (fun t n => resetLeAll (evalLost t n) n .off) s (clusterEngines c)

/-- Memory that a domain loses: a cluster's LIM, LDM and CSM. -/
def domByte (d a : Nat) : Bool :=
  decide (d < 4) && clusterByte d a

/-- What waits to be written into a cluster is lost with it, and the images that a hot load has written there (R200, R442). -/
def loadLost (s : State) (c : Nat) : State :=
  { s with
    dpr := { s.dpr with limQueue := s.dpr.limQueue.filter (fun w => !clusterByte c w.1) }
    shadows := s.shadows.map (fun x => if x.hot then { x with left := addTo x.left c } else x) }

/-- The event lines of the LNK domain stand at 0 from its clamp on (R443). -/
def muteLnk (s : State) : State :=
  eachNat (fun t l => t.setReg (R.SFL_EVT_EN l) 0) (s.setReg R.TWL_EVT_EN 0) (List.range 24)

/-- What a domain holds is lost with its supply (R440, R441, R443). -/
def domainLost (s : State) (d : Nat) : State :=
  let s1 := s.wipe (domByte d)
  let s2 := { s1 with ecc1 := s1.ecc1.filter (fun a => !domByte d a), ecc2 := s1.ecc2.filter (fun a => !domByte d a) }
  if d < 4 then sensorsOff (clusterOff (loadLost (s2.define (csmBase d) 0x100000) d) d) d
  else if d = 4 then
    ({ endPlan (s2.resetRegs (domReg 4)) with slots := [], unloaded := [], dpr := { undef := s2.dpr.undef, undefKey := s2.dpr.undefKey }, cyc := {}, cfg := {} })
  else if d = 5 then
    (let s3 := eachNat (fun t l => linkDown t l 1) (muteLnk (unitsOff s2 (fedLink s2))) (List.range 24)
     let s4 := twlClear s3
     { s4.resetRegs (domReg 5) with links := s4.links, fpgs := [] })
  else if d = 6 then hifClear s2
  else { s2.resetRegs (domReg 7) with
    nvr := { keyR := s2.nvr.keyR, keyW := s2.nvr.keyW, enSeen := s2.nvr.enSeen }, pfl := { ones := s2.pfl.ones } }

/-- A domain is off (R443), with its power-down packet in the trace and its funnel flushed (R462); a held access starts it again
(R445). -/
def domainOff (s : State) (d : Nat) : State :=
  let s0 := if d < 4 then trcDown s d else s
  let s1 := domainLost s0 d
  let s2 := (s1.setRegBit R.PMU_DOM_STAT d false).setRegBit R.PMU_DOM_STAT (8 + d) false
  let again := has s2.pmu.wanted d
  let s3 := lightNow { s2 with pmu := { s2.pmu with goingOff := dropFrom s2.pmu.goingOff d, wanted := dropFrom s2.pmu.wanted d } }
  if again then startOn s3 d else s3

/-- The domains in the order in which a STANDBY entry switches them off (R448). -/
def stbyOrder : List Nat := [6, 5, 0, 1, 2, 3, 4, 7]

/-- The switch-off of a domain can end: a cluster's engines have drained (R102, R443), and no journaled write runs in NVS (R448). -/
def offReady (s : State) (d : Nat) : Bool := has s.pmu.goingOff d && !draining s d && (decide (d ≠ 7) || s.nvr.queue == [])

/-- The next domain of a STANDBY entry goes off once no other is in transition, whatever R441 says of a request of firmware (R448). -/
def stbyNext (s : State) : State :=
  if s.pmu.entering && s.pmu.goingOff == [] && s.pmu.comingOn == [] then
    match stbyOrder.find? s.powered with
    | some d => startOff s d
    | none => s
  else s

/-- Every domain of the entry is off: the SP is asked to stop (R448, step 2). -/
def stbyAsked (s : State) : Bool :=
  s.pmu.entering && s.pmu.goingOff == [] && s.pmu.comingOn == [] && stbyOrder.all (fun d => !s.powered d)

/-- DOMAIN_OFF_END (R443). -/
def execDomainOffEnd (d : Fin 8) (s : State) : Outcome :=
  if offReady s d.val then .next (stbyNext (domainOff s d.val)) else .next s

/-- A domain serves accesses (R440, R444): its memories zeroed, engines in RESET, a cluster unloaded where a plan is in force (R442);
the power-up packet of a cluster (R462). -/
def domainUp (s0 : State) (d : Nat) : State :=
  let s := s0.wipe (domByte d)
  let s1 := (s.setRegBit R.PMU_DOM_STAT d true).setRegBit R.PMU_DOM_STAT (8 + d) false
  let s2 := lightNow { s1 with pmu := { s1.pmu with comingOn := dropFrom s1.pmu.comingOn d } }
  if d < 4 then
    (let s3 := eachNat (fun t n => resetLeAll t n .reset) s2 (clusterEngines d)
     let s4 := if s3.plan.isSome then { s3 with unloaded := addTo s3.unloaded d } else s3
     trcUp s4 d)
  else s2

/-- DOMAIN_SWITCH_OFF (R443). -/
def execDomainSwitchOff (d : Fin 8) (s : State) : Outcome := .next (switchOff s d.val)

/-- DOMAIN_SWITCH_ON (R444). -/
def execDomainSwitchOn (d : Fin 8) (s : State) : Outcome := .next (switchOn s d.val)

/-- WAKE_ON_DEMAND (R445): an access to the domain. -/
def execWakeOnDemand (d : Fin 8) (s : State) : Outcome :=
  if !s.powered d.val || has s.pmu.goingOff d.val then .next (wakeAccess s d.val).2 else .next s

/-! ### STANDBY (R448 to R452) -/

/-- Sources that can wake from STANDBY (R451). -/
def canWake (k : Nat) : Bool := decide ((1 ≤ k ∧ k ≤ 9) ∨ (19 ≤ k ∧ k ≤ 23))

/-- An enabled wake event is latched. -/
def wakeLatched (s : State) (k : Nat) : Bool := canWake k && s.regBit R.BKD_WAKE_EN k && s.regBit R.PMU_WAKE_PEND k

def stbyRefuse (s : State) (code : Nat) : State :=
  ((s.setFld F.PMU_STBY_STAT_REFUSED 1).setFld F.PMU_STBY_STAT_RCODE code)

/-- A STANDBY entry begins (R448, step 1). -/
def startStandby (s : State) (xtalOn : Bool) : State :=
  stbyNext { s with pmu := { s.pmu with entering := true, xtalOn := xtalOn, acked := false } }

/-- A STANDBY entry ends before its commit point: the domain that was going off stays on (R449). -/
def endEntry (s : State) : State :=
  { s.setFld F.PMU_DOM_STAT_BUSY 0 with pmu := { s.pmu with entering := false, acked := false, goingOff := [], wanted := [] } }

/-- A STANDBY request (R448). -/
def standbyRequest (s : State) (v : Word) : State :=
  if v.toNat / 65536 ≠ 0x5354 ∨ v.toNat % 2 = 0 then s
  else if s.flag F.CYC_STATUS_RUNNING then stbyRefuse s 1
  else if s.saving || s.pfstop then stbyRefuse s 2
  else startStandby s (v.toNat.testBit 1)

/-- STANDBY_REQUEST (R448). -/
def execStandbyRequest (v : Word) (s : State) : Outcome := .next (standbyRequest s v)

/-- SP_ACK_TIMEOUT (R448): 1 ms after the SP was asked; the domains already off stay off. -/
def execSpAckTimeout (s : State) : Outcome := if stbyAsked s && !s.pmu.acked then .next (endEntry (stbyRefuse s 3)) else .next s

/-- The pins hold their outputs from the commit point on (R523). -/
def holdPins (s : State) : State :=
  let v := s.draw
  { v.2.setFld F.GPIO_HOLD_HELD 1 with per := { s.per with pins := (List.range 3).map (portPins s v.1) } }

/-- The exit from STANDBY (R450): SYSTEM clearing but for MGS, from step 2, with nothing recorded; `k` is the wake source (R452), and
every source of the trace writes its power-up packet (R462). -/
def leaveStandby (s : State) (k : Nat) : State :=
  let pins := s.per.pins
  let s1 := scopeClear s 2 true
  let s2 := s1.setReg R.PMU_WAKE_SRC (word (2 ^ 31 + k))
  let s3 := { s2 with
    rst := { s2.rst with xtalDone := s.pmu.xtalOn }, per := { s2.per with pins := pins }
    pmu := { s2.pmu with wakeN := s.regBit R.BKD_WAKE_EN 23, wokeAt := some s.tb } }
  bringUp (eachNat trcUp (allPowered (s3.setFld F.GPIO_HOLD_HELD 1)) (List.range 8)) 2

/-- The commit point of a STANDBY entry (R448, step 3): nothing runs until a wake event (R449). Before it every source of the trace writes
its power-down packet and is flushed (R462). -/
def commitStandby (s : State) : State :=
  let s1 := holdPins (eachNat trcDown s (List.range 8))
  let s2 := { s1 with
    pmu := { s1.pmu with entering := false, acked := false, state := .standby }
    mc := { s1.mc with k := { s1.mc.k with state := .reset } }
    sp := { s1.sp with k := { s1.sp.k with state := .reset } }
    trc := {}
    held := [] }
  (((s2.wipe (fun a => within a 0x80000000 0x40000)).setFld F.CKG_STATUS_CL_LOCK 0).setFld F.CKG_STATUS_MC_LOCK 0).setFld
    F.CKG_STATUS_LK_LOCK 0

/-- SP_STOP_ACK (R448): the SP, which is asked once the domains are off, has stopped; the commit point follows, after a transaction
of AVS in progress (R453). -/
def execSpStopAck (s : State) : Outcome :=
  if !stbyAsked s then .next s
  else if s.pmu.step.isSome then .next { s with pmu := { s.pmu with acked := true } }
  else .next (commitStandby s)

/-- Source `k` has been latched (R449, R450): where it is enabled it aborts an entry, or ends STANDBY; one of lower number in the clock
of the wake is the source that is shown (R452). -/
def wakeOn (s : State) (k : Nat) : State :=
  if !wakeLatched s k then s
  else if s.pmu.entering then pmuEvent (endEntry (s.setFld F.PMU_STBY_STAT_ABORTED 1)) 4
  else if s.pmu.state = .standby then leaveStandby s k
  else if s.pmu.wokeAt = some s.tb ∧ k < s.fld F.PMU_WAKE_SRC_SRC then s.setFld F.PMU_WAKE_SRC_SRC k
  else s

/-- An event of source `k` reaches the AON watcher (R451). -/
def aonWake (s : State) (k : Nat) : State := wakeOn (aonEvent s k) k

/-- STANDBY_WAKE (R449, R450): source `k` is latched. -/
def execStandbyWake (k : Fin 32) (s : State) : Outcome := .next (aonWake s k.val)

/-- MAIN_SUPPLY_LOSS (R422, R447): VDD, VDDM or VDDIO is lost; only the backup domain lives until power-on. -/
def execMainSupplyLoss (s : State) : Outcome :=
  let s1 := scopeClear (pflCut (jCut (if s.saving then saveCut s else s))) 1 false
  .next { s1 with rst := { s1.rst with supplyOut := true }, pmu := { s1.pmu with state := .backup } }

/-! ### Adaptive voltage scaling (R453 to R455) -/

/-- VOUT_COMMAND in LINEAR16: round_half_away(V × 2^−EXP), V the step in mV (R453). -/
def voutWord (mv : Nat) (e : Int) : Nat :=
  if 0 ≤ e then (2 * mv * 2 ^ e.toNat + 1000) / 2000 else (2 * mv + 1000 * 2 ^ (-e).toNat) / (2000 * 2 ^ (-e).toNat)

/-- The exponent of LINEAR16, negated (R453). -/
def avsExp (s : State) : Int := -(signed 5 (s.fld F.PMU_AVS_CFG_EXP))

/-- The PMU sends a step. -/
def avsSend (s : State) (mv : Nat) : State :=
  { s with pmu := { s.pmu with sent := some (voutWord mv (avsExp s) % 65536, s.flag F.PMU_AVS_CFG_PEC) } }

/-- A target is accepted: the next step toward it begins (R453). -/
def avsNext (s : State) : State :=
  let now := s.fld F.PMU_AVS_STAT_MV
  let goal := s.fld F.PMU_AVS_TGT_MV
  if now = goal then { s.setFld F.PMU_AVS_STAT_BUSY 0 with pmu := { s.pmu with step := none, repeated := false, misses := 0 } }
  else
    let next := if now < goal then min goal (now + 10) else max goal (now - 10)
    avsSend { s.setFld F.PMU_AVS_STAT_BUSY 1 with pmu := { s.pmu with step := some next, repeated := false, misses := 0 } } next

/-- A target write that `PMU_AVS_LIM` permits (R454). -/
def avsTarget (s : State) (mv : Nat) : State :=
  if mv < s.fld F.PMU_AVS_LIM_MIN ∨ s.fld F.PMU_AVS_LIM_MAX < mv then s.setFld F.PMU_AVS_STAT_IGN 1
  else
    let s1 := s.setFld F.PMU_AVS_TGT_MV mv
    if s1.flag F.PMU_AVS_CFG_EN && s1.pmu.step.isNone then avsNext s1 else s1

/-- Firmware writes `PMU_AVS_TGT` (R454). -/
def avsTargetWrite (s : State) (mv : Nat) : State :=
  if s.flag F.PMU_AVS_CFG_OWNER then s.setFld F.PMU_AVS_STAT_IGN 1 else avsTarget s mv

/-- AVS_TARGET_WRITE (R454). -/
def execAvsTargetWrite (mv : BitVec 10) (s : State) : Outcome := .next (avsTargetWrite s mv.toNat)

/-- READ_VOUT lies within ±10 mV of the step: |raw × 1000 − step × 2^E| ≤ 10 × 2^E, for V = raw × 2^−E. -/
def voutNear (raw step : Nat) (e : Int) : Bool :=
  if 0 ≤ e then decide ((raw * 1000 : Int) - step * 2 ^ e.toNat ≤ 10 * 2 ^ e.toNat ∧ step * 2 ^ e.toNat - (raw * 1000 : Int) ≤ 10 * 2 ^ e.toNat)
  else decide ((raw * 1000 * 2 ^ (-e).toNat : Int) - step ≤ 10 ∧ (step : Int) - raw * 1000 * 2 ^ (-e).toNat ≤ 10)

/-- The AVS no longer moves: the voltage rung waits for no source 64, and the settle time runs from here where a step was under
way (R471, R472). -/
def rungStops (s : State) : State :=
  let runs := s.agm.settling || !s.agm.settled || s.pmu.step.isSome
  { s with
    pmu := { s.pmu with step := none, repeated := false, misses := 0 }
    agm := { s.agm with waitAvs := false, settling := runs, settled := !runs, whole := s.agm.whole && !runs } }

/-- AVS stops on an error (R455). -/
def avsError (s : State) (code : Nat) : State :=
  let s1 := ((s.setFld F.PMU_AVS_STAT_ERR 1).setFld F.PMU_AVS_STAT_ECODE code).setFld F.PMU_AVS_CFG_EN 0
  pmuEvent (rungStops (s1.setFld F.PMU_AVS_STAT_BUSY 0)) 1

/-- A failure of the step: one repeat, then the error (R455). -/
def avsFail (s : State) (code : Nat) : State :=
  if s.pmu.repeated then avsError s code
  else avsSend { s with pmu := { s.pmu with repeated := true, misses := 0 } } (s.pmu.step.getD 0)

/-- The step is confirmed; at the target, source 64 (R453). -/
def avsDone (s : State) (step : Nat) : State :=
  let s1 := avsNext (s.setFld F.PMU_AVS_STAT_MV step)
  if s1.pmu.step.isNone then
    pmuEvent { s1 with agm := { s1.agm with waitAvs := false, settling := true, settled := false, whole := false } } 0
  else s1

/-- The end of a step's settle time. A reading outside ±10 mV is taken once more; without PEC none can mismatch. -/
def avsSettle (s : State) (step : Nat) : AvsEnd → State
  | .vout raw =>
    let s1 := s.setReg R.PMU_AVS_VOUT (word raw.toNat)
    if voutNear raw.toNat step (avsExp s) then avsDone s1 step
    else if s.pmu.misses = 0 then { s1 with pmu := { s1.pmu with misses := 1 } }
    else avsFail s1 4
  | .nack => avsFail s 1
  | .pec => if s.flag F.PMU_AVS_CFG_PEC then avsFail s 2 else s
  | .scl => avsFail s 3

/-- AVS_SETTLE (R453): the transaction that a STANDBY commit point waits for ends with it. -/
def execAvsSettle (r : AvsEnd) (s : State) : Outcome :=
  match s.pmu.step with
  | some v =>
    let s1 := avsSettle s v r
    .next (if s1.pmu.acked && stbyAsked s1 then commitStandby s1 else s1)
  | none => .next s

/-- READ_IOUT_POLL (R453). -/
def execReadIoutPoll (raw : BitVec 16) (s : State) : Outcome :=
  if s.flag F.PMU_AVS_CFG_EN then .next (s.setReg R.PMU_AVS_IOUT (word raw.toNat)) else .next s

/-- PMB_ALERT (R455). -/
def execPmbAlert (status : BitVec 16) (s : State) : Outcome :=
  .next (pmuEvent ((s.setReg R.PMU_AVS_SW (word status.toNat)).setFld F.PMU_AVS_STAT_ALERT 1) 2)

/-- A write of `PMU_AVS_CFG` (R463): fields other than EN change only while EN is 0; EN set starts toward the target. -/
def avsCfgWrite (s : State) (v : Word) : State :=
  let was := s.flag F.PMU_AVS_CFG_EN
  let keep := if was then (s.reg R.PMU_AVS_CFG &&& 0x7FFFFFFF) ||| (v &&& 0x80000000) else v
  let s1 := plainReg s R.PMU_AVS_CFG (if keep.toNat % 256 = 0 then keep ||| (s.reg R.PMU_AVS_CFG &&& 0xFF) else keep)
  if s1.flag F.PMU_AVS_CFG_EN && !was then avsNext s1
  else if was && !s1.flag F.PMU_AVS_CFG_EN then
    rungStops (s1.setFld F.PMU_AVS_STAT_BUSY 0)
  else s1

/-- A write of `PMU_AVS_LIM` (R463). -/
def avsLimWrite (s : State) (v : Word) : State :=
  let mx := v.toNat / 65536 % 1024
  let mn := v.toNat % 1024
  let lock := s.flag F.PMU_AVS_LIM_LOCK
  let s1 := if lock ∨ mx < mn ∨ mn < 700 ∨ 900 < mx then s
    else (s.setFld F.PMU_AVS_LIM_MAX mx).setFld F.PMU_AVS_LIM_MIN mn
  if v.toNat.testBit 31 then s1.setFld F.PMU_AVS_LIM_LOCK 1 else s1

/-- A write of `PMU_DOM_CTRL` (R443 to R446): LOCK bits, then each domain that stands otherwise than its ON bit asks. -/
def domCtrlWrite (s : State) (v : Word) : State :=
  let s1 := s.setFld F.PMU_DOM_CTRL_LOCK (v.toNat / 256)
  eachNat (fun t d => if v.toNat.testBit d then switchOn t d else switchOff t d) s1 (List.range 8)

/-! ### The backup domain (R456 to R461) -/

/-- BKD_LOSS (R456): every item is lost. -/
def bkdLoss (s : State) : State :=
  let s1 := (s.resetRegs bkdReg).wipe (fun a => within a bkdRam 0x100)
  { s1.setFld F.BKD_STATUS_LOST 1 with bkd := {} }

def execBkdLoss (s : State) : Outcome := .next (bkdLoss s)

/-- RTC_SEC_WRITE (R457): SUB restarts and the time is valid. -/
def rtcSecWrite (s : State) (v : Word) : State :=
  ((s.setReg R.BKD_RTC_SEC v).setReg R.BKD_RTC_SUB 0).setFld F.BKD_STATUS_RTC_VALID 1

def execRtcSecWrite (v : Word) (s : State) : Outcome := .next (rtcSecWrite s v)

/-- RTC_SUB_READ (R457): SEC is latched until it is read. -/
def rtcSubRead (s : State) : State := { s with bkd := { s.bkd with latched := some (s.reg R.BKD_RTC_SEC) } }

def execRtcSubRead (s : State) : Outcome :=
  let v := s.reg R.BKD_RTC_SUB
  .next { rtcSubRead s with readData := v }

/-- PWR_REQ_N is asserted by an event whose REQ_EN bit is set; the entry joins the queue, or is counted (R460). -/
def backupEvent (s : State) (src : Nat) : State :=
  let e := 2 ^ 63 + src * 2 ^ 48 + s.fld F.BKD_RTC_SUB_SUB * 2 ^ 32 + (s.reg R.BKD_RTC_SEC).toNat
  let s1 := if s.bkd.evq.length < 8 then { s with bkd := { s.bkd with evq := s.bkd.evq ++ [e] } }
    else s.count F.BKD_STATUS_EVQ_OVF
  if (s.fld F.BKD_CTRL_REQ_EN).testBit (src - 1) then s1.setFld F.BKD_STATUS_REQ 1 else s1

/-- The alarm fires: ALM_EN is cleared; source 1, or an event of BACKUP (R458, R460). -/
def alarmFires (s : State) : State :=
  let s1 := s.setFld F.BKD_CTRL_ALM_EN 0
  if s.pmu.state = .backup then backupEvent s1 1 else aonWake s1 1

/-- RTC_ALARM (R458, R460): SEC steps to the alarm while it is armed. -/
def execRtcAlarm (s : State) : Outcome :=
  if s.flag F.BKD_CTRL_ALM_EN then .next (alarmFires ((s.setReg R.BKD_RTC_SEC (s.reg R.BKD_ALM_SEC)).setReg R.BKD_RTC_SUB 0))
  else .next s

/-- One period of 32.768 kHz (R457). -/
def rtcPeriod (s : State) : State :=
  let n := s.fld F.BKD_RTC_SUB_SUB + 1
  if n < 32768 then s.setFld F.BKD_RTC_SUB_SUB n
  else
    let s1 := (s.setReg R.BKD_RTC_SEC (s.reg R.BKD_RTC_SEC + 1)).setFld F.BKD_RTC_SUB_SUB 0
    if s.flag F.BKD_CTRL_ALM_EN ∧ s1.reg R.BKD_RTC_SEC = s.reg R.BKD_ALM_SEC then alarmFires s1 else s1

/-- A count of the timebase: the RTC steps at each 32,768th part of 100,000,000 counts. -/
def rtcTick (s : State) : State :=
  if s.tb * 32768 / 100000000 = (s.tb + 1) * 32768 / 100000000 then s else rtcPeriod s

/-- BACKUP_EVENT (R460): a selected edge of WAKE_IN0 to WAKE_IN3, in BACKUP an event of its own, else source 2 to 5. -/
def execBackupEvent (k : Fin 4) (rising : Bool) (s : State) : Outcome :=
  let e := s.fld F.BKD_WAKE_CFG_EDGE / 4 ^ k.val % 4
  if e.testBit (if rising then 0 else 1) then
    .next (if s.pmu.state = .backup then backupEvent s (k.val + 2) else aonWake s (k.val + 2))
  else .next s

/-- REQ_CLR (R460, R464). -/
def reqClr (s : State) : State := (s.setFld F.BKD_STATUS_REQ 0).setFld F.BKD_STATUS_EVQ_OVF 0

def execReqClr (s : State) : Outcome := .next (reqClr s)

/-- BKD_EVQ_HI_READ (R464): the oldest entry is removed. -/
def evqPop (s : State) : State := { s with bkd := { s.bkd with evq := s.bkd.evq.tail } }

def execBkdEvqHiRead (s : State) : Outcome :=
  .next { evqPop s with readData := word (s.bkd.evq.headD 0 / 2 ^ 32) }

/-- The registers that are views of the backup domain. -/
def bkdRead (s : State) (a : Nat) : Option Word :=
  if a = R.BKD_STATUS then some (s.reg a ||| word (256 * s.bkd.evq.length))
  else if a = R.BKD_RTC_SEC then some (s.bkd.latched.getD (s.reg a))
  else if a = R.BKD_EVQ_LO then some (word (s.bkd.evq.headD 0))
  else if a = R.BKD_EVQ_HI then some (word (s.bkd.evq.headD 0 / 2 ^ 32))
  else none

/-- What a read of the block does besides. -/
def bkdReadEffect (s : State) (a : Nat) : State :=
  if a = R.BKD_RTC_SUB then rtcSubRead s
  else if a = R.BKD_RTC_SEC then { s with bkd := { s.bkd with latched := none } }
  else if a = R.BKD_EVQ_HI then evqPop s
  else s

/-- Bits of `BKD_WAKE_EN` that take a write (R464): those that can wake, and PCIE. -/
def wakeEnMask : Nat := ((List.range 32).map (fun k => if canWake k then 2 ^ k else 0)).sum

end Sys2Proof.Machine
end

