-- ==== Sys2Proof/Machine/Ageing.lean ====
section
/-! DEFINITION. The ageing monitor: margins, margin states, the re-plan ladder, the ledger, the forecast and the margin report
(R465 to R480). -/

namespace Sys2Proof.Machine

/-! ### Margins (R465 to R468) -/

/-- The period in ps at a STEP (R466). -/
def periodOf (step : Nat) : Int := roundAway 1000000 (450 + 25 * step)
/-- Q_c of the last window, exact; none of a cluster that is off, or not yet measured (R465, R466). -/
def ratio (s : State) (c : Nat) : Option Int := (s.agm.ratios.find? (fun e => decide (e.1 = c))).map Prod.snd

def mWarn (s : State) : Int := eff s 2
def mCrit (s : State) : Int := eff s 3

/-- A replica's contribution to the margin: the period less its window mean, or a probe's slack less 4 ps where that is
lower (R466, R468). -/
def contribution (s : State) (c r : Nat) (mean : Nat) : Int :=
  let m := periodOf (stepOf s c) - mean
  match s.agm.fresh.find? (fun e => decide (e.1 = 16 * c + r)) with
  | some e => min m ((e.2 : Int) - 4)
  | none => m

/-- The least of a list of integers. -/
def leastInt : Int → List Int → Int
  | a, [] => a
  | a, b :: l => leastInt (min a b) l

/-- A register of 16-bit halves keeps the lower values; 0x8000 stands for none. -/
def keepLeast (s : State) (f : Fld) (z : Int) : State :=
  let old := signed 16 (s.fld f)
  s.setFld f (low16 (if old = -32768 then z else min old z))

/-- One cluster's measurements: `AGM_MARGINc`, `AGM_MINc`, `AGM_CANARYc`; a cluster that is off reads 0x8000 (R465). -/
def measureCluster (w : AgmWindow) (s : State) (c : Nat) : State :=
  if !s.powered c then sensorsOff s c
  else
    let mean (r : Nat) : Nat := (w.means.getD (16 * c + r) 0).toNat
    let m := leastInt (contribution s c 0 (mean 0)) ((List.range 16).map (fun r => contribution s c r (mean r)))
    let q := m * 10000 / periodOf (stepOf s c)
    let k := (w.canary.getD c 0).toNat
    let s1 := (s.setFld (F.AGM_MARGIN_PS c) (low16 m)).setFld (F.AGM_MARGIN_PCT c) (low16 q)
    let s2 := keepLeast (keepLeast s1 (F.AGM_MIN_PS c) m) (F.AGM_MIN_PCT c) q
    let s3 := (s2.setFld (F.AGM_CANARY_WIN c) k).setFld (F.AGM_CANARY_TOTAL c) (min 65535 (s2.fld (F.AGM_CANARY_TOTAL c) + k))
    { s3 with agm := { s3.agm with
        ratios := SMap.insert (SMap.erase (fun j => j == c) s3.agm.ratios) c q
        means := (List.range 16).foldl (fun a r => SMap.set (fun _ => 0x8000) a (16 * c + r) (mean r)) s3.agm.means } }

/-- Temperatures of sensors in clusters that are on (R350, R465). -/
def temps (s : State) (w : AgmWindow) : List (Nat × Int) :=
  ((List.range 8).filter (fun k => s.powered (k / 2))).map (fun k =>
    (k, calibrated s (eff s (0x10 + 2 * k)) (w.temp.getD k 0).toInt (0x11 + 2 * k)))

/-- Temperatures, supplies, and the over-temperature event (R465, R469). -/
def measureTemps (w : AgmWindow) (s : State) : State :=
  let s1 := eachNat (fun t k => t.setFld (F.AGM_TEMP_VAL k) 0x8000) s (List.range 8)
  let s2 := (temps s w).foldl (fun t e => t.setFld (F.AGM_TEMP_VAL e.1) (low16 e.2)) s1
  let s3 := eachNat (fun t k =>
    t.setFld (F.AGM_VS_VAL k) (low16 (calibrated s (eff s (0x20 + 2 * k)) (w.vs.getD k 0).toInt (0x21 + 2 * k)))) s2 (List.range 8)
  match (temps s w).map Prod.snd with
  | [] => s3
  | h0 :: l =>
    let h := mostInt h0 l
    let hi := signed 16 (s3.fld F.AGM_TEMP_HI_VAL)
    let s4 := { s3 with agm := { s3.agm with dayTemp := max s3.agm.dayTemp h } }
    if hi ≤ h then (if s4.agm.hot then s4 else aonEvent { s4 with agm := { s4.agm with hot := true } } 17)
    else if h < hi - 50 then { s4 with agm := { s4.agm with hot := false } }
    else s4

/-- A cluster's window counts as Q_c below M_CRIT, its canaries included (R467). -/
def lowCrit (s : State) (c : Nat) : Bool :=
  match ratio s c with
  | none => false
  | some q => decide (q < mCrit s) || decide (s.fld F.AGM_CANARY_LIM_CRIT ≤ s.fld (F.AGM_CANARY_WIN c))

/-- It counts as Q_c below M_WARN, which what counts as below M_CRIT does too: M_CRIT is below M_WARN (R349, R467). -/
def lowWarn (s : State) (c : Nat) : Bool :=
  lowCrit s c ||
    match ratio s c with
    | none => false
    | some q => decide (q < mWarn s) || decide (s.fld F.AGM_CANARY_LIM_WARN ≤ s.fld (F.AGM_CANARY_WIN c))

/-- Q_c is at least 1 % of the period above M_WARN, or above M_CRIT (R470, R475). -/
def highOk (s : State) (c : Nat) : Bool :=
  !lowWarn s c && match ratio s c with | none => false | some q => decide (mWarn s + 100 ≤ q)
def clearOk (s : State) (c : Nat) : Bool :=
  !lowCrit s c && match ratio s c with | none => false | some q => decide (mCrit s + 100 ≤ q)

/-! ### The ladder (R471 to R475) -/

/-- The voltage rung's next step, where it is permitted and some cluster still needs it (R471). -/
def voltageRung (s : State) : State :=
  let on := (List.range 4).filter (fun c => s.powered c)
  if s.flag F.AGM_CTRL_LADDER && s.flag F.PMU_AVS_CFG_EN && s.flag F.PMU_AVS_CFG_OWNER && !ceiling s && !s.agm.waitAvs &&
      !s.agm.settling && on.any (fun c => marginState s c != .ok) && on.any (fun c => lowWarn s c) then
    (let s1 := avsTarget s (s.fld F.PMU_AVS_STAT_MV + 10)
     record { s1 with agm := { s1.agm with waitAvs := true, settled := false, whole := false } } 4 0xFF)
  else s

/-- Every partition that homes a foreground block in a cluster is in TRACK (R468, R473). -/
def clusterQuiet (s : State) (c : Nat) : Bool :=
  s.thePlan.blocks.all (fun e => e.2.bg || decide (e.2.home ≠ c) || s.track e.2.part)

/-- A pending derate is applied, and PEND becomes WARN (R470, R473). -/
def applyDerate (s : State) (c : Nat) : State :=
  if marginState s c = .pend then
    enterWarn (record (agmEvent (clearPend (setStep s c (stepOf s c - 1)) c) 2) 6 c) c
  else s

/-- A cluster enters PEND (R472), or FLOOR at STEP 0; while EN is 0 the derate is applied at once (R473). -/
def enterPend (s : State) (c : Nat) : State :=
  if stepOf s c = 0 then setAgmBit s 16 c true
  else
    let s1 := record (agmEvent (setAgmBit s 20 c true) 1) 5 c
    if s1.cycEn then s1 else recomputeCaps (applyDerate s1 c)

/-- One step down at M_CRIT, FLOOR at STEP 0, with its record (R474). -/
def critStep (s : State) (c : Nat) : State :=
  let s1 := if stepOf s c = 0 then setAgmBit s 16 c true else setStep s c (stepOf s c - 1)
  record s1 7 c

/-- The emergency derate (R474). -/
def emergency (s : State) (c : Nat) : State :=
  let s1 := { s with
    clk := { s.clk with stepNew := SMap.erase (fun k => k == c) s.clk.stepNew } }
  let s2 := setAgmBit (setAgmBit (clearPend s1 c) 24 c false) 28 c true
  voltageRung (critStep (raiseNmi s2 2) c)

/-- A further window at M_CRIT: one step more, until FLOOR (R474). -/
def critAgain (s : State) (c : Nat) : State :=
  if stepOf s c = 0 then setAgmBit s 16 c true else critStep s c

/-- Whether WARN turns into PEND at this window's end (R472). -/
def pendDue (s : State) (c : Nat) : Bool :=
  s.flag F.AGM_CTRL_LADDER && ((ceiling s && lowWarn s c && s.agm.whole) || (has s.agm.ceilWarn c && s.agm.settled))

/-- A cluster's margin state is judged at the end of a window (R470); at the first one of an AGM start, M_WARN suffices for OK. -/
def judgeMargin (s : State) (c : Nat) : State :=
  if !s.powered c then s
  else
    match marginState s c with
    | .crit => if lowCrit s c then critAgain s c else s
    | .ok =>
      if lowCrit s c then emergency s c
      else if lowWarn s c then enterWarn s c
      else s
    | .warn =>
      if lowCrit s c then emergency s c
      else if highOk s c || (!s.agm.judged && !lowWarn s c) then record (setAgmBit s 24 c false) 3 c
      else if pendDue s c && !agmBit s 16 c then enterPend s c
      else s
    | .pend => if lowCrit s c then emergency s c else s

/-- The derates that a reset of the CYC has left pending are due at once, with EN 0 (R473; log entry 89). -/
def deratesStopped (s : State) : State :=
  if s.cycEn then s else eachNat (fun t c => if marginState t c = .pend then recomputeCaps (applyDerate t c) else t) s (List.range 4)

/-- The end of a window (R466 to R474); while debug halts the periphery the ladder does not act on it (R537). -/
def agmWindow (s : State) (w : AgmWindow) : State :=
  let s1 := deratesStopped (ledgerFlush (agmStart s))
  let s2 := measureTemps w (eachNat (measureCluster w) s1 (List.range 4))
  if s.dbgHalted then { s2 with agm := { s2.agm with fresh := [] } } else
  let s3 := eachNat judgeMargin s2 (List.range 4)
  let s4 := voltageRung s3
  healthTell { s4 with agm := { s4.agm with fresh := [], whole := s4.agm.settled, judged := true } }

/-- AGM_WINDOW_END (R466): a probe counts for no window but the one in which it ends (R468). -/
def execAgmWindowEnd (w : AgmWindow) (s : State) : Outcome :=
  if s.flag F.AGM_CTRL_EN then .next (agmWindow s w) else .next { s with agm := { s.agm with fresh := [] } }

/-- A probe of a replica of the cluster may run (R468): in the housekeeping span one of the cluster, in a quiet cluster at any time. -/
def mayProbe (s : State) (c : Nat) : Bool :=
  s.flag F.AGM_CTRL_EN && s.flag F.AGM_CTRL_PROBE_EN && s.powered c &&
    ((s.cyc.house && !has s.agm.probed c) || clusterQuiet s c)

/-- MARGIN_PROBE (R468). -/
def execMarginProbe (c : Fin 4) (r : Fin 16) (slack : BitVec 16) (s : State) : Outcome :=
  if mayProbe s c.val then
    (let k := 16 * c.val + r.val
     .next { s with agm := { s.agm with
       probed := if s.cyc.house then addTo s.agm.probed c.val else s.agm.probed
       probes := SMap.set (fun _ => 0xFFFF) s.agm.probes k slack.toNat
       fresh := SMap.insert (SMap.erase (fun j => j == k) s.agm.fresh) k slack.toNat } })
  else .next s

/-- AGM_SETTLE_EXPIRY (R471). -/
def execAgmSettleExpiry (s : State) : Outcome :=
  if s.agm.settling && !s.dbgHalted then
    .next (voltageRung { s with agm := { s.agm with settling := false, settled := true } })
  else .next s

/-- Seconds of 90 days in TB counts. -/
def ninetyDays : Nat := 90 * 86400 * 100000000

/-- The newest valid anchor is at least 90 days older, or none is valid (R477). -/
def anchorDue (s : State) : Bool :=
  match ledgerTop s anchorSlots with
  | none => true
  | some a => decide (s.rd (ledgerAt (120 + a % 8)) 8 + ninetyDays ≤ s.tb)

/-- A DAILY record, an ANCHOR where it is due, and the day begins anew. -/
def dailyRecord (s : State) : State :=
  let l := ledgerBytes s 1 0xFF s.agm.dayTemp (marginsDay s)
  let s1 := ledgerPut s false l
  let s2 := if anchorDue s1 then ledgerPut s1 true (ledgerBytes s 10 0xFF s.agm.dayTemp (marginsDay s)) else s1
  let s3 := eachNat (fun t c => (t.setReg (R.AGM_MIN c) 0x80008000).setFld (F.AGM_CANARY_TOTAL c) 0) s2 (List.range 4)
  { s3 with agm := { s3.agm with dayTemp := -32768, lastDaily := s.tb } }

/-- DAILY_RECORD (R477). -/
def execDailyRecord (s : State) : Outcome := if s.flag F.AGM_CTRL_EN then .next (dailyRecord s) else .next s

/-- AGM_LEDGER_MARK (R477): a FW_MARK record with the written value. -/
def ledgerMark (s : State) (v : Word) : State :=
  ledgerPut s false (ledgerBytes s 9 0xFF (highestTemp s) (leBytes 8 v.toNat))

def execAgmLedgerMark (v : Word) (s : State) : Outcome := .next (ledgerMark s v)

/-- APPLY (R473, R475, R568): no effect where no derate is pending. -/
def derateApply (s : State) (m : Nat) : State :=
  eachNat (fun t c =>
    if m.testBit c ∧ marginState t c = .pend then
      (if t.cycEn then { t with agm := { t.agm with apply := addTo t.agm.apply c } } else recomputeCaps (applyDerate t c))
    else t) s (List.range 4)

def execApply (m : BitVec 4) (s : State) : Outcome := .next (healthTell (derateApply s m.toNat))

/-- CANCEL (R473). -/
def derateCancel (s : State) (m : Nat) : State :=
  eachNat (fun t c => if m.testBit c then dropDerate t c else t) s (List.range 4)

def execCancel (m : BitVec 4) (s : State) : Outcome := .next (derateCancel s m.toNat)

/-- CRIT_CLEAR (R470, R475). -/
def critClear (s : State) (m : Nat) : State :=
  healthTell (eachNat (fun t c =>
    if m.testBit c && agmBit t 28 c && clearOk t c then enterWarn (setAgmBit t 28 c false) c
    else t) s (List.range 4))

def execCritClear (m : BitVec 4) (s : State) : Outcome := .next (critClear s m.toNat)

/-- Pending derates that a boundary applies (R473): judged after step 4 of R20, done before step 6. In a cluster whose STEP firmware has
written for the same boundary, the derate that is due is cleared and not applied (R475). -/
def deratesAtBoundary (written : List Nat) (s : State) : State :=
  let s1 := eachNat (fun t c =>
    if clusterQuiet t c || t.service || has t.agm.apply c then (if has written c then dropDerate t c else applyDerate t c) else t)
    s (List.range 4)
  { s1 with agm := { s1.agm with apply := [] } }

/-! ### Forecast and the margin report (R478, R479) -/

/-- Slots of valid DAILY and ANCHOR records with a margin of the cluster. -/
def fitSlots (s : State) (c : Nat) : List Nat :=
  (List.range 128).filter (fun k =>
    ledgerValid s k && decide (s.rd (ledgerAt k + 12) 1 = 1 ∨ s.rd (ledgerAt k + 12) 1 = 10) &&
      decide (s.rd (ledgerAt k + 20 + 2 * c) 2 ≠ 0x8000))

/-- A point of the fit: TB, and ten times the worst delay at the present VDD. -/
def fitPoint (s : State) (c k : Nat) : Int × Int :=
  let step := s.rd (ledgerAt k + 18) 2 / 16 ^ c % 16
  let margin := signed 16 (s.rd (ledgerAt k + 20 + 2 * c) 2)
  let dv : Int := (s.fld F.PMU_AVS_STAT_MV : Int) - s.rd (ledgerAt k + 16) 2
  ((s.rd (ledgerAt k) 8 : Int), 10 * (periodOf step - margin) - s.fld F.AGM_VSENS_PS * dv)

/-- TB counts in a year (R478). -/
def yearTb : Int := 100000000 * 31557600

/-- Sums of the least squares: count, Σt, Σd, Σtt, Σtd. -/
def fitSums (l : List (Int × Int)) : Int × Int × Int × Int × Int :=
  l.foldl (fun a p => (a.1 + 1, a.2.1 + p.1, a.2.2.1 + p.2, a.2.2.2.1 + p.1 * p.1, a.2.2.2.2 + p.1 * p.2)) (0, 0, 0, 0, 0)

/-- The slope and the forecast of a cluster, as the report holds them (R478). With d in tenths of a ps and t in TB counts, the
slope in ps per year is num × yearTb / (10 × den). -/
def forecast (s : State) (c : Nat) : Nat × Nat :=
  let x := fitSums ((fitSlots s c).map (fitPoint s c))
  let n := x.1
  let den := n * x.2.2.2.1 - x.2.1 * x.2.1
  let num := n * x.2.2.2.2 - x.2.1 * x.2.2.1
  let b := low16 (Config.agmRound (num * yearTb) (10 * den))
  let lim10000 := periodOf (stepOf s c) * (10000 - mWarn s) * 10 +
    10000 * (s.fld F.AGM_VSENS_PS : Int) * ((s.fld F.PMU_AVS_LIM_MAX : Int) - s.fld F.PMU_AVS_STAT_MV)
  let fitNow := x.2.2.1 * den + num * (n * s.tb - x.2.1)
  let room := lim10000 * n * den - 10000 * fitNow
  if n < 14 ∨ num ≤ 0 ∨ den ≤ 0 ∨ s.powered c = false then (b, 0xFFFF)
  else (b, low16 (Config.agmRound (max 0 (100 * room)) (10000 * n * num * yearTb)))

/-- The cap at STEP − 1, less the use (R479). -/
def headNext (s : State) (c : Nat) : Nat :=
  if stepOf s c = 0 then 0x80000000
  else
    let t := setStep s c (stepOf s c - 1)
    (BitVec.ofInt 32 ((capOf t t.adm false c : Int) - fgCost s.thePlan c)).toNat

/-- A cluster's state byte in the report. -/
def stateByte (s : State) (c : Nat) : Nat :=
  (match marginState s c with | .ok => 0 | .warn => 1 | .pend => 2 | .crit => 3) + (if agmBit s 16 c then 128 else 0)

/-- A cluster's entry in the report. -/
def reportEntry (s : State) (c : Nat) : List Byte :=
  let f := forecast s c
  leBytes 2 (s.fld (F.AGM_MARGIN_PS c)) ++ leBytes 2 (s.fld (F.AGM_MARGIN_PCT c)) ++ leBytes 2 (s.fld (F.AGM_MIN_PS c)) ++
    leBytes 1 (stepOf s c) ++ leBytes 1 (stateByte s c) ++ leBytes 2 f.1 ++ leBytes 2 f.2 ++
    leBytes 4 (BitVec.ofInt 32 ((s.fld (F.CYC_ADM_CAPC_SLOTS c) : Int) - fgCost s.thePlan c)).toNat ++
    leBytes 4 (headNext s c) ++ leBytes 4 (s.fld (F.AGM_CANARY_TOTAL c))

/-- `AGM_STATUS` as it reads, with CEILING. -/
def agmStatus (s : State) : Word := s.reg R.AGM_STATUS ||| (if ceiling s then 0x8000 else 0)

/-- The margin report record (R479). -/
def marginReport (s : State) : List Byte :=
  leBytes 8 s.tb ++ leBytes 2 (low16 (highestTemp s)) ++ leBytes 2 (s.fld F.PMU_AVS_STAT_MV) ++ leBytes 2 (s.fld F.PMU_AVS_LIM_MAX) ++
    leBytes 2 (s.fld F.AGM_VSENS_PS) ++ leBytes 4 (agmStatus s).toNat ++ leBytes 4 (s.fld F.AGM_LEDGER_SEQ_VAL) ++
    List.replicate 8 0 ++ ((List.range 4).map (reportEntry s)).flatten

/-- The registers that are views of the monitor. -/
def agmRead (s : State) (a : Nat) : Option Word :=
  if a = R.AGM_STATUS then some (agmStatus s)
  else if a = R.AGM_REP_DATA then
    (let k := 16 * s.fld F.AGM_REP_SEL_CLUSTER + s.fld F.AGM_REP_SEL_REPLICA
     let off := !s.powered (s.fld F.AGM_REP_SEL_CLUSTER)
     let d := if off then 0x8000 else SMap.get (fun _ => 0x8000) s.agm.means k
     some (word (SMap.get (fun _ => 0xFFFF) s.agm.probes k * 65536 + d)))
  else calRead s a

end Sys2Proof.Machine
end

