-- ==== Sys2Proof/Machine/Bmv.lean ====
section
/-! DEFINITION. The Block Mover's channels, the Check Value Unit and the Memory Scan Engine as firmware starts, stops and reads
them (R308, R310, R317, R318, R320 to R325, R329, R330). -/

namespace Sys2Proof.Machine

/-! ### The Check Value Unit (R321 to R323) -/

/-- One step of a check register that shifts left, `w` bits wide. -/
def crcLeft (w poly c : Nat) : Nat := let d := 2 * c % 2 ^ w; if c / 2 ^ (w - 1) % 2 = 1 then Nat.xor d poly else d

def crcLefts (w poly : Nat) : Nat → Nat → Nat
  | 0, c => c
  | n + 1, c => crcLefts w poly n (crcLeft w poly c)

/-- The register after one byte under a user-class POLY. -/
def cvuByte (poly : Nat) (c : Word) (b : Byte) : Word :=
  match poly with
  | 0 => crcBits 0xEDB88320 8 (c ^^^ b.zeroExtend 32)
  | 1 => crc32cRun c [b]
  | 2 => word (crcLefts 16 0x1021 8 (Nat.xor (c.toNat % 65536) (b.toNat * 256)))
  | _ => word (crcLefts 8 0x07 8 (Nat.xor (c.toNat % 256) b.toNat))

/-- POLY of a context; a frame-class context computes CRC-32C (R322). -/
def cvuPoly (s : State) (c : Nat) : Nat := if s.flag (F.CVU_CFG_CLASS c) then 1 else s.fld (F.CVU_CFG_POLY c)

/-- W in bytes. -/
def cvuW (s : State) (c : Nat) : Nat :=
  match cvuPoly s c with
  | 2 => 2
  | 3 => 1
  | _ => 4

def State.cvuReg (s : State) (c : Nat) : Word := SMap.get (fun _ => 0xFFFFFFFF) s.cvu c
def State.setCvu (s : State) (c : Nat) (v : Word) : State := { s with cvu := SMap.set (fun _ => 0xFFFFFFFF) s.cvu c v }

/-- A fold word as seed (R230, R323). -/
def foldSeed (v : Word) : Word := frameSeed (v.toNat / 2 ^ 24) (v.toNat / 65536 % 256) (v.toNat % 65536)

/-- The seed of a restart; a descriptor's SEED replaces it (R321, R323). -/
def cvuSeed (s : State) (c : Nat) (seed : Option Word) : Word :=
  if s.flag (F.CVU_CFG_CLASS c) then foldSeed (seed.getD (s.reg (R.CVU_FOLD c)))
  else
    let own := if s.flag (F.CVU_CFG_OWNINIT c) then some (s.reg (R.CVU_INIT c)) else none
    match seed.or own with
    | some v => word (v.toNat % 2 ^ (8 * cvuW s c))
    | none => word (match s.fld (F.CVU_CFG_POLY c) with | 2 => 0xFFFF | 3 => 0 | _ => 0xFFFFFFFF)

/-- A context is restarted (R323). -/
def cvuRestart (s : State) (c : Nat) (seed : Option Word) : State := s.setCvu c (cvuSeed s c seed)

/-- Bytes are fed. -/
def cvuFeed (s : State) (c : Nat) (l : List Byte) : State := s.setCvu c (l.foldl (cvuByte (cvuPoly s c)) (s.cvuReg c))

/-- The check so far, with the final XOR. -/
def cvuRes (s : State) (c : Nat) : Word := if cvuW s c = 4 then s.cvuReg c ^^^ 0xFFFFFFFF else s.cvuReg c

/-- The check's bytes in the order of R321. -/
def cvuBytes (s : State) (c : Nat) : List Byte :=
  let l := leBytes (cvuW s c) (cvuRes s c).toNat
  if cvuPoly s c = 2 then l.reverse else l

/-- A write is ignored while the context is attached (R324). -/
def cvuIgnore (s : State) (c : Nat) : State := s.setFld (F.CVU_CFG_IGN c) 1

/-- RESTART is written. -/
def cvuRestartWrite (s : State) (c : Nat) : State := if s.flag (F.CVU_CFG_BUSY c) then cvuIgnore s c else cvuRestart s c none

/-- CVU_RESTART (R323). -/
def execCvuRestart (c : Fin 4) (s : State) : Outcome :=
  atReg s (R.CVU_CFG c.val) (s.reg (R.CVU_CFG c.val) ||| 0x10) (cvuRestartWrite s c.val)

/-- A write of 1, 2 or 4 bytes to `CVU_DATAc`. -/
def cvuData (s : State) (c n : Nat) (v : Word) : State :=
  if s.flag (F.CVU_CFG_BUSY c) then cvuIgnore s c else cvuFeed s c (leBytes n v.toNat)

/-- CVU_DATA (R323): `log2` 0, 1 or 2 for a write of 1, 2 or 4 bytes. -/
def execCvuData (c : Fin 4) (log2 : Fin 3) (v : Word) (s : State) : Outcome :=
  atReg s (R.CVU_DATA c.val) v (cvuData s c.val (2 ^ log2.val) v)

/-- A write of `CVU_CFGc`: CLASS, POLY and OWNINIT are ignored while the context is attached; W1C bits clear. -/
def cvuCfgWrite (s : State) (c : Nat) (v : Word) : State :=
  let busy := s.flag (F.CVU_CFG_BUSY c)
  let s1 := if v.toNat.testBit 30 then s.setFld (F.CVU_CFG_FAIL c) 0 else s
  let s2 := if v.toNat.testBit 29 then s1.setFld (F.CVU_CFG_IGN c) 0 else s1
  let s3 := if busy then cvuIgnore s2 c else s2.setFld ⟨R.CVU_CFG c, 0, 4⟩ v.toNat
  if v.toNat.testBit 4 then cvuRestartWrite s3 c else s3

/-! ### Channels (R307 to R311, R315 to R320) -/

def State.ch (s : State) (n : Nat) : BmvCh := SMap.get (fun _ => {}) s.bmv.chs n
def State.setCh (s : State) (n : Nat) (x : BmvCh) : State := { s with bmv := { s.bmv with chs := SMap.set (fun _ => {}) s.bmv.chs n x } }

/-- STATE of a channel: 0 IDLE, 1 ACTIVE, 2 STOPPING. -/
def chState (s : State) (n : Nat) : Nat := s.fld (F.BMV_CH_STAT_STATE n)

/-- BMV EVC source 50 + `k`. -/
def bmvEvent (s : State) (k : Nat) : State := evcIf s F.BMV_EVT_EN_EN 50 k

/-- Bytes of a descriptor's stream. -/
def BmvDesc.total (x : BmvDesc) : Nat := (x.elems.map Prod.snd).sum

/-- A descriptor's residue (R311). -/
def chResidue (s : State) (x : BmvCh) : Nat :=
  match x.desc with
  | none => 0
  | some d =>
    d.total + (if d.op = 2 then cvuW s d.ctx else 0) - (((d.elems.take x.done).map Prod.snd).sum + x.eofs +
      (if d.op = 2 then x.chk else 0))

/-- The element in progress, counted from 1. -/
def chElem (x : BmvCh) : Nat := match x.desc with | some d => min (x.done + 1) d.elems.length | none => 0

/-- The BMV is halted by an error response to an access (steps 1 to 3 of R318, R320): `ch` where the access was a write. -/
def bmvHalt (s : State) (a : Nat) (ch : Option Nat) : State :=
  let stopOne (t : State) (n : Nat) : State :=
    if chState t n = 0 then t
    else
      let x := t.ch n
      (t.setFld (F.BMV_CH_STAT_STATE n) 2).setCh n { x with ending := some (St.busError, chElem x), stop := false }
  let info (t : State) : State :=
    if t.flag F.BMV_HALT_INFO_VALID then t.setFld F.BMV_HALT_INFO_OVF 1
    else
      (t.setReg R.BMV_HALT_ADDR (word a)).setReg R.BMV_HALT_INFO
        (word (2 ^ 31 + (match ch with | some n => 2 ^ 29 + 2 ^ 28 + n | none => 0)) ||| (t.reg R.BMV_HALT_INFO &&& 0x40000000))
  (eachNat stopOne (info s) (List.range 16)).setFld F.BMV_STATUS_HALT 1

/-- Bytes of that element written with good responses (R319). -/
def chEofs (x : BmvCh) (el : Nat) : Nat :=
  match x.desc with
  | some d => if el = 0 then 0 else if el ≤ x.done then (d.elems.getD (el - 1) (0, 0)).2 else x.eofs
  | none => 0

/-- The size of the first access of a range: naturally aligned, 1 to 64 bytes (R312). -/
def accSize (a n : Nat) : Nat := ([64, 32, 16, 8, 4, 2].find? (fun k => decide (a % k = 0 ∧ k ≤ n))).getD 1

/-- The accesses of a range of at most `fuel` of them, as address and size. -/
def accesses (a n : Nat) : Nat → List (Nat × Nat)
  | 0 => []
  | fuel + 1 => if n = 0 then [] else (a, accSize a n) :: accesses (a + accSize a n) (n - accSize a n) fuel

/-- The partition that the accesses of a channel carry (R307). -/
def chPart (s : State) (n : Nat) : Nat := s.fld (F.BMV_CH_CFG_PART n)

/-- An error response to an access of channel `n`: captured by SYS, and the BMV halts (R46, R318). -/
def chError (s : State) (n a : Nat) (write : Bool) : State :=
  bmvHalt (busErrOf s codeBmv (chPart s n) a write) a (if write then some n else none)

/-- An error at a word of MGS halts the BMV with channel `c`'s access that meets it (R318, R507). -/
def mgsHalt (s : State) (c a n e : Nat) : State :=
  let at' := (((accesses a n n).find? (fun p => decide (e / 8 * 8 < p.1 + p.2 ∧ p.1 < e / 8 * 8 + 8))).map Prod.fst).getD a
  chError (mgsUe s e) c at' false

/-- The range lies wholly in MGS. -/
def mgsRange (a n : Nat) : Bool := decide (0x10000000 ≤ a ∧ a + n ≤ 0x10200000)

/-- The descriptor's fields as they stand in MGS. -/
def descAt (s : State) (a : Nat) : BmvDesc :=
  let c := s.rd (a + 4) 4
  let el := s.rd (a + 8) 4
  { next := s.rd a 4, scatter := c.testBit 5, irq := c.testBit 6, op := c / 256 % 4, ctx := c / 1024 % 4, contig := s.rd (a + 12) 4,
    elems := (List.range (c % 32)).map (fun k => (s.rd (el + 8 * k) 4, s.rd (el + 8 * k + 4) 4 % 2 ^ 24)) }

/-- The checks of R310 that the element list has no part in, and that the list lies in MGS. -/
def headOk (s : State) (a : Nat) : Bool :=
  let c := s.rd (a + 4) 4
  let n := c % 32
  let el := s.rd (a + 8) 4
  let d := descAt s a
  (d.next == 0 || (decide (d.next % 32 = 0) && mgsRange d.next 32)) && decide (1 ≤ n ∧ n ≤ 16) && decide (el % 8 = 0) &&
    mgsRange el (8 * n) && !(d.op == 2 && d.scatter) && !(d.op == 3 && !d.scatter) && decide (c / 2 ^ 13 = 0) && !c.testBit 7 &&
    s.rd (a + 0x14) 4 == 0

/-- The checks of R310 on the descriptor at an address; 0: it passes. -/
def descCheck (s : State) (a : Nat) : Nat :=
  let c := s.rd (a + 4) 4
  let n := c % 32
  let el := s.rd (a + 8) 4
  let d := descAt s a
  if !(headOk s a && d.elems.all (fun e => decide (e.2 ≠ 0)) &&
      (List.range n).all (fun k => s.rd (el + 8 * k + 7) 1 == 0) && decide (d.total ≤ 16777215)) then
    St.badDescriptor
  else if d.op ≠ 0 ∧ s.flag (F.CVU_CFG_BUSY d.ctx) = true then St.busy
  else St.ok

/-- A descriptor that was refused, as far as it can be read: its residue is its whole stream. -/
def residueDesc (s : State) (a : Nat) : Option BmvDesc :=
  let n := s.rd (a + 4) 4 % 32
  if mgsRange a 32 && decide (n ≤ 16) && mgsRange (s.rd (a + 8) 4) (8 * n) then some (descAt s a) else none

/-- A channel takes the descriptor at an address (R310, R323): a malformed one ends at once; a CVU context is attached and
restarted. -/
def takeDesc (s : State) (n a : Nat) : State :=
  let s1 := (s.setReg (R.BMV_CH_DESC n) (word a)).setReg (R.BMV_CH_EOFS n) 0
  if !mgsRange a 32 || a % 32 != 0 then s1.setCh n { ending := some (St.badDescriptor, 0) }
  else
    let el := s.rd (a + 8) 4
    let n8 := 8 * (s.rd (a + 4) 4 % 32)
    match mgsBad s a 32, if headOk s a then mgsBad s el n8 else none with
    | some e, _ => mgsHalt s1 n a 32 e
    | none, some e => mgsHalt s1 n el n8 e
    | none, none =>
      let d := descAt s a
      let st := descCheck s a
      if st ≠ St.ok then s1.setCh n { ending := some (st, 0) }
      else
        let s2 := s1.setCh n { desc := some d }
        if d.op = 0 then s2
        else
          let seed := if (s.rd (a + 4) 4).testBit 12 then some (word (s.rd (a + 0x10) 4)) else none
          cvuRestart (s2.setFld (F.CVU_CFG_BUSY d.ctx) 1) d.ctx seed

/-- GO of a channel (R310, R318, R320). -/
def bmvGo (s : State) (n : Nat) : State :=
  if s.flag F.BMV_STATUS_HALT ∨ chState s n ≠ 0 then s.setFld (F.BMV_CH_STAT_REFUSED n) 1
  else takeDesc (s.setFld (F.BMV_CH_STAT_STATE n) 1) n (s.reg (R.BMV_CH_HEAD n)).toNat

/-- The BMV serves accesses to its registers. -/
def bmvServes (s : State) : Bool := s.serves R.BMV_CTRL

/-- BMV_GO (R310). -/
def execBmvGo (n : Fin 16) (s : State) : Outcome := atReg s (R.BMV_CH_CTRL n.val) 1 (bmvGo s n.val)

/-- A channel becomes IDLE; the last one that a halt stopped raises source 51 (step 4 of R318). -/
def chIdle (s : State) (n : Nat) : State :=
  let s1 := (s.setFld (F.BMV_CH_STAT_STATE n) 0).setCh n {}
  if s1.flag F.BMV_STATUS_HALT && (List.range 16).all (fun k => decide (chState s1 k = 0)) then bmvEvent s1 1 else s1

/-- The status of a descriptor is written back; a closed snapshot buffer answers with an error, which halts the BMV: the descriptor
ends with BUS_ERROR (R186, R311, R318). -/
def writeBack (s : State) (n a st el resid : Nat) : Nat × State :=
  if !(mgsRange a 32 && a % 32 == 0) then (st, s)
  else if snapClosed s (a + 0x18) 8 then (St.busError, chError s n (a + 0x18) true)
  else (st, s.store (a + 0x18) (leBytes 1 st ++ leBytes 1 el ++ [0, 0] ++ leBytes 4 resid))

/-- The end of a descriptor whose ending is known: writeback, registers, event, and the next descriptor (R311, R319, R320). -/
def descEnd (s : State) (n : Nat) : State :=
  let x := s.ch n
  match x.ending with
  | none => s
  | some (st0, el) =>
    let a := (s.reg (R.BMV_CH_DESC n)).toNat
    let resid := if st0 = St.ok ∨ st0 = St.checkFail then 0 else chResidue s (if x.desc.isNone then { desc := residueDesc s a } else x)
    let w := writeBack s n a st0 el resid
    let st := w.1
    let ok := decide (st = St.ok)
    let s1 := w.2
    let s2 := ((s1.setFld (F.BMV_CH_STAT_STATUS n) st).setFld (F.BMV_CH_STAT_ELEM n) el).setReg (R.BMV_CH_RESID n) (word resid)
    let s3 := if ok then s2 else s2.setReg (R.BMV_CH_EOFS n) (word (chEofs x el))
    let s4 := match x.desc with
      | some d => if d.op = 0 then s3 else s3.setFld (F.CVU_CFG_BUSY d.ctx) 0
      | none => s3
    let irq := match x.desc with | some d => d.irq | none => false
    let s5 := if !ok || irq then bmvEvent (s4.setRegBit R.BMV_END n true) 0 else s4
    let s6 := if ok then s5.countReg (R.BMV_CH_CNT n) else s5
    let next := match x.desc with | some d => d.next | none => 0
    if !ok then chIdle s6 n
    else if x.stop then
      chIdle ((((s6.setFld (F.BMV_CH_STAT_STATUS n) St.aborted).setReg (R.BMV_CH_DESC n) (word next)).setFld (F.BMV_CH_STAT_ELEM n) 0).setReg
        (R.BMV_CH_RESID n) 0) n
    else if next = 0 then chIdle s6 n
    else takeDesc (s6.setCh n {}) n next

/-- BMV_DESCRIPTOR_END (R311). -/
def execBmvDescriptorEnd (n : Fin 16) (s : State) : Outcome := if s.dbgHalted then .next s else .next (descEnd s n.val)

/-- ABORT of a channel (R317, R320). -/
def bmvAbort (s : State) (n : Nat) : State :=
  let x := s.ch n
  if chState s n ≠ 1 then s
  else
    match x.ending with
    | none => (s.setFld (F.BMV_CH_STAT_STATE n) 2).setCh n { x with ending := some (St.aborted, chElem x) }
    | some (0, _) => s.setCh n { x with stop := true }
    | some _ => s

/-- BMV_ABORT (R317). -/
def execBmvAbort (n : Fin 16) (s : State) : Outcome := atReg s (R.BMV_CH_CTRL n.val) 2 (bmvAbort s n.val)

/-- BMV_ERROR_RESPONSE (R46, R318): an error response to an access of a channel that is not IDLE. -/
def execBmvErrorResponse (n : Fin 16) (a : Word) (write : Bool) (s : State) : Outcome :=
  if chState s n.val = 0 then .next s else .next (chError s n.val a.toNat write)

/-- HALT_CLR (R318): only after every affected channel has written its status. -/
def haltClr (s : State) : State :=
  if (List.range 16).all (fun n => decide (chState s n = 0)) then s.setFld F.BMV_STATUS_HALT 0 else s

/-- HALT_CLR (R318). -/
def execHaltClr (s : State) : Outcome := atReg s R.BMV_CTRL 1 (haltClr s)

/-- BMV registers that are views. -/
def bmvRead (s : State) (a : Nat) : Option Word :=
  if a = R.BMV_STATUS then
    some (s.reg a ||| word ((List.range 16).map (fun n => if chState s n = 0 then 0 else 2 ^ n)).sum)
  else
    (List.range 4).findSome? (fun c => if a = R.CVU_RES c then some (cvuRes s c) else none)

/-! ### Jobs of the MSE (R325) -/

/-- GO of the MSE: ignored while a job runs. -/
def mseGo (s : State) : State :=
  if s.mse.job.isSome then s
  else
    { s.setFld F.MSE_STATUS_BUSY 1 with
      mse := { s.mse with job := some ((s.reg R.MSE_START).toNat, s.fld F.MSE_LEN_LEN, s.flag F.MSE_CTRL_COMPARE) } }

/-- MSE_GO (R325). -/
def execMseGo (s : State) : Outcome := atReg s R.MSE_CTRL (s.reg R.MSE_CTRL ||| 1) (mseGo s)

end Sys2Proof.Machine
end

