-- ==== Sys2Proof/Machine/DprCmds.lean ====
section
/-! DEFINITION. The meanings of the dispatcher's rows and registers (R89, R92, R113 to R115, R150 to R171). -/

namespace Sys2Proof.Machine

/-- The DPR block serves accesses. -/
def dprServes (s : State) : Bool := s.accepts R.DPR_CTRL

/-- DISPATCH (R150): one dispatch of cluster `c`'s unit. -/
def execDispatch (c : Fin 4) (s : State) : Outcome := .next (dispatchUnit s c.val)

/-- STEAL (R153): one clock of the steal arbiter. -/
def execSteal (s : State) : Outcome := .next (stealArbiter s)

/-- ENGINE_REPORT (R92). -/
def execEngineReport (n : Fin 64) (s : State) : Outcome := .next (limFlush (engineReport s n.val))

/-- BUDGET_OVERRUN (R156). -/
def execBudgetOverrun (n : Fin 64) (s : State) : Outcome := .next (limFlush (budgetOverrun s n.val))

/-- ENGINE_CLOCK_GATE (R113): an IDLE engine offered no work for 16 clocks gates its clock. -/
def execEngineClockGate (n : Fin 64) (s : State) : Outcome :=
  if (s.le n.val).k.state = .idle then
    .next (updLe s n.val (fun c => { c with k := { c.k with gated := true } }))
  else .next s

/-- DPR_RETIRE (R160): firmware retires an engine with cause 5. -/
def execDprRetire (n : Fin 64) (s : State) : Outcome :=
  atReg s R.DPR_RETIRE (word (2 ^ 31 + n.val)) (retireEngine s n.val 5)

/-- The effect of `DPR_QUAR_REL` with GO (R165, R171, R568): at the next boundary, or at once while EN is 0. DESIGN CHOICE: ALL
means the blocks in quarantine at the write (log entry 202). -/
def quarRel (s : State) (all : Bool) (lbd : Nat) : State :=
  let l := if all then s.dpr.quarantine else [lbd]
  if s.cycEn then { s with dpr := { s.dpr with quarRel := l.foldl addTo s.dpr.quarRel } }
  else recomputeCaps (releaseQuar s l)

/-- DPR_QUAR_REL (R165). -/
def execDprQuarRel (all : Bool) (lbd : BitVec 15) (s : State) : Outcome :=
  atReg s R.DPR_QUAR_REL (word (2 ^ 31 + (if all then 2 ^ 30 else 0) + lbd.toNat)) (quarRel s all lbd.toNat)

/-- The effect of `DPR_CNT_CLR` (R171): every counter and every HWM. -/
def dprCntClr (s : State) : State :=
  let s1 := s.resetRegs (fun a => within a R.DPR_DISP_CNT 0x30)
  (((s1.setFld (F.DPR_QSTAT_HWM 0) 0).setFld (F.DPR_QSTAT_HWM 1) 0).setFld (F.DPR_QSTAT_HWM 2) 0).setFld (F.DPR_QSTAT_HWM 3) 0

/-- DPR_CNT_CLR (R171). -/
def execDprCntClr (s : State) : Outcome := atReg s R.DPR_CNT_CLR 1 (dprCntClr s)

/-- The counters of an engine clear (R114, R115). -/
def lewinClr (s : State) (n : Nat) : State :=
  updLe s n (fun c => { c with k := { c.k with brCount := 0, brMiss := 0 } })

/-- DPR_LEWIN_CLR (R114): a write of `DPR_LEWIN_SEL` that selects engine `n` and window index `k`, with CLR. -/
def execDprLewinClr (n : Fin 64) (k : Fin 16) (s : State) : Outcome :=
  atReg s R.DPR_LEWIN_SEL (word (2 ^ 31 + n.val * 256 + k.val))
    (lewinClr ((s.setFld F.DPR_LEWIN_SEL_LE n.val).setFld F.DPR_LEWIN_SEL_REG k.val) n.val)

/-- The CSM error registers of the clusters in a mask clear (R114). -/
def csmEccClr (s : State) (m : Nat) : State :=
  s.resetRegs (fun a => (within a (R.DPR_CSM_ECC 0) 0x20) && m.testBit (a / 4 % 4))

/-- DPR_CSM_ECC_CLR (R114). -/
def execDprCsmEccClr (m : BitVec 4) (s : State) : Outcome :=
  atReg s R.DPR_CSM_ECC_CLR (word m.toNat) (csmEccClr s m.toNat)

/-! ### Registers (R114, R171) -/

/-- The code of an engine state in LE_STATUS (R88). -/
def stateCode : ProcState → Nat
  | .off => 0
  | .reset => 1
  | .idle => 2
  | .task => 3
  | .kernel => 4
  | .drain => 5
  | .retired => 6

/-- The engine window (R114). -/
def lewin (c : Cpu) (k : Nat) : Word :=
  match k with
  | 0 => c.r.stVal
  | 1 => c.r.pc
  | 2 => c.r.epc
  | 3 => c.r.estat
  | 4 => c.r.lseAddr
  | 5 => c.r.lseInfo
  | 6 => c.k.brCount
  | 7 => c.k.brMiss
  | 8 => word (c.k.eccLdm % 65536 * 65536 + c.k.eccLim % 65536)
  | 9 => word (c.r.gen % 256 * 65536 + c.r.part % 64 * 256 + (if c.k.gated then 8 else 0) + stateCode c.k.state)
  | _ => 0

/-- Bit map of the engines among `base` to `base` + 31 that `p` names. -/
def engineMap (p : Nat → Bool) (base : Nat) : Word :=
  word ((List.range 32).foldl (fun m k => if p (base + k) then m ||| 2 ^ k else m) 0)

/-- The DPR/CMU registers that are views of the dispatcher's state; `none`: a plain register. -/
def dprRead (s : State) (ofs : Nat) : Option Word :=
  let retired (n : Nat) : Bool := (s.le n).k.state == .retired
  let g := SMap.get (fun _ => ({} : GroupRes)) s.dpr.groups (s.fld F.CMU_GSEL_GROUP)
  match ofs with
  | 0x020 => some (engineMap retired 0)
  | 0x024 => some (engineMap retired 32)
  | 0x028 => some (engineMap s.isSpare 0)
  | 0x02C => some (engineMap s.isSpare 32)
  | 0x040 => some (word ((s.reg (R.DPR_QSTAT 0)).toNat + (s.queue 0).length))
  | 0x044 => some (word ((s.reg (R.DPR_QSTAT 1)).toNat + (s.queue 1).length))
  | 0x048 => some (word ((s.reg (R.DPR_QSTAT 2)).toNat + (s.queue 2).length))
  | 0x04C => some (word ((s.reg (R.DPR_QSTAT 3)).toNat + (s.queue 3).length))
  | 0x058 => some (word (min 65535 s.dpr.quarantine.length))
  | 0x0A4 => some (word (g.res * 2 ^ 30 + g.cycle))
  | 0xF04 =>
    let c := s.le (s.fld F.DPR_LEWIN_SEL_LE)
    some (if c.k.state = .off then 0 else lewin c (s.fld F.DPR_LEWIN_SEL_REG))
  | _ => none

/-- A read of `DPR_LEWIN_DATA` shows in OFF whether the selected engine was off (R114). -/
def dprReadEffect (s : State) (ofs : Nat) : State :=
  if ofs = 0xF04 then
    s.setFld F.DPR_LEWIN_SEL_OFF (if (s.le (s.fld F.DPR_LEWIN_SEL_LE)).k.state = .off then 1 else 0)
  else s

end Sys2Proof.Machine
end

