-- ==== Sys2Proof/Machine/HostReq.lean ====
section
/-! DEFINITION. Host requests that wait for a boundary or a housekeeping span: split writes (R300), split reads and snapshots
(R301), trend records (R302), mode requests on the rings (R74). -/

namespace Sys2Proof.Machine

/-! ### Commands that run -/

/-- Runs a fetched command of the opcodes that a row stands for. -/
def onHost (s : State) (serial : Nat) (op : Nat → Bool) (k : HostCmd → State → State) : State :=
  match findCmd s serial with
  | none => s
  | some c =>
    if !op c.desc.op.toNat || !mayStart s c then s
    else
      let s1 := markStarted s serial
      let st := cmdRefused s1 c
      if st = St.ok then k c s1 else hostComplete s1 serial { status := st }

/-- ADDR and LEN of a descriptor. -/
def HostCmd.addr (c : HostCmd) : Nat := c.desc.addr.toNat
def HostCmd.len (c : HostCmd) : Nat := c.desc.len.toNat

/-! ### Split requests (R300, R301) -/

/-- Index and status of the first failing part. -/
def firstFail (l : List HPart) : Option (Nat × Nat) :=
  match l.findIdx? (fun q => decide (q.fail ≠ 0)) with
  | some k => some (k, (l.map (fun q => q.fail)).getD k 0)
  | none => none

/-- Bit map of the parts that `p` names. -/
def partMap (l : List HPart) (p : HPart → Bool) : Nat :=
  ((l.zipIdx).map (fun e => if p e.1 then 2 ^ e.2 else 0)).sum

def dropReq (s : State) (serial : Nat) : State :=
  { s with hif := { s.hif with reqs := s.hif.reqs.filter (fun r => decide (r.serial ≠ serial)) } }

/-- A write request fails: nothing takes effect (R300). -/
def failReq (s : State) (r : HReq) (k st : Nat) : State :=
  hostComplete (dropReq s r.serial) r.serial {
    status := if r.oneUnit then st else St.aborted, detail := k, result := partMap r.parts (fun q => q.staged), result2 := st }

/-- Bytes of the snapshot area, and those in use by staged parts. -/
def snapArea (s : State) : Nat := s.fld F.HIF_STG_CFG_SNAP * 4096
def snapUsed (s : State) : Nat :=
  ((s.hif.reqs.filter (fun r => decide (r.kind = .write))).map (fun r => ((r.parts.filter (fun q => q.staged)).map (fun q => q.len)).sum)).sum

/-- Every part has been offered: a failure ends the request, else it waits for the boundary. -/
def stagingDone (s : State) (r : HReq) : State :=
  let s1 := { s with hif := { s.hif with reqs := s.hif.reqs.map (fun x => if x.serial = r.serial then r else x) } }
  if r.parts.all (fun q => q.staged || decide (q.fail ≠ 0)) then
    (match firstFail r.parts with
     | some (k, st) => failReq s1 r k st
     | none => s1)
  else s1

/-- Address of a parameter part's bytes. -/
def partAddr (s : State) (q : HPart) : Nat := csmBase (s.block q.blk).home + (s.block q.blk).sbase + q.ofs

/-- Part `k` is offered to its unit with the bytes that the host delivered (R300). -/
def stagePart (s : State) (r : HReq) (k : Nat) (d : HostData) : State :=
  match r.parts[k]? with
  | none => s
  | some q =>
    if q.staged ∨ q.fail ≠ 0 then s
    else
      let q1 : HPart :=
        match d with
        | .error => { q with fail := St.busError }
        | .bytes l =>
          if snapArea s < snapUsed s + q.len then { q with fail := St.noSpace }
          else if !s.serves (csmBase q.unit) then { q with fail := St.busError }
          else { q with staged := true, bytes := padTo (l.take q.len) q.len }
      let s1 :=
        if q1.fail = St.busError ∧ d ≠ .error then busErrOf s codeHif r.part (partAddr s q) true else s
      stagingDone s1 { r with parts := r.parts.set k q1 }

/-- PART_STAGED (R300). -/
def execPartStaged (serial : Nat) (k : Fin 32) (d : HostData) (s : State) : Outcome :=
  match s.hif.reqs.find? (fun r => decide (r.serial = serial ∧ r.kind = .write)) with
  | some r => .next (stagePart s r k.val d)
  | none => .next s

/-- A part is judged again at the boundary, after step 2 of R20 (R300). -/
def judgePart (s : State) (kind : HKind) (q : HPart) : HPart :=
  if q.fail ≠ 0 then q
  else if kind = .resume then
    (if (s.thePlan.station q.unit q.blk).isNone then { q with fail := St.stale }
     else if !s.stnRun q.unit q.blk then { q with fail := St.linkDown } else q)
  else if !s.thePlan.hasBlock q.blk then { q with fail := St.stale }
  else if !s.serves (csmBase (s.block q.blk).home) || badWord s (partAddr s q) q.len true then { q with fail := St.busError }
  else q

/-- The bus error of a part is captured (R46), at its bytes or at the block of its link. -/
def captureParts (s : State) (r : HReq) (new : List HPart) : State :=
  let link := decide (r.kind = .status ∨ r.kind = .resume)
  (r.parts.zip new).foldl (fun t e =>
    if e.1.fail = 0 ∧ e.2.fail = St.busError then
      busErrOf t codeHif r.part (if link then R.SFL_CTRL e.2.unit else partAddr s e.2) (decide (r.kind = .write ∨ r.kind = .resume))
    else t) s

/-- One part takes effect. -/
def applyPart (r : HReq) (s : State) (q : HPart) : State :=
  if r.kind = .resume then stnAck s q.unit q.blk r.part else s.store (partAddr s q) q.bytes

/-- The record of a durable PARAM_WRITE (R303): the parts as applied, in the issuer's NV area; the spec states no place
within the area. One that the area or the journal (R361) cannot hold fails. -/
def durableRecord (s : State) (r : HReq) (result : Nat) : State :=
  let l := (r.parts.map (fun q => q.bytes)).flatten
  match SMap.get (fun _ => (0, 0, 0)) s.nvAreas r.part with
  | (o, _, quota) =>
    if quota < l.length ∨ 3840 < l.length then hostComplete s r.serial { status := St.noSpace, result := result, applied := true }
    else
      let v := s.draw
      { v.2 with nvr := { v.2.nvr with queue := v.2.nvr.queue ++ [⟨.param r.serial result l, poolBase + o + v.1 % (quota - l.length + 1)⟩] } }

/-- A staged request is judged and applied, or rolled back, at a boundary (R300). -/
def commitReq (s : State) (r : HReq) : State :=
  let r1 := { r with parts := r.parts.map (judgePart s r.kind) }
  match firstFail r1.parts with
  | some (k, st) => failReq (captureParts s r r1.parts) r1 k st
  | none =>
    let s1 := dropReq (r1.parts.foldl (applyPart r1) s) r.serial
    let all := 2 ^ r1.parts.length - 1
    if r.durable then durableRecord s1 r1 all else hostComplete s1 r.serial { result := all }

/-- The parameter writes of a boundary. -/
def writesAtBoundary (s : State) : State :=
  (s.hif.reqs.filter (fun r => decide (r.kind = .write ∨ r.kind = .resume) && r.parts.all (fun q => q.staged || decide (q.fail ≠ 0)))).foldl
    commitReq s

/-! ### Housekeeping reads (R301) -/

/-- A word of a link block as it reads. -/
def sflWord (s : State) (l ofs : Nat) : Word := (sflRead s l ofs).getD (s.reg (0x40010000 + 0x1000 * l + ofs))

/-- The 64 bytes of a link in LINK_STATUS (R299): the last word is reserved. -/
def linkRecord (s : State) (l : Nat) : List Byte :=
  (([0x004, 0x010, 0x014, 0x018, 0x01C, 0x030] ++ (List.range 9).map (fun k => 0x40 + 4 * k)).map
    (fun o => leBytes 4 (sflWord s l o).toNat)).flatten ++ [0, 0, 0, 0]

/-- A part as its unit delivers it. -/
def readPart (s : State) (kind : HKind) (q : HPart) : HPart :=
  if q.fail ≠ 0 then q
  else if kind = .status then
    (if s.serves (0x40010000 + 0x1000 * q.unit) then { q with staged := true, bytes := linkRecord s q.unit }
     else { q with fail := St.busError })
  else if !s.thePlan.hasBlock q.blk then { q with fail := St.stale }
  else if !s.serves (csmBase (s.block q.blk).home) || badWord s (partAddr s q) q.len false then { q with fail := St.busError }
  else { q with staged := true, bytes := s.bytes (partAddr s q) q.len }

/-- Writes the parts that `p` names to the host. -/
def postParts (s : State) (l : List HPart) (p : Nat → Bool) : State :=
  (l.zipIdx).foldl (fun t e => if e.1.staged && p e.2 then t.post (.write e.1.host e.1.bytes) else t) s

/-- A read request ends (R301). Host buffers of an ABORTED request are undefined: which valid parts were written is a free
value. -/
def finishRead (s : State) (r : HReq) : State :=
  let r1 := { r with parts := r.parts.map (readPart s r.kind) }
  let mask := partMap r1.parts (fun q => q.staged)
  let c16 := cycle16 s
  let s1 := dropReq (captureParts s r r1.parts) r.serial
  match firstFail r1.parts with
  | none => hostComplete (postParts s1 r1.parts (fun _ => true)) r.serial { result := mask, result2 := c16 }
  | some (k, st) =>
    if r1.oneUnit then
      hostComplete (postParts s1 r1.parts (fun _ => true)) r.serial { status := st, result := mask, detail := k, result2 := c16 }
    else if r.partial' then
      hostComplete (postParts s1 r1.parts (fun _ => true)) r.serial { status := St.part, result := mask, detail := k, result2 := c16 }
    else
      let v := s1.draw
      hostComplete (postParts v.2 r1.parts (fun j => v.1.testBit j)) r.serial
        { status := St.aborted, result := mask, detail := k, result2 := c16 }

/-- A SNAPSHOT takes its slots (R299). -/
def finishSlots (s : State) (r : HReq) : State :=
  let l := (List.range r.count).map (fun k => r.first + k)
  let a := match r.parts.head? with | some q => q.host | none => 0
  hostComplete (postSlots (dropReq s r.serial) a l) r.serial { result := (s.reg R.CYC_CYCNUM).toNat }

/-- Bytes that a read takes in the snapshot area. -/
def HReq.bytes (r : HReq) : Nat := if r.kind = .slots then 8 * r.count else (r.parts.map (fun q => q.len)).sum

/-- The reads that the area has room for, in order of arrival (R301). -/
def readsFit (room : Nat) : List HReq → List HReq
  | [] => []
  | r :: l => if r.bytes ≤ room then r :: readsFit (room - r.bytes) l else readsFit room l

/-- The housekeeping reads of a cycle. -/
def readsAtApply (s : State) : State :=
  (readsFit (snapArea s - snapUsed s) (s.hif.reqs.filter (fun r => decide (r.kind = .read ∨ r.kind = .status ∨ r.kind = .slots)))).foldl
    (fun t r => if r.kind = .slots then finishSlots t r else finishRead t r) s

/-! ### Trends (R302) -/

def State.trend (s : State) (p : Nat) : Trend := SMap.get (fun _ => {}) s.hif.trends p
def State.setTrend (s : State) (p : Nat) (x : Trend) : State :=
  { s with hif := { s.hif with trends := SMap.set (fun _ => {}) s.hif.trends p x } }

/-- A boundary counts the cycle that it opens for every trend list. -/
def trendsAtBoundary (s : State) : State :=
  { s with hif := { s.hif with trends := s.hif.trends.map (fun e =>
      let x := e.2
      if x.since + 1 = x.dec then (e.1, { x with since := 0, due := true }) else (e.1, { x with since := x.since + 1, due := false })) } }

/-- A trend record's 16-byte header. -/
def trendHeader (s : State) (n : Nat) : List Byte := leBytes 4 (s.reg R.CYC_CYCNUM).toNat ++ leBytes 2 n ++ [0, 0] ++ leBytes 8 s.tb

/-- Bytes of the records of an area. -/
def trendBytes (l : List TrendRec) : Nat := (l.map (fun e => e.bytes.length)).sum

/-- The newest records that fit into an area. -/
def dropOldest (room : Nat) : List TrendRec → List TrendRec
  | [] => []
  | e :: l => if trendBytes (e :: l) ≤ room then e :: l else dropOldest room l

/-- A record is written into the trend area, whose oldest records give way (R28). -/
def trendStage (s : State) (e : TrendRec) : State :=
  let room := s.fld F.HIF_STG_CFG_TRND * 4096
  { s with hif := { s.hif with area := dropOldest room (s.hif.area ++ [e]) } }

/-- A write of a trend buffer, under the partition's windows (R288). -/
def trendPut (s : State) (p a : Nat) (l : List Byte) (ints : List Bool) : State :=
  if winOk s p true a l.length then
    let s1 := s.post (.write a l)
    if ints = [] then s1 else s1.post (.ints (a + 16) ints)
  else s.countReg R.HIF_WF_CNT

/-- The trend record of a partition in a cycle where one is due. -/
def trendRecord (s : State) (p : Nat) : State :=
  let x := s.trend p
  if !x.due then s
  else
    trendStage (s.setTrend p { x with due := false }) ⟨p, trendHeader s x.slots.length ++ slotWords s x.slots, slotInts s x.slots⟩

/-- A record of the area goes to its partition's buffer, which it never wraps. The record before the end carries its own cycle
number and TB. -/
def trendCopy (s : State) (e : TrendRec) : State :=
  let x := s.trend e.part
  let l := e.bytes
  let wrap := decide (x.len < x.next + l.length)
  let head := l.take 4 ++ [0xFF, 0xFF] ++ (l.drop 6).take 10
  let s1 := if wrap && decide (x.next + 16 ≤ x.len) then trendPut s e.part (x.addr + x.next) head [] else s
  let o := if wrap then 0x40 else x.next
  let s2 := trendPut (trendPut s1 e.part (x.addr + o) l e.ints) e.part x.addr (leBytes 8 (o + l.length)) []
  s2.setTrend e.part { x with next := o + l.length }

/-- The records of the area, oldest first; those of a partition that has stopped its list have no buffer. -/
def trendDrain (s : State) : State :=
  (s.hif.area.filter (fun e => decide (0 < (s.trend e.part).len))).foldl trendCopy { s with hif := { s.hif with area := [] } }

/-- The trend records of a cycle; the HIF copies them to the host while it reaches host memory (log entry 175). -/
def trendsAtApply (s : State) : State :=
  let s1 := eachNat trendRecord s (s.hif.trends.map Prod.fst)
  if ringRuns s1 then trendDrain s1 else s1

/-! ### Mode requests (R71 to R74) -/

/-- A mode request is posted for the next boundary. -/
def postMode (s : State) (q : ModeReq) : State := { s with cyc := { s.cyc with modeReqs := s.cyc.modeReqs ++ [q] } }

/-- A mode request ends on its path (R74). -/
def endMode (s : State) (q : ModeReq) (st : Nat) : State :=
  match q.path with
  | .host n => hostComplete s n { status := st }
  | .regs =>
    let lost := s.flag F.CYC_MODE_RESULT_VALID || s.flag F.CYC_MODE_RESULT_LOST
    s.setReg R.CYC_MODE_RESULT (word (2 ^ 31 + (if lost then 2 ^ 30 else 0) + st * 2 ^ 16 + q.tag))

/-- A partition enters RUN or TRACK, with its event. -/
def enterMode (s : State) (p : Nat) (track : Bool) : State :=
  if s.track p = track then s
  else postEvent (s.setTrack p track) p 8 [if track then 1 else 0]

/-- A partition's request (R21, R71, R73); `gone` lists the partitions that step 2 removed. A request that completes OK
cancels the automatic move. -/
def partMode (gone : List Nat) (s : State) (q : ModeReq) : State :=
  let present := (s.thePlan.part q.part).present
  let cancel (t : State) : State := { t with cyc := { t.cyc with autoRun := dropFrom t.cyc.autoRun q.part } }
  if has gone q.part then endMode s q St.modeRefused
  else if q.mode = 0 then
    (if s.track q.part = false then endMode (cancel s) q St.ok
     else if s.service || !present then endMode s q St.modeRefused
     else endMode (enterMode (cancel s) q.part false) q St.ok)
  else endMode (enterMode (cancel s) q.part true) q St.ok

/-- Every partition of the plan is in TRACK. -/
def allTrack (s : State) : Bool :=
  (List.range 64).all (fun p => !(s.thePlan.part p).present || s.track p)

/-- A SERVICE request (R21, R71, R72). -/
def serviceMode (s : State) (q : ModeReq) : State :=
  if q.mode = 2 then
    (if s.service then endMode s q St.ok
     else if allTrack s then endMode (postEvent (s.setFld F.CYC_STATUS_SERVICE 1) 0 8 [2]) q St.ok
     else endMode s q St.modeRefused)
  else if s.service then
    (let s1 := eachNat patStop (postEvent (s.setFld F.CYC_STATUS_SERVICE 0) 0 8 [3]) (List.range 24)
     endMode s1 q St.ok)
  else endMode s q St.ok

/-- R73: a partition waiting for its automatic move is moved to RUN where every input-bound slot of it was refreshed in the
cycle that ends. -/
def autoMove (s : State) (p : Nat) : State :=
  let ins := (s.thePlan.binds.filter (fun e => decide (e.2.kind = 1 ∧ e.2.owner = p))).map Prod.fst
  if !s.service && ins.all (fun n => has s.cyc.inRefreshed n) then
    enterMode { s with cyc := { s.cyc with autoRun := dropFrom s.cyc.autoRun p } } p false
  else s

/-- Step 4 of R20: partition requests and automatic moves, then SERVICE requests. `gone` lists the partitions that step 2
removed, `auto` those that waited for their automatic move before it. -/
def modesAtBoundary (s : State) (gone auto : List Nat) : State :=
  let qs := s.cyc.modeReqs
  let s0 := { s with cyc := { s.cyc with modeReqs := [] } }
  let s1 := (qs.filter (fun q => decide (q.mode < 2))).foldl (partMode gone) s0
  let s2 := if s1.cyc.inCycle then eachNat autoMove s1 (s1.cyc.autoRun.filter (fun p => has auto p)) else s1
  (qs.filter (fun q => decide (2 ≤ q.mode))).foldl serviceMode s2

end Sys2Proof.Machine
end

