-- ==== Sys2Proof/Machine/Stations.lean ====
section
/-! DEFINITION. The station units on the lines (R222, R223, R231 to R254) and the meanings of their rows. -/

namespace Sys2Proof.Machine

/-- The unit of address `st` on link `l`. -/
def State.unit (s : State) (l st : Nat) : StnUnit := SMap.get (fun _ => {}) s.units (32 * l + st)
def State.setUnit (s : State) (l st : Nat) (u : StnUnit) : State :=
  { s with units := SMap.set (fun _ => {}) s.units (32 * l + st) u }

def StnUnit.nIn (u : StnUnit) : Nat := (bitsBelow u.ident.inMask.toNat 64).length
def StnUnit.nOut (u : StnUnit) : Nat := (bitsBelow u.ident.outMask.toNat 64).length

/-- Counters (R247): 0 RX_CRC_A, 1 RX_CRC_B, 2 CODE_A, 3 CODE_B, 4 LOS_A, 5 LOS_B, 6 SOC_MISS, 7 OUT_MISS. -/
def StnUnit.cntAt (u : StnUnit) (k : Nat) : Nat := SMap.get (fun _ => 0) u.cnt k
def StnUnit.bump (u : StnUnit) (k : Nat) : StnUnit :=
  { u with cnt := SMap.set (fun _ => 0) u.cnt k (min 65535 (u.cntAt k + 1)) }

/-- The unit applies its safe values: those of its last ADMIT, its own defaults before any (R241, R249). -/
def StnUnit.goSafe (u : StnUnit) : StnUnit :=
  { u with outs := if u.admitted then some u.safe else none, atSafe := true, next := none }

/-- The unit sends a frame on its active port (R225, R228, R252): context 0xFF for ANNOUNCE. -/
def unitSend (u : StnUnit) (st ty ch seq ctx flags cycle : Nat) (payload : List Byte) : StnUnit :=
  let f : Frame := ⟨BitVec.ofNat 8 ty, BitVec.ofNat 8 flags, 0, BitVec.ofNat 8 st, BitVec.ofNat 8 u.epoch, BitVec.ofNat 8 ch,
    BitVec.ofNat 16 seq, BitVec.ofNat 16 payload.length, BitVec.ofNat 16 cycle, payload, 0, false, false⟩
  { u with tx := some { f with check := f.checkOf ctx st }, txPorts := [u.portB] }

/-- A unit with REDUNDANT = 1 sends its IN and report frames on both ports (R252, R254). -/
def onBothPorts (u : StnUnit) : StnUnit := if u.redundant then { u with txPorts := [false, true] } else u

/-- A frame addressed to the unit is discarded: counted under RX_CRC of its port, which R232 names for a failed check; for the other
tests it names no counter, and the same one stands (log entry 181). -/
def rxCrc (u : StnUnit) (portB : Bool) : StnUnit := u.bump (if portB then 1 else 0)
/-- A code error on a port; in loopback it is not counted (R247, R248). -/
def rxCodeAt (u : StnUnit) (portB : Bool) : StnUnit := if u.state = .loop then u else u.bump (if portB then 3 else 2)
/-- The context from 0 to 23 with which the frame passes its check (R231). -/
def findCtx (f : Frame) (st : Nat) : Nat → Option Nat
  | 0 => none
  | k + 1 => match findCtx f st k with
    | some c => some c
    | none => if f.check = f.checkOf k st then some k else none

/-- Why a unit does not consume a frame addressed to it, or the link number with which it passes (R231, R232). -/
inductive Consume where
  | yes (ctx : Nat)
  | crc
  | code
  | bad
  | no
  deriving DecidableEq, Repr

/-- R217 and R232: `anyEpoch` for IDENT_REQ and HOLD, which a unit without a link number also tries on every context. An ADM frame of
a subtype that R245 does not list fits no length of that table. -/
def consume (u : StnUnit) (st : Nat) (f : Frame) (anyEpoch : Bool) : Consume :=
  if f.fault then .code
  else if f.dest.toNat ≠ st then .no
  else if f.tooLong then .bad
  else
    let ctx := match u.linkNo with
      | some c => if f.check = f.checkOf c st then some c else none
      | none => if anyEpoch then findCtx f st 24 else none
    match ctx with
    | none => .crc
    | some c =>
      if !outboundType f.type.toNat || typeChannel f.type.toNat ≠ some f.channel.toNat || f.len.toNat ≠ f.payload.length ||
          decide (f.type = 5 ∧ (f.pay 0 = 0 ∨ 4 < f.pay 0)) then .bad
      else if anyEpoch || u.linkEpoch == some f.epoch.toNat then .yes c
      else .bad

/-- A frame reaches the unit. `row`: it has the type and subtype of the row; `ok`: its length, and what else R232 and R250 ask of a
consumed one; `acts`: the unit's state gives it an effect, `k`. -/
def onFrame (s : State) (l st : Nat) (f : Frame) (anyEpoch row ok acts : Bool) (k : StnUnit → Nat → StnUnit) : State :=
  let u := s.unit l st
  if u.state = .start then s
  else
    match consume u st f anyEpoch with
    | .yes c => if !row then s else if !ok then s.setUnit l st (rxCrc u f.portB) else if acts then s.setUnit l st (k u c) else s
    | .crc | .bad => s.setUnit l st (rxCrc u f.portB)
    | .code => s.setUnit l st (rxCodeAt u f.portB)
    | .no => s

/-- STATION_START (R229, R250): station initialisation completes, after power loss or a station reset, with an epoch other than that of
the start before. Address 0 is no valid one, and such a unit sends nothing of its own (R210). -/
def execStationStart (l : Fin 24) (st : Fin 32) (epoch : BitVec 8) (i : Ident) (s : State) : Outcome :=
  if st.val ≠ 0 ∧ epoch.toNat ≠ 0 ∧ epoch.toNat ≠ (s.unit l.val st.val).epoch then
    .next (s.setUnit l.val st.val { state := .wait, epoch := epoch.toNat, ident := i })
  else .next s

/-- LOSS_OF_SIGNAL (R217, R247, R248, R260): at a station unit it is counted in LOS_A or LOS_B, and one that has lasted 1 ms ends
loopback. -/
def execLossOfSignal (l : LinkLos) (s : State) : Outcome :=
  match l.unit with
  | none => .next (signalLost s l.link.val l.lasted)
  | some (st, portB) =>
    let u := s.unit l.link.val st.val
    if u.state = .start then .next s
    else if l.lasted then
      .next (if u.state = .loop ∧ portB = u.portB then s.setUnit l.link.val st.val { u with state := .wait } else s)
    else .next (s.setUnit l.link.val st.val (u.bump (if portB then 5 else 4)))

/-- The block passes its CRC-8 and holds no fault (R218, R220). -/
def blockOk (b : KBlock) : Bool :=
  !b.fault && decide (b.crc = crc8 (leBytes 2 b.cycle.toNat ++ [b.flags] ++ leBytes 3 b.ofs.toNat))

/-- PAIR_EPOCH p is newer than s (R253). -/
def epochNewer (p s : Nat) : Bool := decide (1 ≤ (p + 16 - s) % 16 ∧ (p + 16 - s) % 16 ≤ 7)

/-- What a unit does with a valid SOC block (R222, R253): ignored, discarded and counted, or accepted; `true`: the
active port changes. -/
inductive SocRes where
  | ignore | discard | accept (change : Bool)
  deriving DecidableEq, Repr

def socRes (u : StnUnit) (portB : Bool) (b : KBlock) : SocRes :=
  let p := b.flags.toNat / 16
  if u.state ≠ .admitted then
    (if u.opened ∧ u.cycle = b.cycle.toNat ∧ u.flags.testBit 3 = b.flags.toNat.testBit 3 ∧ portB ≠ u.socPort then .ignore
     else .accept false)
  else if !u.redundant then (if portB then .ignore else .accept false)
  else if portB = u.portB then (if p = u.pairEpoch ∨ epochNewer p u.pairEpoch = true then .accept false else .discard)
  else if epochNewer p u.pairEpoch then .accept true
  else .discard

/-- The cycle of an accepted SOC block opens (R222, R242). -/
def openCycle (u : StnUnit) (b : KBlock) : StnUnit :=
  let step := decide (b.cycle.toNat = (u.cycle + 1) % 65536)
  let noOut := u.state == .admitted && decide (0 < u.nOut) && (!step || (!u.applied && !u.flags.testBit 0))
  let u1 := if u.everSoc && !step && !b.flags.toNat.testBit 3 && !u.missTold then u.bump 6 else u
  { u1 with
    cycle := b.cycle.toNat, flags := b.flags.toNat, ofs := b.ofs.toNat, opened := true, everSoc := true, twoSocs := u.everSoc,
    missTold := false, applied := false, inSent := false, next := none, noOut := noOut,
    sampled := b.flags.toNat.testBit 1, pairEpoch := b.flags.toNat / 16 }

/-- SOC_BLOCK_ACCEPT (R222, R250, R253): an SOC block arrives on port A or B. `quiet`: the unit has sent no ANNOUNCE
for 10 ms. DESIGN CHOICE: a unit that has left ADMITTED keeps its active port until STATION_START or a change (log entry 206). -/
def execSocBlockAccept (l : Fin 24) (st : Fin 32) (portB quiet : Bool) (b : KBlock) (s : State) : Outcome :=
  let u := s.unit l.val st.val
  if u.state = .start then .next s
  else if b.fault then .next (s.setUnit l.val st.val (rxCodeAt u portB))
  else if blockOk b = false ∨ b.flags.toNat.testBit 2 = true then .next s
  else
    match socRes u portB b with
    | .ignore => .next (s.setUnit l.val st.val { u with socA := u.socA || !portB })
    | .discard => .next (s.setUnit l.val st.val ({ u with socA := u.socA || !portB }.bump 6))
    | .accept change =>
      let u1 := { openCycle u b with
        socA := !portB, socPort := portB, portB := if change then portB else u.portB, portChanged := u.portChanged || change }
      if u1.state = .wait ∧ quiet = true then
        let u2 := unitSend u1 st.val 5 2 u1.seq2 0xFF 0 u1.cycle ([0x84, 0xFF, 0, 0] ++ leBytes 8 u1.ident.uid.toNat)
        .next (s.setUnit l.val st.val { u2 with seq2 := (u1.seq2 + 1) % 65536 })
      else .next (s.setUnit l.val st.val u1)

/-- SAMPLE_MARK_ACCEPT (R222, R223). -/
def execSampleMarkAccept (l : Fin 24) (st : Fin 32) (portB : Bool) (b : KBlock) (s : State) : Outcome :=
  let u := s.unit l.val st.val
  if u.state = .start then .next s
  else if b.fault then .next (s.setUnit l.val st.val (rxCodeAt u portB))
  else if blockOk b = true ∧ b.flags.toNat.testBit 2 = true ∧ portB = u.socPort ∧ u.opened = true ∧ b.cycle.toNat = u.cycle then
    .next (s.setUnit l.val st.val { u with sampled := u.sampled || b.flags.toNat.testBit 1 })
  else .next s

/-- STATUS of an IN frame (R237). -/
def statusWord (u : StnUnit) (st : BitVec 16) : Nat := (if u.atSafe then 1 else 0) + st.toNat % 16 / 2 * 2

/-- FLAGS of an IN frame (R227). -/
def inFlags (u : StnUnit) (nodata : Bool) : Nat :=
  (if u.noOut then 1 else 0) + (if nodata || !u.socA then 2 else 0) + (if nodata then 4 else 0) +
    (if u.cnt = [] then 0 else 8)

/-- IN_FRAME_SEND (R238): the IN frame of the cycle. `fault` holds OUT_FAULT, IN_FAULT and PWR_LOW in [3:1]. -/
def execInFrameSend (l : Fin 24) (st : Fin 32) (fault : BitVec 16) (vals : List InVal) (s : State) : Outcome :=
  let u := s.unit l.val st.val
  if u.state = .admitted ∧ 0 < u.nIn ∧ vals.length = u.nIn ∧ u.sampled = true ∧ u.inSent = false then
    let body := (vals.map (fun v => leBytes 4 v.value.toNat ++ [v.stn, v.q.zeroExtend 8])).flatten
    let pay := leBytes 2 (statusWord u fault) ++ [0, 0] ++ body
    let u1 := unitSend u st.val 2 0 u.seq0 (u.linkNo.getD 0) (inFlags u false) u.cycle pay
    .next (s.setUnit l.val st.val (onBothPorts { u1 with inSent := true, seq0 := (u.seq0 + 1) % 65536 }))
  else .next s

/-- The words of a payload. -/
def payWords (f : Frame) (k : Nat) : Nat → List Word
  | 0 => []
  | n + 1 => word (f.payLe k 4) :: payWords f (k + 4) n

/-- OUT_FRAME_CONSUME (R240): `inTime`: its EOF comes 2 µs before the apply instant or earlier. DESIGN CHOICE: OUT_MISS counts also a
frame of another length, and one that a change of the active port refuses (R253; log entry 205). -/
def execOutFrameConsume (l : Fin 24) (st : Fin 32) (inTime : Bool) (f : Frame) (s : State) : Outcome :=
  let u := s.unit l.val st.val
  .next (onFrame s l.val st.val f false (decide (f.type = 1)) true (u.state == .admitted) (fun u _ =>
    if f.cycle.toNat = u.cycle ∧ inTime = true ∧ u.portChanged = false ∧ f.payload.length = 4 * u.nOut then
      { u with next := some (payWords f 0 u.nOut) }
    else u.bump 7))

/-- STATION_APPLY (R240, R241): the apply instant of the unit's cycle. -/
def execStationApply (l : Fin 24) (st : Fin 32) (s : State) : Outcome :=
  let u := s.unit l.val st.val
  if u.opened = false ∨ u.state = .start then .next s
  else if u.flags.testBit 0 then .next (s.setUnit l.val st.val u.goSafe)
  else
    match u.next with
    | some v =>
      if u.state = .admitted then
        .next (s.setUnit l.val st.val { u with outs := some v, atSafe := false, applied := true, next := none })
      else .next (s.setUnit l.val st.val { u with next := none })
    | none => .next s

/-- The IDENT_RSP payload (R246). -/
def identPayload (u : StnUnit) (link : Nat) : List Byte :=
  [0x81, BitVec.ofNat 8 link, 0, 0] ++ leBytes 2 0x0100 ++ [0, 0] ++ leBytes 8 u.ident.uid.toNat ++
    leBytes 4 u.ident.stype.toNat ++ leBytes 8 u.ident.inMask.toNat ++ leBytes 8 u.ident.outMask.toNat ++
    leBytes 2 u.ident.fwdNs.toNat ++ leBytes 2 u.ident.convUs.toNat

/-- IDENT_REQ (R231, R250): link number and epoch stored, IDENT_RSP sent; a new epoch takes an admitted unit to WAIT. -/
def execIdentReq (l : Fin 24) (st : Fin 32) (f : Frame) (s : State) : Outcome :=
  let u := s.unit l.val st.val
  .next (onFrame s l.val st.val f true (decide (f.type = 5 ∧ f.pay 0 = 1)) (decide (f.payload.length = 4)) (u.state != .loop) (fun u c =>
    let same := u.linkEpoch == some f.epoch.toNat
    let u1 := if u.state = .admitted then (if same then u else { u.goSafe with state := .wait }) else { u with state := .wait }
    let u2 := { u1 with linkNo := some c, linkEpoch := some f.epoch.toNat, identified := true }
    unitSend u2 st.val 5 2 f.seq.toNat c 0 u2.cycle (identPayload u2 c)))

/-- DELAY_REQ (R234): answered with TURN in ns. -/
def execDelayReq (l : Fin 24) (st : Fin 32) (f : Frame) (turn : Word) (s : State) : Outcome :=
  let u := s.unit l.val st.val
  let acts := (u.state == .wait && u.identified) || u.state == .admitted
  .next (onFrame s l.val st.val f false (decide (f.type = 5 ∧ f.pay 0 = 2)) (decide (f.payload.length = 4)) acts (fun u c =>
    unitSend u st.val 5 2 f.seq.toNat c 0 u.cycle ([0x82, BitVec.ofNat 8 c, 0, 0] ++ leBytes 4 turn.toNat)))

/-- ADMIT (R250): parameters stored, ADMIT_ACK sent; from WAIT also safe values applied and SEQ counters restarted (R253).
DESIGN CHOICE: the active port stays (log entry 206). -/
def execAdmit (l : Fin 24) (st : Fin 32) (f : Frame) (s : State) : Outcome :=
  let u := s.unit l.val st.val
  let ok := decide (f.payload.length = 20 + 4 * u.nOut ∧ f.payLe 12 8 = u.ident.uid.toNat)
  let acts := (u.state == .wait && u.identified) || u.state == .admitted
  .next (onFrame s l.val st.val f false (decide (f.type = 5 ∧ f.pay 0 = 3)) ok acts (fun u c =>
    let u1 := { u with
      admitted := true, redundant := f.payLe 2 2 % 2 = 1, delay := f.payLe 4 4, timeout := f.payLe 8 4,
      safe := payWords f 20 u.nOut, portChanged := u.portChanged && f.portB != u.portB }
    let u2 := if u.state = .admitted then u1
      else { u1.goSafe with state := .admitted, seq0 := 0, seq2 := 0, lastAcr := none, applied := false }
    unitSend u2 st.val 5 2 f.seq.toNat c 0 u2.cycle ([0x83, BitVec.ofNat 8 c, 0, 0] ++ leBytes 8 u.ident.uid.toNat)))

/-- RELEASE (R250). -/
def execRelease (l : Fin 24) (st : Fin 32) (f : Frame) (s : State) : Outcome :=
  .next (onFrame s l.val st.val f false (decide (f.type = 5 ∧ f.pay 0 = 4)) (decide (f.payload.length = 4))
    ((s.unit l.val st.val).state == .admitted) (fun u _ => { u.goSafe with state := .wait }))

/-- HOLD (R231, R250): a unit in WAIT enters HELD; it takes the link number where it knew none. -/
def execHold (l : Fin 24) (st : Fin 32) (f : Frame) (s : State) : Outcome :=
  let k := (s.unit l.val st.val).state
  .next (onFrame s l.val st.val f true (decide (f.type = 8)) (decide (f.payload.length = 0 ∧ k ≠ .admitted))
    (decide (k = .wait ∨ k = .held)) (fun u c => { u with state := .held, linkNo := some (u.linkNo.getD c) }))

/-- ACY (R243, R244): answered with RESULT and data; the SEQ of a request already answered finally brings that ACR again. -/
def execAcy (l : Fin 24) (st : Fin 32) (f : Frame) (result : BitVec 16) (data : List Byte) (s : State) : Outcome :=
  let acts := (s.unit l.val st.val).state == .admitted
  .next (onFrame s l.val st.val f false (decide (f.type = 3)) (decide (6 ≤ f.payload.length ∧ f.payload.length ≤ 1024)) acts (fun u c =>
    let fresh := f.payload.take 2 ++ leBytes 2 result.toNat ++ (if f.payLe 0 2 = 1 ∧ result = 0 then data.take 1020 else [])
    let pay := match u.lastAcr with | some (n, p) => if n = f.seq.toNat then p else fresh | none => fresh
    let u1 := unitSend u st.val 4 1 f.seq.toNat c 0 u.cycle pay
    if result = 1 then u1 else { u1 with lastAcr := some (f.seq.toNat, pay) }))

/-- The eight counters as the DIAG answer carries them (R247). -/
def diagPayload (u : StnUnit) (code : Nat) : List Byte :=
  [BitVec.ofNat 8 code, 0, 0, 0] ++ ((List.range 8).map (fun k => leBytes 2 (u.cntAt k))).flatten

/-- DIAG (R247): READ, or READ_AND_CLEAR. -/
def execDiag (l : Fin 24) (st : Fin 32) (f : Frame) (s : State) : Outcome :=
  let k := (s.unit l.val st.val).state
  .next (onFrame s l.val st.val f false (decide (f.type = 6)) (decide (f.payload.length = 4 ∧ (f.pay 0 = 1 ∨ f.pay 0 = 2)))
    (k != .loop) (fun u c =>
    let u1 := unitSend u st.val 6 2 f.seq.toNat c 0 u.cycle (diagPayload u (f.pay 0))
    if f.pay 0 = 2 then { u1 with cnt := [] } else u1))

/-- The length and LOOP_MS of a TEST frame (R248). -/
def testFits (f : Frame) : Bool := decide (f.payload.length = 8 ∧ 1 ≤ f.payLe 4 4 ∧ f.payLe 4 4 ≤ 60000)

/-- TEST_LOOP_ON (R248): the unit applies its safe values and enters loopback. -/
def execTestLoopOn (l : Fin 24) (st : Fin 32) (f : Frame) (s : State) : Outcome :=
  let k := (s.unit l.val st.val).state
  .next (onFrame s l.val st.val f false (decide (f.type = 7 ∧ f.pay 0 = 1)) (testFits f) (decide (k = .wait ∨ k = .admitted)) (fun u _ => { u.goSafe with state := .loop }))

/-- TEST_LOOP_OFF (R248). -/
def execTestLoopOff (l : Fin 24) (st : Fin 32) (f : Frame) (s : State) : Outcome :=
  .next (onFrame s l.val st.val f false (decide (f.type = 7 ∧ f.pay 0 = 2)) (testFits f) ((s.unit l.val st.val).state == .loop) (fun u _ => { u with state := .wait }))

/-- LOOPBACK_END (R248): LOOP_MS, or 1 ms of loss of signal. -/
def execLoopbackEnd (l : Fin 24) (st : Fin 32) (s : State) : Outcome :=
  let u := s.unit l.val st.val
  if u.state = .loop then .next (s.setUnit l.val st.val { u with state := .wait }) else .next s

/-- SOC_LOSS_TIMEOUT (R251): no SOC block for TIMEOUT µs; safe values at once. The cycle timed out without an SOC block
counts in SOC_MISS where none was counted for the interval (R222, R247). -/
def execSocLossTimeout (l : Fin 24) (st : Fin 32) (s : State) : Outcome :=
  let u := s.unit l.val st.val
  if u.state = .admitted then
    let u1 := if u.missTold then u else { u.bump 6 with missTold := true }
    .next (s.setUnit l.val st.val { u1.goSafe with state := .wait })
  else .next s

/-- HELD_TIMEOUT (R250): 10 s without a valid frame. -/
def execHeldTimeout (l : Fin 24) (st : Fin 32) (s : State) : Outcome :=
  let u := s.unit l.val st.val
  if u.state = .held then .next (s.setUnit l.val st.val { u with state := .wait }) else .next s

/-- REPORT_FRAME (R254): no SOC block by 5 µs after the predicted instant. DEDUCED: each report carries the cycle number of the last
accepted block plus 1 (log entry 208). -/
def execReportFrame (l : Fin 24) (st : Fin 32) (fault : BitVec 16) (s : State) : Outcome :=
  let u := s.unit l.val st.val
  if u.state = .admitted ∧ u.redundant = true ∧ u.twoSocs = true then
    let pay := leBytes 2 (statusWord u fault) ++ [0, 0]
    let noOut := decide (0 < u.nOut) && (u.missTold || (!u.applied && !u.flags.testBit 0))
    let u1 := unitSend u st.val 2 0 u.seq0 (u.linkNo.getD 0) (inFlags { u with noOut := noOut } true) ((u.cycle + 1) % 65536) pay
    .next (s.setUnit l.val st.val (onBothPorts ({ u1 with missTold := true, seq0 := (u.seq0 + 1) % 65536 }.bump 6)))
  else .next s

end Sys2Proof.Machine
end

