-- ==== Sys2Proof/Machine/Twl.lean ====
section
/-! DEFINITION. Redundant pairs and the Twin Link: frames, training, heartbeats, roles, shadow sets, takeover and handover
(R481 to R502). -/

namespace Sys2Proof

open Sys2Proof.Machine

/-- The check that a Twin Link frame must carry (R483). -/
def TwlFrame.checkOf (f : TwlFrame) : Word :=
  crc32cFrom (frameSeed 0xE5 f.type.toNat f.seq.toNat)
    ([f.type, f.flags] ++ leBytes 2 f.seq.toNat ++ leBytes 2 f.len.toNat ++ leBytes 2 f.rsv.toNat ++ f.payload)

/-- `n` bytes of the payload from `k`, little-endian. -/
def TwlFrame.pay (f : TwlFrame) (k n : Nat) : Nat := leNat ((f.payload.drop k).take n)

/-- The frame passes its check, its TYPE is not reserved, and its payload has the length that LEN says (R483). -/
def TwlFrame.passes (f : TwlFrame) : Bool :=
  decide (f.check = f.checkOf ∧ 1 ≤ f.type.toNat ∧ f.type.toNat ≤ 7 ∧ f.payload.length = f.len.toNat ∧ f.len.toNat ≤ 4096)

end Sys2Proof

namespace Sys2Proof.Machine

/-! ### Frames and training (R482 to R484) -/

/-- The TWL is UP. -/
def State.twlUp (s : State) : Bool := decide (s.fld F.TWL_STATUS_LINK = 2)

/-- A frame is sent, with the counter of its TYPE (R483); halted by debug, the Twin Link sends K28.5 only (R537). -/
def twlSend (s : State) (ty : Nat) (payload : List Byte) : State :=
  if s.dbgHalted then s else
  let n := SMap.get (fun _ => 0) s.twl.seqs ty
  { s with twl := { s.twl with
      seqs := SMap.set (fun _ => 0) s.twl.seqs ty ((n + 1) % 65536)
      out := s.twl.out ++ [(ty, n, payload)] } }

/-- A frame is received of the TYPE that a row stands for; `k` is what it does. One that fails its check or bears a reserved TYPE
is discarded and counted (R483); nothing is received in DOWN, or while debug halts the unit (R537). -/
def onTwl (s : State) (f : TwlFrame) (ty : Nat) (k : State → State) : State :=
  if s.wrapped R.TWL_CTRL || !s.powered 5 || s.fld F.TWL_STATUS_LINK == 0 || s.dbgHalted then s
  else if !f.passes then s.countReg R.TWL_CRC_ERR
  else if f.type.toNat = ty ∧ s.twlUp = true then k s
  else s

/-- DOWN is left for TRAIN where EN is 1 and XTAL is good. -/
def twlTrain (s : State) : State :=
  if s.fld F.TWL_STATUS_LINK = 0 ∧ s.flag F.TWL_CTRL_EN = true ∧ s.flag F.CKG_STATUS_XTAL_GOOD = true ∧
      s.serves R.TWL_CTRL = true ∧ s.dbgHalted = false then
    twlTo { s with twl := { s.twl with deskewed := false, echoes := 0 } } 1
  else s

/-- The effect of a write of `TWL_CTRL.EN` (R482). -/
def twlEn (s : State) (en : Bool) : State :=
  let s1 := s.setFld F.TWL_CTRL_EN (if en then 1 else 0)
  if en then twlTrain s1 else twlDown s1

/-- TWL_ENABLE (R482). -/
def execTwlEnable (en : Bool) (s : State) : Outcome :=
  atReg s R.TWL_CTRL ((s.reg R.TWL_CTRL &&& 0xFFFFFFFE) ||| (if en then 1 else 0)) (twlEn s en)

/-- TWL_TRAIN_RETRY (R482): every 10 ms in DOWN. -/
def execTwlTrainRetry (s : State) : Outcome := .next (twlTrain s)

/-- TWL_TRAIN_TIMEOUT (R482): 10 ms in TRAIN without success. -/
def execTwlTrainTimeout (s : State) : Outcome :=
  if s.fld F.TWL_STATUS_LINK = 1 ∧ s.dbgHalted = false then .next (twlDown s) else .next s

/-- TWL_LANE_SYNC_LOSS (R482): a lane out of synchronisation for 100 µs. -/
def execTwlLaneSyncLoss (s : State) : Outcome :=
  if s.fld F.TWL_STATUS_LINK = 0 then .next s else .next (twlDown s)

/-- An ECHO payload (R484). -/
def echoPayload (s : State) (code turn : Nat) : List Byte := [BitVec.ofNat 8 code, 0, 0, 0] ++ leBytes 8 s.tb ++ leBytes 4 turn

/-- TWL_LANES_DESKEWED (R482): the echo exchanges begin. -/
def execTwlLanesDeskewed (s : State) : Outcome :=
  if s.fld F.TWL_STATUS_LINK = 1 ∧ s.twl.deskewed = false ∧ s.dbgHalted = false then
    .next (twlSend { s with twl := { s.twl with deskewed := true, echoes := 0 } } 7 (echoPayload s 1 0))
  else .next s

/-- An exchange is answered after a round trip of `rt` ns; the eighth ends TRAIN with T_TWL (R482). -/
def echoAnswer (s : State) (f : TwlFrame) (rt : Nat) : State :=
  let v := rt - f.pay 12 4
  let n := s.twl.echoes + 1
  let best := if n = 1 then v else min s.twl.best v
  let s1 := { s with twl := { s.twl with echoes := n, best := best } }
  if n = 8 then twlTo (s1.setFld F.TWL_DELAY_NS (min 65535 ((best + 1) / 2))) 2 else twlSend s1 7 (echoPayload s 1 0)

/-- ECHO (R482, R484): a request is answered with the turnaround `turn`, an answer is measured as `rt`, both in ns. -/
def execEcho (f : TwlFrame) (rt turn : Word) (s : State) : Outcome :=
  if s.fld F.TWL_STATUS_LINK = 0 ∨ s.dbgHalted = true then .next s
  else if !f.passes then .next (s.countReg R.TWL_CRC_ERR)
  else if f.type ≠ 7 ∨ f.payload.length ≠ 16 then .next s
  else if f.pay 0 1 = 1 then .next (twlSend s 7 (echoPayload s 2 turn.toNat))
  else if f.pay 0 1 = 2 ∧ s.fld F.TWL_STATUS_LINK = 1 ∧ s.twl.deskewed = true then .next (echoAnswer s f rt.toNat)
  else .next s

/-! ### Roles (R486, R487) -/

def twlRole (s : State) : Nat := s.fld F.TWL_STATUS_ROLE

/-- The role changes: EVC source 229, the health word, every unit due in the next set (R486, R492, R502). -/
def setRole (s : State) (r : Nat) : State :=
  if twlRole s = r then s
  else
    let s1 := (s.setFld F.TWL_STATUS_ROLE r).setFld F.TWL_STATUS_MISSED 0
    let s2 := { s1 with twl := { s1.twl with
      full := true, sending := none, awaiting := none, setDue := false, rx := none, ready' := none, fullApplied := false,
      handover := none, handAcked := false, handTake := none, claim := false } }
    healthTell (twlEvent s2 1)

/-- The next pair epoch (R487). -/
def nextPair (e : Nat) : Nat := e % 15 + 1

/-- What the standby judges of the primary's last heartbeat: PLAN_OK, CFG_DIFF, READY (R493, R494). The TWL was UP when the
role was granted and until the heartbeats stopped. -/
def segSum (p : Plan) : Nat := (crc32c (((List.range 64).map (fun k => leBytes 4 (p.part k).segVer)).flatten)).toNat

def planAgrees (s : State) (b : Beat) : Bool :=
  let p := s.thePlan
  s.plan.isSome && decide (b.planId = p.id ∧ b.planVer = p.ver ∧ b.packCrc = packCrc p ∧ b.segSum = segSum p)

def setReady (s : State) (v : Bool) : State :=
  if s.flag F.TWL_STATUS_READY = v then s else twlEvent (s.setFld F.TWL_STATUS_READY (if v then 1 else 0)) 3

def twlJudge (s : State) : State :=
  let ok := s.standby && (match s.twl.peer with | some b => planAgrees s b | none => false)
  let diff := s.standby && (match s.twl.peer with | some b => decide (b.cfgSeq ≠ (s.reg R.CYC_CFG_SEQ).toNat) | none => false)
  let fresh := ok && !s.flag F.TWL_STATUS_PLAN_OK
  let s1 := (s.setFld F.TWL_STATUS_PLAN_OK (if ok then 1 else 0)).setFld F.TWL_STATUS_CFG_DIFF (if diff then 1 else 0)
  let s2 := if fresh then { s1 with twl := { s1.twl with fullApplied := false } } else s1
  setReady s2 (ok && s2.twl.fullApplied && decide (s2.twl.sinceSet ≤ 16))

/-- Every link of a device that takes STANDBY goes DOWN; redundant ones listen (R489). -/
def linksListen (s : State) : State :=
  eachNat (fun t l =>
    let t1 := (linkDown t l 0).setFld (F.SFL_STATUS_DOWN_CAUSE l) 0
    t1.setLnk l { t1.lnk l with socSeen := false, repSeen := false, socHist := [], repHist := [], lineOfs := [] })
    s (List.range 24)

/-- A refused request is counted (R486, R499). -/
def refuse (s : State) : State := s.countReg R.TWL_REFUSE_CNT

/-- The effect of a write of `TWL_CTRL.ROLE` (R486). A claim is judged 3 ms later. -/
def roleWrite (s : State) (r : Nat) : State :=
  let s1 := if r < 3 then s.setFld F.TWL_CTRL_ROLE r else s
  if twlRole s1 ≠ 0 ∨ s1.cycEn = true ∨ s1.twl.claim = true then s1
  else if r = 1 then
    { s1 with twl := { s1.twl with claim := true, claimLost := false } }
  else if r = 2 then
    (match s1.twl.peer with
     | some b =>
       if s1.twlUp = true ∧ b.role = 1 then
         let s2 := linksListen (setRole s1 2)
         twlJudge (s2.setFld F.TWL_STATUS_PAIR_EPOCH b.epoch)
       else refuse s1
     | none => refuse s1)
  else s1

/-- TWL_ROLE_WRITE (R486). -/
def execTwlRoleWrite (r : Fin 4) (s : State) : Outcome :=
  atReg s R.TWL_CTRL ((s.reg R.TWL_CTRL &&& 0xFFFFFFF9) ||| word (2 * r.val)) (roleWrite s r.val)

/-- PRIMARY_CLAIM_END (R486, R487): 3 ms after the write. -/
def execPrimaryClaimEnd (s : State) : Outcome :=
  if !s.twl.claim || s.dbgHalted then .next s
  else if s.twl.claimLost then .next (refuse { s with twl := { s.twl with claim := false } })
  else
    let e := match s.twl.heardEpoch with | some e => nextPair e | none => 1
    .next (setRole (s.setFld F.TWL_STATUS_PAIR_EPOCH e) 1)

/-! ### Heartbeats (R485, R488, R495) -/

/-- Nothing of the cycle happens: a debug halt, PFSTOP, or Rag Doll mode (R78, R537). -/
def State.cycHalted (s : State) : Bool := s.dbgHalted || s.pfstop || s.flag F.SPM_BOOT_STAT_RAGDOLL

/-- The payload of this device's heartbeat. -/
def heartbeat (s : State) : List Byte :=
  let p := s.thePlan
  leBytes 4 (s.reg R.CYC_CYCNUM).toNat ++ leBytes 1 (twlRole s) ++ leBytes 1 (s.fld F.TWL_STATUS_PAIR_EPOCH) ++
    leBytes 2 (healthWord s) ++ leBytes 8 s.cyc.lastSocTb ++ leBytes 4 p.id ++ leBytes 4 p.ver ++ leBytes 4 (packCrc p) ++
    leBytes 4 (segSum p) ++ leBytes 4 (s.reg R.CYC_TRACK_LO).toNat ++ leBytes 4 (s.reg R.CYC_TRACK_HI).toNat ++
    leBytes 4 (if s.standby then s.twl.lastApplied else s.twl.lastSent) ++ leBytes 4 (s.reg R.CYC_CFG_SEQ).toNat ++
    leBytes 4 (if s.service then 1 else 0) ++ leBytes 8 s.boot.fuses.uid

/-- A heartbeat is sent while the TWL is UP. -/
def sendHeartbeat (s : State) : State := if s.twlUp then twlSend s 1 (heartbeat s) else s

/-- HEARTBEAT_MILLISECOND (R485): while no cycle runs. -/
def execHeartbeatMillisecond (s : State) : Outcome :=
  if s.cyc.inCycle && !s.cycHalted then .next s else .next (sendHeartbeat s)

/-- A heartbeat's payload as read. -/
def beatOf (f : TwlFrame) : Beat :=
  { cycle := f.pay 0 4, role := f.pay 4 1 % 4, epoch := f.pay 5 1 % 16, health := f.pay 6 2, tb := f.pay 8 8,
    planId := f.pay 0x10 4, planVer := f.pay 0x14 4, packCrc := f.pay 0x18 4, segSum := f.pay 0x1C 4,
    track := f.pay 0x20 8, set := f.pay 0x28 4, cfgSeq := f.pay 0x2C 4, service := decide (f.pay 0x30 1 % 2 = 1), uid := f.pay 0x34 8 }

/-- This device loses a claim to the partner's heartbeat (R486): it shows PRIMARY already, or a competing claim that wins.
`claim` is the partner's PREF where the partner claims too. -/
def claimLostTo (s : State) (b : Beat) (claim : Option Bool) : Bool :=
  decide (b.role = 1) ||
    (match claim with
     | none => false
     | some pref => if pref = s.flag F.TWL_CTRL_PREF then decide (b.uid < s.boot.fuses.uid) else pref)

/-- Two devices that both hold PRIMARY (R486, R501). -/
def primaryHears (s : State) (b : Beat) : State :=
  let own := s.fld F.TWL_STATUS_PAIR_EPOCH
  if b.role ≠ 1 then s
  else if b.epoch = own then raiseNmi (twlEvent s 2) 4
  else if epochNewer b.epoch own then (setRole s 0).setFld F.TWL_STATUS_PAIR_EPOCH 0
  else s

/-- The standby hears the primary (R488, R495): cycle number and modes, MISSED, the judgements. -/
def standbyHears (s : State) (b : Beat) (onTime : Bool) : State :=
  if b.role ≠ 1 then s
  else
    let s1 := if s.cycEn then s.setReg R.CYC_CYCNUM (word b.cycle) else s
    let s2 := (s1.setReg R.CYC_TRACK_LO (word b.track)).setReg R.CYC_TRACK_HI (word (b.track / 2 ^ 32))
    let s3 := if onTime then
        { s2.setFld F.TWL_STATUS_MISSED 0 with twl := { s2.twl with sinceSet := s2.twl.sinceSet + 1 } }
      else s2
    twlJudge s3

/-- A partner heartbeat is received. -/
def hearBeat (s : State) (b : Beat) (onTime : Bool) (claim : Option Bool) : State :=
  let s1 := { s.setFld F.TWL_STATUS_PEER b.role with twl := { s.twl with peer := some b, heardEpoch := some b.epoch } }
  let s2 := if s1.twl.claim && claimLostTo s1 b claim then { s1 with twl := { s1.twl with claimLost := true } } else s1
  match twlRole s2 with
  | 1 => primaryHears s2 b
  | 2 => standbyHears s2 b onTime
  | _ => s2

/-- HEARTBEAT (R485, R495). `onTime`: its K27.7 arrived by the predicted instant + TWL_DELAY + HB_TOL. -/
def execHeartbeat (f : TwlFrame) (onTime : Bool) (claim : Option Bool) (s : State) : Outcome :=
  .next (onTwl s f 1 (fun t => if f.payload.length = 0x3C then hearBeat t (beatOf f) onTime claim else t))

/-- HEARTBEAT_MISSED (R495): EVC source 15. -/
def execHeartbeatMissed (s : State) : Outcome :=
  if s.standby && s.cycEn && !s.cycHalted then
    .next (twlJudge (aonEvent ((s.count F.TWL_STATUS_MISSED).countReg R.TWL_HB_MISS_CNT) 15))
  else .next s

/-! ### Shadow sets, on the primary (R492) -/

/-- The values applied at the instant, in the output image. -/
def outputImage (s : State) : SMap Word :=
  s.thePlan.binds.foldl (fun m e => if e.2.kind = 2 then SMap.set (fun _ => 0) m e.1 (s.slot e.1).value else m) []

/-- The contents of a unit: the snapshot buffer, then the output image. -/
def unitBytes (s : State) (u : Nat) : List Byte :=
  if u < 8192 then s.bytes (snapBase + 64 * u) 64
  else ((List.range 16).map (fun k => leBytes 4 (SMap.get (fun _ => (0 : Word)) s.twl.outImg (16 * (u - 8192) + k)).toNat)).flatten

def unitZero : Nat → List Byte := fun _ => List.replicate 64 0

/-- The engine looks at the units, once a cycle: those that differ from the last look are marked as changed. -/
def lookUnits (s : State) : State :=
  let new := ((List.range 8704).map (fun u => (u, unitBytes s u))).filter (fun e => decide (e.2 ≠ SMap.get unitZero s.twl.seen e.1))
  let n := s.twl.looks + 1
  { s with twl := { s.twl with
      looks := n
      seen := new.foldl (fun m e => SMap.set unitZero m e.1 e.2) s.twl.seen
      changedAt := new.foldl (fun m e => SMap.set (fun _ => 0) m e.1 n) s.twl.changedAt } }

/-- A unit is marked: it has changed since the last set that the standby acknowledged with RESULT 0 (R492). -/
def unitMarked (s : State) (u : Nat) : Bool := decide (s.twl.ackLook < SMap.get (fun _ => 0) s.twl.changedAt u)

/-- The units of the set: every one, or the marked ones. -/
def setUnits (s : State) : SMap (List Byte) :=
  ((List.range 8704).filter (fun u => s.twl.full || unitMarked s u)).map (fun u => (u, SMap.get unitZero s.twl.seen u))

/-- A run of consecutive units, at most 63: its length. -/
def runLen (u : Nat) : SMap (List Byte) → Nat → Nat
  | [], _ => 0
  | _, 0 => 0
  | e :: l, n + 1 => if e.1 = u then runLen (u + 1) l n + 1 else 0

/-- SHADOW frames in ascending unit order. -/
def sendUnits (s : State) (set : Nat) : SMap (List Byte) → Nat → State
  | [], _ => s
  | _, 0 => s
  | e :: l, n + 1 =>
    let k := runLen e.1 (e :: l) 63
    let part := (e :: l).take k
    sendUnits (twlSend s 2 (leBytes 4 set ++ leBytes 2 e.1 ++ leBytes 2 k ++ (part.map Prod.snd).flatten)) set ((e :: l).drop k) n

/-- Bytes on the line of a set's frames, K characters on four lanes (R481, R483). -/
def setBytesOnLine : SMap (List Byte) → Nat → Nat
  | [], _ => 32
  | _, 0 => 32
  | e :: l, n + 1 =>
    let k := runLen e.1 (e :: l) 63
    28 + 64 * k + setBytesOnLine ((e :: l).drop k) n

/-- The set of the cycle begins; one that an earlier set occupies is skipped. With the TWL not UP there is none. -/
def beginSet (s : State) : State :=
  let s0 := lookUnits { s with twl := { s.twl with setDue := false } }
  if !s.primary || !s.twlUp || s.plan.isNone then s0
  else if s.twl.sending.isSome then s0.countReg R.TWL_SET_SKIP
  else
    let us := setUnits s0
    let c := s0.dpr.snapCycle
    let s1 := sendUnits s0 c us us.length
    { s1 with twl := { s1.twl with sending := some ⟨c, us, s0.twl.full, s0.twl.looks⟩, full := false } }

/-- At the apply instant: the output image, then the set, once the snapshot copy of the cycle is complete. A cycle without a
snapshot has no set (R187, R492). -/
def setAtApply (s : State) : State :=
  if !s.primary then s
  else
    let s1 := { s with twl := { s.twl with outImg := outputImage s } }
    if s1.flag F.DPR_SNAP_STATUS_BUSY then { s1 with twl := { s1.twl with setDue := true } }
    else if s1.dpr.skipped then lookUnits s1
    else beginSet s1

/-- The set has been sent completely: SHEND, `TWL_SET_CNT`, `TWL_SET_STAT`. -/
def completeSet (s : State) : State :=
  match s.twl.sending with
  | none => s
  | some x =>
    let s1 := twlSend s 3 (leBytes 4 x.cycle ++ leBytes 2 x.units.length ++ [0, 0] ++ leBytes 4 (packCrc s.thePlan))
    let s2 := (s1.countReg R.TWL_SET_CNT).setReg R.TWL_SET_STAT (word (x.units.length * 65536 + x.cycle % 65536))
    { s2 with twl := { s2.twl with sending := none, awaiting := some x, lastSent := x.cycle } }

/-- The set's units stay marked where it is not sent completely. -/
def abandonSet (s : State) : State :=
  match s.twl.sending with
  | none => s
  | some x => { s.countReg R.TWL_SET_SKIP with twl := { s.twl with sending := none, full := s.twl.full || x.all } }

/-- At the OUT deadline: a set fits where its bytes pass at 1 GB/s between the apply instant and this deadline. -/
def setAtDeadline (s : State) : State :=
  match s.twl.sending with
  | none => s
  | some x =>
    let span := 1000 * (s.fld F.CYC_PERIOD_US - s.fld F.CYC_APPLY_OFS_US + s.fld F.CYC_OUT_DEADLINE_US)
    if setBytesOnLine x.units x.units.length ≤ span then completeSet s else abandonSet s

/-- A set is acknowledged: what changed up to the look it began with is marked no more. -/
def ackSet (s : State) (x : TwlSet) : State := { s with twl := { s.twl with ackLook := x.look, awaiting := none } }

/-- SHACK (R492): RESULT 0 applied, 1 refused. It answers a set that has been sent completely. -/
def shack (s : State) (f : TwlFrame) : State :=
  if f.payload.length ≠ 8 ∨ s.primary = false then s
  else
    let s1 := match s.twl.sending with
      | some x => if x.cycle = f.pay 0 4 then completeSet s else s
      | none => s
    match s1.twl.awaiting with
    | some x =>
      if x.cycle ≠ f.pay 0 4 then s1
      else if f.pay 4 1 = 0 then ackSet s1 x
      else { s1 with twl := { s1.twl with awaiting := none, full := true } }
    | none => s1

def execShack (f : TwlFrame) (s : State) : Outcome := .next (onTwl s f 4 (fun t => shack t f))

/-! ### Shadow sets, on the standby (R493) -/

/-- The set being received; one of another cycle starts anew. -/
def rxSet (s : State) (set : Nat) : TwlSet :=
  match s.twl.rx with
  | some x => if x.cycle = set then x else ⟨set, [], true, 0⟩
  | none => ⟨set, [], true, 0⟩

/-- The units of a SHADOW frame. -/
def frameUnits (f : TwlFrame) : SMap (List Byte) :=
  (List.range (f.pay 6 2)).map (fun k => (f.pay 4 2 + k, (f.payload.drop (8 + 64 * k)).take 64))

/-- A received unit is written into the receive area; outside MGS and in the closed snapshot buffer the write meets a bus error, and
the set is incomplete (R46, R186, R493). -/
def receiveUnit (s : State) (x : TwlSet) (u : Nat) (l : List Byte) : TwlSet × State :=
  let a := (s.reg R.TWL_RXBASE).toNat + 64 * u
  if !within a 0x10000000 0x200000 || snapClosed s a 64 then ({ x with all := false }, busErrOf s codeTwl 0 a true)
  else ({ x with units := SMap.set (fun _ => []) x.units u l }, s.setBytes a l)

/-- SHADOW (R493): the units go into the receive area. -/
def shadow (s : State) (f : TwlFrame) : State :=
  let n := f.pay 6 2
  if s.standby = false then s
  else
    let x := rxSet s (f.pay 0 4)
    if n = 0 ∨ 63 < n ∨ 8704 < f.pay 4 2 + n ∨ f.payload.length ≠ 8 + 64 * n then
      { s with twl := { s.twl with rx := some { x with all := false } } }
    else
      let r := (frameUnits f).foldl (fun q e => receiveUnit q.2 q.1 e.1 e.2) (x, s)
      { r.2 with twl := { r.2.twl with rx := some r.1 } }

def execShadow (f : TwlFrame) (s : State) : Outcome := .next (onTwl s f 2 (fun t => shadow t f))

/-- SHACK with a RESULT. -/
def sendShack (s : State) (set result : Nat) : State :=
  if s.twlUp then twlSend s 4 (leBytes 4 set ++ [BitVec.ofNat 8 result, 0, 0, 0]) else s

/-- SHEND (R493): the set is held for application, or refused. -/
def shend (s : State) (f : TwlFrame) : State :=
  if s.standby = false ∨ f.payload.length ≠ 12 then s
  else
    let x := rxSet s (f.pay 0 4)
    let s1 := { s with twl := { s.twl with rx := none } }
    if x.all ∧ x.units.length = f.pay 4 2 ∧ s.plan.isSome = true ∧ f.pay 8 4 = packCrc s.thePlan ∧
        s.flag F.TWL_STATUS_PLAN_OK = true then
      { s1 with twl := { s1.twl with ready' := some x } }
    else sendShack s1 (f.pay 0 4) 1

/-- SHEND (R493). -/
def execShend (f : TwlFrame) (s : State) : Outcome := .next (onTwl s f 3 (fun t => shend t f))

/-- One received unit goes into the snapshot buffer or the output image. -/
def takeUnit (s : State) (u : Nat) (l : List Byte) : State :=
  if u < 8192 then s.setBytes (snapBase + 64 * u) l
  else { s with twl := { s.twl with
    outImg := (List.range 16).foldl (fun m k =>
      SMap.set (fun _ => (0 : Word)) m (16 * (u - 8192) + k) (word (leNat ((l.drop (4 * k)).take 4)))) s.twl.outImg } }

/-- The output image into the last applied value of each output-bound slot. -/
def takeOutputs (s : State) : State :=
  s.thePlan.binds.foldl (fun t e =>
    if e.2.kind = 2 then t.setSlot e.1 { t.slot e.1 with value := SMap.get (fun _ => (0 : Word)) s.twl.outImg e.1 } else t) s

/-- The application of a set (R493). -/
def applySet (s : State) (x : TwlSet) : State :=
  let s1 := x.units.foldl (fun t e => takeUnit t e.1 e.2) s
  let s2 := takeOutputs (restoreSlots (restoreFields s1))
  let s3 := (s2.countReg R.TWL_SET_CNT).setReg R.TWL_SET_STAT (word (x.units.length * 65536 + x.cycle % 65536))
  let s4 := { s3 with twl := { s3.twl with
    ready' := none, lastApplied := x.cycle, sinceSet := 0,
    fullApplied := s3.twl.fullApplied || decide (x.units.length = 8704) } }
  twlJudge (sendShack s4 x.cycle 0)

/-- SET_APPLICATION (R493): one that the plans no longer permit is refused. A set whose SHEND came too late for a takeover is not
applied (R501). -/
def execSetApplication (s : State) : Outcome :=
  match s.twl.ready' with
  | some x =>
    if !s.standby || s.dbgHalted then .next s
    else if s.flag F.TWL_STATUS_PLAN_OK then .next (applySet s x)
    else .next (sendShack { s with twl := { s.twl with ready' := none } } x.cycle 1)
  | none => .next s

/-! ### Station tables (R491) -/

/-- A link's LINKSTATE payload. -/
def linkstate (s : State) (l : Nat) : List Byte :=
  [BitVec.ofNat 8 l, BitVec.ofNat 8 (s.fld (F.SFL_STATUS_EPOCH l)), 0, 0] ++
    ((List.range 31).map (fun k =>
      let y := s.stn l (k + 1)
      leBytes 1 y.state ++ leBytes 1 y.epoch ++ leBytes 2 y.fwd ++ leBytes 4 y.delay)).flatten

/-- The primary's LINKSTATE frames of a cycle: its link in turn, and each link that has changed. -/
def sendLinkstates (s : State) : State :=
  if !s.primary || !s.twlUp then s
  else
    let turn := (s.reg R.CYC_CYCNUM).toNat % 24
    eachNat (fun t l =>
      if l = turn ∨ (t.lnk l).changed = true then
        (let t1 := twlSend t 5 (linkstate t l)
         t1.setLnk l { t1.lnk l with changed := false })
      else t) s (List.range 24)

/-- The standby keeps the last table of each link. -/
def keepTable (s : State) (f : TwlFrame) : State :=
  let l := f.pay 0 1
  if s.standby = false ∨ f.payload.length ≠ 252 ∨ 24 ≤ l then s
  else
    { s with twl := { s.twl with
      lsEpoch := SMap.set (fun _ => 0) s.twl.lsEpoch l (f.pay 1 1)
      ls := (List.range 31).foldl (fun m k =>
        let o := 4 + 8 * k
        SMap.set (fun _ => ({} : LsEntry)) m (32 * l + k + 1) ⟨f.pay o 1, f.pay (o + 1) 1, f.pay (o + 2) 2, f.pay (o + 4) 4⟩) s.twl.ls } }

/-- LINKSTATE (R491). -/
def execLinkstate (f : TwlFrame) (s : State) : Outcome := .next (onTwl s f 5 (fun t => keepTable t f))

/-- The mean of L_n over the last 16 cycles (R490). -/
def lineMean (s : State) (l : Nat) : Nat :=
  let o := (s.lnk l).lineOfs
  if o.length = 0 then 0 else o.sum / o.length

/-- SOC_SEEN (R489, R490): a K28.1 block reaches a listening link, `ofs` ns after the primary's SOC instant. -/
def execSocSeen (l : Fin 24) (b : KBlock) (ofs : BitVec 16) (s : State) : Outcome :=
  if s.listens l.val = true ∧ blockOk b = true ∧ b.flags.toNat / 16 = s.fld F.TWL_STATUS_PAIR_EPOCH then
    .next (s.setLnk l.val { s.lnk l.val with socSeen := true, lineOfs := (ofs.toNat :: (s.lnk l.val).lineOfs).take 16 })
  else .next s

/-! ### Takeover and handover (R496 to R499) -/

/-- `TWL_LAST_TAKE` takes a record. -/
def lastTake (s : State) (kind : Nat) : State :=
  s.setReg R.TWL_LAST_TAKE (word (2 ^ 31 + kind * 2 ^ 24 + cycle16 s))

/-- The links that listen. -/
def listening (s : State) : List Nat := (List.range 24).filter (fun l => s.listens l)

/-- The two station conditions, in the cycles of the last two missed heartbeats. -/
def reportsSeen (s : State) : Bool :=
  let n := s.fld F.TWL_TAKE_CFG_MIN_LINKS
  let ls := listening s
  decide (n ≤ (ls.filter (fun l => (s.lnk l).repSeen)).length) &&
    decide (n ≤ (ls.filter (fun l => (s.lnk l).repHist.headD false)).length)

def noSocSeen (s : State) : Bool :=
  (listening s).all (fun l => !(s.lnk l).socSeen && !(s.lnk l).socHist.headD false)

/-- A station of a link that is carried over enters RUN without its gate, its ADMIT due; another enters IDLE. -/
def carryStn (l : Nat) (s : State) (st : Nat) : State :=
  let e := SMap.get (fun _ => ({} : LsEntry)) s.twl.ls (32 * l + st)
  if e.state = 3 then
    (let s1 := stnTo (s.setStn l st { s.stn l st with
       epoch := e.epoch, fwd := e.fwd, delay := lineMean s l - e.delay - e.fwd, miss := 0, retry := false, seen := true,
       acks := [], inNow := false, inAny := false, pollWait := false, pollCnt := 0, seq0 := 0, seq1 := 0, seq2 := 0 }) l st 3 0
     s1.setStn l st { s1.stn l st with step := 7 })
  else stnTo s l st 1 0

/-- A listening link passes from DOWN to RUN with the link epoch and the stations of its last table. -/
def carryLink (s : State) (l : Nat) : State :=
  let s1 := s.setFld (F.SFL_STATUS_EPOCH l) (SMap.get (fun _ => 0) s.twl.lsEpoch l)
  let s2 := linkTo s1 l 4
  eachNat (carryStn l) s2 ((s2.thePlan.link l).stns.map (fun c => c.addr))

/-- The takeover at a boundary, before step 2 of R20 (R497); KIND 1, or 4 at a handover. -/
def takeOver (s : State) (kind : Nat) : State :=
  let ls := listening s
  let s1 := (setRole s 1).setFld F.TWL_STATUS_PAIR_EPOCH (nextPair (s.fld F.TWL_STATUS_PAIR_EPOCH))
  eachNat carryLink (setReady (lastTake (s1.setFld F.TWL_STATUS_PLAN_OK 0) kind) false) ls

/-- The takeover is refused: EVC source 230 and an NMI (R496). -/
def takeRefused (s : State) (kind : Nat) : State := raiseNmi (twlEvent (lastTake s kind) 2) 4

/-- The primary's side of a handover at the boundary that opens h (R499). -/
def handOff (s : State) : State :=
  match s.twl.handover with
  | none => s
  | some h =>
    if h ≠ ((s.reg R.CYC_CYCNUM).toNat + 1) % 2 ^ 32 then s
    else if s.twl.handAcked then
      linksListen ((setRole s 2).setFld F.TWL_STATUS_PAIR_EPOCH (nextPair (s.fld F.TWL_STATUS_PAIR_EPOCH)))
    else { s with twl := { s.twl with handover := none } }

/-- The pair's part of a boundary latch instant, before step 2 of R20: whether the device has taken over, and the state. -/
def pairAtLatch (s : State) : Bool × State :=
  if s.primary then (false, handOff s)
  else if !s.standby then (false, s)
  else
    let s0 := twlJudge s
    let s1 := { s0 with twl := { s0.twl with handTake := if s0.twl.handTake = some (((s0.reg R.CYC_CYCNUM).toNat + 1) % 2 ^ 32) then none else s0.twl.handTake } }
    let hand := decide (s0.twl.handTake = some (((s0.reg R.CYC_CYCNUM).toNat + 1) % 2 ^ 32))
    if 2 ≤ s0.fld F.TWL_STATUS_MISSED then
      (if s0.flag F.TWL_STATUS_READY = false then
         (if hand then (true, takeOver s1 4) else (false, takeRefused s1 3))
       else if reportsSeen s0 && noSocSeen s0 then (true, takeOver { s1 with twl := { s1.twl with handTake := none } } 1)
       else if hand then (true, takeOver s1 4)
       else (false, takeRefused s1 2))
    else if hand then (true, takeOver s1 4)
    else (false, s1)

/-- What a standby's links have seen of the cycle that ends (R489). -/
def turnSeen (s : State) : State :=
  eachNat (fun t l =>
    let x := t.lnk l
    t.setLnk l { x with socHist := [x.socSeen], repHist := [x.repSeen], socSeen := false, repSeen := false }) s (listening s)

/-- The payload of a CMD frame (R484). -/
def cmdPayload (code cycle : Nat) : List Byte := [BitVec.ofNat 8 code, 0, 0, 0] ++ leBytes 4 cycle

/-- The effect of `TWL_CTRL.HANDOVER` (R499). -/
def requestHandover (s : State) : State :=
  let ok := s.primary && s.twlUp && everyPart.all (fun p => s.track p) &&
    (match s.twl.peer with
     | some b => decide (b.role = 2) && !b.health.testBit 3 && decide (b.set = s.twl.lastSent)
     | none => false)
  if ok then
    (let h := ((s.reg R.CYC_CYCNUM).toNat + 2) % 2 ^ 32
     twlSend { s with twl := { s.twl with handover := some h, handAcked := false } } 6 (cmdPayload 2 h))
  else refuse s

/-- HANDOVER_REQUEST (R499). -/
def execHandoverRequest (s : State) : Outcome :=
  atReg s R.TWL_CTRL (s.reg R.TWL_CTRL ||| 0x80) (requestHandover s)

/-- HANDOVER_CMD (R499): a ready standby answers. -/
def handoverCmd (s : State) (f : TwlFrame) : State :=
  if s.standby = true ∧ s.flag F.TWL_STATUS_READY = true ∧ f.payload.length = 8 ∧ f.pay 0 1 = 2 then
    twlSend { s with twl := { s.twl with handTake := some (f.pay 4 4) } } 6 (cmdPayload 3 (f.pay 4 4))
  else s

def execHandoverCmd (f : TwlFrame) (s : State) : Outcome := .next (onTwl s f 6 (fun t => handoverCmd t f))

/-- HANDOVER_ACK (R499). -/
def handoverAck (s : State) (f : TwlFrame) : State :=
  if s.primary = true ∧ f.payload.length = 8 ∧ f.pay 0 1 = 3 ∧ s.twl.handover = some (f.pay 4 4) then
    { s with twl := { s.twl with handAcked := true } }
  else s

def execHandoverAck (f : TwlFrame) (s : State) : Outcome := .next (onTwl s f 6 (fun t => handoverAck t f))

/-- The effect of `TWL_CTRL.WRESET` (R500). -/
def wreset (s : State) : State := if s.twlUp then twlSend s 6 (cmdPayload 1 0) else s

/-- WRESET (R500). -/
def execWreset (s : State) : Outcome := atReg s R.TWL_CTRL (s.reg R.TWL_CTRL ||| 0x40) (wreset s)

/-- WARM_RESET (R500): only a standby obeys. -/
def warmReset (s : State) (f : TwlFrame) : State :=
  if f.payload.length ≠ 8 ∨ f.pay 0 1 ≠ 1 then s
  else if s.standby then resetEntry s 10 3
  else s.countReg R.TWL_CMD_IGN

def execWarmReset (f : TwlFrame) (s : State) : Outcome := .next (onTwl s f 6 (fun t => warmReset t f))

/-- The effect of `TWL_CNT_CLR` (R502). -/
def twlCntClr (s : State) : State := s.resetRegs (fun a => within a R.TWL_HB_MISS_CNT 0x18)

/-- TWL_CNT_CLR (R502). -/
def execTwlCntClr (s : State) : Outcome := atReg s R.TWL_CNT_CLR 1 (twlCntClr s)

/-- A write of `TWL_CTRL` (R502): PREF and EN, then ROLE, WRESET and HANDOVER. -/
def twlCtrlWrite (s : State) (v : Word) : State :=
  let s1 := s.setFld F.TWL_CTRL_PREF (F.TWL_CTRL_PREF.of v)
  let en := decide (F.TWL_CTRL_EN.of v = 1)
  let s2 := if s1.flag F.TWL_CTRL_EN = en then s1 else twlEn s1 en
  let s3 := roleWrite s2 (F.TWL_CTRL_ROLE.of v)
  let s4 := if F.TWL_CTRL_WRESET.of v = 1 then wreset s3 else s3
  if F.TWL_CTRL_HANDOVER.of v = 1 then requestHandover s4 else s4

/-- The fields of the TWL block that are computed on a read (R502). -/
def twlRead (s : State) (a : Nat) : Option Word :=
  if a = R.TWL_LDATA then some (word (lineMean s ((s.reg R.TWL_LSEL).toNat % 32))) else none

end Sys2Proof.Machine
end

