-- ==== Sys2Proof/Machine/Cyc.lean ====
section
/-! DEFINITION. The Cycle Timer: the boundary, the events of the cycle, synchronisation, start and stop, the CYC registers
(R19 to R21, R47 to R79, R568). -/

namespace Sys2Proof.Machine

/-- The CYC block serves accesses. -/
def cycServes (s : State) : Bool := s.accepts R.CYC_CTRL

/-! ### The timing set (R50, R51) -/

/-- The plan that rule 5 judges: the plan in force with every PENDING shadow. -/
def pendingPlan (s : State) : Plan :=
  (s.shadows.filter (fun x => x.commit.isSome)).foldl
    (fun p x => if x.whole then x.plan else mergeSeg p x.plan x.seg) s.thePlan

/-- The first failing rule of R51 for the shadow copies; 0: none. -/
def timingCode (s : State) : Nat :=
  let v := shadowOf s
  let period := v R.CYC_PERIOD
  let sample := v R.CYC_SAMPLE_OFS
  let win := v R.CYC_IN_WINDOW
  let disp := v R.CYC_DISPATCH_OFS
  let dead := v R.CYC_OUT_DEADLINE
  let last := v R.CYC_OUT_LAST
  let app := v R.CYC_APPLY_OFS
  let whole := s.shadows.any (fun x => x.commit.isSome && x.whole)
  if ¬(250 ≤ period ∧ period ≤ 100000) then 1
  else if ¬(sample < win ∧ win < dead ∧ dead < last ∧ last < app ∧ app < period ∧ 5 ≤ disp ∧ disp < dead) then 2
  else if dead < win + 50 then 3
  else if !(List.range 24).all (fun l => decide (s.linkState l ≠ 4) || ruleFourAt (s.thePlan.link l) app last (dLine s l)) then 4
  else if !admits s ⟨s.fld F.CYC_ADM_CAP_PCT, dead - win⟩ whole (pendingPlan s) then 5
  else if period < app + 20 then 6
  else if s.fld F.CYC_CTRL_SYNC_SRC = 2 ∧ 1000000 % period ≠ 0 then 7
  else 0

/-- A committed timing set is judged and taken, or refused (R50, R51). -/
def judgeTiming (s : State) : State :=
  if !s.flag F.CYC_CTRL_COMMIT then s
  else
    let code := timingCode s
    let s1 := (s.setFld F.CYC_CTRL_COMMIT 0).setFld F.CYC_STATUS_CFG_PEND 0
    let s2 := if code = 0 then timingRegs.foldl (fun t a => t.setFld ⟨a, 0, 17⟩ (shadowOf s a)) s1
      else cycEvent ((s1.setFld F.CYC_STATUS_CFG_ERR 1).setFld F.CYC_STATUS_CFG_ERR_CODE code) 2
    { s2 with cyc := { s2.cyc with shadow := [] } }

/-- The effect of `CYC_CTRL.COMMIT` (R50, R568). -/
def submitTiming (s : State) : State :=
  let s1 := (s.setFld F.CYC_CTRL_COMMIT 1).setFld F.CYC_STATUS_CFG_PEND 1
  if s1.cycEn then s1 else healthTell (recomputeCaps (judgeTiming s1))

/-- TIMING_SET_COMMIT (R50). -/
def execTimingSetCommit (s : State) : Outcome := atReg s R.CYC_CTRL (s.reg R.CYC_CTRL ||| 2) (submitTiming s)

/-! ### The boundary (R19 to R21) -/

/-- Values written to `CYC_PHASE` and `CYC_ADM_CAP` take effect. -/
def takeSettings (s : State) : State :=
  let s1 := match s.cyc.phaseNew with | some v => s.setFld F.CYC_PHASE_US v | none => s
  let s2 := match s1.cyc.pctNew with | some v => s1.setFld F.CYC_ADM_CAP_PCT v | none => s1
  { s2 with cyc := { s2.cyc with phaseNew := none, pctNew := none } }

/-- The partitions of the plan in force. -/
def planParts (s : State) : List Nat := (List.range 64).filter (fun p => (s.thePlan.part p).present)

/-- Step 2 of R20: the clocks, the timing set, the shadows. DESIGN CHOICE: a written PCT and STEP take effect before the committed
timing set is judged, so that rule 5 of R51 uses both (R50; log entry 201). -/
def boundaryStep2 (s : State) : State :=
  applyShadows (judgeTiming (stepsAtBoundary (takeSettings (clocksAtBoundary (limFlush s)))))

/-- Step 3 of R20, with the settings of the dispatcher, the wind-up of background blocks under the limit now in force, and the
blocks released from quarantine (R146, R153, R161, R165, R168, R171). -/
def boundaryStep3 (s : State) : State :=
  let s1 := writeGens (rolesAll s)
  let s0 := dprTake s1
  let s2 := if s0.cyc.inCycle then windupAll s0 else s0
  let s3 := releaseQuar s2 s2.dpr.quarRel
  recomputeCaps { s3 with dpr := { s3.dpr with quarRel := [] } }

/-- At step 4 of the takeover boundary: each partition enters the mode last shown, and the device enters or stays in SERVICE as
last shown (R497; log entry 74). -/
def takenModes (s : State) : State :=
  match s.twl.peer with
  | some b =>
    let s1 := eachNat (fun t p => if (t.thePlan.part p).present then enterMode t p (b.track.testBit p) else t) s (List.range 64)
    let s2 := (s1.setReg R.CYC_TRACK_LO (word b.track)).setReg R.CYC_TRACK_HI (word (b.track / 2 ^ 32))
    if b.service && !s2.service then postEvent (s2.setFld F.CYC_STATUS_SERVICE 1) 0 8 [2] else s2
  | none => s

/-- The partitions of a standby hold the modes that the primary showed last, whatever is asked of it (R488; log entry 74). -/
def standbyModes (s : State) : State :=
  match s.standby, s.twl.peer with
  | true, some b => (s.setReg R.CYC_TRACK_LO (word b.track)).setReg R.CYC_TRACK_HI (word (b.track / 2 ^ 32))
  | _, _ => s

/-- Step 4 of R20; at a takeover the modes last shown by the partner come first (R497). -/
def boundaryStep4 (taken : Bool) (gone auto : List Nat) (s : State) : State :=
  standbyModes (modesAtBoundary (if taken then takenModes s else s) gone auto)

/-- A standby judges the plans again that a boundary has left in force (R493). -/
def pairPlans (s : State) : State := if s.standby then twlJudge s else s

/-- A boundary from its latch instant to its SOC: the latched requests in the order of R20. -/
def boundary (s : State) : State :=
  let pair := pairAtLatch (vecsAtLatch s 128)
  let s0 := snapBoundary (turnSeen pair.2)
  let auto := s0.cyc.autoRun
  let was := planParts s0
  let s2 := boundaryStep2 s0
  let gone := was.filter (fun p => !(s2.thePlan.part p).present)
  let s4 := deratesAtBoundary (s0.clk.stepNew.map Prod.fst) (boundaryStep4 pair.1 gone auto (boundaryStep3 s2))
  let s5 := writesAtBoundary (cfgBoundary (recomputeCaps s4))
  let s6 := pairPlans (healthTell (trendsAtBoundary s5))
  { s6 with cyc := { s6.cyc with house := false } }

/-- BOUNDARY_LATCH (R19, R20). While EN is 0 no boundary occurs (R568); nor during a save, whose cycles go on with what is in
force (R368). -/
def execBoundaryLatch (s : State) : Outcome :=
  if s.cycEn && !s.cycHalted && !s.saving then .next (boundary s) else .next s

/-! ### The SOC (R48, R72, R78, R147, R190, R191, R221) -/

/-- A station of a link's table at the SOC (R190, R191, R262 to R265). -/
def stnAtSoc (l : Nat) (s : State) (st : Nat) : State :=
  let y := s.stn l st
  let s1 := s.setStn l st { y with inNow := false, inAny := false, exCyc := 0, fell := false, pollCnt := min 255 (y.pollCnt + 1) }
  let s2 := if y.state = 2 ∧ y.step = 6 then stnEnterRun s1 l st else s1
  if s2.stnRun l st then s2 else markLink s2 l st y.fell

/-- A link at the SOC: its OUT frames of the cycle are still to come. -/
def linkAtSoc (s : State) (l : Nat) : State :=
  let s1 := s.setLnk l { s.lnk l with outs := [], idCyc := 0 }
  eachNat (stnAtSoc l) s1 (s1.stnList l)

/-- Links and stations whose IN frames some block waits for, as 32 × link + station. -/
def waitedFor (s : State) : List Nat :=
  s.thePlan.blocks.foldl (fun a e => e.2.deps.foldl (fun b d => match d with | .frame l st => addTo b (32 * l + st) | .pred _ => b) a) []

/-- SERVICE: at each SOC every output-bound slot takes its safe value (R191). -/
def safeAtSoc (s : State) : State :=
  if s.service then eachNat slotSafe s ((s.thePlan.binds.filter (fun e => decide (e.2.kind = 2))).map Prod.fst) else s

/-- Timers that count SOCs, and those that wait for one to start (R528). -/
def timersAtSoc (s : State) : State :=
  let s1 := eachNat (fun t k =>
    if t.fld (F.TMR_CTRL_SRC k) = 2 then tmrCount t k else t) s (List.range 8)
  let l := s1.per.tmrs.map (fun e => if e.2.waitSoc then (e.1, { e.2 with waitSoc := false, running := true }) else e)
  { s1 with per := { s1.per with tmrs := l } }

/-- The cycle's own state at an SOC with number `n`. -/
def cycAtSoc (s : State) (n : Nat) (first : Bool) : State :=
  let s1 := (s.setReg R.CYC_CYCNUM (word n)).setFld F.CYC_STATUS_RUNNING (if s.standby then 0 else 1)
  let s2 := (s1.setReg R.CYC_SOC_TB_LO (word s.tb)).setReg R.CYC_SOC_TB_HI (word (s.tb / 2 ^ 32))
  { s2 with cyc := { s2.cyc with
      first := first, firstDue := false, inCycle := true, cutoff := false, deadline := false, house := false,
      inRefreshed := [], socCount := s.cyc.socCount + 1, lastSocTb := s.tb, skip := 0,
      cycOut := s.flag F.CYC_CTRL_CYCOUT_EN && decide (s.fld F.CYC_CTRL_CYCOUT_W ≠ 0) } }

/-- The SOC block leaves the links (R48, R221, R259); a standby sends none (R488). -/
def sendSoc (s : State) : State := if s.standby then s else sendBlock s (socBlock s)

/-- A new cycle opens. -/
def openSoc (s : State) (n : Nat) (first : Bool) : State :=
  let s1 := eachNat linkAtSoc (sendSoc (cycAtSoc s n first)) (List.range 24)
  let s2 := safeAtSoc (timersAtSoc (loadCounts s1))
  let out := (waitedFor s2).filter (fun k => !(s2.stnRun (k / 32) (k % 32) && decide (s2.linkState (k / 32) = 4)))
  let s3 := { s2 with cyc := { s2.cyc with outAtSoc := out } }
  let s4 := trcEmit (cycEvent s3 0) 6 (pktCycle s3 n (blockFlags s3 false (decide (s3.fld F.CYC_SAMPLE_OFS_US = 0))))
  sendLinkstates (sendHeartbeat s4)

/-- The cycle in progress ends and no SOC follows it (R78). -/
def endCycle (s : State) : State :=
  let s1 := s.setFld F.CYC_STATUS_RUNNING 0
  { s1 with cyc := { s1.cyc with inCycle := false } }

/-- SOC (R48): the end of the cycle in progress, and the SOC of the next one while EN is 1 and no first cycle is due. -/
def execSoc (s : State) : Outcome :=
  if s.cycHalted || !s.cyc.inCycle then .next s
  else if !s.cycEn || s.cyc.firstDue then .next (endCycle s)
  else .next (openSoc s (((s.reg R.CYC_CYCNUM).toNat + 1 + s.cyc.skip) % 2 ^ 32) false)

/-- FIRST_SOC (R78): the number that `CYC_CYCNUM` holds, FIRST = 1. -/
def execFirstSoc (s : State) : Outcome :=
  if s.cycEn && s.cyc.firstDue && !s.cycHalted then .next (openSoc (endCycle s) (s.reg R.CYC_CYCNUM).toNat true) else .next s

/-! ### The events of the cycle -/

/-- The cycle is in progress and not halted. -/
def State.cycling (s : State) : Bool := s.cyc.inCycle && !s.cycHalted

/-- SAMPLE_MARK (R221): the mark follows the block that opened the cycle. -/
def execSampleMark (s : State) : Outcome :=
  match s.cyc.block with
  | some b => if s.cycling && !s.standby && s.fld F.CYC_SAMPLE_OFS_US != 0 then .next (sendBlock s (markBlock s b)) else .next s
  | none => .next s

/-- One IN-frame dependency is released: the slots are marked, the trigger list is walked (R53, R147, R190). -/
def releaseDep (s : State) (k : Nat) : List Nat × State :=
  if has s.dpr.framesSat k then ([], s) else walkFrame (markStale s (k / 32) (k % 32)) (k / 32) (k % 32)

/-- Several are released in one instant: the blocks that become ready, and the state. -/
def releaseEach (s : State) : List Nat → List Nat × State
  | [] => ([], s)
  | k :: l =>
    let r := releaseDep s k
    let q := releaseEach r.2 l
    (r.1 ++ q.1, q.2)

/-- The blocks that become ready by it are offered in key order (R149). -/
def releaseDeps (s : State) (l : List Nat) : State :=
  let r := releaseEach s l
  makeReady r.2 r.1

/-- A free span begins: what waits for it on each link goes out (R235, R258, R263, R266). -/
def spanBegins (s : State) : State := eachNat pumpLink s (List.range 24)

/-- DISPATCH_START (R152, R263, R265, R488). -/
def execDispatchStart (s : State) : Outcome :=
  if s.cycling && !s.cyc.deadline && !s.standby && !s.saving && !s.dpr.open' then
    .next (spanBegins (openQueues (releaseDeps (limFlush s) s.cyc.outAtSoc)))
  else .next s

/-- A station in RUN with inputs and no good IN frame of the cycle is missed (R264). -/
def cutoffStn (l : Nat) (s : State) (st : Nat) : State :=
  match s.thePlan.station l st with
  | some c => if s.stnRun l st && !(s.stn l st).inNow && decide (c.nIn ≠ 0) then stnMiss s l st 1 else s
  | none => s

/-- The links at the cutoff: the waiting dependencies are released, then each station in RUN without a good frame is missed. -/
def cutoffLinks (s : State) : State :=
  eachNat (fun t l => eachNat (cutoffStn l) t (t.stnList l))
    (releaseDeps s (waitedFor s)) (List.range 24)

/-- INPUT_CUTOFF (R53, R235, R264). -/
def execInputCutoff (s : State) : Outcome :=
  if s.cycling && !s.cyc.cutoff then
    (let s1 := { s with cyc := { s.cyc with cutoff := true } }
     if s.standby then .next s1 else if s.saving then .next (spanBegins s1) else .next (spanBegins (cutoffLinks s1)))
  else .next s

/-- During a save every commit group of a RUN partition holds, without misses or events (R368). -/
def closeSaving (s : State) : State :=
  let s1 := eachNat closeGroup s (s.thePlan.groups.map Prod.fst)
  { markLate s1 64 with dpr := { (markLate s1 64).dpr with open' := false, runs := [] } }

/-- Every group has resolved: the links whose OUT frames have not begun begin them (R65). -/
def beginRest (s : State) : State :=
  eachNat (fun t l =>
    if has t.dpr.outBegun l then t
    else outFrames { t with dpr := { t.dpr with outBegun := addTo t.dpr.outBegun l } } l) s (List.range 24)

/-- The cycle closes as at its OUT deadline (R61 to R65, R187, R492). -/
def closeCycle (s : State) : State :=
  let s1 := if s.saving then closeSaving s else closeCompute (snapBegin s)
  let s2 := beginRest { s1 with cyc := { s1.cyc with deadline := true } }
  spanBegins (setAtDeadline s2)

/-- OUT_DEADLINE (R63). A standby dispatches nothing and counts no miss (R488). -/
def execOutDeadline (s : State) : Outcome :=
  if s.cycling && !s.cyc.deadline then
    (if s.standby then .next { s with cyc := { s.cyc with deadline := true } } else .next (closeCycle s))
  else .next s

/-- SNAPSHOT_COPY_END (R187, R492). -/
def execSnapshotCopyEnd (s : State) : Outcome :=
  let s1 := snapEnd s
  if s1.twl.setDue && !s1.flag F.DPR_SNAP_STATUS_BUSY then .next (beginSet s1) else .next s1

/-- APPLY_INSTANT (R47, R301, R302, R492): the values committed or held are the last applied ones; housekeeping begins. -/
def execApplyInstant (s : State) : Outcome :=
  if s.cycling && s.cyc.deadline && !s.cyc.house then
    (let s1 := { s with cyc := { s.cyc with house := true }, agm := { s.agm with probed := [] } }
     if s1.saving then .next s1 else .next (setAtApply (trendsAtApply (readsAtApply s1))))
  else .next s

/-! ### Synchronisation (R75, R76, R488) -/

/-- The reference in use. -/
def syncSrc (s : State) : Nat := if s.standby then 3 else s.fld F.CYC_CTRL_SYNC_SRC

def hasReference (s : State) : Bool := decide (1 ≤ syncSrc s ∧ syncSrc s ≤ 3)

/-- REFERENCE_EDGE (R76): the measured error in TB counts. -/
def execReferenceEdge (err : Word) (s : State) : Outcome :=
  if hasReference s && s.cyc.inCycle then
    .next ((s.setReg R.CYC_SYNC_ERR err).setFld F.CYC_STATUS_SYNC_LOCK (if -10 ≤ err.toInt ∧ err.toInt ≤ 10 then 1 else 0))
  else .next s

/-- REFERENCE_LOSS (R76). -/
def execReferenceLoss (s : State) : Outcome :=
  if hasReference s && s.cyc.inCycle then .next (cycEvent (s.setFld F.CYC_STATUS_SYNC_LOCK 0) 3) else .next s

/-! ### Start and stop (R78) -/

/-- EN goes from 0 to 1. -/
def cycEnable (s : State) : State :=
  if s.cycEn then s
  else
    let s1 := s.setFld F.CYC_CTRL_EN 1
    { s1 with
      nvr := { s1.nvr with enSeen := true }
      cfg := { s1.cfg with first := true }
      cyc := { s1.cyc with firstDue := true } }

/-- EN goes to 0: a derate that is pending then is applied at once (R473). -/
def cycDisable (s : State) : State :=
  let s1 := s.setFld F.CYC_CTRL_EN 0
  let s2 := eachNat (fun t c => if marginState t c = .pend then recomputeCaps (applyDerate t c) else t) s1 (List.range 4)
  { s2 with cyc := { s2.cyc with firstDue := false }, cfg := { s2.cfg with first := false } }

/-- CYCLE_ENABLE (R78). -/
def execCycleEnable (s : State) : Outcome := atReg s R.CYC_CTRL (s.reg R.CYC_CTRL ||| 1) (cycEnable s)

/-- CYCLE_DISABLE (R78). -/
def execCycleDisable (s : State) : Outcome := atReg s R.CYC_CTRL (s.reg R.CYC_CTRL &&& 0xFFFFFFFE) (cycDisable s)

/-- A write of `CYC_CTRL` (R79). Log entry 173: EN and COMMIT set together are judged as with EN still 0 (R568), and SYNC_LOCK
stays as it is where SYNC_SRC becomes 0 (R76). -/
def cycCtrlWrite (s : State) (v : Word) : State :=
  let f (x : Fld) (t : State) : State := t.setFld x (x.of v)
  let s1 := f F.CYC_CTRL_CYCOUT_EN (f F.CYC_CTRL_SYNC_SRC (f F.CYC_CTRL_CYCOUT_W s))
  let s2 := if v.toNat.testBit 0 then s1 else cycDisable s1
  let s3 := if v.toNat.testBit 1 then submitTiming s2 else s2
  if v.toNat.testBit 0 then cycEnable s3 else s3

/-- After a debug halt (R538): the interrupted cycle closes as at its OUT deadline, and the next SOC is the first instant of
its raster that lies at least 100 µs after the resume. -/
def resumeCycle (s : State) : State :=
  if !s.cyc.inCycle then s
  else
    resumeRaster
      (if s.cyc.deadline then s else if s.standby then { s with cyc := { s.cyc with deadline := true } } else closeCycle s)

/-! ### Mode requests and other registers (R74, R79) -/

/-- CYC_MODE_REQ (R74): firmware posts a request with a tag. -/
def execCycModeReq (mode : Fin 4) (part : Fin 64) (tag : BitVec 16) (s : State) : Outcome :=
  atReg s R.CYC_MODE_REQ (word (tag.toNat * 65536 + mode.val * 256 + part.val)) (postMode s ⟨mode.val, part.val, tag.toNat, .regs⟩)

/-- The effect of `CYC_CNT_CLR` (R79, R351). -/
def cycCntClr (s : State) : State :=
  let s1 := s.resetRegs (fun a => a == R.CYC_MISS_TOTAL || a == R.CYC_LSE_INVAL || a == R.CYC_SPLIT_CNT || a == R.CYC_CFG_SKIP)
  { s1 with dpr := { s1.dpr with pmiss := [] } }

/-- CYC_CNT_CLR (R79). -/
def execCycCntClr (s : State) : Outcome := atReg s R.CYC_CNT_CLR 1 (cycCntClr s)

/-- Reading `CYC_SOC_TB_LO` latches the high word until it is read. -/
def socTbLoRead (s : State) : State :=
  { s with cyc := { s.cyc with hiLatch := some (s.reg R.CYC_SOC_TB_HI).toNat } }

/-- CYC_SOC_TB_LO_READ (R79). -/
def execCycSocTbLoRead (s : State) : Outcome :=
  atRead s R.CYC_SOC_TB_LO (s.reg R.CYC_SOC_TB_LO, socTbLoRead s)

/-- CYC registers that are views; `none`: a plain one. -/
def cycRead (s : State) (a : Nat) : Option Word :=
  if a = R.CYC_SOC_TB_HI then s.cyc.hiLatch.map word
  else if a = R.CYC_PMISS_CNT then some (word (SMap.get (fun _ => 0) s.dpr.pmiss (s.fld F.CYC_PMISS_SEL_PART)))
  else
    match (List.range 4).find? (fun c => decide (a = R.CYC_ADM_USEDC c)) with
    | some c => some (word (costs (s.thePlan.pick (fun b => decide (b.home = c)))))
    | none => none

/-- What reading a CYC register changes. -/
def cycReadEffect (s : State) (a : Nat) : State :=
  if a = R.CYC_SOC_TB_LO then socTbLoRead s
  else if a = R.CYC_SOC_TB_HI then { s with cyc := { s.cyc with hiLatch := none } }
  else s

end Sys2Proof.Machine
end

