-- ==== Sys2Proof/Machine/Dbg.lean ====
section
/-! DEFINITION. The TAP, comparators, strings, halt and resume, and the trace commands (R531 to R545). -/

namespace Sys2Proof.Machine

/-- A write of the DBG/CTI or TRC block is served: the MC's, or the debug port's at level 2 (R533, R544). -/
def dbgWrites (s : State) (w : Writer) : Bool :=
  match w with
  | .mc => true
  | .sp | .host _ => false
  | .dbg => decide (debugLevel s = 2)

/-! ### Halt and resume -/

/-- RESUME (R538): the members, the periphery, then the interrupted cycle. While EXTEST stays selected its own halt holds
(R539). -/
def debugResume (s : State) : State :=
  if !s.dbgHalted then s
  else if s.dbg.extest.isSome then { s with dbg := { s.dbg with extest := some 0 } }
  else resumeCycle (haltRelease s)

/-- EXTEST gives way to another instruction (R539): its halt ends, and members that a string halted stay halted. -/
def endExtest (s : State) : State :=
  match s.dbg.extest with
  | none => s
  | some m =>
    let s1 := { s with dbg := { s.dbg with extest := none } }
    if m = 0 then debugResume s1
    else (haltMembers (haltMembers s1 63 false 6) m true 6).setFld F.DBG_HALT_STAT_MEMBERS m

/-- The TAP selects an instruction (R531). -/
def selectTap (s : State) (code : Nat) : State :=
  let s1 := if code = 0 then s else endExtest s
  { s1 with dbg := { s1.dbg with tap := code } }

/-- What an instruction code acts as: one not listed, or one whose requirement is not met, is BYPASS (R531). -/
def tapActs (s : State) (code : Nat) : Nat :=
  if code = 1 ∨ code = 9 then code
  else if (code = 0 ∨ code = 2) ∧ debugLevel s = 2 then code
  else if code = 8 ∧ 1 ≤ debugLevel s then code
  else 0x1F

/-- EXTEST is selected: a halt of every member (R539). -/
def startExtest (s : State) : State :=
  if s.dbg.extest.isSome then s
  else
    let before := if s.dbgHalted then s.fld F.DBG_HALT_STAT_MEMBERS else 0
    let s1 := haltAll (selectTap s 0) 63 (s.fld F.DBG_HALT_STAT_STRING)
    { s1 with dbg := { s1.dbg with extest := some before } }

/-- The instruction register takes a code (R531). -/
def tapSelect (s : State) (code : Nat) : State :=
  if tapActs s code = 0 then startExtest s else selectTap s (tapActs s code)

/-- EXTEST (R531, R539): code 0. -/
def execExtest (s : State) : Outcome := .next (tapSelect s 0)

/-- The level of the single-ended ball of a boundary cell (R10, R557, R564): pin i of port p at cell 16p + i, then the other balls in the
order of log entry 166. A level that the state does not hold is a bit of the free value `v`. -/
def ballLevel (s : State) (v k : Nat) : Bool :=
  match cellDrive s k with
  | some b => b
  | none =>
    if k < 48 then (pinLevels s (k / 16)).toNat.testBit (k % 16)
    else match k with
      | 49 => !s.pmu.wakeN
      | 63 => if s.flag F.SPM_BOOT_STAT_RELEASED then v.testBit k else !s.rst.rstOut
      | 73 => !s.flag F.BKD_STATUS_REQ
      | 76 => !s.rst.rstOut
      | 77 => s.mcr.lsStat &&& 0xC0000000 == 0
      | 83 => s.cyc.cycOut
      | _ => v.testBit k

/-- Cells of the boundary register. -/
def cellCount : Nat := 88

/-- A shift of the boundary register ends at Update-DR: PRELOAD and EXTEST take the cells (R10, R531). -/
def updateCells (s : State) (d : HostData) : State :=
  match s.dbg.tap, d with
  | 0, .bytes l | 2, .bytes l => if l = [] then s else { s with dbg := { s.dbg with cells := leNat l % 2 ^ cellCount } }
  | _, _ => s

/-- The data register of the instruction in force, as Capture-DR loads it: its length and its bits (R531, R533). -/
def tapData (s : State) : Nat × Nat :=
  match s.dbg.tap with
  | 1 => (32, s.fld F.SYS_REV_MAJOR % 16 * 2 ^ 28 + 0x6400 * 2 ^ 12 + Config.jedecCode % 2 ^ 11 * 2 + 1)
  | 0 | 2 => (cellCount, ((List.range cellCount).map (fun k => if ballLevel s s.draw.1 k then 2 ^ k else 0)).sum)
  | 8 => (68, s.dbg.dpStatus * 2 ^ 66 + s.dbg.dpAddr % 2 ^ 32 * 2 ^ 32 + s.dbg.dpData.toNat)
  | 9 => (1032, s.dbg.unlockStatus + 256 * leNat s.boot.issued)
  | _ => (1, 0)

/-- DEBUG_RESUME (R538): by the debug port or a running MC. -/
def execDebugResume (w : Writer) (s : State) : Outcome :=
  if dbgWrites s w && !(w == .mc && s.mc.k.halted) then .next (debugResume s) else .next s

/-! ### UNLOCK (R412, R413, R532) -/

def setUnlockStat (s : State) (st : Nat) : State := { s with dbg := { s.dbg with unlockStatus := st } }

/-- UNLOCK: CMD 1 and 2 ask for a challenge, CMD 3 submits a response; other values have no effect (R532). -/
def execUnlock (cmd : BitVec 8) (payload : List Byte) (s : State) : Outcome :=
  let s1 := selectTap s 9
  if cmd = 1 ∨ cmd = 2 then
    .next (entAsk (setUnlockStat { s1 with dbg := { s1.dbg with want := cmd.toNat } } St.busy) .unlock)
  else if cmd = 3 then
    (let r := judgeResponse s1 (padTo (payload.take 128) 128)
     .next (setUnlockStat r.2 r.1))
  else .next s1

/-! ### Strings -/

/-- STRING_PULSE (R536): one string by `DBG_STR_SW`. -/
def execStringPulse (w : Writer) (k : Fin 8) (s : State) : Outcome :=
  if dbgWrites s w then .next (stringPulse s k.val) else .next s

/-- Every string of a `DBG_STR_SW` mask, lowest first. -/
def stringPulses (s : State) (mask : Nat) : State := eachNat stringPulse s (bitsBelow mask 8)

/-- A write of `DBG_STRk_OUT` (R536, R544): the debug port's lets the string halt the SP. -/
def strOutWrite (s : State) (w : Writer) (k : Nat) (v : Word) : State :=
  let s1 := plainReg s (R.DBG_STR_OUT k) v
  { s1 with dbg := { s1.dbg with spStrings := putIn s1.dbg.spStrings k (w == .dbg) } }

/-! ### Comparators (R534, R544) -/

/-- The processor and the comparator that `DBG_CMP_SEL` selects, where the processor has it. -/
def cmpSel (s : State) : Option (ProcId × Nat) :=
  let c := s.fld F.DBG_CMP_SEL_CPU
  let k := s.fld F.DBG_CMP_SEL_CMP
  if h : c < 64 then (if k < 4 then some (.le ⟨c, h⟩, k) else none)
  else if c = 64 then some (.mc, k)
  else if c = 65 ∧ k < 2 then some (.sp, k)
  else none

/-- The three registers of the selected comparator; 0 where the processor lacks it. -/
def cmpRead (s : State) (a : Nat) : Word :=
  match cmpSel s with
  | none => 0
  | some (p, k) =>
    let c := SMap.get (fun _ => {}) (s.cpu p).k.cmps k
    if a = R.DBG_CMP_CTRL then c.ctrl else if a = R.DBG_CMP_VAL then c.val else c.mask

/-- A write of one of them; the SP's are written by the debug port only (R544). -/
def cmpWrite (s : State) (w : Writer) (a : Nat) (v : Word) : State :=
  match cmpSel s with
  | none => s
  | some (p, k) =>
    if p == .sp && w != .dbg then s
    else
      let c := SMap.get (fun _ => {}) (s.cpu p).k.cmps k
      let c1 :=
        if a = R.DBG_CMP_CTRL then { c with ctrl := v &&& 0xBF870717 }
        else if a = R.DBG_CMP_VAL then { c with val := v }
        else { c with mask := v }
      s.updK p (fun x => { x with cmps := SMap.set (fun _ => {}) x.cmps k c1 })

/-- DBG_CMP_WRITE (R535, R544): `DBG_CMP_CTRL`, `DBG_CMP_VAL` or `DBG_CMP_MASK` of the selected comparator. -/
def execDbgCmpWrite (w : Writer) (which : Fin 3) (v : Word) (s : State) : Outcome :=
  if dbgWrites s w then .next (cmpWrite s w (R.DBG_CMP_CTRL + 4 * which.val) v) else .next s

/-! ### Trace -/

/-- A write of `TRC_CTRL` (R542, R545): EN from 0 to 1 starts trace, with the fields written. -/
def trcCtrlWrite (s : State) (v : Word) : State :=
  let start := !s.flag F.TRC_CTRL_EN && v.toNat.testBit 0
  let s1 := plainReg s R.TRC_CTRL v
  if start then trcStart (s1.setFld F.TRC_CTRL_EN 0) else s1

/-- TRC_SW (R541). -/
def execTrcSw (w : Writer) (v : Word) (s : State) : Outcome :=
  if dbgWrites s w then .next (trcEmit s 4 (pktSw s v)) else .next s

/-- TRACE_START (R542): a write of 1 to `TRC_CTRL.EN`. -/
def execTraceStart (w : Writer) (s : State) : Outcome :=
  if dbgWrites s w then .next (trcStart s) else .next s

/-- TRACE_BUFFER_END (R543, R545): source 240, the pulse of FSTR, and the stop or the wrap. -/
def execTraceBufferEnd (s : State) : Outcome :=
  if !s.trc.atEnd then .next s
  else
    let s1 := { s with trc := { s.trc with atEnd := false } }
    let s2 := if s1.flag F.TRC_CTRL_STOPFULL then s1.setFld F.TRC_STAT_FULL 1 else s1.setFld F.TRC_STAT_WRAPPED 1
    let s3 := dbgEvent s2 8
    .next (if s3.flag F.TRC_CTRL_FSEN then stringPulse s3 (s3.fld F.TRC_CTRL_FSTR) else s3)

/-! ### Registers -/

/-- DBG registers whose value is computed. -/
def dbgRead (s : State) (a : Nat) : Option Word :=
  if a = R.DBG_STATUS then some (F.DBG_STATUS_LEVEL.put (s.reg a) (debugLevel s))
  else if a = R.DBG_CMP_CTRL ∨ a = R.DBG_CMP_VAL ∨ a = R.DBG_CMP_MASK then some (cmpRead s a)
  else none

/-- A write of the DBG/CTI block at an address (R544). -/
def dbgWrite (s : State) (w : Writer) (a : Nat) (v : Word) : State :=
  if a = R.DBG_CTRL then
    (let s1 := if v.toNat.testBit 0 then debugResume s else s
     if v.toNat.testBit 1 && decide (v.toNat / 65536 = 0x4452) && decide (debugLevel s1 = 2) then resetEntry s1 7 2 else s1)
  else if a = R.DBG_STR_SW then stringPulses s (v.toNat % 256)
  else if a = R.DBG_CMP_CTRL ∨ a = R.DBG_CMP_VAL ∨ a = R.DBG_CMP_MASK then cmpWrite s w a v
  else match (List.range 8).find? (fun k => decide (a = R.DBG_STR_OUT k)) with
    | some k => strOutWrite s w k v
    | none => plainReg s a v

/-- A write of the TRC block (R545). -/
def trcWrite (s : State) (a : Nat) (v : Word) : State :=
  if a = R.TRC_CTRL then trcCtrlWrite s v
  else if a = R.TRC_SW then trcEmit s 4 (pktSw s v)
  else plainReg s a v

end Sys2Proof.Machine
end

