-- ==== Sys2Proof/Machine/Host.lean ====
section
/-! DEFINITION. The Host Interface: windows, rings, doorbells, the descriptor fetch, delivery of events and messages, commands
served by firmware, and the resets of the interface (R283 to R298, R304, R306). -/

namespace Sys2Proof.Machine

/-! ### Rings (R292 to R294) -/

/-- A ring error is recorded: DEV_EVT, EVC source 227 (R287, R298, R306). -/
def ringErr (s : State) (p k status : Nat) : State :=
  let s1 :=
    if s.flag F.HIF_RING_ERR_VALID then s.setFld F.HIF_RING_ERR_OVF 1
    else devEvt (s.setReg R.HIF_RING_ERR (word (2 ^ 31 + (if s.flag F.HIF_RING_ERR_OVF then 2 ^ 30 else 0) + p * 2 ^ 16 + k * 256 + status))) 0
  evcEvent s1 227

/-- Bytes of one entry of a ring. -/
def entryBytes (k : Nat) : Nat := if k = 4 then 16 else 32

def setAct (s : State) (p k : Nat) (v : Bool) : State := s.setRegBit (R.HIF_RCTRL p) (8 + k) v

/-- A write of 1 to bit `k` of `HIF_RCTRLp.EN` (R292). -/
def ringEnable (s : State) (p k : Nat) : State :=
  let s1 := s.setRegBit (R.HIF_RCTRL p) k true
  if ringAct s p k then s1
  else
    let log2 := s.fld (F.HIF_RSIZE_LOG2 p k)
    if !s.flag F.HIF_CTRL_READY || decide (log2 < 4 ∨ 12 < log2) || (decide (k < 4) && !ringAct s p 4) then ringErr s1 p k St.badDescriptor
    else if !winOk s p (decide (4 ≤ k)) (ringBase s p k) (ringSize s p k * entryBytes k) then
      ringErr (s1.countReg R.HIF_WF_CNT) p k St.windowFault
    else
      let s2 := setAct ((s1.setFld (F.HIF_RIDX_IDX p k) 0).setRing p k {}) p k true
      if k = 5 then s2.setFld (F.HIF_PSTAT_EVT_LOST p) 0 else s2

/-- RING_ENABLE (R292). -/
def execRingEnable (p : Fin 64) (k : Fin 6) (s : State) : Outcome :=
  if hifUp s then .next (ringEnable s p.val k.val) else .next s

/-- A write of 0 to bit `k` of `HIF_RCTRLp.EN` (R292). -/
def ringDisable (s : State) (p k : Nat) : State :=
  if k = 4 ∧ ringAct s p 4 = true ∧ (s.fld (F.HIF_RCTRL_ACT p) % 16 ≠ 0 ∨ s.fld (F.HIF_PSTAT_INFLIGHT p) ≠ 0) then
    ringErr s p k St.busy
  else settle (setAct (s.setRegBit (R.HIF_RCTRL p) k false) p k false)

/-- RING_DISABLE (R292). -/
def execRingDisable (p : Fin 64) (k : Fin 6) (s : State) : Outcome :=
  if hifUp s then .next (ringDisable s p.val k.val) else .next s

/-- One bit of a write of `HIF_RCTRLp`. -/
def ringBit (p v : Nat) (s : State) (k : Nat) : State := if v.testBit k then ringEnable s p k else
  if s.regBit (R.HIF_RCTRL p) k then ringDisable s p k else s

/-- A write of `HIF_RCTRLp`: command rings that are cleared go first, then the completion ring and the event ring, then command
rings that are set. -/
def rctrlWrite (s : State) (p : Nat) (v : Word) : State :=
  let n := v.toNat
  [0, 1, 2, 3].foldl (fun t k => if n.testBit k then ringBit p n t k else t)
    ([4, 5].foldl (ringBit p n) ([0, 1, 2, 3].foldl (fun t k => if n.testBit k then t else ringBit p n t k) s))

/-- A 32-bit write to offset 0 of doorbell page `p` (R293). -/
def ringDoorbell (s : State) (p : Nat) (v : Word) : State :=
  let k := v.toNat % 16
  let i := v.toNat / 65536
  let s1 := aonEvent s 16
  if 6 ≤ k ∨ ringAct s p k = false ∨ ringSize s p k ≤ i then s1.countReg R.HIF_BADACC
  else settle (s1.setRing p k { s1.ring p k with hostIdx := i })

/-- DOORBELL (R293). -/
def execDoorbell (p : Fin 64) (v : Word) (s : State) : Outcome :=
  if hifUp s then .next (ringDoorbell s p.val v) else .next s

/-! ### Windows (R289) -/

/-- An enabled ring of the partition lies in the window. -/
def ringInside (s : State) (p w : Nat) : Bool :=
  (List.range 6).any (fun k => ringAct s p k && meets (ringBase s p k) (ringSize s p k * entryBytes k) (winBase s p w) (winSize s p w))

/-- A write of `HIF_WCTRLp_w` (R289). -/
def windowWrite (s : State) (p w : Nat) (v : Word) : State :=
  let a := R.HIF_WCTRL p w
  let log2 := v.toNat % 32
  let rights (t : State) : State :=
    (t.setFld (F.HIF_WCTRL_WR p w) (v.toNat / 128)).setFld (F.HIF_WCTRL_RD p w) (v.toNat / 64)
  if s.flag (F.HIF_WCTRL_VALID p w) then
    if v.toNat.testBit 31 then (if has s.hif.clearing (16 * p + w) then s else rights s)
    else if ringInside s p w then s
    else { s.setFld (F.HIF_WCTRL_BUSY p w) 1 with hif := { s.hif with clearing := addTo s.hif.clearing (16 * p + w) } }
  else
    let s1 := rights (s.setFld (F.HIF_WCTRL_LOG2 p w) log2)
    if v.toNat.testBit 31 ∧ 12 ≤ log2 ∧ log2 ≤ 24 ∧ winBase s p w % 2 ^ log2 = 0 then s1.setRegBit a 31 true else s1

/-- WINDOW_VALID (R289). -/
def execWindowValid (p : Fin 64) (w : Fin 16) (v : Word) (s : State) : Outcome :=
  if hifUp s then .next (windowWrite s p.val w.val v) else .next s

/-- A request of the partition has a checked transfer in a window that has not completed; the bytes of a staged part of a write
have been read. -/
def transferIn (s : State) (p w : Nat) : Bool :=
  s.hif.reqs.any (fun r => decide (r.part = p) && r.parts.any (fun q =>
    !(decide (r.kind = .write) && q.staged) && meets q.host (if r.kind = .slots then 8 * r.count else q.len) (winBase s p w) (2 ^ s.fld (F.HIF_WCTRL_LOG2 p w))))

/-- WINDOW_CLEAR_END (R289): the transfers checked before have completed. -/
def execWindowClearEnd (p : Fin 64) (w : Fin 16) (s : State) : Outcome :=
  let k := 16 * p.val + w.val
  if has s.hif.clearing k && !transferIn s p.val w.val then
    .next { (s.setFld (F.HIF_WCTRL_VALID p.val w.val) 0).setFld (F.HIF_WCTRL_BUSY p.val w.val) 0 with
      hif := { s.hif with clearing := dropFrom s.hif.clearing k } }
  else .next s

/-! ### Events and messages (R296 to R298) -/

/-- EVENT_DELIVERY (R297): a partition's oldest event goes to its event ring; the area is frozen during a save (R368). -/
def execEventDelivery (p : Fin 64) (s : State) : Outcome :=
  if !ringRuns s || s.saving || s.pfstop || (s.flag F.SPM_BOOT_STAT_RAGDOLL && p.val != 0) || !ringRoom s p.val 5 then .next s
  else
    match s.hif.evts.find? (fun e => decide (e.part = p.val)) with
    | none => .next s
    | some e =>
      let s1 := ringPut { s with hif := { s.hif with evts := s.hif.evts.erase e } } p.val 5 (evBytes e) 0
      .next (settle (eachNat postOverflow (vecEntry s1 (2 * p.val + 1) e.urgent) everyPart))

/-- MSIX_MESSAGE (R298): the moderation timer of a vector reaches TIME, which is not 0. -/
def execMsixMessage (v : Fin 128) (s : State) : Outcome :=
  if hifUp s && (s.vec v.val).timer && s.fld ⟨modReg v.val, 8, 10⟩ != 0 then .next (sendVector s v.val) else .next s

/-- A pending vector that is masked neither by itself nor by the function sends its message. -/
def sendPending (s : State) (v : Nat) : State :=
  let x := s.vec v
  if x.pba && !x.masked && !s.hif.funcMask && !s.hif.d3 then (s.setVec v { x with pba := false }).post (.msg v x.addr x.data) else s

/-- MSIX_UNMASK (R298): the mask bit of a vector, or of the function, takes a value; an unmasked pending vector is sent. -/
def execMsixUnmask (v : Option (Fin 130)) (masked : Bool) (s : State) : Outcome :=
  if !hifUp s then .next s
  else
    match v with
    | some k => .next (sendPending (s.setVec k.val { s.vec k.val with masked := masked }) k.val)
    | none => .next (eachNat sendPending { s with hif := { s.hif with funcMask := masked } } (List.range 130))

/-! ### The descriptor fetch (R295) -/

/-- Free entries of a partition's completion ring. -/
def cplFree (s : State) (p : Nat) : Nat :=
  let n := ringSize s p 4
  n - 1 - (s.fld (F.HIF_RIDX_IDX p 4) + n - (s.ring p 4).hostIdx) % n

/-- A descriptor of a command ring may be fetched. -/
def mayFetch (s : State) (p k : Nat) : Bool :=
  let n := s.fld (F.HIF_PSTAT_INFLIGHT p)
  ringAct s p k && decide ((s.ring p k).hostIdx ≠ s.fld (F.HIF_RIDX_IDX p k)) && decide (n < 32) && decide (n + 1 ≤ cplFree s p) &&
    !(s.flag F.SPM_BOOT_STAT_RAGDOLL && p != 0)

/-- The ring that a partition's turn serves. -/
def nextRing (s : State) (p : Nat) : Option Nat :=
  let r := SMap.get (fun _ => 0) s.hif.rrRing p
  ((List.range 4).map (fun i => (r + i) % 4)).find? (fun k => mayFetch s p k)

/-- The partition and ring that the ring engine serves next. -/
def nextFetch (s : State) : Option (Nat × Nat) :=
  ((List.range 64).map (fun i => (s.hif.rrPart + i) % 64)).findSome? (fun p => (nextRing s p).map (fun k => (p, k)))

/-- A descriptor from its 32 bytes. -/
def descOf (l : List Byte) : Desc :=
  let f (o n : Nat) : Nat := leNat ((l.drop o).take n)
  ⟨l.getD 0 0, l.getD 1 0, BitVec.ofNat 16 (f 2 2), word (f 4 4), word (f 8 4), word (f 12 4), BitVec.ofNat 64 (f 16 8), word (f 24 4),
    word (f 28 4)⟩

/-- A fetched command is in progress. -/
def takeCmd (s : State) (p k : Nat) (d : Desc) : State :=
  let n := s.hif.serial
  let c : HostCmd := { serial := n, part := p, ring := k, desc := d, started := false }
  let s1 := { s with hif := { s.hif with serial := n + 1, cmds := s.hif.cmds ++ [c] } }
  fwPump (s1.setFld (F.HIF_PSTAT_INFLIGHT p) (s1.fld (F.HIF_PSTAT_INFLIGHT p) + 1))

/-- The turn passes on. -/
def turnOn (s : State) (p k : Nat) : State :=
  { s with hif := { s.hif with rrPart := (p + 1) % 64, rrRing := SMap.set (fun _ => 0) s.hif.rrRing p ((k + 1) % 4) } }

/-- DESCRIPTOR_FETCH (R295): one descriptor, as host memory delivers it. An error response ends a command of which nothing is
known (R291): its CMD_ID is a free value. -/
def execDescriptorFetch (d : HostData) (s : State) : Outcome :=
  if !ringRuns s then .next s
  else
    match nextFetch s with
    | none => .next s
    | some (p, k) =>
      let s1 := (turnOn s p k).setFld (F.HIF_RIDX_IDX p k) ((s.fld (F.HIF_RIDX_IDX p k) + 1) % ringSize s p k)
      match d with
      | .bytes l => .next (takeCmd s1 p k (descOf l))
      | .error =>
        let v := s1.draw
        let s2 := takeCmd v.2 p k { descOf [] with id := BitVec.ofNat 16 v.1 }
        .next (hostComplete s2 v.2.hif.serial { status := St.busError })

/-! ### Firmware-served commands (R304, R306) -/

/-- The record of a command that has timed out: firmware that has popped it may still write for it, so it stays in use until then
(log entry 177). -/
def orphanRecord (s : State) (serial : Nat) : State :=
  { s with hif := { s.hif with
      fwq := s.hif.fwq.filter (fun e => decide (e.2 ≠ serial))
      fwOpen := s.hif.fwOpen.map (fun e => if e.2 = serial then (e.1, s.hif.serial) else e)
      serial := s.hif.serial + 1 } }

/-- FW_COMMAND_TIMEOUT (R304). -/
def execFwCommandTimeout (serial : Nat) (s : State) : Outcome :=
  match findCmd s serial with
  | some c =>
    if opFirmware c.desc.op.toNat then .next (devEvt (hostComplete (orphanRecord s serial) serial { status := St.timeout }) 1) else .next s
  | none => .next s

/-- Reading `HIF_FWQ_POP`: the oldest pending record is open from now on; the address read, and the state. -/
def fwqPop (s : State) : Word × State :=
  match s.hif.fwq with
  | [] => (0, s)
  | e :: l => (word (fwBase s + 64 * e.1), { s with hif := { s.hif with fwq := l, fwOpen := s.hif.fwOpen ++ [e] } })

/-- HIF_FWQ_POP (R306). -/
def execHifFwqPop (s : State) : Outcome :=
  atRead s R.HIF_FWQ_POP (fwqPop s)

/-- The completion that firmware has written into a record. -/
def fwCpl (s : State) (r : Nat) : Cpl :=
  { status := s.rd (r + 0x33) 1, detail := s.rd (r + 0x36) 2, result := s.rd (r + 0x38) 4, result2 := s.rd (r + 0x3C) 2,
    applied := (s.rd (r + 0x3F) 1).testBit 1 }

/-- A record is free again. -/
def fwFreeRec (s : State) (k : Nat) : State :=
  { s with hif := { s.hif with
      fwq := s.hif.fwq.filter (fun e => decide (e.1 ≠ k)), fwOpen := s.hif.fwOpen.filter (fun e => decide (e.1 ≠ k)) } }

/-- A write of `HIF_FW_CPL` (R304): an address of no record is ignored; the record of a command that a HIF reset has cut off frees
alone. -/
def fwComplete (s : State) (a : Nat) : State :=
  match (s.hif.fwOpen ++ s.hif.fwq).find? (fun e => decide (fwBase s + 64 * e.1 = a)) with
  | some e => if (findCmd s e.2).isSome then hostComplete (fwFreeRec s e.1) e.2 (fwCpl s a) else fwPump (fwFreeRec s e.1)
  | none => s

/-- HIF_FW_CPL (R304). -/
def execHifFwCpl (a : Word) (s : State) : Outcome := atReg s R.HIF_FW_CPL a (fwComplete s a.toNat)

/-- A write of `HIF_HOST_MSG` (R298). -/
def hostMsg (s : State) (v : Word) : State := sendVector (s.setReg R.HIF_FW_MSG v) 129

/-- HIF_HOST_MSG (R298). -/
def execHifHostMsg (v : Word) (s : State) : Outcome := atReg s R.HIF_HOST_MSG v (hostMsg s v)

/-- The counters that a write clears (R287). -/
def hifCounter (a : Nat) : Bool := a == R.HIF_BADACC || a == R.HIF_CPL_CNT || a == R.HIF_WF_CNT || a == R.HIF_EVT_DROP

/-- HIF_COUNTER_CLEAR (R287): 0 BADACC, 1 CPL_CNT, 2 WF_CNT, 3 EVT_DROP. -/
def execHifCounterClear (k : Fin 4) (s : State) : Outcome :=
  atReg s (R.HIF_BADACC + 4 * k.val) 0 (s.setReg (R.HIF_BADACC + 4 * k.val) 0)

/-! ### The interface as a whole (R286, R306, R417) -/

/-- PCIE_RESET (R286, R417): PERST_N, a hot reset or a function-level reset. -/
def execPcieReset (s : State) : Outcome := .next (hifResetBy s 9)

/-- DATA_LINK_CHANGE (R286, R306): the data link goes up with the negotiated width and speed, or down; it does not train before
LTSSM_EN. -/
def execDataLinkChange (up : Bool) (width speed : Fin 4) (s : State) : Outcome :=
  if !hifUp s then .next s
  else if up then
    (if s.flag F.HIF_CTRL_LTSSM_EN then
       .next (evcEvent (s.setReg R.HIF_LINK (word (65536 + width.val * 4096 + speed.val * 256))) 225)
     else .next s)
  else .next (hifResetBy (evcEvent (s.setReg R.HIF_LINK 0) 225) 9)

/-- HIF registers that are views: `HIF_STATUS`, `HIF_FWQ_STAT` (R287, R306). -/
def hifRead (s : State) (a : Nat) : Option Word :=
  let b (x : Bool) : Nat := if x then 1 else 0
  if a = R.HIF_STATUS then
    some (word (s.fld F.HIF_LINK_WIDTH * 4096 + s.fld F.HIF_LINK_SPEED * 256 + b (healthWord s % 8 != 0) * 8 + b s.service * 4 +
      b (s.flag F.SPM_BOOT_STAT_RAGDOLL) * 2 + b (s.flag F.HIF_CTRL_READY)))
  else if a = R.HIF_FWQ_STAT then some (word (s.hif.fwOpen.length * 256 + s.hif.fwq.length))
  else none

end Sys2Proof.Machine
end

