-- ==== Sys2Proof/Machine/HostCmds.lean ====
section
/-! DEFINITION. The host commands that the ring engine and its units serve: signals, parameters, plans, modes, acyclic requests,
link status, NV areas, health and time (R270, R273, R276, R299 to R302, R360, R410, R479). -/

namespace Sys2Proof.Machine

def HostCmd.a0 (c : HostCmd) : Nat := c.desc.arg0.toNat
def HostCmd.a1 (c : HostCmd) : Nat := c.desc.arg1.toNat
def HostCmd.a2 (c : HostCmd) : Nat := c.desc.arg2.toNat
def HostCmd.a3 (c : HostCmd) : Nat := c.desc.arg3.toNat

/-- Ends the command with BAD_DESCRIPTOR unless `ok`. -/
def wellFormed (s : State) (c : HostCmd) (ok : Bool) (t : State) : State := if ok then t else endCmd s c St.badDescriptor

/-- HOST_NOP (R299). -/
def execHostNop (serial : Nat) (s : State) : Outcome :=
  .next (onHost s serial (fun o => o == 0x00) (fun c t => endCmd t c St.ok))

/-! ### Signals -/

/-- The slots of a SIG_READ or SNAPSHOT are within the SSM, and LEN fits them. -/
def slotRange (c : HostCmd) : Bool :=
  decide (1 ≤ c.a1 ∧ c.a1 ≤ 1024 ∧ c.len = 8 * c.a1 ∧ c.a0 + c.a1 ≤ 65536)

/-- The issuer may read every slot of the range (R32). -/
def slotsReadable (s : State) (c : HostCmd) : Bool := (List.range c.a1).all (fun k => s.mayReadSlot c.part (c.a0 + k))

/-- A unit answers the HIF with an error: the bus error is captured, and the command ends (R46, R305). -/
def unitError (s : State) (c : HostCmd) (a : Nat) (write : Bool) : State :=
  endCmd (busErrOf s codeHif c.part a write) c St.busError

/-- A command reaches a domain (R445): one that is off holds the command and wakes, or answers with an error where it is locked. -/
def reachDomain (s : State) (c : HostCmd) (d : HostData) (a : Nat) (write : Bool) (t : State) : State :=
  match asleep s a with
  | none => t
  | some k =>
    let r := wakeAccess s k
    if r.1 then { r.2 with held := r.2.held ++ [.host c.serial a d] } else unitError r.2 c a write

/-- A command reaches a unit (R424, R445). -/
def reach (s : State) (c : HostCmd) (d : HostData) (a : Nat) (write : Bool) (t : State) : State :=
  if s.wrapped a then unitError s c a write else reachDomain s c d a write t

/-- No data of the host. -/
def noData : HostData := .bytes []

/-- The effect of SIG_READ. -/
def sigRead (c : HostCmd) (s : State) : State :=
  wellFormed s c (slotRange c)
    (if !slotsReadable s c then endCmd s c St.notOwner
     else reach s c noData (0x20000000 + 8 * c.a0) false (answerSlots s c c.addr ((List.range c.a1).map (fun k => c.a0 + k))))

/-- SIG_READ (R299). -/
def execSigRead (serial : Nat) (s : State) : Outcome := .next (onHost s serial (fun o => o == 0x01) sigRead)

/-- Entries of a SIG_WRITE: slot, status, value. -/
def sigEntries (l : List Byte) : List (Nat × Nat × Nat) :=
  (List.range (l.length / 8)).map (fun k =>
    let e := l.drop (8 * k)
    (leNat (e.take 2), leNat ((e.drop 2).take 2), leNat ((e.drop 4).take 4)))

/-- The slot is internal and owned by the partition (R24). -/
def ownInternal (s : State) (part n : Nat) : Bool := decide ((s.thePlan.bind n).kind = 0 ∧ (s.thePlan.bind n).owner = part)

/-- The effect of SIG_WRITE. -/
def sigWrite (d : HostData) (c : HostCmd) (s : State) : State :=
  wellFormed s c (decide (c.len % 8 = 0 ∧ 8 ≤ c.len ∧ c.len ≤ 8192))
    (withHostData s c c.addr c.len d (fun l =>
      let es := sigEntries l
      if !es.all (fun e => ownInternal s c.part e.1) then endCmd s c St.notOwner
      else reach s c d (0x20000000 + 8 * (es.headD (0, 0, 0)).1) true
        (endCmd (es.foldl (fun t e => t.writeInternal e.1 (some (word e.2.2)) (some e.2.1)) s) c St.ok)))

/-- SIG_WRITE (R299). -/
def execSigWrite (serial : Nat) (d : HostData) (s : State) : Outcome :=
  .next (onHost s serial (fun o => o == 0x02) (sigWrite d))

/-! ### Split requests (R299 to R301) -/

/-- A request is accepted. -/
def addReq (s : State) (r : HReq) : State := { s with hif := { s.hif with reqs := s.hif.reqs ++ [r] } }

/-- A new request of a command. -/
def newReq (c : HostCmd) (kind : HKind) (parts : List HPart) : HReq :=
  { serial := c.serial, part := c.part, kind := kind, partial' := c.desc.flags.toNat.testBit 0,
    durable := c.desc.flags.toNat.testBit 1, parts := parts, first := 0, count := 0 }

/-- A parameter part of 16 bytes; its unit is the home cluster of its block. -/
def paramPart (s : State) (e : List Byte) : HPart :=
  let b := leNat (e.take 2)
  { unit := (s.block b).home, blk := b, ofs := leNat ((e.drop 2).take 2), len := leNat ((e.drop 4).take 2),
    host := leNat ((e.drop 8).take 8), staged := false, fail := 0, bytes := [] }

/-- The 16-byte entries of a list. -/
def entries (l : List Byte) (n : Nat) : List (List Byte) := (List.range (l.length / n)).map (fun k => (l.drop (n * k)).take n)

/-- Step 2 of the checks for one part: LEN, OFFSET and the reserved field. -/
def paramFormed (e : List Byte) (q : HPart) : Bool :=
  decide (q.ofs % 4 = 0 ∧ 4 ≤ q.len ∧ q.len ≤ 256 ∧ q.len % 4 = 0) && (e.drop 6).take 2 == [0, 0]

/-- The checks 2 to 5 of a parameter request, in order over all parts; 0: they pass. -/
def paramChecks (s : State) (c : HostCmd) (l : List Byte) : Nat :=
  let es := entries l 16
  let qs := es.map (paramPart s)
  if !(decide (c.len % 16 = 0 ∧ 16 ≤ c.len ∧ c.len ≤ 512) && es.all (fun e => paramFormed e (paramPart s e))) then St.badDescriptor
  else if !qs.all (fun q => s.thePlan.hasBlock q.blk) then St.badDescriptor
  else if !qs.all (fun q => decide ((s.block q.blk).part = c.part)) then St.notOwner
  else if !qs.all (fun q => decide (q.ofs + q.len ≤ (s.block q.blk).sbl)) then St.badDescriptor
  else St.ok

/-- A PARAM_READ or PARAM_WRITE is checked as a whole and accepted. -/
def paramRequest (write : Bool) (d : HostData) (c : HostCmd) (s : State) : State :=
  withHostData s c c.addr c.len d (fun l =>
    let qs := (entries l 16).map (paramPart s)
    let st := paramChecks s c l
    if st ≠ St.ok then endCmd s c st
    else if !qs.all (fun q => winOk s c.part (!write) q.host q.len) then endWindow s c
    else
      let r := newReq c (if write then .write else .read) qs
      if !write && decide (snapArea s < r.bytes) then endCmd s c St.noSpace else addReq s r)

/-- PARAM_READ (R301): `d` is the part list as host memory delivers it. -/
def execParamRead (serial : Nat) (d : HostData) (s : State) : Outcome :=
  .next (onHost s serial (fun o => o == 0x03) (paramRequest false d))

/-- PARAM_WRITE (R300): the parts are staged by PART_STAGED. -/
def execParamWrite (serial : Nat) (d : HostData) (s : State) : Outcome :=
  .next (onHost s serial (fun o => o == 0x04) (paramRequest true d))

/-- The effect of SNAPSHOT. -/
def snapshotReq (c : HostCmd) (s : State) : State :=
  wellFormed s c (slotRange c)
    (if !slotsReadable s c then endCmd s c St.notOwner
     else if !winOk s c.part true c.addr c.len then endWindow s c
     else if snapArea s < c.len then endCmd s c St.noSpace
     else reach s c noData (0x20000000 + 8 * c.a0) false
       (addReq s { newReq c .slots [⟨0, 0, 0, c.len, c.addr, false, 0, []⟩] with first := c.a0, count := c.a1 }))

/-- SNAPSHOT (R299). -/
def execSnapshot (serial : Nat) (s : State) : Outcome := .next (onHost s serial (fun o => o == 0x05) snapshotReq)

/-! ### Trends (R302) -/

/-- The arguments of TREND_SET are in range. -/
def trendFormed (c : HostCmd) : Bool :=
  decide (c.a0 = 0) ||
    (decide (c.a0 ≤ 256 ∧ 1 ≤ c.a1 ∧ c.a1 ≤ 1000) && (List.range 13).any (fun k => decide (c.len = 2 ^ (12 + k))))

/-- The effect of TREND_SET. -/
def trendSet (d : HostData) (c : HostCmd) (s : State) : State :=
  wellFormed s c (trendFormed c)
    (if c.a0 = 0 then endCmd (s.setTrend c.part {}) c St.ok
     else withHostData s c (c.a2 + c.a3 * 2 ^ 32) (2 * c.a0) d (fun l =>
       let slots := (entries l 2).map leNat
       if !slots.all (s.mayReadSlot c.part) then endCmd s c St.notOwner
       else endCmd (s.setTrend c.part { dec := c.a1, slots := slots, addr := c.addr, len := c.len }) c St.ok))

/-- TREND_SET (R302): `d` is the slot list. -/
def execTrendSet (serial : Nat) (d : HostData) (s : State) : Outcome :=
  .next (onHost s serial (fun o => o == 0x06) (trendSet d))

/-! ### Plans and modes -/

/-- The effects of PLAN_LOAD, PLAN_COMMIT and PLAN_ABORT. -/
def planLoad (c : HostCmd) (s : State) : State :=
  reach s c noData R.DPR_PLAN_CTRL true (startLoad s ⟨c.addr, c.len, c.part, .host c.serial⟩)
def planCommit (c : HostCmd) (s : State) : State := reach s c noData R.DPR_PLAN_CTRL true (requestCommit s (.host c.serial))
def planAbort (c : HostCmd) (s : State) : State := reach s c noData R.DPR_PLAN_CTRL true (endCmd (abortShadows s) c St.ok)

/-- PLAN_LOAD (R198, R299): the load ends with PLAN_LOAD_END. -/
def execPlanLoad (serial : Nat) (s : State) : Outcome := .next (onHost s serial (fun o => o == 0x10) planLoad)

/-- PLAN_COMMIT (R201). -/
def execPlanCommit (serial : Nat) (s : State) : Outcome := .next (onHost s serial (fun o => o == 0x11) planCommit)

/-- PLAN_ABORT (R205). -/
def execPlanAbort (serial : Nat) (s : State) : Outcome := .next (onHost s serial (fun o => o == 0x12) planAbort)

/-- Four words as bytes. -/
def wordBytes (l : List Word) : List Byte := (l.map (fun w => leBytes 4 w.toNat)).flatten

/-- PLAN_STATUS (R299). -/
def execPlanStatus (serial : Nat) (s : State) : Outcome :=
  .next (onHost s serial (fun o => o == 0x13) (fun c t =>
    wellFormed t c (decide (c.len = 16))
      (answerHost t c c.addr (wordBytes [t.reg R.DPR_PLAN_ID, t.reg R.DPR_PLAN_VER, word (t.thePlan.part c.part).segVer, 0])
        { result := (planStatus t).toNat })))

/-- The effect of MODE_SET. -/
def modeSet (c : HostCmd) (s : State) : State :=
  wellFormed s c (decide (c.a0 < 4))
    (if 2 ≤ c.a0 ∧ c.part ≠ 0 then endCmd s c St.notOwner
     else reach s c noData R.CYC_MODE_REQ true (postMode s ⟨c.a0, c.part, 0, .host c.serial⟩))

/-- MODE_SET (R74). -/
def execModeSet (serial : Nat) (s : State) : Outcome := .next (onHost s serial (fun o => o == 0x14) modeSet)

/-- MODE_QUERY (R299). -/
def execModeQuery (serial : Nat) (s : State) : Outcome :=
  .next (onHost s serial (fun o => o == 0x15) (fun c t =>
    wellFormed t c (decide (c.len = 16))
      (answerHost t c c.addr (wordBytes [t.reg R.CYC_TRACK_LO, t.reg R.CYC_TRACK_HI, t.reg R.CYC_STATUS, t.reg R.CYC_CYCNUM]) {})))

/-! ### Links -/

/-- The effect of ACY_SUBMIT. -/
def acySubmit (d : HostData) (c : HostCmd) (s : State) : State :=
  let l := c.a0 % 32
  let st := c.a0 / 256 % 32
  wellFormed s c (decide (c.a0 = l + 256 * st ∧ l < 24))
    (reach s c d (R.SFL_ACY_SUB l) true
      (let e := acyRefuse s l st c.part c.len
       if e ≠ St.ok then endCmd s c e
       else withHostData s c c.addr c.len d (fun b =>
         acyPut s l {
           owner := .host c.serial, part := c.part, station := st, tag := 0, state := acyQueued, seq := 0, sent := 0,
           due := false, payload := b, rspMax := c.a3, rspAddr := c.a1 + c.a2 * 2 ^ 32 })))

/-- ACY_SUBMIT (R270). -/
def execAcySubmit (serial : Nat) (d : HostData) (s : State) : Outcome :=
  .next (onHost s serial (fun o => o == 0x20) (acySubmit d))

/-- The submit that a cancel names. -/
def cancelTarget (s : State) (c : HostCmd) : Option HostCmd :=
  s.hif.cmds.find? (fun x => decide (x.part = c.part ∧ x.ring = c.a0 % 4 ∧ x.desc.id.toNat = c.a0 / 65536 ∧ x.desc.op.toNat = 0x20))

/-- The link whose queue holds the request of a command, with its position. -/
def acyHolder (s : State) (serial : Nat) : Option (Nat × Nat) :=
  (List.range 24).findSome? (fun l => (acyAt s l (fun a => decide (a.owner = .host serial))).map (fun k => (l, k)))

/-- The submit stands in the HIF still: not started, or held for its link's domain. -/
def submitHeld (s : State) (x : HostCmd) : Bool :=
  !x.started || s.held.any (fun h => match h with | .host n _ _ => decide (n = x.serial) | _ => false)

/-- The effect of ACY_CANCEL: the submit's completion is written first. -/
def acyCancel (c : HostCmd) (s : State) : State :=
  wellFormed s c (decide (c.a0 / 4 % 16384 = 0))
    (match cancelTarget s c with
     | none => endCmd s c St.badDescriptor
     | some x =>
       if submitHeld s x then endCmd (endCmd s x St.cancelled) c St.cancelled
       else
         match acyHolder s x.serial with
         | some (l, k) => reach s c noData (R.SFL_ACY_CANCEL l) true (let r := acyCancelAt s l (some k)
                                                                     endCmd r.2 c r.1)
         | none => endCmd s c St.badDescriptor)

/-- ACY_CANCEL (R273). -/
def execAcyCancel (serial : Nat) (s : State) : Outcome := .next (onHost s serial (fun o => o == 0x21) acyCancel)

/-- A part of STATION_RESUME: link, station. -/
def resumePart (e : List Byte) : HPart :=
  { unit := (e.getD 0 0).toNat, blk := (e.getD 1 0).toNat, ofs := 0, len := 0, host := 0, staged := false, fail := 0, bytes := [] }

/-- The partition owns an endpoint of the station. -/
def ownsEndpoint (s : State) (part l st : Nat) : Bool :=
  (s.thePlan.stationSlots l st 1 ++ s.thePlan.stationSlots l st 2).any (fun n => decide ((s.thePlan.bind n).owner = part))

/-- The link stages a part, or refuses it (R300, R424). -/
def resumeStage (s : State) (q : HPart) : HPart :=
  if s.wrapped (R.SFL_CTRL q.unit) then { q with fail := St.busError }
  else if s.stnRun q.unit q.blk then { q with staged := true } else { q with fail := St.linkDown }

/-- The effect of STATION_RESUME. -/
def stationResume (d : HostData) (c : HostCmd) (s : State) : State :=
  withHostData s c c.addr c.len d (fun l =>
    let es := entries l 4
    let qs := es.map resumePart
    if !(decide (c.len % 4 = 0 ∧ 4 ≤ c.len ∧ c.len ≤ 128) && es.all (fun e => e.drop 2 == [0, 0])) then endCmd s c St.badDescriptor
    else if !qs.all (fun q => (s.thePlan.station q.unit q.blk).isSome) then endCmd s c St.badDescriptor
    else if !qs.all (fun q => ownsEndpoint s c.part q.unit q.blk) then endCmd s c St.notOwner
    else reachDomain s c d (R.SFL_CTRL 0) true
      (let r := newReq c .resume qs
       let r1 := { r with parts := qs.map (resumeStage s) }
       stagingDone (addReq (captureParts s r r1.parts) r1) r1))

/-- STATION_RESUME (R268, R300). -/
def execStationResume (serial : Nat) (d : HostData) (s : State) : Outcome :=
  .next (onHost s serial (fun o => o == 0x22) (stationResume d))

/-- The effect of LINK_STATUS: one part for each link of the bitmap. -/
def linkStatus (c : HostCmd) (s : State) : State :=
  let ls := bitsBelow c.a0 24
  wellFormed s c (decide (c.a0 < 2 ^ 24 ∧ c.len = 64 * ls.length))
    (if c.len ≠ 0 ∧ winOk s c.part true c.addr c.len = false then endWindow s c
     else
       let r := newReq c .status ((ls.zipIdx).map (fun e => ⟨e.1, 0, 0, 64, c.addr + 64 * e.2, false, 0, []⟩))
       if snapArea s < r.bytes then endCmd s c St.noSpace else reachDomain s c noData (R.SFL_CTRL 0) false (addReq s r))

/-- LINK_STATUS (R301). -/
def execLinkStatus (serial : Nat) (s : State) : Outcome := .next (onHost s serial (fun o => o == 0x23) linkStatus)

/-- The effect of PAT_TEST (R275, R276, R299). -/
def patTest (c : HostCmd) (s : State) : State :=
  let l := c.a1
  wellFormed s c (decide (l < 24))
    (reach s c noData (R.SFL_PAT_CTRL l) true
      (if c.a0.testBit 0 && !c.a0.testBit 1 && !startAllowed s l c.desc.arg0 then
         endCmd (s.setFld (F.SFL_PAT_STATUS_REFUSED l) 1) c St.modeRefused
       else
         let s1 := patSettings (s.setFld (F.SFL_PAT_USER_PATTERN l) c.a2) l c.desc.arg0
         if c.a0.testBit 1 then
           hostComplete (patStop s1 l) c.serial { result := ((patStop s1 l).reg (R.SFL_PAT_ERR l)).toNat }
         else if c.a0.testBit 0 then patStart s1 l (some c.serial)
         else endCmd s1 c St.ok))

/-- PAT_TEST (R276). -/
def execPatTest (serial : Nat) (s : State) : Outcome := .next (onHost s serial (fun o => o == 0x24) patTest)

/-! ### NV areas (R360) -/

/-- The issuer's NV area: offset in the partition pool and quota. -/
def nvArea (s : State) (part : Nat) : Nat × Nat :=
  let a := SMap.get (fun _ => (0, 0, 0)) s.nvAreas part
  (a.1, a.2.2)

/-- The NVR controller serves commands; those of the host wait while it does not (R363). -/
def nvUp (s : State) : Bool := s.serves R.NVR_STATUS && s.flag F.NVR_STATUS_READY && !s.saving && !s.pfstop

/-- Runs a command that may have started before and waits for its unit. -/
def onHostAgain (s : State) (serial : Nat) (op : Nat → Bool) (k : HostCmd → State → State) : State :=
  match findCmd s serial with
  | none => s
  | some c => if c.started && op c.desc.op.toNat then k c s else onHost s serial op k

/-- The effect of NV_READ. -/
def nvRead (c : HostCmd) (s : State) : State :=
  let a := nvArea s c.part
  if a.2 < c.a0 + c.len then endCmd s c St.noSpace
  else reach s c noData (poolBase + a.1 + c.a0) false
    (if !nvUp s then s
     else if regionLocked s 2 then endCmd s c St.nvLocked
     else answerHost s c c.addr (s.bytes (poolBase + a.1 + c.a0) c.len) {})

/-- NV_READ (R360): it waits while the NVR is not ready, and the row comes again (R363). -/
def execNvRead (serial : Nat) (s : State) : Outcome := .next (onHostAgain s serial (fun o => o == 0x30) nvRead)

/-- The effect of NV_WRITE: a journaled write, which waits in the journal's queue while the NVR is not ready (R362, R363). -/
def nvWrite (d : HostData) (c : HostCmd) (s : State) : State :=
  let a := nvArea s c.part
  wellFormed s c (decide (1 ≤ c.len ∧ c.len ≤ 3840))
    (if a.2 < c.a0 + c.len then endCmd s c St.noSpace
     else withHostData s c c.addr c.len d (fun l =>
       reach s c d (poolBase + a.1 + c.a0) true
         { s with nvr := { s.nvr with queue := s.nvr.queue ++ [⟨.host c.serial c.part l, poolBase + a.1 + c.a0⟩] } }))

/-- NV_WRITE (R360). -/
def execNvWrite (serial : Nat) (d : HostData) (s : State) : Outcome :=
  .next (onHost s serial (fun o => o == 0x31) (nvWrite d))

/-! ### Commands that waited for a domain (R445) -/

/-- A command that reaches a unit runs, once its domain serves it. -/
def runHost (d : HostData) (c : HostCmd) (s : State) : State :=
  match c.desc.op.toNat with
  | 0x01 => sigRead c s
  | 0x02 => sigWrite d c s
  | 0x05 => snapshotReq c s
  | 0x10 => planLoad c s
  | 0x11 => planCommit c s
  | 0x12 => planAbort c s
  | 0x14 => modeSet c s
  | 0x20 => acySubmit d c s
  | 0x21 => acyCancel c s
  | 0x22 => stationResume d c s
  | 0x23 => linkStatus c s
  | 0x24 => patTest c s
  | 0x30 => nvRead c s
  | 0x31 => nvWrite d c s
  | _ => s

/-! ### Health, margins, random bytes, time -/

/-- HEALTH_QUERY (R299). -/
def execHealthQuery (serial : Nat) (s : State) : Outcome :=
  .next (onHost s serial (fun o => o == 0x40) (fun c t =>
    hostComplete t c.serial { status := if healthWord t % 8 = 0 then St.ok else St.degraded, result := healthWord t }))

/-- MARGIN_REPORT (R479). -/
def execMarginReport (serial : Nat) (s : State) : Outcome :=
  .next (onHost s serial (fun o => o == 0x41) (fun c t =>
    wellFormed t c (decide (c.len = 128)) (answerHost t c c.addr (marginReport t) {})))

/-- The effect of RANDOM (R410). -/
def randomCmd (c : HostCmd) (s : State) : State :=
  wellFormed s c (decide (1 ≤ c.len ∧ c.len ≤ 256)) (entAsk s (.random c.serial))

/-- RANDOM (R410). -/
def execRandom (serial : Nat) (s : State) : Outcome := .next (onHost s serial (fun o => o == 0x42) randomCmd)

/-- TIME_GET (R299). -/
def execTimeGet (serial : Nat) (s : State) : Outcome :=
  .next (onHost s serial (fun o => o == 0x43) (fun c t =>
    wellFormed t c (decide (c.len = 16))
      (answerHost t c c.addr (leBytes 8 t.tb ++ wordBytes [t.reg R.CYC_CYCNUM, t.reg R.BKD_RTC_SEC]) {})))

/-! ### Reset -/

/-- The effect of DEVICE_RESET: its completion and its vector; the other commands in progress get none. -/
def deviceReset (c : HostCmd) (s : State) : State :=
  wellFormed s c (decide (c.a0 < 3))
    (let s1 := sendVector (endCmd s c St.ok) (2 * c.part)
     { s1 with hif := { s1.hif with resetDue := some c.a0, cmds := [] } })

/-- DEVICE_RESET (R299). -/
def execDeviceReset (serial : Nat) (s : State) : Outcome := .next (onHost s serial (fun o => o == 0x70) deviceReset)

/-- The reset that DEVICE_RESET asked for begins (R417). -/
def hostReset (s : State) : State :=
  let s1 := { s with hif := { s.hif with resetDue := none } }
  match s.hif.resetDue with
  | none => s
  | some 0 => resetEntry s1 8 2
  | some 1 => resetEntry s1 8 3
  | some _ => hifResetBy s1 8

/-- HOST_RESET (R417): 10 µs after DEVICE_RESET. -/
def execHostReset (s : State) : Outcome := .next (hostReset s)

end Sys2Proof.Machine
end

