-- ==== Sys2Proof/Machine/Periph.lean ====
section
/-! DEFINITION. The Event Controller, the general-purpose pins, UARTs, SPI and I2C controllers, timers and WDT_SYS (R511 to
R517, R519 to R530). -/

namespace Sys2Proof.Machine

/-! ### The Event Controller (R513 to R517) -/

/-- EVC_SOURCE_EVENT (R513): an event of a source; 0 to 31 arise at the AON watcher (R519). -/
def execEvcSourceEvent (n : Fin 256) (s : State) : Outcome :=
  .next (if n.val < 32 then aonWake s n.val else evcEvent s n.val)

/-- The active source of a priority. -/
def activeAt (s : State) (q : Nat) : Option Nat :=
  if s.regBit R.EVC_ACT_V q then some (s.fld ⟨R.EVC_ACT, 8 * q, 8⟩) else none

/-- A source is active. -/
def srcActive (s : State) (n : Nat) : Bool := (List.range 4).any (fun q => decide (activeAt s q = some n))

def srcPrio (s : State) (n : Nat) : Nat := s.fld (F.EVC_CFG_PRIO n)
def srcCnt (s : State) (n : Nat) : Nat := s.fld ⟨R.EVC_CNT (n / 8), 4 * (n % 8), 4⟩
def srcPend (s : State) (n : Nat) : Bool := s.regBit (R.EVC_PEND (n / 32)) (n % 32)
def srcMask (s : State) (n : Nat) : Bool := s.regBit (R.EVC_MASK (n / 32)) (n % 32)

/-- The pending bit and CNT of a source are cleared. -/
def srcClear (s : State) (n : Nat) : State :=
  (s.setRegBit (R.EVC_PEND (n / 32)) (n % 32) false).setFld ⟨R.EVC_CNT (n / 8), 4 * (n % 8), 4⟩ 0

/-- Deliverable (R515): pending, unmasked, not active, of a priority above every active one. -/
def deliverable (s : State) (n : Nat) : Bool :=
  srcPend s n && srcMask s n && !srcActive s n &&
    (List.range 4).all (fun q => decide (activeAt s q = none) || decide (q < srcPrio s n))

/-- The deliverable source of highest PRIO, the lowest number among equals. -/
def bestSource (s : State) : Option Nat :=
  ((List.range 256).filter (deliverable s)).foldl (fun b n =>
    match b with
    | none => some n
    | some m => if srcPrio s m < srcPrio s n then some n else some m) none

/-- The EVC delivers: not while the MC is in reset or debug halts the periphery (R519, R537). -/
def evcRuns (s : State) : Bool := s.mc.k.state != .reset && !s.dbgHalted

/-- A read of `EVC_CLAIM` (R515): its value, and the state after. -/
def evcClaim (s : State) : Word × State :=
  match bestSource s with
  | none => (0, s)
  | some n =>
    let q := srcPrio s n
    (word (2 ^ 31 + srcCnt s n * 2 ^ 24 + q * 2 ^ 16 + n),
     (((srcClear s n).setRegBit R.EVC_ACT_V q true).setFld ⟨R.EVC_ACT, 8 * q, 8⟩ n))

/-- EVC_CLAIM (R515). -/
def execEvcClaim (s : State) : Outcome := .next { (evcClaim s).2 with readData := (evcClaim s).1 }

/-- A write of `EVC_EOI` (R516). -/
def evcEoi (s : State) (n : Nat) : State :=
  match (List.range 4).find? (fun q => decide (activeAt s q = some n)) with
  | some q => (s.setRegBit R.EVC_ACT_V q false).setFld ⟨R.EVC_ACT, 8 * q, 8⟩ 0
  | none => s.countReg R.EVC_SPUR_CNT

/-- EVC_EOI (R516). -/
def execEvcEoi (n : Fin 256) (s : State) : Outcome := .next (evcEoi s n.val)

/-- A write of `EVC_TAKE` with GO (R517). -/
def evcTake (s : State) (n : Nat) : State :=
  srcClear (s.setReg R.EVC_TAKE_RES (word ((if srcPend s n then 256 else 0) + srcCnt s n))) n

/-- EVC_TAKE (R517). -/
def execEvcTake (n : Fin 256) (s : State) : Outcome := .next (evcTake s n.val)

/-! ### Sources of the peripherals (R511) -/

/-- The OR of the enabled conditions of a peripheral source. -/
def periphCond (s : State) (src : Nat) : Bool :=
  let b (n k : Nat) : Bool := n.testBit k
  if 80 ≤ src ∧ src < 84 then
    (let n := src - 80
     let en := s.fld (F.UART_IEN_EN n)
     let u := s.uart n
     (b en 3 && s.flag (F.UART_STAT_BRK n)) || (b en 2 && s.flag (F.UART_STAT_OVR n)) || (b en 1 && decide (u.tx.length ≤ 4)) ||
       (b en 0 && decide (1 ≤ u.rx.length)))
  else if src = 84 ∨ src = 85 then
    (let m := src - 84
     let en := s.fld (F.SPI_IEN_EN m)
     (b en 1 && decide ((s.spi m).tx = [])) || (b en 0 && decide (1 ≤ (s.spi m).rx.length)))
  else if src = 86 ∨ src = 87 then
    (let j := src - 86
     let en := s.fld (F.I2C_IEN_EN j)
     (b en 1 && s.flag ⟨R.I2C_STAT j, 1, 3⟩) || (b en 0 && decide ((s.i2c j).fifo = [])))
  else if 88 ≤ src ∧ src < 96 then s.flag ⟨R.TMR_STAT (src - 88), 0, 2⟩
  else if 96 ≤ src ∧ src < 99 then s.flag (F.GPIO_ISTAT_ST (src - 96))
  else false

/-- The edge of its input at which a source records an event: rising, and for the level sources 96 to 98 as
`EVC_CFGs.EDGE` says (R511, R512). -/
def edgeCounts (s : State) (src : Nat) (up : Bool) : Bool :=
  if src < 96 then up
  else match s.fld (F.EVC_CFG_EDGE src) with
    | 0 => up
    | 1 => !up
    | 2 => true
    | _ => false

/-- The source's conditions are looked at again: an event where their OR has changed at the edge that counts. -/
def periphTell (s : State) (src : Nat) : State :=
  let now := periphCond s src
  if now = has s.per.conds src then s
  else
    let s1 := { s with per := { s.per with conds := putIn s.per.conds src now } }
    if edgeCounts s src now then evcEvent s1 src else s1

/-! ### General-purpose pins -/

/-- EDGE of pin `i` in a register coded as IEDGE: 1 rising, 2 falling, 3 both. -/
def edgeOn (s : State) (a i : Nat) (rising : Bool) : Bool :=
  let e := s.fld ⟨a, 2 * i, 2⟩
  decide (e = 3) || (if rising then decide (e = 1) else decide (e = 2))

/-- The source of a wake input GPA0 to GPA7 (R451). -/
def gpaSource (i : Nat) : Nat := if i < 4 then 6 + i else 15 + i

/-- A pin takes a level (R521, R524): its edge sets ISTAT, and a wake input reaches the watcher through
`GPIO_WAKE_CFG` (R519). -/
def gpioEdge (s : State) (p i : Nat) (rising : Bool) : State :=
  if s.regBit (R.GPIO_IN p) i = rising then s
  else
    let s1 := s.setRegBit (R.GPIO_IN p) i rising
    let s2 := if s.pmu.state == .active && edgeOn s (R.GPIO_IEDGE p) i rising then
        periphTell (s1.setRegBit (R.GPIO_ISTAT p) i true) (96 + p) else s1
    if p = 0 ∧ i < 8 ∧ edgeOn s R.GPIO_WAKE_CFG i rising = true then aonWake s2 (gpaSource i) else s2

/-- GPIO_EDGE (R524). -/
def execGpioEdge (p : Fin 3) (i : Fin 16) (rising : Bool) (s : State) : Outcome := .next (gpioEdge s p.val i.val rising)

/-- RELEASE of `GPIO_HOLD` (R523). -/
def holdRelease (s : State) : State := { s.setFld F.GPIO_HOLD_HELD 0 with per := { s.per with pins := [] } }

/-- GPIO_HOLD_RELEASE (R523). -/
def execGpioHoldRelease (s : State) : Outcome := .next (holdRelease s)

/-! ### UARTs (R525) -/

/-- A write of `UARTn_DATA`. -/
def uartPush (s : State) (n v : Nat) : State :=
  let u := s.uart n
  if u.tx.length < 16 then periphTell (s.setUart n { u with tx := u.tx ++ [v % 256] }) (80 + n)
  else periphTell (s.setFld (F.UART_STAT_OVR n) 1) (80 + n)

/-- UART_DATA_WRITE (R525). -/
def execUartDataWrite (n : Fin 4) (v : BitVec 8) (s : State) : Outcome := .next (uartPush s n.val v.toNat)

/-- A read of `UARTn_DATA`: the oldest entry; 0 with VALID 0 where there is none. -/
def uartPop (s : State) (n : Nat) : Word × State :=
  let u := s.uart n
  match u.rx with
  | [] => (0, s)
  | e :: l => (word e, periphTell (s.setUart n { u with rx := l }) (80 + n))

/-- UART_DATA_READ (R525). -/
def execUartDataRead (n : Fin 4) (s : State) : Outcome := .next { (uartPop s n.val).2 with readData := (uartPop s n.val).1 }

/-- UART_RX_BYTE (R525): a byte is received, with parity error, framing error and break as found. -/
def execUartRxByte (n : Fin 4) (v : BitVec 8) (perr ferr brk : Bool) (s : State) : Outcome :=
  if !s.flag (F.UART_CFG_EN n.val) || s.dbgHalted then .next s
  else
    let b (x : Bool) (k : Nat) : Nat := if x then 2 ^ k else 0
    let u := s.uart n.val
    let s1 := if brk then s.setFld (F.UART_STAT_BRK n.val) 1 else s
    let s2 := if u.rx.length < 16 then
        s1.setUart n.val { u with rx := u.rx ++ [v.toNat % 2 ^ (5 + s.fld (F.UART_CFG_LEN n.val)) + 256 + b perr 9 + b ferr 10 + b brk 11] }
      else s1.setFld (F.UART_STAT_OVR n.val) 1
    .next (periphTell s2 (80 + n.val))

/-- UART_TX_BYTE (R525): a byte has been sent, in the data bits of LEN. -/
def execUartTxByte (n : Fin 4) (s : State) : Outcome :=
  let u := s.uart n.val
  match u.tx with
  | [] => .next s
  | v :: l =>
    if !s.flag (F.UART_CFG_EN n.val) || s.dbgHalted then .next s
    else .next (periphTell (s.setUart n.val { u with tx := l, sent := some (v % 2 ^ (5 + s.fld (F.UART_CFG_LEN n.val))) }) (80 + n.val))

/-! ### SPI (R526) -/

/-- Bits of a frame; SIZE 3 is reserved and taken as 32. -/
def spiBits (s : State) (m : Nat) : Nat := min 32 (8 * 2 ^ s.fld (F.SPI_CFG_SIZE m))

/-- The chip select of an SPI follows its TX FIFO: asserted from the first frame, and released when the FIFO empties, unless CSHOLD
is 1 (R526). -/
def spiSelect (s : State) (m : Nat) : State :=
  let x := s.spi m
  let cs :=
    if s.flag (F.SPI_CFG_EN m) && x.tx != [] then some (s.fld (F.SPI_CFG_CS m))
    else if s.flag (F.SPI_CFG_CSHOLD m) then x.cs else none
  s.setSpi m { x with cs := cs }

/-- A write of `SPIm_DATA`: the first frame asserts the chip select. A write to a full FIFO is lost. -/
def spiPush (s : State) (m v : Nat) : State :=
  let x := s.spi m
  if x.tx.length < 8 then periphTell (spiSelect (s.setSpi m { x with tx := x.tx ++ [v % 2 ^ spiBits s m] }) m) (84 + m) else s

/-- SPI_DATA_WRITE (R526). -/
def execSpiDataWrite (m : Fin 2) (v : Word) (s : State) : Outcome := .next (spiPush s m.val v.toNat)

/-- A read of `SPIm_DATA`; 0 where there is no frame. -/
def spiPop (s : State) (m : Nat) : Word × State :=
  let x := s.spi m
  match x.rx with
  | [] => (0, s)
  | e :: l => (word e, periphTell (s.setSpi m { x with rx := l }) (84 + m))

/-- SPI_DATA_READ (R526). -/
def execSpiDataRead (m : Fin 2) (s : State) : Outcome := .next { (spiPop s m.val).2 with readData := (spiPop s m.val).1 }

/-- SPI_FRAME_END (R526): the frame in transfer ends with `v` received; the chip select is released when the TX FIFO empties,
unless CSHOLD is 1. A frame received into a full FIFO is lost. -/
def execSpiFrameEnd (m : Fin 2) (v : Word) (s : State) : Outcome :=
  let x := s.spi m.val
  match x.tx with
  | [] => .next s
  | f :: l =>
    if !s.flag (F.SPI_CFG_EN m.val) || s.dbgHalted then .next s
    else .next (periphTell (spiSelect (s.setSpi m.val { x with
      rx := if x.rx.length < 8 then x.rx ++ [v.toNat % 2 ^ spiBits s m.val] else x.rx
      tx := l
      sent := some f }) m.val) (84 + m.val))

/-! ### I2C (R527) -/

/-- A write of `I2Cj_CMD`: an OP outside 1 to 5, and a command that finds the FIFO full, are lost. -/
def i2cPush (s : State) (j op data : Nat) : State :=
  let x := s.i2c j
  if 1 ≤ op ∧ op ≤ 5 ∧ x.fifo.length < 8 then periphTell (s.setI2c j { x with fifo := x.fifo ++ [(op, data)] }) (86 + j) else s

/-- I2C_CMD (R527). -/
def execI2cCmd (j : Fin 2) (op : BitVec 3) (data : BitVec 8) (s : State) : Outcome :=
  .next (i2cPush s j.val op.toNat data.toNat)

/-- A failure: the FIFO is flushed, STOP sent, the status bit set. -/
def i2cFail (s : State) (j k : Nat) : State :=
  periphTell ((s.setI2c j { fifo := [], did := .stop }).setRegBit (R.I2C_STAT j) k true) (86 + j)

/-- The command in front of the FIFO ends; a read leaves its byte in `I2Cj_RX`. -/
def i2cEnd (s : State) (j : Nat) (r : I2cEnd) : State :=
  let x := s.i2c j
  match x.fifo with
  | [] => s
  | c :: l =>
    match r with
    | .done v =>
      let s1 := s.setI2c j { fifo := l, did := .cmd c.1 c.2 }
      periphTell (if c.1 = 3 ∨ c.1 = 4 then s1.setReg (R.I2C_RX j) (word (256 + v.toNat)) else s1) (86 + j)
    | .nack => i2cFail s j 3
    | .busError => i2cFail s j 1

/-- The controller works on its commands. -/
def i2cRuns (s : State) (j : Nat) : Bool := s.flag (F.I2C_CFG_EN j) && !s.dbgHalted

/-- I2C_COMMAND_END (R527). -/
def execI2cCommandEnd (j : Fin 2) (r : I2cEnd) (s : State) : Outcome :=
  if i2cRuns s j.val then .next (i2cEnd s j.val r) else .next s

/-- I2C_STRETCH_TIMEOUT (R527). -/
def execI2cStretchTimeout (j : Fin 2) (s : State) : Outcome :=
  if i2cRuns s j.val && (s.i2c j.val).fifo != [] then .next (i2cFail s j.val 2) else .next s

/-- A write of 1 to RECOVER. -/
def i2cRecover (s : State) (j : Nat) : State := s.setI2c j { s.i2c j with did := .recover }

/-- RECOVER (R527): with SCL or SDA held low, nine pulses and STOP. -/
def execRecover (j : Fin 2) (held : Bool) (s : State) : Outcome := if held then .next (i2cRecover s j.val) else .next s

/-! ### Timers (R528) -/

/-- TIMER_MATCH (R528): the counter stands at CMP. A one-shot timer stops, a periodic one goes on from 0, and one in capture mode
counts on. -/
def execTimerMatch (t : Fin 8) (s : State) : Outcome :=
  let k := t.val
  let x := s.tmr k
  let mode := s.fld (F.TMR_CTRL_MODE k)
  if !x.running || s.dbgHalted || decide (mode = 3) || s.reg (R.TMR_CNT k) != s.reg (R.TMR_CMP k) then .next s
  else
    let s1 := match mode with
      | 0 => s.setFld (F.TMR_CTRL_EN k) 0
      | 1 => s.setReg (R.TMR_CNT k) 0
      | _ => s
    let s2 := s1.setTmr k { x with running := decide (mode ≠ 0), pin := if s.flag (F.TMR_CTRL_OUT_EN k) then !x.pin else x.pin }
    .next (periphTell (s2.setFld (F.TMR_STAT_MATCH k) 1) (88 + k))

/-- TIMER_CAPTURE (R528): the TB at an edge of the TMRt pin. -/
def execTimerCapture (t : Fin 8) (s : State) : Outcome :=
  let k := t.val
  if s.fld (F.TMR_CTRL_MODE k) = 2 ∧ (s.tmr k).running = true ∧ s.dbgHalted = false then
    let s1 := (s.setReg (R.TMR_CAP_LO k) (word s.tb)).setReg (R.TMR_CAP_HI k) (word (s.tb / 2 ^ 32))
    .next (periphTell (s1.setFld (F.TMR_STAT_CAP k) 1) (88 + k))
  else .next s

/-- A write of `TMRt_CTRL`: EN starts the timer, at the next SOC with SOCSTART. -/
def tmrCtrl (s : State) (k : Nat) (v : Word) : State :=
  let was := s.flag (F.TMR_CTRL_EN k)
  let s1 := s.setReg (R.TMR_CTRL k) (v &&& 0x177)
  let x := s.tmr k
  if !v.toNat.testBit 0 then s1.setTmr k { x with waitSoc := false, running := false }
  else if was then s1
  else if v.toNat.testBit 8 then s1.setTmr k { x with waitSoc := true, running := false }
  else s1.setTmr k { x with waitSoc := false, running := true }

/-- A read of `TMRt_CAP_LO` latches HI. -/
def capLatch (s : State) (k : Nat) : State := s.setTmr k { s.tmr k with latched := some (s.reg (R.TMR_CAP_HI k)) }

/-- One count of CLK_PER for the timers that count it. -/
def tickPer (s : State) : State := eachNat (fun t k => if t.fld (F.TMR_CTRL_SRC k) = 0 then tmrCount t k else t) s (List.range 8)

/-- A watchdog that pauses for one count of TB (R529, R537): its times move on with the TB. -/
def wdtLater (w : Wdt) : Wdt := { since := w.since + 1, key := w.key.map (fun t => t + 1) }

/-- WDT_SYS pauses while debug halts the periphery. -/
def wdtPause (s : State) : State := { s with per := { s.per with wdtSys := wdtLater s.per.wdtSys } }

/-- WDT_SP over one count of TB (R529, R537): it pauses, with the confirmation that it supervises, while the SP is halted; at
PERIOD − EARLY ms it raises source 18. -/
def tickWdtSp (s : State) : State :=
  let w := s.per.wdtSp
  if s.sp.k.halted then
    { s with
      per := { s.per with wdtSp := wdtLater w }
      boot := { s.boot with confirmEnd := s.boot.confirmEnd + 1 } }
  else if s.flag F.WDT_SP_CTRL_EN && decide (s.tb = w.since + (s.fld F.WDT_SP_CTRL_PERIOD - s.fld F.WDT_SP_CTRL_EARLY) * 100000) then
    aonEvent (s.setFld F.WDT_SP_STAT_EARLY 1) 18
  else s

/-- One count of TB for the timers (R528): CLK_PER runs at 200 MHz, and at 100 MHz on the IOSC path (R434). -/
def tickTimers (s : State) : State :=
  let s0 := tickWdtSp s
  if s0.dbgHalted then wdtPause s0
  else
    let s1 := eachNat (fun t k => if t.fld (F.TMR_CTRL_SRC k) = 1 then tmrCount t k else t) s0 (List.range 8)
    if s.flag F.CKG_STATUS_MC_PATH then tickPer s1 else tickPer (tickPer s1)

/-! ### WDT_SYS (R529) -/

/-- TB counts of a millisecond. -/
def msTb : Nat := 100000

/-- The watchdog runs: EN, and the MC is not halted by debug. -/
def wdtRuns (s : State) : Bool := s.flag F.WDT_SYS_CTRL_EN && !s.mc.k.halted && !s.dbgHalted

/-- EN of `WDT_SYS_CTRL` is set. -/
def wdtStart (s : State) : State :=
  if s.flag F.WDT_SYS_CTRL_EN then s
  else { s.setFld F.WDT_SYS_CTRL_EN 1 with per := { s.per with wdtSys := { since := s.tb } } }

/-- A write of `WDT_SYS_CTRL`: its fields are locked by EN; a PERIOD of 0 is left. -/
def wdtCtrl (s : State) (v : Word) : State :=
  if s.flag F.WDT_SYS_CTRL_EN then s
  else
    let s1 := (s.setFldIn F.WDT_SYS_CTRL_PERIOD 1 65535 (v.toNat / 65536)).setFld F.WDT_SYS_CTRL_EARLY (v.toNat / 256)
    let s2 := s1.setFld F.WDT_SYS_CTRL_WINDOW (v.toNat / 2)
    if v.toNat.testBit 0 then wdtStart s2 else s2

/-- WDT_SYS_EN (R529). -/
def execWdtSysEn (s : State) : Outcome := .next (wdtStart s)

/-- WDT_SYS expires: a reset of source 3, scope WARM. -/
def wdtExpire (s : State) (bad : Bool) : State :=
  (resetEntry s 3 3).setFld F.WDT_SYS_STAT_BADKICK (if bad then 1 else 0)

/-- A watchdog takes a key at `tb`, with a window of `win` ms; `none`: a bad kick, at which it expires. -/
def kickWdt (tb win key : Nat) (w : Wdt) : Option Wdt :=
  match w.key with
  | none => if key = 0x5A5A then some { w with key := some tb } else none
  | some t => if key = 0xA5A5 ∧ tb ≤ t + 10000 ∧ w.since + win * msTb ≤ tb then some { since := tb } else none

/-- A write of `WDT_SYS_KICK`; from the clock of expiry on it is too late. -/
def wdtKick (s : State) (key : Nat) : State :=
  if !wdtRuns s || decide (s.per.wdtSys.since + s.fld F.WDT_SYS_CTRL_PERIOD * msTb ≤ s.tb) then s
  else match kickWdt s.tb (s.fld F.WDT_SYS_CTRL_WINDOW) key s.per.wdtSys with
    | some x => { s with per := { s.per with wdtSys := x } }
    | none => wdtExpire s true

/-- A write of `WDT_SP_KICK`, which the SP alone may make (R41, R529). -/
def wdtSpKick (s : State) (key : Nat) : State :=
  if !s.flag F.WDT_SP_CTRL_EN || decide (s.per.wdtSp.since + s.fld F.WDT_SP_CTRL_PERIOD * msTb ≤ s.tb) then s
  else match kickWdt s.tb (s.fld F.WDT_SP_CTRL_WINDOW) key s.per.wdtSp with
    | some x => { s with per := { s.per with wdtSp := x } }
    | none => wdtSpExpire s

/-- WDT_SYS_KICK (R529). -/
def execWdtSysKick (key : BitVec 16) (s : State) : Outcome := .next (wdtKick s key.toNat)

/-- WDT_SYS_EARLY (R529): PERIOD − EARLY ms have passed. -/
def execWdtSysEarly (s : State) : Outcome :=
  if wdtRuns s then .next (aonEvent (s.setFld F.WDT_SYS_STAT_EARLY 1) 18) else .next s

/-- WDT_SYS_EXPIRY (R529): PERIOD ms have passed. -/
def execWdtSysExpiry (s : State) : Outcome := if wdtRuns s then .next (wdtExpire s false) else .next s

/-- ms left of a watchdog. -/
def wdtLeft (s : State) (period : Nat) (w : Wdt) : Nat := (w.since + period * msTb - s.tb) / msTb

/-! ### Registers that are views -/

/-- Peripheral registers that show the state of a unit. -/
def perRead (s : State) (a : Nat) : Option Word :=
  let b (x : Bool) (k : Nat) : Nat := if x then 2 ^ k else 0
  if within a 0x40035000 0x1000 ∧ a % 0x400 = 8 then
    (let n := (a - 0x40035000) / 0x400
     let u := s.uart n
     some (word (u.rx.length * 2 ^ 16 + u.tx.length * 2 ^ 8 + b (s.flag (F.UART_STAT_BRK n)) 3 + b (s.flag (F.UART_STAT_OVR n)) 2 +
       b (u.tx == []) 1)))
  else if a = R.SPI_STAT 0 ∨ a = R.SPI_STAT 1 then
    (let m := (a - R.SPI_STAT 0) / 0x100
     let x := s.spi m
     some (word (b (s.flag (F.SPI_CFG_EN m) && x.tx != []) 31 + x.rx.length * 2 ^ 8 + x.tx.length)))
  else if a = R.I2C_STAT 0 ∨ a = R.I2C_STAT 1 then
    (let j := (a - R.I2C_STAT 0) / 0x100
     some (s.reg a ||| word (b ((s.i2c j).fifo != []) 31)))
  else if within a 0x40037000 0x100 ∧ a % 0x20 = 0x10 then
    (let k := (a - 0x40037000) / 0x20
     some ((s.tmr k).latched.getD (s.reg a)))
  else if a = R.WDT_SP_STAT then
    some (s.reg a ||| (if s.flag F.WDT_SP_CTRL_EN then word (wdtLeft s (s.fld F.WDT_SP_CTRL_PERIOD) s.per.wdtSp) else 0))
  else if a = R.WDT_SYS_STAT then
    some (s.reg a ||| (if s.flag F.WDT_SYS_CTRL_EN then word (wdtLeft s (s.fld F.WDT_SYS_CTRL_PERIOD) s.per.wdtSys) else 0))
  else none

/-- Reads of peripheral registers that change something: the value, and the state after. -/
def perReadEffect (s : State) (a : Nat) : Option (Word × State) :=
  if a = R.EVC_CLAIM then some (evcClaim s)
  else if within a 0x40035000 0x1000 ∧ a % 0x400 = 0 then some (uartPop s ((a - 0x40035000) / 0x400))
  else if a = R.SPI_DATA 0 then some (spiPop s 0)
  else if a = R.SPI_DATA 1 then some (spiPop s 1)
  else if a = R.I2C_RX 0 ∨ a = R.I2C_RX 1 then some (s.reg a, s.setReg a 0)
  else if within a 0x40037000 0x100 ∧ a % 0x20 = 0xC then some (s.reg a, capLatch s ((a - 0x40037000) / 0x20))
  else none

/-- The peripheral sources whose conditions a write at an address can change. -/
def perSource (a : Nat) : Option Nat :=
  if within a 0x40035000 0x1000 then some (80 + (a - 0x40035000) / 0x400)
  else if within a 0x40036000 0x200 then some (84 + (a - 0x40036000) / 0x100)
  else if within a 0x40036200 0x200 then some (86 + (a - 0x40036200) / 0x100)
  else if within a 0x40037000 0x100 then some (88 + (a - 0x40037000) / 0x20)
  else if within a 0x40006000 0xC0 then some (96 + (a - 0x40006000) / 0x40)
  else none

end Sys2Proof.Machine
end

