-- ==== Sys2Proof/Machine/Regs.lean ====
section
/-! DEFINITION. The register map as a whole: who may read and write a block (R41), what a read returns and changes, and what a
write does in each block. -/

namespace Sys2Proof.Machine

/-! ### Rights (R15, R41, R414, R415, R459, R529, R533) -/

/-- The backup RAM in the BKD block (R459). -/
def inBkdRam (a : Nat) : Bool := within a 0x40005100 0x100

/-- Some register, or the backup RAM, occupies the address (R15). -/
def occupied (a : Nat) : Bool := (regRow a).isSome || inBkdRam a

/-- The peripheral blocks (R40). -/
def inPeriphery (a : Nat) : Bool := within a 0x40000000 0x39000

/-- Blocks that the MC and the SP write alike. -/
def sharedBlock (a : Nat) : Bool := within a 0x40000000 0x4000 || within a 0x40005000 0x1000 || within a 0x40009000 0x2000

/-- The MC may write the address (R41, R414, R415, R459, R529). -/
def mcWrites (a : Nat) : Bool :=
  if inBkdRam a then decide (0x400051C0 ≤ a)
  else if within a 0x4000C000 0x1000 then a == R.ENT_REQ || a == R.ENT_EVT_EN
  else if within a 0x40038000 0x1000 then decide (a < 0x40038100)
  else !within a 0x4000B000 0x1000 && !within a 0x40037300 0x100

/-- The SP may write the address. -/
def spWrites (a : Nat) : Bool :=
  if inBkdRam a then decide (a < 0x4000513F ∨ 0x400051C0 ≤ a)
  else sharedBlock a || within a 0x4000B000 0x2000 || within a 0x40037300 0x100 || within a 0x40038100 0xF00

/-- The SP may read the block. -/
def spReads (a : Nat) : Bool := sharedBlock a || within a 0x4000B000 0x2000 || within a 0x40037000 0x2000

/-- An accessor may write the address (R41, R533). -/
def mayWriteReg (s : State) (w : Writer) (a : Nat) : Bool :=
  match w with
  | .mc => mcWrites a
  | .sp => spWrites a
  | .dbg => decide (debugLevel s = 2) && !(inBkdRam a && within a 0x4000513F 0x81)
  | .host _ => false

/-- An accessor may read the address. -/
def mayReadReg (s : State) (w : Writer) (a : Nat) : Bool :=
  match w with
  | .mc => !within a 0x4000B000 0x1000
  | .sp => spReads a
  | .dbg => decide (debugLevel s = 2) || (decide (debugLevel s = 1) && !within a 0x4000B000 0x1000)
  | .host _ => false

/-! ### BAR0 (R287) -/

/-- The register at a BAR0 offset: device registers stand in the HIF block, the rest above 2^32 (log entry 4). -/
def bar0Reg (ofs : Nat) : Nat := if ofs < 0x100 then 0x40032000 + ofs else 0x100000000 + ofs

/-- The BAR0 offset in `HIF_IND_ADDR` (R306). -/
def indReg (s : State) : Nat := bar0Reg ((s.reg R.HIF_IND_ADDR).toNat % 65536 / 4 * 4)

/-! ### Reads -/

/-- The instance among `n` whose register `r k` stands at the address. -/
def instOf (n : Nat) (r : Nat → Nat) (a : Nat) : Option Nat := (List.range n).find? (fun k => decide (a = r k))

/-- The registers whose value is computed from other state; `none`: what is stored. -/
def viewRead (s : State) (a : Nat) : Option Word :=
  match a / 4096 with
  | 0x40001 => rstRead s a
  | 0x40005 => bkdRead s a
  | 0x40006 => (instOf 3 R.GPIO_IN a).map (pinLevels s)
  | 0x40007 | 0x40008 => bmvRead s a
  | 0x4000A => nvrRead s a
  | 0x4000D => agmRead s a
  | 0x4000E => cycRead s a
  | 0x4000F => if a = R.DPR_PLAN_STATUS then some (planStatus s) else dprRead s (a % 4096)
  | 0x40030 => twlRead s a
  | 0x40032 => hifRead s a
  | 0x40033 => dbgRead s a
  | 0x40035 | 0x40036 | 0x40037 => perRead s a
  | 0x40038 => spmRead s a
  | _ => if within a 0x40010000 0x18000 then sflRead s ((a - 0x40010000) / 4096) (a % 4096) else none

/-- What a register holds for a reader: write-only bits read 0 (R13). -/
def regView (s : State) (a : Nat) : Word :=
  match regRow a with
  | some r => plainRead r ((viewRead s a).getD (s.reg a))
  | none => 0

/-- A read of the register at a multiple of 4 by the initiator with a code (R42), and what it changes. -/
def regRead (s : State) (init a : Nat) : Word × State :=
  if inBkdRam a then (word (s.rd a 4), s)
  else if a = R.SYS_CPUNUM then (word (if init ≤ 0x41 then init else 0xFF), s)
  else if a = R.HIF_FWQ_POP then fwqPop s
  else if a = R.HIF_IND_DATA then (regView s (indReg s), s)
  else match perReadEffect s a with
    | some r => r
    | none =>
      let v := regView s a
      if within a 0x40005000 0x1000 then (v, bkdReadEffect s a)
      else if within a 0x4000E000 0x1000 then (v, cycReadEffect s a)
      else if within a 0x4000F000 0x1000 then (v, dprReadEffect s (a % 4096))
      else (v, s)

/-! ### Writes, block by block -/

/-- SYS (R41, R45): only `SYS_BERR_INFO` takes writes; clearing VALID also clears OVF. -/
def sysWrite (s : State) (a : Nat) (v : Word) : State :=
  let s1 := plainReg s a v
  if a = R.SYS_BERR_INFO ∧ v.toNat.testBit 17 = true then s1.setFld F.SYS_BERR_INFO_OVF 0 else s1

def rstWrite (s : State) (a : Nat) (v : Word) : State :=
  if a = R.RST_CTRL then rstCtrl s v
  else if a = R.RST_BLK then blockWrite s false v
  else if a = R.RST_BLK_SFL then blockWrite s true v
  else plainReg s a v

def ckgWrite (s : State) (a : Nat) (v : Word) : State :=
  match instOf 4 R.CKG_CLFREQ a with
  | some c => stepWrite s c (v.toNat % 16)
  | none =>
    let s1 := plainReg s a v
    if a = R.CKG_CL_CTRL ∧ v.toNat.testBit 0 = true then clResume s1 else s1

def pmuWrite (s : State) (a : Nat) (v : Word) : State :=
  if a = R.PMU_DOM_CTRL then domCtrlWrite s v
  else if a = R.PMU_STBY then standbyRequest s v
  else if a = R.PMU_AVS_CFG then avsCfgWrite s v
  else if a = R.PMU_AVS_LIM then avsLimWrite s v
  else if a = R.PMU_AVS_TGT then avsTargetWrite s (v.toNat % 1024)
  else plainReg s a v

/-- The EVC block and the MGS error registers (R514 to R517, R507). -/
def evcWrite (s : State) (a : Nat) (v : Word) : State :=
  if a = R.EVC_EOI then evcEoi s (v.toNat % 256)
  else if a = R.EVC_TAKE then (if v.toNat.testBit 31 then evcTake s (v.toNat % 256) else s)
  else if a = R.EVC_SPUR_CNT then s.setReg a 0
  else if a = R.MC_MGS_ECC then (s.setReg a 0).setReg R.MC_MGS_UEADDR 0
  else plainReg s a v

def bkdWrite (s : State) (a : Nat) (v : Word) : State :=
  if inBkdRam a then s.wr a 4 v.toNat
  else if a = R.BKD_RTC_SEC then rtcSecWrite s v
  else if a = R.BKD_WAKE_EN then s.setReg a (v &&& word wakeEnMask)
  else
    let s1 := plainReg s a v
    if a = R.BKD_CTRL ∧ v.toNat.testBit 1 = true then reqClr s1 else s1

def gpioWrite (s : State) (a : Nat) (v : Word) : State :=
  let s1 := plainReg s a v
  if a = R.GPIO_HOLD ∧ v.toNat.testBit 0 = true then holdRelease s1 else s1

/-- The CVU and the MSE (R323 to R325, R329): INIT and FOLD of a context are written whether or not it is attached. -/
def cvuWrite (s : State) (a : Nat) (v : Word) : State :=
  if a < 0x40007080 then
    let c := (a - 0x40007000) / 0x20
    if a = R.CVU_CFG c then cvuCfgWrite s c v
    else if a = R.CVU_DATA c then cvuData s c 4 v
    else plainReg s a v
  else if a = R.MSE_CTRL then (let s1 := plainReg s a v; if v.toNat.testBit 0 then mseGo s1 else s1)
  else if a = R.MSE_SCRUB_PASS ∨ a = R.MSE_SCRUB_ERR then s.setReg a 0
  else plainReg s a v

/-- The BMV (R318, R330): a channel's CFG and HEAD are written while it is IDLE. -/
def bmvWrite (s : State) (a : Nat) (v : Word) : State :=
  if a = R.BMV_CTRL then (if v.toNat.testBit 0 then haltClr s else s)
  else if a < 0x40008100 then plainReg s a v
  else
    let n := (a - 0x40008100) / 0x20
    if a = R.BMV_CH_CTRL n then
      (let s1 := if v.toNat.testBit 0 then bmvGo s n else s
       if v.toNat.testBit 1 then bmvAbort s1 n else s1)
    else if a = R.BMV_CH_CNT n then s.setReg a 0
    else if (a = R.BMV_CH_CFG n ∨ a = R.BMV_CH_HEAD n) ∧ chState s n ≠ 0 then s
    else plainReg s a v

/-- GO of `PFL_CMD` with the OP written beside it (R376). -/
def pflGo (s : State) (w : Writer) : State :=
  match s.fld F.PFL_CMD_OP with
  | 1 => pflProgram s w
  | 2 => pflErase s w
  | 3 => pflSuspend s
  | 4 => pflResume s
  | _ => s

def pflWrite (s : State) (w : Writer) (a : Nat) (v : Word) : State :=
  if a = R.PFL_CMD then
    (let s1 := s.setFld F.PFL_CMD_OP v.toNat
     if v.toNat.testBit 31 then pflGo s1 w else s1)
  else if a = R.PFL_ECC then s.setReg a 0
  else plainReg s a v

/-- The NVR block (R357, R358, R362, R373, R374, R382). -/
def nvrWrite (s : State) (a : Nat) (v : Word) : State :=
  let b (k : Nat) : Bool := v.toNat.testBit k
  if a = R.NVR_PWD_R then tryPassword s false v
  else if a = R.NVR_PWD_W then tryPassword s true v
  else if a = R.NVR_PWD_NEW then s.setReg a v
  else if a = R.NVR_PWD_CTRL then
    (let s1 := if b 0 then changePassword s false else s
     let s2 := if b 1 then changePassword s1 true else s1
     if b 2 then lockRegion s2 else s2)
  else if a = R.NVR_JCTRL then (if b 0 then queueJournal s else s)
  else if a = R.NVR_PF_CTRL then (let s1 := plainReg s a v; if b 2 then testSave s1 else s1)
  else if a = R.NVR_RET_CTRL then
    (if !b 31 then s.setFld F.NVR_RET_CTRL_OP v.toNat
     else if v.toNat % 4 = 1 then startRestore s
     else if v.toNat % 4 = 2 then invalidate s
     else s.setFld F.NVR_RET_CTRL_OP v.toNat)
  else plainReg s a v

def entWrite (s : State) (a : Nat) (v : Word) : State := if a = R.ENT_REQ then entReq s v else plainReg s a v

/-- The AGM (R473, R475, R477, R480, R352). -/
def agmWrite (s : State) (a : Nat) (v : Word) : State :=
  if a = R.AGM_CTRL then
    (let s1 := plainReg s a v
     if s1.flag F.AGM_CTRL_EN then ledgerFlush (agmStart s1) else { s1 with agm := { s1.agm with started := false, judged := false } })
  else if a = R.AGM_STATUS then critClear (plainReg s a (v &&& 0x0FFFFFFF)) (v.toNat / 2 ^ 28)
  else if a = R.AGM_DERATE_CTRL then healthTell (derateCancel (derateApply s (v.toNat % 16)) (v.toNat / 16 % 16))
  else if a = R.AGM_LEDGER_MARK then ledgerMark s v
  else plainReg s a v

/-- GO of `CYC_CFG_CTRL` (R336). -/
def cfgCtrlWrite (s : State) (v : Word) : State :=
  if !v.toNat.testBit 31 then s.setFld F.CYC_CFG_CTRL_OP v.toNat
  else match v.toNat % 4 with
    | 1 => cfgSelect s
    | 2 => cfgCommit s
    | 3 => cfgAbort s
    | _ => s.setFld F.CYC_CFG_CTRL_OP 0

def cycWrite (s : State) (a : Nat) (v : Word) : State :=
  if a = R.CYC_CTRL then cycCtrlWrite s v
  else if a = R.CYC_MODE_REQ then postMode s ⟨v.toNat / 256 % 4, v.toNat % 64, v.toNat / 65536, .regs⟩
  else if a = R.CYC_CNT_CLR then (if v.toNat.testBit 0 then cycCntClr s else s)
  else if a = R.CYC_CFG_CTRL then cfgCtrlWrite s v
  else if a = R.CYC_CFG_BASE then
    (if s.fld F.CYC_CFG_STATUS_STATE = 0 ∧ v.toNat % 0x40000 = 0 then s.setReg a v else s)
  else cycSet s a v

/-- GO of `DPR_PLAN_CTRL` (R197, R201, R208). -/
def planCtrlWrite (s : State) (v : Word) : State :=
  let s1 := s.setFld F.DPR_PLAN_CTRL_OP v.toNat
  if !v.toNat.testBit 31 then s1
  else match v.toNat % 4 with
    | 1 => startLoad s1 ⟨(s.reg R.DPR_PLAN_SRC).toNat, 0, 0, .regs⟩
    | 2 => requestCommit s1 .regs
    | 3 => abortShadows s1
    | _ => s1

def dprWrite (s : State) (a : Nat) (v : Word) : State :=
  let n := v.toNat
  if a = R.DPR_RETIRE then (if n.testBit 31 then retireEngine s (n % 64) 5 else s)
  else if a = R.DPR_QUAR_REL then (if n.testBit 31 then quarRel s (n.testBit 30) (n % 32768) else s)
  else if a = R.DPR_CNT_CLR then (if n.testBit 0 then dprCntClr s else s)
  else if a = R.DPR_PLAN_CTRL then planCtrlWrite s v
  else if a = R.DPR_LEWIN_SEL then
    (let s1 := plainReg s a v
     if n.testBit 31 then lewinClr s1 (s1.fld F.DPR_LEWIN_SEL_LE) else s1)
  else if a = R.DPR_CSM_ECC_CLR then csmEccClr s (n % 16)
  else dprSet s a v

/-- An SFL block (R260, R268, R273, R274, R276, R281). -/
def sflWrite (s : State) (a : Nat) (v : Word) : State :=
  let l := (a - 0x40010000) / 4096
  let n := v.toNat
  if a = R.SFL_CTRL l then
    (let s1 := if n.testBit 0 && s.flag (F.SFL_CTRL_EN l) then s else sflEn s l (n.testBit 0)
     if n.testBit 1 then retrain s1 l else s1)
  else if a = R.SFL_RESUME l then (if n.testBit 31 then stnAck s l (n / 256 % 32) (n % 64) else s)
  else if a = R.SFL_CNT_CLR l then (if n.testBit 0 then sflCntClr s l else s)
  else if a = R.SFL_ACY_SUB l then (if inMgs n 32 32 then acySubmitRecord s l n else s)
  else if a = R.SFL_ACY_CANCEL l then acyCancelTag s l n
  else if a = R.SFL_PAT_CTRL l then
    (let s1 := patSettings s l v
     let s2 := if n.testBit 1 then patStop s1 l else s1
     if n.testBit 0 then patStart s2 l none else s2)
  else plainReg s a v

def twlWrite (s : State) (a : Nat) (v : Word) : State :=
  if a = R.TWL_CTRL then twlCtrlWrite s v
  else if a = R.TWL_CNT_CLR then (if v.toNat.testBit 0 then twlCntClr s else s)
  else if a = R.TWL_RXBASE then (if twlRole s = 0 ∧ v.toNat % 4096 = 0 then s.setReg a v else s)
  else plainReg s a v

def fpcWrite (s : State) (a : Nat) (v : Word) : State :=
  match instOf 6 R.FPC_CTRL a with
  | some g =>
    let s1 := plainReg s a (F.FPC_CTRL_EN g |>.put v (s.fld (F.FPC_CTRL_EN g)))
    let s2 := if s.flag (F.FPC_CTRL_EN g) = v.toNat.testBit 0 then s1 else fpcEn s1 g (v.toNat.testBit 0)
    if v.toNat.testBit 1 then fpcClr s2 g else s2
  | none => plainReg s a v

/-- The partition of a BAR0 set-up register, the ring of its base or size, and the window of its base (R287). -/
def ringPart (a : Nat) : Nat := (a - 0x100001000) / 0x80
def winPart (a : Nat) : Nat := (a - 0x100004000) / 0x100

/-- A write of the set-up registers of a partition (R287, R289, R292). -/
def setupWrite (s : State) (a : Nat) (v : Word) : State :=
  if 0x100004000 ≤ a then
    let p := winPart a
    let w := a % 0x100 / 0x10
    if a = R.HIF_WCTRL p w then windowWrite s p w v
    else if s.flag (F.HIF_WCTRL_VALID p w) then s
    else plainReg s a v
  else
    let p := ringPart a
    let o := a % 0x80
    if o = 0 then rctrlWrite s p v
    else if 8 ≤ o ∧ o < 0x68 then (if ringAct s p ((o - 8) / 0x10) then s else plainReg s a v)
    else regSet s a v

/-- A BAR0 access that writes (R287). -/
def bar0Write (s : State) (a : Nat) (v : Word) : State :=
  if (regRow a).isNone then s
  else if 0x100000000 ≤ a then setupWrite s a v
  else if hifCounter a then s.setReg a 0
  else hifSet s a v

def hifWrite (s : State) (a : Nat) (v : Word) : State :=
  if a < 0x40032100 then bar0Write s a v
  else if a = R.HIF_CTRL then
    (let s1 := plainReg s a v
     if s1.flag F.HIF_CTRL_LTSSM_EN then { s1 with pmu := { s1.pmu with wakeN := false } } else s1)
  else if a = R.HIF_SSID then (if s.flag F.HIF_CTRL_LTSSM_EN then s else plainReg s a v)
  else if a = R.HIF_IND_ADDR then s.setReg a (word (v.toNat % 65536 / 4 * 4))
  else if a = R.HIF_IND_DATA then bar0Write s (indReg s) v
  else if a = R.HIF_FWQ_BASE then
    (if s.flag F.HIF_CTRL_READY ∨ v.toNat % 4096 ≠ 0 then s else s.setReg a v)
  else if a = R.HIF_FW_CPL then fwComplete s v.toNat
  else if a = R.HIF_HOST_MSG then hostMsg s v
  else hifSet s a v

/-- UART (R525): the divisor changes only while EN is 0, and is at least 1. -/
def uartCfgWrite (s : State) (n : Nat) (v : Word) : State :=
  let was := s.flag (F.UART_CFG_EN n)
  let s1 := plainReg s (R.UART_CFG n) v
  let keepDiv (t : State) : State :=
    (t.setFld (F.UART_CFG_DIVI n) (s.fld (F.UART_CFG_DIVI n))).setFld (F.UART_CFG_DIVF n) (s.fld (F.UART_CFG_DIVF n))
  if was then keepDiv s1
  else if s1.fld (F.UART_CFG_DIVI n) = 0 then s1.setFld (F.UART_CFG_DIVI n) (s.fld (F.UART_CFG_DIVI n))
  else s1

/-- SCL or SDA of a controller stands low at a pin that carries it (R527). -/
def i2cHeld (s : State) (j : Nat) : Bool :=
  (List.range 3).any (fun p => (List.range 16).any (fun i =>
    (pinFn p i (pinMux s p i) == some (.i2c j 0) || pinFn p i (pinMux s p i) == some (.i2c j 1)) &&
      !(pinLevels s p).toNat.testBit i))

def i2cWrite (s : State) (j a : Nat) (v : Word) : State :=
  if a = R.I2C_CMD j then i2cPush s j (v.toNat / 256 % 8) (v.toNat % 256)
  else
    let s1 := plainReg s a v
    if a = R.I2C_CFG j ∧ v.toNat.testBit 2 = true ∧ i2cHeld s1 j = true then i2cRecover s1 j else s1

/-- SPI (R526): DIV 1 to 255. -/
def spiCfgWrite (s : State) (m : Nat) (v : Word) : State :=
  let s1 := plainReg s (R.SPI_CFG m) v
  spiSelect (if s1.fld (F.SPI_CFG_DIV m) = 0 then s1.setFld (F.SPI_CFG_DIV m) (s.fld (F.SPI_CFG_DIV m)) else s1) m

/-- WDT_SP (R529): as WDT_SYS, its fields are locked by EN. -/
def wdtSpCtrl (s : State) (v : Word) : State :=
  if s.flag F.WDT_SP_CTRL_EN then s
  else
    let s1 := (s.setFldIn F.WDT_SP_CTRL_PERIOD 1 65535 (v.toNat / 65536)).setFld F.WDT_SP_CTRL_EARLY (v.toNat / 256)
    let s2 := s1.setFld F.WDT_SP_CTRL_WINDOW (v.toNat / 2)
    if v.toNat.testBit 0 then wdtSpLoad s2 (s2.fld F.WDT_SP_CTRL_PERIOD) else s2

/-- UARTs, SPI, I²C, timers and watchdogs (R525 to R529). -/
def perWrite (s : State) (a : Nat) (v : Word) : State :=
  if a < 0x40036000 then
    (let n := (a - 0x40035000) / 0x400
     if a = R.UART_DATA n then uartPush s n (v.toNat % 256)
     else if a = R.UART_CFG n then uartCfgWrite s n v
     else plainReg s a v)
  else if a < 0x40036200 then
    (let m := (a - 0x40036000) / 0x100
     if a = R.SPI_DATA m then spiPush s m v.toNat
     else if a = R.SPI_CFG m then spiCfgWrite s m v
     else plainReg s a v)
  else if a < 0x40037000 then i2cWrite s ((a - 0x40036200) / 0x100) a v
  else if a < 0x40037100 then
    (let k := (a - 0x40037000) / 0x20
     if a = R.TMR_CTRL k then tmrCtrl s k v else plainReg s a v)
  else if a = R.WDT_SYS_CTRL then wdtCtrl s v
  else if a = R.WDT_SYS_KICK then wdtKick s (v.toNat % 65536)
  else if a = R.WDT_SP_CTRL then wdtSpCtrl s v
  else if a = R.WDT_SP_KICK then wdtSpKick s (v.toNat % 65536)
  else plainReg s a v

/-- After a write, the level sources of the peripherals and ports follow their conditions (R511). -/
def tellSource (s : State) (a : Nat) : State :=
  match perSource a with
  | some src => periphTell s src
  | none => s

/-- A write of the register at a multiple of 4. -/
def regWrite (s : State) (w : Writer) (a : Nat) (v : Word) : State :=
  match a / 4096 with
  | 0x40000 => sysWrite s a v
  | 0x40001 => rstWrite s a v
  | 0x40002 => ckgWrite s a v
  | 0x40003 => pmuWrite s a v
  | 0x40004 => evcWrite s a v
  | 0x40005 => bkdWrite s a v
  | 0x40006 => tellSource (gpioWrite s a v) a
  | 0x40007 => cvuWrite s a v
  | 0x40008 => bmvWrite s a v
  | 0x40009 => pflWrite s w a v
  | 0x4000A => nvrWrite s a v
  | 0x4000C => entWrite s a v
  | 0x4000D => agmWrite s a v
  | 0x4000E => cycWrite s a v
  | 0x4000F => dprWrite s a v
  | 0x40030 => twlWrite s a v
  | 0x40031 => fpcWrite s a v
  | 0x40032 => hifWrite s a v
  | 0x40033 => dbgWrite s w a v
  | 0x40034 => trcWrite s a v
  | 0x40035 | 0x40036 | 0x40037 => tellSource (perWrite s a v) a
  | 0x40038 => if a = R.SPM_START_OK then startOk s v else plainReg s a v
  | _ => if within a 0x40010000 0x18000 then sflWrite s a v else s

end Sys2Proof.Machine
end

