-- ==== Sys2Proof/Machine/Fabric.lean ====
section
/-! DEFINITION. The fabric: regions and rights (R40 to R46), domains and wrappers on the way (R424, R445), and what each
region does with a read or a write of up to 64 bytes. -/

namespace Sys2Proof.Machine

/-- An initiator of the fabric (R42); `sup` is the mode of a processor. -/
inductive Init where
  | cpu (p : ProcId) (sup : Bool)
  | bmv
  | dbg
  | hif | xbl | save | twl
  deriving DecidableEq, Repr

def Init.code : Init → Nat
  | .cpu p _ => initCode p
  | .bmv => codeBmv
  | .dbg => codeDbg
  | .hif => codeHif
  | .xbl => codeXbl
  | .save => codeSave
  | .twl => codeTwl

/-- The regions of R40. -/
inductive Region where
  | spRom | spRam | mgs | ssm
  | csm (c : Nat)
  | lim (n : Nat)
  | ldm (n : Nat)
  | per | nvr | pfl | octal | host | trace
  deriving DecidableEq, Repr

def region (a : Nat) : Option Region :=
  if a < 0x20000 then some .spRom
  else if within a 0x01000000 0x20000 then some .spRam
  else if within a 0x10000000 0x200000 then some .mgs
  else if within a 0x20000000 0x80000 then some .ssm
  else if within a 0x30000000 0x4000000 then (if a % 0x1000000 < 0x100000 then some (.csm (a / 0x1000000 % 16)) else none)
  else if within a 0x38000000 0x400000 then
    (let n := (a - 0x38000000) / 0x10000
     if a % 0x10000 < 0x8000 then some (.lim n) else if a % 0x10000 < 0xC000 then some (.ldm n) else none)
  else if inPeriphery a then some .per
  else if within a 0x50000000 0x100000 then some .nvr
  else if within a 0x58000000 0x100000 then some .pfl
  else if within a 0x60000000 0x4000000 then some .octal
  else if within a 0x70000000 0x10000000 then some .host
  else if within a 0x80000000 0x40000 then some .trace
  else none

/-- The whole range lies in the region of its first byte. -/
def regionFor (a n : Nat) : Option Region := if region a = region (a + n - 1) then region a else none

/-- How an access ends: the bytes read (none for a write), an error with the KIND of a late store error (R105), an
uncorrectable error told as such (R94), or not yet: the target's domain wakes or its controller is busy. -/
inductive Acc where
  | ok (l : List Byte)
  | err (kind : Nat)
  | ecc
  | held
  deriving DecidableEq, Repr

/-! ### Rights -/

/-- The accessor of registers that an initiator is. -/
def Init.writer : Init → Option Writer
  | .cpu .mc _ => some .mc
  | .cpu .sp _ => some .sp
  | .cpu (.le _) _ => none
  | .bmv | .hif | .xbl | .save | .twl => none
  | .dbg => some .dbg

/-- What the MC's column of R43 permits; the SP ROM in a flat start alone (R387). -/
def mcMay (g : Region) (write : Bool) : Bool :=
  match g with
  | .mgs | .ssm | .csm _ | .lim _ | .ldm _ | .per | .nvr | .host => true
  | .pfl | .octal | .trace => !write
  | .spRom | .spRam => false

/-- R43 by initiator. An engine's task-mode access has passed R82 before it leaves the pipeline. -/
def initMay (s : State) (i : Init) (g : Region) (write : Bool) : Bool :=
  match i with
  | .cpu .sp _ =>
    (match g with
     | .spRom | .pfl | .octal => !write
     | .spRam | .mgs | .per | .nvr => true
     | _ => false)
  | .cpu .mc _ => mcMay g write || (g == .spRom && !write && s.flat)
  | .cpu (.le _) _ => (match g with | .csm _ => true | _ => false)
  | .bmv =>
    (match g with
     | .mgs | .ssm | .csm _ | .lim _ | .ldm _ | .nvr | .host => true
     | .pfl | .octal | .trace => !write
     | _ => false)
  | .hif => (match g with | .mgs | .ssm => true | _ => false)
  | .xbl => (match g with | .mgs | .lim _ => true | .octal => !write | _ => false)
  | .save => (match g with | .mgs | .nvr => true | _ => false)
  | .twl => (match g with | .mgs => true | _ => false)
  | .dbg => decide ((if write then 2 else 1) ≤ debugLevel s) && mcMay g write

/-- The registers of a range take the access, the backup RAM byte by byte (R15, R41, R459). -/
def regsMay (s : State) (i : Init) (write : Bool) (a n : Nat) : Bool :=
  match i.writer with
  | none => false
  | some w => (List.range ((a % 4 + n + 3) / 4)).all (fun k =>
      let r := a / 4 * 4 + 4 * k
      occupied r && (if write then mayWriteReg s w r else mayReadReg s w r)) &&
      (!write || (List.range n).all (fun k => !inBkdRam (a + k) || mayWriteReg s w (a + k)))

/-- Part of the DPR's area of a CSM (R112). -/
def inDprArea (a n : Nat) : Bool := within a 0x30000000 0x4000000 && decide (0xFC000 < a % 0x1000000 + n)

/-- The NVR's ranges that fabric writes may reach (R354). -/
def nvrWritable (a : Nat) : Bool := decide (a < 0x50040000 ∨ (0x50042000 ≤ a ∧ a < 0x50060000))

/-- Slots that a range meets. -/
def slotsOf (a n : Nat) : List Nat := (List.range ((a % 8 + n + 7) / 8)).map (fun k => (a - 0x20000000) / 8 + k)

/-- What a region refuses on its own: the DPR's area, the snapshot buffer, the NVR's closed ranges, locks and passwords, sector 0, the
released flash, signals of other partitions (R32, R112, R186, R354, R357, R358, R368, R375, R395). -/
def regionMay (s : State) (i : Init) (part : Nat) (g : Region) (write : Bool) (a n : Nat) : Bool :=
  match g with
  | .csm _ => !inDprArea a n
  | .mgs => !(write && snapClosed s a n)
  | .per => regsMay s i write a n
  | .nvr => !s.saving && (!write || nvrWritable a) && !regionLocked s (regionOf a) && regionOpen s (regionOf a) write
  | .pfl => decide (0x58001000 ≤ a) || (match i with | .cpu .sp _ => true | _ => false)
  | .octal => !s.flag F.SPM_BOOT_STAT_RELEASED
  | .ssm => write || (slotsOf a n).all (s.mayReadSlot part)
  | _ => true

/-! ### The way to a block -/

/-- Step 4 of the bring-up has not ended, and initialises the memory (R421). -/
def uninitialised (s : State) (a : Nat) : Bool :=
  decide (1 ≤ s.fld F.RST_SEQ_STEP ∧ s.fld F.RST_SEQ_STEP ≤ 4) &&
    (match region a with
     | some .mgs | some .ssm | some (.csm _) | some (.lim _) | some (.ldm _) => true
     | _ => false)

/-- The controllers that hold or refuse a read for a while: the NVR before READY (R363), the PFL during an operation (R377). -/
def busyAt (s : State) (g : Region) (a : Nat) : Option Acc :=
  match g with
  | .nvr => if s.flag F.NVR_STATUS_READY then none else some .held
  | .pfl =>
    (match s.pfl.op with
     | some (.program _ _ _) => some .held
     | some (.erase _) => some (.err 1)
     | none => if s.pfl.suspended == some ((a - 0x58000000) / 4096) then some (.err 1) else none)
  | _ => none

/-- Wrapper, domain and bring-up on the way to an address: `none` where the access is served (R421, R424, R445). -/
def passage (s : State) (a : Nat) : Option Acc × State :=
  if s.wrapped a then (some (.err 3), s)
  else
    match asleep s a with
    | some d => let r := wakeAccess s d; (some (if r.1 then .held else .err 4), r.2)
    | none => if uninitialised s a then (some (.err 1), s) else (none, s)

/-! ### Bus errors (R46) -/

def busErr (s : State) (i : Init) (part a : Nat) (write : Bool) : State := busErrOf s i.code part a write

/-! ### Check bits (R84, R110, R377, R507) -/

/-- A word with marked check bits meets a range. -/
def meetsWord (a n e : Nat) : Bool := meets a n (eccWord e).1 (eccWord e).2

/-- Engine counters of corrected errors (R84). -/
def countEcc (s : State) (n k : Nat) (lim : Bool) : State :=
  let c := s.le n
  s.setLe n { c with k := if lim then { c.k with eccLim := min 65535 (c.k.eccLim + k) }
    else { c.k with eccLdm := min 65535 (c.k.eccLdm + k) } }

/-- Adds `k` to a saturating field. -/
def countBy (s : State) (f : Fld) : Nat → State
  | 0 => s
  | k + 1 => countBy (s.count f) f k

/-- `k` corrected errors of a region are counted. -/
def countCorr (s : State) (g : Region) (k : Nat) : State :=
  match g with
  | .csm c => countBy s (F.DPR_CSM_ECC_CORR c) k
  | .mgs => countBy s F.MC_MGS_ECC_CORR k
  | .lim n => countEcc s n k true
  | .ldm n => countEcc s n k false
  | .pfl => countBy s F.PFL_ECC_CORR k
  | _ => s

/-- An uncorrectable error at a word: counted and its address kept, as the region does. -/
def countUncorr (s : State) (g : Region) (e : Nat) : State :=
  match g with
  | .csm c => (s.count (F.DPR_CSM_ECC_UNCORR c)).setReg (R.DPR_CSM_UEADDR c) (word (eccWord e).1)
  | .mgs => mgsUe s e
  | .pfl => evcIf ((s.count F.PFL_ECC_UNCORR).setReg R.PFL_ECC_ADDR (word (eccWord e).1)) F.PFL_EVT_EN_EN 60 1
  | _ => s

/-- How an uncorrectable error reaches the initiator: a loading engine of a CSM and the MC at MGS take DATA_ECC. -/
def uncorrAcc (i : Init) (g : Region) : Acc :=
  match i, g with
  | .cpu (.le _) _, .csm _ => .ecc
  | .cpu .mc _, .mgs => .ecc
  | _, _ => .err 1

/-- The words of a range are read with their check bits: `none`, or the word of an uncorrectable error. The PFL's words are
not written back. -/
def eccRead (s : State) (g : Region) (a n : Nat) : Option Nat × State :=
  match s.ecc2.find? (meetsWord a n) with
  | some e => (some e, countUncorr s g e)
  | none =>
    let hits := s.ecc1.filter (meetsWord a n)
    if hits = [] then (none, s)
    else
      let s1 := countCorr s g hits.length
      (none, if g = .pfl then s1 else { s1 with ecc1 := s1.ecc1.filter (fun e => !hits.contains e) })

/-- The words of a range that a write does not cover whole are read first (R84, R110). -/
def eccWrite (s : State) (g : Region) (a n : Nat) : Option Nat × State :=
  let partly (e : Nat) : Bool := meetsWord a n e && !coversWord a n e
  match s.ecc2.find? partly with
  | some e => (some e, countUncorr s g e)
  | none =>
    let hits := s.ecc1.filter partly
    if hits = [] then (none, s)
    else (none, { countCorr s g hits.length with ecc1 := s.ecc1.filter (fun e => !hits.contains e) })

/-! ### Reads by region -/

/-- The registers of a range, 4 bytes each. -/
def regWords (s : State) (init a : Nat) : Nat → List Byte × State
  | 0 => ([], s)
  | k + 1 =>
    let r := regRead s init a
    let t := regWords r.2 init (a + 4) k
    (leBytes 4 r.1.toNat ++ t.1, t.2)

/-- The bytes of slots (R22). -/
def ssmBytes (s : State) (a n : Nat) : List Byte :=
  ((((slotsOf a n).map (fun k => leBytes 8 (s.slot64 k))).flatten).drop (a % 8)).take n

/-- The address of byte `k` of an NVR access: it stays in its 256-byte page (R355). -/
def nvrByte (a k : Nat) : Nat := a / 256 * 256 + (a % 256 + k) % 256

/-- The host address that a host window access reaches, where the partition's window admits it (R288, R290). -/
def hostAddr (s : State) (i : Init) (part : Nat) (write : Bool) (a n : Nat) : Option Nat :=
  let p := match i with | .cpu .mc _ => 0 | _ => part
  let w := (a - 0x70000000) / 0x1000000
  let h := winBase s p w + a % 0x1000000
  if a % 0x1000000 + n ≤ winSize s p w ∧ winHolds s p write h n w = true then some h else none

/-- A read that is permitted and served. -/
def regionRead (s : State) (i : Init) (part : Nat) (g : Region) (a n : Nat) (d : HostData) : Acc × State :=
  match g with
  | .per =>
    let r := regWords s i.code (a / 4 * 4) ((a % 4 + n + 3) / 4)
    (.ok ((r.1.drop (a % 4)).take n), r.2)
  | .ssm => (.ok (ssmBytes s a n), s)
  | .nvr => (.ok ((List.range n).map (fun k => s.byte (nvrByte a k))), s)
  | .host =>
    (match hostAddr s i part false a n, d with
     | some _, .bytes l => (.ok (padTo (l.take n) n), s)
     | _, _ => (.err 1, s))
  | g =>
    (match eccRead s g a n with
     | (some _, s1) => (uncorrAcc i g, s1)
     | (none, s1) => (.ok (s1.look a n), s1))

/-! ### Writes by region -/

/-- A write of a register: a narrower one leaves the other bits as they stand, but `CVU_DATA` takes 1, 2 or 4 bytes
(R323). -/
def regStore (s : State) (w : Writer) (a : Nat) (l : List Byte) : State :=
  let r := a / 4 * 4
  if l.length < 4 ∧ within r 0x40007000 0x80 = true ∧ r % 0x20 = 0xC then
    tellSource (cvuData s ((a - 0x40007000) / 0x20) l.length (word (leNat l))) r
  else
    let clear : Nat := match regRow r with | some row => row.w1c | none => 0
    let old := leBytes 4 (s.reg r &&& ~~~word clear).toNat
    let l4 := old.take (a % 4) ++ l ++ old.drop (a % 4 + l.length)
    if inBkdRam a then s.setBytes a l else regWrite s w r (word (leNat l4))

/-- The registers of a range, a word at a time. -/
def regStores (s : State) (w : Writer) (a : Nat) : List (List Byte) → State
  | [] => s
  | l :: ls => regStores (regStore s w a l) w (a + l.length) ls

/-- A write of a slot's bytes: an internal slot of the partition takes value and status bytes (R24, R25, R33, R312). -/
def slotWrite (part : Nat) (a : Nat) (l : List Byte) (s : State) (k : Nat) : State :=
  let b := s.thePlan.bind k
  if b.kind ≠ 0 ∨ b.owner ≠ part then ownViolation s
  else
    let base := 0x20000000 + 8 * k
    let old := leBytes 8 (s.slot64 k)
    let new := (List.range 8).map (fun j => if a ≤ base + j ∧ base + j < a + l.length then l.getD (base + j - a) 0 else old.getD j 0)
    s.writeInternal k (some (word (leNat (new.take 4)))) (some (leNat ((new.drop 4).take 2)))

/-- A write that is permitted and served; writes to the host are posted (R291). -/
def regionWrite (s : State) (i : Init) (part : Nat) (g : Region) (a : Nat) (l : List Byte) : Acc × State :=
  let n := l.length
  match g with
  | .per =>
    (match i.writer with
     | some w => (.ok [], regStores s w a (if n ≤ 4 then [l] else [l.take 4, l.drop 4]))
     | none => (.err 1, s))
  | .ssm => (.ok [], (slotsOf a n).foldl (slotWrite part a l) s)
  | .nvr => (.ok [], (List.range n).foldl (fun t k => t.setByte (nvrByte a k) (l.getD k 0)) s)
  | .host =>
    (match hostAddr s i part true a n with
     | some h => (.ok [], s.post (.write h l))
     | none => (.err 1, s))
  | g =>
    (match eccWrite s g a n with
     | (some _, s1) => (.err (match g with | .csm _ => 2 | _ => 1), s1)
     | (none, s1) => (.ok [], (s1.store a l).define a n))

/-! ### Accesses -/

/-- Rights, way and region of one access, with the capture of R46, whatever the initiator and the KIND (R104). The NVR judges an access
itself, once its domain is on and it is ready (R363). -/
def access (s : State) (i : Init) (part : Nat) (write : Bool) (a n : Nat) (serve : State → Region → Acc × State) : Acc × State :=
  let r : Acc × State :=
    match regionFor a n with
    | none => (.err 1, s)
    | some g =>
      if !initMay s i g write || (g != .nvr && !regionMay s i part g write a n) then (.err 1, s)
      else
        match passage s a with
        | (some e, s1) => (e, s1)
        | (none, s1) =>
          match busyAt s1 g a with
          | some e => (e, s1)
          | none => if regionMay s1 i part g write a n then serve s1 g else (.err 1, s1)
  match r with
  | (.err k, s1) => (.err k, busErr s1 i part a write)
  | r => r

/-- A read of `n` bytes, at most 64; `d` is what the host answers (R290). -/
def fabRead (s : State) (i : Init) (part a n : Nat) (d : HostData) : Acc × State :=
  access s i part false a n (fun t g => regionRead t i part g a n d)

/-- A write. -/
def fabWrite (s : State) (i : Init) (part a : Nat) (l : List Byte) : Acc × State :=
  access s i part true a l.length (fun t g => regionWrite t i part g a l)

/-- What a read answers a processor: data, a bus error, an uncorrectable error, a refused signal read (R32, R43, R94), or not
yet. -/
inductive BusRes where
  | ok (v : Nat)
  | err
  | ecc
  | signal
  | held
  deriving DecidableEq, Repr

/-- A load of `size` bytes. -/
def busRead (s : State) (i : Init) (part a size : Nat) (d : HostData) : BusRes × State :=
  match fabRead s i part a size d with
  | (.ok l, s1) => (.ok (leNat l), s1)
  | (.err _, s1) => (.err, s1)
  | (.ecc, s1) => (.ecc, s1)
  | (.held, s1) => (.held, s1)

/-- A read through signal addressing of part `k` of a slot (R32, R124). -/
def sigAccess (s : State) (i : Init) (part slot k : Nat) : BusRes × State :=
  match passage s (0x20000000 + 8 * slot) with
  | (some .held, s1) => (.held, s1)
  | (some _, s1) => (.err, busErr s1 i part (0x20000000 + 8 * slot) false)
  | (none, s1) => if s1.mayReadSlot part slot then (.ok (s1.sigPart slot k), s1) else (.signal, s1)

/-- The engine that an initiator is. -/
def Init.engine : Init → Option Nat
  | .cpu (.le n) _ => some n.val
  | _ => none

/-- A store through signal addressing: output-bound slots go to the CMU, from engines alone; the others to the SSM write port,
which drops writes of input-bound slots after its earlier checks (R24, R25, R125, R163). -/
def sigStore (s : State) (i : Init) (b : StoreEntry) (slot k : Nat) : State :=
  match (s.thePlan.bind slot).kind with
  | 2 => if i.engine.isSome then cmuStore s i.engine b slot k else ownViolation s
  | 0 => ssmStore s i.engine b slot k
  | _ =>
    if staleStore s b i.engine then s.countReg R.DPR_STALE_DROP
    else if lateStore s i.engine b then s.countReg R.CMU_LATE_DROP
    else ownViolation s

/-- A task-mode store of an engine inside a state block whose generation is not the block's current one (R162). -/
def staleTask (s : State) (i : Init) (b : StoreEntry) : Bool := b.task && staleStore s b i.engine

/-- The write of a buffered store at its target: the KIND of a late store error, 0 for a normal response, or `none`: not
yet. -/
def busStore (s : State) (i : Init) (b : StoreEntry) : Option Nat × State :=
  match b.kind with
  | .sig k =>
    let slot := (b.addr - 0x20000000) / 8
    (match passage s (0x20000000 + 8 * slot) with
     | (some .held, s1) => (none, s1)
     | (some (.err e), s1) => (some e, busErr s1 i b.part b.addr true)
     | (some _, s1) => (some 1, s1)
     | (none, s1) => (some 0, sigStore s1 i b slot k))
  | .plain =>
    if staleTask s i b then (some 0, s.countReg R.DPR_STALE_DROP)
    else
      match fabWrite s i b.part b.addr (leBytes b.size b.data.toNat) with
      | (.ok _, s1) => (some 0, s1)
      | (.err k, s1) => (some k, s1)
      | (.ecc, s1) => (some 1, s1)
      | (.held, s1) => (none, s1)

end Sys2Proof.Machine
end

