-- ==== Sys2Proof/Machine/BmvRun.lean ====
section
/-! DEFINITION. The Block Mover's bursts (R307, R311 to R318, R324) and the Memory Scan Engine's job and scrub (R325 to
R328). -/

namespace Sys2Proof.Machine

/-! ### The checks before an element (R313) -/

/-- One range of an element against R313: the number of the first check that fails, 0 where it passes. -/
def rangeCheck (s : State) (part : Nat) (write : Bool) (a n : Nat) : Nat :=
  match regionFor a n with
  | none => 1
  | some g =>
    if initMay s .bmv g write = false ∨ (g = .pfl ∧ a < 0x58001000) then 2
    else if (match g with | .csm _ => inDprArea a n | _ => false) || (write && snapClosed s a n) then 3
    else if g = .host ∧ (hostAddr s .bmv part write a n).isNone = true then 4
    else if g = .ssm ∧ write = false ∧ (slotsOf a n).all (s.mayReadSlot part) = false then 5
    else if (match g with | .csm _ => true | _ => false) && write && decide (a % 0x1000000 < 0xFC000) && s.cycEn && !s.service then 6
    else 0

/-- The status of each check of R313. -/
def checkStatus : Nat → Nat
  | 0 => St.ok
  | 1 => St.badDescriptor
  | 4 => St.windowFault
  | 6 => St.modeRefused
  | _ => St.notOwner

/-- Source and destination of the bytes of element `k` (counted from 0) from byte `j` of it on. -/
def BmvDesc.ends (x : BmvDesc) (k j : Nat) : Nat × Nat :=
  let e := x.elems.getD k (0, 0)
  let c := x.contig + ((x.elems.take k).map Prod.snd).sum + j
  if x.scatter then (c, e.1 + j) else (e.1 + j, c)

/-- The checks of element `k` on its source and its destination range: the first check that fails gives the status. -/
def elemStatus (s : State) (part : Nat) (x : BmvDesc) (k : Nat) : Nat :=
  let n := (x.elems.getD k (0, 0)).2
  let p := x.ends k 0
  let a := rangeCheck s part false p.1 n
  let b := rangeCheck s part true p.2 n
  checkStatus (if a = 0 then b else if b = 0 then a else min a b)

/-! ### One burst -/

/-- Bytes that lie before the next 64-byte boundary. -/
def to64 (a : Nat) : Nat := 64 - a % 64

/-- Data behind the first `n` bytes. -/
def dataFrom (d : HostData) (n : Nat) : HostData := match d with | .bytes l => .bytes (l.drop n) | .error => .error

/-- Why accesses stopped: all were answered; one waits for its domain; one met an error response at an address. -/
inductive Moved where
  | all | held | error (a : Nat)
  deriving DecidableEq, Repr

/-- The BMV reads by the accesses listed (R312): the bytes returned good. -/
def bmvReads (s : State) (part : Nat) (d : HostData) : List (Nat × Nat) → List Byte × Moved × State
  | [] => ([], .all, s)
  | (a, n) :: l =>
    match fabRead s .bmv part a n d with
    | (.ok b, s1) =>
      let r := bmvReads s1 part (dataFrom d n) l
      (b ++ r.1, r.2.1, r.2.2)
    | (.held, s1) => ([], .held, s1)
    | (_, s1) => ([], .error a, s1)

/-- The BMV writes by the accesses listed: how many bytes had a good response. -/
def bmvWrites (s : State) (part : Nat) (b : List Byte) : List (Nat × Nat) → Nat × Moved × State
  | [] => (0, .all, s)
  | (a, n) :: l =>
    match fabWrite s .bmv part a (b.take n) with
    | (.ok _, s1) =>
      let r := bmvWrites s1 part (b.drop n) l
      (n + r.1, r.2.1, r.2.2)
    | (.held, s1) => (0, .held, s1)
    | (_, s1) => (0, .error a, s1)

/-- A range of at most 64 bytes in accesses. -/
def split (a n : Nat) : List (Nat × Nat) := accesses a n n

/-- An error response to an access halts the BMV (R318); `n`: the channel of a write. -/
def haltOn (s : State) (m : Moved) (n : Option Nat) : State := match m with | .error a => bmvHalt s a n | _ => s

/-- Two ranges share a byte. -/
def meetRange (a b : Nat × Nat) : Bool := decide (a.1 < b.1 + b.2 ∧ b.1 < a.1 + a.2)

/-- A source range of the descriptor overlaps a destination range (R309). -/
def BmvDesc.overlaps (x : BmvDesc) : Bool := x.elems.any (meetRange (x.contig, x.total))

/-- Bytes that reach the destination: undefined ones where source and destination overlap (R309). -/
def movedBytes (s : State) (x : BmvDesc) (l : List Byte) : List Byte × State :=
  if x.overlaps then
    ((List.range l.length).map (fun j => BitVec.ofNat 8 (Config.freeValue (s.draws + j))), { s with draws := s.draws + l.length })
  else (l, s)

/-- Some channel's stop is known: nothing more of it is issued. -/
def chEnds (s : State) (n st el : Nat) : State := s.setCh n { s.ch n with ending := some (st, el) }

/-- The accesses after the stream: APPEND writes the check, STRIP reads and compares it (R324); the descriptor's ending is
then known. -/
def checkBurst (s : State) (n part : Nat) (x : BmvDesc) (d : HostData) : State :=
  let a := x.contig + x.total
  match x.op with
  | 2 =>
    let k := (s.ch n).chk
    let b := (cvuBytes s x.ctx).drop k
    let w := bmvWrites s part b (split (a + k) b.length)
    let s1 := w.2.2.setCh n { w.2.2.ch n with chk := k + w.1 }
    if w.2.1 = .all then chEnds s1 n St.ok 0 else haltOn s1 w.2.1 (some n)
  | 3 =>
    let r := bmvReads s part d (split a (cvuW s x.ctx))
    let s1 := r.2.2
    if r.2.1 ≠ .all then haltOn s1 r.2.1 none
    else if r.1 = cvuBytes s1 x.ctx then chEnds s1 n St.ok 0
    else chEnds (s1.setFld (F.CVU_CFG_FAIL x.ctx) 1) n St.checkFail 0
  | _ => chEnds s n St.ok 0

/-- One piece of the stream, inside one 64-byte block of the source and one of the destination (R307, R312): what a read
returned good is written, an error halts the BMV (R318). -/
def pieceBurst (s : State) (n part : Nat) (x : BmvDesc) (d : HostData) : State :=
  let c := s.ch n
  let len := (x.elems.getD c.done (0, 0)).2
  let p := x.ends c.done c.eofs
  let k := min (len - c.eofs) (min (to64 p.1) (to64 p.2))
  let r := bmvReads s part d (split p.1 k)
  let b := movedBytes r.2.2 x r.1
  let w := bmvWrites b.2 part b.1 (split p.2 r.1.length)
  let s2 := w.2.2
  let s3 := if x.op = 0 then s2 else cvuFeed s2 x.ctx (r.1.take w.1)
  let c2 := s3.ch n
  let s4 := s3.setCh n (if c.eofs + w.1 = len then { c2 with done := c.done + 1, eofs := 0 } else { c2 with eofs := c.eofs + w.1 })
  let s5 := if c.eofs + w.1 = len ∧ c.done + 1 = x.elems.length ∧ (x.op = 0 ∨ x.op = 1) then chEnds s4 n St.ok 0 else s4
  haltOn (haltOn s5 r.2.1 none) w.2.1 (some n)

/-- A channel's turn: the checks at the start of an element, a piece of it, or the check after the stream. -/
def channelBurst (s : State) (n : Nat) (x : BmvDesc) (d : HostData) : State :=
  let c := s.ch n
  let part := chPart s n
  if x.elems.length ≤ c.done then checkBurst s n part x d
  else
    let st := if c.eofs = 0 then elemStatus s part x c.done else St.ok
    if st ≠ St.ok then chEnds s n st (c.done + 1) else pieceBurst s n part x d

/-- The channels in the order of their turns. -/
def turns (s : State) : List Nat := (List.range 16).map (fun k => (s.bmv.rr + k) % 16)

/-- A channel has bursts to issue. -/
def mayBurst (s : State) (n : Nat) : Bool := decide (chState s n = 1) && (s.ch n).desc.isSome && (s.ch n).ending.isNone

/-- BMV_BURST (R307): the next channel in round-robin order moves one burst. -/
def execBmvBurst (d : HostData) (s : State) : Outcome :=
  if s.dbgHalted || s.flag F.BMV_STATUS_HALT || !bmvServes s then .next s
  else
    match (turns s).find? (mayBurst s) with
    | none => .next s
    | some n =>
      match (s.ch n).desc with
      | none => .next s
      | some x =>
        let s1 := channelBurst s n x d
        .next { s1 with bmv := { s1.bmv with rr := (n + 1) % 16 } }

/-! ### Jobs of the MSE (R325) -/

/-- The regions that a job may read. -/
def mseMay (a n : Nat) : Bool :=
  match regionFor a n with
  | some .mgs => true
  | some (.csm _) => !inDprArea a n
  | some (.lim _) => true
  | some (.ldm _) => true
  | some .nvr => true
  | some .pfl => decide (0x58001000 ≤ a)
  | some .octal => true
  | _ => false

/-- What a region answers to the job's read at one address of it, once the way there is open. -/
def mseAnswer (s : State) (g : Region) (a : Nat) : Option Acc :=
  match busyAt s g a with
  | some e => some e
  | none =>
    if (g = .nvr ∧ (s.saving = true ∨ regionLocked s (regionOf a) = true ∨ regionOpen s (regionOf a) false = false)) ∨
        (g = .octal ∧ s.flag F.SPM_BOOT_STAT_RELEASED = true) then some (.err 1)
    else none

/-- The addresses of a range at which the answer can change: its first, and the sectors of 4 KiB that begin in it. -/
def mseSteps (a n : Nat) : List Nat :=
  a :: ((List.range (n / 4096 + 1)).map (fun k => (a / 4096 + 1 + k) * 4096)).filter (fun x => decide (x < a + n))

/-- What stands against a job's reads: nothing, an error response with its address, or not yet. -/
def mseWay (s : State) (g : Region) (a n : Nat) : Option (Acc × Nat) × State :=
  match passage s a with
  | (some e, s1) => (some (e, a), s1)
  | (none, s1) => ((mseSteps a n).findSome? (fun x => (mseAnswer s1 g x).map (fun e => (e, x))), s1)

/-- A job's end with a status; `crc` where the whole range was read. -/
def mseEnds (s : State) (st : Nat) (crc : Option Word) : State :=
  let s1 := match crc with | some c => s.setReg R.MSE_RESULT c | none => s
  let s2 := s1.setReg R.MSE_STATUS (word (2 ^ 30 + st))
  evcIf { s2 with mse := { s2.mse with job := none } } F.MSE_EVT_EN_EN 52 0

/-- A job that passed its conditions reads its range. -/
def mseReads (s : State) (g : Region) (a n : Nat) (cmp : Bool) : State :=
  match mseWay s g a n with
  | (some (.held, _), s1) => s1
  | (some (_, x), s1) => mseEnds (busErrOf s1 codeMse 0 x false) St.busError none
  | (none, s1) =>
    match eccRead s1 g a n with
    | (some e, s2) => mseEnds (busErrOf s2 codeMse 0 e false) St.busError none
    | (none, s2) =>
      let c := crc32c (s2.look a n)
      mseEnds s2 (if cmp && decide (c ≠ s2.reg R.MSE_EXPECT) then St.checkFail else St.ok) (some c)

/-- MSE_JOB_END (R325): the job reads its range and ends. -/
def execMseJobEnd (s : State) : Outcome :=
  match s.mse.job with
  | none => .next s
  | some (a, n, cmp) =>
    if s.dbgHalted then .next s
    else
      match regionFor a n with
      | none => .next (mseEnds s St.badDescriptor none)
      | some g =>
        if a % 4 = 0 ∧ n % 4 = 0 ∧ 4 ≤ n ∧ n ≤ 0x4000000 ∧ mseMay a n = true then .next (mseReads s g a n cmp)
        else .next (mseEnds s St.badDescriptor none)

/-! ### The scrub (R326 to R328) -/

/-- Programs of an engine's cluster in ascending START, but for those that the loader has still to write there (R326, R327). -/
def progsOf (s : State) (n : Nat) : List Prog :=
  (s.thePlan.set (n / 16)).progs.filter (fun p => !s.dpr.limQueue.any (fun w => decide (w.1 = limBase n + p.start)))

/-- The scrub visits the engine: not OFF, its cluster not held in reset, its cluster's table not empty. -/
def scrubbed (s : State) (n : Nat) : Bool :=
  decide ((s.le n).k.state ≠ .off) && !s.wrapped (limBase n) && (asleep s (limBase n)).isNone && !(progsOf s n).isEmpty

/-- The scrub goes to the next engine above `n`; past the last one a pass is complete and the walk begins anew. -/
def nextEngine (s : State) (n : Nat) : State :=
  match ((List.range 64).filter (fun k => decide (n < k))).find? (scrubbed s) with
  | some k => { s with mse := { s.mse with engine := k, prog := 0, ofs := 0, crc := 0xFFFFFFFF } }
  | none =>
    let s1 := s.countReg R.MSE_SCRUB_PASS
    { s1 with mse := { s1.mse with engine := ((List.range 64).find? (scrubbed s)).getD 0, prog := 0, ofs := 0, crc := 0xFFFFFFFF } }

/-- The scrub goes to the next program of the engine, or to the next engine. -/
def nextProg (s : State) : State :=
  if s.mse.prog + 1 < (progsOf s s.mse.engine).length then
    { s with mse := { s.mse with prog := s.mse.prog + 1, ofs := 0, crc := 0xFFFFFFFF } }
  else nextEngine s s.mse.engine

/-- A mismatch of a kind is recorded, counted and told (R328). -/
def scrubMismatch (s : State) (kind n id : Nat) : State :=
  let s1 := (s.setReg R.MSE_SCRUB_LAST (word (2 ^ 31 + kind * 2 ^ 24 + n * 65536 + id))).countReg R.MSE_SCRUB_ERR
  evcIf s1 F.MSE_EVT_EN_EN 52 1

/-- The next block of a program is read. -/
def scrubBlock (s : State) (p : Prog) : State :=
  let n := s.mse.engine
  let s1 := (s.setFld F.MSE_SCRUB_POS_LE n).setFld F.MSE_SCRUB_POS_PROG p.id
  let at' := p.start + s.mse.ofs
  let k := min (p.len - s.mse.ofs) (32 - at' % 32)
  match eccRead s1 (.lim n) (limBase n + at') k with
  | (some _, s2) => nextProg (scrubMismatch s2 2 n p.id)
  | (none, s2) =>
    let c := crc32cRun s2.mse.crc (s2.bytes (limBase n + at') k)
    if s.mse.ofs + k < p.len then { s2 with mse := { s2.mse with ofs := s.mse.ofs + k, crc := c } }
    else if c ^^^ 0xFFFFFFFF = word p.crc then nextProg s2
    else nextProg (scrubMismatch s2 1 n p.id)

/-- MSE_SCRUB_READ (R326). -/
def execMseScrubRead (s : State) : Outcome :=
  if !s.flag F.MSE_SCRUB_CFG_EN || s.plan.isNone || s.mse.job.isSome || s.dbgHalted || !(List.range 64).any (scrubbed s) then .next s
  else
    let s1 := if scrubbed s s.mse.engine = true ∧ s.mse.prog < (progsOf s s.mse.engine).length then s else nextEngine s s.mse.engine
    match (progsOf s1 s1.mse.engine)[s1.mse.prog]? with
    | some p => .next (scrubBlock s1 p)
    | none => .next s1

end Sys2Proof.Machine
end

