-- ==== Sys2Proof/Machine/FwCmds.lean ====
section
/-! DEFINITION. The host commands that firmware or the SP serves: configuration and calibration (R339, R351), board-maker commands
(R299), boot, debug unlock and fuses (R395, R403, R405, R406, R412, R413). -/

namespace Sys2Proof.Machine

/-- Runs a command that firmware serves (R304): the refusals of R299 were judged at its fetch. -/
def onFw (s : State) (serial : Nat) (op : Nat → Bool) (k : HostCmd → State → State) : State :=
  match findCmd s serial with
  | none => s
  | some c => if op c.desc.op.toNat && (c.started || mayStart s c) then k c (markStarted s serial) else s

/-! ### Configuration and calibration (R351) -/

/-- CFG_STATUS (R351). -/
def execCfgStatus (serial : Nat) (s : State) : Outcome :=
  .next (onFw s serial (fun o => o == 0x32) (fun c t =>
    wellFormed t c (decide (c.len = 16))
      (answerHost t c c.addr (wordBytes [t.reg R.CYC_CFG_STATUS, t.reg R.CYC_CFG_SEQ, t.reg R.CYC_CFG_SKIP, t.reg R.AGM_CAL_STATUS]) {})))

/-- The copy in force, if any. -/
def forceImg (s : State) : Option Img := s.cfg.half.map (halfImg s)

/-- The effect of CFG_READ. Without a copy in force every offset is beyond it. -/
def cfgReadCmd (c : HostCmd) (s : State) : State :=
  wellFormed s c (decide (c.len ≤ 4096))
    (match forceImg s with
     | some m =>
       if copyLen m < c.a0 + c.len then endCmd s c St.noSpace
       else answerHost s c c.addr (imgBytes m c.a0 c.len) {}
     | none => endCmd s c St.noSpace)

/-- CFG_READ (R351). -/
def execCfgRead (serial : Nat) (s : State) : Outcome := .next (onFw s serial (fun o => o == 0x33) cfgReadCmd)

/-- `l` with the bytes `d` at offset `o`. -/
def putAt (l : List Byte) (o : Nat) (d : List Byte) : List Byte := l.take o ++ d ++ l.drop (o + d.length)

/-- A copy with SEQ, CRC and SEAL for copy `k` (R332, R333, R339). -/
def sealCopy (k seq : Nat) (l : List Byte) : List Byte :=
  let l1 := putAt (putAt l 8 (leBytes 4 seq)) 0x38 (List.replicate 8 0)
  let crc := (crc32cFrom (frameSeed 0xC0 k (seq % 65536)) l1).toNat
  putAt l1 0x38 (leBytes 4 crc ++ leBytes 4 (Nat.xor seq 0x5EA1C0DE))

/-- A writing configuration command is in progress, or a copy is PENDING (R340, R351). -/
def cfgBusy (s : State) : Bool := s.cfg.by'.isSome || s.cfg.pend.isSome

/-- The target copy is written and committed (R339); the command completes with the copy (R351). -/
def writeCopy (s : State) (c : HostCmd) (l : List Byte) : State :=
  let k := targetCopy s
  let seq := (s.reg R.CYC_CFG_SEQ).toNat + 1
  if seq = 0xFFFFFFFF then endCmd s c St.versionRefused
  else if !nvUp s then endCmd s c St.busError
  else if regionLocked s k || !regionOpen s k true then endCmd s c St.nvLocked
  else
    let s1 := s.setBytes (0x50000000 + 0x20000 * k) (sealCopy k seq l)
    cfgCommit { s1 with cfg := { s1.cfg with by' := some c.serial } }

/-- The effect of CFG_WRITE. -/
def cfgWriteCmd (d : HostData) (c : HostCmd) (s : State) : State :=
  wellFormed s c (decide (0x248 ≤ c.len ∧ c.len ≤ 131072))
    (if cfgBusy s then endCmd s c St.busy else withHostData s c c.addr c.len d (writeCopy s c))

/-- CFG_WRITE (R351). -/
def execCfgWrite (serial : Nat) (d : HostData) (s : State) : Outcome :=
  .next (onFw s serial (fun o => o == 0x34) (cfgWriteCmd d))

/-- The parts of a copy: base section, user calibration, costumes by directory entry. -/
structure CopyParts where
  base : List Byte := []
  ucal : List Byte := []
  costumes : List (Nat × List Byte) := []
  deriving DecidableEq, Repr

def partsOf (m : Img) : CopyParts :=
  { base := imgBytes m (imgLe m 0x10 4) (16 * imgLe m 0x14 2)
    ucal := imgBytes m (imgLe m 0x18 4) (8 * imgLe m 0x16 2)
    costumes := ((List.range 129).filter (fun k => decide (costumeOfs m k ≠ 0))).map (fun k =>
      (k, imgBytes m (costumeOfs m k) (4 + 16 * costumeN m k))) }

/-- The offset of directory entry `k` where the costumes stand one after another from `o` on. -/
def dirOffset (k : Nat) : Nat → List (Nat × List Byte) → Nat
  | _, [] => 0
  | o, e :: l => if e.1 = k then o else dirOffset k (o + e.2.length) l

/-- The bytes of a copy that holds the parts one after another, without SEQ, CRC and SEAL (R332). -/
def copyBytes (x : CopyParts) : List Byte :=
  let u := 0x248 + x.base.length
  let o := u + x.ucal.length
  let body := x.base ++ x.ucal ++ (x.costumes.map Prod.snd).flatten
  leBytes 4 0x47464346 ++ leBytes 2 0x0100 ++ leBytes 2 0x6400 ++ leBytes 4 0 ++ leBytes 4 (0x248 + body.length) ++ leBytes 4 0x248 ++
    leBytes 2 (x.base.length / 16) ++ leBytes 2 (x.ucal.length / 8) ++ leBytes 4 u ++ List.replicate 36 0 ++
    ((List.range 129).map (fun k => leBytes 4 (dirOffset k o x.costumes))).flatten ++ List.replicate 4 0 ++ body

/-- The parts of the copy in force; none of them where no copy is in force. -/
def partsNow (s : State) : CopyParts := match forceImg s with | some m => partsOf m | none => {}

/-- The directory entry belongs to the partition; P0 has entry 128 too (R351). -/
def ownsCostume (part k : Nat) : Bool := decide (k / 2 = part) && decide (k < 128) || (decide (k = 128) && part == 0)

/-- Costumes with entry `k` replaced, or removed where the new bytes are empty. -/
def setCostume (l : List (Nat × List Byte)) (k : Nat) (d : List Byte) : List (Nat × List Byte) :=
  let rest := l.filter (fun e => decide (e.1 ≠ k))
  if d = [] then rest else rest ++ [(k, d)]

/-- A copy with a costume replaced is written. -/
def costumeWrite (s : State) (c : HostCmd) (d : List Byte) : State :=
  let x := partsNow s
  let l := copyBytes { x with costumes := setCostume x.costumes (c.a0 % 256) d }
  if d ≠ [] ∧ d.length ≠ 4 + 16 * leNat (d.take 2) then endCmd s c St.badDescriptor
  else if 131072 < l.length then endCmd s c St.noSpace
  else writeCopy s c l

/-- The effect of COSTUME_WRITE. -/
def costumeCmd (d : HostData) (c : HostCmd) (s : State) : State :=
  wellFormed s c (decide (c.a0 ≤ 128 ∧ c.len ≤ 65536))
    (if !ownsCostume c.part c.a0 then endCmd s c St.notOwner
     else if cfgBusy s then endCmd s c St.busy
     else if c.len = 0 then costumeWrite s c []
     else withHostData s c c.addr c.len d (costumeWrite s c))

/-- COSTUME_WRITE (R351). -/
def execCostumeWrite (serial : Nat) (d : HostData) (s : State) : Outcome :=
  .next (onFw s serial (fun o => o == 0x35) (costumeCmd d))

/-- A copy with the user calibration replaced is written. -/
def ucalWrite (s : State) (c : HostCmd) (d : List Byte) : State :=
  let l := copyBytes { partsNow s with ucal := d }
  if 131072 < l.length then endCmd s c St.noSpace else writeCopy s c l

/-- The effect of UCAL_WRITE. -/
def ucalCmd (d : HostData) (c : HostCmd) (s : State) : State :=
  wellFormed s c (decide (c.len % 8 = 0 ∧ c.len ≤ 2048))
    (if cfgBusy s then endCmd s c St.busy
     else if c.len = 0 then ucalWrite s c []
     else withHostData s c c.addr c.len d (ucalWrite s c))

/-- UCAL_WRITE (R351). -/
def execUcalWrite (serial : Nat) (d : HostData) (s : State) : Outcome :=
  .next (onFw s serial (fun o => o == 0x36) (ucalCmd d))

/-- The three values of a calibration item (R351). -/
def calBytes (s : State) (i : Nat) : List Byte :=
  let u := userOf s.cfg.user i
  wordBytes [BitVec.ofInt 32 (factVal s i), word (u.1 + u.2 * 65536), BitVec.ofInt 32 (eff s i)]

/-- CAL_READ (R351). -/
def execCalRead (serial : Nat) (s : State) : Outcome :=
  .next (onFw s serial (fun o => o == 0x37) (fun c t =>
    wellFormed t c (decide (1 ≤ c.a1 ∧ c.a0 + c.a1 ≤ 256 ∧ c.len = 12 * c.a1))
      (answerHost t c c.addr ((List.range c.a1).map (fun k => calBytes t (c.a0 + k))).flatten {})))

/-! ### Board-maker commands -/

/-- BOARD_MAKER_COMMAND (R299): firmware completes it as it decides. -/
def execBoardMakerCommand (serial : Nat) (status : BitVec 8) (detail : BitVec 16) (result : Word) (result2 : BitVec 16)
    (s : State) : Outcome :=
  .next (onFw s serial (fun o => decide (0x50 ≤ o ∧ o ≤ 0x6F)) (fun c t =>
    hostComplete t c.serial { status := status.toNat, detail := detail.toNat, result := result.toNat, result2 := result2.toNat }))

/-! ### Device control (R405) -/

/-- RAGDOLL_RELEASE (R405). -/
def execRagdollRelease (serial : Nat) (s : State) : Outcome :=
  .next (onFw s serial (fun o => o == 0x71) (fun c t => endCmd (ragdollRelease t).2 c (ragdollRelease t).1))

/-- The effect of IMAGE_VERIFY: steps 1 to 5 of R392, on a stream from host memory; a flat device leaves none out. -/
def imageVerify (d : HostData) (c : HostCmd) (s : State) : State :=
  wellFormed s c (decide (c.len ≤ 0x800000))
    (withHostData s c c.addr c.len d (fun l =>
      let m := dataImg l
      hostComplete s c.serial { status := bootCheck s m 0 c.len false, result := imgLe m 8 4 }))

/-- IMAGE_VERIFY (R405). -/
def execImageVerify (serial : Nat) (d : HostData) (s : State) : Outcome :=
  .next (onFw s serial (fun o => o == 0x72) (imageVerify d))

/-- FLASH_RELEASE (R395). -/
def execFlashRelease (serial : Nat) (s : State) : Outcome :=
  .next (onFw s serial (fun o => o == 0x73) (fun c t => endCmd (flashRelease t) c St.ok))

/-- SLOT_TRIAL (R405). -/
def execSlotTrial (serial : Nat) (s : State) : Outcome :=
  .next (onFw s serial (fun o => o == 0x74) (fun c t =>
    wellFormed t c (decide (c.a0 < 2)) (endCmd (slotTrial t c.a0).2 c (slotTrial t c.a0).1)))

/-- An SP register as it reads. -/
def spmWord (s : State) (a : Nat) : Word := (spmRead s a).getD (s.reg a)

/-- BOOT_STATUS (R405). -/
def execBootStatus (serial : Nat) (s : State) : Outcome :=
  .next (onFw s serial (fun o => o == 0x75) (fun c t =>
    wellFormed t c (decide (c.len = 32))
      (answerHost t c c.addr (wordBytes ([R.SPM_BOOT_STAT, R.SPM_BOOT_ERR, R.SPM_IMG_VER, R.SPM_MINVER, R.SPM_FUSE, R.SPM_UID_LO,
        R.SPM_UID_HI].map (spmWord t) ++ [0])) {})))

/-- The effect of DEBUG_CHALLENGE (R410, R412). -/
def debugChallenge (c : HostCmd) (s : State) : State :=
  wellFormed s c (decide ((c.a0 = 1 ∨ c.a0 = 2) ∧ c.len = 32)) (entAsk s (.challenge c.serial))

/-- DEBUG_CHALLENGE (R412). -/
def execDebugChallenge (serial : Nat) (s : State) : Outcome := .next (onFw s serial (fun o => o == 0x76) debugChallenge)

/-- The effect of DEBUG_RESPONSE. -/
def debugResponse (d : HostData) (c : HostCmd) (s : State) : State :=
  wellFormed s c (decide (c.len = 128))
    (withHostData s c c.addr c.len d (fun l => endCmd (judgeResponse s l).2 c (judgeResponse s l).1))

/-- DEBUG_RESPONSE (R413). -/
def execDebugResponse (serial : Nat) (d : HostData) (s : State) : Outcome :=
  .next (onFw s serial (fun o => o == 0x77) (debugResponse d))

/-- MINVER_ADVANCE (R403). -/
def execMinverAdvance (serial : Nat) (s : State) : Outcome :=
  .next (onFw s serial (fun o => o == 0x78) (fun c t =>
    let r := minverAdvance t
    hostComplete r.2 c.serial { status := r.1, result := r.2.sec.minver }))

/-- The effect of FUSE_PROGRAM. -/
def fuseCmd (d : HostData) (verified : Bool) (c : HostCmd) (s : State) : State :=
  wellFormed s c (decide (c.len = fuseLen (c.a0 % 8)))
    (withHostData s c c.addr c.len d (fun l =>
      let r := fuseProgram s c.a0 c.len l verified
      endCmd r.2 c r.1))

/-- FUSE_PROGRAM (R406): `verified` says that every requested bit reads 1 afterwards. -/
def execFuseProgram (serial : Nat) (d : HostData) (verified : Bool) (s : State) : Outcome :=
  .next (onFw s serial (fun o => o == 0x79) (fuseCmd d verified))

end Sys2Proof.Machine
end

