-- ==== Sys2Proof/Machine/Flags.lean ====
section
/-! DEFINITION. Integer and binary32 arithmetic of the Gurno processors with every flag it computes (R129, R132,
R133). Each operation converts its operands to integers, computes exactly and narrows once. -/

namespace Sys2Proof.Machine

/-- A result word with the flags of ST that go with it. `c`, `v`: `none` where the opcode leaves the flag unchanged.
`fi`, `fo`, `fu` are sticky: true sets the flag (R129). -/
structure Alu where
  val : Word
  z   : Bool
  n   : Bool
  c   : Option Bool
  v   : Option Bool
  fi  : Bool
  fo  : Bool
  fu  : Bool
  deriving DecidableEq, Repr

/-- An integer result: Z and N follow it (R129). -/
def Alu.int (r : Word) (c v : Option Bool) : Alu := ⟨r, r == 0, r.msb, c, v, false, false, false⟩

/-- Integer addition: C is the carry out of bit 31, V signed overflow (R129). -/
def aluAdd (a b : Word) : Alu :=
  let r := a + b
  .int r (some (decide (2 ^ 32 ≤ a.toNat + b.toNat))) (some (decide (r.toInt ≠ a.toInt + b.toInt)))

/-- Integer subtraction `a - b`: C is NOT borrow, V signed overflow (R129). -/
def aluSub (a b : Word) : Alu :=
  let r := a - b
  .int r (some (decide (b.toNat ≤ a.toNat))) (some (decide (r.toInt ≠ a.toInt - b.toInt)))

/-- Low half of the signed product (R128). -/
def aluMul (a b : Word) : Alu := .int (BitVec.ofInt 32 (a.toInt * b.toInt)) none none

/-- High half of the signed product (R128). -/
def aluMulh (a b : Word) : Alu := .int (BitVec.ofInt 32 (a.toInt * b.toInt / 2 ^ 32)) none none

/-- Bitwise results set Z and N alone (R128). -/
def aluLogic (r : Word) : Alu := .int r none none

/-- Shift count: bits [4:0] of the operand (R128). -/
def shiftCount (b : Word) : Nat := b.toNat % 32

/-- Shift left: C is the last bit shifted out, 0 for a count of 0 (R129). -/
def aluShl (a b : Word) : Alu :=
  let n := shiftCount b
  .int (a <<< n) (some (decide (n ≠ 0) && a.getLsbD (32 - n))) none

/-- Logical shift right. -/
def aluShr (a b : Word) : Alu :=
  let n := shiftCount b
  .int (a >>> n) (some (decide (n ≠ 0) && a.getLsbD (n - 1))) none

/-- Arithmetic shift right. -/
def aluSar (a b : Word) : Alu :=
  let n := shiftCount b
  .int (a.sshiftRight n) (some (decide (n ≠ 0) && a.getLsbD (n - 1))) none

/-- Signed minimum (R128). -/
def aluMin (a b : Word) : Alu := .int (if b.toInt < a.toInt then b else a) none none

/-- Signed maximum (R128). -/
def aluMax (a b : Word) : Alu := .int (if a.toInt < b.toInt then b else a) none none

/-! ### binary32 (R132) -/

/-- What a binary32 word denotes. A subnormal operand is taken as zero of its sign (R132). A finite value is
`m * 2 ^ e` with `m` of 24 bits. -/
inductive FVal where
  | zero (neg : Bool)
  | fin  (neg : Bool) (m : Nat) (e : Int)
  | inf  (neg : Bool)
  | qnan
  | snan
  deriving DecidableEq, Repr

/-- The value of a word. -/
def fval (w : Word) : FVal :=
  let ex : Nat := w.toNat / 2 ^ 23 % 256
  let fr : Nat := w.toNat % 2 ^ 23
  if ex = 255 then
    if fr = 0 then .inf w.msb else if 2 ^ 22 ≤ fr then .qnan else .snan
  else if ex = 0 then .zero w.msb
  else .fin w.msb (2 ^ 23 + fr) ((ex : Int) - 150)

def FVal.isNan : FVal → Bool
  | .qnan => true
  | .snan => true
  | _ => false

def FVal.isSnan : FVal → Bool
  | .snan => true
  | _ => false

/-- The canonical quiet NaN. -/
def fNan : Word := 0x7FC00000

/-- Sign bit of a word. -/
def fSign (neg : Bool) : Nat := if neg then 2 ^ 31 else 0

def fZero (neg : Bool) : Word := word (fSign neg)
def fInf (neg : Bool) : Word := word (fSign neg + 0x7F800000)

/-- A word that a subnormal operand is taken as (R132). -/
def fFlush (w : Word) : Word :=
  match fval w with
  | .zero s => fZero s
  | _ => w

/-- A float result with its flags under the float rule of R129. -/
def Alu.float (r : Word) (fi fo fu : Bool) : Alu :=
  ⟨r, decide (r.toNat % 2 ^ 31 = 0), r.msb && !(fval r).isNan, none, none, fi, fo, fu⟩

/-- An invalid operation: the canonical quiet NaN, FI set (R132). -/
def fInvalid : Alu := .float fNan true false false

/-- A plain float result, no flag. -/
def fPlain (r : Word) : Alu := .float r false false false

/-- Rounds the exact magnitude `m * 2 ^ e`, `m > 0`, to 24 bits, nearest with ties to even, exponent unbounded. -/
def fRound (m : Nat) (e : Int) : Nat × Int :=
  let l := Nat.log2 m + 1
  if l ≤ 24 then (m * 2 ^ (24 - l), e - ((24 - l : Nat) : Int))
  else
    let k := l - 24
    let q := m / 2 ^ k
    let r := m % 2 ^ k
    let up := decide (2 ^ (k - 1) < r) || (decide (r = 2 ^ (k - 1)) && decide (q % 2 = 1))
    let q' := if up then q + 1 else q
    if q' = 2 ^ 24 then (2 ^ 23, e + (k : Int) + 1) else (q', e + (k : Int))

/-- Delivers the exact value `(-1)^neg * m * 2 ^ e`, `m > 0`: rounded once; overflow to infinity with FO, magnitude
below 2^-126 after rounding to zero with FU (R132). -/
def fDeliver (neg : Bool) (m : Nat) (e : Int) : Alu :=
  let (q, x) := fRound m e
  let be := x + 150
  if 255 ≤ be then .float (fInf neg) false true false
  else if be ≤ 0 then .float (fZero neg) false false true
  else fPlain (word (fSign neg + be.toNat * 2 ^ 23 + (q - 2 ^ 23)))

/-- Delivers an exact sum held as an integer times a power of two; an exact zero is +0 (R132). -/
def fDeliverInt (v : Int) (e : Int) : Alu :=
  if v = 0 then fPlain (fZero false) else fDeliver (decide (v < 0)) v.natAbs e

/-- Signed magnitude as an integer. -/
def fInt (neg : Bool) (m : Nat) : Int := if neg then -(m : Int) else (m : Int)

/-- Exact sum of two finite values at their lower exponent. -/
def fSum (s : Bool) (m : Nat) (e : Int) (s' : Bool) (m' : Nat) (e' : Int) : Alu :=
  let lo := if e ≤ e' then e else e'
  fDeliverInt (fInt s (m * 2 ^ (e - lo).toNat) + fInt s' (m' * 2 ^ (e' - lo).toNat)) lo

/-- binary32 addition (R132). -/
def fAdd (a b : Word) : Alu :=
  match fval a, fval b with
  | .snan, _ => fInvalid
  | _, .snan => fInvalid
  | .qnan, _ => fPlain fNan
  | _, .qnan => fPlain fNan
  | .inf s, .inf t => if s = t then fPlain (fInf s) else fInvalid
  | .inf s, _ => fPlain (fInf s)
  | _, .inf t => fPlain (fInf t)
  | .zero s, .zero t => fPlain (fZero (s && t))
  | .zero _, .fin _ _ _ => fPlain b
  | .fin _ _ _, .zero _ => fPlain a
  | .fin s m e, .fin t m' e' => fSum s m e t m' e'

/-- The word with its sign inverted, NaN words included. -/
def fNegWord (w : Word) : Word := w ^^^ 0x80000000

/-- binary32 subtraction `a - b` (R132). -/
def fSub (a b : Word) : Alu := fAdd a (fNegWord b)

/-- binary32 multiplication (R132). -/
def fMul (a b : Word) : Alu :=
  match fval a, fval b with
  | .snan, _ => fInvalid
  | _, .snan => fInvalid
  | .qnan, _ => fPlain fNan
  | _, .qnan => fPlain fNan
  | .inf _, .zero _ => fInvalid
  | .zero _, .inf _ => fInvalid
  | .inf s, .inf t => fPlain (fInf (s != t))
  | .inf s, .fin t _ _ => fPlain (fInf (s != t))
  | .fin s _ _, .inf t => fPlain (fInf (s != t))
  | .zero s, .zero t => fPlain (fZero (s != t))
  | .zero s, .fin t _ _ => fPlain (fZero (s != t))
  | .fin s _ _, .zero t => fPlain (fZero (s != t))
  | .fin s m e, .fin t m' e' => fDeliver (s != t) (m * m') (e + e')

/-- binary32 division: 64 quotient bits and one sticky bit hold the exact quotient's rounding (R132). -/
def fDiv (a b : Word) : Alu :=
  match fval a, fval b with
  | .snan, _ => fInvalid
  | _, .snan => fInvalid
  | .qnan, _ => fPlain fNan
  | _, .qnan => fPlain fNan
  | .zero _, .zero _ => fInvalid
  | .inf _, .inf _ => fInvalid
  | .inf s, .zero t => fPlain (fInf (s != t))
  | .inf s, .fin t _ _ => fPlain (fInf (s != t))
  | .fin s _ _, .zero t => .float (fInf (s != t)) false true false
  | .fin s _ _, .inf t => fPlain (fZero (s != t))
  | .zero s, .inf t => fPlain (fZero (s != t))
  | .zero s, .fin t _ _ => fPlain (fZero (s != t))
  | .fin s m e, .fin t m' e' =>
    let n := m * 2 ^ 64
    fDeliver (s != t) (2 * (n / m') + (if n % m' = 0 then 0 else 1)) (e - e' - 65)

/-- `c + a * b` with one rounding (R132). A quiet NaN operand gives the quiet NaN without a flag, also beside 0 × ∞
(log entry 12). -/
def fMac (c a b : Word) : Alu :=
  match fval c, fval a, fval b with
  | .snan, _, _ => fInvalid
  | _, .snan, _ => fInvalid
  | _, _, .snan => fInvalid
  | .qnan, _, _ => fPlain fNan
  | _, .qnan, _ => fPlain fNan
  | _, _, .qnan => fPlain fNan
  | _, .inf _, .zero _ => fInvalid
  | _, .zero _, .inf _ => fInvalid
  | vc, .inf s, .inf t => fMacInf vc (s != t)
  | vc, .inf s, .fin t _ _ => fMacInf vc (s != t)
  | vc, .fin s _ _, .inf t => fMacInf vc (s != t)
  | vc, .zero s, .zero t => fMacZero vc (s != t)
  | vc, .zero s, .fin t _ _ => fMacZero vc (s != t)
  | vc, .fin s _ _, .zero t => fMacZero vc (s != t)
  | .inf u, .fin _ _ _, .fin _ _ _ => fPlain (fInf u)
  | .zero _, .fin s m e, .fin t m' e' => fDeliver (s != t) (m * m') (e + e')
  | .fin u k x, .fin s m e, .fin t m' e' => fSum u k x (s != t) (m * m') (e + e')
where
  fMacInf : FVal → Bool → Alu
    | .inf u, p => if u = p then fPlain (fInf p) else fInvalid
    | _, p => fPlain (fInf p)
  fMacZero : FVal → Bool → Alu
    | .inf u, _ => fPlain (fInf u)
    | .zero u, p => fPlain (fZero (u && p))
    | _, _ => fPlain (fFlush c)

/-- The real value of a finite word as an integer at the fixed exponent -149 - 23, for comparison. -/
def fCmpKey (v : FVal) : Int :=
  match v with
  | .zero _ => 0
  | .fin s m e => fInt s (m * 2 ^ (e + 172).toNat)
  | .inf s => if s then -(2 ^ 600) else 2 ^ 600
  | _ => 0

/-- FMIN and FMAX order −0 below +0 (R132): the order of the sign and magnitude words. -/
def fOrdKey (w : Word) : Int :=
  if w.msb then -((w.toNat % 2 ^ 31 : Nat) : Int) - 1 else ((w.toNat % 2 ^ 31 : Nat) : Int)

/-- FMIN (`lower`) and FMAX: one NaN operand gives the other, FI only for a signalling NaN (R132). -/
def fMinMax (lower : Bool) (a b : Word) : Alu :=
  let fi := (fval a).isSnan || (fval b).isSnan
  let a' := fFlush a
  let b' := fFlush b
  let r :=
    if (fval a).isNan && (fval b).isNan then fNan
    else if (fval a).isNan then b'
    else if (fval b).isNan then a'
    else if lower then (if fOrdKey b' < fOrdKey a' then b' else a')
    else (if fOrdKey a' < fOrdKey b' then b' else a')
  .float r fi false false

/-- |b| and −b as float operations: NaN operands give the canonical NaN, FI for a signalling one (R132; log entry
13). -/
def fUnary (f : Word → Word) (b : Word) : Alu :=
  match fval b with
  | .snan => fInvalid
  | .qnan => fPlain fNan
  | _ => fPlain (f (fFlush b))

def fAbsWord (w : Word) : Word := w &&& 0x7FFFFFFF
def fAbs (b : Word) : Alu := fUnary fAbsWord b
def fNeg (b : Word) : Alu := fUnary fNegWord b

/-- Signed integer to binary32 (R132). -/
def fItof (b : Word) : Alu := fDeliverInt b.toInt 0

/-- A magnitude rounded to an integer, nearest with ties to even. -/
def fToNat (m : Nat) (e : Int) : Nat :=
  if 0 ≤ e then m * 2 ^ e.toNat
  else
    let k := (-e).toNat
    let q := m / 2 ^ k
    let r := m % 2 ^ k
    if 2 ^ k < 2 * r ∨ (2 * r = 2 ^ k ∧ q % 2 = 1) then q + 1 else q

/-- The integer flags of FTOI with FI (R129, R132). -/
def ftoiRes (r : Word) (fi : Bool) : Alu := { Alu.int r none none with fi := fi }

/-- binary32 to signed integer with saturation (R132). -/
def fFtoi (b : Word) : Alu :=
  match fval b with
  | .snan => ftoiRes 0 true
  | .qnan => ftoiRes 0 true
  | .inf s => ftoiRes (if s then 0x80000000 else 0x7FFFFFFF) true
  | .zero _ => ftoiRes 0 false
  | .fin s m e =>
    let v := fInt s (fToNat m e)
    if v > 2147483647 then ftoiRes 0x7FFFFFFF true
    else if v < -2147483648 then ftoiRes 0x80000000 true
    else ftoiRes (BitVec.ofInt 32 v) false

/-- The four patterns of FCMP (R129); the word is not written. -/
def fCmp (a b : Word) : Alu :=
  let va := fval a
  let vb := fval b
  let fi := va.isSnan || vb.isSnan
  if va.isNan || vb.isNan then ⟨a, false, false, some false, some true, fi, false, false⟩
  else if fCmpKey va < fCmpKey vb then ⟨a, false, true, some false, some false, fi, false, false⟩
  else if fCmpKey va = fCmpKey vb then ⟨a, true, false, some false, some false, fi, false, false⟩
  else ⟨a, false, false, some false, some false, fi, false, false⟩

/-- A limiter's result: C the lower bound, V the upper (R129). -/
def fLimited (r : Word) (c v fi : Bool) : Alu :=
  { Alu.float r fi false false with c := some c, v := some v }

/-- The NaN tests and the numeric order of two words. -/
def fIsNan (w : Word) : Bool := (fval w).isNan
def fLt (a b : Word) : Bool := decide (fCmpKey (fval a) < fCmpKey (fval b))

/-- CLAMP of `a` between `lo` and `hi`, NaN cases as R133. -/
def fClamp (a lo hi : Word) : Alu :=
  let fi := fIsNan a || fIsNan lo || fIsNan hi
  if fIsNan a then
    if !fIsNan lo && (fIsNan hi || !fLt hi lo) then fLimited (fFlush lo) true false fi
    else if !fIsNan hi then fLimited (fFlush hi) false true fi
    else fLimited (fZero false) true true fi
  else if fIsNan lo && fIsNan hi then fLimited a false false fi
  else if fIsNan lo then
    if fLt hi a then fLimited (fFlush hi) false true fi else fLimited (fFlush a) false false fi
  else if fIsNan hi then
    if fLt a lo then fLimited (fFlush lo) true false fi else fLimited (fFlush a) false false fi
  else if fLt hi lo then fLimited (fFlush hi) false true fi
  else if fLt a lo then fLimited (fFlush lo) true false fi
  else if fLt hi a then fLimited (fFlush hi) false true fi
  else fLimited (fFlush a) false false fi

/-- SAT of `a` by the magnitude of `b` (R133). -/
def fSat (a b : Word) : Alu :=
  let fi := fIsNan a || fIsNan b
  if fIsNan a then fLimited (fZero false) true true fi
  else if fIsNan b then fLimited a false false fi
  else
    let l := fAbsWord (fFlush b)
    if fLt a (fNegWord l) then fLimited (fNegWord l) true false fi
    else if fLt l a then fLimited l false true fi
    else fLimited (fFlush a) false false fi

/-- The sixteen conditions of PSET on Z, N, C and V (R130). -/
def condHolds (code : Nat) (z n c v : Bool) : Bool :=
  match code with
  | 0 => z
  | 1 => !z
  | 2 => n != v
  | 3 => n == v
  | 4 => !z && (n == v)
  | 5 => z || (n != v)
  | 6 => !c
  | 7 => c
  | 8 => n
  | 9 => v
  | 10 => n && !v
  | 11 => (n || z) && !v
  | 12 => !n && !z && !v
  | 13 => !n && !v
  | 14 => c || v
  | _ => true

end Sys2Proof.Machine
end

