-- ==== Sys2Proof/Machine/Proc.lean ====
section
/-! DEFINITION. What every Gurno instruction shares: exceptions and returns (R93 to R99), hardware loops (R136 to
R138), the return stack (R139), special registers (R140), the MPU (R506), comparators (R534, R535). -/

namespace Sys2Proof.Machine

/-! ### Exceptions -/

/-- Trace source of a processor (R540). -/
def trcSrc : ProcId → Nat
  | .le n => n.val / 16
  | .mc => 4
  | .sp => 5

/-- ESTAT at entry: cause, ASYNC, ST and the predicates (R96, R98). -/
def estatOf (r : Proc) (cause : Nat) (async : Bool) : Word :=
  word (r.predBits / 2 * 2 ^ 24 + (if async then 2 ^ 20 else 0) + cause % 16 * 2 ^ 16) ||| (r.stVal &&& 0xFFFF)

/-- The registers after exception entry (R96): EPC, ESTAT, ST.S, ST.IE and PC change, nothing else. -/
def Proc.enter (r : Proc) (cause : Nat) (async : Bool) : Proc :=
  { r with
    epc := r.pc
    estat := estatOf r cause async
    st := setBit (setBit r.st 8 true) 9 false
    pc := (r.vbr &&& 0xFFFFFF00) + word (cause % 16 * 16) }

/-- The clocks of an exception entry, which an engine counts (R86, R134). -/
def entryClocks (p : ProcId) : Nat :=
  match p with
  | .le _ => 3
  | _ => 0

/-- Entry to an exception: the registers as R96, supervisor state, its bubbles, an EXC trace packet. A late store error is
no longer pending once it is taken (R104). -/
def enterExc (s : State) (p : ProcId) (cause : Nat) (async : Bool) : State :=
  let r := (s.cpu p).r
  let s1 := s.upd p (fun r =>
    { r.enter cause async with lsePend := if cause = 0xA then false else r.lsePend, ecnt := r.ecnt + entryClocks p })
  let s2 := s1.updK p (fun k => { k with state := .kernel, waiting := none, stall := none, pipe := {} })
  trcEmit s2 (trcSrc p) (pktExc s2 (trcSrc p) (initCode p) cause r.pc)

/-- A kernel double fault (R97): an engine is retired with cause 4; the MC and the SP stop, their store buffer is
discarded and the RST block resets with source 11, scope SYSTEM. -/
def doubleFault (s : State) (p : ProcId) : State :=
  match p with
  | .le n => retireEngine s n.val 4
  | _ => resetEntry (s.updK p (fun k => { k with stopped := true, buf := [], stall := none })) 11 2

/-- A precise exception at the instruction that PC addresses (R93, R95, R97). -/
def raise (s : State) (p : ProcId) (cause : Nat) : State :=
  let r := (s.cpu p).r
  if r.sup && !r.ie then doubleFault s p else enterExc s p cause false

/-- The asynchronous cause that is taken before the next instruction issues: NMI on the MC (R509), LSE with IE = 1
(R95, R104). -/
def asyncDue (s : State) (p : ProcId) : Option Nat :=
  let r := (s.cpu p).r
  if p == .mc && s.mcr.nmiNew && !s.mcr.nmiAct then some 0xE
  else if r.lsePend && r.ie then some 0xA
  else none

/-- Takes an asynchronous cause; NMI also sets NMI_ACT (R509). -/
def takeAsync (s : State) (p : ProcId) (cause : Nat) : State :=
  let s1 := enterExc s p cause true
  if cause = 0xE then { s1 with mcr := { s1.mcr with nmiAct := true, nmiNew := false } } else s1

/-! ### Hardware loops -/

/-- Loop level `k`. -/
def Proc.lp (r : Proc) (k : Nat) : HwLoop := if k = 0 then r.lp0 else if k = 1 then r.lp1 else r.lp2

def Proc.setLp (r : Proc) (k : Nat) (l : HwLoop) : Proc :=
  if k = 0 then { r with lp0 := l } else if k = 1 then { r with lp1 := l } else { r with lp2 := l }

/-- A level is active while its count is not 0 (R136). -/
def Proc.active (r : Proc) (k : Nat) : Bool := (r.lp k).count != 0

/-- The instruction at PC occupies the word at LPEk, whose bits [1:0] are ignored (R127, R137). -/
def Proc.atEnd (r : Proc) (e : Enc) (k : Nat) : Bool :=
  let stop := (r.lp k).stop &&& 0xFFFFFFFC
  stop == r.pc || (e.am == 7 && stop == r.pc + 4)

/-- The end check of R137 from level `k - 1` down; the first active level decides, an exhausted one passes on. -/
def endCheck (r : Proc) (e : Enc) (next : Word) : Nat → Proc
  | 0 => { r with pc := next }
  | k + 1 =>
    if r.active k then
      if r.atEnd e k then
        if 1 < (r.lp k).count.toNat then
          { (r.setLp k { r.lp k with count := (r.lp k).count - 1 }) with pc := (r.lp k).start &&& 0xFFFFFFFC }
        else endCheck (r.setLp k { r.lp k with count := 0 }) e next k
      else { r with pc := next }
    else endCheck r e next k

/-- The instruction completes without a transfer: the end check, else the next instruction. -/
def Proc.advance (r : Proc) (e : Enc) : Proc := endCheck r e (r.pc + word (ilen e)) 3

/-- LOOP stands at the end address of an active level: ILLEGAL (R138). -/
def Proc.loopAtEnd (r : Proc) (e : Enc) : Bool :=
  (r.active 0 && r.atEnd e 0) || (r.active 1 && r.atEnd e 1) || (r.active 2 && r.atEnd e 2)

/-- The lowest level whose count is 0 (R136). -/
def Proc.freeLevel (r : Proc) : Option Nat :=
  if !r.active 0 then some 0 else if !r.active 1 then some 1 else if !r.active 2 then some 2 else none

/-- The active level of highest index (R136). -/
def Proc.innermost (r : Proc) : Option Nat :=
  if r.active 2 then some 2 else if r.active 1 then some 1 else if r.active 0 then some 0 else none

/-! ### Return stack (R139) -/

def rsGet (r : Proc) (i : Nat) : Word := SMap.get (fun _ => 0) r.rs (i % 16)

/-- A push without a trap: on a full stack it overwrites the oldest entry. -/
def Proc.push (r : Proc) (v : Word) : Proc :=
  { r with
    rs := SMap.set (fun _ => 0) r.rs (r.rsTop % 16) v
    rsTop := (r.rsTop + 1) % 16
    rsDepth := min 16 (r.rsDepth + 1) }

/-- The entry below the top pointer. -/
def Proc.top (r : Proc) : Word := rsGet r (r.rsTop + 15)

/-- A pop without a trap: the pointer moves down; the depth stays 0 on an empty stack. -/
def Proc.pop (r : Proc) : Proc := { r with rsTop := (r.rsTop + 15) % 16, rsDepth := r.rsDepth - 1 }

/-- ST.RSTRAP. -/
def Proc.rstrap (r : Proc) : Bool := stBit r.st 10

/-! ### Memory protection unit (R506) -/

/-- Region `i` covers the address: EN, SIZE at least 5, equal address bits above SIZE. -/
def mpuCovers (m : McRegs) (a : Nat) (i : Nat) : Bool :=
  let b := (SMap.get (fun _ => 0) m.mpuBase i : Word).toNat
  let at' := (SMap.get (fun _ => 0) m.mpuAttr i : Word)
  let sz := b % 32
  at'.msb && decide (5 ≤ sz) && decide (a / 2 ^ sz = b / 2 ^ sz)

/-- The governing region below `n`: the matching region of highest number. -/
def mpuRegion (m : McRegs) (a : Nat) : Nat → Option Nat
  | 0 => none
  | i + 1 => if mpuCovers m a i then some i else mpuRegion m a i

/-- The right bit of an access within ATTR: SX 5, SW 4, SR 3, TX 2, TW 1, TR 0. -/
def mpuBit (sup write fetch : Bool) : Nat :=
  (if sup then 3 else 0) + (if fetch then 2 else if write then 1 else 0)

/-- The MPU refuses the access; the answer is MPU_FINFO's record (R506, R510). -/
def mpuRefuses (m : McRegs) (sup write fetch : Bool) (a : Nat) : Option Word :=
  if m.mpuCtrl.toNat % 2 = 0 then none
  else
    let info (reg : Nat) (noreg : Bool) : Word :=
      word (2 ^ 31 + reg * 8 + (if noreg then 4 else 0) + (if write then 2 else 0) + (if fetch then 1 else 0))
    match mpuRegion m a 16 with
    | some i =>
      if (SMap.get (fun _ => 0) m.mpuAttr i : Word).toNat.testBit (mpuBit sup write fetch) then none
      else some (info i false)
    | none => if sup && m.mpuCtrl.toNat.testBit 1 then none else some (info 15 true)

/-- Records an MPU fault. -/
def mpuRecord (s : State) (a : Nat) (info : Word) : State :=
  { s with mcr := { s.mcr with mpuFaddr := word a, mpuFinfo := info } }

/-! ### Comparators (R534, R535) -/

/-- What an instruction shows the comparators: its PC, or an access with its address and, once known, its data. -/
structure Seen where
  pc    : Bool
  load  : Bool
  store : Bool
  addr  : Word
  data  : Option Word
  deriving DecidableEq, Repr

/-- Comparators of a processor (R534). -/
def nCmp : ProcId → Nat
  | .le _ => 4
  | .mc => 8
  | .sp => 2

def cmpOf (s : State) (p : ProcId) (i : Nat) : Cmp := SMap.get (fun _ => {}) (s.cpu p).k.cmps i

/-- Equal outside the don't-care bits. -/
def cmpEq (c : Cmp) (w : Word) : Bool := (w ^^^ c.val) &&& ~~~c.mask == 0

/-- Comparator `i` by itself matches what is seen, under its partition filter (R534). -/
def cmpOwn (s : State) (p : ProcId) (o : Seen) (i : Nat) : Bool :=
  let c := cmpOf s p i
  let part := c.ctrl.toNat / 2 ^ 24 % 64
  c.ctrl.msb &&
    (match c.ctrl.toNat % 8 with
     | 0 => o.pc && cmpEq c o.addr
     | 1 => o.load && cmpEq c o.addr
     | 2 => o.store && cmpEq c o.addr
     | 3 => (o.load || o.store) && cmpEq c o.addr
     | 4 => (match o.data with | some d => cmpEq c d | none => false)
     | _ => false) &&
    (!c.ctrl.toNat.testBit 23 || (match p with | .le _ => decide ((s.cpu p).r.part = part) | _ => true))

/-- Comparator `i` matches, its LINK to comparator `i - 1` included. -/
def cmpHits (s : State) (p : ProcId) (o : Seen) : Nat → Bool
  | 0 => cmpOwn s p o 0
  | j + 1 => cmpOwn s p o (j + 1) && (!(cmpOf s p (j + 1)).ctrl.toNat.testBit 4 || cmpHits s p o j)

/-- The comparators below `n` that match, lowest first. -/
def cmpAll (s : State) (p : ProcId) (o : Seen) : Nat → List Nat
  | 0 => []
  | n + 1 => cmpAll s p o n ++ (if cmpHits s p o n then [n] else [])

/-- Some matching comparator asks for cause DEBUG. -/
def cmpExc (s : State) (p : ProcId) (l : List Nat) : Bool :=
  l.any (fun i => (cmpOf s p i).ctrl.toNat.testBit 8)

/-- TRIG and MARK of the matching comparators (R535). -/
def cmpActs (s : State) (p : ProcId) (o : Seen) : List Nat → State
  | [] => s
  | i :: l =>
    let c := (cmpOf s p i).ctrl.toNat
    let s1 := if c.testBit 9 then stringPulse s (c / 2 ^ 16 % 8) else s
    let s2 :=
      if c.testBit 10 then
        trcEmit s1 (trcSrc p) (pktMark s1 (trcSrc p) (initCode p) i o.addr (o.data.getD 0))
      else s1
    cmpActs s2 p o l

/-- The comparators see something: their TRIG and MARK actions, and whether cause DEBUG is due. -/
def cmpSee (s : State) (p : ProcId) (o : Seen) : Bool × State :=
  let l := cmpAll s p o (nCmp p)
  (cmpExc s p l, cmpActs s p o l)

/-! ### Special registers (R140, R510) -/

/-- The MC's own special registers. -/
def mcSpecial (m : McRegs) (n : Nat) : Word :=
  if 0x40 ≤ n ∧ n ≤ 0x5F then
    (if n % 2 = 0 then SMap.get (fun _ => 0) m.mpuBase ((n - 0x40) / 2) else SMap.get (fun _ => 0) m.mpuAttr ((n - 0x40) / 2))
  else match n with
    | 0x60 => m.mpuCtrl
    | 0x61 => m.mpuFaddr
    | 0x62 => m.mpuFinfo
    | 0x68 => m.nmiStat
    | 0x69 => if m.nmiAct then 1 else 0
    | 0x6A => m.lsStat
    | _ => 0

/-- MTS to the MC's own special registers: reserved bits stay 0, W1C bits clear (R510). -/
def mcSpecialSet (m : McRegs) (n : Nat) (v : Word) : McRegs :=
  if 0x40 ≤ n ∧ n ≤ 0x5F then
    (if n % 2 = 0 then { m with mpuBase := SMap.set (fun _ => 0) m.mpuBase ((n - 0x40) / 2) v }
     else { m with mpuAttr := SMap.set (fun _ => 0) m.mpuAttr ((n - 0x40) / 2) (v &&& 0x8000003F) })
  else match n with
    | 0x60 => { m with mpuCtrl := v &&& 3 }
    | 0x62 => if v.msb then m else { m with mpuFinfo := m.mpuFinfo &&& 0x7FFFFFFF }
    | 0x68 => { m with nmiStat := m.nmiStat &&& ~~~v }
    | 0x69 => { m with nmiAct := v.toNat % 2 = 1 }
    | 0x6A =>
      { m with lsStat :=
          setBit (if v.msb then m.lsStat &&& 0x7FFFFFFF else m.lsStat) 30 (v.toNat.testBit 30) }
    | _ => m

/-- The word that MFS reads; RS and TB_LO also change registers, see `mfsRegs`. -/
def mfsVal (s : State) (p : ProcId) (n : Nat) : Word :=
  let r := (s.cpu p).r
  let le := (match p with | .le _ => true | _ => false)
  if 0x08 ≤ n ∧ n ≤ 0x0F then SMap.get (fun _ => 0) r.fe (n - 8)
  else if 0x40 ≤ n then (if p == .mc then mcSpecial s.mcr n else word (Config.freeValue s.draws))
  else match n with
    | 0x00 => r.stVal
    | 0x01 => r.epc
    | 0x02 => r.estat
    | 0x03 => r.vbr
    | 0x04 => r.spc
    | 0x05 => r.ssr
    | 0x06 => r.lseAddr
    | 0x07 => r.lseInfo
    | 0x10 => r.lp0.start
    | 0x11 => r.lp0.stop
    | 0x12 => r.lp0.count.zeroExtend 32
    | 0x14 => r.lp1.start
    | 0x15 => r.lp1.stop
    | 0x16 => r.lp1.count.zeroExtend 32
    | 0x18 => r.lp2.start
    | 0x19 => r.lp2.stop
    | 0x1A => r.lp2.count.zeroExtend 32
    | 0x1C => r.top
    | 0x1D => word r.rsDepth
    | 0x20 => r.b
    | 0x21 => r.sbl
    | 0x22 => word r.part
    | 0x23 => if le then word r.gen else 0
    | 0x24 => word r.predBits
    | 0x25 => if le then r.cycnum else s.reg R.CYC_CYCNUM
    | 0x26 => if le then word r.ecnt else 0
    | 0x27 => word s.tb
    | 0x28 => r.tbHi
    | 0x29 => word (initCode p)
    | _ => 0

/-- The registers that MFS changes besides A: RS pops (R139), TB_LO latches TB_HI. -/
def mfsRegs (s : State) (r : Proc) (n : Nat) : Proc :=
  match n with
  | 0x1C => r.pop
  | 0x27 => { r with tbHi := word (s.tb / 2 ^ 32) }
  | _ => r

/-- The registers after MTS of `v` to number `n` (R98, R105, R127, R139, R140). -/
def mtsRegs (r : Proc) (n : Nat) (v : Word) : Proc :=
  if 0x08 ≤ n ∧ n ≤ 0x0F then { r with fe := SMap.set (fun _ => 0) r.fe (n - 8) (v &&& 0xFFFFFFFC) }
  else match n with
    | 0x00 => { r with st := (r.st &&& 0x100) ||| (v &&& 0x67F) }
    | 0x01 => { r with epc := v }
    | 0x02 => { r with estat := v &&& 0x071FFFFF }
    | 0x03 => { r with vbr := v &&& 0xFFFFFF00 }
    | 0x04 => { r with spc := v }
    | 0x05 => { r with ssr := v &&& 0xFFFF }
    | 0x07 => if v = 0 then { r with lseInfo := r.lseInfo &&& 0x3FFFFFFF } else r
    | 0x10 => { r with lp0 := { r.lp0 with start := v &&& 0xFFFFFFFC } }
    | 0x11 => { r with lp0 := { r.lp0 with stop := v &&& 0xFFFFFFFC } }
    | 0x12 => { r with lp0 := { r.lp0 with count := v.truncate 16 } }
    | 0x14 => { r with lp1 := { r.lp1 with start := v &&& 0xFFFFFFFC } }
    | 0x15 => { r with lp1 := { r.lp1 with stop := v &&& 0xFFFFFFFC } }
    | 0x16 => { r with lp1 := { r.lp1 with count := v.truncate 16 } }
    | 0x18 => { r with lp2 := { r.lp2 with start := v &&& 0xFFFFFFFC } }
    | 0x19 => { r with lp2 := { r.lp2 with stop := v &&& 0xFFFFFFFC } }
    | 0x1A => { r with lp2 := { r.lp2 with count := v.truncate 16 } }
    | 0x1C => r.push v
    | 0x20 => { r with b := v }
    | 0x21 => { r with sbl := v }
    | 0x22 => { r with part := v.toNat % 64 }
    | 0x24 => { r with p1 := v.toNat.testBit 1, p2 := v.toNat.testBit 2, p3 := v.toNat.testBit 3 }
    | _ => r

/-- Predicate `k`; P0 is hardwired to 1 (R117). -/
def Proc.pred (r : Proc) (k : Nat) : Bool :=
  match k with
  | 0 => true
  | 1 => r.p1
  | 2 => r.p2
  | _ => r.p3

/-- Writes predicate `k`; P0 takes no write. -/
def Proc.setPred (r : Proc) (k : Nat) (v : Bool) : Proc :=
  match k with
  | 0 => r
  | 1 => { r with p1 := v }
  | 2 => { r with p2 := v }
  | _ => { r with p3 := v }

/-- ST as ERET and SRET restore it from a saved word: S and IE included, RSDEPTH stays the stack's own; the SP stays
in supervisor mode (R97, R99, R116). -/
def restoreSt (p : ProcId) (saved : Word) : Word :=
  let w := saved &&& 0x77F
  if p == .sp then setBit w 8 true else w

/-- The processor's state after its mode bit changed (R89). -/
def modeState (r : Proc) : ProcState := if r.sup then .kernel else .task

/-! ### Branch prediction (R106 to R108) -/

/-- The 9-bit key of the partition on an engine, 0 on the MC and the SP (R109). -/
def predKey (s : State) (p : ProcId) : Nat :=
  match p with
  | .le _ => SMap.get (fun _ => 0) s.dpr.keys (s.cpu p).r.part % 512
  | _ => 0

/-- The entry that a PC selects: PC[10:2] XOR K (R106). -/
def predIdx (s : State) (p : ProcId) : Nat := ((s.cpu p).r.pc.toNat / 4 % 512) ^^^ predKey s p

/-- The entry is valid and, on an engine, tagged with the current partition. -/
def predHit (s : State) (p : ProcId) : Bool :=
  let t := SMap.get (fun _ => ({} : PredEntry)) (s.cpu p).k.pred (predIdx s p)
  t.valid && (match p with | .le _ => decide (t.tag = (s.cpu p).r.part) | _ => true)

/-- The prediction of a conditional branch: the counter's upper half, else backward taken, forward not (R107). -/
def predTaken (s : State) (p : ProcId) (target : Word) : Bool :=
  let t := SMap.get (fun _ => ({} : PredEntry)) (s.cpu p).k.pred (predIdx s p)
  if predHit s p then decide (2 ≤ t.ctr) else decide (target.toNat ≤ (s.cpu p).r.pc.toNat)

/-- A conditional branch resolves: the entry moves, BR_COUNT and BR_MISS count (R108). A branch through IDX is not
predicted (R134), so it is not mispredicted (log entry 15). -/
def predUpdate (s : State) (p : ProcId) (target : Word) (taken predicted : Bool) : State :=
  let i := predIdx s p
  let t := SMap.get (fun _ => ({} : PredEntry)) (s.cpu p).k.pred i
  let miss := predicted && predTaken s p target != taken
  let t' : PredEntry :=
    if predHit s p then { t with ctr := if taken then min 3 (t.ctr + 1) else t.ctr - 1 }
    else { valid := true, tag := (s.cpu p).r.part, ctr := if taken then 2 else 1 }
  s.updK p (fun k =>
    { k with
      pred := SMap.set (fun _ => {}) k.pred i t'
      brCount := if k.brCount = 0xFFFFFFFF then k.brCount else k.brCount + 1
      brMiss := if miss && k.brMiss != 0xFFFFFFFF then k.brMiss + 1 else k.brMiss })

end Sys2Proof.Machine
end

