-- ==== Sys2Proof/Machine/GurnoCore.lean ====
section
/-! DEFINITION. One Gurno instruction from issue to completion (R85, R93 to R96, R116 to R141). The rows of the
instruction set call `gurno`; LOAD_RESPONSE and STORE_RESPONSE finish what it leaves stalled. -/

namespace Sys2Proof.Machine

/-! ### Costs (R128, R134) -/

/-- Issue slots: FDIV occupies EX for 12, EXT forms cost one more. -/
def slots (op : GOp) (e : Enc) : Nat := (if op = .fdiv then 12 else 1) + (if e.am = 7 then 1 else 0)

/-- Clocks charged to the evaluation counter of an engine (R86). -/
def charge (s : State) (p : ProcId) (n : Nat) : State :=
  match p with
  | .le _ => s.upd p (fun r => { r with ecnt := r.ecnt + n })
  | _ => s

/-! ### Words that IF reads (R84) -/

/-- Single-bit errors on words that IF reads are corrected and counted (R84). -/
def correctLim (s : State) (p : ProcId) (words : List Nat) : State :=
  let bad := s.ecc1.filter (fun a => words.contains a)
  if bad = [] then s
  else
    { (s.updK p (fun k => { k with eccLim := min 65535 (k.eccLim + bad.length) })) with
      ecc1 := s.ecc1.filter (fun a => !bad.contains a) }

/-- The words that IF of engine `n` reads for the instruction at a PC (R84, R119). -/
def fetchWords (s : State) (n pc : Nat) : List Nat :=
  if 0x8000 ≤ pc then []
  else (limBase n + pc) :: (if s.rd (limBase n + pc) 4 / 2 ^ 20 % 8 = 7 ∧ pc + 4 < 0x8000 then [limBase n + pc + 4] else [])

/-- The fields of the word at a PC of engine `n`'s LIM (R119). -/
def fetchedEnc (s : State) (n pc : Nat) : Enc :=
  let w := word (s.rd (limBase n + pc) 4)
  ⟨w.msb, w.extractLsb' 29 2, w.extractLsb' 20 3, w.extractLsb' 0 20, word (s.rd (limBase n + pc + 4) 4), none⟩

/-- Where DE redirects IF behind the instruction at a PC: an unconditional BR, CALL or RET, and a conditional BR predicted taken; IDX
forms are not predicted (R107, R128, R134, R139). -/
def redirect (s : State) (n : Fin 64) (pc : Nat) : Option Word :=
  let op := s.rd (limBase n.val + pc) 4 / 2 ^ 23 % 64
  let e := fetchedEnc s n.val pc
  let s1 := s.upd (.le n) (fun r => { r with pc := word pc })
  let t := branchTarget (s1.cpu (.le n)).r e
  let always := e.ps == 0 && !e.pi
  if 0x8000 ≤ pc then none
  else if op = 0x38 ∧ (e.am = 0 ∨ e.am = 7) then
    (if always || (e.ps != 0 && predTaken s1 (.le n) t) then some t else none)
  else if op = 0x39 ∧ (e.am = 0 ∨ e.am = 7) then (if always then some t else none)
  else if op = 0x3A then (if always then some ((s.cpu (.le n)).r.top &&& 0xFFFFFFFC) else none)
  else none

/-- The PC that follows the instruction at a PC with no redirection: a hardware loop's start at its end address, without a bubble
(R134, R137). -/
def followPc (s : State) (n : Fin 64) (pc : Nat) : Nat :=
  ({ (s.cpu (.le n)).r with pc := word pc }.advance (fetchedEnc s n.val pc)).pc.toNat

/-- The words that IF reads in some clocks from a PC on: one instruction a clock along the predicted path; behind a redirection the word
that follows in the bubble clock, then the target (R84). -/
def pathWords (s : State) (n : Fin 64) : Nat → Nat → List Nat
  | 0, _ => []
  | 1, pc => fetchWords s n.val pc
  | k + 2, pc =>
    fetchWords s n.val pc ++
      match redirect s n pc with
      | some t => fetchWords s n.val (followPc s n pc) ++ pathWords s n k t.toNat
      | none => pathWords s n (k + 1) (followPc s n pc)

/-- IF has read these words, whatever becomes of their instructions: a double-bit error retires the engine, single-bit ones are
corrected (R84, R93). -/
def fetched (s : State) (p : ProcId) (words : Fin 64 → List Nat) : State :=
  match p with
  | .le n => if (words n).any (has s.ecc2) then retireEngine s n.val 2 else correctLim s p (words n)
  | _ => s

/-- IF has read the path of `k` clocks from `pc` on, which is squashed. The clocks of a case are its bubbles; three clocks stand between
IF and EX (log entry 24). -/
def squashed (s : State) (p : ProcId) (pc : Word) (k : Nat) : State := fetched s p (fun n => pathWords s n k pc.toNat)

/-! ### Interlocks and latencies (R134, R135) -/

/-- The opcode takes an operand through an addressing mode. -/
def hasOperand (op : GOp) : Bool := amSet op != .i

/-- The address mode uses X, and Y; FMAC addresses its second operand through Y (R123, R128). -/
def addrX (op : GOp) (e : Enc) : Bool := hasOperand op && (e.am == 3 || e.am == 5)
def addrY (op : GOp) (e : Enc) : Bool := (hasOperand op && e.am == 4) || op == .fmac

/-- The encoding accesses memory or a slot: a load, a store, XCH, CLAMP or FMAC. -/
def opTouches (op : GOp) (e : Enc) : Bool :=
  hasOperand op && amSet op != .mNoIxp && amSet op != .t && e.am != 0 && (e.am != 7 || extAddr e)

/-- Opcodes that read A as their own source. -/
def readsA (op : GOp) (e : Enc) : Bool :=
  match op with
  | .st | .sth | .stb | .xch | .cmp | .fcmp | .tst | .mts | .clamp | .sat => true
  | .add | .sub | .subr | .mul | .mulh | .and | .or | .xor | .shl | .shr | .sar | .min | .max => true
  | .fadd | .fsub | .fmul | .fdiv | .fmac | .fsubr | .fmin | .fmax => true
  | .mov => opdBits e 0 4 = 0
  | _ => false

/-- Instructions that read the flags: PSET, SYSC and MFS of ST. -/
def readsFlags (op : GOp) (e : Enc) : Bool := op == .pset || op == .sysc || (op == .mfs && decide (opdBits e 0 8 = 0))

/-- Opcodes that write A. -/
def writesA (op : GOp) (e : Enc) : Bool :=
  match op with
  | .ld | .ldh | .ldb | .xch | .ldu | .mfs => true
  | .mov => opdBits e 4 4 = 0
  | _ => (decide (0x10 ≤ opcode op ∧ opcode op ≤ 0x1C)) || decide (0x20 ≤ opcode op ∧ opcode op ≤ 0x2D)

/-- The opcode writes X, or Y, otherwise than by a post-update (R135). -/
def writesX (op : GOp) (e : Enc) : Bool :=
  match op with
  | .ldx | .leax | .addx => true
  | .mov => opdBits e 4 4 = 1
  | .ld => e.am == 6 && decide (opdBits e 16 2 = 3)
  | _ => false
def writesY (op : GOp) (e : Enc) : Bool :=
  match op with
  | .ldy | .leay | .addy => true
  | .mov => opdBits e 4 4 = 2
  | _ => false

/-- The predicates that the opcode writes, as bits. -/
def writesPreds (op : GOp) (e : Enc) : Nat :=
  match op with
  | .pset | .pand | .por | .pnot => 2 ^ opdBits e 4 2
  | .eret => 0xE
  | .mts => if opdBits e 0 8 = 0x24 then 0xE else 0
  | _ => 0

/-- The slots of R135 that an instruction waits, judged from its encoding before its predicate. -/
def interlock (k : Pipe) (op : GOp) (e : Enc) : Nat :=
  let a := if (addrX op e && k.x1) || (addrY op e && k.y1) then 2 else if (addrX op e && k.x2) || (addrY op e && k.y2) then 1 else 0
  max a (if opTouches op e && k.preds.testBit e.ps.toNat then 1 else 0)

/-- The slots that an executed instruction waits for the result of a MUL, MULH or FMAC (R134). -/
def latency (k : Pipe) (ecnt : Nat) (op : GOp) (e : Enc) : Nat :=
  if (readsA op e && !(k.aFmac && op == .fmac)) || (readsFlags op e && !k.aFmac) then k.aReady - ecnt else 0

/-- The slots that an instruction waits before it issues: the longer of two waits (log entry 152). -/
def wait (s : State) (p : ProcId) (op : GOp) (e : Enc) (on : Bool) : Nat :=
  let c := s.cpu p
  max (interlock c.k.pipe op e) (if on then latency c.k.pipe c.r.ecnt op e else 0)

/-- What an instruction that issues leaves to those behind it; one that is predicated off writes nothing. -/
def noted (s : State) (p : ProcId) (op : GOp) (e : Enc) (on : Bool) : State :=
  let c := s.cpu p
  let t := c.r.ecnt + wait s p op e on
  let k := c.k.pipe
  s.updK p (fun c => { c with pipe := {
    x1 := on && writesX op e, y1 := on && writesY op e, x2 := k.x1, y2 := k.y1
    preds := if on then writesPreds op e else 0
    aReady := if !on then k.aReady else if op = .mul ∨ op = .mulh then t + 2 else if op = .fmac then t + 3
      else if writesA op e then 0 else k.aReady
    aFmac := if on && (op == .fmac || writesA op e) then op == .fmac else k.aFmac } })

/-! ### Results -/

/-- What an arithmetic opcode computes from A, its operand, CLAMP's upper bound and FMAC's second operand. -/
def aluOf (op : GOp) (a v hi m : Word) : Option Alu :=
  match op with
  | .add => some (aluAdd a v)
  | .sub => some (aluSub a v)
  | .subr => some (aluSub v a)
  | .mul => some (aluMul a v)
  | .mulh => some (aluMulh a v)
  | .and => some (aluLogic (a &&& v))
  | .or => some (aluLogic (a ||| v))
  | .xor => some (aluLogic (a ^^^ v))
  | .shl => some (aluShl a v)
  | .shr => some (aluShr a v)
  | .sar => some (aluSar a v)
  | .min => some (aluMin a v)
  | .max => some (aluMax a v)
  | .fadd => some (fAdd a v)
  | .fsub => some (fSub a v)
  | .fmul => some (fMul a v)
  | .fdiv => some (fDiv a v)
  | .fmac => some (fMac a v m)
  | .fsubr => some (fSub v a)
  | .fmin => some (fMinMax true a v)
  | .fmax => some (fMinMax false a v)
  | .clamp => some (fClamp a v hi)
  | .sat => some (fSat a v)
  | .fabs => some (fAbs v)
  | .fneg => some (fNeg v)
  | .itof => some (fItof v)
  | .ftoi => some (fFtoi v)
  | .cmp => some (aluSub a v)
  | .fcmp => some (fCmp a v)
  | .tst => some (aluLogic (a &&& v))
  | _ => none

/-- CMP, FCMP and TST set flags alone. -/
def flagsOnly : GOp → Bool
  | .cmp | .fcmp | .tst => true
  | _ => false

/-- ST after an operation: Z and N always, C and V where the opcode sets them, sticky float flags (R129). -/
def stAfter (st : Word) (u : Alu) : Word :=
  let w := setBit (setBit st 0 u.z) 1 u.n
  let w := match u.c with | some c => setBit w 2 c | none => w
  let w := match u.v with | some v => setBit w 3 v | none => w
  let w := if u.fi then setBit w 4 true else w
  let w := if u.fo then setBit w 5 true else w
  if u.fu then setBit w 6 true else w

/-- The registers after a value-reading opcode with operand `v` (R123, R126, R128): the IXP post-update first, then
the opcode's own writes, which read the old registers. -/
def valueRegs (r : Proc) (op : GOp) (e : Enc) (v hi m : Word) : Proc :=
  let r1 := { r with x := ixpX r e }
  match aluOf op r.a v hi m with
  | some u =>
    let r2 := { r1 with st := stAfter r.st u }
    let r3 := if flagsOnly op then r2 else { r2 with a := u.val }
    if op = .fmac then { r3 with y := r.y + 4 } else r3
  | none =>
    match op with
    | .ld => if e.am = 6 ∧ opdBits e 16 2 = 3 then { r1 with a := v, x := hi } else { r1 with a := v }
    | .ldx => { r1 with x := v }
    | .ldy => { r1 with y := v }
    | .ldh => { r1 with a := v }
    | .ldb => { r1 with a := v }
    | .xch => { r1 with a := v }
    | .addx => { r1 with x := r.x + v }
    | .addy => { r1 with y := r.y + v }
    | _ => r1

/-- A precise exception at an instruction that has issued: its clocks, the entry, and the words that IF has read behind it (R84, R86,
R93, R134). -/
def raiseAt (s : State) (p : ProcId) (e : Enc) (cost cause : Nat) : State :=
  squashed (raise (charge s p cost) p cause) p ((s.cpu p).r.pc + word (ilen e)) 3

/-- The instruction completes with these registers: end check and next PC, cost charged. -/
def complete (s : State) (p : ProcId) (e : Enc) (cost : Nat) (r : Proc) : State :=
  let s1 := s.updK p (fun k => { k with stall := none })
  charge (s1.upd p (fun _ => r.advance e)) p cost

/-! ### Own LDM (R81, R84) -/

/-- The 32-bit word that an address of the LDM of engine `n` lies in. -/
def ldmWord (n a : Nat) : Nat := ldmBase n + a / 4 * 4

/-- A single-bit error of one word of the own LDM is corrected and counted, and takes 2 clocks more (R84). -/
def ldmCorrect (s : State) (n w : Nat) : State :=
  if has s.ecc1 w then
    let c := s.le n
    { (s.setLe n ⟨{ c.r with ecnt := c.r.ecnt + 2 }, { c.k with eccLdm := min 65535 (c.k.eccLdm + 1) }⟩) with ecc1 := dropFrom s.ecc1 w }
  else s

/-- A read of the own LDM: the value, or the retirement of R84 for a double-bit error. -/
def ldmRead (s : State) (n a size : Nat) : Option Nat × State :=
  if has s.ecc2 (ldmWord n a) || (size == 8 && has s.ecc2 (ldmWord n a + 4)) then (none, retireEngine s n 3)
  else
    let s1 := ldmCorrect s n (ldmWord n a)
    let s2 := if size = 8 then ldmCorrect s1 n (ldmWord n a + 4) else s1
    (some (s2.rd (ldmBase n + a) size), s2)

/-- A store to the own LDM: narrow stores read the word first; a 32-bit store replaces word and check bits (R84). -/
def ldmWrite (s : State) (n a size : Nat) (v : Word) : Option State :=
  if size = 4 then
    some ({ (s.wr (ldmBase n + a) 4 v.toNat) with
      ecc1 := dropFrom s.ecc1 (ldmWord n a), ecc2 := dropFrom s.ecc2 (ldmWord n a) })
  else
    match ldmRead s n a size with
    | (none, _) => none
    | (some _, s1) => some (s1.wr (ldmBase n + a) size v.toNat)

/-! ### Where an access goes (R43, R81, R82, R116) -/

/-- An access is served by the own LDM, goes to the fabric, or raises ACCESS (with the MPU's record on the MC). -/
inductive Route where
  | own
  | fabric
  | refused (info : Option Word)
  deriving DecidableEq, Repr

/-- The task-mode state block window lies wholly around the access, in CSM below the DPR's area (R82, R112). -/
def inWindow (r : Proc) (a size : Nat) : Bool :=
  decide (r.b.toNat ≤ a) && decide (a + size ≤ r.b.toNat + r.sbl.toNat) &&
    decide (0x30000000 ≤ a) && decide (a < 0x34000000) && decide (a % 0x1000000 < 0xFC000)

/-- The MPU's answer to a data access of the MC: XCH reads and writes. -/
def mpuData (s : State) (sup read write : Bool) (a : Nat) : Option Word :=
  (if read then mpuRefuses s.mcr sup false false a else none).or (if write then mpuRefuses s.mcr sup true false a else none)

/-- Where an access of `size` bytes goes. -/
def route (s : State) (p : ProcId) (a size : Nat) (read write : Bool) : Route :=
  let r := (s.cpu p).r
  match p with
  | .le n =>
    if a < 0x4000 then .own
    else if a < 0x10000 then .refused none
    else if limBase n.val ≤ a ∧ a < limBase n.val + 0xC000 then .refused none
    else if r.sup then .fabric
    else if inWindow r a size then .fabric
    else .refused none
  | .mc =>
    (match mpuData s r.sup read write a with
     | some i => .refused (some i)
     | none => .fabric)
  | .sp => .fabric

/-- ACCESS, with the MPU's record where the MPU refused. -/
def refuseAccess (s : State) (p : ProcId) (e : Enc) (cost a : Nat) (info : Option Word) : State :=
  match info with
  | some i => raiseAt (mpuRecord s a i) p e cost 4
  | none => raiseAt s p e cost 4

/-- FMAC's second operand lies in the own LDM of an engine, in MGS for the MC (R116). -/
def fmacYOk (p : ProcId) (y : Nat) : Bool :=
  match p with
  | .le _ => decide (y < 0x4000)
  | .mc => decide (0x10000000 ≤ y ∧ y < 0x10200000)
  | .sp => false

/-- XCH's targets: own LDM, any CSM, MGS; in task mode the LDM and the state block window alone (R131). -/
def xchOk (p : ProcId) (r : Proc) (a : Nat) : Bool :=
  (match p with | .le _ => decide (a < 0x4000) | _ => false) ||
    ((r.sup || inWindow r a 4) &&
      (decide (0x30000000 ≤ a ∧ a < 0x34000000) || decide (0x10000000 ≤ a ∧ a < 0x10200000)))

/-- The initiator that a processor's access carries. -/
def cpuInit (s : State) (p : ProcId) : Init := .cpu p (s.cpu p).r.sup

/-! ### Loads and value-reading opcodes -/

/-- FMAC's second operand, read; every other opcode has none. An engine's own LDM can retire it (R84). -/
def secondOperand (s : State) (p : ProcId) (op : GOp) (e : Enc) (cost : Nat) (outside : HostData) : Option Word × State :=
  if op = .fmac then
    match p with
    | .le n =>
      (match ldmRead s n.val (s.cpu p).r.y.toNat 4 with
       | (some v, s1) => (some (word v), s1)
       | (none, s1) => (none, s1))
    | _ =>
      (match busRead s (cpuInit s p) (s.cpu p).r.part (s.cpu p).r.y.toNat 4 outside with
       | (.ok v, s1) => (some (word v), s1)
       | (.ecc, s1) => (none, raiseAt s1 p e cost 0xC)
       | (.held, s1) => (none, s1)
       | (_, s1) => (none, raiseAt s1 p e cost 4))
  else (some 0, s)

/-- The operand has been read from `a`: the comparators see it, then the result is written (R535). For XCH the write
half follows the read. -/
def loaded (s : State) (p : ProcId) (op : GOp) (e : Enc) (a : Word) (v : Nat) (cost : Nat) (m : Word)
    (writeHalf : State → State) : State :=
  let w := word v
  let (exc, s1) := cmpSee s p ⟨false, true, op == .xch, a, some w⟩
  if exc then raiseAt s1 p e cost 0xB
  else
    let s2 := writeHalf s1
    complete s2 p e cost (valueRegs (s2.cpu p).r op e w (word (v / 2 ^ 32)) m)

/-- Holds the instruction at MA. -/
def hold (s : State) (p : ProcId) (op : GOp) (e : Enc) (why : StallWhy) : State :=
  s.updK p (fun k => { k with stall := some ⟨op, e, why⟩ })

/-- A value-reading opcode whose operand is in memory at `a`: ACCESS before MISALIGNED (R95), own LDM at once, every
other target by a stall at MA until LOAD_RESPONSE (R85). -/
def loadFrom (s : State) (p : ProcId) (op : GOp) (e : Enc) (a : Word) (cost : Nat) : State :=
  let size := accessSize op
  let y := (s.cpu p).r.y.toNat
  match route s p a.toNat size true (op == .xch) with
  | .refused info => refuseAccess s p e cost a.toNat info
  | rt =>
    if op = .xch ∧ !xchOk p (s.cpu p).r a.toNat then raiseAt s p e cost 4
    else if op = .fmac ∧ !fmacYOk p y then raiseAt s p e cost 4
    else if a.toNat % size ≠ 0 ∨ (op = .fmac ∧ y % 4 ≠ 0) then raiseAt s p e cost 5
    else
      match rt, p with
      | .own, .le n =>
        (match ldmRead s n.val a.toNat size with
         | (none, s1) => s1
         | (some v, s1) =>
           (match secondOperand s1 p op e cost .error with
            | (none, s2) => s2
            | (some m, s2) =>
              loaded s2 p op e a v cost m (fun t =>
                if op = .xch then (ldmWrite t n.val a.toNat 4 (t.cpu p).r.a).getD t else t)))
      | _, _ => hold (charge s p cost) p op e .load

/-- A value-reading opcode whose operand is a part of a slot: refused on the SP (R116), else a stall at MA. -/
def loadSig (s : State) (p : ProcId) (op : GOp) (e : Enc) (slot : Nat) (cost : Nat) : State :=
  let y := (s.cpu p).r.y.toNat
  if p == .sp then raiseAt s p e cost 4
  else if op = .fmac ∧ !fmacYOk p y then raiseAt s p e cost 4
  else if op = .fmac ∧ y % 4 ≠ 0 then raiseAt s p e cost 5
  else
    match p with
    | .mc =>
      (match mpuRefuses s.mcr (s.cpu p).r.sup false false (0x20000000 + 8 * slot) with
       | some i => refuseAccess s p e cost (0x20000000 + 8 * slot) (some i)
       | none => hold (charge s p cost) p op e .load)
    | _ => hold (charge s p cost) p op e .load

/-- A value-reading opcode (R123): a constant operand completes at once. -/
def execValue (s : State) (p : ProcId) (op : GOp) (e : Enc) (cost : Nat) : State :=
  match operand p (s.cpu p).r op e with
  | .const v => complete s p e cost (valueRegs (s.cpu p).r op e v 0 0)
  | .addr a => loadFrom s p op e a cost
  | .sig slot _ => loadSig s p op e slot cost

/-! ### Stores -/

/-- The word and the upper word that a store opcode stores (R126: STX stores the old X). -/
def storeData (r : Proc) : GOp → Word
  | .stx => r.x
  | .sty => r.y
  | _ => r.a

/-- The entry that a store puts into the buffer (R91, R101, R162). -/
def storeEntry (s : State) (p : ProcId) (op : GOp) (a : Nat) (kind : StoreKind) : StoreEntry :=
  let c := s.cpu p
  let le := (match p with | .le _ => true | _ => false)
  { addr := a
    size := (match kind with | .sig 1 => 2 | .sig 3 => 8 | _ => accessSize op)
    data := storeData c.r op
    hi := c.r.x
    kind := kind
    part := c.r.part
    gen := if le then c.r.gen else 0
    blk := c.k.ev.map (fun v => v.blk)
    task := !c.r.sup }

/-- A store enters the buffer, or holds at MA while four entries wait; its own clocks are charged then already (R86, R101). -/
def storeBuffered (s : State) (p : ProcId) (op : GOp) (e : Enc) (a : Nat) (kind : StoreKind) (cost : Nat) : State :=
  if (s.cpu p).k.buf.length < 4 then
    let en := storeEntry s p op a kind
    let s1 := s.updK p (fun k => { k with buf := k.buf ++ [en] })
    complete s1 p e cost { (s1.cpu p).r with x := ixpX (s1.cpu p).r e }
  else hold (charge s p cost) p op e .storeFull

/-- Bytes outside the access read 0 in the data that comparators see (R534). -/
def seenData (w : Word) (size : Nat) : Word := word (w.toNat % 2 ^ (8 * size))

/-- A store opcode (R128): ACCESS, MISALIGNED, comparators, then the own LDM or the buffer. -/
def execStore (s : State) (p : ProcId) (op : GOp) (e : Enc) (cost : Nat) : State :=
  let size := accessSize op
  let d := storeData (s.cpu p).r op
  match operand p (s.cpu p).r op e with
  | .const _ => raiseAt s p e cost 1
  | .addr a =>
    (match route s p a.toNat size false true with
     | .refused info => refuseAccess s p e cost a.toNat info
     | rt =>
       if a.toNat % size ≠ 0 then raiseAt s p e cost 5
       else
         let (exc, s1) := cmpSee s p ⟨false, false, true, a, some (seenData d size)⟩
         if exc then raiseAt s1 p e cost 0xB
         else
           match rt, p with
           | .own, .le n =>
             (match ldmWrite s1 n.val a.toNat size d with
              | none => retireEngine s1 n.val 3
              | some s2 => complete s2 p e cost { (s2.cpu p).r with x := ixpX (s2.cpu p).r e })
           | _, _ => storeBuffered s1 p op e a.toNat .plain cost)
  | .sig slot part =>
    let a := 0x20000000 + 8 * slot
    if p == .sp then raiseAt s p e cost 4
    else
      match (if p == .mc then mpuRefuses s.mcr (s.cpu p).r.sup true false a else none) with
      | some i => refuseAccess s p e cost a (some i)
      | none =>
        let (exc, s1) := cmpSee s p ⟨false, false, true, word a, some (if part = 1 then seenData d 2 else d)⟩
        if exc then raiseAt s1 p e cost 0xB
        else storeBuffered s1 p op e (if part = 1 then a + 4 else a) (.sig part) cost

/-! ### Control -/

/-- A FLOW packet where the processor is the one that `TRC_FLOW` names (R540). -/
def traceFlow (s : State) (p : ProcId) (target : Word) : State :=
  let me := (match p with | .le n => n.val | .mc => 64 | .sp => 128)
  if s.fld F.TRC_FLOW_CPU = me then trcEmit s (trcSrc p) (pktFlow s (trcSrc p) (initCode p) target) else s

/-- A transfer to `target`: no end check (R138). -/
def jump (s : State) (p : ProcId) (cost : Nat) (r : Proc) (target : Word) : State :=
  charge (s.upd p (fun _ => { r with pc := target &&& 0xFFFFFFFC })) p cost

/-- Bubbles of BR (R134). -/
def brBubbles (e : Enc) (cond predicted : Bool) : Nat :=
  if e.am = 3 then 3 else if !cond then 1 else if predicted then 1 else 3

/-- The words that IF reads in the three clocks behind a conditional branch with its prediction: the word that follows and the target's
path, or the words that follow (R84). -/
def branchPath (s : State) (p : ProcId) (e : Enc) (t : Word) (hit : Bool) (n : Fin 64) : List Nat :=
  let next := ((s.cpu p).r.pc + word (ilen e)).toNat
  if hit then fetchWords s n.val next ++ pathWords s n 2 t.toNat else pathWords s n 3 next

/-- BR (R128): taken, since its predicate is true. -/
def doBr (s : State) (p : ProcId) (e : Enc) (cost : Nat) : State :=
  let r := (s.cpu p).r
  let t := branchTarget r e
  let cond := e.ps != 0
  let hit := predTaken s p t
  let s1 := if cond then predUpdate s p t true (e.am != 3) else s
  let s2 := traceFlow (jump s1 p (cost + brBubbles e cond hit) (s1.cpu p).r t) p t
  if cond && e.am != 3 then fetched s2 p (branchPath s p e t hit) else squashed s2 p (r.pc + word (ilen e)) (brBubbles e cond hit)

/-- CALL (R139): RS_OVER on a full stack with RSTRAP, else the push and the branch. -/
def doCall (s : State) (p : ProcId) (e : Enc) (cost : Nat) : State :=
  let r := (s.cpu p).r
  let t := branchTarget r e
  if r.rsDepth = 16 ∧ r.rstrap then raiseAt s p e cost 7
  else
    let bub := if e.am = 3 ∨ e.ps ≠ 0 then 3 else 1
    squashed (traceFlow (jump s p (cost + bub) (r.push (r.pc + word (ilen e))) t) p t) p (r.pc + word (ilen e)) bub

/-- RET (R139). -/
def doRet (s : State) (p : ProcId) (e : Enc) (cost : Nat) : State :=
  let r := (s.cpu p).r
  if r.rsDepth = 0 ∧ r.rstrap then raiseAt s p e cost 8
  else
    let bub := if e.ps ≠ 0 then 3 else 1
    squashed (traceFlow (jump s p (cost + bub) r.pop r.top) p r.top) p (r.pc + 4) bub

/-- LOOP (R136): skip on count 0, a free level else, LOOP when none is free, LEAVE for a body of 0 words. -/
def doLoop (s : State) (p : ProcId) (e : Enc) (cost : Nat) : State :=
  let r := (s.cpu p).r
  let len := opdBits e 0 10
  let count := if opdBits e 19 1 = 1 then r.x.toNat % 65536 else opdBits e 10 9
  if len = 0 then
    match r.innermost with
    | some k => complete s p e cost (r.setLp k { r.lp k with count := 0 })
    | none => complete s p e cost r
  else if count = 0 then squashed (jump s p (cost + 1) r (r.pc + word (4 + 4 * len))) p (r.pc + 4) 1
  else
    match r.freeLevel with
    | none => raiseAt s p e cost 9
    | some k => complete s p e cost (r.setLp k ⟨r.pc + 4, r.pc + word (4 * len), BitVec.ofNat 16 count⟩)

/-- SYSC n (R99). -/
def execSys (s : State) (p : ProcId) (e : Enc) (cost : Nat) : State :=
  let r := (s.cpu p).r
  let t := (SMap.get (fun _ => 0) r.fe (opdBits e 0 4) : Word)
  let r1 := { r with spc := r.pc + 4, ssr := r.stVal &&& 0xFFFF, st := setBit r.st 8 true }
  squashed ((jump s p (cost + 1) r1 t).updK p (fun k => { k with state := .kernel })) p (r.pc + 4) 1

/-- The mode bit changed: the processor's state follows (R89). -/
def followMode (s : State) (p : ProcId) : State :=
  s.updK p (fun k => { k with state := modeState (s.cpu p).r })

/-- SRET (R99). -/
def execSretOp (s : State) (p : ProcId) (cost : Nat) : State :=
  let r := (s.cpu p).r
  squashed (followMode (jump s p (cost + 1) { r with st := restoreSt p r.ssr } r.spc) p) p (r.pc + 4) 1

/-- ERET (R97). -/
def execEretOp (s : State) (p : ProcId) (cost : Nat) : State :=
  let r := (s.cpu p).r
  let r1 := { r with
    st := restoreSt p (r.estat &&& 0xFFFF)
    p1 := stBit r.estat 24, p2 := stBit r.estat 25, p3 := stBit r.estat 26 }
  squashed (followMode (jump s p (cost + 3) r1 r.epc) p) p (r.pc + 4) 3

/-- YIELD (R92): fetching stops, the engine enters DRAIN; IF has read the words behind it (R84). -/
def execYieldOp (s : State) (p : ProcId) (cost : Nat) : State :=
  squashed ((charge s p cost).updK p (fun k => { k with state := .drain })) p ((s.cpu p).r.pc + 4) 3

/-- WAIT n (R141): issue stops; PC stands at the instruction after WAIT. -/
def execWaitOp (s : State) (p : ProcId) (e : Enc) (cost : Nat) : State :=
  let s1 := complete s p e cost (s.cpu p).r
  s1.updK p (fun k => { k with waiting := some (opdBits e 0 16) })

/-- FENCE (R101, R141): completes when the buffer is empty. -/
def execFenceOp (s : State) (p : ProcId) (e : Enc) (cost : Nat) : State :=
  if (s.cpu p).k.buf = [] then complete s p e cost (s.cpu p).r
  else hold (charge s p cost) p .fence e .fence

/-- MFS (R140). The SP's own numbers read a free value (log entry 16). -/
def execMfsOp (s : State) (p : ProcId) (e : Enc) (cost : Nat) : State :=
  let n := opdBits e 0 8
  let v := mfsVal s p n
  let s1 := if p == .sp ∧ 0x40 ≤ n then (s.draw).2 else s
  complete s1 p e cost { mfsRegs s (s.cpu p).r n with a := v }

/-- MTS (R140). -/
def execMtsOp (s : State) (p : ProcId) (e : Enc) (cost : Nat) : State :=
  let n := opdBits e 0 8
  let r := (s.cpu p).r
  let s1 := if p == .mc ∧ 0x40 ≤ n then { s with mcr := mcSpecialSet s.mcr n r.a } else s
  complete s1 p e (cost + 3) (mtsRegs r n r.a)

/-- MOV among A, X, Y and B (R128). -/
def movRegs (r : Proc) (e : Enc) : Proc :=
  let v :=
    match opdBits e 0 4 with
    | 0 => r.a
    | 1 => r.x
    | 2 => r.y
    | _ => r.b
  match opdBits e 4 4 with
  | 0 => { r with a := v }
  | 1 => { r with x := v }
  | 2 => { r with y := v }
  | _ => { r with b := v }

/-- LEAX and LEAY write the effective address (R128). -/
def leaRegs (p : ProcId) (r : Proc) (op : GOp) (e : Enc) : Proc :=
  match operand p r op e with
  | .addr a => if op = .leax then { r with x := a } else { r with y := a }
  | _ => r

/-- PSET, PAND, POR and PNOT (R128, R130). -/
def predRegs (r : Proc) (op : GOp) (e : Enc) : Proc :=
  let pa := r.pred (opdBits e 2 2)
  let pb := r.pred (opdBits e 0 2)
  let ia := opdBits e 7 1 = 1
  let ib := opdBits e 6 1 = 1
  let v :=
    match op with
    | .pset => condHolds (opdBits e 0 4) (stBit r.st 0) (stBit r.st 1) (stBit r.st 2) (stBit r.st 3)
    | .pand => (pa != ia) && (pb != ib)
    | .por => (pa != ia) || (pb != ib)
    | _ => !pa
  r.setPred (opdBits e 4 2) v

/-- An executed instruction whose encoding and mode are in order. -/
def execOp (s : State) (p : ProcId) (op : GOp) (e : Enc) (cost : Nat) : State :=
  let r := (s.cpu p).r
  match op with
  | .st | .stx | .sty | .sth | .stb => execStore s p op e cost
  | .leax | .leay => complete s p e cost (leaRegs p r op e)
  | .mov => complete s p e cost (movRegs r e)
  | .ldu => complete s p e cost { r with a := word (e.opd.toNat * 4096) }
  | .pset | .pand | .por | .pnot => complete s p e cost (predRegs r op e)
  | .br => doBr s p e cost
  | .call => doCall s p e cost
  | .ret => doRet s p e cost
  | .loop => doLoop s p e cost
  | .sysc => execSys s p e cost
  | .sret => execSretOp s p cost
  | .eret => execEretOp s p cost
  | .nop => complete s p e cost r
  | .yield => execYieldOp s p cost
  | .wait => execWaitOp s p e cost
  | .fence => execFenceOp s p e cost
  | .mfs => execMfsOp s p e cost
  | .mts => execMtsOp s p e cost
  | _ => execValue s p op e cost

/-! ### Issue -/

/-- An engine is drained as FENCE does: while its cluster switches off, and in a save (R102, R368, R443). -/
def drained (s : State) (p : ProcId) : Bool :=
  match p with
  | .le n => has s.pmu.goingOff (n.val / 16) || s.saving
  | _ => false

/-- The instruction at PC can issue: the processor runs, nothing holds it, debug has not halted it. -/
def canIssue (s : State) (p : ProcId) : Bool :=
  let k := (s.cpu p).k
  (k.state == .task || k.state == .kernel) && k.stall == none && k.waiting == none && !k.halted && !k.stopped && !drained s p

/-- What the fetch meets (R80, R84, R506): a cause, a double-bit LIM error, or nothing. -/
inductive FetchRes where
  | ok
  | cause (info : Option (Nat × Word))
  | dead
  deriving DecidableEq, Repr

def fetchRes (s : State) (p : ProcId) (e : Enc) : FetchRes :=
  let r := (s.cpu p).r
  let pc := r.pc.toNat
  match p with
  | .le n =>
    if 0x8000 ≤ pc then .cause none
    else if e.am = 7 ∧ pc = 0x7FFC then .cause none
    else if has s.ecc2 (limBase n.val + pc) || (e.am == 7 && has s.ecc2 (limBase n.val + pc + 4)) then .dead
    else .ok
  | .mc =>
    (match mpuRefuses s.mcr r.sup false true pc with
     | some i => .cause (some (pc, i))
     | none =>
       if e.am = 7 then
         (match mpuRefuses s.mcr r.sup false true (pc + 4) with
          | some i => .cause (some (pc + 4, i))
          | none => .ok)
       else .ok)
  | .sp => .ok

/-- Single-bit LIM errors on the fetched words are corrected and counted (R84). -/
def fetchCorrect (s : State) (p : ProcId) (e : Enc) : State :=
  match p with
  | .le n =>
    let a := limBase n.val + (s.cpu p).r.pc.toNat
    correctLim s p (if e.am = 7 then [a, a + 4] else [a])
  | _ => s

/-- The predicate that guards the instruction (R120). -/
def guardTrue (r : Proc) (e : Enc) : Bool := r.pred e.ps.toNat != e.pi

/-- A predicated-off instruction: its issue slots and interlocks, the predictor for a conditional BR of a mode that BR has, the end check
(R120, R128, R135, R137). Log entry 185: a conditional BR that was predicted taken pays the 3 clocks of R134 although R120 names no such
cost. -/
def predicatedOff (s : State) (p : ProcId) (op : GOp) (e : Enc) (waited : Nat) : State :=
  let t := branchTarget (s.cpu p).r e
  let cost := (if e.am = 7 then 2 else 1) + waited
  if op = .br ∧ e.ps ≠ 0 ∧ amOk op e = true then
    let hit := decide (e.am ≠ 3) && predTaken s p t
    let s1 := predUpdate s p t false (e.am != 3)
    let s2 := complete s1 p e (cost + (if hit then 3 else 0)) (s1.cpu p).r
    if e.am = 3 then s2 else fetched s2 p (branchPath s p e t hit)
  else complete s p e cost (s.cpu p).r

/-- The row's own stall counts where an instruction can stall at MA, or at FENCE (R85, R134); every other wait follows from the
instructions before it. -/
def rowStall (op : GOp) (g : Issue) : Nat := if opTouches op g.e || op == .fence then g.stall else 0

/-- An executed instruction: ILLEGAL, PRIVILEGED, DEBUG on PC, then its operation (R95). -/
def executed (s : State) (p : ProcId) (op : GOp) (e : Enc) (cost : Nat) : State :=
  let r := (s.cpu p).r
  if !encodingOk p op e || (op == .loop && r.loopAtEnd e) then raiseAt s p e cost 1
  else if privileged op e && !r.sup then raiseAt s p e cost 2
  else
    let (exc, s1) := cmpSee s p ⟨true, false, false, r.pc, none⟩
    if exc then raiseAt s1 p e cost 0xB else execOp s1 p op e cost

/-- An asynchronous cause is taken; IF has read the words at PC (R84, R93). -/
def interrupted (s : State) (p : ProcId) (cause : Nat) : State := squashed (takeAsync s p cause) p (s.cpu p).r.pc 3

/-- One instruction offered to a processor. A processor that cannot issue leaves everything as it is; a pending
asynchronous cause is taken first (R95). -/
def gurno (op : GOp) (g : Issue) (s : State) : State :=
  let p := g.p
  if !canIssue s p then s
  else
    match asyncDue s p with
    | some c => interrupted s p c
    | none =>
      match fetchRes s p g.e, p with
      | .cause none, _ => raise (charge s p (slots .nop g.e)) p 3
      | .cause (some (a, i)), _ => raise (mpuRecord s a i) p 3
      | .dead, .le n => retireEngine s n.val 2
      | _, _ =>
        let s1 := fetchCorrect s p g.e
        if guardTrue (s1.cpu p).r g.e then
          executed (noted s1 p op g.e true) p op g.e (slots op g.e + wait s1 p op g.e true + rowStall op g)
        else predicatedOff (noted s1 p op g.e false) p op g.e (wait s1 p op g.e false)

/-! ### Responses -/

/-- A buffered store overlaps the bytes of a load (R101). -/
def overlaps (buf : List StoreEntry) (a size : Nat) : Bool :=
  buf.any (fun b => decide (b.addr < a + size) && decide (a < b.addr + b.size))

/-- The bytes a held load reads. -/
def heldRange (p : ProcId) (r : Proc) (op : GOp) (e : Enc) : Nat × Nat :=
  match operand p r op e with
  | .addr a => (a.toNat, accessSize op)
  | .sig slot _ => (0x20000000 + 8 * slot, 8)
  | .const _ => (0, 0)

/-- XCH's write half at a fabric target: a stale task-mode write leaves the word and is counted (R131, R162). -/
def xchWrite (s : State) (p : ProcId) (a : Nat) : State :=
  let c := s.cpu p
  let stale :=
    match p, c.k.ev with
    | .le _, some v => !c.r.sup && decide (SMap.get (fun _ => 0) s.dpr.gens v.blk ≠ c.r.gen)
    | _, _ => false
  if stale then s.countReg R.DPR_STALE_DROP
  else (s.store a (leBytes 4 c.r.a.toNat)).define a 4

/-- The read half of an XCH on the fabric: an uncorrectable CSM error is DATA_ECC, one of the MGS a bus error (R131). -/
def xchRead (s : State) (i : Init) (part a : Nat) : BusRes × State :=
  let serve (t : State) (g : Region) : Acc × State :=
    match eccRead t g a 4 with
    | (some _, t1) => ((match g with | .csm _ => .ecc | _ => .err 1), t1)
    | (none, t1) => (.ok (t1.look a 4), t1)
  match access s i part false a 4 serve with
  | (.ok l, s1) => (.ok (leNat l), s1)
  | (.err _, s1) => (.err, s1)
  | (.ecc, s1) => (.ecc, s1)
  | (.held, s1) => (.held, s1)

/-- An access of a processor waits at the wrapper of its domain while that wakes (R444, R445). -/
def waits (s : State) (a : Nat) (h : HeldAcc) : State :=
  if (asleep s a).isSome then { s with held := s.held ++ [h] } else s

/-- The response to the load that holds the pipeline (R85): data, ACCESS for a bus error, DATA_ECC, or SIGNAL. While a
buffered store overlaps, no response comes (R101); while the target's domain wakes, none either, and the load is served in its turn
(R444, R445). -/
def loadResponse (s : State) (p : ProcId) (outside : HostData) : State :=
  let c := s.cpu p
  match c.k.stall with
  | some ⟨op, e, .load⟩ =>
    let (a, size) := heldRange p c.r op e
    if overlaps c.k.buf a size || (op == .fmac && overlaps c.k.buf c.r.y.toNat 4) || s.held.contains (.load p a) then s
    else
      let res :=
        match operand p c.r op e with
        | .sig slot part => sigAccess s (cpuInit s p) c.r.part slot part
        | _ =>
          if op = GOp.xch ∧ snapClosed s a 4 = true then (.err, busErr s (cpuInit s p) c.r.part a true)
          else if op = GOp.xch then xchRead s (cpuInit s p) c.r.part a
          else busRead s (cpuInit s p) c.r.part a size outside
      match res with
      | (.ok v, s1) =>
        (match secondOperand s1 p op e 0 outside with
         | (none, s2) => s2
         | (some m, s2) => loaded s2 p op e (word a) v 0 m (fun t => if op = GOp.xch then xchWrite t p a else t))
      | (.err, s1) => raiseAt s1 p e 0 4
      | (.ecc, s1) => raiseAt s1 p e 0 0xC
      | (.signal, s1) => raiseAt s1 p e 0 6
      | (.held, s1) => waits s1 a (.load p a)
  | _ => s

/-- A late store error (R104, R105): the record or OVF, pending, EVC source 38 once for each record; the evaluation whose store it was
fails (R56). BYTES of an 8-byte store is 0xF (log entry 186). -/
def lateStoreError (s : State) (p : ProcId) (b : StoreEntry) (kind : Nat) : State :=
  let mine (v : Eval) : Bool := decide (b.blk = some v.blk ∧ b.gen = v.gen)
  let s := s.updK p (fun k => { k with ev := k.ev.map (fun v => { v with lse := v.lse || mine v }) })
  let r := (s.cpu p).r
  if stBit r.lseInfo 31 then
    s.upd p (fun r => { r with lseInfo := setBit r.lseInfo 30 true, lsePend := true })
  else
    let bytes := if b.size = 8 then 0xF else (2 ^ b.size - 1) * 2 ^ (b.addr % 4) % 16
    let info := word (2 ^ 31 + b.part % 64 * 2 ^ 24 + b.gen % 256 * 2 ^ 16 + kind % 16 * 2 ^ 8 + bytes)
    evcEvent (s.upd p (fun r => { r with lseAddr := word b.addr, lseInfo := info, lsePend := true })) 38

/-- The store at MA proceeds when an entry has freed, FENCE when the buffer is empty (R101). -/
def releaseStall (s : State) (p : ProcId) : State :=
  let c := s.cpu p
  match c.k.stall with
  | some ⟨op, e, .storeFull⟩ =>
    let s1 := s.updK p (fun k => { k with stall := none })
    (match operand p c.r op e with
     | .addr a => storeBuffered s1 p op e a.toNat .plain 0
     | .sig slot part =>
       storeBuffered s1 p op e (0x20000000 + 8 * slot + (if part = 1 then 4 else 0)) (.sig part) 0
     | .const _ => s1)
  | some ⟨_, e, .fence⟩ => if c.k.buf = [] then complete s p e 0 c.r else s
  | _ => s

/-- The blocks of R36 that a store reaches. -/
inductive TargetBlock where
  | per (page : Nat) | engine (n : Nat) | csm (c : Nat) | mgs | ssm | cmu | nvr | host | other
  deriving DecidableEq, Repr

/-- The block of an address (R36, R40). -/
def blockAt (a : Nat) : TargetBlock :=
  if 0x40000000 ≤ a ∧ a < 0x40039000 then .per ((a - 0x40000000) / 0x1000)
  else if 0x38000000 ≤ a ∧ a < 0x38400000 then .engine ((a - 0x38000000) / 0x10000)
  else if 0x30000000 ≤ a ∧ a < 0x34000000 then .csm ((a - 0x30000000) / 0x1000000)
  else if 0x10000000 ≤ a ∧ a < 0x10200000 then .mgs
  else if 0x20000000 ≤ a ∧ a < 0x20080000 then .ssm
  else if 0x50000000 ≤ a ∧ a < 0x50100000 then .nvr
  else if 0x70000000 ≤ a ∧ a < 0x80000000 then .host
  else .other

/-- The target block of a store (R39): through signal addressing the CMU for an output-bound slot, else the SSM. -/
def targetBlock (s : State) (b : StoreEntry) : TargetBlock :=
  match b.kind with
  | .plain => blockAt b.addr
  | .sig _ => if (s.thePlan.bind ((b.addr - 0x20000000) / 8)).kind = 2 then .cmu else .ssm

/-- No older entry of the buffer goes to the same target block (R39): the response may come. -/
def mayAnswer (s : State) (buf : List StoreEntry) (k : Nat) : Bool :=
  match buf[k]? with
  | some b => (buf.take k).all (fun o => decide (targetBlock s o ≠ targetBlock s b))
  | none => false

/-- Removes entry `k`. -/
def dropEntry (s : State) (p : ProcId) (k : Nat) : State :=
  s.updK p (fun c => { c with buf := c.buf.eraseIdx k })

/-- The response to the buffered store `k` (R101): the write happens at its target; an error answer is a late store
error; the entry frees. While the target's domain wakes, no response comes (R445). -/
def storeResponse (s : State) (p : ProcId) (k : Nat) : State :=
  match (s.cpu p).k.buf[k]? with
  | some b =>
    if !mayAnswer s (s.cpu p).k.buf k || s.held.contains (.store p b) then s
    else
      match busStore s (.cpu p (!b.task)) b with
      | (none, s1) => waits s1 b.addr (.store p b)
      | (some kind, s1) =>
        let s2 := dropEntry s1 p k
        releaseStall (if kind = 0 then s2 else lateStoreError s2 p b kind) p
  | none => s

/-- An error response to the buffered store `k` whose origin lies in the fabric (R103): recorded and pending, the
fabric's capture, the entry frees. KIND 2, the uncorrectable error of a read-modify-write in a CSM, is counted and its address kept
(R110). -/
def storeError (s : State) (p : ProcId) (k kind : Nat) : State :=
  match (s.cpu p).k.buf[k]? with
  | some b =>
    let s0 := match region b.addr with
      | some (.csm c) => if kind = 2 then countUncorr s (.csm c) b.addr else s
      | _ => s
    let s1 := busErr s0 (.cpu p (!b.task)) b.part b.addr true
    releaseStall (lateStoreError (dropEntry s1 p k) p b kind) p
  | none => s

end Sys2Proof.Machine
end

