-- ==== Sys2Proof/Machine/Gurno.lean ====
section
/-! DEFINITION. The meanings of the Gurno instruction rows (spec chapters 03 and 04) and of the events of a processor's
pipeline. -/

namespace Sys2Proof.Machine

/-- LD (R128): Loads the operand into A. -/
def execLd (g : Issue) (s : State) : Outcome := .next (gurno .ld g s)

/-- ST (R128): Stores A at the effective address, through the store buffer unless the target is the own LDM. -/
def execSt (g : Issue) (s : State) : Outcome := .next (gurno .st g s)

/-- LDX (R128): Loads the operand into X. -/
def execLdx (g : Issue) (s : State) : Outcome := .next (gurno .ldx g s)

/-- STX (R126): Stores X at the effective address. -/
def execStx (g : Issue) (s : State) : Outcome := .next (gurno .stx g s)

/-- LDY (R128): Loads the operand into Y. -/
def execLdy (g : Issue) (s : State) : Outcome := .next (gurno .ldy g s)

/-- STY (R128): Stores Y at the effective address. -/
def execSty (g : Issue) (s : State) : Outcome := .next (gurno .sty g s)

/-- LDH (R128): Loads a zero-extended halfword into A. -/
def execLdh (g : Issue) (s : State) : Outcome := .next (gurno .ldh g s)

/-- LDB (R128): Loads a zero-extended byte into A. -/
def execLdb (g : Issue) (s : State) : Outcome := .next (gurno .ldb g s)

/-- STH (R128): Stores the low halfword of A. -/
def execSth (g : Issue) (s : State) : Outcome := .next (gurno .sth g s)

/-- STB (R128): Stores the low byte of A. -/
def execStb (g : Issue) (s : State) : Outcome := .next (gurno .stb g s)

/-- LEAX (R128): Writes the effective address into X. -/
def execLeax (g : Issue) (s : State) : Outcome := .next (gurno .leax g s)

/-- LEAY (R128): Writes the effective address into Y. -/
def execLeay (g : Issue) (s : State) : Outcome := .next (gurno .leay g s)

/-- MOV (R128): Copies one of A, X, Y, B into another. -/
def execMov (g : Issue) (s : State) : Outcome := .next (gurno .mov g s)

/-- XCH (R131): Atomically exchanges A with a memory word, waiting for its response like a load. -/
def execXch (g : Issue) (s : State) : Outcome := .next (gurno .xch g s)

/-- LDU (R128): Loads OPD shifted left by 12 into A. -/
def execLdu (g : Issue) (s : State) : Outcome := .next (gurno .ldu g s)

/-- ADD (R128): Integer add to A with flags. -/
def execAdd (g : Issue) (s : State) : Outcome := .next (gurno .add g s)

/-- SUB (R128): Integer subtract from A with flags. -/
def execSub (g : Issue) (s : State) : Outcome := .next (gurno .sub g s)

/-- SUBR (R128): Reverse integer subtract with flags. -/
def execSubr (g : Issue) (s : State) : Outcome := .next (gurno .subr g s)

/-- MUL (R128): Low 32 bits of the signed product. -/
def execMul (g : Issue) (s : State) : Outcome := .next (gurno .mul g s)

/-- MULH (R128): High 32 bits of the signed product. -/
def execMulh (g : Issue) (s : State) : Outcome := .next (gurno .mulh g s)

/-- AND (R128): Bitwise AND into A. -/
def execAnd (g : Issue) (s : State) : Outcome := .next (gurno .and g s)

/-- OR (R128): Bitwise OR into A. -/
def execOr (g : Issue) (s : State) : Outcome := .next (gurno .or g s)

/-- XOR (R128): Bitwise XOR into A. -/
def execXor (g : Issue) (s : State) : Outcome := .next (gurno .xor g s)

/-- SHL (R128): Shift A left. -/
def execShl (g : Issue) (s : State) : Outcome := .next (gurno .shl g s)

/-- SHR (R128): Logical shift A right. -/
def execShr (g : Issue) (s : State) : Outcome := .next (gurno .shr g s)

/-- SAR (R128): Arithmetic shift A right. -/
def execSar (g : Issue) (s : State) : Outcome := .next (gurno .sar g s)

/-- MIN (R128): Signed minimum into A. -/
def execMin (g : Issue) (s : State) : Outcome := .next (gurno .min g s)

/-- MAX (R128): Signed maximum into A. -/
def execMax (g : Issue) (s : State) : Outcome := .next (gurno .max g s)

/-- ADDX (R126): Adds the operand to X. -/
def execAddx (g : Issue) (s : State) : Outcome := .next (gurno .addx g s)

/-- ADDY (R126): Adds the operand to Y. -/
def execAddy (g : Issue) (s : State) : Outcome := .next (gurno .addy g s)

/-- FADD (R132): Binary32 add into A. -/
def execFadd (g : Issue) (s : State) : Outcome := .next (gurno .fadd g s)

/-- FSUB (R132): Binary32 subtract into A. -/
def execFsub (g : Issue) (s : State) : Outcome := .next (gurno .fsub g s)

/-- FMUL (R132): Binary32 multiply into A. -/
def execFmul (g : Issue) (s : State) : Outcome := .next (gurno .fmul g s)

/-- FDIV (R132): Binary32 divide into A, occupying EX for 12 clocks. -/
def execFdiv (g : Issue) (s : State) : Outcome := .next (gurno .fdiv g s)

/-- FMAC (R126): Fused multiply-accumulate with M[Y] and post-increment of Y. -/
def execFmac (g : Issue) (s : State) : Outcome := .next (gurno .fmac g s)

/-- FSUBR (R132): Reverse binary32 subtract into A. -/
def execFsubr (g : Issue) (s : State) : Outcome := .next (gurno .fsubr g s)

/-- FMIN (R132): Binary32 minimum with NaN rules. -/
def execFmin (g : Issue) (s : State) : Outcome := .next (gurno .fmin g s)

/-- FMAX (R132): Binary32 maximum with NaN rules. -/
def execFmax (g : Issue) (s : State) : Outcome := .next (gurno .fmax g s)

/-- CLAMP (R133): Limits A between two bounds in memory, setting C and V. -/
def execClamp (g : Issue) (s : State) : Outcome := .next (gurno .clamp g s)

/-- SAT (R133): Limits A symmetrically by the operand magnitude. -/
def execSat (g : Issue) (s : State) : Outcome := .next (gurno .sat g s)

/-- FABS (R128): Absolute value of the operand into A. -/
def execFabs (g : Issue) (s : State) : Outcome := .next (gurno .fabs g s)

/-- FNEG (R128): Negated operand into A. -/
def execFneg (g : Issue) (s : State) : Outcome := .next (gurno .fneg g s)

/-- ITOF (R132): Converts a signed integer to binary32. -/
def execItof (g : Issue) (s : State) : Outcome := .next (gurno .itof g s)

/-- FTOI (R132): Converts binary32 to a signed integer with saturation. -/
def execFtoi (g : Issue) (s : State) : Outcome := .next (gurno .ftoi g s)

/-- CMP (R129): Sets flags from the integer comparison of A with the operand. -/
def execCmp (g : Issue) (s : State) : Outcome := .next (gurno .cmp g s)

/-- FCMP (R129): Sets flags from the float comparison of A with the operand. -/
def execFcmp (g : Issue) (s : State) : Outcome := .next (gurno .fcmp g s)

/-- TST (R128): Sets flags from A AND operand. -/
def execTst (g : Issue) (s : State) : Outcome := .next (gurno .tst g s)

/-- PSET (R130): Sets a predicate from a condition on ST. -/
def execPset (g : Issue) (s : State) : Outcome := .next (gurno .pset g s)

/-- PAND (R128): Predicate AND. -/
def execPand (g : Issue) (s : State) : Outcome := .next (gurno .pand g s)

/-- POR (R128): Predicate OR. -/
def execPor (g : Issue) (s : State) : Outcome := .next (gurno .por g s)

/-- PNOT (R128): Predicate NOT. -/
def execPnot (g : Issue) (s : State) : Outcome := .next (gurno .pnot g s)

/-- BR (R128): Branches to the target, predicted when conditional. -/
def execBr (g : Issue) (s : State) : Outcome := .next (gurno .br g s)

/-- CALL (R139): Pushes the return address and branches. -/
def execCall (g : Issue) (s : State) : Outcome := .next (gurno .call g s)

/-- RET (R139): Pops the return stack and branches. -/
def execRet (g : Issue) (s : State) : Outcome := .next (gurno .ret g s)

/-- LOOP (R136): Sets up or leaves a hardware loop level. -/
def execLoop (g : Issue) (s : State) : Outcome := .next (gurno .loop g s)

/-- SYSC (R99): Enters the kernel at FEn saving SPC and SSR. -/
def execSysc (g : Issue) (s : State) : Outcome := .next (gurno .sysc g s)

/-- SRET (R99): Returns from a system call. -/
def execSret (g : Issue) (s : State) : Outcome := .next (gurno .sret g s)

/-- ERET (R97): Returns from an exception, restoring ST and predicates. -/
def execEret (g : Issue) (s : State) : Outcome := .next (gurno .eret g s)

/-- NOP (R141): Does nothing. -/
def execNop (g : Issue) (s : State) : Outcome := .next (gurno .nop g s)

/-- YIELD (R92): Ends the evaluation and enters DRAIN. -/
def execYield (g : Issue) (s : State) : Outcome := .next (gurno .yield g s)

/-- WAIT (R141): Stops issue until an asynchronous cause or n clocks. -/
def execWait (g : Issue) (s : State) : Outcome := .next (gurno .wait g s)

/-- FENCE (R101): Holds younger instructions until the store buffer is empty and answered. -/
def execFence (g : Issue) (s : State) : Outcome := .next (gurno .fence g s)

/-- MFS (R140): Reads a special register into A. -/
def execMfs (g : Issue) (s : State) : Outcome := .next (gurno .mfs g s)

/-- MTS (R140): Writes A to a special register, serialising. -/
def execMts (g : Issue) (s : State) : Outcome := .next (gurno .mts g s)

/-- WAIT_TIMEOUT (R141): the n clocks of a WAIT with n ≠ 0 have passed and issue resumes. -/
def execWaitTimeout (p : ProcId) (s : State) : Outcome :=
  match (s.cpu p).k.waiting with
  | some (n + 1) => .next (charge (s.updK p (fun k => { k with waiting := none })) p (n + 1))
  | _ => .next s

/-- LOAD_RESPONSE (R85): the data of the held load returns. `outside` is what memory outside the device answers. -/
def execLoadResponse (p : ProcId) (outside : HostData) (s : State) : Outcome := .next (loadResponse s p outside)

/-- An orphan store, issued before its engine was reset, reaches its target (R102): judged there by generation; an
error answer leaves no record in the engine. -/
def orphanResponse (s : State) (p : ProcId) (k : Nat) : State :=
  let mine := s.orphans.filter (fun o => decide (o.1 = initCode p))
  match mine[k]? with
  | some o =>
    if !mayAnswer s (mine.map Prod.snd) k then s else
    (match busStore { s with orphans := s.orphans.erase o } (.cpu p (!o.2.task)) o.2 with
     | (none, s1) => { s1 with orphans := s.orphans }
     | (some _, s1) => s1)
  | none => s

/-- STORE_RESPONSE (R101): buffered store `k` receives its response and frees its entry. With an empty buffer, the
response is that of the `k`th store issued before the processor's reset (R102; log entry 10). -/
def execStoreResponse (p : ProcId) (k : Fin 4) (s : State) : Outcome :=
  if (s.cpu p).k.buf = [] then .next (orphanResponse s p k.val)
  else .next (storeResponse s p k.val)

/-- LATE_STORE_ERROR (R104): an error response to buffered store `k` of the given KIND (R105). -/
def execLateStoreError (p : ProcId) (k : Fin 4) (kind : Fin 4) (s : State) : Outcome :=
  .next (storeError s p k.val (kind.val + 1))

/-- A WAIT that an asynchronous cause ends has taken some of its clocks: how many is a free value (R86, R141; log entry 180). -/
def waitEnded (s : State) (p : ProcId) : State :=
  match p, (s.cpu p).k.waiting with
  | .le _, some n => charge s.draw.2 p (if n = 0 then s.draw.1 else s.draw.1 % (n + 1))
  | _, _ => s

/-- LSE (R104): the pending late store error is taken as cause LSE while ST.IE is 1 and the processor runs. -/
def execLse (p : ProcId) (s : State) : Outcome :=
  let c := s.cpu p
  if c.r.lsePend && c.r.ie && (c.k.state == .task || c.k.state == .kernel) && c.k.stall == none && !c.k.halted
    && !c.k.stopped then
    .next (interrupted (waitEnded s p) p 0xA)
  else .next s

end Sys2Proof.Machine
end

