-- ==== Sys2Proof/Machine/HostBus.lean ====
section
/-! DEFINITION. What the host finds on the PCI Express link: the configuration space, the BARs, and its accesses of them
(R283 to R285, R293, R298). -/

namespace Sys2Proof.Machine

/-! ### The configuration space (R283) -/

/-- Size of BAR 2 × `k` (R284). -/
def barSize (k : Nat) : Nat := if k = 0 then 0x10000 else if k = 1 then 0x40000 else 0x2000

/-- The bits of a 64-bit BAR that its size leaves to the host. -/
def barKeep (k v : Nat) : Nat := v / barSize k * barSize k

/-- What an item reads as. Header type 0 of one function, no expansion ROM, and the list of the three capabilities: Power
Management without D1, D2 and PME; PCI Express of an endpoint with a payload of up to 256 bytes, function-level reset, 5.0
GT/s on two lanes and no ASPM; MSI-X (R10, R283). -/
def cfgRead (s : State) : CfgItem → Word
  | .ids => word (s.fld F.SYS_VID_VID + 2 ^ 16 * s.fld F.SYS_ID_PART)
  | .command => word (s.hif.cfg.command + 2 ^ 20)
  | .classRev => word (0x0B4000 * 256 + s.fld F.SYS_REV_MAJOR % 16 * 16 + s.fld F.SYS_REV_MINOR % 16)
  | .bar k upper =>
    let v := SMap.get (fun _ => 0) s.hif.cfg.bars k.val
    if upper then word (v / 2 ^ 32) else word (v % 2 ^ 32 + 4)
  | .ssid => s.reg R.HIF_SSID
  | .power => if s.hif.d3 then 3 else 0
  | .devCtl => s.hif.cfg.devCtl
  | .msixCtl => word (129 + (if s.hif.funcMask then 2 ^ 14 else 0) + (if s.hif.cfg.msixOn then 2 ^ 15 else 0))
  | .msixTable => 4
  | .msixPba => 0x1004
  | .header => 0
  | .rom => 0
  | .capPtr => word (Config.capAt 0 % 256)
  | .pmCap => word (0x00030001 + 256 * (Config.capAt 1 % 256))
  | .pcieCap => word (0x00020010 + 256 * (Config.capAt 2 % 256))
  | .devCap => 0x10008001
  | .linkCap => 0x22

def putCfg (s : State) (f : HostCfg → HostCfg) : State := { s with hif := { s.hif with cfg := f s.hif.cfg } }

/-- The host takes the function out of D3hot, or unmasks it: messages that waited leave. -/
def sendAllPending (s : State) : State := eachNat sendPending s (List.range 130)

/-- A write of an item; what the table gives as a value takes none (log entry 165). -/
def cfgWrite (s : State) (i : CfgItem) (v : Word) : State :=
  match i with
  | .command => putCfg s (fun c => { c with command := v.toNat % 8 / 2 * 2 })
  | .bar k upper =>
    let old := SMap.get (fun _ => 0) s.hif.cfg.bars k.val
    let new := if upper then old % 2 ^ 32 + v.toNat * 2 ^ 32 else old / 2 ^ 32 * 2 ^ 32 + v.toNat
    putCfg s (fun c => { c with bars := SMap.set (fun _ => 0) c.bars k.val (barKeep k.val new) })
  | .power =>
    if v.toNat % 4 = 3 then { s with hif := { s.hif with d3 := true } }
    else if v.toNat % 4 = 0 then sendAllPending { s with hif := { s.hif with d3 := false } }
    else s
  | .devCtl => putCfg s (fun c => { c with devCtl := v &&& 0x70E0 })
  | .msixCtl =>
    sendAllPending { putCfg s (fun c => { c with msixOn := v.toNat.testBit 15 }) with
      hif := { (putCfg s (fun c => { c with msixOn := v.toNat.testBit 15 })).hif with funcMask := v.toNat.testBit 14 } }
  | .ids | .classRev | .ssid | .msixTable | .msixPba | .header | .rom | .capPtr | .pmCap | .pcieCap | .devCap | .linkCap => s

/-! ### BAR4: the MSI-X table and its pending bits (R284, R298) -/

/-- The word at an offset: address, upper address, data and vector control of 130 entries, then the pending bits. -/
def bar4Read (s : State) (ofs : Nat) : Word :=
  let x := s.vec (ofs / 16)
  if ofs < 16 * 130 then
    (match ofs % 16 / 4 with
     | 0 => word x.addr
     | 1 => word (x.addr / 2 ^ 32)
     | 2 => x.data
     | _ => if x.masked then 1 else 0)
  else if 0x1000 ≤ ofs ∧ ofs < 0x1018 then
    word (((List.range 32).map (fun k =>
      if (s.vec (8 * (ofs - 0x1000) + k)).pba ∧ 8 * (ofs - 0x1000) + k < 130 then 2 ^ k else 0)).sum)
  else 0

def bar4Write (s : State) (ofs : Nat) (v : Word) : State :=
  let k := ofs / 16
  let x := s.vec k
  if ofs < 16 * 130 then
    (match ofs % 16 / 4 with
     | 0 => s.setVec k { x with addr := x.addr / 2 ^ 32 * 2 ^ 32 + v.toNat / 4 * 4 }
     | 1 => s.setVec k { x with addr := x.addr % 2 ^ 32 + v.toNat * 2 ^ 32 }
     | 2 => s.setVec k { x with data := v }
     | _ => sendPending (s.setVec k { x with masked := v.toNat.testBit 0 }) k)
  else s

/-! ### Accesses of the host (R285, R293) -/

/-- The access is one that its BAR takes: 32 bits wide and aligned. -/
def hostFits (x : HostAcc) (ofs : Nat) : Bool := decide (x.size = 4 ∧ ofs % 4 = 0)

/-- A read: what it returns. An access of BAR0 or BAR2 of another kind returns 0xFFFF_FFFF and is counted; an offset that
holds no register, and a doorbell page, read 0. -/
def hostRead (s : State) (x : HostAcc) (ofs : Nat) : Word × State :=
  match x.space with
  | .bar0 => if hostFits x ofs then (if ofs < 0x10000 then regView s (bar0Reg ofs) else 0, s) else (0xFFFFFFFF, s.countReg R.HIF_BADACC)
  | .bar2 => if hostFits x ofs then (0, s) else (0xFFFFFFFF, s.countReg R.HIF_BADACC)
  | .bar4 => (bar4Read s (ofs / 4 * 4), s)
  | .cfg i => (cfgRead s i, s)

/-- A write: BAR0 as P0's, a doorbell at offset 0 of a page, the MSI-X table, or the configuration space. -/
def hostWrite (s : State) (x : HostAcc) (ofs : Nat) (v : Word) : State :=
  match x.space with
  | .bar0 =>
    if !hostFits x ofs then s.countReg R.HIF_BADACC else if ofs < 0x10000 then bar0Write s (bar0Reg ofs) v else s
  | .bar2 =>
    if !hostFits x ofs then s.countReg R.HIF_BADACC
    else if ofs % 0x1000 = 0 ∧ ofs < 0x40000 then ringDoorbell s (ofs / 0x1000) v
    else s
  | .bar4 => if hostFits x ofs then bar4Write s ofs v else s
  | .cfg i => cfgWrite s i v

/-- An access of the host reaches the HIF while its domain is on, its wrapper open and the PCI Express link possible. -/
def hostAccess (s : State) (x : HostAcc) (ofs : Nat) (v : Word) : State :=
  if !hifUp s then s
  else if x.read then { (hostRead s x ofs).2 with readData := (hostRead s x ofs).1 }
  else hostWrite s x ofs v

end Sys2Proof.Machine
end

