-- ==== Sys2Proof/Machine/McCmds.lean ====
section
/-! DEFINITION. Interrupts and NMIs of the MC and the SP, lockstep (R503 to R509, R515), the write of a register (R13), and
the debug port's access (R533). -/

namespace Sys2Proof.Machine

/-- The processor runs and no instruction is held: it can take an asynchronous cause. -/
def interruptible (s : State) (p : ProcId) : Bool :=
  let k := (s.cpu p).k
  (k.state == .task || k.state == .kernel) && k.stall == none && !k.halted && !k.stopped

/-- INTERRUPT (R515): the MC with a deliverable source, or the SP, whose sources the spec does not name; no engine takes this
cause (R94). -/
def execInterrupt (p : ProcId) (s : State) : Outcome :=
  let asked :=
    match p with
    | .le _ => false
    | .mc => (bestSource s).isSome && evcRuns s
    | .sp => true
  if asked && interruptible s p && (s.cpu p).r.ie then .next (takeAsync s p 0xD) else .next s

/-- NMI (R509): a kind has been raised since the last entry, and NMI_ACT is 0. -/
def execNmi (s : State) : Outcome :=
  if s.mcr.nmiNew && !s.mcr.nmiAct && interruptible s .mc then .next (takeAsync s .mc 0xE) else .next s

/-! ### Lockstep (R504) -/

/-- Steps 1 and 2: the store buffers and every register, except VBR, the MPU registers, and the comparators of the debug
block. -/
def lockstepReset (s : State) : State :=
  let c := s.mc
  { s with
    orphans := s.orphans ++ c.k.buf.map (fun b => (0x40, b))
    mc := { r := { vbr := c.r.vbr }, k := { state := .kernel, halted := c.k.halted, cmps := c.k.cmps } }
    mcr := { mpuBase := s.mcr.mpuBase, mpuAttr := s.mcr.mpuAttr, mpuCtrl := s.mcr.mpuCtrl, mpuFaddr := s.mcr.mpuFaddr,
             mpuFinfo := s.mcr.mpuFinfo, lsStat := s.mcr.lsStat } }

/-- Step 3: MISMATCH and COUNT. -/
def lockstepCount (s : State) : State :=
  let w := setBit s.mcr.lsStat 31 true
  { s with mcr := { s.mcr with lsStat := if w.toNat % 65536 = 65535 then w else w + 1 } }

/-- Step 4: the NMI with EPC 0xFFFF_FFFF. -/
def lockstepNmi (s : State) : State :=
  let s1 := takeAsync (raiseNmi s 1) .mc 0xE
  s1.upd .mc (fun r => { r with epc := 0xFFFFFFFF })

/-- A second mismatch while MISMATCH is 1: the cores stop, and a reset of source 11. -/
def lockstepStop (s : State) : State :=
  resetEntry { s with mc := { s.mc with k := { s.mc.k with stopped := true, buf := [], stall := none } } } 11 2

/-- LOCKSTEP_MISMATCH (R504). -/
def execLockstepMismatch (s : State) : Outcome :=
  if s.mc.k.state == .reset || s.mc.k.stopped then .next s
  else if stBit s.mcr.lsStat 31 then .next (lockstepStop s)
  else .next (lockstepNmi (lockstepCount (lockstepReset s)))

/-! ### Writes of registers (R13, R15, R41, R285) -/

/-- An access of one register by a processor or the debug port; one that its domain holds waits at the wrapper (R445). -/
def regAccess (s : State) (i : Init) (w : Writer) (a : Nat) (v : Word) : State :=
  match fabWrite s i (writerPart s w) a (leBytes 4 v.toNat) with
  | (.held, s1) => holdAccess s1 w false a v
  | (_, s1) => s1

/-- REGISTER_WRITE (R13): a write of 32 bits to a peripheral register, with the rights, domain and wrapper of any access of its
writer; or an access of the host. -/
def execRegisterWrite (w : Writer) (a v : Word) (s : State) : Outcome :=
  match w with
  | .host x => .next (hostAccess s x a.toNat v)
  | .mc => if inPeriphery a.toNat ∧ a.toNat % 4 = 0 then .next (regAccess s (.cpu .mc true) .mc a.toNat v) else .next s
  | .sp => if inPeriphery a.toNat ∧ a.toNat % 4 = 0 then .next (regAccess s (.cpu .sp true) .sp a.toNat v) else .next s
  | .dbg => if inPeriphery a.toNat ∧ a.toNat % 4 = 0 then .next (regAccess s .dbg .dbg a.toNat v) else .next s

/-! ### DPACC (R531, R533) -/

/-- What Capture-DR loads next: status (0 OK, 1 BUSY, 2 ERROR), address and read data. -/
def setDp (s : State) (status a : Nat) (v : Word) : State :=
  { s with dbg := { s.dbg with dpStatus := status, dpAddr := a, dpData := v } }

/-- One access of the debug port. One that its target holds is BUSY, and waits. -/
def dpAccess (s : State) (op a : Nat) (v : Word) (d : HostData) : State :=
  if a % 4 ≠ 0 then setDp s 2 a 0
  else if op = 1 then
    (match fabRead s .dbg 0 a 4 d with
     | (.ok l, s1) => setDp s1 0 a (word (leNat l))
     | (.held, s1) => holdAccess (setDp s1 1 a 0) .dbg true a 0
     | (_, s1) => setDp s1 2 a 0)
  else
    (match fabWrite s .dbg 0 a (leBytes 4 v.toNat) with
     | (.ok _, s1) => setDp s1 0 a 0
     | (.held, s1) => holdAccess (setDp s1 1 a 0) .dbg false a v
     | (_, s1) => setDp s1 2 a 0)

/-- The debug port's access that waits is tried again: it ends, or waits on. -/
def dpAgain (s : State) (d : HostData) : State :=
  match s.held.find? (fun h => match h with | .reg .dbg _ _ _ _ => true | _ => false) with
  | some (.reg w p read a v) => dpAccess { s with held := s.held.erase (.reg w p read a v) } (if read then 1 else 2) a v d
  | _ => setDp s 0 s.dbg.dpAddr s.dbg.dpData

/-- The access of a DPACC shift-in: discarded while the one before is BUSY. -/
def dpShift (s : State) (op a : Nat) (v : Word) (d : HostData) : State :=
  let s1 := if s.dbg.dpStatus = 1 then dpAgain s d else s
  if s1.dbg.dpStatus = 1 then s1 else dpAccess s1 op a v d

/-- DPACC (R533): OP 1 reads, 2 writes, 0 and 3 start nothing; without level 1, and for a write without level 2, the instruction
acts as BYPASS (R531). A select is another instruction of the TAP, with what is shifted into its data register (log entry 166). -/
def execDpacc (op : TapScan) (a v : Word) (d : HostData) (s : State) : Outcome :=
  match op with
  | .select code => .next (updateCells (tapSelect s code.toNat) d)
  | .access op =>
    if debugLevel s = 0 ∨ (op = 2 ∧ debugLevel s ≠ 2) then .next (selectTap s 0x1F)
    else if op = 1 ∨ op = 2 then .next (dpShift (selectTap s 8) op.toNat a.toNat v d)
    else .next (selectTap s 8)

/-! ### Accesses that waited for a domain (R444, R445) -/

/-- The address of an access that waits. -/
def HeldAcc.addr : HeldAcc → Nat
  | .reg _ _ _ a _ => a
  | .load _ a => a
  | .store _ b => b.addr
  | .host _ a _ => a

/-- A held access of registers is served; a read of a processor leaves its data in `readData`. -/
def serveReg (s : State) (w : Writer) (read : Bool) (a : Nat) (v : Word) : State :=
  match w with
  | .dbg => dpAccess s (if read then 1 else 2) a v .error
  | .host x => hostAccess s x a v
  | w => if read then { (regRead s (writerCode w) a).2 with readData := (regRead s (writerCode w) a).1 } else regWrite s w a v

/-- One access is served: a register's; the load that holds a pipeline still; a store that stands in its buffer still; a command
of the host that has not ended. -/
def serveOne (s : State) (h : HeldAcc) : State :=
  match h with
  | .reg w _ read a v => serveReg s w read a v
  | .load p a =>
    (match (s.cpu p).k.stall with
     | some ⟨op, e, .load⟩ => if (heldRange p (s.cpu p).r op e).1 = a then loadResponse s p .error else s
     | _ => s)
  | .store p b =>
    (match (s.cpu p).k.buf.idxOf? b with
     | some k => storeResponse s p k
     | none => s)
  | .host n _ d =>
    (match findCmd s n with
     | some c => if c.started && c.done.isNone then runHost d c s else s
     | none => s)

/-- The accesses of a list that lie in a domain are served in order of arrival; the others wait on. -/
def serveHeld (s : State) (d : Nat) : List HeldAcc → State
  | [] => s
  | h :: l =>
    if domainOf h.addr = some d then serveHeld (serveOne s h) d l
    else serveHeld { s with held := s.held ++ [h] } d l

/-- DOMAIN_ON_END (R444): the domain serves accesses, those that waited first. -/
def execDomainOnEnd (d : Fin 8) (s : State) : Outcome :=
  if has s.pmu.comingOn d.val then
    .next (stbyNext (serveHeld { domainUp s d.val with held := [] } d.val (domainUp s d.val).held))
  else .next s

end Sys2Proof.Machine
end

