-- ==== Sys2Proof/Machine/Dispatch.lean ====
section
/-! DEFINITION. Which meaning each command has: one arm for each constructor of `Instr`. -/

namespace Sys2Proof.Machine

/-- A command's effect on everything but the queue. -/
def exec (i : Instr) (s : State) : Host.Outcome State Fault Refusal :=
  match i with
  | .ld g => Sys2Proof.Machine.execLd g s
  | .st g => Sys2Proof.Machine.execSt g s
  | .ldx g => Sys2Proof.Machine.execLdx g s
  | .stx g => Sys2Proof.Machine.execStx g s
  | .ldy g => Sys2Proof.Machine.execLdy g s
  | .sty g => Sys2Proof.Machine.execSty g s
  | .ldh g => Sys2Proof.Machine.execLdh g s
  | .ldb g => Sys2Proof.Machine.execLdb g s
  | .sth g => Sys2Proof.Machine.execSth g s
  | .stb g => Sys2Proof.Machine.execStb g s
  | .leax g => Sys2Proof.Machine.execLeax g s
  | .leay g => Sys2Proof.Machine.execLeay g s
  | .mov g => Sys2Proof.Machine.execMov g s
  | .xch g => Sys2Proof.Machine.execXch g s
  | .ldu g => Sys2Proof.Machine.execLdu g s
  | .add g => Sys2Proof.Machine.execAdd g s
  | .sub g => Sys2Proof.Machine.execSub g s
  | .subr g => Sys2Proof.Machine.execSubr g s
  | .mul g => Sys2Proof.Machine.execMul g s
  | .mulh g => Sys2Proof.Machine.execMulh g s
  | .and g => Sys2Proof.Machine.execAnd g s
  | .or g => Sys2Proof.Machine.execOr g s
  | .xor g => Sys2Proof.Machine.execXor g s
  | .shl g => Sys2Proof.Machine.execShl g s
  | .shr g => Sys2Proof.Machine.execShr g s
  | .sar g => Sys2Proof.Machine.execSar g s
  | .min g => Sys2Proof.Machine.execMin g s
  | .max g => Sys2Proof.Machine.execMax g s
  | .addx g => Sys2Proof.Machine.execAddx g s
  | .addy g => Sys2Proof.Machine.execAddy g s
  | .fadd g => Sys2Proof.Machine.execFadd g s
  | .fsub g => Sys2Proof.Machine.execFsub g s
  | .fmul g => Sys2Proof.Machine.execFmul g s
  | .fdiv g => Sys2Proof.Machine.execFdiv g s
  | .fmac g => Sys2Proof.Machine.execFmac g s
  | .fsubr g => Sys2Proof.Machine.execFsubr g s
  | .fmin g => Sys2Proof.Machine.execFmin g s
  | .fmax g => Sys2Proof.Machine.execFmax g s
  | .clamp g => Sys2Proof.Machine.execClamp g s
  | .sat g => Sys2Proof.Machine.execSat g s
  | .fabs g => Sys2Proof.Machine.execFabs g s
  | .fneg g => Sys2Proof.Machine.execFneg g s
  | .itof g => Sys2Proof.Machine.execItof g s
  | .ftoi g => Sys2Proof.Machine.execFtoi g s
  | .cmp g => Sys2Proof.Machine.execCmp g s
  | .fcmp g => Sys2Proof.Machine.execFcmp g s
  | .tst g => Sys2Proof.Machine.execTst g s
  | .pset g => Sys2Proof.Machine.execPset g s
  | .pand g => Sys2Proof.Machine.execPand g s
  | .por g => Sys2Proof.Machine.execPor g s
  | .pnot g => Sys2Proof.Machine.execPnot g s
  | .br g => Sys2Proof.Machine.execBr g s
  | .call g => Sys2Proof.Machine.execCall g s
  | .ret g => Sys2Proof.Machine.execRet g s
  | .loop g => Sys2Proof.Machine.execLoop g s
  | .sysc g => Sys2Proof.Machine.execSysc g s
  | .sret g => Sys2Proof.Machine.execSret g s
  | .eret g => Sys2Proof.Machine.execEret g s
  | .nop g => Sys2Proof.Machine.execNop g s
  | .yield g => Sys2Proof.Machine.execYield g s
  | .wait g => Sys2Proof.Machine.execWait g s
  | .fence g => Sys2Proof.Machine.execFence g s
  | .mfs g => Sys2Proof.Machine.execMfs g s
  | .mts g => Sys2Proof.Machine.execMts g s
  | .waitTimeout p => Sys2Proof.Machine.execWaitTimeout p s
  | .loadResponse p outside => Sys2Proof.Machine.execLoadResponse p outside s
  | .storeResponse p k => Sys2Proof.Machine.execStoreResponse p k s
  | .lateStoreError p k kind => Sys2Proof.Machine.execLateStoreError p k kind s
  | .lse p => Sys2Proof.Machine.execLse p s
  | .interrupt p => Sys2Proof.Machine.execInterrupt p s
  | .nmi => Sys2Proof.Machine.execNmi s
  | .lockstepMismatch => Sys2Proof.Machine.execLockstepMismatch s
  | .boundaryLatch => Sys2Proof.Machine.execBoundaryLatch s
  | .soc => Sys2Proof.Machine.execSoc s
  | .firstSoc => Sys2Proof.Machine.execFirstSoc s
  | .sampleMark => Sys2Proof.Machine.execSampleMark s
  | .dispatchStart => Sys2Proof.Machine.execDispatchStart s
  | .inputCutoff => Sys2Proof.Machine.execInputCutoff s
  | .outDeadline => Sys2Proof.Machine.execOutDeadline s
  | .snapshotCopyEnd => Sys2Proof.Machine.execSnapshotCopyEnd s
  | .applyInstant => Sys2Proof.Machine.execApplyInstant s
  | .referenceEdge err => Sys2Proof.Machine.execReferenceEdge err s
  | .referenceLoss => Sys2Proof.Machine.execReferenceLoss s
  | .dispatch c => Sys2Proof.Machine.execDispatch c s
  | .steal => Sys2Proof.Machine.execSteal s
  | .engineReport n => Sys2Proof.Machine.execEngineReport n s
  | .budgetOverrun n => Sys2Proof.Machine.execBudgetOverrun n s
  | .engineClockGate n => Sys2Proof.Machine.execEngineClockGate n s
  | .timingSetCommit => Sys2Proof.Machine.execTimingSetCommit s
  | .cycleEnable => Sys2Proof.Machine.execCycleEnable s
  | .cycleDisable => Sys2Proof.Machine.execCycleDisable s
  | .cycModeReq mode part tag => Sys2Proof.Machine.execCycModeReq mode part tag s
  | .cycCntClr => Sys2Proof.Machine.execCycCntClr s
  | .cycSocTbLoRead => Sys2Proof.Machine.execCycSocTbLoRead s
  | .select => Sys2Proof.Machine.execSelect s
  | .cfgCommit => Sys2Proof.Machine.execCfgCommit s
  | .cfgAbort => Sys2Proof.Machine.execCfgAbort s
  | .dprRetire n => Sys2Proof.Machine.execDprRetire n s
  | .dprQuarRel all lbd => Sys2Proof.Machine.execDprQuarRel all lbd s
  | .dprCntClr => Sys2Proof.Machine.execDprCntClr s
  | .dprLewinClr n k => Sys2Proof.Machine.execDprLewinClr n k s
  | .dprCsmEccClr m => Sys2Proof.Machine.execDprCsmEccClr m s
  | .dprPlanLoad => Sys2Proof.Machine.execDprPlanLoad s
  | .dprPlanCommit => Sys2Proof.Machine.execDprPlanCommit s
  | .dprPlanAbort => Sys2Proof.Machine.execDprPlanAbort s
  | .planLoadEnd d => Sys2Proof.Machine.execPlanLoadEnd d s
  | .doorbell p v => Sys2Proof.Machine.execDoorbell p v s
  | .descriptorFetch d => Sys2Proof.Machine.execDescriptorFetch d s
  | .ringEnable p k => Sys2Proof.Machine.execRingEnable p k s
  | .ringDisable p k => Sys2Proof.Machine.execRingDisable p k s
  | .windowValid p w v => Sys2Proof.Machine.execWindowValid p w v s
  | .windowClearEnd p w => Sys2Proof.Machine.execWindowClearEnd p w s
  | .partStaged serial k d => Sys2Proof.Machine.execPartStaged serial k d s
  | .eventDelivery p => Sys2Proof.Machine.execEventDelivery p s
  | .msixMessage v => Sys2Proof.Machine.execMsixMessage v s
  | .msixUnmask v masked => Sys2Proof.Machine.execMsixUnmask v masked s
  | .pcieReset => Sys2Proof.Machine.execPcieReset s
  | .dataLinkChange up width speed => Sys2Proof.Machine.execDataLinkChange up width speed s
  | .fwCommandTimeout serial => Sys2Proof.Machine.execFwCommandTimeout serial s
  | .hifFwqPop => Sys2Proof.Machine.execHifFwqPop s
  | .hifFwCpl a => Sys2Proof.Machine.execHifFwCpl a s
  | .hifHostMsg v => Sys2Proof.Machine.execHifHostMsg v s
  | .hifCounterClear k => Sys2Proof.Machine.execHifCounterClear k s
  | .hostNop serial => Sys2Proof.Machine.execHostNop serial s
  | .sigRead serial => Sys2Proof.Machine.execSigRead serial s
  | .sigWrite serial d => Sys2Proof.Machine.execSigWrite serial d s
  | .paramRead serial d => Sys2Proof.Machine.execParamRead serial d s
  | .paramWrite serial d => Sys2Proof.Machine.execParamWrite serial d s
  | .snapshot serial => Sys2Proof.Machine.execSnapshot serial s
  | .trendSet serial d => Sys2Proof.Machine.execTrendSet serial d s
  | .planLoad serial => Sys2Proof.Machine.execPlanLoad serial s
  | .planCommit serial => Sys2Proof.Machine.execPlanCommit serial s
  | .planAbort serial => Sys2Proof.Machine.execPlanAbort serial s
  | .planStatus serial => Sys2Proof.Machine.execPlanStatus serial s
  | .modeSet serial => Sys2Proof.Machine.execModeSet serial s
  | .modeQuery serial => Sys2Proof.Machine.execModeQuery serial s
  | .acySubmit serial d => Sys2Proof.Machine.execAcySubmit serial d s
  | .acyCancel serial => Sys2Proof.Machine.execAcyCancel serial s
  | .stationResume serial d => Sys2Proof.Machine.execStationResume serial d s
  | .linkStatus serial => Sys2Proof.Machine.execLinkStatus serial s
  | .patTest serial => Sys2Proof.Machine.execPatTest serial s
  | .nvRead serial => Sys2Proof.Machine.execNvRead serial s
  | .nvWrite serial d => Sys2Proof.Machine.execNvWrite serial d s
  | .cfgStatus serial => Sys2Proof.Machine.execCfgStatus serial s
  | .cfgRead serial => Sys2Proof.Machine.execCfgRead serial s
  | .cfgWrite serial d => Sys2Proof.Machine.execCfgWrite serial d s
  | .costumeWrite serial d => Sys2Proof.Machine.execCostumeWrite serial d s
  | .ucalWrite serial d => Sys2Proof.Machine.execUcalWrite serial d s
  | .calRead serial => Sys2Proof.Machine.execCalRead serial s
  | .healthQuery serial => Sys2Proof.Machine.execHealthQuery serial s
  | .marginReport serial => Sys2Proof.Machine.execMarginReport serial s
  | .random serial => Sys2Proof.Machine.execRandom serial s
  | .timeGet serial => Sys2Proof.Machine.execTimeGet serial s
  | .boardMakerCommand serial status detail result result2 => Sys2Proof.Machine.execBoardMakerCommand serial status detail result result2 s
  | .deviceReset serial => Sys2Proof.Machine.execDeviceReset serial s
  | .hostReset => Sys2Proof.Machine.execHostReset s
  | .ragdollRelease serial => Sys2Proof.Machine.execRagdollRelease serial s
  | .imageVerify serial d => Sys2Proof.Machine.execImageVerify serial d s
  | .flashRelease serial => Sys2Proof.Machine.execFlashRelease serial s
  | .slotTrial serial => Sys2Proof.Machine.execSlotTrial serial s
  | .bootStatus serial => Sys2Proof.Machine.execBootStatus serial s
  | .debugChallenge serial => Sys2Proof.Machine.execDebugChallenge serial s
  | .debugResponse serial d => Sys2Proof.Machine.execDebugResponse serial d s
  | .minverAdvance serial => Sys2Proof.Machine.execMinverAdvance serial s
  | .fuseProgram serial d verified => Sys2Proof.Machine.execFuseProgram serial d verified s
  | .inFrame l f => Sys2Proof.Machine.execInFrame l f s
  | .announce l f => Sys2Proof.Machine.execAnnounce l f s
  | .identRsp l f => Sys2Proof.Machine.execIdentRsp l f s
  | .delayRsp l f rt => Sys2Proof.Machine.execDelayRsp l f rt s
  | .admitAck l f => Sys2Proof.Machine.execAdmitAck l f s
  | .acr l f => Sys2Proof.Machine.execAcr l f s
  | .diagResponse l f => Sys2Proof.Machine.execDiagResponse l f s
  | .trainSync l => Sys2Proof.Machine.execTrainSync l s
  | .trainTimeout l => Sys2Proof.Machine.execTrainTimeout l s
  | .enumEnd l => Sys2Proof.Machine.execEnumEnd l s
  | .lossOfSignal l => Sys2Proof.Machine.execLossOfSignal l s
  | .linkRetry l => Sys2Proof.Machine.execLinkRetry l s
  | .stationRetryExpiry l st => Sys2Proof.Machine.execStationRetryExpiry l st s
  | .admissionAnswerTimeout l st => Sys2Proof.Machine.execAdmissionAnswerTimeout l st s
  | .diagPoll l st => Sys2Proof.Machine.execDiagPoll l st s
  | .diagPollTimeout l st => Sys2Proof.Machine.execDiagPollTimeout l st s
  | .acyclicSlot l => Sys2Proof.Machine.execAcyclicSlot l s
  | .acrTimeout l st => Sys2Proof.Machine.execAcrTimeout l st s
  | .acyRepeatDue l k => Sys2Proof.Machine.execAcyRepeatDue l k s
  | .acyRequestTimeout l k => Sys2Proof.Machine.execAcyRequestTimeout l k s
  | .sflnCtrlEn l en => Sys2Proof.Machine.execSflnCtrlEn l en s
  | .retrain l => Sys2Proof.Machine.execRetrain l s
  | .sflnResume l st p => Sys2Proof.Machine.execSflnResume l st p s
  | .sflnAcySub l a => Sys2Proof.Machine.execSflnAcySub l a s
  | .sflnAcyCancel l tag => Sys2Proof.Machine.execSflnAcyCancel l tag s
  | .sflnCntClr l => Sys2Proof.Machine.execSflnCntClr l s
  | .patStart l v => Sys2Proof.Machine.execPatStart l v s
  | .patStop l => Sys2Proof.Machine.execPatStop l s
  | .patLoopEnd l => Sys2Proof.Machine.execPatLoopEnd l s
  | .stationStart l st epoch j => Sys2Proof.Machine.execStationStart l st epoch j s
  | .socBlockAccept l st portB quiet b => Sys2Proof.Machine.execSocBlockAccept l st portB quiet b s
  | .sampleMarkAccept l st portB b => Sys2Proof.Machine.execSampleMarkAccept l st portB b s
  | .inFrameSend l st fault vals => Sys2Proof.Machine.execInFrameSend l st fault vals s
  | .outFrameConsume l st inTime f => Sys2Proof.Machine.execOutFrameConsume l st inTime f s
  | .stationApply l st => Sys2Proof.Machine.execStationApply l st s
  | .identReq l st f => Sys2Proof.Machine.execIdentReq l st f s
  | .delayReq l st f turn => Sys2Proof.Machine.execDelayReq l st f turn s
  | .admitReq l st f => Sys2Proof.Machine.execAdmit l st f s
  | .release l st f => Sys2Proof.Machine.execRelease l st f s
  | .hold l st f => Sys2Proof.Machine.execHold l st f s
  | .acy l st f result data => Sys2Proof.Machine.execAcy l st f result data s
  | .diag l st f => Sys2Proof.Machine.execDiag l st f s
  | .testLoopOn l st f => Sys2Proof.Machine.execTestLoopOn l st f s
  | .testLoopOff l st f => Sys2Proof.Machine.execTestLoopOff l st f s
  | .loopbackEnd l st => Sys2Proof.Machine.execLoopbackEnd l st s
  | .socLossTimeout l st => Sys2Proof.Machine.execSocLossTimeout l st s
  | .heldTimeout l st => Sys2Proof.Machine.execHeldTimeout l st s
  | .reportFrame l st fault => Sys2Proof.Machine.execReportFrame l st fault s
  | .fpcCtrlEn g en => Sys2Proof.Machine.execFpcCtrlEn g en s
  | .fpcClr g => Sys2Proof.Machine.execFpcClr g s
  | .gateAtVddfp g => Sys2Proof.Machine.execGateAtVddfp g s
  | .shuntLimit g => Sys2Proof.Machine.execShuntLimit g s
  | .limitRecovery g => Sys2Proof.Machine.execLimitRecovery g s
  | .limitTimer g => Sys2Proof.Machine.execLimitTimer g s
  | .fastTrip g => Sys2Proof.Machine.execFastTrip g s
  | .fpcRetry g => Sys2Proof.Machine.execFpcRetry g s
  | .onStable g => Sys2Proof.Machine.execOnStable g s
  | .fpcSettle g => Sys2Proof.Machine.execFpcSettle g s
  | .bmvGo n => Sys2Proof.Machine.execBmvGo n s
  | .bmvBurst d => Sys2Proof.Machine.execBmvBurst d s
  | .bmvDescriptorEnd n => Sys2Proof.Machine.execBmvDescriptorEnd n s
  | .bmvErrorResponse n a write => Sys2Proof.Machine.execBmvErrorResponse n a write s
  | .bmvAbort n => Sys2Proof.Machine.execBmvAbort n s
  | .haltClr => Sys2Proof.Machine.execHaltClr s
  | .cvuRestart c => Sys2Proof.Machine.execCvuRestart c s
  | .cvuData c log2 v => Sys2Proof.Machine.execCvuData c log2 v s
  | .mseGo => Sys2Proof.Machine.execMseGo s
  | .mseJobEnd => Sys2Proof.Machine.execMseJobEnd s
  | .mseScrubRead => Sys2Proof.Machine.execMseScrubRead s
  | .nvrPwdR v => Sys2Proof.Machine.execNvrPwdR v s
  | .nvrPwdW v => Sys2Proof.Machine.execNvrPwdW v s
  | .nvrPwdLock => Sys2Proof.Machine.execNvrPwdLock s
  | .chgR => Sys2Proof.Machine.execChgR s
  | .chgW => Sys2Proof.Machine.execChgW s
  | .nvrJctrlGo => Sys2Proof.Machine.execNvrJctrlGo s
  | .journaledWriteEnd => Sys2Proof.Machine.execJournaledWriteEnd s
  | .nvsRelease => Sys2Proof.Machine.execNvsRelease s
  | .powerFailTrigger pfn => Sys2Proof.Machine.execPowerFailTrigger pfn s
  | .saveSeal => Sys2Proof.Machine.execSaveSeal s
  | .test => Sys2Proof.Machine.execTest s
  | .restore => Sys2Proof.Machine.execRestore s
  | .restoreEnd => Sys2Proof.Machine.execRestoreEnd s
  | .invalidate => Sys2Proof.Machine.execInvalidate s
  | .pflProgram w => Sys2Proof.Machine.execPflProgram w s
  | .pflErase w => Sys2Proof.Machine.execPflErase w s
  | .pflSuspend => Sys2Proof.Machine.execPflSuspend s
  | .pflResume => Sys2Proof.Machine.execPflResume s
  | .pflOperationEnd => Sys2Proof.Machine.execPflOperationEnd s
  | .bor => Sys2Proof.Machine.execBor s
  | .rstN => Sys2Proof.Machine.execRstN s
  | .rstCtrl v => Sys2Proof.Machine.execRstCtrl v s
  | .bringupStepEnd straps flashA flashB => Sys2Proof.Machine.execBringupStepEnd straps flashA flashB s
  | .crystalStartDelay good => Sys2Proof.Machine.execCrystalStartDelay good s
  | .spmStartOk v => Sys2Proof.Machine.execSpmStartOk v s
  | .wdtSpExpiry => Sys2Proof.Machine.execWdtSpExpiry s
  | .challengeExpiry => Sys2Proof.Machine.execChallengeExpiry s
  | .entWindowEnd lo hi => Sys2Proof.Machine.execEntWindowEnd lo hi s
  | .retryWaitEnd => Sys2Proof.Machine.execRetryWaitEnd s
  | .drbgReseed => Sys2Proof.Machine.execDrbgReseed s
  | .entReq v => Sys2Proof.Machine.execEntReq v s
  | .rstBlk sfl v => Sys2Proof.Machine.execRstBlk sfl v s
  | .wrapperClosed k => Sys2Proof.Machine.execWrapperClosed k s
  | .clockMonitorWindow k outside => Sys2Proof.Machine.execClockMonitorWindow k outside s
  | .pllLockDrop p => Sys2Proof.Machine.execPllLockDrop p s
  | .pllRelock p => Sys2Proof.Machine.execPllRelock p s
  | .xtalGood => Sys2Proof.Machine.execXtalGood s
  | .clStable => Sys2Proof.Machine.execClStable s
  | .clResume => Sys2Proof.Machine.execClResume s
  | .autoTrimInterval n => Sys2Proof.Machine.execAutoTrimInterval n s
  | .clfreqStepWrite c v => Sys2Proof.Machine.execClfreqStepWrite c v s
  | .domainSwitchOff d => Sys2Proof.Machine.execDomainSwitchOff d s
  | .domainSwitchOn d => Sys2Proof.Machine.execDomainSwitchOn d s
  | .domainOffEnd d => Sys2Proof.Machine.execDomainOffEnd d s
  | .domainOnEnd d => Sys2Proof.Machine.execDomainOnEnd d s
  | .wakeOnDemand d => Sys2Proof.Machine.execWakeOnDemand d s
  | .standbyRequest v => Sys2Proof.Machine.execStandbyRequest v s
  | .spStopAck => Sys2Proof.Machine.execSpStopAck s
  | .spAckTimeout => Sys2Proof.Machine.execSpAckTimeout s
  | .standbyWake k => Sys2Proof.Machine.execStandbyWake k s
  | .avsTargetWrite mv => Sys2Proof.Machine.execAvsTargetWrite mv s
  | .avsSettle r => Sys2Proof.Machine.execAvsSettle r s
  | .readIoutPoll raw => Sys2Proof.Machine.execReadIoutPoll raw s
  | .pmbAlert status => Sys2Proof.Machine.execPmbAlert status s
  | .mainSupplyLoss => Sys2Proof.Machine.execMainSupplyLoss s
  | .bkdLoss => Sys2Proof.Machine.execBkdLoss s
  | .rtcSecWrite v => Sys2Proof.Machine.execRtcSecWrite v s
  | .rtcSubRead => Sys2Proof.Machine.execRtcSubRead s
  | .rtcAlarm => Sys2Proof.Machine.execRtcAlarm s
  | .backupEvent k rising => Sys2Proof.Machine.execBackupEvent k rising s
  | .reqClr => Sys2Proof.Machine.execReqClr s
  | .bkdEvqHiRead => Sys2Proof.Machine.execBkdEvqHiRead s
  | .agmWindowEnd w => Sys2Proof.Machine.execAgmWindowEnd w s
  | .marginProbe c r slack => Sys2Proof.Machine.execMarginProbe c r slack s
  | .agmSettleExpiry => Sys2Proof.Machine.execAgmSettleExpiry s
  | .dailyRecord => Sys2Proof.Machine.execDailyRecord s
  | .agmLedgerMark v => Sys2Proof.Machine.execAgmLedgerMark v s
  | .apply m => Sys2Proof.Machine.execApply m s
  | .cancel m => Sys2Proof.Machine.execCancel m s
  | .critClear m => Sys2Proof.Machine.execCritClear m s
  | .twlEnable en => Sys2Proof.Machine.execTwlEnable en s
  | .twlTrainRetry => Sys2Proof.Machine.execTwlTrainRetry s
  | .twlLaneSyncLoss => Sys2Proof.Machine.execTwlLaneSyncLoss s
  | .echo f rt turn => Sys2Proof.Machine.execEcho f rt turn s
  | .twlRoleWrite r => Sys2Proof.Machine.execTwlRoleWrite r s
  | .primaryClaimEnd => Sys2Proof.Machine.execPrimaryClaimEnd s
  | .heartbeat f onTime claim => Sys2Proof.Machine.execHeartbeat f onTime claim s
  | .heartbeatMissed => Sys2Proof.Machine.execHeartbeatMissed s
  | .shadow f => Sys2Proof.Machine.execShadow f s
  | .shend f => Sys2Proof.Machine.execShend f s
  | .setApplication => Sys2Proof.Machine.execSetApplication s
  | .shack f => Sys2Proof.Machine.execShack f s
  | .linkstate f => Sys2Proof.Machine.execLinkstate f s
  | .handoverRequest => Sys2Proof.Machine.execHandoverRequest s
  | .handoverCmd f => Sys2Proof.Machine.execHandoverCmd f s
  | .handoverAck f => Sys2Proof.Machine.execHandoverAck f s
  | .wreset => Sys2Proof.Machine.execWreset s
  | .warmReset f => Sys2Proof.Machine.execWarmReset f s
  | .twlCntClr => Sys2Proof.Machine.execTwlCntClr s
  | .evcSourceEvent n => Sys2Proof.Machine.execEvcSourceEvent n s
  | .evcClaim => Sys2Proof.Machine.execEvcClaim s
  | .evcEoi n => Sys2Proof.Machine.execEvcEoi n s
  | .evcTake n => Sys2Proof.Machine.execEvcTake n s
  | .gpioEdge p j rising => Sys2Proof.Machine.execGpioEdge p j rising s
  | .gpioHoldRelease => Sys2Proof.Machine.execGpioHoldRelease s
  | .uartDataWrite n v => Sys2Proof.Machine.execUartDataWrite n v s
  | .uartDataRead n => Sys2Proof.Machine.execUartDataRead n s
  | .uartRxByte n v perr ferr brk => Sys2Proof.Machine.execUartRxByte n v perr ferr brk s
  | .spiDataWrite m v => Sys2Proof.Machine.execSpiDataWrite m v s
  | .spiDataRead m => Sys2Proof.Machine.execSpiDataRead m s
  | .spiFrameEnd m v => Sys2Proof.Machine.execSpiFrameEnd m v s
  | .i2cCmd j op data => Sys2Proof.Machine.execI2cCmd j op data s
  | .i2cCommandEnd j r => Sys2Proof.Machine.execI2cCommandEnd j r s
  | .i2cStretchTimeout j => Sys2Proof.Machine.execI2cStretchTimeout j s
  | .recover j held => Sys2Proof.Machine.execRecover j held s
  | .timerMatch t => Sys2Proof.Machine.execTimerMatch t s
  | .timerCapture t => Sys2Proof.Machine.execTimerCapture t s
  | .wdtSysEn => Sys2Proof.Machine.execWdtSysEn s
  | .wdtSysKick key => Sys2Proof.Machine.execWdtSysKick key s
  | .wdtSysEarly => Sys2Proof.Machine.execWdtSysEarly s
  | .wdtSysExpiry => Sys2Proof.Machine.execWdtSysExpiry s
  | .dpacc op a v d => Sys2Proof.Machine.execDpacc op a v d s
  | .unlock cmd payload => Sys2Proof.Machine.execUnlock cmd payload s
  | .extest => Sys2Proof.Machine.execExtest s
  | .stringPulse w k => Sys2Proof.Machine.execStringPulse w k s
  | .debugResume w => Sys2Proof.Machine.execDebugResume w s
  | .debugSystemReset => Sys2Proof.Machine.execDebugSystemReset s
  | .dbgCmpWrite w which v => Sys2Proof.Machine.execDbgCmpWrite w which v s
  | .trcSw w v => Sys2Proof.Machine.execTrcSw w v s
  | .traceStart w => Sys2Proof.Machine.execTraceStart w s
  | .traceBufferEnd => Sys2Proof.Machine.execTraceBufferEnd s
  | .registerWrite w a v => Sys2Proof.Machine.execRegisterWrite w a v s
  | .powerOnReset => Sys2Proof.Machine.execPowerOnReset s
  | .brownOutWarning => Sys2Proof.Machine.execBrownOutWarning s
  | .rstNRelease => Sys2Proof.Machine.execRstNRelease s
  | .heartbeatMillisecond => Sys2Proof.Machine.execHeartbeatMillisecond s
  | .twlTrainTimeout => Sys2Proof.Machine.execTwlTrainTimeout s
  | .twlLanesDeskewed => Sys2Proof.Machine.execTwlLanesDeskewed s
  | .socSeen l b ofs => Sys2Proof.Machine.execSocSeen l b ofs s
  | .uartTxByte n => Sys2Proof.Machine.execUartTxByte n s

end Sys2Proof.Machine
end

