-- ==== Sys2Proof/Machine/Idle.lean ====
section
/-! DEFINITION. What the block's clocks do by themselves while no command waits (log entry 1). -/

namespace Sys2Proof.Machine

/-- The timebase counts 10 ns (R12, R431). -/
def tbCount (s : State) : State := { s with tb := (s.tb + 1) % 2 ^ 64 }

/-- The pulse on CYC_OUT ends CYCOUT_W counts after the SOC (R77). -/
def cycOutTick (s : State) : State :=
  if s.cyc.cycOut && decide (s.cyc.lastSocTb + s.fld F.CYC_CTRL_CYCOUT_W ≤ s.tb) then { s with cyc := { s.cyc with cycOut := false } }
  else s

/-- One count of the timebase: the RTC, the timers (R528), the pulse on CYC_OUT and the trace funnel (R540) go on. In STANDBY the timers' domain is
clamped (R448); in BACKUP the RTC alone runs, one period a step (R457). -/
def idle (s : State) : State :=
  match s.pmu.state with
  | .backup => rtcPeriod s
  | .standby => tbCount (rtcTick s)
  | .active => trcServe (tickTimers (cycOutTick (tbCount (rtcTick s))))

end Sys2Proof.Machine
end

