-- ==== Sys2Proof/Machine/Step.lean ====
section
/-! DEFINITION. One step: the command at the front of the queue, or one count of the timebase where none waits. -/

namespace Sys2Proof.Machine

/-- The state with another queue. -/
def State.withPending (s : State) (q : List Instr) : State := { s with pending := q }

/-- A command is put behind those that wait. -/
def State.enqueue (s : State) (c : Instr) : State := s.withPending (s.pending ++ [c])

/-- The state with the command that a word of the table spells in front of its queue; the table spells none. -/
def State.withFetchWord (s : State) (nbits w : Nat) : State :=
  match decodeTableWord nbits w with
  | some c => s.withPending (c :: s.pending)
  | none => s

/-- One step. On an empty queue the block's clocks run for one count of the timebase (log entry 1). -/
def step (s : State) : Host.Outcome State Fault Refusal :=
  match s.pending with
  | c :: q => exec c (s.withPending q)
  | [] => .next (idle s)

end Sys2Proof.Machine
end

