-- ==== Sys2Proof/Safety.lean ====
section
/-! DEFINITION. What counts as a safe run, and the conditions on states and operands that statements use. -/

namespace Sys2Proof.Machine

/-- The command runs to its effect. -/
def runs (c : Instr) (s : State) (t : State) : Prop := exec c s = .next t

/-- No step of `k` from a state stops. -/
def goesOn : Nat → State → Prop
  | 0, _ => True
  | k + 1, s => ∃ t, step s = .next t ∧ goesOn k t

/-- The memory stands in its canonical form. -/
def State.memOk (s : State) : Prop := Memory.wf s.mem = true

/-! ### When an instruction executes normally (R93 to R95, R120, R122) -/

/-- No comparator of the processor is enabled (R534). -/
def noCmp (s : State) (p : ProcId) : Prop := ∀ i, i < nCmp p → (cmpOf s p i).ctrl.msb = false

/-- The instruction issues: the processor runs, no asynchronous cause is due, and its fetch meets no error. -/
def issues (s : State) (g : Issue) : Prop :=
  canIssue s g.p = true ∧ asyncDue s g.p = none ∧ fetchRes s g.p g.e = .ok ∧ fetchCorrect s g.p g.e = s

/-- The instruction issues, its predicate is true, its encoding and the mode are in order, and no comparator looks on. -/
def mayRun (s : State) (op : GOp) (g : Issue) : Prop :=
  issues s g ∧ guardTrue (s.cpu g.p).r g.e = true ∧ encodingOk g.p op g.e = true ∧
    (op = .loop → (s.cpu g.p).r.loopAtEnd g.e = false) ∧ (privileged op g.e = true → (s.cpu g.p).r.sup = true) ∧ noCmp s g.p

/-- No word that IF of an engine reads has an uncorrectable error (R84). -/
def fetchClean (s : State) (p : ProcId) : Prop := ∀ n, p = .le n → s.ecc2 = []

/-- The opcodes that read a value through their addressing mode (R123, R128). -/
def readsValue (op : GOp) : Bool :=
  match amSet op with
  | .v => true
  | .fma => true
  | .m => !isStore op
  | _ => false

/-- The clocks that the instruction is charged when nothing else costs: its slots, its interlocks and latencies, the row's stall where it
can stall (R128, R134, R135). -/
def cost (s : State) (op : GOp) (g : Issue) : Nat := slots op g.e + wait s g.p op g.e true + rowStall op g

/-- The state with the instruction issued: what it leaves to those behind it (R135). -/
def issued (s : State) (op : GOp) (g : Issue) : State := noted s g.p op g.e true

/-- The completion of a command can be written: its partition's completion ring has room, and no event that it causes waits
(R294, R295). -/
def cplOpen (s : State) (c : HostCmd) : Prop := c.mute = false ∧ ringRoom s c.part 4 = true ∧ evPending s c = false

/-- From `s` on, the command has completed with `x`: it is in progress no more, and its entry has been written at the producer's
place of the completion ring, with the ring's phase (R294, R295). -/
def completed (s t : State) (c : HostCmd) (x : Cpl) : Prop :=
  findCmd t c.serial = none ∧ ∃ l r, t.hif.out = s.hif.out ++ l ++
    HostOut.write (ringBase s c.part 4 + 16 * s.fld (F.HIF_RIDX_IDX c.part 4)) (cplBytes c (s.fld (F.HIF_RIDX_IDX c.part c.ring)) x ++
      [BitVec.ofNat 8 ((if x.applied then 2 else 0) + (if (s.ring c.part 4).phase then 1 else 0))]) :: r

/-- A host command in progress that the ring engine serves starts: its opcode, its turn in its ring, no refusal (R295, R299). -/
def hostRuns (s : State) (serial op : Nat) (c : HostCmd) : Prop :=
  findCmd s serial = some c ∧ c.desc.op.toNat = op ∧ mayStart s c = true ∧ cmdRefused (markStarted s serial) c = St.ok

/-- A host command in progress that firmware serves runs: its record stands, or its turn has come (R304). -/
def fwRuns (s : State) (serial op : Nat) (c : HostCmd) : Prop :=
  findCmd s serial = some c ∧ c.desc.op.toNat = op ∧ (c.started || mayStart s c) = true

/-- A host command finds the block at an address open: its wrapper passes accesses and its domain is on (R424, R445). -/
def reaches (s : State) (a : Nat) : Prop := s.wrapped a = false ∧ asleep s a = none

/-- A Twin Link frame of a TYPE is received with a good check while the TWL is UP (R482, R483). -/
def twlTakes (s : State) (f : TwlFrame) (ty : Nat) : Prop :=
  s.wrapped R.TWL_CTRL = false ∧ s.powered 5 = true ∧ s.twlUp = true ∧ s.dbgHalted = false ∧ f.passes = true ∧ f.type.toNat = ty

/-- Nothing of the state but one processor differs. -/
def onlyCpu (p : ProcId) (s t : State) : Prop := ∃ c, t = s.setCpu p c

end Sys2Proof.Machine
end

