-- ==== Sys2Proof/Certificates/Slice0/Obligations.lean ====
section
/-! DEFINITION. The statements for the provers. -/

open Sys2Proof Sys2Proof.Machine

/-! ### Steps -/

/-- A step takes the command at the front of the queue and runs it with the queue's rest. Every command completes: on every operand
and in every state exec answers a next state, so no run stops. -/
def Obligations.StepRunsFront : Prop :=
  (∀ (c : Instr) (q : List Instr) (s : State), step (s.withPending (c :: q)) = exec c (s.withPending q)) ∧
  (∀ (c : Instr) (s : State), ∃ t, exec c s = .next t) ∧ ∀ s : State, ∃ t, step s = .next t

/-- With an empty queue the block counts: the timebase goes on by one in ACTIVE and STANDBY, the queue stays empty (the model's
own reading of the clock, log entry 1). -/
def Obligations.IdleStepCounts : Prop :=
  ∀ s : State, s.pending = [] → s.pmu.state ≠ .backup →
    ∃ t, step s = .next t ∧ t.tb = (s.tb + 1) % 2 ^ 64 ∧ t.pending = []

/-! ### Words of Gurno instructions -/

/-- A Gurno instruction row whose fields go together is read back from its own words, whole (R119, R128). -/
def Obligations.GurnoRoundTrip : Prop :=
  ∀ (i : Instr) (op : GOp) (g : Issue), i.gurno = some (op, g) → g.e.wf op = true →
    decodeGurno g.p g.stall (gurnoWord op g.e) g.e.ext = some i

/-- What is read from a word encodes as that word again, and its fields go together: no word has two meanings (R119, R128). -/
def Obligations.GurnoWordsOneMeaning : Prop :=
  ∀ (p : ProcId) (n : Nat) (w x : Word) (i : Instr), decodeGurno p n w x = some i →
    ∃ op g, i.gurno = some (op, g) ∧ g.p = p ∧ g.stall = n ∧ g.e.wf op = true ∧ gurnoWord op g.e = w ∧ (g.e.am = 7 → g.e.ext = x)

/-- Words of the manual's worked encodings (R119): what each one decodes to. -/
def Obligations.GurnoManualWords : Prop :=
  ∀ p : ProcId,
    decodeGurno p 0 0x006004D2 0 = some (.ld ⟨p, ⟨false, 0, 6, 0x4D2, 0, none⟩, 0⟩) ∧
    decodeGurno p 0 0xD120000C 0 = some (.fmul ⟨p, ⟨true, 2, 2, 0xC, 0, none⟩, 0⟩) ∧
    decodeGurno p 0 0x1980001E 0 = some (.pset ⟨p, ⟨false, 0, 0, 0x1E, 0, none⟩, 0⟩) ∧
    decodeGurno p 0 0x3C0FFFFA 0 = some (.br ⟨p, ⟨false, 1, 0, 0xFFFFA, 0, none⟩, 0⟩) ∧
    decodeGurno p 0 0x00700000 0x41200000 = some (.ld ⟨p, ⟨false, 0, 7, 0, 0x41200000, none⟩, 0⟩) ∧
    decodeGurno p 0 0x1E810000 0 = some (.yield ⟨p, ⟨false, 0, 0, 0x10000, 0, none⟩, 0⟩)

/-! ### What an issued instruction does -/

/-- A value-reading instruction (loads, integer, float and compare groups) with a constant operand completes at once: A, X, Y and
ST as the opcode table has them, then the end check and the next PC, and its clocks charged (R123, R128, R137). -/
def Obligations.GurnoConstantOperand : Prop :=
  ∀ (i : Instr) (op : GOp) (g : Issue) (s : State) (v : Word), i.gurno = some (op, g) → readsValue op = true → mayRun s op g →
    operand g.p (s.cpu g.p).r op g.e = .const v →
    exec i s = .next (complete (issued s op g) g.p g.e (cost s op g) (valueRegs (s.cpu g.p).r op g.e v 0 0))

/-- A value-reading instruction other than FMAC whose operand lies in an engine's own LDM completes at once with the bytes there;
XCH then holds A in the word (R81, R123, R131). XCH on an engine's own LDM exchanges A with the word, and every other byte of
memory stands (R131). FMAC with both operands there takes A + opd × M[Y] rounded once into A and moves Y on by 4 (R116, R128, R132). -/
def Obligations.GurnoOwnMemory : Prop :=
  (∀ (i : Instr) (op : GOp) (n : Fin 64) (e : Enc) (k : Nat) (s : State) (a : Word), i.gurno = some (op, ⟨.le n, e, k⟩) →
    readsValue op = true → op ≠ .fmac → op ≠ .xch → mayRun s op ⟨.le n, e, k⟩ → operand (.le n) (s.cpu (.le n)).r op e = .addr a →
    a.toNat < 0x4000 → a.toNat % accessSize op = 0 → s.ecc1 = [] → s.ecc2 = [] →
    exec i s = .next (complete (issued s op ⟨.le n, e, k⟩) (.le n) e (cost s op ⟨.le n, e, k⟩)
      (valueRegs (s.cpu (.le n)).r op e (word (s.rd (ldmBase n.val + a.toNat) (accessSize op)))
        (word (s.rd (ldmBase n.val + a.toNat) (accessSize op) / 2 ^ 32)) 0))) ∧
  ((∀ (n : Fin 64) (e : Enc) (k : Nat) (s : State) (a : Word), mayRun s .xch ⟨.le n, e, k⟩ →
    operand (.le n) (s.cpu (.le n)).r .xch e = .addr a → a.toNat < 0x4000 → a.toNat % 4 = 0 → s.ecc1 = [] → s.ecc2 = [] →
    ∃ t, exec (.xch ⟨.le n, e, k⟩) s = .next t ∧ (t.cpu (.le n)).r.a = word (s.rd (ldmBase n.val + a.toNat) 4) ∧
      t.rd (ldmBase n.val + a.toNat) 4 = (s.cpu (.le n)).r.a.toNat ∧
      ∀ b, b < ldmBase n.val + a.toNat ∨ ldmBase n.val + a.toNat + 4 ≤ b → t.byte b = s.byte b) ∧
  ∀ (n : Fin 64) (e : Enc) (k : Nat) (s : State) (a : Word), mayRun s .fmac ⟨.le n, e, k⟩ →
    operand (.le n) (s.cpu (.le n)).r .fmac e = .addr a → a.toNat < 0x4000 → a.toNat % 4 = 0 →
    (s.cpu (.le n)).r.y.toNat < 0x4000 → (s.cpu (.le n)).r.y.toNat % 4 = 0 → s.ecc1 = [] → s.ecc2 = [] →
    ∃ t, exec (.fmac ⟨.le n, e, k⟩) s = .next t ∧
      (t.cpu (.le n)).r.a = (fMac (s.cpu (.le n)).r.a (word (s.rd (ldmBase n.val + a.toNat) 4))
        (word (s.rd (ldmBase n.val + (s.cpu (.le n)).r.y.toNat) 4))).val ∧
      (t.cpu (.le n)).r.y = (s.cpu (.le n)).r.y + 4 ∧ t.mem = s.mem)

/-- An operand of any other permitted address, or a part of a slot, holds the instruction at MA (R85), and the response completes it with the data that
the fabric answers (R85, R101, R123); FMAC and XCH have statements of their own effects. -/
def Obligations.GurnoHeldLoad : Prop :=
  (∀ (i : Instr) (op : GOp) (g : Issue) (s : State) (a : Word), i.gurno = some (op, g) → readsValue op = true → op ≠ .fmac →
    op ≠ .xch → mayRun s op g → operand g.p (s.cpu g.p).r op g.e = .addr a →
    route s g.p a.toNat (accessSize op) true false = .fabric → a.toNat % accessSize op = 0 →
    exec i s = .next (hold (charge (issued s op g) g.p (cost s op g)) g.p op g.e .load)) ∧
  (∀ (i : Instr) (op : GOp) (g : Issue) (s : State) (slot part : Nat), i.gurno = some (op, g) → readsValue op = true → op ≠ .fmac →
    mayRun s op g → operand g.p (s.cpu g.p).r op g.e = .sig slot part → g.p ≠ .sp →
    (g.p = .mc → mpuRefuses s.mcr (s.cpu g.p).r.sup false false (0x20000000 + 8 * slot) = none) →
    exec i s = .next (hold (charge (issued s op g) g.p (cost s op g)) g.p op g.e .load)) ∧
  (∀ (p : ProcId) (op : GOp) (e : Enc) (d : HostData) (s s1 : State) (slot part v : Nat),
    (s.cpu p).k.stall = some ⟨op, e, .load⟩ → op ≠ .fmac → op ≠ .xch → operand p (s.cpu p).r op e = .sig slot part →
    overlaps (s.cpu p).k.buf (0x20000000 + 8 * slot) 8 = false → s.held.contains (.load p (0x20000000 + 8 * slot)) = false →
    sigAccess s (cpuInit s p) (s.cpu p).r.part slot part = (.ok v, s1) → noCmp s1 p →
    exec (.loadResponse p d) s = .next (complete s1 p e 0 (valueRegs (s1.cpu p).r op e (word v) (word (v / 2 ^ 32)) 0))) ∧
  (∀ (p : ProcId) (op : GOp) (e : Enc) (d : HostData) (s s1 : State) (a : Word) (v : Nat),
    (s.cpu p).k.stall = some ⟨op, e, .load⟩ → op ≠ .fmac → op ≠ .xch → operand p (s.cpu p).r op e = .addr a →
    overlaps (s.cpu p).k.buf a.toNat (accessSize op) = false → s.held.contains (.load p a.toNat) = false →
    busRead s (cpuInit s p) (s.cpu p).r.part a.toNat (accessSize op) d = (.ok v, s1) → noCmp s1 p →
    exec (.loadResponse p d) s = .next (complete s1 p e 0 (valueRegs (s1.cpu p).r op e (word v) (word (v / 2 ^ 32)) 0)))

/-- A store that leaves the processor enters the store buffer behind the others with its address, data, partition and generation
(R91, R101); the instruction completes, and memory stands until the response. A store to a part of a slot does the same (R124). A store to an engine's own LDM writes exactly its bytes at once, with no buffering (R81). -/
def Obligations.GurnoStores : Prop :=
  ((∀ (i : Instr) (op : GOp) (g : Issue) (s : State) (slot part : Nat), i.gurno = some (op, g) → isStore op = true → mayRun s op g →
    operand g.p (s.cpu g.p).r op g.e = .sig slot part → g.p ≠ .sp →
    (g.p = .mc → mpuRefuses s.mcr (s.cpu g.p).r.sup true false (0x20000000 + 8 * slot) = none) → (s.cpu g.p).k.buf.length < 4 →
    ∃ t, exec i s = .next t ∧ t.mem = s.mem ∧ t.slots = s.slots ∧ (t.cpu g.p).k.buf = (s.cpu g.p).k.buf ++
      [storeEntry s g.p op (if part = 1 then 0x20000000 + 8 * slot + 4 else 0x20000000 + 8 * slot) (.sig part)]) ∧
  ∀ (i : Instr) (op : GOp) (g : Issue) (s : State) (a : Word), i.gurno = some (op, g) → isStore op = true → mayRun s op g →
    operand g.p (s.cpu g.p).r op g.e = .addr a → route s g.p a.toNat (accessSize op) false true = .fabric →
    a.toNat % accessSize op = 0 → (s.cpu g.p).k.buf.length < 4 →
    ∃ t, exec i s = .next t ∧ (t.cpu g.p).k.buf = (s.cpu g.p).k.buf ++ [storeEntry s g.p op a.toNat .plain] ∧
      (t.cpu g.p).r.a = (s.cpu g.p).r.a ∧ (t.cpu g.p).r.y = (s.cpu g.p).r.y ∧ (t.cpu g.p).r.x = ixpX (s.cpu g.p).r g.e ∧
      (t.cpu g.p).r.st = (s.cpu g.p).r.st ∧ t.mem = s.mem ∧ t.slots = s.slots ∧ t.regs = s.regs) ∧
  (∀ (i : Instr) (op : GOp) (n : Fin 64) (e : Enc) (k : Nat) (s : State) (a : Word), i.gurno = some (op, ⟨.le n, e, k⟩) →
    isStore op = true → mayRun s op ⟨.le n, e, k⟩ → operand (.le n) (s.cpu (.le n)).r op e = .addr a → a.toNat < 0x4000 →
    a.toNat % accessSize op = 0 → s.ecc1 = [] → s.ecc2 = [] →
    ∃ t, exec i s = .next t ∧
      t.rd (ldmBase n.val + a.toNat) (accessSize op) = (storeData (s.cpu (.le n)).r op).toNat % 256 ^ accessSize op ∧
      (∀ b, b < ldmBase n.val + a.toNat ∨ ldmBase n.val + a.toNat + accessSize op ≤ b → t.byte b = s.byte b) ∧
      (t.cpu (.le n)).k.buf = (s.cpu (.le n)).k.buf ∧ (t.cpu (.le n)).r.a = (s.cpu (.le n)).r.a ∧
      (t.cpu (.le n)).r.y = (s.cpu (.le n)).r.y ∧ (t.cpu (.le n)).r.st = (s.cpu (.le n)).r.st)

/-- The response to a buffered store that the target takes: the write has happened at the target, the entry is gone; while the store
waits at a wrapper for its domain none comes, and it is served in its turn (R444, R445); an error answer is recorded as a late store error (R101, R103, R104). No response comes before that of an older store to the same target block
(R39, R101). A store of the MC to the MGS or a CSM has written exactly its bytes (R110), and one to an internal slot of its partition
the slot's value or status (R24, R125). -/
def Obligations.StoreResponses : Prop :=
  (∀ (p : ProcId) (k : Fin 4) (s s1 : State) (b : StoreEntry), (s.cpu p).k.buf[k.val]? = some b → mayAnswer s (s.cpu p).k.buf k.val = true →
    (s.held.contains (.store p b) = true → exec (.storeResponse p k) s = .next s) ∧
    (s.held.contains (.store p b) = false → busStore s (.cpu p (!b.task)) b = (some 0, s1) →
      exec (.storeResponse p k) s = .next (releaseStall (dropEntry s1 p k.val) p)) ∧
    (∀ kind, s.held.contains (.store p b) = false → busStore s (.cpu p (!b.task)) b = (some (kind + 1), s1) →
      exec (.storeResponse p k) s = .next (releaseStall (lateStoreError (dropEntry s1 p k.val) p b (kind + 1)) p))) ∧
  (∀ (p : ProcId) (k : Fin 4) (s : State) (b : StoreEntry), (s.cpu p).k.buf[k.val]? = some b →
    (∃ (j : Nat) (o : StoreEntry), j < k.val ∧ (s.cpu p).k.buf[j]? = some o ∧ targetBlock s o = targetBlock s b) →
    exec (.storeResponse p k) s = .next s) ∧
  (∀ (k : Fin 4) (s : State) (b : StoreEntry) (g : Region), s.mc.k.buf[k.val]? = some b → mayAnswer s s.mc.k.buf k.val = true →
    s.mc.k.stall = none → b.kind = .plain → regionFor b.addr b.size = some g → (g = .mgs ∨ ∃ c, g = .csm c) →
    initMay s (.cpu .mc (!b.task)) g true = true → regionMay s (.cpu .mc (!b.task)) b.part g true b.addr b.size = true →
    s.held.contains (.store .mc b) = false → passage s b.addr = (none, s) → busyAt s g b.addr = none →
    s.ecc1 = [] → s.ecc2 = [] →
    ∃ t, exec (.storeResponse .mc k) s = .next t ∧ t.rd b.addr b.size = b.data.toNat % 256 ^ b.size ∧
      (∀ a, a < b.addr ∨ b.addr + b.size ≤ a → t.byte a = s.byte a) ∧ t.mc.k.buf = s.mc.k.buf.eraseIdx k.val ∧
      t.mc.r = s.mc.r ∧ t.slots = s.slots ∧ t.regs = s.regs) ∧
  ∀ (p : ProcId) (k : Fin 4) (s : State) (b : StoreEntry) (n part : Nat), (s.cpu p).k.buf[k.val]? = some b →
    mayAnswer s (s.cpu p).k.buf k.val = true → s.held.contains (.store p b) = false → (s.cpu p).k.stall = none → b.kind = .sig part → (b.addr - 0x20000000) / 8 = n →
    passage s (0x20000000 + 8 * n) = (none, s) → (s.thePlan.bind n).kind = 0 → (s.thePlan.bind n).owner = b.part →
    (∀ e, staleStore s b e = false) → (∀ e, lateStore s e b = false) →
    ∃ t, exec (.storeResponse p k) s = .next t ∧ (part = 0 → (t.slot n).value = b.data ∧ (t.slot n).status = (s.slot n).status) ∧
      (part = 1 → (t.slot n).status = b.data.toNat % 65536 ∧ (t.slot n).value = (s.slot n).value) ∧
      (∀ m, m ≠ n → t.slot m = s.slot m) ∧ t.mem = s.mem ∧ (t.cpu p).k.buf = (s.cpu p).k.buf.eraseIdx k.val ∧
      (t.cpu p).r = (s.cpu p).r

/-- LEAX, LEAY, MOV, LDU and the predicate instructions write their register alone and go on (R128, R130). -/
def Obligations.GurnoRegisterMoves : Prop :=
  ∀ (i : Instr) (op : GOp) (g : Issue) (s : State), i.gurno = some (op, g) → mayRun s op g →
    (op = .leax ∨ op = .leay → exec i s = .next (complete (issued s op g) g.p g.e (cost s op g) (leaRegs g.p (s.cpu g.p).r op g.e))) ∧
    (op = .mov → exec i s = .next (complete (issued s op g) g.p g.e (cost s op g) (movRegs (s.cpu g.p).r g.e))) ∧
    (op = .ldu → exec i s = .next (complete (issued s op g) g.p g.e (cost s op g) { (s.cpu g.p).r with a := word (g.e.opd.toNat * 4096) })) ∧
    (op = .pset ∨ op = .pand ∨ op = .por ∨ op = .pnot →
      exec i s = .next (complete (issued s op g) g.p g.e (cost s op g) (predRegs (s.cpu g.p).r op g.e))) ∧
    (op = .nop → exec i s = .next (complete (issued s op g) g.p g.e (cost s op g) (s.cpu g.p).r))

/-- The frame of an instruction that completes with registers `r`: every other processor, memory, every slot and every register of
the register map stand; of the processor only its registers change, and in them only what `r` says, PC, the loop counts and the
evaluation counter (R137, R86). -/
def Obligations.GurnoCompletionFrame : Prop :=
  ∀ (s : State) (p : ProcId) (e : Enc) (n : Nat) (r : Proc),
    (∀ q, q ≠ p → (complete s p e n r).cpu q = s.cpu q) ∧ (complete s p e n r).mem = s.mem ∧ (complete s p e n r).slots = s.slots ∧
    (complete s p e n r).regs = s.regs ∧ (complete s p e n r).mcr = s.mcr ∧ (complete s p e n r).plan = s.plan ∧
    ((complete s p e n r).cpu p).k = { (s.cpu p).k with stall := none } ∧
    ((complete s p e n r).cpu p).r.a = r.a ∧ ((complete s p e n r).cpu p).r.x = r.x ∧ ((complete s p e n r).cpu p).r.y = r.y ∧
    ((complete s p e n r).cpu p).r.b = r.b ∧ ((complete s p e n r).cpu p).r.st = r.st ∧ ((complete s p e n r).cpu p).r.epc = r.epc ∧
    ((complete s p e n r).cpu p).r.estat = r.estat ∧ ((complete s p e n r).cpu p).r.vbr = r.vbr ∧
    ((complete s p e n r).cpu p).r.spc = r.spc ∧ ((complete s p e n r).cpu p).r.ssr = r.ssr ∧
    ((complete s p e n r).cpu p).r.rs = r.rs ∧ ((complete s p e n r).cpu p).r.rsDepth = r.rsDepth ∧
    ((complete s p e n r).cpu p).r.fe = r.fe ∧ ((complete s p e n r).cpu p).r.lseInfo = r.lseInfo

/-- The hardware loops' end check (R137): with no active level, or off every end address, the next instruction follows; at the end
address of the innermost active level a count above 1 goes down and PC returns to the start; a count of 1 is used up. -/
def Obligations.HardwareLoopEnd : Prop :=
  ∀ (r : Proc) (e : Enc),
    ((∀ k, k < 3 → r.active k = true → r.atEnd e k = false) → (r.advance e) = { r with pc := r.pc + word (ilen e) }) ∧
    (∀ k, k < 3 → r.innermost = some k → r.atEnd e k = true → 1 < (r.lp k).count.toNat →
      (r.advance e).pc = (r.lp k).start &&& 0xFFFFFFFC ∧ ((r.advance e).lp k).count = (r.lp k).count - 1) ∧
    (∀ k, k < 3 → r.innermost = some k → r.atEnd e k = true → (r.lp k).count.toNat = 1 → ((r.advance e).lp k).count = 0)

/-- While no word that IF reads has an uncorrectable error (R84): BR, CALL and RET transfer to their target with no end check; CALL pushes the address behind it, RET pops (R128, R138, R139).
LOOP with a count of 0 skips the body, with another count takes the lowest free level, and with a body of 0 words ends the innermost
active level (R136). A word that IF has read behind a YIELD retires the engine where its error is uncorrectable, although its
instruction is squashed (R84). -/
def Obligations.GurnoTransfers : Prop :=
  (∀ (g : Issue) (s : State),
    (mayRun s .br g → fetchClean s g.p → ∃ t, exec (.br g) s = .next t ∧ (t.cpu g.p).r.pc = branchTarget (s.cpu g.p).r g.e &&& 0xFFFFFFFC ∧
      (t.cpu g.p).r.rs = (s.cpu g.p).r.rs ∧ (t.cpu g.p).r.lp0 = (s.cpu g.p).r.lp0) ∧
    (mayRun s .call g → fetchClean s g.p → ((s.cpu g.p).r.rsDepth = 16 → (s.cpu g.p).r.rstrap = false) → ∃ t, exec (.call g) s = .next t ∧
      (t.cpu g.p).r.pc = branchTarget (s.cpu g.p).r g.e &&& 0xFFFFFFFC ∧
      (t.cpu g.p).r.top = (s.cpu g.p).r.pc + word (ilen g.e) ∧ (t.cpu g.p).r.rsDepth = min 16 ((s.cpu g.p).r.rsDepth + 1)) ∧
    (mayRun s .ret g → fetchClean s g.p → ((s.cpu g.p).r.rsDepth = 0 → (s.cpu g.p).r.rstrap = false) → ∃ t, exec (.ret g) s = .next t ∧
      (t.cpu g.p).r.pc = (s.cpu g.p).r.top &&& 0xFFFFFFFC ∧ (t.cpu g.p).r.rsDepth = (s.cpu g.p).r.rsDepth - 1)) ∧
  ∀ (g : Issue) (s : State), mayRun s .loop g →
    (opdBits g.e 0 10 ≠ 0 → (if opdBits g.e 19 1 = 1 then (s.cpu g.p).r.x.toNat % 65536 else opdBits g.e 10 9) = 0 → fetchClean s g.p →
      ∃ t, exec (.loop g) s = .next t ∧
        (t.cpu g.p).r.pc = ((s.cpu g.p).r.pc + word (4 + 4 * opdBits g.e 0 10)) &&& 0xFFFFFFFC) ∧
    (∀ c k, opdBits g.e 0 10 ≠ 0 → (if opdBits g.e 19 1 = 1 then (s.cpu g.p).r.x.toNat % 65536 else opdBits g.e 10 9) = c → c ≠ 0 →
      (s.cpu g.p).r.freeLevel = some k →
      exec (.loop g) s = .next (complete (issued s .loop g) g.p g.e (cost s .loop g) ((s.cpu g.p).r.setLp k
        ⟨(s.cpu g.p).r.pc + 4, (s.cpu g.p).r.pc + word (4 * opdBits g.e 0 10), BitVec.ofNat 16 c⟩))) ∧
    (∀ k, opdBits g.e 0 10 = 0 → (s.cpu g.p).r.innermost = some k →
      exec (.loop g) s = .next (complete (issued s .loop g) g.p g.e (cost s .loop g) ((s.cpu g.p).r.setLp k { (s.cpu g.p).r.lp k with count := 0 }))) ∧
    (∀ n : Fin 64, g.p = .le n → mayRun s .yield g → ((s.cpu g.p).r.pc + 4).toNat < 0x8000 →
      has s.ecc2 (limBase n.val + ((s.cpu g.p).r.pc + 4).toNat) = true →
      ∃ t, exec (.yield g) s = .next (retireEngine t n.val 2) ∧ t.mem = s.mem ∧ t.slots = s.slots ∧ t.regs = s.regs)

/-- With no uncorrectable error in the words that IF reads and squashes (R84): SYSC n saves the next address and ST, sets S and goes to FEn; SRET returns both (R99). ERET returns PC, ST and P1 to P3 from
EPC and ESTAT (R97). -/
def Obligations.GurnoSystemReturns : Prop :=
  (∀ (g : Issue) (s : State),
    (mayRun s .sysc g → fetchClean s g.p → ∃ t, exec (.sysc g) s = .next t ∧ (t.cpu g.p).r.spc = (s.cpu g.p).r.pc + 4 ∧
      (t.cpu g.p).r.ssr = (s.cpu g.p).r.stVal &&& 0xFFFF ∧ (t.cpu g.p).r.st = setBit (s.cpu g.p).r.st 8 true ∧
      (t.cpu g.p).r.pc = SMap.get (fun _ => 0) (s.cpu g.p).r.fe (opdBits g.e 0 4) &&& 0xFFFFFFFC ∧
      (t.cpu g.p).r.a = (s.cpu g.p).r.a ∧ (t.cpu g.p).r.p1 = (s.cpu g.p).r.p1 ∧ t.mem = s.mem) ∧
    (mayRun s .sret g → fetchClean s g.p → ∃ t, exec (.sret g) s = .next t ∧ (t.cpu g.p).r.pc = (s.cpu g.p).r.spc &&& 0xFFFFFFFC ∧
      (t.cpu g.p).r.st = restoreSt g.p (s.cpu g.p).r.ssr ∧ (t.cpu g.p).r.a = (s.cpu g.p).r.a ∧
      (t.cpu g.p).r.p1 = (s.cpu g.p).r.p1 ∧ t.mem = s.mem)) ∧
  ∀ (g : Issue) (s : State), mayRun s .eret g → fetchClean s g.p → ∃ t, exec (.eret g) s = .next t ∧
    (t.cpu g.p).r.pc = (s.cpu g.p).r.epc &&& 0xFFFFFFFC ∧ (t.cpu g.p).r.st = restoreSt g.p ((s.cpu g.p).r.estat &&& 0xFFFF) ∧
    (t.cpu g.p).r.p1 = stBit (s.cpu g.p).r.estat 24 ∧ (t.cpu g.p).r.p2 = stBit (s.cpu g.p).r.estat 25 ∧
    (t.cpu g.p).r.p3 = stBit (s.cpu g.p).r.estat 26 ∧ (t.cpu g.p).r.a = (s.cpu g.p).r.a ∧ t.mem = s.mem

/-- YIELD enters DRAIN (with no uncorrectable error in the words that IF reads behind it, R84), WAIT stops issue for its count, FENCE completes where nothing is buffered and holds where something is
(R92, R101, R141). MFS reads a special register into A, MTS writes A to one (R140). -/
def Obligations.GurnoControlAndSpecialRegisters : Prop :=
  (∀ (g : Issue) (s : State),
    (mayRun s .yield g → fetchClean s g.p → ∃ t, exec (.yield g) s = .next t ∧ (t.cpu g.p).k.state = .drain ∧ (t.cpu g.p).k.buf = (s.cpu g.p).k.buf ∧
      (t.cpu g.p).r.a = (s.cpu g.p).r.a) ∧
    (mayRun s .wait g → ∃ t, exec (.wait g) s = .next t ∧ (t.cpu g.p).k.waiting = some (opdBits g.e 0 16) ∧
      (t.cpu g.p).r.pc = ((s.cpu g.p).r.advance g.e).pc) ∧
    (mayRun s .fence g → (s.cpu g.p).k.buf = [] → exec (.fence g) s = .next (complete (issued s .fence g) g.p g.e (cost s .fence g) (s.cpu g.p).r)) ∧
    (mayRun s .fence g → (s.cpu g.p).k.buf ≠ [] → ∃ t, exec (.fence g) s = .next t ∧
      (t.cpu g.p).k.stall = some ⟨.fence, g.e, .fence⟩ ∧ (t.cpu g.p).r.pc = (s.cpu g.p).r.pc)) ∧
  (∀ (g : Issue) (s : State),
    (mayRun s .mfs g → ∃ t, exec (.mfs g) s = .next t ∧ (t.cpu g.p).r.a = mfsVal s g.p (opdBits g.e 0 8) ∧ t.mem = s.mem ∧ t.regs = s.regs) ∧
    (mayRun s .mts g → ∃ t, exec (.mts g) s = .next t ∧ (t.cpu g.p).r.a = (s.cpu g.p).r.a ∧
      (t.cpu g.p).r.b = (mtsRegs (s.cpu g.p).r (opdBits g.e 0 8) (s.cpu g.p).r.a).b ∧
      (t.cpu g.p).r.vbr = (mtsRegs (s.cpu g.p).r (opdBits g.e 0 8) (s.cpu g.p).r.a).vbr ∧
      (t.cpu g.p).r.st = (mtsRegs (s.cpu g.p).r (opdBits g.e 0 8) (s.cpu g.p).r.a).st ∧ t.mem = s.mem ∧ t.regs = s.regs))

/-- A reserved encoding raises ILLEGAL and a supervisor-only one in task mode PRIVILEGED: precise exceptions, taken as R96 says,
that change no register but those of the entry and no memory; the clocks of the instruction and of the entry count (R86, R93, R94, R122,
R134). No word that IF reads has an uncorrectable error (R84). -/
def Obligations.GurnoTraps : Prop :=
  ∀ (i : Instr) (op : GOp) (g : Issue) (s : State) (c : Nat), i.gurno = some (op, g) → issues s g → fetchClean s g.p →
    guardTrue (s.cpu g.p).r g.e = true → ((s.cpu g.p).r.sup = true → (s.cpu g.p).r.ie = true) →
    (encodingOk g.p op g.e = false ∧ c = 1 ∨
      encodingOk g.p op g.e = true ∧ op ≠ .loop ∧ privileged op g.e = true ∧ (s.cpu g.p).r.sup = false ∧ c = 2) →
    ∃ t, exec i s = .next t ∧ (t.cpu g.p).r = { (s.cpu g.p).r.enter c false with
        lsePend := (s.cpu g.p).r.lsePend, ecnt := (s.cpu g.p).r.ecnt + (if entryClocks g.p = 0 then 0 else cost s op g + entryClocks g.p) } ∧
      (t.cpu g.p).r.epc = (s.cpu g.p).r.pc ∧ (t.cpu g.p).r.pc = ((s.cpu g.p).r.vbr &&& 0xFFFFFF00) + word (c * 16) ∧
      (t.cpu g.p).r.sup = true ∧ (t.cpu g.p).r.ie = false ∧ t.slots = s.slots

/-- With no uncorrectable error in the words that IF reads (R84): an instruction whose predicate is false changes no register, predicate
or flag and no memory: PC and the loop counts go on by the end check (R120, R121, R137), and it pays its interlocks. Latencies and
interlocks (R134, R135): an instruction that issues tells those behind it which of X and Y it has written otherwise than by a post-update
and which predicates, and its own clocks are its slots and the longer of its two waits (log entry 152). One that addresses memory through
X waits two slots right behind a writer of X, and one slot behind the writer before that; one with a memory access waits a slot for its
predicate. A reader of A or of the flags waits a slot behind a MUL or MULH of one slot and two behind an FMAC of one slot, but a following
FMAC none. -/
def Obligations.PredicatesAndInterlocks : Prop :=
  (∀ (i : Instr) (op : GOp) (g : Issue) (s : State), i.gurno = some (op, g) → issues s g → fetchClean s g.p →
    guardTrue (s.cpu g.p).r g.e = false → ∃ t, exec i s = .next t ∧ (∃ n, (t.cpu g.p).r = { (s.cpu g.p).r.advance g.e with ecnt := n }) ∧ t.mem = s.mem ∧
      t.slots = s.slots ∧ t.regs = s.regs ∧ (t.cpu g.p).k.buf = (s.cpu g.p).k.buf) ∧
  (∀ (i : Instr) (op : GOp) (g : Issue) (s : State) (v : Word) (n : Fin 64), i.gurno = some (op, g) → readsValue op = true →
    mayRun s op g → operand g.p (s.cpu g.p).r op g.e = .const v → g.p = .le n →
    ∃ t, exec i s = .next t ∧ (t.le n).k.pipe.x1 = writesX op g.e ∧ (t.le n).k.pipe.y1 = writesY op g.e ∧
      (t.le n).k.pipe.x2 = (s.le n).k.pipe.x1 ∧ (t.le n).k.pipe.y2 = (s.le n).k.pipe.y1 ∧
      (t.le n).k.pipe.preds = writesPreds op g.e ∧
      (t.le n).r.ecnt = (s.le n).r.ecnt + slots op g.e +
        max (interlock (s.le n).k.pipe op g.e) (latency (s.le n).k.pipe (s.le n).r.ecnt op g.e) ∧
      ((op = .mul ∨ op = .mulh) → ∀ o e, latency (t.le n).k.pipe (t.le n).r.ecnt o e =
        if readsA o e || readsFlags o e then 2 - slots op g.e else 0)) ∧
  (∀ (n : Fin 64) (e : Enc) (k : Nat) (s : State) (a : Word), mayRun s .fmac ⟨.le n, e, k⟩ →
    operand (.le n) (s.le n).r .fmac e = .addr a → a.toNat < 0x4000 → a.toNat % 4 = 0 → (s.le n).r.y.toNat < 0x4000 →
    (s.le n).r.y.toNat % 4 = 0 → s.ecc1 = [] → s.ecc2 = [] →
    ∃ t, exec (.fmac ⟨.le n, e, k⟩) s = .next t ∧ (t.le n).k.pipe.y1 = false ∧
      ∀ o e', latency (t.le n).k.pipe (t.le n).r.ecnt o e' =
        if readsA o e' && o != .fmac then 3 - slots .fmac e - rowStall .fmac ⟨.le n, e, k⟩ else 0) ∧
  (∀ (k : Pipe) (op : GOp) (e : Enc),
    (addrX op e = true → k.x1 = true → interlock k op e = 2) ∧
    (addrX op e = true → addrY op e = false → k.x1 = false → k.x2 = true → interlock k op e = 1) ∧
    (addrX op e = false → addrY op e = false → interlock k op e = if opTouches op e && k.preds.testBit e.ps.toNat then 1 else 0)) ∧
  ∀ (i : Instr) (op : GOp) (g : Issue) (s : State) (n : Fin 64), i.gurno = some (op, g) → issues s g → fetchClean s g.p →
    guardTrue (s.cpu g.p).r g.e = false → op ≠ .br → g.p = .le n →
    ∃ t, exec i s = .next t ∧ (t.le n).r.ecnt = (s.le n).r.ecnt + (if g.e.am = 7 then 2 else 1) + interlock (s.le n).k.pipe op g.e ∧
      (t.le n).k.pipe.x1 = false ∧ (t.le n).k.pipe.x2 = (s.le n).k.pipe.x1 ∧ (t.le n).k.pipe.preds = 0

/-! ### Arithmetic -/

/-- Integer results and flags as exact arithmetic has them: carry and borrow of ADD and SUB, the two halves of the signed product,
the last bit shifted out (R128, R129). -/
def Obligations.IntegerResults : Prop :=
  ∀ a b : Word,
    a.toNat + b.toNat = (aluAdd a b).val.toNat + (if (aluAdd a b).c = some true then 2 ^ 32 else 0) ∧
    a.toNat + (if (aluSub a b).c = some true then 0 else 2 ^ 32) = (aluSub a b).val.toNat + b.toNat ∧
    ((aluAdd a b).v = some true ↔ a.toInt + b.toInt < -2 ^ 31 ∨ 2 ^ 31 ≤ a.toInt + b.toInt) ∧
    ((aluSub a b).v = some true ↔ a.toInt - b.toInt < -2 ^ 31 ∨ 2 ^ 31 ≤ a.toInt - b.toInt) ∧
    (aluMulh a b).val.toInt * 2 ^ 32 + ((aluMul a b).val.toNat : Int) = a.toInt * b.toInt ∧
    (b.toNat % 32 ≠ 0 → (aluShl a b).c = some (decide (a.toNat * 2 ^ (b.toNat % 32) / 2 ^ 32 % 2 = 1))) ∧
    (b.toNat % 32 ≠ 0 → (aluShr a b).c = some (decide (a.toNat / 2 ^ (b.toNat % 32 - 1) % 2 = 1))) ∧
    ((aluMin a b).val.toInt = min a.toInt b.toInt) ∧ ((aluMax a b).val.toInt = max a.toInt b.toInt)

/-- A NaN never leaves CLAMP or SAT as their result. With no NaN and lo not above hi, CLAMP's result lies between its bounds, and
exactly the flag of the bound that limited it is set (R129, R133). Sums, products and quotients are never subnormal, and a NaN result is the canonical one (R132). -/
def Obligations.FloatBounds : Prop :=
  ((∀ a lo hi : Word, fIsNan (fClamp a lo hi).val = false ∧ fIsNan (fSat a lo).val = false) ∧
  ∀ a lo hi : Word, fIsNan a = false → fIsNan lo = false → fIsNan hi = false → fLt hi lo = false →
    fLt (fClamp a lo hi).val lo = false ∧ fLt hi (fClamp a lo hi).val = false ∧
    ((fClamp a lo hi).c = some true ↔ fLt a lo = true) ∧ ((fClamp a lo hi).v = some true ↔ fLt hi a = true)) ∧
  (∀ a b : Word, ∀ u ∈ [fAdd a b, fSub a b, fMul a b, fDiv a b, fItof a],
    (u.val.toNat / 2 ^ 23 % 256 = 0 → u.val.toNat % 2 ^ 23 = 0) ∧ (fIsNan u.val = true → u.val = 0x7FC00000))

/-- PSET evaluates its condition on ST as it stands, by the table of R130; conditions 10 to 13 are false, and NE is true, on the
flags of an unordered comparison. On ordered operands 10 holds where A is less, 11 where it is less or equal, 12 where it is greater,
13 where it is greater or equal (R129). -/
def Obligations.PsetConditions : Prop :=
  (∀ (g : Issue) (s : State), mayRun s .pset g →
    let r := (s.cpu g.p).r
    exec (.pset g) s = .next (complete (issued s .pset g) g.p g.e (cost s .pset g)
      (r.setPred (opdBits g.e 4 2) (condHolds (opdBits g.e 0 4) (stBit r.st 0) (stBit r.st 1) (stBit r.st 2) (stBit r.st 3))))) ∧
  (∀ z n c v : Bool,
    (condHolds 0 z n c v = z ∧ condHolds 1 z n c v = !z ∧ condHolds 2 z n c v = (n != v) ∧ condHolds 3 z n c v = (n == v) ∧
      condHolds 4 z n c v = (!z && (n == v)) ∧ condHolds 5 z n c v = (z || (n != v)) ∧ condHolds 6 z n c v = !c ∧
      condHolds 7 z n c v = c) ∧
    condHolds 8 z n c v = n ∧ condHolds 9 z n c v = v ∧ condHolds 10 z n c v = (n && !v) ∧
      condHolds 11 z n c v = ((n || z) && !v) ∧ condHolds 12 z n c v = (!n && !z && !v) ∧ condHolds 13 z n c v = (!n && !v) ∧
      condHolds 14 z n c v = (c || v) ∧ condHolds 15 z n c v = true) ∧
  ∀ a b : Word,
    let u := fCmp a b
    let holds (k : Nat) : Bool := condHolds k u.z u.n (u.c.getD false) (u.v.getD false)
    (fIsNan a = true ∨ fIsNan b = true → holds 10 = false ∧ holds 11 = false ∧ holds 12 = false ∧ holds 13 = false ∧ holds 1 = true) ∧
    (fIsNan a = false → fIsNan b = false → holds 10 = fLt a b ∧ holds 12 = fLt b a ∧ holds 11 = !fLt b a ∧ holds 13 = !fLt a b)

/-! ### Events of the processors -/

/-- Asynchronous causes: LSE on any processor, INTERRUPT and NMI on the MC, are taken as R96 says with EPC at the next instruction;
NMI also sets NMI_ACT (R94, R96, R104, R509, R515). A late store error records the store where none is recorded, and with a record
held sets OVF only; either way it is pending (R104, R105). A WAIT with a count ends when its clocks have passed (R141). A first lockstep mismatch resets both cores but VBR and the MPU registers, sets MISMATCH, and enters the NMI vector with EPC
0xFFFF_FFFF (R504, R509). -/
def Obligations.ProcessorEventsAndLockstep : Prop :=
  ((∀ (p : ProcId) (s : State), interruptible s p = true → (s.cpu p).r.lsePend = true → (s.cpu p).r.ie = true →
    fetchClean s p → ∃ t, exec (.lse p) s = .next t ∧ (t.cpu p).r = { (s.cpu p).r.enter 0xA true with
      lsePend := false, ecnt := (s.cpu p).r.ecnt + entryClocks p } ∧ t.mem = s.mem) ∧
  (∀ s : State, interruptible s .mc = true → (bestSource s).isSome = true → evcRuns s = true → s.mc.r.ie = true →
    ∃ t, exec (.interrupt .mc) s = .next t ∧ t.mc.r = s.mc.r.enter 0xD true ∧ t.mem = s.mem) ∧
  (∀ s : State, interruptible s .mc = true → s.mcr.nmiNew = true → s.mcr.nmiAct = false →
    ∃ t, exec .nmi s = .next t ∧ t.mc.r = s.mc.r.enter 0xE true ∧ t.mcr.nmiAct = true ∧ t.mcr.nmiNew = false ∧ t.mem = s.mem) ∧
  (∀ (p : ProcId) (k kind : Fin 4) (s : State) (b : StoreEntry), (s.cpu p).k.buf[k.val]? = some b → (s.cpu p).k.stall = none →
    (stBit (s.cpu p).r.lseInfo 31 = false → ∃ t, exec (.lateStoreError p k kind) s = .next t ∧ (t.cpu p).r.lseAddr = word b.addr ∧
      stBit (t.cpu p).r.lseInfo 31 = true ∧ (t.cpu p).r.lsePend = true ∧ (t.cpu p).k.buf = (s.cpu p).k.buf.eraseIdx k.val) ∧
    (stBit (s.cpu p).r.lseInfo 31 = true → ∃ t, exec (.lateStoreError p k kind) s = .next t ∧
      (t.cpu p).r.lseAddr = (s.cpu p).r.lseAddr ∧ (t.cpu p).r.lseInfo = setBit (s.cpu p).r.lseInfo 30 true ∧ (t.cpu p).r.lsePend = true)) ∧
  ∀ (p : ProcId) (n : Nat) (s : State), (s.cpu p).k.waiting = some (n + 1) →
    ∃ t, exec (.waitTimeout p) s = .next t ∧ (t.cpu p).k.waiting = none ∧ (t.cpu p).r.pc = (s.cpu p).r.pc ∧ t.mem = s.mem) ∧
  (∀ s : State, s.mc.k.state ≠ .reset → s.mc.k.stopped = false → stBit s.mcr.lsStat 31 = false →
    ∃ t, exec .lockstepMismatch s = .next t ∧ t.mc.r.epc = 0xFFFFFFFF ∧ t.mc.r.pc = (s.mc.r.vbr &&& 0xFFFFFF00) + 0xE0 ∧
      t.mc.r.a = 0 ∧ t.mc.r.vbr = s.mc.r.vbr ∧ t.mc.k.buf = [] ∧ stBit t.mcr.lsStat 31 = true ∧ t.mcr.nmiAct = true ∧
      t.mcr.mpuBase = s.mcr.mpuBase ∧ t.mcr.mpuAttr = s.mcr.mpuAttr)


/-! ### The cycle (chapter 02) -/

/-- A timing set (R50, R51). COMMIT marks it pending while the cycle runs, and the set in force stands. Judged, it is taken whole
where no rule fails; where one fails every register of the set keeps its value, CFG_ERR and the rule's code show it, and the shadow
copies return to the values in force either way. At a boundary latch the model judges it in step 2 of R20. The cycle starts and stops (R78): setting EN makes a first SOC due, which opens the cycle with the number that CYC_CYCNUM holds;
each later SOC carries the next number, wrapping at 2^32; with EN clear the cycle in progress ends and no SOC follows. -/
def Obligations.TimingSetsAndCycleStarts : Prop :=
  ((∀ s : State, s.accepts R.CYC_CTRL = true → s.cycEn = true → ∃ t, exec .timingSetCommit s = .next t ∧ t.flag F.CYC_CTRL_COMMIT = true ∧
    t.flag F.CYC_STATUS_CFG_PEND = true ∧ ∀ a ∈ timingRegs, t.reg a = s.reg a) ∧
  (∀ s : State, s.flag F.CYC_CTRL_COMMIT = true → timingCode s = 0 → ∀ a ∈ timingRegs,
    (judgeTiming s).fld ⟨a, 0, 17⟩ = shadowOf s a % 2 ^ 17) ∧
  (∀ s : State, s.flag F.CYC_CTRL_COMMIT = true → timingCode s ≠ 0 →
    (∀ a ∈ timingRegs, (judgeTiming s).reg a = s.reg a) ∧ (judgeTiming s).flag F.CYC_STATUS_CFG_ERR = true ∧
    (judgeTiming s).fld F.CYC_STATUS_CFG_ERR_CODE = timingCode s) ∧
  (∀ s : State, s.flag F.CYC_CTRL_COMMIT = true → (judgeTiming s).flag F.CYC_CTRL_COMMIT = false ∧
    (judgeTiming s).flag F.CYC_STATUS_CFG_PEND = false ∧ (judgeTiming s).cyc.shadow = [] ∧ timingCode s ≤ 7) ∧
  ∀ s : State, s.cycEn = true → s.cycHalted = false → s.saving = false →
    exec .boundaryLatch s = .next (boundary s) ∧ (boundary s).cyc.house = false) ∧
  ((∀ s : State, s.accepts R.CYC_CTRL = true → s.cycEn = false → ∃ t, exec .cycleEnable s = .next t ∧ t.cycEn = true ∧ t.cyc.firstDue = true ∧
    t.reg R.CYC_CYCNUM = s.reg R.CYC_CYCNUM ∧ t.mem = s.mem ∧ t.slots = s.slots) ∧
  (∀ s : State, s.accepts R.CYC_CTRL = true → ∃ t, exec .cycleDisable s = .next t ∧ t.cycEn = false ∧ t.cyc.firstDue = false ∧
    t.cyc.inCycle = s.cyc.inCycle ∧ t.reg R.CYC_CYCNUM = s.reg R.CYC_CYCNUM) ∧
  (∀ s : State, s.cycEn = true → s.cyc.firstDue = true → s.cycHalted = false →
    exec .firstSoc s = .next (openSoc (endCycle s) (s.reg R.CYC_CYCNUM).toNat true)) ∧
  (∀ s : State, s.cycEn = true → s.cyc.firstDue = false → s.cyc.inCycle = true → s.cycHalted = false → s.cyc.skip = 0 →
    exec .soc s = .next (openSoc s (((s.reg R.CYC_CYCNUM).toNat + 1) % 2 ^ 32) false)) ∧
  (∀ s : State, s.cycEn = false ∨ s.cyc.firstDue = true → s.cyc.inCycle = true → s.cycHalted = false →
    ∃ t, exec .soc s = .next t ∧ t.cyc.inCycle = false ∧ t.flag F.CYC_STATUS_RUNNING = false ∧ t.mem = s.mem ∧ t.slots = s.slots ∧
      t.dpr = s.dpr) ∧
  ∀ (s : State) (n : Nat) (f : Bool), n < 2 ^ 32 → s.tb < 2 ^ 64 →
    (cycAtSoc s n f).reg R.CYC_CYCNUM = word n ∧ (cycAtSoc s n f).flag F.CYC_STATUS_RUNNING = !s.standby ∧
    ((cycAtSoc s n f).reg R.CYC_SOC_TB_HI).toNat * 2 ^ 32 + ((cycAtSoc s n f).reg R.CYC_SOC_TB_LO).toNat = s.tb ∧
    (cycAtSoc s n f).cyc.first = f ∧ (cycAtSoc s n f).cyc.inCycle = true ∧ (cycAtSoc s n f).cyc.socCount = s.cyc.socCount + 1)

/-- The events of a cycle (R47, R53, R61 to R65, R68, R187, R221): the sample mark leaves every link that sends blocks, with the CYCLE
and the flags of the block that opened the cycle, MARK and SAMPLE set, and its offset; dispatch start opens the queues and releases what
cannot come; at the cutoff every waiting IN-frame dependency is released; the OUT deadline closes the compute window, in SERVICE with
no block dispatched before it; the snapshot copy ends; the apply instant begins housekeeping. -/
def Obligations.CycleEvents : Prop :=
  (∀ (s : State) (b : KBlock), s.cyc.block = some b → s.cycling = true → s.standby = false → s.fld F.CYC_SAMPLE_OFS_US ≠ 0 →
    ∃ t m, exec .sampleMark s = .next t ∧ t.cyc.block = some m ∧ m.cycle = b.cycle ∧ m.flags = b.flags ||| 6 ∧
      m.ofs = BitVec.ofNat 24 (s.fld F.CYC_SAMPLE_OFS_US * 100) ∧ blockOk m = true ∧
      (∀ l, l < 24 → sendsBlocks s l = true → (t.lnk l).soc = some m) ∧ (∀ l, sendsBlocks s l = false → t.lnk l = s.lnk l) ∧
      t.regs = s.regs ∧ t.slots = s.slots ∧ t.mem = s.mem) ∧
  (∀ s : State, s.cyc.block = none ∨ s.fld F.CYC_SAMPLE_OFS_US = 0 ∨ s.standby = true → exec .sampleMark s = .next s) ∧
  (∀ s : State, s.cycling = true → s.cyc.deadline = false → s.standby = false → s.saving = false → s.dpr.open' = false →
    exec .dispatchStart s = .next (spanBegins (openQueues (releaseDeps (limFlush s) s.cyc.outAtSoc))) ∧
    ∀ u : State, (openQueues u).dpr.open' = true ∧ (openQueues u).mem = u.mem ∧ (openQueues u).slots = u.slots) ∧
  (∀ (s : State) (c : Fin 4), s.service = true → exec (.dispatch c) s = .next s ∧ exec .steal s = .next s) ∧
  (∀ s : State, s.cycling = true → s.cyc.cutoff = false → s.standby = false → s.saving = false →
    exec .inputCutoff s = .next (spanBegins (cutoffLinks { s with cyc := { s.cyc with cutoff := true } }))) ∧
  (∀ s : State, s.cycling = true → s.cyc.cutoff = false → s.standby = false → s.saving = true →
    exec .inputCutoff s = .next (spanBegins { s with cyc := { s.cyc with cutoff := true } })) ∧
  (∀ s : State, s.cycling = true → s.cyc.cutoff = false → s.standby = true →
    exec .inputCutoff s = .next { s with cyc := { s.cyc with cutoff := true } }) ∧
  (∀ s : State, s.cycling = true → s.cyc.deadline = false → s.standby = false → exec .outDeadline s = .next (closeCycle s)) ∧
  (∀ s : State, s.cycling = true → s.cyc.deadline = false → s.standby = true →
    exec .outDeadline s = .next { s with cyc := { s.cyc with deadline := true } }) ∧
  (∀ s : State, (closeCompute s).dpr.open' = false ∧
    ∀ e ∈ (closeCompute s).dpr.runs, e.2.state ≠ .ready ∧ e.2.state ≠ .overflow) ∧
  (∀ s : State, s.flag F.DPR_SNAP_STATUS_BUSY = true → s.dpr.snapLate = false → s.twl.setDue = false →
    ∃ t, exec .snapshotCopyEnd s = .next t ∧ t = snapEnd s ∧ t.dpr.snapDone = true ∧ t.dpr.snapAll = false) ∧
  (∀ s : State, s.cycling = true → s.cyc.deadline = true → s.cyc.house = false →
    exec .applyInstant s = .next (
      let s1 := { s with cyc := { s.cyc with house := true }, agm := { s.agm with probed := [] } }
      if s.saving then s1 else setAtApply (trendsAtApply (readsAtApply s1))))

/-- Synchronisation and the requests of the Cycle Timer (R74, R76, R79): the lock follows the measured error, a lost reference clears it,
a mode request waits for the boundary, the clear command clears every counter of the block, a read of the low SOC time latches the high. -/
def Obligations.CycleRequests : Prop :=
  (∀ (s : State) (e : Word), hasReference s = true → s.cyc.inCycle = true → ∃ t, exec (.referenceEdge e) s = .next t ∧
    t.reg R.CYC_SYNC_ERR = e ∧ (t.flag F.CYC_STATUS_SYNC_LOCK = true ↔ -10 ≤ e.toInt ∧ e.toInt ≤ 10) ∧ t.cyc = s.cyc ∧ t.mem = s.mem) ∧
  (∀ s : State, hasReference s = true → s.cyc.inCycle = true → ∃ t, exec .referenceLoss s = .next t ∧
    t.flag F.CYC_STATUS_SYNC_LOCK = false ∧ t.cyc = s.cyc ∧ t.mem = s.mem) ∧
  (∀ (m : Fin 4) (p : Fin 64) (g : BitVec 16) (s : State), s.accepts R.CYC_MODE_REQ = true → ∃ t, exec (.cycModeReq m p g) s = .next t ∧
    t.cyc.modeReqs = s.cyc.modeReqs ++ [⟨m.val, p.val, g.toNat, .regs⟩] ∧ t.regs = s.regs) ∧
  (∀ s : State, s.accepts R.CYC_CNT_CLR = true → ∃ t, exec .cycCntClr s = .next t ∧ t.reg R.CYC_MISS_TOTAL = 0 ∧ t.reg R.CYC_LSE_INVAL = 0 ∧
    t.reg R.CYC_SPLIT_CNT = 0 ∧ t.dpr.pmiss = [] ∧ t.reg R.CYC_CYCNUM = s.reg R.CYC_CYCNUM ∧ t.reg R.CYC_CTRL = s.reg R.CYC_CTRL) ∧
  (∀ s : State, s.accepts R.CYC_SOC_TB_LO = true → ∃ t, exec .cycSocTbLoRead s = .next t ∧ t.readData = s.reg R.CYC_SOC_TB_LO ∧
    cycRead t R.CYC_SOC_TB_HI = some (s.reg R.CYC_SOC_TB_HI) ∧ t.regs = s.regs)

/-- Commit groups (R61, R62): what resolved in the cycle stays; a commit puts the members' new values into the slots of the group
that are not gated, a hold leaves every value as it was; a group of a partition in TRACK never commits (R70). -/
def Obligations.CommitGroups : Prop :=
  (∀ (s : State) (g : Nat), has s.dpr.resolved g = true → groupCheck s g = s ∧ closeGroup s g = s) ∧
  (∀ (s : State) (g : Nat), s.track (s.thePlan.group g).owner = true → groupCheck s g = s) ∧
  (∀ (s : State) (l : List Nat) (n : Nat), ((eachNat slotHold s l).slot n).value = (s.slot n).value) ∧
  (∀ (s : State) (n : Nat) (v : Word), ((slotCommit s n v).slot n).value = v ∧ ((slotCommit s n v).slot n).fresh = some s.cyc.socCount ∧
    ∀ m, m ≠ n → (slotCommit s n v).slot m = s.slot m) ∧
  ∀ (s : State) (n : Nat), ((slotSafe s n).slot n).value = s.thePlan.safeValue n ∧ ∀ m, m ≠ n → (slotSafe s n).slot m = s.slot m

/-! ### The dispatcher (chapter 05) -/

/-- Dispatch order and dispatch (R90, R148, R150, R153): the head of a queue has the least key; a dispatched block runs on its engine with
the registers that a dispatch sets; a steal does the same for the thief. -/
def Obligations.DispatchAndSteal : Prop :=
  (∀ (s : State) (l : List Nat) (i : Nat), leastKey s l = some i → i ∈ l ∧ ∀ j ∈ l, keyLt (dispatchKey s j) (dispatchKey s i) = false) ∧
  (∀ (c : Fin 4) (s : State) (n i : Nat), s.dbgHalted = false → s.dpr.open' = true → s.service = false →
    firstTaker s (offerOrder s c.val) = some (n, i) → exec (.dispatch c) s = .next (dispatchTo s n i)) ∧
  (∀ (s : State) (c n i : Nat), s.dbgHalted = false → s.dpr.open' = true → s.service = false → s.dpr.stealIn = true →
    nextThief s s.dpr.stealPtr 4 = some (c, n) →
    stealTarget { s with dpr := { s.dpr with stealPtr := (c + 1) % 4 } } c = some i →
    exec .steal s = .next ((dispatchTo { s with dpr := { s.dpr with stealPtr := (c + 1) % 4 } } n i).countReg R.DPR_STEAL_CNT)) ∧
  ∀ (s : State) (n i : Nat),
    ((dispatchTo s n i).le n).r = dispatchRegs s (s.le n).r (s.block i) (s.gen i) ∧ ((dispatchTo s n i).le n).k.state = .task ∧
    ((dispatchTo s n i).le n).k.ev = some ⟨i, s.gen i, (s.block i).part, 2 * (s.block i).cost, (s.block i).bg, false, false⟩ ∧
    ((s.queue (s.block i).home).length < 1024 → ((dispatchTo s n i).run i).state = .running n) ∧
    (dispatchTo s n i).mem = s.mem ∧ (dispatchTo s n i).slots = s.slots

/-- Ends of evaluations (R56, R89, R92, R156, R160, R165, R166): a report is recorded and the engine is IDLE; an engine at its dispatch
budget is retired with cause 1, or reset into quarantine where its block was suspect before; firmware retires with cause 5; a failed
block stays failed with its cause. -/
def Obligations.EvaluationsEnd : Prop :=
  (∀ (n : Fin 64) (s : State) (v : Eval), (s.le n.val).k.state = .drain → (s.le n.val).k.buf = [] → s.dbgHalted = false →
    (s.le n.val).k.init = false → (s.le n.val).k.ev = some v →
    exec (.engineReport n) s = .next (limFlush (
      let c := s.le n.val
      let s1 := updLe s n.val (fun c => { r := { c.r with lsePend := false }, k := { c.k with state := .idle, init := false, ev := none } })
      let s2 := recordReport s1 v (reportCode c.r)
      trcEmit s2 (n.val / 16) (pktReport s2 n.val v.blk ((reportCode c.r).getD 0x0A) (c.r.ecnt % 65536))))) ∧
  (∀ s : State, s.dpr.limQueue = [] → limFlush s = s) ∧
  (∀ (s : State) (v : Eval), v.bg = false → v.late = false →
    recordReport s v none = failBlock (s.countReg R.CYC_LSE_INVAL) v.blk 4 0x0A ∧
    (v.lse = false → recordReport s v (some 0) = blockGood s v.blk ∧
      ∀ k, k ≠ 0 → k ≠ 0x0A → recordReport s v (some k) = failBlock s v.blk 1 k) ∧
    (v.lse = true → recordReport s v (some 0) = failBlock (s.countReg R.CYC_LSE_INVAL) v.blk 4 0x0A)) ∧
  (∀ (s : State) (i c r : Nat), ((failBlock s i c r).run i).state = .failed c r) ∧
  (∀ (n : Fin 64) (s : State) (v : Eval), (s.le n.val).k.ev = some v → v.budget ≤ (s.le n.val).r.ecnt ∨ (s.le n.val).k.idles = true →
    (s.le n.val).k.state = .task ∨ (s.le n.val).k.state = .kernel ∨ (s.le n.val).k.state = .drain →
    (has s.dpr.suspect v.blk = false → exec (.budgetOverrun n) s = .next (limFlush (retireEngine
      { s.countReg R.DPR_OVERRUN_CNT with dpr := { s.dpr with suspect := addTo s.dpr.suspect v.blk } } n.val 1))) ∧
    (has s.dpr.suspect v.blk = true → s.flag F.DPR_CTRL_QUAR_EN = true →
      exec (.budgetOverrun n) s = .next (limFlush (quarantineReset (s.countReg R.DPR_OVERRUN_CNT) n.val v)))) ∧
  (∀ (n : Nat) (s : State) (k : Nat), (s.le n).k.state ≠ .retired → (s.le n).k.state ≠ .off →
    ((retireEngine s n k).le n).k.state = .retired ∧ ((retireEngine s n k).le n).k.ev = none ∧
    (retireEngine s n k).reg R.DPR_LAST_RETIRE = word (2 ^ 31 + (match (s.le n).k.ev with | some v => v.blk | none => 0) * 2 ^ 16 +
      (if (s.le n).k.ev = none then 2 ^ 15 else 0) + k * 256 + n)) ∧
  (∀ (n : Fin 64) (s : State), s.accepts R.DPR_RETIRE = true → (s.le n.val).k.state ≠ .retired → (s.le n.val).k.state ≠ .off →
    (s.le n.val).k.ev = none → ∃ t, exec (.dprRetire n) s = .next t ∧ (t.le n.val).k.state = .retired ∧ (t.le n.val).k.buf = [] ∧
      t.reg R.DPR_LAST_RETIRE = word (2 ^ 31 + 2 ^ 15 + 5 * 256 + n.val) ∧ ∀ m, m ≠ n.val → t.le m = s.le m) ∧
  ∀ (n : Fin 64) (s : State), (s.le n.val).k.state = .idle → ∃ t, exec (.engineClockGate n) s = .next t ∧
    (t.le n.val).k = { (s.le n.val).k with gated := true } ∧ (t.le n.val).r = (s.le n.val).r ∧ ∀ m, m ≠ n.val → t.le m = s.le m

/-- The dispatcher's register commands (R114, R165, R171): a quarantine release takes effect at once while EN is 0 and waits for the
boundary otherwise; the counters, the engine's counters and the CSM error registers clear. -/
def Obligations.DispatcherCommands : Prop :=
  (∀ (b : BitVec 15) (s : State), s.accepts R.DPR_QUAR_REL = true → s.cycEn = false → ∃ t, exec (.dprQuarRel false b) s = .next t ∧
    t.dpr.quarantine = s.dpr.quarantine.filter (fun i => decide (i ≠ b.toNat)) ∧ t.mem = s.mem) ∧
  (∀ s : State, s.accepts R.DPR_QUAR_REL = true → s.cycEn = false → ∃ t, exec (.dprQuarRel true 0) s = .next t ∧ t.dpr.quarantine = []) ∧
  (∀ (b : BitVec 15) (s : State), s.accepts R.DPR_QUAR_REL = true → s.cycEn = true → ∃ t, exec (.dprQuarRel false b) s = .next t ∧
    t.dpr.quarRel = addTo s.dpr.quarRel b.toNat ∧ t.dpr.quarantine = s.dpr.quarantine) ∧
  (∀ s : State, s.accepts R.DPR_CNT_CLR = true → ∃ t, exec .dprCntClr s = .next t ∧ t.reg R.DPR_DISP_CNT = 0 ∧ t.reg R.DPR_STEAL_CNT = 0 ∧
    t.reg R.DPR_RETIRE_CNT = 0 ∧ t.reg R.DPR_STALE_DROP = 0 ∧ t.fld (F.DPR_QSTAT_HWM 0) = 0 ∧ t.fld (F.DPR_QSTAT_HWM 3) = 0 ∧
    t.reg R.DPR_CTRL = s.reg R.DPR_CTRL ∧ t.dpr = s.dpr) ∧
  (∀ (n : Fin 64) (k : Fin 16) (s : State), s.accepts R.DPR_LEWIN_SEL = true → ∃ t, exec (.dprLewinClr n k) s = .next t ∧
    (t.le n.val).k.brCount = 0 ∧ (t.le n.val).k.brMiss = 0 ∧ t.fld F.DPR_LEWIN_SEL_LE = n.val ∧ t.fld F.DPR_LEWIN_SEL_REG = k.val ∧
    (t.le n.val).r = (s.le n.val).r) ∧
  ∀ (m : BitVec 4) (c : Fin 4) (s : State), s.accepts R.DPR_CSM_ECC_CLR = true → ∃ t, exec (.dprCsmEccClr m) s = .next t ∧
    (m.toNat.testBit c.val = true → t.reg (R.DPR_CSM_ECC c.val) = 0 ∧ t.reg (R.DPR_CSM_UEADDR c.val) = 0) ∧
    (m.toNat.testBit c.val = false → t.reg (R.DPR_CSM_ECC c.val) = s.reg (R.DPR_CSM_ECC c.val))

/-! ### Plans (chapter 06) and the configuration (chapter 11) -/

/-- Plan commands (R197 to R205): a load begins where none is in progress, else RESULT is BUSY; it ends with PLAN_LOAD_END, and a refused
image leaves the plan in force, the shadows and memory as they were; COMMIT makes every shadow PENDING while the cycle runs; ABORT
discards every shadow. -/
def Obligations.PlanCommands : Prop :=
  (∀ s : State, s.accepts R.DPR_PLAN_CTRL = true → s.loading = none → ∃ t, exec .dprPlanLoad s = .next t ∧
    t.loading = some ⟨(s.reg R.DPR_PLAN_SRC).toNat, 0, 0, .regs⟩ ∧ t.plan = s.plan ∧ t.shadows = s.shadows ∧ t.mem = s.mem) ∧
  (∀ s : State, s.accepts R.DPR_PLAN_CTRL = true → s.loading.isSome = true → ∃ t, exec .dprPlanLoad s = .next t ∧
    t.fld F.DPR_PLAN_STATUS_RESULT = St.busy ∧ t.loading = s.loading ∧ t.plan = s.plan ∧ t.mem = s.mem) ∧
  (∀ (d : HostData) (s : State) (ld : Loading), s.loading = some ld →
    (ld.path = .regs → exec (.planLoadEnd d) s = .next (regLoad s ld d)) ∧
    (∀ n, ld.path = .host n → exec (.planLoadEnd d) s = .next (hostLoad s ld d))) ∧
  (∀ (s : State) (ld : Loading) (m : Img) (n : Nat) (e : LoadErr), ld.path = .regs → checkImage { s with loading := none } ld m n = some e →
    (endLoad s ld m n).plan = s.plan ∧ (endLoad s ld m n).shadows = s.shadows ∧ (endLoad s ld m n).mem = s.mem ∧
    (endLoad s ld m n).loading = none ∧ (endLoad s ld m n).fld F.DPR_PLAN_STATUS_RESULT = e.status % 256 ∧
    (endLoad s ld m n).flag F.DPR_PLAN_STATUS_DONE = true) ∧
  (∀ s : State, s.accepts R.DPR_PLAN_CTRL = true → s.cycEn = true → ∃ t, exec .dprPlanCommit s = .next t ∧ t.plan = s.plan ∧
    (∀ x ∈ t.shadows, x.commit.isSome = true) ∧ t.shadows.map (fun x => x.plan) = s.shadows.map (fun x => x.plan) ∧ t.mem = s.mem) ∧
  (∀ s : State, s.accepts R.DPR_PLAN_CTRL = true → ∃ t, exec .dprPlanAbort s = .next t ∧ t.shadows = [] ∧ t.plan = s.plan ∧
    t.loading = s.loading ∧ t.mem = s.mem) ∧
  ∀ (n : Nat) (c : HostCmd) (s : State),
    (hostRuns s n 0x10 c → reaches s R.DPR_PLAN_CTRL →
      exec (.planLoad n) s = .next (startLoad (markStarted s n) ⟨c.addr, c.len, c.part, .host n⟩)) ∧
    (hostRuns s n 0x11 c → reaches s R.DPR_PLAN_CTRL → exec (.planCommit n) s = .next (requestCommit (markStarted s n) (.host n))) ∧
    (hostRuns s n 0x12 c → reaches s R.DPR_PLAN_CTRL →
      exec (.planAbort n) s = .next (endCmd (abortShadows (markStarted s n)) c St.ok)) ∧
    ∀ k, s.wrapped R.DPR_PLAN_CTRL = false → asleep s R.DPR_PLAN_CTRL = some k → domLocked s k = false → hostRuns s n 0x10 c →
      ∃ t, exec (.planLoad n) s = .next t ∧ t.held = s.held ++ [.host c.serial R.DPR_PLAN_CTRL noData] ∧ t.loading = s.loading

/-- The configuration loader (R337 to R340): SELECT while the cycle runs is MODE_REFUSED and changes nothing in force; with two invalid
copies it is CHECK_FAIL and no configuration is in force; the valid copy alone, or the one of higher SEQ, comes into force; a COMMIT
while a copy is PENDING is BUSY; an ABORT discards the PENDING copy. -/
def Obligations.ConfigurationLoader : Prop :=
  (∀ s : State, s.accepts R.CYC_CFG_CTRL = true → s.cycEn = true → ∃ t, exec .select s = .next t ∧
    t.fld F.CYC_CFG_STATUS_RESULT = St.modeRefused ∧ t.flag F.CYC_CFG_STATUS_DONE = true ∧ t.cfg = s.cfg ∧ t.mem = s.mem) ∧
  (∀ s : State, s.accepts R.CYC_CFG_CTRL = true → s.cycEn = false → s.cfg.by' = none → storeOk s = true →
    copyValid (copyImg s 0) 0 = false → copyValid (copyImg s 1) 1 = false → ∃ t, exec .select s = .next t ∧
    t.fld F.CYC_CFG_STATUS_RESULT = St.checkFail ∧ t.fld F.CYC_CFG_STATUS_STATE = 0 ∧ t.cfg.half = none ∧ t.cfg.user = [] ∧ t.mem = s.mem) ∧
  (∀ s : State, s.accepts R.CYC_CFG_CTRL = true → s.cfg.pend.isSome = true → ∃ t, exec .cfgCommit s = .next t ∧
    t.fld F.CYC_CFG_STATUS_RESULT = St.busy ∧ t.flag F.CYC_CFG_STATUS_DONE = true ∧ t.cfg = s.cfg ∧ t.mem = s.mem) ∧
  (∀ s : State, s.accepts R.CYC_CFG_CTRL = true → s.cfg.pend.isSome = true → s.cfg.by' = none → ∃ t, exec .cfgAbort s = .next t ∧
    t.cfg = { s.cfg with pend := none } ∧ t.flag F.CYC_CFG_STATUS_DONE = true ∧ t.mem = s.mem) ∧
  (∀ s : State, s.accepts R.CYC_CFG_CTRL = true → exec .select s = .next (cfgSelect s) ∧ exec .cfgCommit s = .next (cfgCommit s)) ∧
  ∀ (n : Nat) (c : HostCmd) (d : HostData) (s : State),
    (fwRuns s n 0x32 c → c.len = 16 → exec (.cfgStatus n) s = .next (answerHost (markStarted s n) c c.addr
      (wordBytes [s.reg R.CYC_CFG_STATUS, s.reg R.CYC_CFG_SEQ, s.reg R.CYC_CFG_SKIP, s.reg R.AGM_CAL_STATUS]) {})) ∧
    (fwRuns s n 0x33 c → exec (.cfgRead n) s = .next (cfgReadCmd c (markStarted s n))) ∧
    (fwRuns s n 0x34 c → exec (.cfgWrite n d) s = .next (cfgWriteCmd d c (markStarted s n))) ∧
    (fwRuns s n 0x35 c → exec (.costumeWrite n d) s = .next (costumeCmd d c (markStarted s n))) ∧
    (fwRuns s n 0x36 c → exec (.ucalWrite n d) s = .next (ucalCmd d c (markStarted s n))) ∧
    (fwRuns s n 0x37 c → 1 ≤ c.a1 → c.a0 + c.a1 ≤ 256 → c.len = 12 * c.a1 → exec (.calRead n) s = .next (answerHost (markStarted s n) c
      c.addr ((List.range c.a1).map (fun k => calBytes (markStarted s n) (c.a0 + k))).flatten {})) ∧
    (fwRuns s n 0x33 c → s.cfg.half = none → c.len ≤ 4096 → exec (.cfgRead n) s = .next (endCmd (markStarted s n) c St.noSpace)) ∧
    (fwRuns s n 0x34 c → 0x248 ≤ c.len → c.len ≤ 131072 → cfgBusy s = true → exec (.cfgWrite n d) s = .next (endCmd (markStarted s n) c St.busy)) ∧
    (fwRuns s n 0x35 c → c.a0 ≤ 128 → c.len ≤ 65536 → ownsCostume c.part c.a0 = false →
      exec (.costumeWrite n d) s = .next (endCmd (markStarted s n) c St.notOwner))

/-! ### The host interface (chapter 09) -/

/-- Doorbells, rings and windows (R289, R292, R293): a doorbell of an enabled ring sets the host's index, another is counted, and each
raises source 16; a ring is enabled with its indices 0 and phase 1 where every condition holds, else the error is recorded; a window
becomes valid only at an aligned base, and a clear of VALID waits for its transfers. -/
def Obligations.RingsAndWindows : Prop :=
  (∀ (p : Fin 64) (v : Word) (s : State), hifUp s = true →
    (v.toNat % 16 < 6 → ringAct s p.val (v.toNat % 16) = true → v.toNat / 65536 < ringSize s p.val (v.toNat % 16) →
      ∃ u, exec (.doorbell p v) s = .next (settle u) ∧ (u.ring p.val (v.toNat % 16)).hostIdx = v.toNat / 65536 ∧
        (u.ring p.val (v.toNat % 16)).phase = (s.ring p.val (v.toNat % 16)).phase ∧ u.hif.cmds = s.hif.cmds ∧ u.mem = s.mem) ∧
    (6 ≤ v.toNat % 16 ∨ ringAct s p.val (v.toNat % 16) = false ∨ ringSize s p.val (v.toNat % 16) ≤ v.toNat / 65536 →
      exec (.doorbell p v) s = .next ((aonEvent s 16).countReg R.HIF_BADACC))) ∧
  (∀ s : State, s.hif.cmds = [] → settle s = s) ∧
  (∀ (p : Fin 64) (k : Fin 6) (s : State), hifUp s = true → s.flag F.HIF_CTRL_READY = true → ringAct s p.val k.val = false →
    4 ≤ s.fld (F.HIF_RSIZE_LOG2 p.val k.val) → s.fld (F.HIF_RSIZE_LOG2 p.val k.val) ≤ 12 → (k.val < 4 → ringAct s p.val 4 = true) →
    winOk s p.val (decide (4 ≤ k.val)) (ringBase s p.val k.val) (ringSize s p.val k.val * entryBytes k.val) = true →
    ∃ t, exec (.ringEnable p k) s = .next t ∧ ringAct t p.val k.val = true ∧ t.fld (F.HIF_RIDX_IDX p.val k.val) = 0 ∧
      t.ring p.val k.val = { hostIdx := 0, phase := true } ∧ t.mem = s.mem) ∧
  (∀ (p : Fin 64) (k : Fin 6) (s : State), hifUp s = true → s.flag F.HIF_CTRL_READY = false → ringAct s p.val k.val = false →
    s.flag F.HIF_RING_ERR_VALID = false → ∃ t, exec (.ringEnable p k) s = .next t ∧ ringAct t p.val k.val = false ∧
      t.fld F.HIF_RING_ERR_STATUS = St.badDescriptor ∧ t.flag F.HIF_RING_ERR_VALID = true) ∧
  (∀ (p : Fin 64) (k : Fin 6) (s : State), hifUp s = true → (k.val = 4 → ringAct s p.val 4 = false ∨
      s.fld (F.HIF_RCTRL_ACT p.val) % 16 = 0 ∧ s.fld (F.HIF_PSTAT_INFLIGHT p.val) = 0) →
    ∃ u, exec (.ringDisable p k) s = .next (settle u) ∧ ringAct u p.val k.val = false ∧
      (∀ j, j < 6 → j ≠ k.val → ringAct u p.val j = ringAct s p.val j) ∧ u.hif = s.hif ∧ u.mem = s.mem) ∧
  (∀ (p : Fin 64) (s : State), hifUp s = true → ringAct s p.val 4 = true →
    s.fld (F.HIF_RCTRL_ACT p.val) % 16 ≠ 0 ∨ s.fld (F.HIF_PSTAT_INFLIGHT p.val) ≠ 0 → s.flag F.HIF_RING_ERR_VALID = false →
    ∃ t, exec (.ringDisable p 4) s = .next t ∧ ringAct t p.val 4 = true ∧ t.fld F.HIF_RING_ERR_STATUS = St.busy ∧
      t.flag F.HIF_RING_ERR_VALID = true) ∧
  (∀ (p : Fin 64) (w : Fin 16) (v : Word) (s : State), hifUp s = true → s.flag (F.HIF_WCTRL_VALID p.val w.val) = false →
    ∃ t, exec (.windowValid p w v) s = .next t ∧
      (t.flag (F.HIF_WCTRL_VALID p.val w.val) = true ↔
        v.toNat.testBit 31 = true ∧ 12 ≤ v.toNat % 32 ∧ v.toNat % 32 ≤ 24 ∧ winBase s p.val w.val % 2 ^ (v.toNat % 32) = 0) ∧ t.hif = s.hif) ∧
  (∀ (p : Fin 64) (w : Fin 16) (v : Word) (s : State), hifUp s = true → s.flag (F.HIF_WCTRL_VALID p.val w.val) = true →
    v.toNat.testBit 31 = false →
    (ringInside s p.val w.val = true → exec (.windowValid p w v) s = .next s) ∧
    (ringInside s p.val w.val = false → ∃ t, exec (.windowValid p w v) s = .next t ∧ t.flag (F.HIF_WCTRL_BUSY p.val w.val) = true ∧
      winSize t p.val w.val = 0)) ∧
  ∀ (p : Fin 64) (w : Fin 16) (s : State), has s.hif.clearing (16 * p.val + w.val) = true → transferIn s p.val w.val = false →
    ∃ t, exec (.windowClearEnd p w) s = .next t ∧ t.flag (F.HIF_WCTRL_VALID p.val w.val) = false ∧
      t.flag (F.HIF_WCTRL_BUSY p.val w.val) = false ∧ t.hif.clearing = dropFrom s.hif.clearing (16 * p.val + w.val)

/-- The ring engine (R294 to R298, R300, R304): one descriptor is fetched from the next ring; the oldest event of a partition goes to its
ring; a message leaves, or pends while masked and leaves at the unmask; firmware takes the oldest record and completes it; a time-out
completes it instead; a part is staged by its unit; the counters clear. A completion (R294, R295): the command is no longer in
progress, and its 16-byte entry is written at the producer's place of the completion ring, with the current phase; while the ring has no
room, or an event that the command causes is not yet delivered, the completion waits. -/
def Obligations.RingEngineAndCompletions : Prop :=
  ((∀ (l : List Byte) (s : State) (p k : Nat), ringRuns s = true → nextFetch s = some (p, k) →
    exec (.descriptorFetch (.bytes l)) s = .next (takeCmd ((turnOn s p k).setFld (F.HIF_RIDX_IDX p k)
      ((s.fld (F.HIF_RIDX_IDX p k) + 1) % ringSize s p k)) p k (descOf l))) ∧
  (∀ (p : Fin 64) (s : State) (e : EvRec), ringRuns s = true → s.saving = false → s.pfstop = false →
    s.flag F.SPM_BOOT_STAT_RAGDOLL = false → ringRoom s p.val 5 = true → s.hif.evts.find? (fun e => decide (e.part = p.val)) = some e →
    exec (.eventDelivery p) s = .next (settle (eachNat postOverflow (vecEntry (ringPut
      { s with hif := { s.hif with evts := s.hif.evts.erase e } } p.val 5 (evBytes e) 0) (2 * p.val + 1) e.urgent) everyPart)) ∧
    (ringPut { s with hif := { s.hif with evts := s.hif.evts.erase e } } p.val 5 (evBytes e) 0).hif.out = s.hif.out ++
      [.write (ringBase s p.val 5 + 32 * s.fld (F.HIF_RIDX_IDX p.val 5))
        (evBytes e ++ [if (s.ring p.val 5).phase then 1 else 0])]) ∧
  (∀ (v : Fin 128) (s : State), hifUp s = true → (s.vec v.val).timer = true → s.fld ⟨modReg v.val, 8, 10⟩ ≠ 0 →
    ∃ t, exec (.msixMessage v) s = .next t ∧ (t.vec v.val).n = 0 ∧ (t.vec v.val).timer = false ∧
    ((s.vec v.val).masked = false → s.hif.funcMask = false → s.hif.d3 = false →
      t.hif.out = s.hif.out ++ [.msg v.val (s.vec v.val).addr (s.vec v.val).data]) ∧
    ((s.vec v.val).masked = true → t.hif.out = s.hif.out ∧ (t.vec v.val).pba = true)) ∧
  (∀ (v : Fin 130) (s : State), hifUp s = true → (s.vec v.val).pba = true → s.hif.funcMask = false → s.hif.d3 = false →
    ∃ t, exec (.msixUnmask (some v) false) s = .next t ∧
      t.hif.out = s.hif.out ++ [.msg v.val (s.vec v.val).addr (s.vec v.val).data] ∧ (t.vec v.val).pba = false) ∧
  (∀ (s : State) (e : Nat × Nat) (l : List (Nat × Nat)), s.accepts R.HIF_FWQ_POP = true → s.hif.fwq = e :: l → ∃ t, exec .hifFwqPop s = .next t ∧
    t.readData = word (fwBase s + 64 * e.1) ∧ t.hif.fwq = l ∧ t.hif.fwOpen = s.hif.fwOpen ++ [e]) ∧
  (∀ (a : Word) (s : State) (e : Nat × Nat), s.accepts R.HIF_FW_CPL = true →
    (s.hif.fwOpen ++ s.hif.fwq).find? (fun e => decide (fwBase s + 64 * e.1 = a.toNat)) = some e → (findCmd s e.2).isSome = true →
    exec (.hifFwCpl a) s = .next (hostComplete (fwFreeRec s e.1) e.2 (fwCpl s a.toNat))) ∧
  (∀ (n : Nat) (s : State) (c : HostCmd), findCmd s n = some c → opFirmware c.desc.op.toNat = true →
    exec (.fwCommandTimeout n) s = .next (devEvt (hostComplete (orphanRecord s n) n { status := St.timeout }) 1)) ∧
  (∀ (v : Word) (s : State), s.accepts R.HIF_HOST_MSG = true → ∃ t, exec (.hifHostMsg v) s = .next t ∧ t.reg R.HIF_FW_MSG = v ∧
    ((s.vec 129).masked = false → s.hif.funcMask = false → s.hif.d3 = false →
      t.hif.out = s.hif.out ++ [.msg 129 (s.vec 129).addr (s.vec 129).data])) ∧
  (∀ (k : Fin 4) (s : State), s.accepts (R.HIF_BADACC + 4 * k.val) = true → ∃ t, exec (.hifCounterClear k) s = .next t ∧ t.reg (R.HIF_BADACC + 4 * k.val) = 0 ∧
    ∀ a, a ≠ R.HIF_BADACC + 4 * k.val → t.reg a = s.reg a) ∧
  ∀ (n : Nat) (k : Fin 32) (d : HostData) (s : State) (r : HReq),
    s.hif.reqs.find? (fun r => decide (r.serial = n ∧ r.kind = .write)) = some r → exec (.partStaged n k d) s = .next (stagePart s r k.val d)) ∧
  (∀ (s : State) (n : Nat) (x : Cpl) (c : HostCmd), findCmd s n = some c → cplOpen s c → completed s (hostComplete s n x) c x) ∧
  ∀ (s : State) (n : Nat) (x : Cpl) (c : HostCmd), findCmd s n = some c → c.mute = false →
    ringRoom s c.part 4 = false ∨ evPending s c = true →
    (finishCmd s n x).hif.out = s.hif.out ∧ ∃ d ∈ (finishCmd s n x).hif.cmds, d.serial = n ∧ d.done = some x

/-- Host commands of signals, parameters, trends and modes (R299 to R302): each with its check and its effect. Where
the completion ring has room and no event of the command's own waits, it completes with the status, and what it answers has been
written to the host. -/
def Obligations.HostSignalCommands : Prop :=
  (∀ (n : Nat) (c : HostCmd) (s : State), cplOpen s c →
    (hostRuns s n 0x00 c → ∃ t, exec (.hostNop n) s = .next t ∧ completed s t c {} ∧ t.mem = s.mem ∧ t.slots = s.slots) ∧
    (hostRuns s n 0x01 c → slotRange c = true → slotsReadable s c = true → reaches s (0x20000000 + 8 * c.a0) →
      winOk s c.part true c.addr c.len = true →
      ∃ t, exec (.sigRead n) s = .next t ∧ completed s t c {} ∧ t.slots = s.slots ∧
        .write c.addr ((List.range c.a1).map (fun k => leBytes 8 (s.slot64 (c.a0 + k)))).flatten ∈ t.hif.out ∧
        .ints c.addr ((List.range c.a1).map (fun k => (s.thePlan.bind (c.a0 + k)).int)) ∈ t.hif.out) ∧
    (∀ d, hostRuns s n 0x06 c → c.a0 = 0 → ∃ t, exec (.trendSet n d) s = .next t ∧ completed s t c {} ∧ t.trend c.part = {}) ∧
    (hostRuns s n 0x12 c → reaches s R.DPR_PLAN_CTRL → ∃ t, exec (.planAbort n) s = .next t ∧ completed s t c {} ∧ t.shadows = [] ∧ t.plan = s.plan) ∧
    (hostRuns s n 0x13 c → c.len = 16 → winOk s c.part true c.addr 16 = true → ∃ t, exec (.planStatus n) s = .next t ∧
      completed s t c { result := (planStatus s).toNat } ∧
      .write c.addr (wordBytes [s.reg R.DPR_PLAN_ID, s.reg R.DPR_PLAN_VER, word (s.thePlan.part c.part).segVer, 0]) ∈ t.hif.out) ∧
    (hostRuns s n 0x15 c → c.len = 16 → winOk s c.part true c.addr 16 = true → ∃ t, exec (.modeQuery n) s = .next t ∧
      completed s t c {} ∧
      .write c.addr (wordBytes [s.reg R.CYC_TRACK_LO, s.reg R.CYC_TRACK_HI, s.reg R.CYC_STATUS, s.reg R.CYC_CYCNUM]) ∈ t.hif.out)) ∧
  (∀ (n : Nat) (c : HostCmd) (s : State), hostRuns s n 0x14 c → c.a0 < 2 → reaches s R.CYC_MODE_REQ → ∃ t, exec (.modeSet n) s = .next t ∧
    t.cyc.modeReqs = s.cyc.modeReqs ++ [⟨c.a0, c.part, 0, .host c.serial⟩] ∧ t.regs = s.regs ∧ t.hif.out = s.hif.out) ∧
  ∀ (n : Nat) (c : HostCmd) (d : HostData) (s : State),
    (hostRuns s n 0x00 c → exec (.hostNop n) s = .next (endCmd (markStarted s n) c St.ok)) ∧
    (hostRuns s n 0x01 c → slotRange c = true → slotsReadable s c = false →
      exec (.sigRead n) s = .next (endCmd (markStarted s n) c St.notOwner)) ∧
    (hostRuns s n 0x01 c → slotRange c = true → slotsReadable s c = true →
      (reaches s (0x20000000 + 8 * c.a0) → exec (.sigRead n) s =
        .next (answerSlots (markStarted s n) c c.addr ((List.range c.a1).map (fun k => c.a0 + k)))) ∧
      (s.wrapped (0x20000000 + 8 * c.a0) = true → exec (.sigRead n) s =
        .next (unitError (markStarted s n) c (0x20000000 + 8 * c.a0) false)) ∧
      ∀ k, s.wrapped (0x20000000 + 8 * c.a0) = false → asleep s (0x20000000 + 8 * c.a0) = some k →
        (domLocked s k = false → ∃ t, exec (.sigRead n) s = .next t ∧ t.regBit R.PMU_DOM_STAT (16 + k) = true ∧
          t.held = s.held ++ [.host c.serial (0x20000000 + 8 * c.a0) noData] ∧ t.hif.out = s.hif.out) ∧
        (domLocked s k = true → has s.pmu.comingOn k = false → exec (.sigRead n) s =
          .next (unitError (markStarted s n) c (0x20000000 + 8 * c.a0) false))) ∧
    (∀ l, hostRuns s n 0x02 c → d = .bytes l → c.len % 8 = 0 → 8 ≤ c.len → c.len ≤ 8192 → winOk s c.part false c.addr c.len = true →
      ((sigEntries (padTo (l.take c.len) c.len)).all (fun e => ownInternal s c.part e.1) = false →
        exec (.sigWrite n d) s = .next (endCmd (markStarted s n) c St.notOwner)) ∧
      ((sigEntries (padTo (l.take c.len) c.len)).all (fun e => ownInternal s c.part e.1) = true →
        reaches s (0x20000000 + 8 * ((sigEntries (padTo (l.take c.len) c.len)).headD (0, 0, 0)).1) →
        exec (.sigWrite n d) s = .next (endCmd ((sigEntries (padTo (l.take c.len) c.len)).foldl
          (fun t e => t.writeInternal e.1 (some (word e.2.2)) (some e.2.1)) (markStarted s n)) c St.ok))) ∧
    (hostRuns s n 0x03 c → exec (.paramRead n d) s = .next (paramRequest false d c (markStarted s n))) ∧
    (hostRuns s n 0x04 c → exec (.paramWrite n d) s = .next (paramRequest true d c (markStarted s n))) ∧
    (∀ l, winOk s c.part false c.addr c.len = true →
      paramChecks s c (padTo (l.take c.len) c.len) = St.ok →
      ((entries (padTo (l.take c.len) c.len) 16).map (paramPart s)).all (fun q => winOk s c.part false q.host q.len) = true →
      paramRequest true (.bytes l) c s = addReq s (newReq c .write ((entries (padTo (l.take c.len) c.len) 16).map (paramPart s)))) ∧
    (hostRuns s n 0x05 c → exec (.snapshot n) s = .next (snapshotReq c (markStarted s n))) ∧
    (slotRange c = true → slotsReadable s c = true → winOk s c.part true c.addr c.len = true → c.len ≤ snapArea s → reaches s (0x20000000 + 8 * c.a0) →
      snapshotReq c s = addReq s { newReq c .slots [⟨0, 0, 0, c.len, c.addr, false, 0, []⟩] with first := c.a0, count := c.a1 }) ∧
    (hostRuns s n 0x06 c → c.a0 = 0 → exec (.trendSet n d) s = .next (endCmd ((markStarted s n).setTrend c.part {}) c St.ok)) ∧
    (hostRuns s n 0x14 c → c.a0 < 2 → reaches s R.CYC_MODE_REQ → exec (.modeSet n) s = .next (postMode (markStarted s n) ⟨c.a0, c.part, 0, .host c.serial⟩)) ∧
    (hostRuns s n 0x14 c → c.a0 < 4 → 2 ≤ c.a0 → c.part ≠ 0 →
      exec (.modeSet n) s = .next (endCmd (markStarted s n) c St.notOwner)) ∧
    (hostRuns s n 0x15 c → c.len = 16 → exec (.modeQuery n) s = .next (answerHost (markStarted s n) c c.addr
      (wordBytes [s.reg R.CYC_TRACK_LO, s.reg R.CYC_TRACK_HI, s.reg R.CYC_STATUS, s.reg R.CYC_CYCNUM]) {})) ∧
    (hostRuns s n 0x13 c → c.len = 16 → exec (.planStatus n) s = .next (answerHost (markStarted s n) c c.addr
      (wordBytes [s.reg R.DPR_PLAN_ID, s.reg R.DPR_PLAN_VER, word (s.thePlan.part c.part).segVer, 0])
      { result := (planStatus (markStarted s n)).toNat }))

/-- Host commands of links, storage, health and reset (R268 to R276, R299, R360, R363, R410, R417, R479): each
with its effect; NV_READ waits while the NVR is not ready and then answers with the bytes of the issuer's area. -/
def Obligations.HostDeviceCommands : Prop :=
  (∀ (n : Nat) (c : HostCmd) (d : HostData) (s : State),
    (hostRuns s n 0x20 c → exec (.acySubmit n d) s = .next (acySubmit d c (markStarted s n))) ∧
    (∀ x, hostRuns s n 0x21 c → c.a0 / 4 % 16384 = 0 → cancelTarget (markStarted s n) c = some x → x.started = false →
      exec (.acyCancel n) s = .next (endCmd (endCmd (markStarted s n) x St.cancelled) c St.cancelled)) ∧
    (hostRuns s n 0x22 c → exec (.stationResume n d) s = .next (stationResume d c (markStarted s n))) ∧
    (hostRuns s n 0x23 c → exec (.linkStatus n) s = .next (linkStatus c (markStarted s n))) ∧
    (hostRuns s n 0x24 c → exec (.patTest n) s = .next (patTest c (markStarted s n))) ∧
    (hostRuns s n 0x30 c → exec (.nvRead n) s = .next (nvRead c (markStarted s n))) ∧
    (hostRuns s n 0x30 c → c.a0 + c.len ≤ (nvArea s c.part).2 → reaches s (poolBase + (nvArea s c.part).1 + c.a0) → nvUp s = false →
      ∃ t, exec (.nvRead n) s = .next t ∧ t = markStarted s n ∧ t.hif.out = s.hif.out) ∧
    (cplOpen s c → hostRuns s n 0x30 c → c.a0 + c.len ≤ (nvArea s c.part).2 →
      reaches s (poolBase + (nvArea s c.part).1 + c.a0) → nvUp s = true → regionLocked s 2 = false →
      winOk s c.part true c.addr c.len = true → ∃ t, exec (.nvRead n) s = .next t ∧ completed s t c {} ∧ t.mem = s.mem ∧
        .write c.addr (s.bytes (poolBase + (nvArea s c.part).1 + c.a0) c.len) ∈ t.hif.out) ∧
    (cplOpen s c → hostRuns s n 0x40 c → ∃ t, exec (.healthQuery n) s = .next t ∧ completed s t c
      { status := if healthWord s % 8 = 0 then St.ok else St.degraded, result := healthWord s }) ∧
    (cplOpen s c → hostRuns s n 0x43 c → c.len = 16 → winOk s c.part true c.addr 16 = true → ∃ t, exec (.timeGet n) s = .next t ∧
      completed s t c {} ∧ .write c.addr (leBytes 8 s.tb ++ wordBytes [s.reg R.CYC_CYCNUM, s.reg R.BKD_RTC_SEC]) ∈ t.hif.out) ∧
    (cplOpen s c → hostRuns s n 0x41 c → c.len = 128 → winOk s c.part true c.addr 128 = true →
      ∃ t, exec (.marginReport n) s = .next t ∧ completed s t c {} ∧ .write c.addr (marginReport s) ∈ t.hif.out) ∧
    (hostRuns s n 0x42 c → 1 ≤ c.len → c.len ≤ 256 → s.entOk = false → s.entFailed = false →
      s.ent.waiting.contains (.random c.serial) = false →
      ∃ t, exec (.random n) s = .next t ∧ t.ent.waiting = s.ent.waiting ++ [.random c.serial] ∧ t.hif.out = s.hif.out) ∧
    (cplOpen s c → hostRuns s n 0x42 c → 1 ≤ c.len → c.len ≤ 256 → s.entReady = true → s.entFailed = false → s.ent.waiting = [] →
      winOk s c.part true c.addr c.len = true → ∃ t, exec (.random n) s = .next t ∧ completed s t c {} ∧
        .write c.addr (drbgServe (markStarted s n) c.len).1 ∈ t.hif.out ∧ t.ent.waiting = [] ∧
        (s.ent.served < 1023 → t.ent.served = s.ent.served + 1)) ∧
    (hostRuns s n 0x23 c → c.a0 < 2 ^ 24 → c.len = 64 * (bitsBelow c.a0 24).length → winOk s c.part true c.addr c.len = true →
      c.len ≤ snapArea s → asleep s (R.SFL_CTRL 0) = none → ∃ t q, exec (.linkStatus n) s = .next t ∧ t.hif.reqs = s.hif.reqs ++ [q] ∧ q.serial = c.serial ∧
        q.kind = .status ∧ q.parts.map HPart.unit = bitsBelow c.a0 24 ∧ t.regs = s.regs) ∧
    (∀ l, hostRuns s n 0x31 c → d = .bytes l → 1 ≤ c.len → c.len ≤ 3840 → c.a0 + c.len ≤ (nvArea s c.part).2 →
      winOk s c.part false c.addr c.len = true → reaches s (poolBase + (nvArea s c.part).1 + c.a0) →
      ∃ t, exec (.nvWrite n d) s = .next t ∧
      t.nvr.queue = s.nvr.queue ++ [⟨.host c.serial c.part (padTo (l.take c.len) c.len), poolBase + (nvArea s c.part).1 + c.a0⟩] ∧
      t.mem = s.mem) ∧
    (hostRuns s n 0x40 c → exec (.healthQuery n) s = .next (hostComplete (markStarted s n) c.serial
      { status := if healthWord (markStarted s n) % 8 = 0 then St.ok else St.degraded, result := healthWord (markStarted s n) })) ∧
    (hostRuns s n 0x41 c → c.len = 128 →
      exec (.marginReport n) s = .next (answerHost (markStarted s n) c c.addr (marginReport (markStarted s n)) {})) ∧
    (hostRuns s n 0x42 c → 1 ≤ c.len → c.len ≤ 256 → s.entFailed = true →
      exec (.random n) s = .next (endCmd (markStarted s n) c St.entFail)) ∧
    (hostRuns s n 0x43 c → c.len = 16 → exec (.timeGet n) s = .next (answerHost (markStarted s n) c c.addr
      (leBytes 8 s.tb ++ wordBytes [s.reg R.CYC_CYCNUM, s.reg R.BKD_RTC_SEC]) {})) ∧
    (hostRuns s n 0x70 c → c.a0 < 3 → ∃ t, exec (.deviceReset n) s = .next t ∧ t.hif.resetDue = some c.a0 ∧ t.hif.cmds = [])) ∧
  ∀ s : State,
    (s.hif.resetDue = some 0 → exec .hostReset s = .next (resetEntry { s with hif := { s.hif with resetDue := none } } 8 2)) ∧
    (s.hif.resetDue = some 1 → exec .hostReset s = .next (resetEntry { s with hif := { s.hif with resetDue := none } } 8 3)) ∧
    (s.hif.resetDue = some 2 → exec .hostReset s = .next (hifResetBy { s with hif := { s.hif with resetDue := none } } 8))

/-- Commands that firmware or the SP serves (R304, R395, R403 to R406, R412, R413): each with its effect, and its completion where
the completion ring has room. -/
def Obligations.FirmwareCommands : Prop :=
  (∀ (n : Nat) (c : HostCmd) (st : BitVec 8) (de r2 : BitVec 16) (r : Word) (s : State), cplOpen s c →
    (∀ op, 0x50 ≤ op → op ≤ 0x6F → fwRuns s n op c → ∃ t, exec (.boardMakerCommand n st de r r2) s = .next t ∧ completed s t c
      { status := st.toNat, detail := de.toNat, result := r.toNat, result2 := r2.toNat }) ∧
    (fwRuns s n 0x73 c → ∃ t, exec (.flashRelease n) s = .next t ∧ completed s t c {} ∧ t.flag F.SPM_BOOT_STAT_RELEASED = true) ∧
    (fwRuns s n 0x75 c → c.len = 32 → winOk s c.part true c.addr 32 = true → ∃ t, exec (.bootStatus n) s = .next t ∧
      completed s t c {} ∧ .write c.addr (wordBytes ([R.SPM_BOOT_STAT, R.SPM_BOOT_ERR, R.SPM_IMG_VER, R.SPM_MINVER, R.SPM_FUSE,
        R.SPM_UID_LO, R.SPM_UID_HI].map (spmWord s) ++ [0])) ∈ t.hif.out) ∧
    (fwRuns s n 0x76 c → c.a0 = 1 ∨ c.a0 = 2 → c.len = 32 → s.entOk = false → s.entFailed = true →
      ∃ t, exec (.debugChallenge n) s = .next t ∧ completed s t c { status := St.entFail } ∧ t.boot = s.boot) ∧
    (fwRuns s n 0x76 c → c.a0 = 1 ∨ c.a0 = 2 → c.len = 32 → s.entReady = true → s.entFailed = false → s.ent.waiting = [] →
      winOk s c.part true c.addr 32 = true → ∃ t, exec (.debugChallenge n) s = .next t ∧ completed s t c {} ∧
        .write c.addr (issueChallenge (markStarted s n) c.a0).1 ∈ t.hif.out ∧
        t.boot.challenge = (issueChallenge (markStarted s n) c.a0).2.boot.challenge) ∧
    (fwRuns s n 0x76 c → c.a0 = 1 ∨ c.a0 = 2 → c.len = 32 → s.entReady = false → s.entFailed = false →
      s.ent.waiting.contains (.challenge c.serial) = false → ∃ t, exec (.debugChallenge n) s = .next t ∧
        t.ent.waiting = s.ent.waiting ++ [.challenge c.serial] ∧ t.boot = s.boot) ∧
    (fwRuns s n 0x78 c → s.sec.trial = true → ∃ t, exec (.minverAdvance n) s = .next t ∧
      completed s t c { status := St.busy, result := s.sec.minver } ∧ t.mem = s.mem) ∧
    (fwRuns s n 0x74 c → c.a0 < 2 → c.a0 = runningSlot s → s.flag F.SPM_BOOT_STAT_RAGDOLL = false → ∃ t, exec (.slotTrial n) s = .next t ∧
      completed s t c { status := St.badDescriptor } ∧ t.mem = s.mem) ∧
    (fwRuns s n 0x71 c → s.flag F.SPM_BOOT_STAT_RAGDOLL = false → ∃ t, exec (.ragdollRelease n) s = .next t ∧
      completed s t c { status := St.modeRefused } ∧ t.mem = s.mem) ∧
    (fwRuns s n 0x32 c → c.len = 16 → winOk s c.part true c.addr 16 = true → ∃ t, exec (.cfgStatus n) s = .next t ∧
      completed s t c {} ∧ .write c.addr
        (wordBytes [s.reg R.CYC_CFG_STATUS, s.reg R.CYC_CFG_SEQ, s.reg R.CYC_CFG_SKIP, s.reg R.AGM_CAL_STATUS]) ∈ t.hif.out) ∧
    (fwRuns s n 0x37 c → 1 ≤ c.a1 → c.a0 + c.a1 ≤ 256 → c.len = 12 * c.a1 → winOk s c.part true c.addr c.len = true →
      ∃ t, exec (.calRead n) s = .next t ∧ completed s t c {} ∧
        .write c.addr ((List.range c.a1).map (fun k => calBytes s (c.a0 + k))).flatten ∈ t.hif.out)) ∧
  ∀ (n : Nat) (c : HostCmd) (d : HostData) (v : Bool) (st : BitVec 8) (de r2 : BitVec 16) (r : Word) (s : State),
    (∀ op, 0x50 ≤ op → op ≤ 0x6F → fwRuns s n op c → exec (.boardMakerCommand n st de r r2) s = .next (hostComplete (markStarted s n) c.serial
      { status := st.toNat, detail := de.toNat, result := r.toNat, result2 := r2.toNat })) ∧
    (fwRuns s n 0x71 c → exec (.ragdollRelease n) s =
      .next (endCmd (ragdollRelease (markStarted s n)).2 c (ragdollRelease (markStarted s n)).1)) ∧
    (∀ l, fwRuns s n 0x72 c → d = .bytes l → c.len ≤ 0x800000 → winOk s c.part false c.addr c.len = true →
      exec (.imageVerify n d) s = .next (hostComplete (markStarted s n) c.serial
        { status := bootCheck (markStarted s n) (dataImg (padTo (l.take c.len) c.len)) 0 c.len false,
          result := imgLe (dataImg (padTo (l.take c.len) c.len)) 8 4 })) ∧
    (fwRuns s n 0x73 c → exec (.flashRelease n) s = .next (endCmd (flashRelease (markStarted s n)) c St.ok)) ∧
    (fwRuns s n 0x74 c → c.a0 < 2 → exec (.slotTrial n) s =
      .next (endCmd (slotTrial (markStarted s n) c.a0).2 c (slotTrial (markStarted s n) c.a0).1)) ∧
    (fwRuns s n 0x75 c → c.len = 32 → exec (.bootStatus n) s = .next (answerHost (markStarted s n) c c.addr
      (wordBytes ([R.SPM_BOOT_STAT, R.SPM_BOOT_ERR, R.SPM_IMG_VER, R.SPM_MINVER, R.SPM_FUSE, R.SPM_UID_LO, R.SPM_UID_HI].map
        (spmWord (markStarted s n)) ++ [0])) {})) ∧
    (fwRuns s n 0x76 c → c.a0 = 1 ∨ c.a0 = 2 → c.len = 32 → s.entFailed = true →
      exec (.debugChallenge n) s = .next (endCmd (markStarted s n) c St.entFail)) ∧
    (∀ l, fwRuns s n 0x77 c → d = .bytes l → c.len = 128 → winOk s c.part false c.addr 128 = true → exec (.debugResponse n d) s =
      .next (endCmd (judgeResponse (markStarted s n) (padTo (l.take 128) 128)).2 c (judgeResponse (markStarted s n) (padTo (l.take 128) 128)).1)) ∧
    (fwRuns s n 0x78 c → exec (.minverAdvance n) s = .next (hostComplete (minverAdvance (markStarted s n)).2 c.serial
      { status := (minverAdvance (markStarted s n)).1, result := (minverAdvance (markStarted s n)).2.sec.minver })) ∧
    (fwRuns s n 0x79 c → exec (.fuseProgram n d v) s = .next (fuseCmd d v c (markStarted s n)))

/-! ### Field links (chapters 07 and 08) -/

/-- Inbound frames (R53, R55, R226, R230, R233, R237, R264, R272): an IN frame of a station in RUN that meets every rule writes the
station's slots, is counted and triggers its dependants; a late one is counted late and writes nothing; a frame with a code error, a
failed check or another fault is counted under its own counter and does nothing else; a PENDING answer makes its request wait and any
other completes it; a DIAG answer clears the miss count. -/
def Obligations.InboundFrames : Prop :=
  (∀ (l : Fin 24) (f : Frame) (s : State), s.listens l.val = true →
    (isReport s l.val f = true → exec (.inFrame l f) s = .next (s.setLnk l.val { s.lnk l.val with repSeen := true })) ∧
    (isReport s l.val f = false → exec (.inFrame l f) s = .next (countBad s l.val (badRes s l.val f)))) ∧
  (∀ (l : Fin 24) (f : Frame) (c : StnCfg) (s : State), s.linkState l.val = 4 → frameRes s l.val f = .ok →
    s.thePlan.station l.val f.src.toNat = some c → f.type = 2 → s.stnRun l.val f.src.toNat = true → f.flags.toNat.testBit 0 = false →
    f.cycle.toNat = cycle16 s → f.flags.toNat.testBit 2 = false → f.payload.length = 4 + 6 * c.nIn →
    (s.stn l.val f.src.toNat).inAny = false →
    (s.cyc.cutoff = true → exec (.inFrame l f) s =
      .next ((s.setStn l.val f.src.toNat { s.stn l.val f.src.toNat with inAny := true }).countReg (R.SFL_LATE_FRAME l.val))) ∧
    (s.cyc.cutoff = false → (s.stn l.val f.src.toNat).seen = true → exec (.inFrame l f) s = .next (frameTrigger
      (let s0 := s.setStn l.val f.src.toNat { s.stn l.val f.src.toNat with inAny := true }
       let s1 := (writeInputs s0 l.val f.src.toNat c f).countReg (R.SFL_RX_GOOD l.val)
       s1.setStn l.val f.src.toNat { s1.stn l.val f.src.toNat with miss := 0, inNow := true, seen := true })
      l.val f.src.toNat))) ∧
  (∀ (l : Fin 24) (f : Frame) (c : StnCfg) (s : State), s.linkState l.val = 4 → frameRes s l.val f = .ok →
    s.thePlan.station l.val f.src.toNat = some c → f.type = 2 → s.stnRun l.val f.src.toNat = true →
    (f.cycle.toNat = cycle16 s → s.cyc.cutoff = false → (f.flags.toNat.testBit 2 = true ∨ f.payload.length ≠ 4 + 6 * c.nIn ∨
        (s.stn l.val f.src.toNat).inAny = true) → exec (.inFrame l f) s = .next
      ((s.setStn l.val f.src.toNat { s.stn l.val f.src.toNat with inAny := true }).countReg (R.SFL_RX_DISCARD l.val))) ∧
    (0 < frameAge s f → frameAge s f < 32768 → exec (.inFrame l f) s = .next (s.countReg (R.SFL_LATE_FRAME l.val))) ∧
    (32768 ≤ frameAge s f → exec (.inFrame l f) s = .next (s.countReg (R.SFL_RX_DISCARD l.val)))) ∧
  (∀ (l : Fin 24) (f : Frame) (s : State), s.listens l.val = false → s.linkState l.val = 0 ∨ s.linkState l.val = 5 →
    frameRes s l.val f = .ok → exec (.inFrame l f) s = .next (s.countReg (R.SFL_RX_DISCARD l.val)) ∧
      exec (.announce l f) s = .next (s.countReg (R.SFL_RX_DISCARD l.val)) ∧
      exec (.acr l f) s = .next (s.countReg (R.SFL_RX_DISCARD l.val)) ∧
      exec (.diagResponse l f) s = .next (s.countReg (R.SFL_RX_DISCARD l.val))) ∧
  (∀ (l : Fin 24) (f : Frame) (s : State), s.linkState l.val ≠ 0 → s.linkState l.val ≠ 5 →
    (f.fault = true → exec (.inFrame l f) s = .next (s.countReg (R.SFL_RX_CODE l.val)) ∧
      exec (.acr l f) s = .next (s.countReg (R.SFL_RX_CODE l.val)) ∧ exec (.diagResponse l f) s = .next (s.countReg (R.SFL_RX_CODE l.val))) ∧
    (f.fault = false → f.tooLong = false → f.isAnnounce = false → f.check ≠ f.checkOf l.val f.src.toNat →
      exec (.inFrame l f) s = .next (s.countReg (R.SFL_RX_CRC l.val)) ∧ exec (.acr l f) s = .next (s.countReg (R.SFL_RX_CRC l.val)) ∧
      exec (.diagResponse l f) s = .next (s.countReg (R.SFL_RX_CRC l.val))) ∧
    (f.fault = false → f.tooLong = true → exec (.inFrame l f) s = .next (s.countReg (R.SFL_RX_DISCARD l.val))) ∧
    (f.fault = false → f.isAnnounce = false → f.check = f.checkOf l.val f.src.toNat →
      (inboundType f.type.toNat = false ∨ typeChannel f.type.toNat ≠ some f.channel.toNat ∨ f.len.toNat ≠ f.payload.length ∨
        s.thePlan.station l.val f.src.toNat = none) →
      exec (.inFrame l f) s = .next (s.countReg (R.SFL_RX_DISCARD l.val)))) ∧
  (∀ (l : Fin 24) (f : Frame) (s : State) (k : Nat), s.linkState l.val = 4 → frameRes s l.val f = .ok → f.type = 4 →
    s.stnRun l.val f.src.toNat = true → 4 ≤ f.payload.length →
    acyAt s l.val (fun a => decide (a.station = f.src.toNat ∧ a.state = acyGranted ∧ a.seq = f.seq.toNat)) = some k →
    (f.payLe 2 2 = 1 → exec (.acr l f) s = .next (s.setLnk l.val { s.lnk l.val with
      acyq := (s.lnk l.val).acyq.modify k (fun a => { a with state := acyWaiting, due := false, sent := 1 }) })) ∧
    (f.payLe 2 2 ≠ 1 → exec (.acr l f) s = .next (acyComplete s l.val k St.ok (f.payLe 2 2) f.payload))) ∧
  ∀ (l : Fin 24) (f : Frame) (s : State), s.linkState l.val = 4 → frameRes s l.val f = .ok → f.type = 6 → f.payload.length = 20 →
    (s.stn l.val f.src.toNat).state = 3 → (s.stn l.val f.src.toNat).pollWait = true →
    exec (.diagResponse l f) s = .next (s.setStn l.val f.src.toNat { s.stn l.val f.src.toNat with miss := 0, pollWait := false })

/-- Admission (R235, R263, R266, R267): an ANNOUNCE of a station in RUN, LOST, HOLD, FAULT or without a record brings HOLD, and one of
a station sought brings nothing; a good identity leads to the delay measurement and a wrong one to FAULT with HOLD; the eighth
exchange forms D_k and, where rule 4 holds, sends ADMIT; the ADMIT_ACK with the station's UID ends the procedure; an answer that
does not come, or a sixteenth attempt, makes the station LOST. -/
def Obligations.StationAdmission : Prop :=
  (∀ (l : Fin 24) (f : Frame) (s : State), s.linkState l.val ≠ 0 → s.linkState l.val ≠ 5 → frameRes s l.val f = .ok →
    f.isAnnounce = true → f.payload.length = 12 →
    ((s.stn l.val f.src.toNat).state = 3 →
      exec (.announce l f) s = .next (askFrame (stnOut s l.val f.src.toNat 4 3) l.val (.hold f.src.toNat))) ∧
    ((s.stn l.val f.src.toNat).state = 4 → exec (.announce l f) s =
      .next (askFrame (stnTo s l.val f.src.toNat 5 (s.stn l.val f.src.toNat).cause) l.val (.hold f.src.toNat))) ∧
    ((s.stn l.val f.src.toNat).state = 5 ∨ (s.stn l.val f.src.toNat).state = 6 ∨ (s.stn l.val f.src.toNat).state = 0 →
      (freeSpan s l.val = true → exec (.announce l f) s = .next (sendHold s l.val f.src.toNat)) ∧
      (freeSpan s l.val = false → (s.lnk l.val).due.contains (.hold f.src.toNat) = false →
        exec (.announce l f) s = .next (s.setLnk l.val { s.lnk l.val with due := (s.lnk l.val).due ++ [.hold f.src.toNat] }))) ∧
    ((s.stn l.val f.src.toNat).state = 1 ∨ (s.stn l.val f.src.toNat).state = 2 → exec (.announce l f) s = .next s)) ∧
  (∀ (l : Fin 24) (f : Frame) (c : StnCfg) (s : State), answerOk s l.val f 0x81 40 1 = .ok →
    s.thePlan.station l.val f.src.toNat = some c → f.payLe 4 2 = 0x0100 → s.linkState l.val ≠ 2 →
    ∃ t, (∀ l' st', (l', st') ≠ (l.val, f.src.toNat) → st' < 32 → t.stn l' st' = s.stn l' st') ∧
      (t.stn l.val f.src.toNat).uid = some (f.payLe 8 8) ∧ (t.stn l.val f.src.toNat).newEpoch = f.epoch.toNat ∧
      (identityOk c (f.payLe 8 8) (f.payLe 16 4) (f.payLe 20 8) (f.payLe 28 8) (f.payLe 36 2) (f.payLe 38 2) = true →
        exec (.identRsp l f) s = .next (delayReq t l.val f.src.toNat)) ∧
      (identityOk c (f.payLe 8 8) (f.payLe 16 4) (f.payLe 20 8) (f.payLe 28 8) (f.payLe 36 2) (f.payLe 38 2) = false →
        exec (.identRsp l f) s = .next (admissionFail t l.val f.src.toNat 6 5))) ∧
  (∀ (l : Fin 24) (f : Frame) (rt : Word) (s : State), s.stnRun l.val f.src.toNat = false → answerOk s l.val f 0x82 8 3 = .ok →
    ∃ t, (t.stn l.val f.src.toNat).exGood = (s.stn l.val f.src.toNat).exGood + 1 ∧
      (t.stn l.val f.src.toNat).exTried = (s.stn l.val f.src.toNat).exTried + 1 ∧
      ((s.stn l.val f.src.toNat).exGood ≠ 0 →
        (t.stn l.val f.src.toNat).exBest = min (s.stn l.val f.src.toNat).exBest (rt.toNat - f.payLe 4 4)) ∧
      ((s.stn l.val f.src.toNat).exGood = 7 → exec (.delayRsp l f rt) s = .next (delayDone t l.val f.src.toNat)) ∧
      ((s.stn l.val f.src.toNat).exGood < 7 → (s.stn l.val f.src.toNat).exTried < 15 →
        exec (.delayRsp l f rt) s = .next (delayReq t l.val f.src.toNat)) ∧
      ((s.stn l.val f.src.toNat).exGood < 7 → (s.stn l.val f.src.toNat).exTried = 15 →
        exec (.delayRsp l f rt) s = .next (admissionFail t l.val f.src.toNat 4 6))) ∧
  (∀ (l : Fin 24) (st : Fin 32) (s : State),
    (ruleFourAt (s.thePlan.link l.val) (s.fld F.CYC_APPLY_OFS_US) (s.fld F.CYC_OUT_LAST_US)
        (max (((s.stn l.val st.val).exBest + 1) / 2)
          (dLine (s.setStn l.val st.val { s.stn l.val st.val with delay := ((s.stn l.val st.val).exBest + 1) / 2 }) l.val)) = true →
      ((delayDone s l.val st.val).stn l.val st.val).delay = ((s.stn l.val st.val).exBest + 1) / 2 ∧
      ((delayDone s l.val st.val).stn l.val st.val).step = 5)) ∧
  (∀ (l : Fin 24) (f : Frame) (c : StnCfg) (s : State), s.stnRun l.val f.src.toNat = false → answerOk s l.val f 0x83 12 5 = .ok →
    s.thePlan.station l.val f.src.toNat = some c →
    (f.payLe 4 8 = (if c.uidAny then (s.stn l.val f.src.toNat).uid.getD 0 else c.uid) → exec (.admitAck l f) s = .next (admitCheck
      (s.setStn l.val f.src.toNat { s.stn l.val f.src.toNat with step := 6, seq0 := 0, seq1 := 0, seq2 := 0 }) l.val)) ∧
    (f.payLe 4 8 ≠ (if c.uidAny then (s.stn l.val f.src.toNat).uid.getD 0 else c.uid) → exec (.admitAck l f) s = .next s)) ∧
  (∀ (l : Fin 24) (st : Fin 32) (s : State), (s.stn l.val st.val).state = 2 →
    ((s.lnk l.val).due.contains (.admission st.val) = true → exec (.admissionAnswerTimeout l st) s = .next s) ∧
    ((s.stn l.val st.val).idWait = true ∨ (s.stn l.val st.val).dWait = true →
      exec (.admissionAnswerTimeout l st) s = .next s) ∧
    ((s.stn l.val st.val).idWait = false → (s.stn l.val st.val).dWait = false →
      (s.lnk l.val).due.contains (.admission st.val) = false → s.linkState l.val = 2 →
      (s.stn l.val st.val).step = 1 → exec (.admissionAnswerTimeout l st) s =
        .next (s.setStn l.val st.val { s.stn l.val st.val with step := 2 }))) ∧
  (∀ (l : Fin 24) (st : Fin 32) (s : State), (s.stn l.val st.val).state = 2 → s.linkState l.val ≠ 2 →
    (s.stn l.val st.val).idWait = false → (s.stn l.val st.val).dWait = false → (s.lnk l.val).due.contains (.admission st.val) = false →
    ((s.stn l.val st.val).step = 1 ∨ (s.stn l.val st.val).step = 5 →
      exec (.admissionAnswerTimeout l st) s = .next (admissionFail s l.val st.val 4 6)) ∧
    ((s.stn l.val st.val).step = 3 → (s.stn l.val st.val).exTried < 15 → exec (.admissionAnswerTimeout l st) s = .next (delayReq
      (s.setStn l.val st.val { s.stn l.val st.val with exTried := (s.stn l.val st.val).exTried + 1 }) l.val st.val))) ∧
  (∀ (l : Fin 24) (st : Nat) (s : State), exchangeMay s l.val st = true ↔
    s.dbgHalted = false ∧ (s.cyc.inCycle = false ∨ s.cyc.cutoff = true ∧ (s.stn l.val st).exCyc < 4 ∧ (s.cyc.deadline = false ∨ has s.dpr.outBegun l.val = true)) ∧
      s.linkState l.val ≠ 0 ∧ s.linkState l.val ≠ 5 ∧ ∀ a ∈ (s.lnk l.val).acyq, a.state ≠ acyGranted) ∧
  (∀ (l : Fin 24) (s : State), s.cyc.inCycle = true → s.dbgHalted = false → s.linkState l.val = 4 → (freeSpan s l.val = true ↔
    s.cyc.cutoff = true ∧ (s.cyc.deadline = false ∨ has s.dpr.outBegun l.val = true))) ∧
  (∀ (l : Fin 24) (st : Nat) (s : State), (freeSpan s l.val = false → identStn l.val s st = s) ∧
    (8 ≤ (s.lnk l.val).idCyc → s.linkState l.val = 2 → s.cyc.inCycle = true → identStn l.val s st = s) ∧
    ((s.stn l.val st).dWait = true → exchangeMay s l.val st = false → exchangeStn l.val s st = s)) ∧
  ∀ (l : Fin 24) (st : Fin 32) (s : State),
    ((s.stn l.val st.val).retry = true → (s.stn l.val st.val).state = 4 ∨ (s.stn l.val st.val).state = 5 ∨ (s.stn l.val st.val).state = 6 →
      s.linkState l.val ≠ 4 → s.dbgHalted = false → ∃ t, exec (.stationRetryExpiry l st) s = .next t ∧ (t.stn l.val st.val).state = 2 ∧
        (t.stn l.val st.val).cause = 0 ∧ (t.stn l.val st.val).retry = false) ∧
    ((s.stn l.val st.val).retry = false ∨ s.dbgHalted = true → exec (.stationRetryExpiry l st) s = .next s)

/-- Link states (R229, R260, R261): each row of the table that a command brings about, and no change in any other state. -/
def Obligations.LinkStates : Prop :=
  (∀ (l : Fin 24) (s : State),
    (s.linkState l.val = 1 → ∃ t, t = newEpoch ((s.setFld (F.SFL_STATUS_SYNC l.val) 1).setFld (F.SFL_STATUS_LOS l.val) 0) l.val ∧
      t.flag (F.SFL_STATUS_SYNC l.val) = true ∧ t.flag (F.SFL_STATUS_LOS l.val) = false ∧
      (s.fld F.ENT_STATUS_STATE = 1 → t.fld (F.SFL_STATUS_EPOCH l.val) = 1 + Config.freeValue s.draws % 255) ∧
      (s.fld F.ENT_STATUS_STATE ≠ 1 → (s.lnk l.val).entEpoch = true →
        t.fld (F.SFL_STATUS_EPOCH l.val) = s.fld (F.SFL_STATUS_EPOCH l.val)) ∧
      (s.fld F.ENT_STATUS_STATE ≠ 1 → (s.lnk l.val).entEpoch = false →
        t.fld (F.SFL_STATUS_EPOCH l.val) = 1 + s.tb % 255) ∧
      exec (.trainSync ⟨l, true⟩) s =
        .next (pumpIdent (eachNat (fun t st => soughtStn t l.val st) (linkTo t l.val 2) (t.stnList l.val)) l.val) ∧
      (linkTo t l.val 2).linkState l.val = 2) ∧
    exec (.trainSync ⟨l, false⟩) s = .next ((s.setFld (F.SFL_STATUS_SYNC l.val) 1).setFld (F.SFL_STATUS_LOS l.val) 0) ∧
    (s.linkState l.val ≠ 1 → exec (.trainSync ⟨l, true⟩) s = exec (.trainSync ⟨l, false⟩) s ∧ exec (.trainTimeout l) s = .next s) ∧
    (s.linkState l.val = 1 → s.dbgHalted = false → exec (.trainTimeout l) s = .next (linkDown s l.val 3)) ∧
    (s.dbgHalted = true → exec (.trainTimeout l) s = .next s ∧ exec (.linkRetry l) s = .next s) ∧
    (s.linkState l.val = 2 → (∃ st ∈ s.stnList l.val, (s.stn l.val st).idWait = true) → exec (.enumEnd l) s = .next s) ∧
    (s.linkState l.val = 2 → (∀ st ∈ s.stnList l.val, (s.stn l.val st).idWait = false) → exec (.enumEnd l) s =
      .next (admitCheck (eachNat (enumResult l.val) (linkTo s l.val 3) (s.stnList l.val)) l.val)) ∧
    (s.linkState l.val ≠ 2 → exec (.enumEnd l) s = .next s)) ∧
  (∀ (l : Fin 24) (s : State), s.linkState l.val ≠ 0 → s.linkState l.val ≠ 5 → exec (.lossOfSignal ⟨l, true, none⟩) s =
    .next (linkDown ((s.setFld (F.SFL_STATUS_LOS l.val) 1).setFld (F.SFL_STATUS_SYNC l.val) 0) l.val 2)) ∧
  (∀ (l : Fin 24) (lasted : Bool) (s : State), lasted = false ∨ s.linkState l.val = 0 ∨ s.linkState l.val = 5 →
    exec (.lossOfSignal ⟨l, lasted, none⟩) s = .next ((s.setFld (F.SFL_STATUS_LOS l.val) 1).setFld (F.SFL_STATUS_SYNC l.val) 0)) ∧
  (∀ (l : Fin 24) (k : Nat) (s : State), k < 16 → s.linkState l.val ≠ 0 → s.stnList l.val = [] → (s.lnk l.val).acyq = [] →
    s.linkState l.val ≠ 5 → (linkDown s l.val k).linkState l.val = 0 ∧ (linkDown s l.val k).fld (F.SFL_STATUS_DOWN_CAUSE l.val) = k) ∧
  (∀ (l : Fin 24) (s : State), s.linkState l.val = 0 → mayTrain s l.val = true → s.dbgHalted = false →
    ∃ t, exec (.linkRetry l) s = .next t ∧ t.linkState l.val = 1 ∧ t.mem = s.mem) ∧
  (∀ (l : Fin 24) (s : State), (s.linkState l.val = 0 ∧ mayTrain s l.val = false) ∨ s.linkState l.val = 5 → s.dbgHalted = false →
    exec (.linkRetry l) s = .next (s.setLnk l.val { s.lnk l.val with waited := true })) ∧
  (∀ (l : Fin 24) (s : State), s.accepts (R.SFL_CTRL l.val) = true → s.linkState l.val = 0 → mayTrain s l.val = true →
    ∃ t, exec (.retrain l) s = .next t ∧ t.linkState l.val = 1 ∧ t.mem = s.mem) ∧
  (∀ (l : Fin 24) (s : State), s.accepts (R.SFL_CTRL l.val) = true →
    exec (.sflnCtrlEn l false) s = .next (linkDown (s.setFld (F.SFL_CTRL_EN l.val) 0) l.val 1) ∧
    exec (.sflnCtrlEn l true) s = .next (tryTrain (s.setFld (F.SFL_CTRL_EN l.val) 1) l.val)) ∧
  ∀ (l : Fin 24) (s : State), s.linkState l.val = 5 →
    ((s.lnk l.val).testLoop = 1 → exec (.patLoopEnd ⟨l, [], true⟩) s = .next (leaveTest s l.val)) ∧
    (∀ rx, exec (.patLoopEnd ⟨l, rx, false⟩) s = .next (rx.foldl (patBit l.val) s)) ∧
    (mayTrain s l.val = true → (s.lnk l.val).waited = true → (s.lnk l.val).testBy = none → (leaveTest s l.val).linkState l.val = 1) ∧
    (mayTrain s l.val = false → leaveTest s l.val = linkDown s l.val 6)

/-- Polls and acyclic requests (R264, R270 to R274): a poll is sent in a free span of a link in RUN and its third consecutive time-out
makes the station LOST; a slot grants by the arbiter; an ACY without an answer is sent again, in a free span, at most twice and then
completes TIMEOUT; a WAITING entry becomes due; a
record that meets every condition is queued and one that does not is told so at once; a cancel removes a QUEUED entry only. -/
def Obligations.AcyclicRequests : Prop :=
  (∀ (l : Fin 24) (st : Fin 32) (c : StnCfg) (s : State), s.thePlan.station l.val st.val = some c → (s.stn l.val st.val).state = 3 →
    s.linkState l.val = 4 → freeSpan s l.val = true →
    c.nIn = 0 → (s.stn l.val st.val).pollWait = false → s.fld (F.SFL_DIAG_POLL_CYCLES l.val) ≤ (s.stn l.val st.val).pollCnt →
    ∃ t, exec (.diagPoll l st) s = .next t ∧ (t.stn l.val st.val).pollWait = true ∧ (t.stn l.val st.val).pollCnt = 0 ∧
      t.mem = s.mem ∧ t.regs = s.regs) ∧
  (∀ (l : Fin 24) (st : Fin 32) (s : State), (s.stn l.val st.val).state = 3 → (s.stn l.val st.val).pollWait = true →
    ((s.stn l.val st.val).miss < 2 → ∃ t, exec (.diagPollTimeout l st) s = .next t ∧
      t.stn l.val st.val = { s.stn l.val st.val with pollWait := false, miss := (s.stn l.val st.val).miss + 1 } ∧
      t.regs = s.regs ∧ t.mem = s.mem) ∧
    (2 ≤ (s.stn l.val st.val).miss → ∃ u, u.stn l.val st.val =
        { s.stn l.val st.val with pollWait := false, miss := (s.stn l.val st.val).miss + 1 } ∧ u.regs = s.regs ∧ u.mem = s.mem ∧
      exec (.diagPollTimeout l st) s = .next (stnOut u l.val st.val 4 2))) ∧
  (∀ (l : Fin 24) (s : State), s.linkState l.val = 4 → freeSpan s l.val = true →
    ∃ u, u = takenMeasure (eachNat (takenAdmit l.val) (pumpLink s l.val) (s.stnList l.val)) l.val ∧
      (exchanging u l.val = true → exec (.acyclicSlot l) s = .next u) ∧
      (exchanging u l.val = false →
        exec (.acyclicSlot l) s = .next (acyMany u l.val (u.fld (F.SFL_ACY_CFG_BURST l.val))))) ∧
  (∀ (l : Fin 24) (s : State), s.linkState l.val ≠ 4 ∨ freeSpan s l.val = false →
    exec (.acyclicSlot l) s = .next s) ∧
  (∀ (l : Fin 24) (st : Fin 32) (k : Nat) (a : Acy) (s : State),
    acyAt s l.val (fun a => decide (a.station = st.val ∧ a.state = acyGranted)) = some k → (s.lnk l.val).acyq[k]? = some a →
    (s.lnk l.val).due.contains (.again st.val a.seq) = false →
    (a.sent < 3 → freeSpan s l.val = true → exec (.acrTimeout l st) s = .next (acyAgain s l.val st.val a.seq)) ∧
    (a.sent < 3 → freeSpan s l.val = false → ∃ t, exec (.acrTimeout l st) s = .next t ∧
      (t.lnk l.val).due = (s.lnk l.val).due ++ [.again st.val a.seq] ∧ (t.lnk l.val).acyq = (s.lnk l.val).acyq ∧ t.mem = s.mem) ∧
    (3 ≤ a.sent → exec (.acrTimeout l st) s = .next (acyComplete s l.val k St.timeout 0 []))) ∧
  (∀ (l st seq k : Nat) (a : Acy) (s : State),
    acyAt s l (fun a => decide (a.station = st ∧ a.state = acyGranted ∧ a.seq = seq)) = some k → (s.lnk l).acyq[k]? = some a →
    (acyAgain s l st seq).mem = s.mem ∧ ((acyAgain s l st seq).lnk l).acyq = (s.lnk l).acyq.set k { a with sent := a.sent + 1 }) ∧
  (∀ (l : Fin 24) (k : Fin 64) (s : State), ∃ t, exec (.acyRepeatDue l k) s = .next t ∧
    (∀ a, (s.lnk l.val).acyq[k.val]? = some a → a.state = acyWaiting → (t.lnk l.val).acyq[k.val]? = some { a with due := true }) ∧
    (∀ j, j ≠ k.val → (t.lnk l.val).acyq[j]? = (s.lnk l.val).acyq[j]?) ∧ t.mem = s.mem ∧ t.regs = s.regs) ∧
  (∀ (l : Fin 24) (k : Fin 64) (a : Acy) (s : State), (s.lnk l.val).acyq[k.val]? = some a →
    (a.state = acyQueued → exec (.acyRequestTimeout l k) s = .next s) ∧
    (a.state ≠ acyQueued → exec (.acyRequestTimeout l k) s = .next (acyComplete s l.val k.val St.timeout 0 []))) ∧
  (∀ (l : Fin 24) (a : Word) (s : State), s.accepts (R.SFL_ACY_SUB l.val) = true → inMgs a.toNat 32 32 = true → s.rd (a.toNat + 2) 2 = 0 →
    (acyRefuse s l.val (s.rd a.toNat 1) (s.rd (a.toNat + 1) 1) (s.rd (a.toNat + 0xC) 2) = St.ok →
      ∃ t, exec (.sflnAcySub l a) s = .next t ∧ t.mem = s.mem ∧ t.regs = s.regs ∧ (t.lnk l.val).acyq = (s.lnk l.val).acyq ++ [{
        owner := .record a.toNat, part := s.rd (a.toNat + 1) 1, station := s.rd a.toNat 1, tag := s.rd (a.toNat + 4) 4,
        state := acyQueued, seq := 0, sent := 0, due := false,
        payload := s.bytes (s.rd (a.toNat + 8) 4) (s.rd (a.toNat + 0xC) 2), rspMax := s.rd (a.toNat + 0xE) 2,
        rspAddr := s.rd (a.toNat + 0x10) 4 }])) ∧
  (∀ (s : State) (l st p n : Nat), acyRefuse s l st p n = St.ok →
    (s.lnk l).acyq.length < 64 ∧ s.stnRun l st = true ∧ 6 ≤ n ∧ n ≤ 1024 ∧ (p = 0 ∨ p ∈ s.thePlan.stationOwners l st)) ∧
  (∀ (l : Fin 24) (tag : Word) (s : State), s.accepts (R.SFL_ACY_CANCEL l.val) = true →
    exec (.sflnAcyCancel l tag) s = .next (acyCancelTag s l.val tag.toNat)) ∧
  ∀ (s : State) (l k : Nat) (a : Acy), (s.lnk l).acyq[k]? = some a →
    (a.state = acyQueued → acyCancelAt s l (some k) = (St.cancelled, acyComplete s l k St.cancelled 0 [])) ∧
    (a.state ≠ acyQueued → acyCancelAt s l (some k) = (St.tooLate, s)) ∧ acyCancelAt s l none = (St.badDescriptor, s)

/-- Acknowledgements, counters and pattern tests (R268, R275 to R277, R281): an awaited acknowledgement is taken; the nine counters clear
and no other register changes; a start outside its conditions is refused and starts nothing; one inside them enters TEST. -/
def Obligations.LinkRegisters : Prop :=
  (∀ (l : Fin 24) (st : Fin 32) (p : Fin 64) (s : State), s.accepts (R.SFL_RESUME l.val) = true →
    ((s.stn l.val st.val).state = 3 → has (s.stn l.val st.val).acks p.val = true → s.cyc.deadline = true →
      exec (.sflnResume l st p) s = .next (s.setStn l.val st.val
        { s.stn l.val st.val with acks := dropFrom (s.stn l.val st.val).acks p.val })) ∧
    (has (s.stn l.val st.val).acks p.val = false → exec (.sflnResume l st p) s = .next s)) ∧
  (∀ (l : Fin 24) (s : State), s.accepts (R.SFL_CNT_CLR l.val) = true → ∃ t, exec (.sflnCntClr l) s = .next t ∧
    (∀ k, k < 9 → t.reg (R.SFL_RX_GOOD l.val + 4 * k) = 0) ∧ t.links = s.links ∧ t.mem = s.mem ∧
    ∀ a, a < R.SFL_RX_GOOD l.val ∨ R.SFL_RX_GOOD l.val + 0x24 ≤ a → t.reg a = s.reg a) ∧
  (∀ (l : Fin 24) (v : Word) (s : State), s.accepts (R.SFL_PAT_CTRL l.val) = true →
    exec (.patStart l v) s = .next (patStart (patSettings s l.val v) l.val none)) ∧
  (∀ (l : Fin 24) (s : State), testAllowed s l.val (s.fld (F.SFL_PAT_CTRL_PATTERN l.val)) (s.fld (F.SFL_PAT_CTRL_CODED l.val))
      (s.fld (F.SFL_PAT_CTRL_LOOP l.val)) (s.fld (F.SFL_PAT_CTRL_STATION l.val)) = false →
    patStart s l.val none = s.setFld (F.SFL_PAT_STATUS_REFUSED l.val) 1) ∧
  (∀ (l : Fin 24) (s : State), testAllowed s l.val (s.fld (F.SFL_PAT_CTRL_PATTERN l.val)) (s.fld (F.SFL_PAT_CTRL_CODED l.val))
      (s.fld (F.SFL_PAT_CTRL_LOOP l.val)) (s.fld (F.SFL_PAT_CTRL_STATION l.val)) = true →
    (patStart s l.val none).linkState l.val = 5 ∧ (patStart s l.val none).flag (F.SFL_PAT_STATUS_ACTIVE l.val) = true) ∧
  (∀ (s : State) (l p c m st : Nat), testAllowed s l p c m st = true →
    p < 7 ∧ m < 3 ∧ ¬(c = 1 ∧ p = 6) ∧ (m = 1 → s.service = true ∧ s.linkState l = 4 ∧ s.stnRun l st = true) ∧
    (m ≠ 1 → s.linkState l = 0 ∨ s.service = true ∧ s.linkState l = 4)) ∧
  (∀ (l : Fin 24) (s : State),
    (s.flag (F.SFL_PAT_STATUS_SYNC l.val) = false → 63 ≤ (s.lnk l.val).patRun →
      (patBit l.val s true).flag (F.SFL_PAT_STATUS_SYNC l.val) = true) ∧
    (s.flag (F.SFL_PAT_STATUS_SYNC l.val) = false → (s.lnk l.val).patRun < 63 →
      (patBit l.val s true).flag (F.SFL_PAT_STATUS_SYNC l.val) = false ∧
      ((patBit l.val s true).lnk l.val).patRun = (s.lnk l.val).patRun + 1) ∧
    (s.flag (F.SFL_PAT_STATUS_SYNC l.val) = false → (s.lnk l.val).testLoop ≠ 0 →
      (patBit l.val s false).flag (F.SFL_PAT_STATUS_SYNC l.val) = false ∧ ((patBit l.val s false).lnk l.val).patRun = 0) ∧
    (s.flag (F.SFL_PAT_STATUS_SYNC l.val) = true → (s.lnk l.val).testLoop ≠ 0 →
      (15 ≤ (((s.lnk l.val).patWin.take 255).filter id).length →
        (patBit l.val s false).flag (F.SFL_PAT_STATUS_SYNC l.val) = false ∧
        (patBit l.val s false).flag (F.SFL_PAT_STATUS_SYNC_LOST l.val) = true) ∧
      ((((s.lnk l.val).patWin.take 255).filter id).length < 15 →
        (patBit l.val s false).flag (F.SFL_PAT_STATUS_SYNC l.val) = true ∧
        (patBit l.val s false).reg (R.SFL_PAT_ERR l.val) = (s.countReg (R.SFL_PAT_ERR l.val)).reg (R.SFL_PAT_ERR l.val)))) ∧
  ∀ (l : Fin 24) (s : State), s.accepts (R.SFL_PAT_CTRL l.val) = true →
    (s.linkState l.val ≠ 5 → exec (.patStop l) s = .next s) ∧
    (s.linkState l.val = 5 → (s.lnk l.val).testLoop ≠ 1 → exec (.patStop l) s = .next (leaveTest s l.val)) ∧
    (s.linkState l.val = 5 → (s.lnk l.val).testLoop = 1 → exec (.patStop l) s =
      .next (leaveTest (sendFrame s l.val (s.lnk l.val).testStn 7 2
        ([2, 0, 0, 0] ++ leBytes 4 (s.fld (F.SFL_PAT_CTRL_LOOP_MS l.val))) none) l.val))

/-- Station units (R222, R223, R231, R232, R234, R237 to R244, R246 to R254): each state change of the table with its action, and
every answer a unit sends, in a state that takes the frame. -/
def Obligations.StationUnits : Prop :=
  (∀ (l : Fin 24) (st : Fin 32) (e : BitVec 8) (i : Ident) (s : State),
    (st.val ≠ 0 → e.toNat ≠ 0 → e.toNat ≠ (s.unit l.val st.val).epoch → exec (.stationStart l st e i) s =
      .next (s.setUnit l.val st.val { state := .wait, epoch := e.toNat, ident := i })) ∧
    (st.val = 0 ∨ e.toNat = 0 ∨ e.toNat = (s.unit l.val st.val).epoch → exec (.stationStart l st e i) s = .next s)) ∧
  (∀ (l : Fin 24) (st : Fin 32) (portB : Bool) (s : State), (s.unit l.val st.val).state ≠ .start →
    exec (.lossOfSignal ⟨l, false, some (st, portB)⟩) s =
      .next (s.setUnit l.val st.val ((s.unit l.val st.val).bump (if portB then 5 else 4))) ∧
    ((s.unit l.val st.val).state = .loop → exec (.lossOfSignal ⟨l, true, some (st, (s.unit l.val st.val).portB)⟩) s =
      .next (s.setUnit l.val st.val { s.unit l.val st.val with state := .wait }))) ∧
  (∀ (l : Fin 24) (st : Fin 32) (portB quiet : Bool) (b : KBlock) (s : State), (s.unit l.val st.val).state ≠ .start → blockOk b = true →
    b.flags.toNat.testBit 2 = false →
    (socRes (s.unit l.val st.val) portB b = .discard → ∃ t, exec (.socBlockAccept l st portB quiet b) s = .next t ∧
      (t.unit l.val st.val).cntAt 6 = min 65535 ((s.unit l.val st.val).cntAt 6 + 1) ∧
      (t.unit l.val st.val).cycle = (s.unit l.val st.val).cycle) ∧
    (∀ ch, socRes (s.unit l.val st.val) portB b = .accept ch → ∃ t, exec (.socBlockAccept l st portB quiet b) s = .next t ∧
      (t.unit l.val st.val).cycle = b.cycle.toNat ∧ (t.unit l.val st.val).flags = b.flags.toNat ∧
      (t.unit l.val st.val).ofs = b.ofs.toNat ∧ (t.unit l.val st.val).opened = true ∧
      (t.unit l.val st.val).sampled = b.flags.toNat.testBit 1 ∧ (t.unit l.val st.val).next = none ∧
      (t.unit l.val st.val).state = (s.unit l.val st.val).state ∧
      ((s.unit l.val st.val).everSoc = true → (s.unit l.val st.val).missTold = false → b.flags.toNat.testBit 3 = false →
        b.cycle.toNat ≠ ((s.unit l.val st.val).cycle + 1) % 65536 →
        (t.unit l.val st.val).cntAt 6 = min 65535 ((s.unit l.val st.val).cntAt 6 + 1)) ∧
      ((s.unit l.val st.val).state = .wait → quiet = true → ((t.unit l.val st.val).tx.map (fun f => (f.type, f.payload.take 2))) =
        some (5, [0x84, 0xFF])) ∧ t.mem = s.mem ∧ t.regs = s.regs)) ∧
  (∀ (l : Fin 24) (st : Fin 32) (portB quiet : Bool) (b : KBlock) (s : State),
    (b.fault = false → blockOk b = false →
      exec (.socBlockAccept l st portB quiet b) s = .next s ∧ exec (.sampleMarkAccept l st portB b) s = .next s) ∧
    (b.fault = true → (s.unit l.val st.val).state ≠ .start →
      exec (.socBlockAccept l st portB quiet b) s = .next (s.setUnit l.val st.val (rxCodeAt (s.unit l.val st.val) portB)) ∧
      exec (.sampleMarkAccept l st portB b) s = .next (s.setUnit l.val st.val (rxCodeAt (s.unit l.val st.val) portB)))) ∧
  (∀ (u : StnUnit) (portB : Bool), (u.state = .loop → rxCodeAt u portB = u) ∧
    (u.state ≠ .loop → rxCodeAt u portB = u.bump (if portB then 3 else 2))) ∧
  (∀ (l : Fin 24) (st : Fin 32) (b : KBlock) (s : State), (s.unit l.val st.val).state ≠ .start → blockOk b = true →
    b.flags.toNat.testBit 2 = true → b.flags.toNat.testBit 1 = true → (s.unit l.val st.val).opened = true →
    b.cycle.toNat = (s.unit l.val st.val).cycle → exec (.sampleMarkAccept l st (s.unit l.val st.val).socPort b) s =
      .next (s.setUnit l.val st.val { s.unit l.val st.val with sampled := true })) ∧
  (∀ (l : Fin 24) (st : Fin 32) (fl : BitVec 16) (vs : List InVal) (s : State), (s.unit l.val st.val).state = .admitted →
    (s.unit l.val st.val).sampled = true → 0 < (s.unit l.val st.val).nIn → vs.length = (s.unit l.val st.val).nIn →
    (s.unit l.val st.val).inSent = false → ∃ t f, exec (.inFrameSend l st fl vs) s = .next t ∧ (t.unit l.val st.val).tx = some f ∧
      f.type = 2 ∧ f.channel = 0 ∧ f.src = BitVec.ofNat 8 st.val ∧ f.payload.length = 4 + 6 * vs.length ∧
      f.cycle = BitVec.ofNat 16 (s.unit l.val st.val).cycle ∧ f.flags.toNat.testBit 0 = (s.unit l.val st.val).noOut ∧
      (t.unit l.val st.val).inSent = true ∧ (t.unit l.val st.val).txPorts =
        (if (s.unit l.val st.val).redundant then [false, true] else [(s.unit l.val st.val).portB])) ∧
  (∀ (l : Fin 24) (st : Fin 32) (fl : BitVec 16) (vs : List InVal) (s : State), (s.unit l.val st.val).sampled = false →
    exec (.inFrameSend l st fl vs) s = .next s) ∧
  (∀ (l : Fin 24) (st : Fin 32) (inTime : Bool) (f : Frame) (c : Nat) (s : State), (s.unit l.val st.val).state = .admitted →
    consume (s.unit l.val st.val) st.val f false = .yes c → f.type = 1 →
    (f.cycle.toNat = (s.unit l.val st.val).cycle → inTime = true → (s.unit l.val st.val).portChanged = false →
      f.payload.length = 4 * (s.unit l.val st.val).nOut → exec (.outFrameConsume l st inTime f) s =
        .next (s.setUnit l.val st.val { s.unit l.val st.val with next := some (payWords f 0 (s.unit l.val st.val).nOut) })) ∧
    (f.cycle.toNat ≠ (s.unit l.val st.val).cycle ∨ inTime = false → exec (.outFrameConsume l st inTime f) s =
        .next (s.setUnit l.val st.val ((s.unit l.val st.val).bump 7)))) ∧
  (∀ (l : Fin 24) (st : Fin 32) (inTime : Bool) (f : Frame) (s : State), (s.unit l.val st.val).state ≠ .start →
    consume (s.unit l.val st.val) st.val f false = .crc ∨ consume (s.unit l.val st.val) st.val f false = .bad →
    exec (.outFrameConsume l st inTime f) s = .next (s.setUnit l.val st.val (rxCrc (s.unit l.val st.val) f.portB))) ∧
  (∀ (l : Fin 24) (st : Fin 32) (s : State), (s.unit l.val st.val).opened = true → (s.unit l.val st.val).state ≠ .start →
    ((s.unit l.val st.val).flags.testBit 0 = true →
      exec (.stationApply l st) s = .next (s.setUnit l.val st.val (s.unit l.val st.val).goSafe)) ∧
    (∀ v, (s.unit l.val st.val).flags.testBit 0 = false → (s.unit l.val st.val).next = some v →
      (s.unit l.val st.val).state = .admitted → exec (.stationApply l st) s = .next (s.setUnit l.val st.val
        { s.unit l.val st.val with outs := some v, atSafe := false, applied := true, next := none })) ∧
    ((s.unit l.val st.val).flags.testBit 0 = false → (s.unit l.val st.val).next = none → exec (.stationApply l st) s = .next s)) ∧
  (∀ (l : Fin 24) (st : Fin 32) (f : Frame) (c : Nat) (s : State), (s.unit l.val st.val).state ≠ .start →
    (s.unit l.val st.val).state ≠ .loop → consume (s.unit l.val st.val) st.val f true = .yes c → f.type = 5 → f.pay 0 = 1 →
    f.payload.length = 4 → ∃ t g, exec (.identReq l st f) s = .next t ∧ (t.unit l.val st.val).tx = some g ∧ g.type = 5 ∧
      g.payload = identPayload (s.unit l.val st.val) c ∧ (t.unit l.val st.val).linkNo = some c ∧
      (t.unit l.val st.val).linkEpoch = some f.epoch.toNat ∧
      (((s.unit l.val st.val).state = .admitted ∧ (s.unit l.val st.val).linkEpoch = some f.epoch.toNat →
        (t.unit l.val st.val).state = .admitted ∧ (t.unit l.val st.val).outs = (s.unit l.val st.val).outs) ∧
       ((s.unit l.val st.val).state = .admitted → (s.unit l.val st.val).linkEpoch ≠ some f.epoch.toNat →
        (t.unit l.val st.val).state = .wait ∧ (t.unit l.val st.val).outs = (s.unit l.val st.val).goSafe.outs) ∧
       ((s.unit l.val st.val).state ≠ .admitted → (t.unit l.val st.val).state = .wait))) ∧
  (∀ (l : Fin 24) (st : Fin 32) (f : Frame) (tn : Word) (c : Nat) (s : State), consume (s.unit l.val st.val) st.val f false = .yes c →
    f.type = 5 → f.pay 0 = 2 → f.payload.length = 4 →
    ((s.unit l.val st.val).state = .wait ∧ (s.unit l.val st.val).identified = true) ∨ (s.unit l.val st.val).state = .admitted →
    ∃ t g, exec (.delayReq l st f tn) s = .next t ∧ (t.unit l.val st.val) =
        { s.unit l.val st.val with tx := some g, txPorts := [(s.unit l.val st.val).portB] } ∧ g.type = 5 ∧
      g.payload = [0x82, BitVec.ofNat 8 c, 0, 0] ++ leBytes 4 tn.toNat ∧ g.seq = f.seq) ∧
  (∀ (l : Fin 24) (st : Fin 32) (f : Frame) (c : Nat) (s : State),
    consume (s.unit l.val st.val) st.val f false = .yes c → f.type = 5 → f.pay 0 = 3 → f.payload.length = 20 + 4 * (s.unit l.val st.val).nOut →
    f.payLe 12 8 = (s.unit l.val st.val).ident.uid.toNat →
    ((s.unit l.val st.val).state = .wait ∧ (s.unit l.val st.val).identified = true) ∨ (s.unit l.val st.val).state = .admitted →
    ∃ t, exec (.admitReq l st f) s = .next t ∧ (t.unit l.val st.val).state = .admitted ∧
      (t.unit l.val st.val).delay = f.payLe 4 4 ∧ (t.unit l.val st.val).timeout = f.payLe 8 4 ∧
      (t.unit l.val st.val).redundant = decide (f.payLe 2 2 % 2 = 1) ∧
      (t.unit l.val st.val).portChanged = ((s.unit l.val st.val).portChanged && f.portB != (s.unit l.val st.val).portB) ∧
      (t.unit l.val st.val).safe = payWords f 20 (s.unit l.val st.val).nOut ∧
      ((s.unit l.val st.val).state = .wait → (t.unit l.val st.val).outs = some (payWords f 20 (s.unit l.val st.val).nOut) ∧
        (t.unit l.val st.val).seq0 = 0) ∧
      ((s.unit l.val st.val).state = .admitted → (t.unit l.val st.val).outs = (s.unit l.val st.val).outs)) ∧
  (∀ (l : Fin 24) (st : Fin 32) (f : Frame) (c : Nat) (s : State),
    consume (s.unit l.val st.val) st.val f false = .yes c →
    ((s.unit l.val st.val).state = .admitted → f.type = 5 → f.pay 0 = 4 → f.payload.length = 4 → exec (.release l st f) s =
      .next (s.setUnit l.val st.val { (s.unit l.val st.val).goSafe with state := .wait })) ∧
    ((s.unit l.val st.val).state = .wait ∨ (s.unit l.val st.val).state = .admitted → f.type = 7 → f.pay 0 = 1 → testFits f = true →
      exec (.testLoopOn l st f) s = .next (s.setUnit l.val st.val { (s.unit l.val st.val).goSafe with state := .loop })) ∧
    ((s.unit l.val st.val).state = .loop → f.type = 7 → f.pay 0 = 2 → testFits f = true → exec (.testLoopOff l st f) s =
      .next (s.setUnit l.val st.val { s.unit l.val st.val with state := .wait })) ∧
    ((s.unit l.val st.val).state ≠ .start → (s.unit l.val st.val).state ≠ .loop → f.type = 6 → f.payload.length = 4 →
      (f.pay 0 = 1 → ∃ t g, exec (.diag l st f) s = .next t ∧ t.unit l.val st.val =
          { s.unit l.val st.val with tx := some g, txPorts := [(s.unit l.val st.val).portB] } ∧
        g.payload = diagPayload (s.unit l.val st.val) 1) ∧
      (f.pay 0 = 2 → ∃ t g, exec (.diag l st f) s = .next t ∧ t.unit l.val st.val =
          { s.unit l.val st.val with tx := some g, txPorts := [(s.unit l.val st.val).portB], cnt := [] } ∧
        g.payload = diagPayload (s.unit l.val st.val) 2)) ∧
    (∀ r data, (s.unit l.val st.val).state = .admitted → f.type = 3 → 6 ≤ f.payload.length → f.payload.length ≤ 1024 →
      (s.unit l.val st.val).lastAcr = none →
      ∃ t g, exec (.acy l st f r data) s = .next t ∧ (t.unit l.val st.val).tx = some g ∧ g.type = 4 ∧ g.seq = f.seq ∧
        g.payload = f.payload.take 2 ++ leBytes 2 r.toNat ++ (if f.payLe 0 2 = 1 ∧ r = 0 then data.take 1020 else [])) ∧
    (∀ r data p, (s.unit l.val st.val).state = .admitted → f.type = 3 → 6 ≤ f.payload.length → f.payload.length ≤ 1024 →
      (s.unit l.val st.val).lastAcr = some (f.seq.toNat, p) →
      ∃ t g, exec (.acy l st f r data) s = .next t ∧ (t.unit l.val st.val).tx = some g ∧ g.payload = p ∧ g.seq = f.seq)) ∧
  (∀ (l : Fin 24) (st : Fin 32) (f : Frame) (c : Nat) (s : State), consume (s.unit l.val st.val) st.val f true = .yes c →
    (s.unit l.val st.val).state = .wait ∨ (s.unit l.val st.val).state = .held → f.type = 8 → f.payload.length = 0 →
    exec (.hold l st f) s = .next (s.setUnit l.val st.val
      { s.unit l.val st.val with state := .held, linkNo := some ((s.unit l.val st.val).linkNo.getD c) })) ∧
  ∀ (l : Fin 24) (st : Fin 32) (s : State),
    ((s.unit l.val st.val).state = .loop →
      exec (.loopbackEnd l st) s = .next (s.setUnit l.val st.val { s.unit l.val st.val with state := .wait })) ∧
    ((s.unit l.val st.val).state = .held →
      exec (.heldTimeout l st) s = .next (s.setUnit l.val st.val { s.unit l.val st.val with state := .wait })) ∧
    ((s.unit l.val st.val).state = .admitted → ∃ t, exec (.socLossTimeout l st) s = .next t ∧ (t.unit l.val st.val).state = .wait ∧
      (t.unit l.val st.val).outs = (s.unit l.val st.val).goSafe.outs ∧
      ((s.unit l.val st.val).missTold = false → (t.unit l.val st.val).cntAt 6 = min 65535 ((s.unit l.val st.val).cntAt 6 + 1))) ∧
    (∀ fl, (s.unit l.val st.val).state = .admitted → (s.unit l.val st.val).redundant = true → (s.unit l.val st.val).twoSocs = true →
      ∃ t g, exec (.reportFrame l st fl) s = .next t ∧ (t.unit l.val st.val).tx = some g ∧ g.type = 2 ∧ g.payload.length = 4 ∧
        g.flags.toNat.testBit 1 = true ∧ g.flags.toNat.testBit 2 = true ∧
        g.cycle = BitVec.ofNat 16 (((s.unit l.val st.val).cycle + 1) % 65536) ∧ (t.unit l.val st.val).txPorts = [false, true] ∧
        (t.unit l.val st.val).outs = (s.unit l.val st.val).outs)

/-- Field power groups (R279, R280): each row of the table that a command brings about; a group in any other state keeps. -/
def Obligations.FieldPower : Prop :=
  (∀ (g : Fin 6) (s : State), s.accepts (R.FPC_CTRL g.val) = true →
    (fpcState s g.val = 0 → ∃ t, exec (.fpcCtrlEn g true) s = .next t ∧ fpcState t g.val = 1 ∧ t.flag (F.FPC_CTRL_EN g.val) = true ∧
      t.links = s.links ∧ t.mem = s.mem) ∧
    (fpcState s g.val ≠ 2 → ∃ t, exec (.fpcCtrlEn g false) s = .next t ∧ fpcState t g.val = 0 ∧
      t.fld (F.FPC_STATUS_RETRIES g.val) = 0 ∧ t.flag (F.FPC_CTRL_EN g.val) = false ∧ t.links = s.links) ∧
    (fpcState s g.val = 2 → exec (.fpcCtrlEn g false) s = .next (fpcEn s g.val false)) ∧
    (fpcEn s g.val false).fpg g.val = {} ∧
    (fpcState s g.val = 5 → s.flag (F.FPC_CTRL_EN g.val) = true → ∃ t, exec (.fpcClr g) s = .next t ∧ fpcState t g.val = 1 ∧
      t.fld (F.FPC_STATUS_RETRIES g.val) = 0 ∧ t.links = s.links) ∧
    (fpcState s g.val ≠ 5 → exec (.fpcClr g) s = .next s)) ∧
  (∀ (g : Fin 6) (uv : BitVec 16) (s : State), ∃ u, u = s.setFld (F.FPC_SENSE_UV100 g.val)
      (BitVec.ofInt 16 (calibrated s (eff s (0x60 + 2 * g.val)) uv.toNat (0x61 + 2 * g.val))).toNat ∧
    (fpcState s g.val = 1 → ∃ t, exec (.gateAtVddfp ⟨g, uv⟩) s = .next t ∧ fpcState t g.val = 2 ∧
      t.fld (F.FPC_SENSE_UV100 g.val) = u.fld (F.FPC_SENSE_UV100 g.val) ∧ t.links = s.links) ∧
    (fpcState s g.val ≠ 1 → exec (.gateAtVddfp ⟨g, uv⟩) s = .next u) ∧
    (fpcState s g.val = 1 → exec (.shuntLimit ⟨g, uv⟩) s = .next (u.setFld (F.FPC_STATUS_STATE g.val) 3)) ∧
    (fpcState s g.val = 2 → exec (.shuntLimit ⟨g, uv⟩) s = .next (eachNat (fun t l => linkDown t l 5)
      ((u.setFld (F.FPC_STATUS_STATE g.val) 3).setFpg g.val { s.fpg g.val with settled := false }) (fpgLinks s g.val))) ∧
    (fpcState s g.val ≠ 1 → fpcState s g.val ≠ 2 → exec (.shuntLimit ⟨g, uv⟩) s = .next u) ∧
    (∀ gateUp, fpcState s g.val = 3 → exec (.limitRecovery ⟨⟨g, uv⟩, gateUp⟩) s =
      .next (u.setFld (F.FPC_STATUS_STATE g.val) (if gateUp then 2 else 1))) ∧
    (∀ gateUp, fpcState s g.val ≠ 3 → exec (.limitRecovery ⟨⟨g, uv⟩, gateUp⟩) s = .next u) ∧
    (fpcState s g.val = 2 ∨ fpcState s g.val = 3 → exec (.fastTrip ⟨g, uv⟩) s = .next (fpcFault u g.val true)) ∧
    (fpcState s g.val = 0 ∨ 3 < fpcState s g.val → exec (.fastTrip ⟨g, uv⟩) s = .next u) ∧
    (fpcState s g.val = 1 → ∃ t, exec (.fastTrip ⟨g, uv⟩) s = .next t ∧
      fpcState t g.val = (if s.fld (F.FPC_STATUS_RETRIES g.val) = 3 then 5 else 4) ∧ t.flag (F.FPC_STATUS_FAULT g.val) = true ∧
      t.flag (F.FPC_STATUS_FAST g.val) = true ∧ t.flag (F.FPC_STATUS_TIMEOUT g.val) = false ∧ t.links = s.links)) ∧
  (∀ (g : Fin 6) (s : State),
    (fpcState s g.val ≠ 3 → exec (.limitTimer g) s = .next s) ∧
    (fpcState s g.val = 3 → ∃ t, exec (.limitTimer g) s = .next t ∧
      fpcState t g.val = (if s.fld (F.FPC_STATUS_RETRIES g.val) = 3 then 5 else 4) ∧ t.flag (F.FPC_STATUS_FAULT g.val) = true ∧
      t.flag (F.FPC_STATUS_TIMEOUT g.val) = true ∧ t.flag (F.FPC_STATUS_FAST g.val) = false ∧ t.links = s.links) ∧
    (fpcState s g.val = 4 → s.fld (F.FPC_STATUS_RETRIES g.val) ≤ 2 → ∃ t, exec (.fpcRetry g) s = .next t ∧ fpcState t g.val = 1 ∧
      t.fld (F.FPC_STATUS_RETRIES g.val) = s.fld (F.FPC_STATUS_RETRIES g.val) + 1 ∧ t.links = s.links) ∧
    (fpcState s g.val ≠ 4 → exec (.fpcRetry g) s = .next s) ∧
    (fpcState s g.val = 2 → exec (.onStable g) s = .next (s.setFld (F.FPC_STATUS_RETRIES g.val) 0)) ∧
    (fpcState s g.val ≠ 2 → exec (.onStable g) s = .next s ∧ exec (.fpcSettle g) s = .next s) ∧
    (fpcState s g.val = 2 → exec (.fpcSettle g) s =
      .next (eachNat tryTrain (s.setFpg g.val { s.fpg g.val with settled := true }) (fpgLinks s g.val)))) ∧
  ∀ (l : Fin 24) (s : State), powerReady s l.val = true ↔
    5 < (s.thePlan.link l.val).fpg ∨ (s.fpg (s.thePlan.link l.val).fpg).settled = true

/-! ### Block Mover and checks (chapter 10) -/

/-- The Block Mover, the CVU and the MSE (R307, R310, R311, R313, R315 to R318, R320, R321, R323 to R326): a chain starts with the
descriptor's checks; each turn moves one burst of the next channel; an ending writes the descriptor's writeback and stops or
continues the chain; an error response halts every channel; a context restarts, and takes bytes; a job reads its range and ends; the
scrub reads the next block. -/
def Obligations.BlockMoverAndChecks : Prop :=
  (∀ (n : Fin 16) (s : State), s.accepts (R.BMV_CH_CTRL n.val) = true →
    (s.flag F.BMV_STATUS_HALT = false → chState s n.val = 0 → exec (.bmvGo n) s =
      .next (takeDesc (s.setFld (F.BMV_CH_STAT_STATE n.val) 1) n.val (s.reg (R.BMV_CH_HEAD n.val)).toNat)) ∧
    (s.flag F.BMV_STATUS_HALT = true ∨ chState s n.val ≠ 0 →
      exec (.bmvGo n) s = .next (s.setFld (F.BMV_CH_STAT_REFUSED n.val) 1)) ∧
    (chState s n.val = 1 → (s.ch n.val).ending = none → ∃ t, exec (.bmvAbort n) s = .next t ∧ chState t n.val = 2 ∧
      (t.ch n.val).ending = some (St.aborted, chElem (s.ch n.val)) ∧ t.mem = s.mem ∧ ∀ m, m ≠ n.val → t.ch m = s.ch m) ∧
    (chState s n.val = 1 → ∀ e, (s.ch n.val).ending = some (St.ok, e) → ∃ t, exec (.bmvAbort n) s = .next t ∧
      (t.ch n.val).stop = true ∧ (t.ch n.val).ending = some (St.ok, e) ∧ t.regs = s.regs) ∧
    (chState s n.val ≠ 1 → exec (.bmvAbort n) s = .next s)) ∧
  (∀ (n a : Nat) (s : State), n < 16 → mgsRange a 32 = true → a % 32 = 0 → mgsBad s a 32 = none →
    (headOk s a = true → mgsBad s (s.rd (a + 8) 4) (8 * (s.rd (a + 4) 4 % 32)) = none) →
    (descCheck s a ≠ St.ok → ((takeDesc s n a).ch n).ending = some (descCheck s a, 0) ∧ ((takeDesc s n a).ch n).desc = none) ∧
    (descCheck s a = St.ok → ((takeDesc s n a).ch n).desc = some (descAt s a) ∧ ((takeDesc s n a).ch n).ending = none ∧
      ((takeDesc s n a).ch n).done = 0 ∧ ((takeDesc s n a).ch n).eofs = 0)) ∧
  (∀ (s : State) (a : Nat), descCheck s a = St.ok → 1 ≤ s.rd (a + 4) 4 % 32 ∧ s.rd (a + 4) 4 % 32 ≤ 16 ∧
    (descAt s a).total ≤ 16777215 ∧ ((descAt s a).op = 2 → (descAt s a).scatter = false) ∧
    ((descAt s a).op = 3 → (descAt s a).scatter = true) ∧ ∀ e ∈ (descAt s a).elems, e.2 ≠ 0) ∧
  (∀ (d : HostData) (n : Nat) (x : BmvDesc) (s : State), s.dbgHalted = false → s.flag F.BMV_STATUS_HALT = false → bmvServes s = true →
    (turns s).find? (mayBurst s) = some n → (s.ch n).desc = some x →
    exec (.bmvBurst d) s = .next { channelBurst s n x d with bmv := { (channelBurst s n x d).bmv with rr := (n + 1) % 16 } }) ∧
  (∀ (n : Nat) (x : BmvDesc) (d : HostData) (s : State), (s.ch n).done < x.elems.length → (s.ch n).eofs = 0 →
    elemStatus s (s.fld (F.BMV_CH_CFG_PART n)) x (s.ch n).done ≠ St.ok →
    ((channelBurst s n x d).ch n).ending = some (elemStatus s (s.fld (F.BMV_CH_CFG_PART n)) x (s.ch n).done, (s.ch n).done + 1) ∧
    (channelBurst s n x d).mem = s.mem ∧ (channelBurst s n x d).regs = s.regs ∧ ∀ m, m ≠ n → (channelBurst s n x d).ch m = s.ch m) ∧
  (∀ (n : Fin 16) (s : State), s.dbgHalted = false →
    ((s.ch n.val).ending = none → exec (.bmvDescriptorEnd n) s = .next s) ∧
    (∀ st el, (s.ch n.val).ending = some (st, el) → st ≠ St.ok → st < 256 →
      snapClosed s ((s.reg (R.BMV_CH_DESC n.val)).toNat + 0x18) 8 = false → ∃ t, exec (.bmvDescriptorEnd n) s = .next t ∧
      chState t n.val = 0 ∧ t.fld (F.BMV_CH_STAT_STATUS n.val) = st ∧ t.regBit R.BMV_END n.val = true ∧ t.ch n.val = {})) ∧
  (∀ (n : Fin 16) (a : Word) (w : Bool) (s : State),
    (chState s n.val = 0 → exec (.bmvErrorResponse n a w) s = .next s) ∧
    (chState s n.val ≠ 0 → ∃ t, exec (.bmvErrorResponse n a w) s = .next t ∧ t.flag F.BMV_STATUS_HALT = true ∧ t.mem = s.mem ∧
      (∀ m, m < 16 → chState s m ≠ 0 → chState t m = 2 ∧ (t.ch m).ending = some (St.busError, chElem (s.ch m))) ∧
      (∀ m, m < 16 → chState s m = 0 → chState t m = 0) ∧
      (s.flag F.SYS_BERR_INFO_VALID = false → t.reg R.SYS_BERR_ADDR = a ∧ t.reg R.SYS_BERR_INFO =
        word (2 ^ 17 + (if w then 2 ^ 16 else 0) + s.fld (F.BMV_CH_CFG_PART n.val) % 64 * 256 + 0x48)) ∧
      (s.flag F.BMV_HALT_INFO_VALID = false → t.reg R.BMV_HALT_ADDR = a ∧ t.flag F.BMV_HALT_INFO_WRITE = w) ∧
      (s.flag F.BMV_HALT_INFO_VALID = true → t.reg R.BMV_HALT_ADDR = s.reg R.BMV_HALT_ADDR ∧ t.flag F.BMV_HALT_INFO_OVF = true))) ∧
  (∀ s : State, s.accepts R.BMV_CTRL = true →
    ((∀ m, m < 16 → chState s m = 0) → exec .haltClr s = .next (s.setFld F.BMV_STATUS_HALT 0)) ∧
    (∀ m, m < 16 → chState s m ≠ 0 → exec .haltClr s = .next s)) ∧
  (∀ (c : Fin 4) (k : Fin 3) (v : Word) (s : State), s.accepts (R.CVU_CFG c.val) = true → s.accepts (R.CVU_DATA c.val) = true →
    (s.flag (F.CVU_CFG_BUSY c.val) = false → exec (.cvuRestart c) s = .next (s.setCvu c.val (cvuSeed s c.val none)) ∧
      exec (.cvuData c k v) s = .next (cvuFeed s c.val (leBytes (2 ^ k.val) v.toNat))) ∧
    (s.flag (F.CVU_CFG_BUSY c.val) = true → exec (.cvuRestart c) s = .next (s.setFld (F.CVU_CFG_IGN c.val) 1) ∧
      exec (.cvuData c k v) s = .next (s.setFld (F.CVU_CFG_IGN c.val) 1))) ∧
  (∀ (c : Nat) (l m : List Byte) (s : State), cvuFeed (cvuFeed s c l) c m = cvuFeed s c (l ++ m)) ∧
  (∀ a n : Nat, ((accesses a n n).map Prod.snd).sum = n) ∧
  (∀ (a n : Nat), ∀ p ∈ accesses a n n, p.2 ∈ [1, 2, 4, 8, 16, 32, 64] ∧ p.1 % p.2 = 0 ∧ a ≤ p.1 ∧ p.1 + p.2 ≤ a + n) ∧
  (∀ s : State, s.accepts R.MSE_CTRL = true → (∀ j, s.mse.job = some j → exec .mseGo s = .next s) ∧
    (s.mse.job = none → ∃ t, exec .mseGo s = .next t ∧ t.flag F.MSE_STATUS_BUSY = true ∧
      t.mse.job = some ((s.reg R.MSE_START).toNat, s.fld F.MSE_LEN_LEN, s.flag F.MSE_CTRL_COMPARE) ∧ t.mem = s.mem)) ∧
  (∀ (s : State) (a n : Nat) (cmp : Bool), s.mse.job = some (a, n, cmp) → s.dbgHalted = false →
    a % 4 ≠ 0 ∨ n % 4 ≠ 0 ∨ n < 4 ∨ 0x4000000 < n → ∃ t, exec .mseJobEnd s = .next t ∧ t.mse.job = none ∧
      t.reg R.MSE_STATUS = word (2 ^ 30 + St.badDescriptor) ∧ t.mem = s.mem) ∧
  (∀ (s s1 s2 : State) (g : Region) (a n : Nat) (cmp : Bool), s.mse.job = some (a, n, cmp) → s.dbgHalted = false → a % 4 = 0 →
    n % 4 = 0 → 4 ≤ n → n ≤ 0x4000000 → regionFor a n = some g → mseMay a n = true → mseWay s g a n = (none, s1) →
    eccRead s1 g a n = (none, s2) → ∃ t, exec .mseJobEnd s = .next t ∧ t.mse.job = none ∧ t.reg R.MSE_RESULT = crc32c (s2.look a n) ∧
      t.reg R.MSE_STATUS = word (2 ^ 30 + (if cmp = true ∧ crc32c (s2.look a n) ≠ s2.reg R.MSE_EXPECT then St.checkFail else St.ok))) ∧
  ∀ (s : State) (p : Prog), s.flag F.MSE_SCRUB_CFG_EN = true → s.plan.isSome = true → s.mse.job = none → s.dbgHalted = false →
    scrubbed s s.mse.engine = true → s.mse.engine < 64 → (progsOf s s.mse.engine)[s.mse.prog]? = some p →
    exec .mseScrubRead s = .next (scrubBlock s p)

/-! ### Non-volatile storage (chapter 12) -/

/-- Region passwords, the journal, the power-fail save, the restore and the Parameter Flash (R357, R358, R361 to R368, R371, R373 to R378):
a right candidate unlocks and the eighth wrong one locks; a change and a firmware write are queued; the write in front of the queue is
checked, committed, applied and told; a trigger saves only while the engine is armed; a record is sealed at the end; a restore is
refused outside its conditions; one PFL operation runs at a time, by its owner. -/
def Obligations.Storage : Prop :=
  (∀ (v : Word) (s : State), s.accepts R.NVR_PWD_R = true → s.accepts R.NVR_PWD_W = true →
    (regionLocked s (s.fld F.NVR_PWD_SEL_REGION) = true → exec (.nvrPwdR v) s = .next s ∧ exec (.nvrPwdW v) s = .next s) ∧
    (regionLocked s (s.fld F.NVR_PWD_SEL_REGION) = false → v = regionKey s (s.fld F.NVR_PWD_SEL_REGION) false →
      ∃ t, exec (.nvrPwdR v) s = .next t ∧ regionOpen t (s.fld F.NVR_PWD_SEL_REGION) false = true ∧
        (∀ r, r < 8 → r ≠ s.fld F.NVR_PWD_SEL_REGION → regionOpen t r false = regionOpen s r false) ∧
        (∀ r, r < 8 → regionOpen t r true = regionOpen s r true) ∧ t.nvr = s.nvr) ∧
    (regionLocked s (s.fld F.NVR_PWD_SEL_REGION) = false → v = regionKey s (s.fld F.NVR_PWD_SEL_REGION) true →
      ∃ t, exec (.nvrPwdW v) s = .next t ∧ regionOpen t (s.fld F.NVR_PWD_SEL_REGION) true = true ∧
        (∀ r, r < 8 → regionOpen t r false = regionOpen s r false) ∧ t.nvr = s.nvr) ∧
    (∀ w, regionLocked s (s.fld F.NVR_PWD_SEL_REGION) = false → v ≠ regionKey s (s.fld F.NVR_PWD_SEL_REGION) w →
      ∃ t, (if w then exec (.nvrPwdW v) s else exec (.nvrPwdR v) s) = .next t ∧ t.flag F.NVR_PWD_STAT_FAIL = true ∧
        SMap.get (fun _ => 0) t.nvr.tries (s.fld F.NVR_PWD_SEL_REGION) =
          SMap.get (fun _ => 0) s.nvr.tries (s.fld F.NVR_PWD_SEL_REGION) + 1 ∧
        regionLocked t (s.fld F.NVR_PWD_SEL_REGION) =
          decide (SMap.get (fun _ => 0) s.nvr.tries (s.fld F.NVR_PWD_SEL_REGION) = 7))) ∧
  (∀ s : State, s.accepts R.NVR_PWD_CTRL = true → s.accepts R.NVR_JCTRL = true →
    (∃ t, exec .nvrPwdLock s = .next t ∧ t.nvr = s.nvr ∧
      (t.fld F.NVR_STATUS_WUNLOCK).testBit (s.fld F.NVR_PWD_SEL_REGION) = false ∧
      (t.fld F.NVR_STATUS_RUNLOCK).testBit (s.fld F.NVR_PWD_SEL_REGION) = false) ∧
    (regionLocked s (s.fld F.NVR_PWD_SEL_REGION) = false → regionOpen s (s.fld F.NVR_PWD_SEL_REGION) true = true →
      exec .chgR s = .next { s with nvr := { s.nvr with
        queue := s.nvr.queue ++ [⟨.key (s.fld F.NVR_PWD_SEL_REGION) false (s.reg R.NVR_PWD_NEW), 0⟩] } } ∧
      exec .chgW s = .next { s with nvr := { s.nvr with
        queue := s.nvr.queue ++ [⟨.key (s.fld F.NVR_PWD_SEL_REGION) true (s.reg R.NVR_PWD_NEW), 0⟩] } }) ∧
    (regionOpen s (s.fld F.NVR_PWD_SEL_REGION) true = false →
      exec .chgR s = .next (s.setFld F.NVR_PWD_STAT_FAIL 1) ∧ exec .chgW s = .next (s.setFld F.NVR_PWD_STAT_FAIL 1)) ∧
    exec .nvrJctrlGo s = .next { s with nvr := { s.nvr with queue := s.nvr.queue ++
      [⟨.firmware (s.reg R.NVR_JSRC).toNat (s.reg R.NVR_JLEN).toNat, (s.reg R.NVR_JDST).toNat⟩] } }) ∧
  (∀ (s : State) (q : JReq) (l : List JReq), nvrServes s = true → s.flag F.NVR_STATUS_READY = true → s.saving = false →
    s.nvr.queue = q :: l →
    (∀ e, jFault s q = some e → exec .journaledWriteEnd s = .next (jTell (mgsUe
      (busErrOf { s with nvr := { s.nvr with queue := l } } 0x4B 0 e false) e) q St.busError)) ∧
    (jCheck s q = St.ok → jFault s q = none → exec .journaledWriteEnd s =
      .next (jTell ((jApply (jCommit { s with nvr := { s.nvr with queue := l } } q) q).wr journalBase 4 0) q St.ok)) ∧
    (jCheck s q ≠ St.ok → exec .journaledWriteEnd s = .next (jTell { s with nvr := { s.nvr with queue := l } } q (jCheck s q)))) ∧
  (∀ (s : State) (q : JReq), (jCommit s q).rd journalBase 4 = 0x4A434D54) ∧
  (∀ s : State, s.powered 7 = true → s.flag F.NVR_STATUS_READY = false →
    5 ≤ s.fld F.RST_SEQ_STEP ∨ s.fld F.RST_SEQ_STEP = 0 → exec .nvsRelease s = .next (ledgerFlush (agmStart (nvrReady s)))) ∧
  (∀ s : State, s.rd journalBase 4 ≠ 0x4A434D54 → (jRecover s).mem = s.mem ∧ (jRecover s).fld F.NVR_STATUS_RECOV = 0) ∧
  (∀ s : State,
    (s.flag F.NVR_PF_CTRL_PFN_EN = true → s.armed = true → exec (.powerFailTrigger true) s = .next (startSave (aonEvent s 0) 1)) ∧
    (s.armed = false → exec (.powerFailTrigger true) s = .next (aonEvent s 0) ∧ exec (.powerFailTrigger false) s = .next s) ∧
    (s.flag F.NVR_PF_CTRL_MON_EN = true → s.armed = true → exec (.powerFailTrigger false) s = .next (startSave s 2)) ∧
    (s.accepts R.NVR_PF_CTRL = true → s.service = true → exec .test s = .next (startSave s 3)) ∧
    (s.accepts R.NVR_PF_CTRL = true → s.service = false → exec .test s = .next s)) ∧
  (∀ (s : State) (k : Nat), s.saving = true → startSave s k = s) ∧
  (∀ (s : State) (k : Nat), s.saving = false → s.dbgHalted = false →
    (startSave s k).saving = true ∧ (startSave s k).nvr.cause = k ∧ (startSave s k).nvr.tbPf = s.tb ∧
    (startSave s k).dpr.open' = false ∧ (startSave s k).nvr.queue = [] ∧ ∀ n, n < 64 → ((startSave s k).le n).k.stopped = true) ∧
  (∀ s : State, s.saving = true → allDrained s = false → exec .saveSeal s = .next s) ∧
  (∀ s : State, s.saving = true → allDrained s = true →
    (s.rst.after = none → ∃ t, exec .saveSeal s = .next t ∧ t = finishSave s ∧ t.pfstop = true ∧ t.saving = false) ∧
    (∀ h, s.rst.after = some h → (finishSave s).rst.after = some h →
      (h.scope ≠ 4 → exec .saveSeal s = .next (enterReset (finishSave s) h.causes h.scope)) ∧
      (h.scope = 4 → exec .saveSeal s = .next (hifResetOf
        { finishSave s with rst := { (finishSave s).rst with after := none } } h.causes)))) ∧
  (∀ s : State, s.accepts R.NVR_RET_CTRL = true →
    (s.cycEn = true ∨ s.plan = none ∨ s.flag F.NVR_STATUS_READY = false → ∃ t, exec .restore s = .next t ∧
      t.fld F.NVR_RET_STAT_RESULT = St.modeRefused ∧ t.flag F.NVR_RET_STAT_DONE = true ∧ t.mem = s.mem ∧ t.slots = s.slots) ∧
    (s.cycEn = false → s.plan.isSome = true → s.flag F.NVR_STATUS_READY = true → ∃ t, exec .restore s = .next t ∧
      t.flag F.NVR_RET_STAT_BUSY = true ∧ t.mem = s.mem ∧ t.slots = s.slots) ∧
    exec .invalidate s = .next (invalidate s)) ∧
  (∀ s : State, s.flag F.NVR_RET_STAT_BUSY = true →
    (newest s = none → ∃ t, exec .restoreEnd s = .next t ∧ t.fld F.NVR_RET_STAT_RESULT = St.checkFail ∧ t.mem = s.mem ∧ t.slots = s.slots) ∧
    (∀ h, newest s = some h → retLe s h 0x10 4 ≠ s.thePlan.id ∨ retLe s h 0x14 4 ≠ s.thePlan.ver ∨ retLe s h 0x18 4 ≠ packCrc s.thePlan →
      ∃ t, exec .restoreEnd s = .next t ∧ t.fld F.NVR_RET_STAT_RESULT = St.stale ∧ t.mem = s.mem ∧ t.slots = s.slots)) ∧
  (∀ (w : Writer) (s : State), s.accepts R.PFL_CMD = true →
    (pflOwner w (pflAddr s / 4096) = false →
      exec (.pflProgram w) s = .next (pflRefuse (s.setFld F.PFL_CMD_OP 1) St.notOwner) ∧
      exec (.pflErase w) s = .next (pflRefuse (s.setFld F.PFL_CMD_OP 2) St.notOwner)) ∧
    (pflOwner w (pflAddr s / 4096) = true → s.pfl.op = none → s.pfl.suspended ≠ some (pflAddr s / 4096) →
      ∃ t, exec (.pflProgram w) s = .next t ∧ t.flag F.PFL_STATUS_BUSY = true ∧ t.mem = s.mem ∧
        t.pfl.op = some (.program (pflAddr s) (s.reg R.PFL_DATA_LO) (s.reg R.PFL_DATA_HI))) ∧
    (pflOwner w (pflAddr s / 4096) = true → s.flag F.PFL_STATUS_BUSY = false →
      ∃ t, exec (.pflErase w) s = .next t ∧ t.flag F.PFL_STATUS_BUSY = true ∧ t.mem = s.mem ∧
        t.pfl.op = some (.erase (pflAddr s / 4096))) ∧
    (pflOwner w (pflAddr s / 4096) = true → s.flag F.PFL_STATUS_BUSY = true →
      exec (.pflErase w) s = .next (pflRefuse (s.setFld F.PFL_CMD_OP 2) St.busy))) ∧
  (∀ (k : Nat) (s : State), s.accepts R.PFL_CMD = true →
    (s.pfl.op = some (.erase k) → ∃ t, exec .pflSuspend s = .next t ∧ t.pfl.suspended = some k ∧ t.pfl.op = none ∧
      t.flag F.PFL_STATUS_SUSPENDED = true ∧ t.mem = s.mem) ∧
    (s.pfl.op = none → s.pfl.suspended = some k → ∃ t, exec .pflResume s = .next t ∧ t.pfl.op = some (.erase k) ∧
      t.pfl.suspended = none ∧ t.flag F.PFL_STATUS_SUSPENDED = false ∧ t.fld F.PFL_STATUS_SECTOR = k % 256 ∧ t.mem = s.mem) ∧
    (∀ a lo hi, s.pfl.op = some (.program a lo hi) → s.pfl.suspended = some k →
      (∃ t, exec .pflResume s = .next t ∧ t.pfl.resuming = true ∧ t.pfl.op = s.pfl.op ∧ t.mem = s.mem) ∧
      (s.pfl.resuming = true → ∃ t, exec .pflOperationEnd s = .next t ∧ t.pfl.op = some (.erase k) ∧ t.pfl.suspended = none))) ∧
  (∀ (k a : Nat) (s : State), s.pfl.op = some (.erase k) → s.pfl.suspended = none → ∃ t, exec .pflOperationEnd s = .next t ∧ t.flag F.PFL_STATUS_DONE = true ∧
    t.pfl.op = none ∧ (within a (0x58000000 + 4096 * k) 4096 = false → t.byte a = s.byte a) ∧
    (k < 256 → within a (0x58000000 + 4096 * k) 4096 = true → t.byte a = 0xFF)) ∧
  ∀ (a : Nat) (lo hi : Word) (s : State), s.pfl.op = some (.program a lo hi) → pflErased s a = true →
    ∃ t, exec .pflOperationEnd s = .next t ∧ t.rd (0x58000000 + a) 4 = lo.toNat ∧ t.rd (0x58000000 + a + 4) 4 = hi.toNat ∧
      t.flag F.PFL_STATUS_DONE = true

/-! ### Resets, boot, entropy and clocks (chapters 13 and 14) -/

/-- Resets (R386, R417, R419 to R422, R424 to R428, R438): each source asks for its scope; a request in bring-up of a narrower scope is
absorbed, and a wider one restarts the sequence; a save comes first where R420 says so; an entry puts the machine at its scope's first
step, with RSTOUT_N asserted and the plan gone; the steps follow each other; a block reset closes the wrapper and then resets. -/
def Obligations.Resets : Prop :=
  (∀ s : State,
    exec .bor s = .next (requestReset s (2 ^ 1) 1) ∧
    exec .rstN s = .next (requestReset { s with rst := { s.rst with rstN := true } } (2 ^ 2) 2) ∧
    exec .powerOnReset s = .next (requestReset
      { s with rst := { s.rst with supplyOut := false }, pmu := { s.pmu with state := .active } } (2 ^ 0) 1) ∧
    (debugLevel s = 2 → exec .debugSystemReset s = .next (requestReset s (2 ^ 7) 2)) ∧
    (debugLevel s ≠ 2 → exec .debugSystemReset s = .next s) ∧
    exec .pcieReset s = .next (hifResetBy s 9) ∧ exec .brownOutWarning s = .next (aonEvent s 14)) ∧
  (∀ (v : Word) (s : State),
    (v.toNat / 65536 = 0x5253 → v.toNat % 4 = 1 → exec (.rstCtrl v) s = .next (requestReset s (2 ^ 6) 2)) ∧
    (v.toNat / 65536 = 0x5253 → v.toNat % 4 = 2 → exec (.rstCtrl v) s = .next (requestReset s (2 ^ 6) 3)) ∧
    (v.toNat / 65536 ≠ 0x5253 ∨ v.toNat % 4 = 0 ∨ v.toNat % 4 = 3 → exec (.rstCtrl v) s = .next s)) ∧
  (∀ (up : Bool) (w sp : Fin 4) (s : State), hifUp s = true →
    (up = true → s.flag F.HIF_CTRL_LTSSM_EN = true → exec (.dataLinkChange up w sp) s =
      .next (evcEvent (s.setReg R.HIF_LINK (word (65536 + w.val * 4096 + sp.val * 256))) 225)) ∧
    (up = true → s.flag F.HIF_CTRL_LTSSM_EN = false → exec (.dataLinkChange up w sp) s = .next s) ∧
    (up = false → exec (.dataLinkChange up w sp) s = .next (hifResetBy (evcEvent (s.setReg R.HIF_LINK 0) 225) 9))) ∧
  (∀ (s : State) (c k : Nat), s.pmu.state = .backup → requestReset s c k = s) ∧
  (∀ (s : State) (f : NewReset) (c k : Nat), s.pmu.state ≠ .backup → freshReset s = some f → requestReset s c k = joinReset s f c k ∧
    (k = 2 ∨ k = 3 → 2 ≤ f.scope → f.scope ≤ 3 → (joinReset s f c k).reg R.RST_LAST = word (min f.scope k * 2 ^ 24 + (f.causes ||| c)))) ∧
  (∀ (s : State) (c k : Nat), s.pmu.state ≠ .backup → freshReset s = none → s.fld F.RST_SEQ_STEP ≠ 0 → s.fld F.RST_SEQ_STEP < k →
    requestReset s c k = recordReset s s.tb c k (s.fld F.RST_SEQ_STEP) ((s.reg R.CYC_CYCNUM).toNat % 65536)) ∧
  (∀ (s : State) (c k : Nat), s.pmu.state ≠ .backup → freshReset s = none → s.fld F.RST_SEQ_STEP = 0 → s.saving = false →
    (k = 1 ∨ c &&& clkfailBit ≠ 0 ∨ s.flag F.RST_CFG_SAVE = false ∨ s.armed = false → requestReset s c k = enterReset s c k) ∧
    (k ≠ 1 → c &&& clkfailBit = 0 → s.flag F.RST_CFG_SAVE = true → s.armed = true →
      requestReset s c k = { startSave s 4 with rst := { (startSave s 4).rst with after := some ⟨c, k⟩ } })) ∧
  (∀ (s : State) (c k : Nat), k = 2 ∨ k = 3 → (enterReset s c k).tb = s.tb ∧ (enterReset s c k).plan = none ∧
    (enterReset s c k).fld F.RST_SEQ_STEP = k ∧ (enterReset s c k).rst.rstOut = true ∧ (enterReset s c k).cycEn = false ∧
    (enterReset s c k).reg R.RST_LAST = word (k * 2 ^ 24 + c) ∧ (enterReset s c k).boot.unlock = s.boot.unlock ∧
    (enterReset s c k).boot.fuses = s.boot.fuses ∧ (enterReset s c k).bkd = s.bkd ∧
    ((∀ l, fedLink s l = false) → (enterReset s c k).units = s.units)) ∧
  (∀ (st : BitVec 4) (a b : Fin 3) (s : State), stepHeld s (s.fld F.RST_SEQ_STEP) = false → s.pmu.state = .active →
    exec (.bringupStepEnd st a b) s = .next (endStep { s with rst := { s.rst with fresh := none } } st.toNat
      (fun k => if k = 0 then a.val else b.val))) ∧
  (∀ (s : State) (st : Nat) (fl : Nat → Nat),
    (s.fld F.RST_SEQ_STEP = 2 → (endStep s st fl).fld F.RST_SEQ_STEP = 3) ∧
    (s.fld F.RST_SEQ_STEP = 3 → s.rst.xtalDone = false → endStep s st fl = s) ∧
    (s.fld F.RST_SEQ_STEP = 3 → s.rst.xtalDone = true → (endStep s st fl).fld F.RST_SEQ_STEP = 4 ∧ (endStep s st fl).rst.rstOut = false ∧
      (warmStart s = false → (endStep s st fl).flag F.CKG_STATUS_XTAL_GOOD = s.rst.xtalOk ∧
        (endStep s st fl).flag F.CKG_STATUS_MC_LOCK = true) ∧
      (warmStart s = true → (endStep s st fl).flag F.CKG_STATUS_MC_LOCK = s.flag F.CKG_STATUS_MC_LOCK ∧
        (endStep s st fl).flag F.CKG_STATUS_MC_PATH = s.flag F.CKG_STATUS_MC_PATH)) ∧
    (s.fld F.RST_SEQ_STEP = 4 → (endStep s st fl).fld F.RST_SEQ_STEP = 5) ∧
    (s.fld F.RST_SEQ_STEP = 5 → (endStep s st fl).fld F.RST_SEQ_STEP = 6)) ∧
  (∀ s : State, s.rst.rstN = true → s.fld F.RST_SEQ_STEP = 2 →
    exec .rstNRelease s = .next (stepAction { s with rst := { s.rst with rstN := false } } 2)) ∧
  (∀ (g : Bool) (s : State), s.rst.xtalDone = false →
    exec (.crystalStartDelay g) s = .next { s with rst := { s.rst with xtalDone := true, xtalOk := g } }) ∧
  (∀ (b : Bool) (v : Word) (s : State), exec (.rstBlk b v) s = .next (blockWrite s b v)) ∧
  ∀ (k : Fin 32) (s : State),
    (has s.rst.closing k.val = false → exec (.wrapperClosed k) s = .next s) ∧
    (has s.rst.closing k.val = true → exec (.wrapperClosed k) s = .next (setHeld (blockReset
      { s with rst := { s.rst with closing := dropFrom s.rst.closing k.val } } k.val) k.val true))

/-- Boot trust and entropy (R399, R400, R402, R407 to R410, R412, R415): a right START_OK in time confirms the running slot; WDT_SP's
expiry resets; a challenge expires; the sixth passed window of a start-up test enters OK, a failed test leaves it, and a request is
served, waits or fails with ENT's state. -/
def Obligations.BootAndEntropy : Prop :=
  (∀ (v : Word) (s : State),
    (v ≠ 0x53544F4B ∨ s.boot.wdt ≠ .confirm → exec (.spmStartOk v) s = .next s) ∧
    (v = 0x53544F4B → s.boot.wdt = .confirm → ∃ t, exec (.spmStartOk v) s = .next t ∧ t.flag F.SPM_BOOT_STAT_CONFIRMED = true ∧
      t.flag F.SPM_BOOT_STAT_TRIAL = false ∧ t.boot.wdt = .own ∧ t.counts.pending = false ∧ t.counts.fail (runningSlot s) = 0)) ∧
  (∀ s : State, s.sp.k.halted = false →
    (s.boot.wdt = .off → s.flag F.WDT_SP_CTRL_EN = false → exec .wdtSpExpiry s = .next s) ∧
    (s.boot.wdt = .own → exec .wdtSpExpiry s = .next (requestReset s (2 ^ 4) 2)) ∧
    (s.boot.wdt = .confirm → exec .wdtSpExpiry s = .next (requestReset
      { s with rst := { s.rst with timeout := some (runningSlot s) } } (2 ^ 4) 2))) ∧
  (∀ s : State, s.rst.timeout = some 0 → (enterReset s (2 ^ 4) 2).fld F.SPM_BOOT_ERR_ERR_A = St.timeout) ∧
  (∀ s : State, s.rst.timeout = some 1 → (enterReset s (2 ^ 4) 2).fld F.SPM_BOOT_ERR_ERR_B = St.timeout) ∧
  (∀ s : State, exec .challengeExpiry s = .next { s with boot := { s.boot with challenge := none } }) ∧
  (∀ (l : List Byte) (s : State), s.boot.challenge = none → (judgeResponse s l).1 = St.authFail ∧
    (judgeResponse s l).2.boot.unlock = s.boot.unlock ∧ (judgeResponse s l).2.boot.authFails = s.boot.authFails + 1) ∧
  (∀ (lo hi : BitVec 512) (s : State), let k := rawTests s lo hi
    (2 ≤ s.fld F.ENT_STATUS_STATE → exec (.entWindowEnd lo hi) s = .next s) ∧
    (s.fld F.ENT_STATUS_STATE < 2 → (k.rct = true ∨ k.apt = true) → exec (.entWindowEnd lo hi) s = .next (entFailure s k.rct k.apt)) ∧
    (k.rct = false → k.apt = false → ∀ u, u = { s with ent := { s.ent with last := k.last, run := k.run } } →
      (s.fld F.ENT_STATUS_STATE = 0 → s.ent.passes < 5 →
        exec (.entWindowEnd lo hi) s = .next { u with ent := { u.ent with passes := s.ent.passes + 1 } }) ∧
      (s.fld F.ENT_STATUS_STATE = 0 → s.ent.passes = 5 → exec (.entWindowEnd lo hi) s = .next (entEnterOk u)) ∧
      (s.fld F.ENT_STATUS_STATE = 1 → s.ent.served < 1024 → exec (.entWindowEnd lo hi) s =
        .next { u with ent := { u.ent with cond := some (Config.sha256 (leBytes 64 lo.toNat ++ leBytes 64 hi.toNat)) } }) ∧
      (s.fld F.ENT_STATUS_STATE = 1 → 1024 ≤ s.ent.served → exec (.entWindowEnd lo hi) s = .next (entReseed u)))) ∧
  (∀ (lo hi : BitVec 512) (s : State), 0 < s.ent.run → (∀ i, i < 41 → lo.getLsbD i = s.ent.last) → (rawTests s lo hi).rct = true) ∧
  (∀ (lo hi : BitVec 512) (s : State), (∀ i, i < 511 → lo.getLsbD i ≠ lo.getLsbD (i + 1)) → (∀ i, i < 511 → hi.getLsbD i ≠ hi.getLsbD (i + 1)) →
    s.ent.run ≤ 1 → (rawTests s lo hi).rct = false ∧ (rawTests s lo hi).apt = false) ∧
  (∀ (r a : Bool) (s : State), s.ent.waiting = [] →
    (s.fld F.ENT_STATUS_STATE = 1 → (entFailure s r a).fld F.ENT_STATUS_STATE = 2) ∧
    (s.fld F.ENT_STATUS_STATE = 0 → s.fld F.ENT_STATUS_RETRIES = 7 → (entFailure s r a).fld F.ENT_STATUS_STATE = 3) ∧
    (s.fld F.ENT_STATUS_STATE = 0 → s.fld F.ENT_STATUS_RETRIES < 7 → (entFailure s r a).fld F.ENT_STATUS_STATE = 2 ∧
      (entFailure s r a).fld F.ENT_STATUS_RETRIES = s.fld F.ENT_STATUS_RETRIES + 1) ∧
    ∀ k, k < 8 → (entFailure s r a).reg (R.ENT_OUT k) = 0) ∧
  (∀ s : State,
    (s.fld F.ENT_STATUS_STATE = 2 → s.fld F.ENT_STATUS_RETRIES < 8 → exec .retryWaitEnd s = .next (s.setFld F.ENT_STATUS_STATE 0)) ∧
    (s.fld F.ENT_STATUS_STATE ≠ 2 → exec .retryWaitEnd s = .next s) ∧
    (s.fld F.ENT_STATUS_STATE ≠ 1 → exec .drbgReseed s = .next s) ∧
    (s.fld F.ENT_STATUS_STATE = 1 → s.ent.cond.isSome = true → s.ent.waiting = [] →
      exec .drbgReseed s = .next { s with ent := { s.ent with cond := none, served := 0 } }) ∧
    (s.fld F.ENT_STATUS_STATE = 1 → s.ent.cond = none → exec .drbgReseed s = .next { s with ent := { s.ent with served := 1024 } })) ∧
  ∀ (v : Word) (s : State), v.toNat.testBit 31 = true → s.flag F.ENT_REQ_STAT_BUSY = false →
    ∃ t, exec (.entReq v) s = .next t ∧
      (s.fld F.ENT_STATUS_STATE = 1 → s.ent.served < 1024 → s.ent.waiting = [] → t.reg R.ENT_REQ_STAT = 0x40000000) ∧
      (s.fld F.ENT_STATUS_STATE = 1 → 1024 ≤ s.ent.served → t.flag F.ENT_REQ_STAT_BUSY = true ∧ t.ent.waiting.contains .req = true) ∧
      (s.fld F.ENT_STATUS_STATE ≠ 1 → s.ent.first = false → t.reg R.ENT_REQ_STAT = word (0x40000000 + St.entFail) ∧
        ∀ k, k < 8 → t.reg (R.ENT_OUT k) = 0) ∧
      (s.fld F.ENT_STATUS_STATE ≠ 1 → s.ent.first = true → t.flag F.ENT_REQ_STAT_BUSY = true) ∧ t.mem = s.mem

/-- Clocks (R430, R432 to R437, R439): a second window outside in a row, or a lock drop, is a failure of its source; a promoted one
resets with source 5; a relock and good counts return a source; RESUME is accepted only once PLL_CL is stable; an interval steps the
trim code toward the expected count; STEP waits for the boundary while the cycle runs. -/
def Obligations.Clocks : Prop :=
  (∀ (k : Fin 7) (out : Bool) (s : State),
    (out = false ∨ has s.clk.badWin k.val = false ∨ (s.fld F.CKG_MON_CTRL_EN).testBit k.val = false →
      exec (.clockMonitorWindow k out) s = .next { s with clk := { s.clk with badWin := putIn s.clk.badWin k.val out } }) ∧
    (out = true → has s.clk.badWin k.val = true → (s.fld F.CKG_MON_CTRL_EN).testBit k.val = true →
      exec (.clockMonitorWindow k out) s =
        .next (clockFail { s with clk := { s.clk with badWin := putIn s.clk.badWin k.val true } } k.val))) ∧
  (∀ (p : Pll) (s : State), exec (.pllLockDrop p) s = .next (clockFail s (pllSource p))) ∧
  (∀ (k : Nat) (s : State), live s k = false → k < 4 → (s.fld F.CKG_MON_CTRL_PROMOTE).testBit k = true →
    clockFail s k = requestReset { markFail s k with rst := { (markFail s k).rst with
      xtalOk := (markFail s k).rst.xtalOk && decide (k ≠ 0) } } (2 ^ 5) 2) ∧
  (∀ (s : State), live s 1 = false → (s.fld F.CKG_MON_CTRL_PROMOTE).testBit 1 = false →
    (clockFail s 1).flag F.CKG_STATUS_CL_PATH = true ∧ (clockFail s 1).flag F.CKG_STATUS_CL_LOCK = false ∧
    (clockFail s 1).clk.clFailed = true ∧ (clockFail s 1).regBit R.CKG_MON_STAT 1 = true ∧ (clockFail s 1).mcr.nmiNew = true ∧
    (s.flag F.CKG_CL_CTRL_PENDING = true → (clockFail s 1).flag F.CKG_CL_CTRL_REFUSED = true ∧
      (clockFail s 1).flag F.CKG_CL_CTRL_PENDING = false)) ∧
  (∀ s : State,
    (∃ t, exec (.pllRelock .cl) s = .next t ∧ t.flag F.CKG_STATUS_CL_LOCK = true ∧ live t 1 = false ∧
      t.flag F.CKG_STATUS_CL_PATH = s.flag F.CKG_STATUS_CL_PATH) ∧
    (∃ t, exec (.pllRelock .mc) s = .next t ∧ t.flag F.CKG_STATUS_MC_LOCK = true ∧ t.flag F.CKG_STATUS_MC_PATH = false ∧
      live t 2 = false) ∧
    (s.flag F.CKG_STATUS_XTAL_GOOD = true → exec (.pllRelock .lk) s =
      .next (eachNat tryTrain ((clearLive s 3).setFld F.CKG_STATUS_LK_LOCK 1) (List.range 24))) ∧
    (s.flag F.CKG_STATUS_XTAL_GOOD = false → exec (.pllRelock .lk) s = .next (clearLive s 3)) ∧
    exec (.pllRelock .pcie) s = .next (clearLive s 4) ∧ exec (.pllRelock .twl) s = .next (clearLive s 5) ∧
    (∃ t, exec .xtalGood s = .next t ∧ t.flag F.CKG_STATUS_XTAL_GOOD = true ∧ t.flag F.CKG_STATUS_REF_IOSC = false ∧ live t 0 = false) ∧
    (s.flag F.CKG_STATUS_CL_LOCK = true → exec .clStable s = .next (s.setFld F.CKG_STATUS_CL_STABLE 1)) ∧
    (s.flag F.CKG_STATUS_CL_STABLE = true → exec .clResume s = .next (s.setFld F.CKG_CL_CTRL_PENDING 1)) ∧
    (s.flag F.CKG_STATUS_CL_STABLE = false → exec .clResume s = .next (s.setFld F.CKG_CL_CTRL_REFUSED 1))) ∧
  (∀ (n : Word) (e : Nat) (s : State), trimExpected s = some e →
    (2 * e < 100 * apartBy n.toNat e → exec (.autoTrimInterval n) s = .next (steerTb (s.count F.CKG_TRIM_STAT_REJECT) n.toNat)) ∧
    (100 * apartBy n.toNat e ≤ 2 * e → ∃ t, exec (.autoTrimInterval n) s = .next t ∧ t.fld F.CKG_TRIM_STAT_CODE =
      (if 4 * e < 10000 * apartBy n.toNat e then
         (if e < n.toNat then s.fld F.CKG_TRIM_STAT_CODE - 1 else min 1023 (s.fld F.CKG_TRIM_STAT_CODE + 1))
       else s.fld F.CKG_TRIM_STAT_CODE))) ∧
  (∀ (n : Word) (s : State), trimExpected s = none → exec (.autoTrimInterval n) s = .next s) ∧
  (∀ (n : Nat) (s : State), (s.fld F.CKG_TRIM_CTRL_SRC ≠ 1 ∨ n = 0 → steerTb s n = s) ∧ ∀ a, a ≠ R.CKG_TB_CORR → (steerTb s n).reg a = s.reg a) ∧
  ∀ (c : Fin 4) (v : BitVec 4) (s : State),
    (maxStep < v.toNat → exec (.clfreqStepWrite c v) s = .next s) ∧
    (v.toNat ≤ maxStep → (s.fld F.AGM_STATUS_CRIT).testBit c.val = false → s.cycEn = true → s.regBit R.AGM_STATUS (20 + c.val) = false →
      exec (.clfreqStepWrite c v) s = .next { s with clk := { s.clk with
        stepNew := SMap.insert (SMap.erase (fun k => k == c.val) s.clk.stepNew) c.val v.toNat } }) ∧
    ((s.fld F.AGM_STATUS_CRIT).testBit c.val = true → s.fld (F.CKG_CLFREQ_STEP c.val) < v.toNat →
      exec (.clfreqStepWrite c v) s = .next s)

/-! ### Power domains and the backup domain (chapter 15) -/

/-- Power (R440 to R446, R448 to R455): a switch-off is refused or begins by closing the wrapper, and its end takes the domain's
supply; a switch-on begins, and its end serves accesses; an access wakes a domain that is not locked; a STANDBY request is refused with
its code or begins, and the SP's acknowledgement is its commit point; a target outside the limits or under another owner is ignored, a
step's failure is repeated once and then an error. -/
def Obligations.Power : Prop :=
  (∀ (d : Fin 8) (s : State),
    (s.powered d.val = true → has s.pmu.goingOff d.val = false → has s.pmu.comingOn d.val = false → has s.pmu.wanted d.val = false →
      offRefused s d.val = true →
      exec (.domainSwitchOff d) s = .next (s.setRegBit R.PMU_DOM_STAT (24 + d.val) true)) ∧
    (s.powered d.val = true → has s.pmu.goingOff d.val = false → has s.pmu.comingOn d.val = false → has s.pmu.wanted d.val = false →
      offRefused s d.val = false →
      ∃ t, exec (.domainSwitchOff d) s = .next t ∧ t.regBit R.PMU_DOM_STAT (8 + d.val) = true ∧
        t.regBit R.PMU_DOM_CTRL d.val = false ∧ has t.pmu.goingOff d.val = true ∧ t.mem = s.mem ∧ t.les = s.les) ∧
    (has s.pmu.comingOn d.val = true ∨ has s.pmu.wanted d.val = true →
      exec (.domainSwitchOff d) s = .next (s.setRegBit R.PMU_DOM_STAT (24 + d.val) true)) ∧
    (s.powered d.val = false ∨ has s.pmu.goingOff d.val = true → has s.pmu.comingOn d.val = false → has s.pmu.wanted d.val = false →
      exec (.domainSwitchOff d) s = .next (s.setRegBit R.PMU_DOM_CTRL d.val false))) ∧
  (∀ (d : Fin 8) (s : State),
    (s.powered d.val = false → has s.pmu.goingOff d.val = false → has s.pmu.comingOn d.val = false →
      ∃ t, exec (.domainSwitchOn d) s = .next t ∧ t.regBit R.PMU_DOM_CTRL d.val = true ∧ t.regBit R.PMU_DOM_STAT (8 + d.val) = true ∧
        has t.pmu.comingOn d.val = true ∧ t.mem = s.mem) ∧
    (s.powered d.val = true → has s.pmu.goingOff d.val = false →
      exec (.domainSwitchOn d) s = .next (s.setRegBit R.PMU_DOM_CTRL d.val true)) ∧
    (has s.pmu.goingOff d.val = true → ∃ t, exec (.domainSwitchOn d) s = .next t ∧ t.regBit R.PMU_DOM_CTRL d.val = true ∧
      has t.pmu.wanted d.val = true)) ∧
  (∀ (d : Fin 8) (s : State),
    (has s.pmu.goingOff d.val = false → exec (.domainOffEnd d) s = .next s) ∧
    (offReady s d.val = true → exec (.domainOffEnd d) s = .next (stbyNext (domainOff s d.val))) ∧
    (offReady s d.val = false → exec (.domainOffEnd d) s = .next s) ∧
    (has s.pmu.comingOn d.val = false → exec (.domainOnEnd d) s = .next s) ∧
    (has s.pmu.comingOn d.val = true → s.held = [] → exec (.domainOnEnd d) s = .next (stbyNext (domainUp s d.val))) ∧
    (has s.pmu.comingOn d.val = true → ∀ h, s.held = [h] → domainOf h.addr = some d.val →
      exec (.domainOnEnd d) s = .next (stbyNext (serveOne { domainUp s d.val with held := [] } h))) ∧
    (domainOff s d.val).powered d.val = false ∧
    (d.val < 4 → ∀ a, domByte d.val a = false → within a trcBase trcSize = false → (domainOff s d.val).byte a = s.byte a)) ∧
  (∀ s : State, (s.pmu.entering = false → stbyNext s = s) ∧ (s.pmu.entering = true → s.pmu.goingOff = [] → s.pmu.comingOn = [] →
    ∀ d, stbyOrder.find? s.powered = some d → stbyNext s = startOff s d)) ∧
  (∀ (c : Fin 4) (s : State), has s.pmu.goingOff c.val = true →
    (offReady s c.val = true ↔ ∀ n, 16 * c.val ≤ n → n < 16 * c.val + 16 → (s.le n).k.buf = [])) ∧
  (∀ (a d : Nat) (v : Word) (s : State), s.wrapped a = false → asleep s a = some d →
    (domLocked s d = false ∨ has s.pmu.comingOn d = true →
      (accessAway s .mc false a v).held = s.held ++ [.reg .mc s.mc.r.part false a v] ∧
      (accessAway s .mc false a v).regBit R.PMU_DOM_STAT (16 + d) = true ∧ (accessAway s .mc false a v).mem = s.mem) ∧
    (domLocked s d = true → has s.pmu.comingOn d = false → accessAway s .mc false a v = busErrOf s 0x40 s.mc.r.part a true)) ∧
  (∀ (d : Nat) (s : State), 4 ≤ d → d < 8 → (domainUp s d).powered d = true ∧ has (domainUp s d).pmu.comingOn d = false ∧
    (domainUp s d).mem = s.mem) ∧
  (∀ (d : Nat) (s : State), d < 4 → s.plan.isSome = true → has (domainUp s d).unloaded d = true) ∧
  (∀ (d : Fin 8) (s : State),
    (s.powered d.val = true → has s.pmu.goingOff d.val = false → exec (.wakeOnDemand d) s = .next s) ∧
    (s.powered d.val = false → domLocked s d.val = true → has s.pmu.comingOn d.val = false → exec (.wakeOnDemand d) s = .next s) ∧
    (s.powered d.val = false → domLocked s d.val = false → ∃ t, exec (.wakeOnDemand d) s = .next t ∧
      t.regBit R.PMU_DOM_STAT (16 + d.val) = true ∧ t.mem = s.mem)) ∧
  (∀ (v : Word) (s : State),
    (v.toNat / 65536 ≠ 0x5354 ∨ v.toNat % 2 = 0 → exec (.standbyRequest v) s = .next s) ∧
    (v.toNat / 65536 = 0x5354 → v.toNat % 2 = 1 → s.flag F.CYC_STATUS_RUNNING = true →
      exec (.standbyRequest v) s = .next (stbyRefuse s 1)) ∧
    (v.toNat / 65536 = 0x5354 → v.toNat % 2 = 1 → s.flag F.CYC_STATUS_RUNNING = false → s.saving = true ∨ s.pfstop = true →
      exec (.standbyRequest v) s = .next (stbyRefuse s 2)) ∧
    (v.toNat / 65536 = 0x5354 → v.toNat % 2 = 1 → s.flag F.CYC_STATUS_RUNNING = false → s.saving = false → s.pfstop = false →
      exec (.standbyRequest v) s = .next (startStandby s (v.toNat.testBit 1)))) ∧
  (∀ s : State,
    (s.pmu.entering = false ∨ s.pmu.goingOff ≠ [] → stbyAsked s = false) ∧
    (stbyAsked s = false → exec .spStopAck s = .next s ∧ exec .spAckTimeout s = .next s) ∧
    (stbyAsked s = true → s.pmu.step = none → ∃ t, exec .spStopAck s = .next t ∧ t.pmu.state = .standby ∧ t.pmu.entering = false ∧
      t.mc.k.state = .reset ∧ t.sp.k.state = .reset) ∧
    (stbyAsked s = true → s.pmu.step.isSome = true →
      exec .spStopAck s = .next { s with pmu := { s.pmu with acked := true } }) ∧
    (stbyAsked s = true → s.pmu.acked = true → exec .spAckTimeout s = .next s) ∧
    (stbyAsked s = true → s.pmu.acked = false → ∃ t, exec .spAckTimeout s = .next t ∧ t.pmu.entering = false ∧
      t.pmu.state = s.pmu.state ∧ t.flag F.PMU_STBY_STAT_REFUSED = true ∧ t.fld F.PMU_STBY_STAT_RCODE = 3)) ∧
  (∀ (k : Fin 32) (s : State),
    (wakeLatched (aonEvent s k.val) k.val = false → exec (.standbyWake k) s = .next (aonEvent s k.val)) ∧
    (wakeLatched (aonEvent s k.val) k.val = true → s.pmu.entering = true → ∃ t, exec (.standbyWake k) s = .next t ∧
      t.pmu.entering = false ∧ t.flag F.PMU_STBY_STAT_ABORTED = true) ∧
    (wakeLatched (aonEvent s k.val) k.val = true → s.pmu.entering = false → s.pmu.state = .standby →
      exec (.standbyWake k) s = .next (leaveStandby (aonEvent s k.val) k.val))) ∧
  (∀ s : State, ∃ t, exec .mainSupplyLoss s = .next t ∧ t.pmu.state = .backup ∧ t.rst.supplyOut = true ∧ t.plan = none) ∧
  (∀ (mv : BitVec 10) (s : State),
    (s.flag F.PMU_AVS_CFG_OWNER = true → exec (.avsTargetWrite mv) s = .next (s.setFld F.PMU_AVS_STAT_IGN 1)) ∧
    (s.flag F.PMU_AVS_CFG_OWNER = false → mv.toNat < s.fld F.PMU_AVS_LIM_MIN ∨ s.fld F.PMU_AVS_LIM_MAX < mv.toNat →
      exec (.avsTargetWrite mv) s = .next (s.setFld F.PMU_AVS_STAT_IGN 1)) ∧
    (s.flag F.PMU_AVS_CFG_OWNER = false → s.fld F.PMU_AVS_LIM_MIN ≤ mv.toNat → mv.toNat ≤ s.fld F.PMU_AVS_LIM_MAX →
      ∃ t, exec (.avsTargetWrite mv) s = .next t ∧ t.fld F.PMU_AVS_TGT_MV = mv.toNat ∧
        (s.flag F.PMU_AVS_CFG_EN = true → s.pmu.step = none → s.fld F.PMU_AVS_STAT_MV < mv.toNat →
          t.pmu.step = some (min mv.toNat (s.fld F.PMU_AVS_STAT_MV + 10)) ∧
          t.pmu.sent = some (voutWord (min mv.toNat (s.fld F.PMU_AVS_STAT_MV + 10)) (avsExp s) % 65536, s.flag F.PMU_AVS_CFG_PEC) ∧ t.flag F.PMU_AVS_STAT_BUSY = true) ∧
        (s.flag F.PMU_AVS_CFG_EN = true → s.pmu.step = none → mv.toNat < s.fld F.PMU_AVS_STAT_MV →
          t.pmu.step = some (max mv.toNat (s.fld F.PMU_AVS_STAT_MV - 10)) ∧ t.flag F.PMU_AVS_STAT_BUSY = true))) ∧
  (∀ s : State, (s.pmu.step = none → ∀ r, exec (.avsSettle r) s = .next s) ∧
    ∀ v, s.pmu.step = some v → (s.pmu.acked = true → stbyAsked s = true → s.pmu.repeated = true →
        ∃ t, exec (.avsSettle .nack) s = .next t ∧ t.pmu.state = .standby) ∧ (s.pmu.acked = false →
      (s.pmu.repeated = false → ∃ t, exec (.avsSettle .nack) s = .next t ∧ t.pmu.repeated = true ∧ t.pmu.step = some v ∧ t.regs = s.regs) ∧
      (s.pmu.repeated = true → ∃ t, exec (.avsSettle .nack) s = .next t ∧ t.flag F.PMU_AVS_STAT_ERR = true ∧
        t.fld F.PMU_AVS_STAT_ECODE = 1 ∧ t.flag F.PMU_AVS_CFG_EN = false ∧ t.pmu.step = none) ∧
      (∀ raw, voutNear raw.toNat v (avsExp s) = true →
        exec (.avsSettle (.vout raw)) s = .next (avsDone (s.setReg R.PMU_AVS_VOUT (word raw.toNat)) v)) ∧
      (s.flag F.PMU_AVS_CFG_PEC = false → exec (.avsSettle .pec) s = .next s))) ∧
  ∀ (raw : BitVec 16) (s : State),
    (s.flag F.PMU_AVS_CFG_EN = true → ∃ t, exec (.readIoutPoll raw) s = .next t ∧ t.reg R.PMU_AVS_IOUT = word raw.toNat ∧ t.mem = s.mem) ∧
    (s.flag F.PMU_AVS_CFG_EN = false → exec (.readIoutPoll raw) s = .next s) ∧
    ∃ t, exec (.pmbAlert raw) s = .next t ∧ t.reg R.PMU_AVS_SW = word raw.toNat ∧ t.flag F.PMU_AVS_STAT_ALERT = true ∧ t.mem = s.mem

/-- The backup domain (R456 to R458, R460, R464): its loss; the write and the coherent read of the RTC; the alarm; an event of
BACKUP joins the queue or is counted; the queue is read oldest first. -/
def Obligations.Backup : Prop :=
  (∀ s : State, ∃ t, exec .bkdLoss s = .next t ∧ t.flag F.BKD_STATUS_LOST = true ∧ t.bkd = {} ∧ t.les = s.les ∧
    ∀ a, within a bkdRam 0x100 = false → t.byte a = s.byte a) ∧
  (∀ (v : Word) (s : State), ∃ t, exec (.rtcSecWrite v) s = .next t ∧ t.reg R.BKD_RTC_SEC = v ∧ t.reg R.BKD_RTC_SUB = 0 ∧
    t.flag F.BKD_STATUS_RTC_VALID = true ∧ t.mem = s.mem) ∧
  (∀ s : State, ∃ t, exec .rtcSubRead s = .next t ∧ t.readData = s.reg R.BKD_RTC_SUB ∧
    t.bkd.latched = some (s.reg R.BKD_RTC_SEC) ∧ t.regs = s.regs ∧ t.mem = s.mem) ∧
  (∀ s : State, (s.flag F.BKD_CTRL_ALM_EN = false → exec .rtcAlarm s = .next s) ∧
    (s.flag F.BKD_CTRL_ALM_EN = true → s.pmu.state = .backup → ∃ t, exec .rtcAlarm s = .next t ∧ t.flag F.BKD_CTRL_ALM_EN = false ∧
      t.reg R.BKD_RTC_SEC = s.reg R.BKD_ALM_SEC ∧ t.fld F.BKD_RTC_SUB_SUB = 0 ∧
      (s.bkd.evq.length < 8 → t.bkd.evq.length = s.bkd.evq.length + 1)) ∧
    (s.flag F.BKD_CTRL_ALM_EN = true → s.pmu.state ≠ .backup → ∃ u, exec .rtcAlarm s = .next (aonWake u 1) ∧
      u.flag F.BKD_CTRL_ALM_EN = false ∧ u.reg R.BKD_RTC_SEC = s.reg R.BKD_ALM_SEC ∧ u.mem = s.mem)) ∧
  (∀ (k : Fin 4) (up : Bool) (s : State), let sel := (s.fld F.BKD_WAKE_CFG_EDGE / 4 ^ k.val % 4).testBit (if up then 0 else 1);
    (sel = false → exec (.backupEvent k up) s = .next s) ∧
    (sel = true → s.pmu.state ≠ .backup → exec (.backupEvent k up) s = .next (aonWake s (k.val + 2))) ∧
    (sel = true → s.pmu.state = .backup → ∃ t, exec (.backupEvent k up) s = .next t ∧
      (s.bkd.evq.length < 8 → t.bkd.evq = s.bkd.evq ++
        [2 ^ 63 + (k.val + 2) * 2 ^ 48 + s.fld F.BKD_RTC_SUB_SUB * 2 ^ 32 + (s.reg R.BKD_RTC_SEC).toNat]) ∧
      (8 ≤ s.bkd.evq.length → t.bkd = s.bkd) ∧
      ((s.fld F.BKD_CTRL_REQ_EN).testBit (k.val + 1) = true → t.flag F.BKD_STATUS_REQ = true) ∧ t.mem = s.mem)) ∧
  ∀ s : State,
    (∃ t, exec .reqClr s = .next t ∧ t.flag F.BKD_STATUS_REQ = false ∧ t.fld F.BKD_STATUS_EVQ_OVF = 0 ∧ t.bkd = s.bkd) ∧
    ∀ e l, s.bkd.evq = e :: l → ∃ t, exec .bkdEvqHiRead s = .next t ∧ t.readData = word (e / 2 ^ 32) ∧ t.bkd.evq = l ∧ t.regs = s.regs

/-! ### Ageing and the Twin Link (chapters 16 and 17) -/

/-- The ageing monitor (R465, R468, R470, R471, R473 to R477): a window measures the clusters that are on and judges each one's
state; a window below M_CRIT lowers the clock a step and sets CRIT; a probe's slack is kept where it may run; the ledger's record is
written in its slot alone, held or lost; APPLY, CANCEL and the clearing of CRIT act on the bits that they name. -/
def Obligations.Ageing : Prop :=
  (∀ (w : AgmWindow) (s : State),
    (s.flag F.AGM_CTRL_EN = true → exec (.agmWindowEnd w) s = .next (agmWindow s w)) ∧
    (s.flag F.AGM_CTRL_EN = false → exec (.agmWindowEnd w) s = .next { s with agm := { s.agm with fresh := [] } }) ∧
    ∀ c, c < 4 → s.powered c = false → (measureCluster w s c).reg (R.AGM_MARGIN c) = 0x80008000 ∧
      (measureCluster w s c).fld (F.AGM_CANARY_WIN c) = 0x8000) ∧
  (∀ (c : Nat) (s : State), c < 4 → s.powered c = true →
    (marginState s c = .ok → lowCrit s c = false → lowWarn s c = true → marginState (judgeMargin s c) c = .warn) ∧
    (marginState s c = .warn → lowCrit s c = false → highOk s c = true → marginState (judgeMargin s c) c = .ok) ∧
    (marginState s c = .crit → lowCrit s c = false → judgeMargin s c = s) ∧
    (marginState s c ≠ .crit → lowCrit s c = true → marginState (judgeMargin s c) c = .crit ∧
      (0 < stepOf s c → stepOf (judgeMargin s c) c = stepOf s c - 1)) ∧
    (marginState s c = .crit → lowCrit s c = true → 0 < stepOf s c → stepOf (judgeMargin s c) c = stepOf s c - 1)) ∧
  (∀ (c : Fin 4) (r : Fin 16) (slack : BitVec 16) (s : State),
    let may := s.flag F.AGM_CTRL_EN && s.flag F.AGM_CTRL_PROBE_EN && s.powered c.val && (s.cyc.house && !has s.agm.probed c.val || clusterQuiet s c.val)
    (may = true → ∃ t, exec (.marginProbe c r slack) s = .next t ∧ t.regs = s.regs ∧ t.mem = s.mem ∧
      (s.cyc.house = true → has t.agm.probed c.val = true) ∧
      SMap.get (fun _ => 0xFFFF) t.agm.probes (16 * c.val + r.val) = slack.toNat) ∧
    (may = false → exec (.marginProbe c r slack) s = .next s)) ∧
  (∀ s : State, (s.agm.settling = false ∨ s.dbgHalted = true → exec .agmSettleExpiry s = .next s) ∧
    (s.agm.settling = true → s.dbgHalted = false → exec .agmSettleExpiry s =
      .next (voltageRung { s with agm := { s.agm with settling := false, settled := true } }))) ∧
  (∀ s : State, (s.flag F.AGM_CTRL_EN = false → exec .dailyRecord s = .next s) ∧
    (s.flag F.AGM_CTRL_EN = true → ∃ t, exec .dailyRecord s = .next t ∧ t.agm.lastDaily = s.tb ∧
      ∀ c, c < 4 → t.reg (R.AGM_MIN c) = 0x80008000 ∧ t.fld (F.AGM_CANARY_TOTAL c) = 0)) ∧
  (∀ (an : Bool) (l : List Byte) (s : State), l.length = 24 →
    (s.flag F.AGM_CTRL_LEDGER_EN = false → ledgerPut s an l = s) ∧
    (s.flag F.AGM_CTRL_LEDGER_EN = true → ledgerOpen s = true → ledgerPut s an l = ledgerWrite s an l) ∧
    (s.flag F.AGM_CTRL_LEDGER_EN = true → ledgerOpen s = false → s.agm.held.length < 4 →
      (ledgerPut s an l).agm.held = s.agm.held ++ [(an, l)] ∧ (ledgerPut s an l).mem = s.mem) ∧
    (s.flag F.AGM_CTRL_LEDGER_EN = true → ledgerOpen s = false → 4 ≤ s.agm.held.length →
      (ledgerPut s an l).flag F.AGM_STATUS_LEDGER_ERR = true ∧ (ledgerPut s an l).mem = s.mem)) ∧
  (∀ (l : List Byte) (s : State), l.length = 24 →
    (∀ a, within a (ledgerAt (120 + s.agm.anchor % 8)) 32 = false → (ledgerWrite s true l).byte a = s.byte a) ∧
    (s.fld F.AGM_LEDGER_SEQ_VAL < 0xFFFFFFFE →
      (ledgerWrite s false l).fld F.AGM_LEDGER_SEQ_VAL = s.fld F.AGM_LEDGER_SEQ_VAL + 1 ∧
      ∀ a, within a (ledgerAt ((s.fld F.AGM_LEDGER_SEQ_VAL + 1) % 120)) 32 = false → (ledgerWrite s false l).byte a = s.byte a)) ∧
  (∀ (v : Word) (s : State), exec (.agmLedgerMark v) s = .next (ledgerMark s v)) ∧
  (∀ (m : BitVec 4) (s : State),
    ((∀ c, c < 4 → marginState s c ≠ .pend) → exec (.apply m) s = .next (healthTell s)) ∧
    ((∀ c, c < 4 → m.toNat.testBit c = false) → exec (.apply m) s = .next (healthTell s) ∧ exec (.cancel m) s = .next s ∧
      exec (.critClear m) s = .next (healthTell s)) ∧
    (s.cycEn = true → ∃ t, exec (.apply m) s = .next t ∧ t.mem = s.mem ∧
      ∀ c, c < 4 → m.toNat.testBit c = true → marginState s c = .pend → has t.agm.apply c = true) ∧
    (∃ t, exec (.cancel m) s = .next t ∧ ∀ c, c < 4 →
      (m.toNat.testBit c = true → t.regBit R.AGM_STATUS (20 + c) = false ∧
        (s.regBit R.AGM_STATUS (20 + c) = true → t.regBit R.AGM_STATUS (24 + c) = true)) ∧
      (m.toNat.testBit c = false → t.regBit R.AGM_STATUS (20 + c) = s.regBit R.AGM_STATUS (20 + c))) ∧
    (∃ t, exec (.critClear m) s = .next t ∧ ∀ c, c < 4 →
      (m.toNat.testBit c = true → s.regBit R.AGM_STATUS (28 + c) = true → clearOk s c = true →
        t.regBit R.AGM_STATUS (28 + c) = false ∧ t.regBit R.AGM_STATUS (24 + c) = true) ∧
      (m.toNat.testBit c = false ∨ clearOk s c = false →
        t.regBit R.AGM_STATUS (28 + c) = s.regBit R.AGM_STATUS (28 + c))))

/-- The Twin Link (R482 to R488, R491 to R493, R495, R499 to R502): it trains and goes down; frames that fail their check are
counted; ECHO is answered; roles are granted and refused; heartbeats, missed heartbeats and the standby's judgement; sets are received,
held, refused and acknowledged; handover and the warm reset. -/
def Obligations.TwinLink : Prop :=
  (∀ s : State, s.accepts R.TWL_CTRL = true →
    exec (.twlEnable false) s = .next (twlDown (s.setFld F.TWL_CTRL_EN 0)) ∧
    exec (.twlEnable true) s = .next (twlTrain (s.setFld F.TWL_CTRL_EN 1)) ∧ exec .handoverRequest s = .next (requestHandover s) ∧
    exec .wreset s = .next (wreset s) ∧
    ∃ t, exec .twlCntClr s = .next t ∧ t.reg R.TWL_HB_MISS_CNT = 0 ∧ t.reg R.TWL_SET_CNT = 0 ∧ t.reg R.TWL_SET_SKIP = 0 ∧
      t.reg R.TWL_CRC_ERR = 0 ∧ t.reg R.TWL_CMD_IGN = 0 ∧ t.reg R.TWL_REFUSE_CNT = 0 ∧ t.reg R.TWL_STATUS = s.reg R.TWL_STATUS) ∧
  (∀ s : State, (twlDown s).fld F.TWL_STATUS_LINK = 0 ∧
    exec .twlTrainRetry s = .next (twlTrain s) ∧
    (s.fld F.TWL_STATUS_LINK = 0 → s.flag F.TWL_CTRL_EN = true → s.flag F.CKG_STATUS_XTAL_GOOD = true → s.serves R.TWL_CTRL = true →
      s.dbgHalted = false →
      (twlTrain s).fld F.TWL_STATUS_LINK = 1) ∧
    (s.flag F.TWL_CTRL_EN = false → twlTrain s = s) ∧
    (s.dbgHalted = true → exec .twlTrainRetry s = .next s ∧ exec .twlTrainTimeout s = .next s ∧ exec .twlLanesDeskewed s = .next s ∧
      exec .heartbeatMillisecond s = .next s ∧ exec .setApplication s = .next s) ∧
    (s.fld F.TWL_STATUS_LINK = 1 → s.dbgHalted = false → exec .twlTrainTimeout s = .next (twlDown s)) ∧
    (s.fld F.TWL_STATUS_LINK ≠ 1 → exec .twlTrainTimeout s = .next s) ∧
    (s.fld F.TWL_STATUS_LINK = 0 → exec .twlLaneSyncLoss s = .next s) ∧
    (s.fld F.TWL_STATUS_LINK ≠ 0 → exec .twlLaneSyncLoss s = .next (twlDown s)) ∧
    (s.fld F.TWL_STATUS_LINK = 1 → s.twl.deskewed = false → s.dbgHalted = false → ∃ t, exec .twlLanesDeskewed s = .next t ∧ t.twl.deskewed = true ∧
      t.twl.out = s.twl.out ++ [(7, SMap.get (fun _ => 0) s.twl.seqs 7, echoPayload s 1 0)]) ∧
    (s.cyc.inCycle = true → s.cycHalted = false → exec .heartbeatMillisecond s = .next s) ∧
    (s.twlUp = false → exec .heartbeatMillisecond s = .next s) ∧
    (s.cyc.inCycle = false ∨ s.cycHalted = true → s.twlUp = true → s.dbgHalted = false → exec .heartbeatMillisecond s = .next (twlSend s 1 (heartbeat s)))) ∧
  (∀ (f : TwlFrame) (rt turn : Word) (s : State), s.fld F.TWL_STATUS_LINK ≠ 0 → s.dbgHalted = false →
    (f.passes = false → exec (.echo f rt turn) s = .next (s.countReg R.TWL_CRC_ERR)) ∧
    (f.passes = true → f.type = 7 → f.payload.length = 16 → f.pay 0 1 = 1 →
      exec (.echo f rt turn) s = .next (twlSend s 7 (echoPayload s 2 turn.toNat))) ∧
    (f.passes = true → f.type = 7 → f.payload.length = 16 → f.pay 0 1 = 2 → s.fld F.TWL_STATUS_LINK = 1 → s.twl.deskewed = true →
      s.twl.echoes = 7 → ∃ t, exec (.echo f rt turn) s = .next t ∧ t.fld F.TWL_STATUS_LINK = 2 ∧
        t.fld F.TWL_DELAY_NS = min 65535 ((min s.twl.best (rt.toNat - f.pay 12 4) + 1) / 2))) ∧
  (∀ s : State, s.accepts R.TWL_CTRL = true → twlRole s = 0 → s.cycEn = false → s.twl.claim = false →
    (∃ t, exec (.twlRoleWrite 1) s = .next t ∧ t.twl.claim = true ∧ t.twl.claimLost = false ∧ twlRole t = 0) ∧
    (s.twl.peer = none → ∃ t, exec (.twlRoleWrite 2) s = .next t ∧ twlRole t = 0 ∧
      (s.reg R.TWL_REFUSE_CNT ≠ 0xFFFFFFFF → t.reg R.TWL_REFUSE_CNT = s.reg R.TWL_REFUSE_CNT + 1)) ∧
    (∀ b, s.twl.peer = some b → s.twlUp = true → b.role = 1 → b.epoch < 16 → ∃ t, exec (.twlRoleWrite 2) s = .next t ∧
      twlRole t = 2 ∧ t.fld F.TWL_STATUS_PAIR_EPOCH = b.epoch)) ∧
  (∀ s : State, (s.twl.claim = false → exec .primaryClaimEnd s = .next s) ∧
    (s.twl.claim = true → s.twl.claimLost = true → s.dbgHalted = false → ∃ t, exec .primaryClaimEnd s = .next t ∧ twlRole t = twlRole s ∧ t.twl.claim = false) ∧
    (s.twl.claim = true → s.twl.claimLost = false → s.dbgHalted = false → ∃ t, exec .primaryClaimEnd s = .next t ∧ twlRole t = 1 ∧
      t.fld F.TWL_STATUS_PAIR_EPOCH = (match s.twl.heardEpoch with | some e => e % 15 + 1 | none => 1))) ∧
  (∀ (f : TwlFrame) (ok : Bool) (cl : Option Bool) (s : State),
    (s.wrapped R.TWL_CTRL = false → s.powered 5 = true → s.fld F.TWL_STATUS_LINK ≠ 0 → s.dbgHalted = false → f.passes = false → exec (.heartbeat f ok cl) s = .next (s.countReg R.TWL_CRC_ERR)) ∧
    (twlTakes s f 1 → f.payload.length = 0x3C → exec (.heartbeat f ok cl) s = .next (hearBeat s (beatOf f) ok cl))) ∧
  (∀ (b : Beat) (s : State), b.role = 1 →
    (s.cycEn = true → (standbyHears s b true).fld F.TWL_STATUS_MISSED = 0 ∧
      (standbyHears s b true).reg R.CYC_CYCNUM = word b.cycle ∧
      (standbyHears s b true).reg R.CYC_TRACK_LO = word b.track) ∧
    (b.epoch = s.fld F.TWL_STATUS_PAIR_EPOCH → primaryHears s b = raiseNmi (twlEvent s 2) 4) ∧
    (b.epoch ≠ s.fld F.TWL_STATUS_PAIR_EPOCH → epochNewer b.epoch (s.fld F.TWL_STATUS_PAIR_EPOCH) = true →
      twlRole (primaryHears s b) = 0)) ∧
  (∀ s : State, (s.standby = false ∨ s.cycEn = false ∨ s.cycHalted = true → exec .heartbeatMissed s = .next s) ∧
    (s.standby = true → s.cycEn = true → s.cycHalted = false → ∃ t, exec .heartbeatMissed s = .next t ∧
      t.fld F.TWL_STATUS_MISSED = min 15 (s.fld F.TWL_STATUS_MISSED + 1) ∧
      (s.reg R.TWL_HB_MISS_CNT ≠ 0xFFFFFFFF → t.reg R.TWL_HB_MISS_CNT = s.reg R.TWL_HB_MISS_CNT + 1))) ∧
  (∀ (f : TwlFrame) (s : State),
    (twlTakes s f 2 → exec (.shadow f) s = .next (shadow s f)) ∧ (twlTakes s f 3 → exec (.shend f) s = .next (shend s f)) ∧
    (twlTakes s f 4 → exec (.shack f) s = .next (shack s f)) ∧ (twlTakes s f 5 → exec (.linkstate f) s = .next (keepTable s f)) ∧
    (s.standby = false → shadow s f = s ∧ shend s f = s ∧ keepTable s f = s) ∧ (s.primary = false → shack s f = s) ∧
    (s.standby = true → f.payload.length = 12 → s.dbgHalted = false → s.flag F.TWL_STATUS_PLAN_OK = false →
      (shend s f).twl.ready' = s.twl.ready' ∧ (s.twlUp = true → (shend s f).twl.out = s.twl.out ++
        [(4, SMap.get (fun _ => 0) s.twl.seqs 4, leBytes 4 (f.pay 0 4) ++ [1, 0, 0, 0])]))) ∧
  (∀ s : State, (s.twl.ready' = none ∨ s.standby = false → exec .setApplication s = .next s) ∧
    ∀ x, s.twl.ready' = some x → s.standby = true → s.dbgHalted = false →
      (s.flag F.TWL_STATUS_PLAN_OK = true → ∃ t, exec .setApplication s = .next t ∧ t.twl.ready' = none ∧
        t.twl.lastApplied = x.cycle ∧ t.twl.sinceSet = 0) ∧
      (s.flag F.TWL_STATUS_PLAN_OK = false → ∃ t, exec .setApplication s = .next t ∧ t.twl.ready' = none ∧ t.regs = s.regs ∧
        (s.twlUp = true → t.twl.out = s.twl.out ++
          [(4, SMap.get (fun _ => 0) s.twl.seqs 4, leBytes 4 x.cycle ++ [1, 0, 0, 0])]))) ∧
  (∀ s : State, s.primary = false ∨ s.twlUp = false ∨ s.twl.peer = none → requestHandover s = s.countReg R.TWL_REFUSE_CNT) ∧
  (∀ (f : TwlFrame) (s : State),
    (twlTakes s f 6 → s.standby = true → s.flag F.TWL_STATUS_READY = true → f.payload.length = 8 → f.pay 0 1 = 2 →
      ∃ t, exec (.handoverCmd f) s = .next t ∧ t.twl.handTake = some (f.pay 4 4) ∧
        t.twl.out = s.twl.out ++ [(6, SMap.get (fun _ => 0) s.twl.seqs 6, cmdPayload 3 (f.pay 4 4))]) ∧
    (twlTakes s f 6 → s.primary = true → f.payload.length = 8 → f.pay 0 1 = 3 → s.twl.handover = some (f.pay 4 4) →
      ∃ t, exec (.handoverAck f) s = .next t ∧ t.twl.handAcked = true ∧ t.regs = s.regs)) ∧
  ∀ (l : Fin 24) (b : KBlock) (ofs : BitVec 16) (s : State),
    (s.listens l.val = false → exec (.socSeen l b ofs) s = .next s) ∧
    (s.listens l.val = true → blockOk b = true → b.flags.toNat / 16 = s.fld F.TWL_STATUS_PAIR_EPOCH →
      ∃ t, exec (.socSeen l b ofs) s = .next t ∧ (t.lnk l.val).socSeen = true ∧ t.regs = s.regs ∧
        (t.lnk l.val).lineOfs = (ofs.toNat :: (s.lnk l.val).lineOfs).take 16)

/-- CMD WARM_RESET (R500): only a standby obeys it, with a reset of source 10, scope WARM; any other device counts it in
`TWL_CMD_IGN`. `TWL_CTRL.WRESET` sends it. -/
def Obligations.WarmResetCommand : Prop :=
  (∀ (f : TwlFrame) (s : State), twlTakes s f 6 → f.payload.length = 8 → f.pay 0 1 = 1 →
    (s.standby = true → exec (.warmReset f) s = .next (requestReset s (2 ^ 10) 3)) ∧
    (s.standby = false → exec (.warmReset f) s = .next (s.countReg R.TWL_CMD_IGN))) ∧
  ∀ s : State, s.accepts R.TWL_CTRL = true → s.twlUp = true → s.dbgHalted = false → ∃ t, exec .wreset s = .next t ∧
    t.twl.out = s.twl.out ++ [(6, SMap.get (fun _ => 0) s.twl.seqs 6, [1, 0, 0, 0, 0, 0, 0, 0])]

/-! ### Events, pins, timers and serial units (chapter 18) -/

/-- The Event Controller and the pins (R513, R515 to R517, R519, R523, R524): an event sets the pending bit and counts, saturating at
15; a claim answers the deliverable source of highest priority, clears it and makes it active; an end of interrupt; a take whatever
mask and active state; an edge that IEDGE selects; the release of held pins. -/
def Obligations.EventsAndPins : Prop :=
  (∀ (n : Fin 256) (s : State),
    (n.val < 32 → exec (.evcSourceEvent n) s = .next (aonWake s n.val)) ∧
    (32 ≤ n.val → s.mc.k.state ≠ .reset → ∃ t, exec (.evcSourceEvent n) s = .next t ∧ srcPend t n.val = true ∧
      srcCnt t n.val = min 15 (srcCnt s n.val + 1) ∧ t.mem = s.mem ∧ (∀ m, m < 256 → m ≠ n.val → srcPend t m = srcPend s m ∧
        srcCnt t m = srcCnt s m))) ∧
  (∀ s : State,
    (bestSource s = none → ∃ t, exec .evcClaim s = .next t ∧ t.readData = 0 ∧ t.regs = s.regs) ∧
    (∀ n, bestSource s = some n → ∃ t, exec .evcClaim s = .next t ∧ t.readData =
        word (2 ^ 31 + srcCnt s n * 2 ^ 24 + srcPrio s n * 2 ^ 16 + n) ∧ srcPend t n = false ∧ srcCnt t n = 0 ∧
      srcActive t n = true ∧ t.mem = s.mem) ∧
    (∀ n, bestSource s = some n → n < 256 ∧ deliverable s n = true ∧
      ∀ m, m < 256 → deliverable s m = true → srcPrio s m < srcPrio s n ∨ srcPrio s m = srcPrio s n ∧ n ≤ m)) ∧
  (∀ (n : Fin 256) (s : State),
    (srcActive s n.val = false → exec (.evcEoi n) s = .next (s.countReg R.EVC_SPUR_CNT)) ∧
    (∀ q, q < 4 → activeAt s q = some n.val → (∀ k, k < 4 → k ≠ q → activeAt s k ≠ some n.val) →
      ∃ t, exec (.evcEoi n) s = .next t ∧ srcActive t n.val = false ∧ srcPend t n.val = srcPend s n.val ∧
        ∀ k, k < 4 → k ≠ q → activeAt t k = activeAt s k) ∧
    (∃ t, exec (.evcTake n) s = .next t ∧ srcPend t n.val = false ∧ srcCnt t n.val = 0 ∧
      t.reg R.EVC_TAKE_RES = word ((if srcPend s n.val then 256 else 0) + srcCnt s n.val) ∧ srcMask t n.val = srcMask s n.val ∧
      t.reg R.EVC_ACT_V = s.reg R.EVC_ACT_V ∧ t.mem = s.mem)) ∧
  (∀ (p : Fin 3) (i : Fin 16) (up : Bool) (s : State),
    (s.regBit (R.GPIO_IN p.val) i.val = up → exec (.gpioEdge p i up) s = .next s) ∧
    (s.regBit (R.GPIO_IN p.val) i.val ≠ up → (p.val ≠ 0 ∨ 8 ≤ i.val) → s.pmu.state = .active →
      ∃ t, exec (.gpioEdge p i up) s = .next t ∧ t.regBit (R.GPIO_IN p.val) i.val = up ∧ t.mem = s.mem ∧
        (edgeOn s (R.GPIO_IEDGE p.val) i.val up = true → t.regBit (R.GPIO_ISTAT p.val) i.val = true) ∧
        (edgeOn s (R.GPIO_IEDGE p.val) i.val up = false → t.reg (R.GPIO_ISTAT p.val) = s.reg (R.GPIO_ISTAT p.val)))) ∧
  ∀ s : State, ∃ t, exec .gpioHoldRelease s = .next t ∧ t.flag F.GPIO_HOLD_HELD = false ∧
    (∀ v p, pinsNow t v p = portPins t v p) ∧ (∀ k, k < 3 → t.reg (R.GPIO_OUT k) = s.reg (R.GPIO_OUT k))

/-- UARTs, SPI, I2C, timers and WDT_SYS (R525 to R529): a write joins its FIFO while that has room; a read takes the oldest entry; a
frame or byte that comes and goes; a command's end and its failures; a match and a capture; the kicks and the expiry. -/
def Obligations.SerialUnitsAndTimers : Prop :=
  (∀ (n : Fin 4) (v : BitVec 8) (s : State),
    ((s.uart n.val).tx.length < 16 → ∃ t, exec (.uartDataWrite n v) s = .next t ∧ (t.uart n.val).tx = (s.uart n.val).tx ++ [v.toNat] ∧
      (t.uart n.val).rx = (s.uart n.val).rx ∧ t.mem = s.mem) ∧
    (16 ≤ (s.uart n.val).tx.length → ∃ t, exec (.uartDataWrite n v) s = .next t ∧ t.uart n.val = s.uart n.val ∧
      t.flag (F.UART_STAT_OVR n.val) = true) ∧
    ((s.uart n.val).rx = [] → ∃ t, exec (.uartDataRead n) s = .next t ∧ t.readData = 0 ∧ t.regs = s.regs) ∧
    (∀ e l, (s.uart n.val).rx = e :: l → ∃ t, exec (.uartDataRead n) s = .next t ∧ t.readData = word e ∧ (t.uart n.val).rx = l ∧
      (t.uart n.val).tx = (s.uart n.val).tx) ∧
    (s.flag (F.UART_CFG_EN n.val) = true → s.dbgHalted = false → (s.uart n.val).rx.length < 16 → s.fld (F.UART_CFG_LEN n.val) = 3 →
      ∃ t, exec (.uartRxByte n v false false false) s = .next t ∧ (t.uart n.val).rx = (s.uart n.val).rx ++ [v.toNat + 256]) ∧
    (s.flag (F.UART_CFG_EN n.val) = true → s.dbgHalted = false → 16 ≤ (s.uart n.val).rx.length → ∀ p f b,
      ∃ t, exec (.uartRxByte n v p f b) s = .next t ∧ (t.uart n.val).rx = (s.uart n.val).rx ∧
        t.flag (F.UART_STAT_OVR n.val) = true ∧ (b = true → t.flag (F.UART_STAT_BRK n.val) = true)) ∧
    (∀ e l, (s.uart n.val).tx = e :: l → s.flag (F.UART_CFG_EN n.val) = true → s.dbgHalted = false →
      ∃ t, exec (.uartTxByte n) s = .next t ∧ (t.uart n.val).tx = l ∧ (t.uart n.val).rx = (s.uart n.val).rx) ∧
    ((s.uart n.val).tx = [] → exec (.uartTxByte n) s = .next s)) ∧
  (∀ (m : Fin 2) (v : Word) (s : State),
    ((s.spi m.val).tx.length < 8 → ∃ t, exec (.spiDataWrite m v) s = .next t ∧
      (t.spi m.val).tx = (s.spi m.val).tx ++ [v.toNat % 2 ^ spiBits s m.val] ∧
      (s.flag (F.SPI_CFG_EN m.val) = true → (t.spi m.val).cs = some (s.fld (F.SPI_CFG_CS m.val)))) ∧
    ((s.spi m.val).tx.length = 8 → exec (.spiDataWrite m v) s = .next s) ∧
    ((s.spi m.val).rx = [] → ∃ t, exec (.spiDataRead m) s = .next t ∧ t.readData = 0 ∧ t.regs = s.regs) ∧
    (∀ e l, (s.spi m.val).rx = e :: l → ∃ t, exec (.spiDataRead m) s = .next t ∧ t.readData = word e ∧ (t.spi m.val).rx = l) ∧
    ((s.spi m.val).tx = [] → exec (.spiFrameEnd m v) s = .next s) ∧
    (∀ e l, (s.spi m.val).tx = e :: l → s.flag (F.SPI_CFG_EN m.val) = true → s.dbgHalted = false →
      ∃ t, exec (.spiFrameEnd m v) s = .next t ∧ (t.spi m.val).tx = l ∧
        ((s.spi m.val).rx.length < 8 → (t.spi m.val).rx = (s.spi m.val).rx ++ [v.toNat % 2 ^ spiBits s m.val]) ∧
        (l = [] → s.flag (F.SPI_CFG_CSHOLD m.val) = false → (t.spi m.val).cs = none) ∧
        (l ≠ [] → (t.spi m.val).cs = some (s.fld (F.SPI_CFG_CS m.val))) ∧
        (l = [] → s.flag (F.SPI_CFG_CSHOLD m.val) = true → (t.spi m.val).cs = (s.spi m.val).cs))) ∧
  (∀ (j : Fin 2) (op : BitVec 3) (b : BitVec 8) (s : State),
    (1 ≤ op.toNat → op.toNat ≤ 5 → (s.i2c j.val).fifo.length < 8 → ∃ t, exec (.i2cCmd j op b) s = .next t ∧
      (t.i2c j.val).fifo = (s.i2c j.val).fifo ++ [(op.toNat, b.toNat)]) ∧
    (op.toNat = 0 ∨ 5 < op.toNat ∨ 8 ≤ (s.i2c j.val).fifo.length → exec (.i2cCmd j op b) s = .next s) ∧
    (s.flag (F.I2C_CFG_EN j.val) = false → (∀ r, exec (.i2cCommandEnd j r) s = .next s) ∧ exec (.i2cStretchTimeout j) s = .next s) ∧
    (∀ c l, (s.i2c j.val).fifo = c :: l → s.flag (F.I2C_CFG_EN j.val) = true → s.dbgHalted = false →
      (∃ t, exec (.i2cCommandEnd j (.done b)) s = .next t ∧ (t.i2c j.val).fifo = l ∧
        (c.1 = 3 ∨ c.1 = 4 → t.reg (R.I2C_RX j.val) = word (256 + b.toNat))) ∧
      (∃ t, exec (.i2cCommandEnd j .nack) s = .next t ∧ (t.i2c j.val).fifo = [] ∧ t.regBit (R.I2C_STAT j.val) 3 = true) ∧
      (∃ t, exec (.i2cCommandEnd j .busError) s = .next t ∧ (t.i2c j.val).fifo = [] ∧ t.regBit (R.I2C_STAT j.val) 1 = true) ∧
      ∃ t, exec (.i2cStretchTimeout j) s = .next t ∧ (t.i2c j.val).fifo = [] ∧ t.regBit (R.I2C_STAT j.val) 2 = true) ∧
    exec (.recover j false) s = .next s ∧
    ∃ t, exec (.recover j true) s = .next t ∧ (t.i2c j.val).did = .recover ∧ (t.i2c j.val).fifo = (s.i2c j.val).fifo ∧ t.regs = s.regs) ∧
  (∀ (k : Fin 8) (s : State), (s.tmr k.val).running = true → s.dbgHalted = false →
    (s.reg (R.TMR_CNT k.val) = s.reg (R.TMR_CMP k.val) →
      (s.fld (F.TMR_CTRL_MODE k.val) = 0 → ∃ t, exec (.timerMatch k) s = .next t ∧ (t.tmr k.val).running = false ∧
        t.flag (F.TMR_CTRL_EN k.val) = false ∧ t.regBit (R.TMR_STAT k.val) 0 = true) ∧
      (s.fld (F.TMR_CTRL_MODE k.val) = 1 → ∃ t, exec (.timerMatch k) s = .next t ∧ (t.tmr k.val).running = true ∧
        t.reg (R.TMR_CNT k.val) = 0 ∧ t.regBit (R.TMR_STAT k.val) 0 = true) ∧
      (s.fld (F.TMR_CTRL_MODE k.val) = 2 → ∃ t, exec (.timerMatch k) s = .next t ∧ (t.tmr k.val).running = true ∧
        t.reg (R.TMR_CNT k.val) = s.reg (R.TMR_CNT k.val) ∧ t.regBit (R.TMR_STAT k.val) 0 = true) ∧
      (s.fld (F.TMR_CTRL_MODE k.val) = 3 → exec (.timerMatch k) s = .next s)) ∧
    (s.reg (R.TMR_CNT k.val) ≠ s.reg (R.TMR_CMP k.val) → exec (.timerMatch k) s = .next s) ∧
    (s.fld (F.TMR_CTRL_MODE k.val) = 2 → ∃ t, exec (.timerCapture k) s = .next t ∧ t.reg (R.TMR_CAP_LO k.val) = word s.tb ∧
      t.reg (R.TMR_CAP_HI k.val) = word (s.tb / 2 ^ 32) ∧ t.regBit (R.TMR_STAT k.val) 1 = true) ∧
    (s.fld (F.TMR_CTRL_MODE k.val) ≠ 2 → exec (.timerCapture k) s = .next s)) ∧
  (∀ s : State, (s.flag F.WDT_SYS_CTRL_EN = true → exec .wdtSysEn s = .next s) ∧
    (s.flag F.WDT_SYS_CTRL_EN = false → ∃ t, exec .wdtSysEn s = .next t ∧ t.flag F.WDT_SYS_CTRL_EN = true ∧
      t.per.wdtSys = { since := s.tb, key := none })) ∧
  (∀ (key : BitVec 16) (s : State),
    let late := fun x : State => x.per.wdtSys.since + x.fld F.WDT_SYS_CTRL_PERIOD * 100000 ≤ x.tb
    (wdtRuns s = false → exec (.wdtSysKick key) s = .next s ∧ exec .wdtSysEarly s = .next s ∧ exec .wdtSysExpiry s = .next s) ∧
    (wdtRuns s = true → late s → exec (.wdtSysKick key) s = .next s) ∧
    (wdtRuns s = true → ¬ late s → s.per.wdtSys.key = none → key = 0x5A5A → ∃ t, exec (.wdtSysKick key) s = .next t ∧
      t.per.wdtSys = { since := s.per.wdtSys.since, key := some s.tb } ∧ t.regs = s.regs) ∧
    (wdtRuns s = true → ¬ late s → s.per.wdtSys.key = none → key ≠ 0x5A5A → exec (.wdtSysKick key) s = .next (wdtExpire s true)) ∧
    (∀ k, wdtRuns s = true → ¬ late s → s.per.wdtSys.key = some k → key = 0xA5A5 → s.tb ≤ k + 10000 →
      s.per.wdtSys.since + s.fld F.WDT_SYS_CTRL_WINDOW * 100000 ≤ s.tb → ∃ t, exec (.wdtSysKick key) s = .next t ∧
        t.per.wdtSys = { since := s.tb, key := none } ∧ t.regs = s.regs) ∧
    (∀ k, wdtRuns s = true → ¬ late s → s.per.wdtSys.key = some k → key ≠ 0xA5A5 ∨ k + 10000 < s.tb ∨
        s.tb < s.per.wdtSys.since + s.fld F.WDT_SYS_CTRL_WINDOW * 100000 →
      exec (.wdtSysKick key) s = .next (wdtExpire s true)) ∧
    (wdtRuns s = true → exec .wdtSysExpiry s = .next (wdtExpire s false) ∧ ∃ t, exec .wdtSysEarly s = .next t ∧
      t.flag F.WDT_SYS_STAT_EARLY = true ∧ t.mem = s.mem))

/-! ### Debug, trace and registers (chapter 19, R13) -/

/-- Debug and trace (R531 to R537, R539, R541 to R545): DPACC and EXTEST below their level act as BYPASS; UNLOCK's commands; a string's
outputs, its halt at level 2 alone; a resume; a comparator's write; SW packets; the start of trace and its buffer's end. -/
def Obligations.DebugAndTrace : Prop :=
  (∀ (op : BitVec 2) (a v : Word) (d : HostData) (s : State),
    (debugLevel s = 0 ∨ op = 2 ∧ debugLevel s ≠ 2 → exec (.dpacc (.access op) a v d) s = .next (selectTap s 0x1F)) ∧
    (debugLevel s ≠ 0 → op = 0 ∨ op = 3 → exec (.dpacc (.access op) a v d) s = .next (selectTap s 8)) ∧
    (debugLevel s ≠ 0 → op = 1 → (selectTap s 8).dbg.dpStatus ≠ 1 →
      exec (.dpacc (.access op) a v d) s = .next (dpAccess (selectTap s 8) 1 a.toNat v d)) ∧
    (debugLevel s = 2 → op = 2 → (selectTap s 8).dbg.dpStatus ≠ 1 →
      exec (.dpacc (.access op) a v d) s = .next (dpAccess (selectTap s 8) 2 a.toNat v d))) ∧
  (∀ (a v : Word) (d : HostData) (s s1 : State), a.toNat % 4 = 0 → fabWrite s .dbg 0 a.toNat (leBytes 4 v.toNat) = (.held, s1) →
    (dpAccess s 2 a.toNat v d).dbg.dpStatus = 1 ∧ (dpAccess s 2 a.toNat v d).held = s1.held ++ [.reg .dbg 0 false a.toNat v]) ∧
  (∀ (a v : Word) (d : HostData) (s : State), a.toNat % 4 ≠ 0 → (dpAccess s 1 a.toNat v d).dbg.dpStatus = 2 ∧
    (dpAccess s 2 a.toNat v d).dbg.dpStatus = 2 ∧ (dpAccess s 2 a.toNat v d).mem = s.mem) ∧
  (∀ (a v : Word) (d : HostData) (s s1 : State) (l : List Byte), a.toNat % 4 = 0 →
    (fabRead s .dbg 0 a.toNat 4 d = (.ok l, s1) → (dpAccess s 1 a.toNat v d).dbg.dpStatus = 0 ∧
      (dpAccess s 1 a.toNat v d).dbg.dpData = word (leNat l)) ∧
    (fabWrite s .dbg 0 a.toNat (leBytes 4 v.toNat) = (.ok l, s1) → (dpAccess s 2 a.toNat v d).dbg.dpStatus = 0 ∧
      (dpAccess s 2 a.toNat v d).mem = s1.mem)) ∧
  (∀ (a v : Word) (d : HostData) (s : State),
    (debugLevel s ≠ 2 → exec .extest s = .next (selectTap s 0x1F) ∧ exec (.dpacc (.select 2) a v d) s = .next (selectTap s 0x1F)) ∧
    (debugLevel s = 2 → s.dbg.extest = none → ∃ t, exec .extest s = .next t ∧ t.dbgHalted = true ∧
      t.fld F.DBG_HALT_STAT_MEMBERS = 63 ∧ t.dbg.tap = 0 ∧ t.dbg.extest.isSome = true) ∧
    (debugLevel s = 2 → ∃ t, exec (.dpacc (.select 2) a v d) s = .next t ∧ t.dbg.tap = 2 ∧ t.mem = (selectTap s 2).mem ∧ t.regs = (selectTap s 2).regs ∧
      (tapData t).1 = 88 ∧ (∀ k, k < 88 → (tapData t).2.testBit k = ballLevel t t.draw.1 k) ∧
      ∀ l, d = .bytes l → l ≠ [] → t.dbg.cells = leNat l % 2 ^ 88) ∧
    (s.dbg.extest.isSome = true → ∀ x k, ballLevel s x k = s.dbg.cells.testBit k) ∧
    exec (.dpacc (.select 1) a v d) s = .next (selectTap s 1) ∧
    (∀ code, code ≠ 0 → code ≠ 1 → code ≠ 2 → code ≠ 8 → code ≠ 9 →
      exec (.dpacc (.select code) a v d) s = .next (selectTap s 0x1F)) ∧
    (tapData (selectTap s 1)).1 = 32 ∧ (tapData (selectTap s 1)).2 / 2 ^ 12 % 2 ^ 16 = 0x6400 ∧ (tapData (selectTap s 1)).2 % 2 = 1 ∧
    (∀ c, (selectTap s c).dbg.tap = c) ∧ (s.dbg.tap = 0x1F → tapData s = (1, 0))) ∧
  (∀ (cmd : BitVec 8) (p : List Byte) (s : State), s.dbg.extest = none →
    (cmd ≠ 1 → cmd ≠ 2 → cmd ≠ 3 → exec (.unlock cmd p) s = .next { s with dbg := { s.dbg with tap := 9 } }) ∧
    (cmd = 3 → s.boot.challenge = none → ∃ t, exec (.unlock cmd p) s = .next t ∧ t.dbg.unlockStatus = St.authFail ∧
      t.boot.unlock = s.boot.unlock ∧ t.boot.authFails = s.boot.authFails + 1) ∧
    (cmd = 1 ∨ cmd = 2 → s.entFailed = true → ∃ t, exec (.unlock cmd p) s = .next t ∧ t.dbg.unlockStatus = St.entFail ∧
      t.boot = s.boot)) ∧
  (∀ (k : Fin 8) (s : State), exec (.stringPulse .mc k) s = .next (stringPulse s k.val) ∧
    (∀ x, exec (.stringPulse (.host x) k) s = .next s) ∧ exec (.stringPulse .sp k) s = .next s ∧
    (debugLevel s = 2 → exec (.stringPulse .dbg k) s = .next (stringPulse s k.val)) ∧
    (debugLevel s ≠ 2 → exec (.stringPulse .dbg k) s = .next s) ∧
    (s.reg (R.DBG_STR_OUT k.val) = 0 → stringPulse s k.val = s) ∧
    (debugLevel s = 2 → s.fld (F.DBG_STR_OUT_HALT k.val) = 4 → s.flag (F.DBG_STR_OUT_TSTOP k.val) = false →
      s.flag (F.DBG_STR_OUT_TSTART k.val) = false → s.flag (F.DBG_STR_OUT_THALT k.val) = false →
      (stringPulse s k.val).dbgHalted = true ∧ (stringPulse s k.val).fld F.DBG_HALT_STAT_STRING = k.val ∧
      ∀ n, n < 16 → ((stringPulse s k.val).le n).k.halted = true) ∧
    (debugLevel s ≠ 2 → s.reg (R.DBG_STR_OUT k.val) = 4 → stringPulse s k.val = s.count F.DBG_STATUS_REFUSED)) ∧
  (∀ s : State, (s.dbgHalted = false → exec (.debugResume .mc) s = .next s ∧ exec (.debugResume .dbg) s = .next s) ∧
    (s.dbgHalted = true → s.dbg.extest = none → debugLevel s = 2 →
      exec (.debugResume .dbg) s = .next (resumeCycle (haltRelease s))) ∧
    (s.mc.k.halted = true → exec (.debugResume .mc) s = .next s) ∧
    (haltRelease s).dbgHalted = false ∧ (haltRelease s).fld F.DBG_HALT_STAT_MEMBERS = 0 ∧ (haltRelease s).mc.k.halted = false ∧
    (haltRelease s).sp.k.halted = false ∧ ∀ n, n < 64 → ((haltRelease s).le n).k.halted = false) ∧
  (∀ (w : Fin 3) (v : Word) (s : State),
    (∀ p k, cmpSel s = some (p, k) → p ≠ .sp → ∃ t, exec (.dbgCmpWrite .mc w v) s = .next t ∧
      (w = 0 → (SMap.get (fun _ => ({} : Cmp)) (t.cpu p).k.cmps k).ctrl = v &&& 0xBF870717) ∧
      (w = 1 → (SMap.get (fun _ => ({} : Cmp)) (t.cpu p).k.cmps k).val = v) ∧
      (w = 2 → (SMap.get (fun _ => ({} : Cmp)) (t.cpu p).k.cmps k).mask = v) ∧ (t.cpu p).r = (s.cpu p).r ∧ t.mem = s.mem) ∧
    (cmpSel s = none → exec (.dbgCmpWrite .mc w v) s = .next s) ∧
    (∀ k, cmpSel s = some (.sp, k) → exec (.dbgCmpWrite .mc w v) s = .next s)) ∧
  (∀ (v : Word) (s : State), exec (.trcSw .mc v) s = .next (trcEmit s 4 (pktSw s v)) ∧
    (s.flag F.TRC_CTRL_EN = true → exec (.traceStart .mc) s = .next s) ∧
    (s.flag F.TRC_CTRL_EN = false → ∃ t, exec (.traceStart .mc) s = .next t ∧ t.flag F.TRC_CTRL_EN = true ∧
      t.fld F.TRC_STAT_LOST = 0 ∧ t.trc.sinceSync = 0) ∧
    (trcOn s 4 = false → trcEmit s 4 (pktSw s v) = s)) ∧
  ∀ s : State, (s.trc.atEnd = false → exec .traceBufferEnd s = .next s) ∧
    (s.trc.atEnd = true → s.flag F.TRC_CTRL_FSEN = false → ∃ t, exec .traceBufferEnd s = .next t ∧ t.trc.atEnd = false ∧
      (s.flag F.TRC_CTRL_STOPFULL = true → t.flag F.TRC_STAT_FULL = true) ∧
      (s.flag F.TRC_CTRL_STOPFULL = false → t.flag F.TRC_STAT_WRAPPED = true) ∧ t.mem = s.mem)

/-- A write of a peripheral register (R13, R15, R41, R285): outside the periphery or unaligned it does nothing; a processor's or the
debug port's goes through the fabric with its rights; a host's goes to BAR0, where an offset that holds no register is ignored. -/
def Obligations.RegisterWrites : Prop :=
  (∀ (a v : Word) (s : State),
    (inPeriphery a.toNat = false ∨ a.toNat % 4 ≠ 0 → exec (.registerWrite .mc a v) s = .next s ∧
      exec (.registerWrite .sp a v) s = .next s ∧ exec (.registerWrite .dbg a v) s = .next s) ∧
    (inPeriphery a.toNat = true → a.toNat % 4 = 0 → ∀ w i, (w, i) ∈ [(Writer.mc, Init.cpu .mc true), (.sp, .cpu .sp true), (.dbg, .dbg)] →
      ∀ r, r = fabWrite s i (writerPart s w) a.toNat (leBytes 4 v.toNat) →
      (r.1 ≠ .held → exec (.registerWrite w a v) s = .next r.2) ∧
      (r.1 = .held → ∃ t, exec (.registerWrite w a v) s = .next t ∧
        t.held = r.2.held ++ [.reg w (writerPart s w) false a.toNat v] ∧ t.mem = r.2.mem))) ∧
  (∀ (x : HostAcc) (a v : Word) (s : State), hifUp s = true →
    (x.space = .bar0 ∨ x.space = .bar2 → hostFits x a.toNat = false →
      (x.read = false → exec (.registerWrite (.host x) a v) s = .next (s.countReg R.HIF_BADACC)) ∧
      (x.read = true → exec (.registerWrite (.host x) a v) s = .next { s.countReg R.HIF_BADACC with readData := 0xFFFFFFFF })) ∧
    (x.space = .bar0 → hostFits x a.toNat = true → a.toNat < 0x10000 →
      (x.read = false → exec (.registerWrite (.host x) a v) s = .next (bar0Write s (bar0Reg a.toNat) v)) ∧
      (x.read = true → exec (.registerWrite (.host x) a v) s = .next { s with readData := regView s (bar0Reg a.toNat) })) ∧
    (x.space = .bar0 → hostFits x a.toNat = true → 0x10000 ≤ a.toNat → x.read = false → exec (.registerWrite (.host x) a v) s = .next s) ∧
    (x.space = .bar2 → hostFits x a.toNat = true →
      (x.read = true → exec (.registerWrite (.host x) a v) s = .next { s with readData := 0 }) ∧
      (x.read = false → a.toNat % 0x1000 ≠ 0 → exec (.registerWrite (.host x) a v) s = .next s)) ∧
    (x.space = .bar4 → hostFits x a.toNat = true → a.toNat < 16 * 130 → a.toNat % 16 = 8 → x.read = false →
      exec (.registerWrite (.host x) a v) s = .next (s.setVec (a.toNat / 16) { s.vec (a.toNat / 16) with data := v })) ∧
    (x.space = .cfg .ids → x.read = true → exec (.registerWrite (.host x) a v) s =
      .next { s with readData := word (s.fld F.SYS_VID_VID + 2 ^ 16 * s.fld F.SYS_ID_PART) }) ∧
    (x.space = .cfg .header → x.read = true → exec (.registerWrite (.host x) a v) s = .next { s with readData := 0 }) ∧
    (x.space = .cfg .ids → x.read = false → exec (.registerWrite (.host x) a v) s = .next s) ∧
    (x.space = .cfg .power → x.read = false → v.toNat % 4 = 3 → ∃ t, exec (.registerWrite (.host x) a v) s = .next t ∧
      t.hif.d3 = true ∧ t.regs = s.regs ∧ t.mem = s.mem)) ∧
  (∀ (x : HostAcc) (a v : Word) (s : State), hifUp s = false → exec (.registerWrite (.host x) a v) s = .next s) ∧
  (∀ (v : Word) (s : State), s.wrapped 0x4000D054 = false → asleep s 0x4000D054 = none →
    ∃ t, exec (.registerWrite .mc 0x4000D054 v) s = .next t ∧ t.fld F.AGM_VSENS_PS = v.toNat % 65536 ∧ t.mem = s.mem) ∧
  ∀ (v : Word) (s : State), s.flag F.SYS_BERR_INFO_VALID = false →
    ∃ t, exec (.registerWrite .sp 0x4000D054 v) s = .next t ∧ t.reg 0x4000D054 = s.reg 0x4000D054 ∧
      t.reg R.SYS_BERR_ADDR = 0x4000D054 ∧ t.flag F.SYS_BERR_INFO_VALID = true ∧ t.flag F.SYS_BERR_INFO_WRITE = true ∧ t.mem = s.mem

/-! ### Reset and memory -/

/-- The state right after reset: no command waits, no plan is in force, memory has its canonical form, and the registers named here hold
the values of their tables. -/
def Obligations.ResetState : Prop :=
  State.reset.pending = [] ∧ State.reset.plan = none ∧ State.reset.memOk ∧ State.reset.tb = 0 ∧
  State.reset.reg R.SYS_CAP = 0x00401840 ∧ State.reset.reg R.CYC_PERIOD = 0x3E8 ∧ State.reset.fld F.AGM_CTRL_EN = 1 ∧
  State.reset.reg (R.GPIO_PULL 1) = 0x55555555 ∧ State.reset.fld F.WDT_SYS_CTRL_PERIOD = 0x3E8 ∧ State.reset.reg (R.TMR_CMP 3) = 0xFFFFFFFF

/-- Every command and every idle step keeps the canonical form of memory: addresses strictly rising, no cell equal to what an unlisted
address holds. -/
def Obligations.MemoryKeepsForm : Prop :=
  ∀ s t : State, s.memOk → step s = .next t → t.memOk

/-- The link quantities of rule 4 (R257): T_OUT is 40 ns for each of the 4 × n_out + 20 characters of the stations with outputs,
whatever stations are admitted; D_LINE is the largest delay among the stations in RUN, 0 where none is. -/
def Obligations.LinkTimes : Prop :=
  (∀ k : LinkCfg, tOut k = 40 * ((k.stns.filter (fun y => decide (0 < y.nOut))).map (fun y => 4 * y.nOut + 20)).sum) ∧
  ∀ (l : Nat) (s : State),
    (∀ st ∈ s.stnList l, s.stnRun l st = true → (s.stn l st).delay ≤ dLine s l) ∧
    ((∃ st ∈ s.stnList l, s.stnRun l st = true) → ∃ st ∈ s.stnList l, s.stnRun l st = true ∧ (s.stn l st).delay = dLine s l) ∧
    ((∀ st ∈ s.stnList l, s.stnRun l st = false) → dLine s l = 0)
end

