-- ==== Sys2Proof/Laws/Maps.lean ====
section
/-! SUPPORT. Sparse maps: what a key reads after a change, and that every change keeps the canonical form. -/

namespace Sys2Proof.SMap

variable {α : Type}

theorem get_insert_same (d : Nat → α) (m : SMap α) (k : Nat) (v : α) (h : ∀ e ∈ m, e.1 ≠ k) : get d (insert m k v) k = v := by
  induction m with
  | nil => simp [insert, get]
  | cons e m ih =>
    obtain ⟨a, w⟩ := e
    have ha : a ≠ k := h (a, w) (by simp)
    by_cases hk : k < a
    · simp [insert, get, hk]
    · simp [insert, get, hk, ha, ih (fun e he => h e (by simp [he]))]

theorem get_insert_ne (d : Nat → α) (m : SMap α) (k j : Nat) (v : α) (h : j ≠ k) : get d (insert m k v) j = get d m j := by
  induction m with
  | nil => simp [insert, get, Ne.symm h]
  | cons e m ih =>
    obtain ⟨a, w⟩ := e
    by_cases hk : k < a <;> simp [insert, get, hk, Ne.symm h, ih]

theorem get_filter (d : Nat → α) (p : Nat → Bool) (m : SMap α) (j : Nat) (h : p j = true) :
    get d (m.filter (fun e => p e.1)) j = get d m j := by
  induction m with
  | nil => rfl
  | cons e m ih =>
    obtain ⟨a, w⟩ := e
    by_cases ha : p a = true
    · simp [ha, get, ih]
    · have : a ≠ j := fun e => ha (e ▸ h)
      simp [ha, get, ih, this]

theorem get_filter_off (d : Nat → α) (p : Nat → Bool) (m : SMap α) (j : Nat) (h : p j = false) :
    get d (m.filter (fun e => p e.1)) j = d j := by
  induction m with
  | nil => rfl
  | cons e m ih =>
    obtain ⟨a, w⟩ := e
    by_cases ha : p a = true
    · have : a ≠ j := fun e => by simp [e, h] at ha
      simp [ha, get, ih, this]
    · simp [ha, ih]

/-- A key reads what was put there. -/
@[simp] theorem get_set_same [DecidableEq α] (d : Nat → α) (m : SMap α) (k : Nat) (v : α) : get d (set d m k v) k = v := by
  unfold set
  split
  · next h => rw [get_filter_off d (fun a => decide (a ≠ k)) m k (by simp)]; exact h.symm
  · exact get_insert_same d _ k v (by simp)

/-- Every other key reads as before. -/
@[simp] theorem get_set_ne [DecidableEq α] (d : Nat → α) (m : SMap α) (k j : Nat) (v : α) (h : j ≠ k) :
    get d (set d m k v) j = get d m j := by
  unfold set
  have e := get_filter d (fun a => decide (a ≠ k)) m j (by simp [h])
  split
  · exact e
  · rw [get_insert_ne d _ k j v h]; exact e

/-- What `erase` does to a key. -/
theorem get_erase (d : Nat → α) (p : Nat → Bool) (m : SMap α) (j : Nat) : get d (erase p m) j = if p j then d j else get d m j := by
  unfold erase
  cases h : p j
  · simpa using get_filter d (fun a => !p a) m j (by simp [h])
  · simpa using get_filter_off d (fun a => !p a) m j (by simp [h])

/-- Dropping entries keeps the canonical form. -/
theorem wf_filter [DecidableEq α] (d : Nat → α) (q : Nat × α → Bool) (m : SMap α) (h : wf d m = true) : wf d (m.filter q) = true := by
  induction m with
  | nil => rfl
  | cons e m ih =>
    obtain ⟨a, w⟩ := e
    simp only [wf, Bool.and_eq_true, decide_eq_true_eq, List.all_eq_true] at h
    by_cases hq : q (a, w) = true
    · simp only [List.filter_cons, hq, if_true, wf, Bool.and_eq_true, decide_eq_true_eq, List.all_eq_true]
      exact ⟨⟨h.1.1, fun e he => h.1.2 e (List.mem_of_mem_filter he)⟩, ih h.2⟩
    · simpa [hq] using ih h.2

theorem mem_insert (m : SMap α) (k : Nat) (v : α) (e : Nat × α) (h : e ∈ insert m k v) : e = (k, v) ∨ e ∈ m := by
  induction m with
  | nil => simpa [insert] using h
  | cons f m ih =>
    obtain ⟨a, w⟩ := f
    by_cases hk : k < a
    · simpa [insert, hk] using h
    · simp only [insert, hk, if_false, List.mem_cons] at h
      rcases h with h | h
      · simp [h]
      · rcases ih h with h | h <;> simp [h]

/-- An entry put at its place keeps the canonical form. -/
theorem wf_insert [DecidableEq α] (d : Nat → α) (m : SMap α) (k : Nat) (v : α) (h : wf d m = true) (hv : v ≠ d k)
    (hk : ∀ e ∈ m, e.1 ≠ k) : wf d (insert m k v) = true := by
  induction m with
  | nil => simp [insert, wf, hv]
  | cons e m ih =>
    obtain ⟨a, w⟩ := e
    have h0 := h
    simp only [wf, Bool.and_eq_true, decide_eq_true_eq, List.all_eq_true] at h
    by_cases hlt : k < a
    · simp only [insert, hlt, if_true]
      rw [wf, h0]
      simp only [Bool.and_true, Bool.and_eq_true, decide_eq_true_eq, List.all_eq_true, List.mem_cons]
      refine ⟨hv, ?_⟩
      rintro e (rfl | he)
      · exact hlt
      · exact lt_trans hlt (h.1.2 e he)
    · have hak : a < k := by
        have := hk (a, w) (by simp)
        simp only at this
        omega
      simp only [insert, hlt, if_false, wf, Bool.and_eq_true, decide_eq_true_eq, List.all_eq_true]
      refine ⟨⟨h.1.1, fun e he => ?_⟩, ih h.2 (fun e he => hk e (by simp [he]))⟩
      rcases mem_insert m k v e he with rfl | he
      · exact hak
      · exact h.1.2 e he

/-- Every change of a key keeps the canonical form. -/
theorem wf_set [DecidableEq α] (d : Nat → α) (m : SMap α) (k : Nat) (v : α) (h : wf d m = true) : wf d (set d m k v) = true := by
  unfold set
  split
  · exact wf_filter d _ m h
  · next hv => exact wf_insert d _ k v (wf_filter d _ m h) hv (by simp)

/-- Erasing keys keeps the canonical form. -/
theorem wf_erase [DecidableEq α] (d : Nat → α) (p : Nat → Bool) (m : SMap α) (h : wf d m = true) : wf d (erase p m) = true :=
  wf_filter d _ m h

end Sys2Proof.SMap
end

