-- ==== Sys2Proof/Laws/State.lean ====
section
/-! SUPPORT. Reads of a state after an update: one lemma for each field and each update. -/

namespace Sys2Proof.Machine

@[simp] theorem State.withPending_tb (s : State) (q : List Instr) : (s.withPending q).tb = s.tb := rfl
@[simp] theorem State.withPending_mem (s : State) (q : List Instr) : (s.withPending q).mem = s.mem := rfl
@[simp] theorem State.withPending_ecc1 (s : State) (q : List Instr) : (s.withPending q).ecc1 = s.ecc1 := rfl
@[simp] theorem State.withPending_ecc2 (s : State) (q : List Instr) : (s.withPending q).ecc2 = s.ecc2 := rfl
@[simp] theorem State.withPending_regs (s : State) (q : List Instr) : (s.withPending q).regs = s.regs := rfl
@[simp] theorem State.withPending_les (s : State) (q : List Instr) : (s.withPending q).les = s.les := rfl
@[simp] theorem State.withPending_mc (s : State) (q : List Instr) : (s.withPending q).mc = s.mc := rfl
@[simp] theorem State.withPending_sp (s : State) (q : List Instr) : (s.withPending q).sp = s.sp := rfl
@[simp] theorem State.withPending_mcr (s : State) (q : List Instr) : (s.withPending q).mcr = s.mcr := rfl
@[simp] theorem State.withPending_plan (s : State) (q : List Instr) : (s.withPending q).plan = s.plan := rfl
@[simp] theorem State.withPending_shadows (s : State) (q : List Instr) : (s.withPending q).shadows = s.shadows := rfl
@[simp] theorem State.withPending_loading (s : State) (q : List Instr) : (s.withPending q).loading = s.loading := rfl
@[simp] theorem State.withPending_commits (s : State) (q : List Instr) : (s.withPending q).commits = s.commits := rfl
@[simp] theorem State.withPending_unloaded (s : State) (q : List Instr) : (s.withPending q).unloaded = s.unloaded := rfl
@[simp] theorem State.withPending_nvAreas (s : State) (q : List Instr) : (s.withPending q).nvAreas = s.nvAreas := rfl
@[simp] theorem State.withPending_nvr (s : State) (q : List Instr) : (s.withPending q).nvr = s.nvr := rfl
@[simp] theorem State.withPending_pfl (s : State) (q : List Instr) : (s.withPending q).pfl = s.pfl := rfl
@[simp] theorem State.withPending_cfg (s : State) (q : List Instr) : (s.withPending q).cfg = s.cfg := rfl
@[simp] theorem State.withPending_boot (s : State) (q : List Instr) : (s.withPending q).boot = s.boot := rfl
@[simp] theorem State.withPending_ent (s : State) (q : List Instr) : (s.withPending q).ent = s.ent := rfl
@[simp] theorem State.withPending_rst (s : State) (q : List Instr) : (s.withPending q).rst = s.rst := rfl
@[simp] theorem State.withPending_clk (s : State) (q : List Instr) : (s.withPending q).clk = s.clk := rfl
@[simp] theorem State.withPending_pmu (s : State) (q : List Instr) : (s.withPending q).pmu = s.pmu := rfl
@[simp] theorem State.withPending_bkd (s : State) (q : List Instr) : (s.withPending q).bkd = s.bkd := rfl
@[simp] theorem State.withPending_agm (s : State) (q : List Instr) : (s.withPending q).agm = s.agm := rfl
@[simp] theorem State.withPending_twl (s : State) (q : List Instr) : (s.withPending q).twl = s.twl := rfl
@[simp] theorem State.withPending_per (s : State) (q : List Instr) : (s.withPending q).per = s.per := rfl
@[simp] theorem State.withPending_bmv (s : State) (q : List Instr) : (s.withPending q).bmv = s.bmv := rfl
@[simp] theorem State.withPending_cvu (s : State) (q : List Instr) : (s.withPending q).cvu = s.cvu := rfl
@[simp] theorem State.withPending_mse (s : State) (q : List Instr) : (s.withPending q).mse = s.mse := rfl
@[simp] theorem State.withPending_dpr (s : State) (q : List Instr) : (s.withPending q).dpr = s.dpr := rfl
@[simp] theorem State.withPending_cyc (s : State) (q : List Instr) : (s.withPending q).cyc = s.cyc := rfl
@[simp] theorem State.withPending_slots (s : State) (q : List Instr) : (s.withPending q).slots = s.slots := rfl
@[simp] theorem State.withPending_orphans (s : State) (q : List Instr) : (s.withPending q).orphans = s.orphans := rfl
@[simp] theorem State.withPending_trc (s : State) (q : List Instr) : (s.withPending q).trc = s.trc := rfl
@[simp] theorem State.withPending_dbg (s : State) (q : List Instr) : (s.withPending q).dbg = s.dbg := rfl
@[simp] theorem State.withPending_hif (s : State) (q : List Instr) : (s.withPending q).hif = s.hif := rfl
@[simp] theorem State.withPending_links (s : State) (q : List Instr) : (s.withPending q).links = s.links := rfl
@[simp] theorem State.withPending_units (s : State) (q : List Instr) : (s.withPending q).units = s.units := rfl
@[simp] theorem State.withPending_fpgs (s : State) (q : List Instr) : (s.withPending q).fpgs = s.fpgs := rfl
@[simp] theorem State.withPending_draws (s : State) (q : List Instr) : (s.withPending q).draws = s.draws := rfl
@[simp] theorem State.withPending_readData (s : State) (q : List Instr) : (s.withPending q).readData = s.readData := rfl
@[simp] theorem State.setReg_pending (s : State) (a : Nat) (v : Word) : (s.setReg a v).pending = s.pending := rfl
@[simp] theorem State.setReg_tb (s : State) (a : Nat) (v : Word) : (s.setReg a v).tb = s.tb := rfl
@[simp] theorem State.setReg_mem (s : State) (a : Nat) (v : Word) : (s.setReg a v).mem = s.mem := rfl
@[simp] theorem State.setReg_ecc1 (s : State) (a : Nat) (v : Word) : (s.setReg a v).ecc1 = s.ecc1 := rfl
@[simp] theorem State.setReg_ecc2 (s : State) (a : Nat) (v : Word) : (s.setReg a v).ecc2 = s.ecc2 := rfl
@[simp] theorem State.setReg_les (s : State) (a : Nat) (v : Word) : (s.setReg a v).les = s.les := rfl
@[simp] theorem State.setReg_mc (s : State) (a : Nat) (v : Word) : (s.setReg a v).mc = s.mc := rfl
@[simp] theorem State.setReg_sp (s : State) (a : Nat) (v : Word) : (s.setReg a v).sp = s.sp := rfl
@[simp] theorem State.setReg_mcr (s : State) (a : Nat) (v : Word) : (s.setReg a v).mcr = s.mcr := rfl
@[simp] theorem State.setReg_plan (s : State) (a : Nat) (v : Word) : (s.setReg a v).plan = s.plan := rfl
@[simp] theorem State.setReg_shadows (s : State) (a : Nat) (v : Word) : (s.setReg a v).shadows = s.shadows := rfl
@[simp] theorem State.setReg_loading (s : State) (a : Nat) (v : Word) : (s.setReg a v).loading = s.loading := rfl
@[simp] theorem State.setReg_commits (s : State) (a : Nat) (v : Word) : (s.setReg a v).commits = s.commits := rfl
@[simp] theorem State.setReg_unloaded (s : State) (a : Nat) (v : Word) : (s.setReg a v).unloaded = s.unloaded := rfl
@[simp] theorem State.setReg_nvAreas (s : State) (a : Nat) (v : Word) : (s.setReg a v).nvAreas = s.nvAreas := rfl
@[simp] theorem State.setReg_nvr (s : State) (a : Nat) (v : Word) : (s.setReg a v).nvr = s.nvr := rfl
@[simp] theorem State.setReg_pfl (s : State) (a : Nat) (v : Word) : (s.setReg a v).pfl = s.pfl := rfl
@[simp] theorem State.setReg_cfg (s : State) (a : Nat) (v : Word) : (s.setReg a v).cfg = s.cfg := rfl
@[simp] theorem State.setReg_boot (s : State) (a : Nat) (v : Word) : (s.setReg a v).boot = s.boot := rfl
@[simp] theorem State.setReg_ent (s : State) (a : Nat) (v : Word) : (s.setReg a v).ent = s.ent := rfl
@[simp] theorem State.setReg_rst (s : State) (a : Nat) (v : Word) : (s.setReg a v).rst = s.rst := rfl
@[simp] theorem State.setReg_clk (s : State) (a : Nat) (v : Word) : (s.setReg a v).clk = s.clk := rfl
@[simp] theorem State.setReg_pmu (s : State) (a : Nat) (v : Word) : (s.setReg a v).pmu = s.pmu := rfl
@[simp] theorem State.setReg_bkd (s : State) (a : Nat) (v : Word) : (s.setReg a v).bkd = s.bkd := rfl
@[simp] theorem State.setReg_agm (s : State) (a : Nat) (v : Word) : (s.setReg a v).agm = s.agm := rfl
@[simp] theorem State.setReg_twl (s : State) (a : Nat) (v : Word) : (s.setReg a v).twl = s.twl := rfl
@[simp] theorem State.setReg_per (s : State) (a : Nat) (v : Word) : (s.setReg a v).per = s.per := rfl
@[simp] theorem State.setReg_bmv (s : State) (a : Nat) (v : Word) : (s.setReg a v).bmv = s.bmv := rfl
@[simp] theorem State.setReg_cvu (s : State) (a : Nat) (v : Word) : (s.setReg a v).cvu = s.cvu := rfl
@[simp] theorem State.setReg_mse (s : State) (a : Nat) (v : Word) : (s.setReg a v).mse = s.mse := rfl
@[simp] theorem State.setReg_dpr (s : State) (a : Nat) (v : Word) : (s.setReg a v).dpr = s.dpr := rfl
@[simp] theorem State.setReg_cyc (s : State) (a : Nat) (v : Word) : (s.setReg a v).cyc = s.cyc := rfl
@[simp] theorem State.setReg_slots (s : State) (a : Nat) (v : Word) : (s.setReg a v).slots = s.slots := rfl
@[simp] theorem State.setReg_orphans (s : State) (a : Nat) (v : Word) : (s.setReg a v).orphans = s.orphans := rfl
@[simp] theorem State.setReg_trc (s : State) (a : Nat) (v : Word) : (s.setReg a v).trc = s.trc := rfl
@[simp] theorem State.setReg_dbg (s : State) (a : Nat) (v : Word) : (s.setReg a v).dbg = s.dbg := rfl
@[simp] theorem State.setReg_hif (s : State) (a : Nat) (v : Word) : (s.setReg a v).hif = s.hif := rfl
@[simp] theorem State.setReg_links (s : State) (a : Nat) (v : Word) : (s.setReg a v).links = s.links := rfl
@[simp] theorem State.setReg_units (s : State) (a : Nat) (v : Word) : (s.setReg a v).units = s.units := rfl
@[simp] theorem State.setReg_fpgs (s : State) (a : Nat) (v : Word) : (s.setReg a v).fpgs = s.fpgs := rfl
@[simp] theorem State.setReg_draws (s : State) (a : Nat) (v : Word) : (s.setReg a v).draws = s.draws := rfl
@[simp] theorem State.setReg_readData (s : State) (a : Nat) (v : Word) : (s.setReg a v).readData = s.readData := rfl
@[simp] theorem State.setFld_pending (s : State) (f : Fld) (v : Nat) : (s.setFld f v).pending = s.pending := rfl
@[simp] theorem State.setFld_tb (s : State) (f : Fld) (v : Nat) : (s.setFld f v).tb = s.tb := rfl
@[simp] theorem State.setFld_mem (s : State) (f : Fld) (v : Nat) : (s.setFld f v).mem = s.mem := rfl
@[simp] theorem State.setFld_ecc1 (s : State) (f : Fld) (v : Nat) : (s.setFld f v).ecc1 = s.ecc1 := rfl
@[simp] theorem State.setFld_ecc2 (s : State) (f : Fld) (v : Nat) : (s.setFld f v).ecc2 = s.ecc2 := rfl
@[simp] theorem State.setFld_les (s : State) (f : Fld) (v : Nat) : (s.setFld f v).les = s.les := rfl
@[simp] theorem State.setFld_mc (s : State) (f : Fld) (v : Nat) : (s.setFld f v).mc = s.mc := rfl
@[simp] theorem State.setFld_sp (s : State) (f : Fld) (v : Nat) : (s.setFld f v).sp = s.sp := rfl
@[simp] theorem State.setFld_mcr (s : State) (f : Fld) (v : Nat) : (s.setFld f v).mcr = s.mcr := rfl
@[simp] theorem State.setFld_plan (s : State) (f : Fld) (v : Nat) : (s.setFld f v).plan = s.plan := rfl
@[simp] theorem State.setFld_shadows (s : State) (f : Fld) (v : Nat) : (s.setFld f v).shadows = s.shadows := rfl
@[simp] theorem State.setFld_loading (s : State) (f : Fld) (v : Nat) : (s.setFld f v).loading = s.loading := rfl
@[simp] theorem State.setFld_commits (s : State) (f : Fld) (v : Nat) : (s.setFld f v).commits = s.commits := rfl
@[simp] theorem State.setFld_unloaded (s : State) (f : Fld) (v : Nat) : (s.setFld f v).unloaded = s.unloaded := rfl
@[simp] theorem State.setFld_nvAreas (s : State) (f : Fld) (v : Nat) : (s.setFld f v).nvAreas = s.nvAreas := rfl
@[simp] theorem State.setFld_nvr (s : State) (f : Fld) (v : Nat) : (s.setFld f v).nvr = s.nvr := rfl
@[simp] theorem State.setFld_pfl (s : State) (f : Fld) (v : Nat) : (s.setFld f v).pfl = s.pfl := rfl
@[simp] theorem State.setFld_cfg (s : State) (f : Fld) (v : Nat) : (s.setFld f v).cfg = s.cfg := rfl
@[simp] theorem State.setFld_boot (s : State) (f : Fld) (v : Nat) : (s.setFld f v).boot = s.boot := rfl
@[simp] theorem State.setFld_ent (s : State) (f : Fld) (v : Nat) : (s.setFld f v).ent = s.ent := rfl
@[simp] theorem State.setFld_rst (s : State) (f : Fld) (v : Nat) : (s.setFld f v).rst = s.rst := rfl
@[simp] theorem State.setFld_clk (s : State) (f : Fld) (v : Nat) : (s.setFld f v).clk = s.clk := rfl
@[simp] theorem State.setFld_pmu (s : State) (f : Fld) (v : Nat) : (s.setFld f v).pmu = s.pmu := rfl
@[simp] theorem State.setFld_bkd (s : State) (f : Fld) (v : Nat) : (s.setFld f v).bkd = s.bkd := rfl
@[simp] theorem State.setFld_agm (s : State) (f : Fld) (v : Nat) : (s.setFld f v).agm = s.agm := rfl
@[simp] theorem State.setFld_twl (s : State) (f : Fld) (v : Nat) : (s.setFld f v).twl = s.twl := rfl
@[simp] theorem State.setFld_per (s : State) (f : Fld) (v : Nat) : (s.setFld f v).per = s.per := rfl
@[simp] theorem State.setFld_bmv (s : State) (f : Fld) (v : Nat) : (s.setFld f v).bmv = s.bmv := rfl
@[simp] theorem State.setFld_cvu (s : State) (f : Fld) (v : Nat) : (s.setFld f v).cvu = s.cvu := rfl
@[simp] theorem State.setFld_mse (s : State) (f : Fld) (v : Nat) : (s.setFld f v).mse = s.mse := rfl
@[simp] theorem State.setFld_dpr (s : State) (f : Fld) (v : Nat) : (s.setFld f v).dpr = s.dpr := rfl
@[simp] theorem State.setFld_cyc (s : State) (f : Fld) (v : Nat) : (s.setFld f v).cyc = s.cyc := rfl
@[simp] theorem State.setFld_slots (s : State) (f : Fld) (v : Nat) : (s.setFld f v).slots = s.slots := rfl
@[simp] theorem State.setFld_orphans (s : State) (f : Fld) (v : Nat) : (s.setFld f v).orphans = s.orphans := rfl
@[simp] theorem State.setFld_trc (s : State) (f : Fld) (v : Nat) : (s.setFld f v).trc = s.trc := rfl
@[simp] theorem State.setFld_dbg (s : State) (f : Fld) (v : Nat) : (s.setFld f v).dbg = s.dbg := rfl
@[simp] theorem State.setFld_hif (s : State) (f : Fld) (v : Nat) : (s.setFld f v).hif = s.hif := rfl
@[simp] theorem State.setFld_links (s : State) (f : Fld) (v : Nat) : (s.setFld f v).links = s.links := rfl
@[simp] theorem State.setFld_units (s : State) (f : Fld) (v : Nat) : (s.setFld f v).units = s.units := rfl
@[simp] theorem State.setFld_fpgs (s : State) (f : Fld) (v : Nat) : (s.setFld f v).fpgs = s.fpgs := rfl
@[simp] theorem State.setFld_draws (s : State) (f : Fld) (v : Nat) : (s.setFld f v).draws = s.draws := rfl
@[simp] theorem State.setFld_readData (s : State) (f : Fld) (v : Nat) : (s.setFld f v).readData = s.readData := rfl
@[simp] theorem State.setByte_pending (s : State) (a : Nat) (v : Byte) : (s.setByte a v).pending = s.pending := rfl
@[simp] theorem State.setByte_tb (s : State) (a : Nat) (v : Byte) : (s.setByte a v).tb = s.tb := rfl
@[simp] theorem State.setByte_ecc1 (s : State) (a : Nat) (v : Byte) : (s.setByte a v).ecc1 = s.ecc1 := rfl
@[simp] theorem State.setByte_ecc2 (s : State) (a : Nat) (v : Byte) : (s.setByte a v).ecc2 = s.ecc2 := rfl
@[simp] theorem State.setByte_regs (s : State) (a : Nat) (v : Byte) : (s.setByte a v).regs = s.regs := rfl
@[simp] theorem State.setByte_les (s : State) (a : Nat) (v : Byte) : (s.setByte a v).les = s.les := rfl
@[simp] theorem State.setByte_mc (s : State) (a : Nat) (v : Byte) : (s.setByte a v).mc = s.mc := rfl
@[simp] theorem State.setByte_sp (s : State) (a : Nat) (v : Byte) : (s.setByte a v).sp = s.sp := rfl
@[simp] theorem State.setByte_mcr (s : State) (a : Nat) (v : Byte) : (s.setByte a v).mcr = s.mcr := rfl
@[simp] theorem State.setByte_plan (s : State) (a : Nat) (v : Byte) : (s.setByte a v).plan = s.plan := rfl
@[simp] theorem State.setByte_shadows (s : State) (a : Nat) (v : Byte) : (s.setByte a v).shadows = s.shadows := rfl
@[simp] theorem State.setByte_loading (s : State) (a : Nat) (v : Byte) : (s.setByte a v).loading = s.loading := rfl
@[simp] theorem State.setByte_commits (s : State) (a : Nat) (v : Byte) : (s.setByte a v).commits = s.commits := rfl
@[simp] theorem State.setByte_unloaded (s : State) (a : Nat) (v : Byte) : (s.setByte a v).unloaded = s.unloaded := rfl
@[simp] theorem State.setByte_nvAreas (s : State) (a : Nat) (v : Byte) : (s.setByte a v).nvAreas = s.nvAreas := rfl
@[simp] theorem State.setByte_nvr (s : State) (a : Nat) (v : Byte) : (s.setByte a v).nvr = s.nvr := rfl
@[simp] theorem State.setByte_pfl (s : State) (a : Nat) (v : Byte) : (s.setByte a v).pfl = s.pfl := rfl
@[simp] theorem State.setByte_cfg (s : State) (a : Nat) (v : Byte) : (s.setByte a v).cfg = s.cfg := rfl
@[simp] theorem State.setByte_boot (s : State) (a : Nat) (v : Byte) : (s.setByte a v).boot = s.boot := rfl
@[simp] theorem State.setByte_ent (s : State) (a : Nat) (v : Byte) : (s.setByte a v).ent = s.ent := rfl
@[simp] theorem State.setByte_rst (s : State) (a : Nat) (v : Byte) : (s.setByte a v).rst = s.rst := rfl
@[simp] theorem State.setByte_clk (s : State) (a : Nat) (v : Byte) : (s.setByte a v).clk = s.clk := rfl
@[simp] theorem State.setByte_pmu (s : State) (a : Nat) (v : Byte) : (s.setByte a v).pmu = s.pmu := rfl
@[simp] theorem State.setByte_bkd (s : State) (a : Nat) (v : Byte) : (s.setByte a v).bkd = s.bkd := rfl
@[simp] theorem State.setByte_agm (s : State) (a : Nat) (v : Byte) : (s.setByte a v).agm = s.agm := rfl
@[simp] theorem State.setByte_twl (s : State) (a : Nat) (v : Byte) : (s.setByte a v).twl = s.twl := rfl
@[simp] theorem State.setByte_per (s : State) (a : Nat) (v : Byte) : (s.setByte a v).per = s.per := rfl
@[simp] theorem State.setByte_bmv (s : State) (a : Nat) (v : Byte) : (s.setByte a v).bmv = s.bmv := rfl
@[simp] theorem State.setByte_cvu (s : State) (a : Nat) (v : Byte) : (s.setByte a v).cvu = s.cvu := rfl
@[simp] theorem State.setByte_mse (s : State) (a : Nat) (v : Byte) : (s.setByte a v).mse = s.mse := rfl
@[simp] theorem State.setByte_dpr (s : State) (a : Nat) (v : Byte) : (s.setByte a v).dpr = s.dpr := rfl
@[simp] theorem State.setByte_cyc (s : State) (a : Nat) (v : Byte) : (s.setByte a v).cyc = s.cyc := rfl
@[simp] theorem State.setByte_slots (s : State) (a : Nat) (v : Byte) : (s.setByte a v).slots = s.slots := rfl
@[simp] theorem State.setByte_orphans (s : State) (a : Nat) (v : Byte) : (s.setByte a v).orphans = s.orphans := rfl
@[simp] theorem State.setByte_trc (s : State) (a : Nat) (v : Byte) : (s.setByte a v).trc = s.trc := rfl
@[simp] theorem State.setByte_dbg (s : State) (a : Nat) (v : Byte) : (s.setByte a v).dbg = s.dbg := rfl
@[simp] theorem State.setByte_hif (s : State) (a : Nat) (v : Byte) : (s.setByte a v).hif = s.hif := rfl
@[simp] theorem State.setByte_links (s : State) (a : Nat) (v : Byte) : (s.setByte a v).links = s.links := rfl
@[simp] theorem State.setByte_units (s : State) (a : Nat) (v : Byte) : (s.setByte a v).units = s.units := rfl
@[simp] theorem State.setByte_fpgs (s : State) (a : Nat) (v : Byte) : (s.setByte a v).fpgs = s.fpgs := rfl
@[simp] theorem State.setByte_draws (s : State) (a : Nat) (v : Byte) : (s.setByte a v).draws = s.draws := rfl
@[simp] theorem State.setByte_readData (s : State) (a : Nat) (v : Byte) : (s.setByte a v).readData = s.readData := rfl
@[simp] theorem State.setLe_pending (s : State) (n : Nat) (c : Cpu) : (s.setLe n c).pending = s.pending := rfl
@[simp] theorem State.setLe_tb (s : State) (n : Nat) (c : Cpu) : (s.setLe n c).tb = s.tb := rfl
@[simp] theorem State.setLe_mem (s : State) (n : Nat) (c : Cpu) : (s.setLe n c).mem = s.mem := rfl
@[simp] theorem State.setLe_ecc1 (s : State) (n : Nat) (c : Cpu) : (s.setLe n c).ecc1 = s.ecc1 := rfl
@[simp] theorem State.setLe_ecc2 (s : State) (n : Nat) (c : Cpu) : (s.setLe n c).ecc2 = s.ecc2 := rfl
@[simp] theorem State.setLe_regs (s : State) (n : Nat) (c : Cpu) : (s.setLe n c).regs = s.regs := rfl
@[simp] theorem State.setLe_mc (s : State) (n : Nat) (c : Cpu) : (s.setLe n c).mc = s.mc := rfl
@[simp] theorem State.setLe_sp (s : State) (n : Nat) (c : Cpu) : (s.setLe n c).sp = s.sp := rfl
@[simp] theorem State.setLe_mcr (s : State) (n : Nat) (c : Cpu) : (s.setLe n c).mcr = s.mcr := rfl
@[simp] theorem State.setLe_plan (s : State) (n : Nat) (c : Cpu) : (s.setLe n c).plan = s.plan := rfl
@[simp] theorem State.setLe_shadows (s : State) (n : Nat) (c : Cpu) : (s.setLe n c).shadows = s.shadows := rfl
@[simp] theorem State.setLe_loading (s : State) (n : Nat) (c : Cpu) : (s.setLe n c).loading = s.loading := rfl
@[simp] theorem State.setLe_commits (s : State) (n : Nat) (c : Cpu) : (s.setLe n c).commits = s.commits := rfl
@[simp] theorem State.setLe_unloaded (s : State) (n : Nat) (c : Cpu) : (s.setLe n c).unloaded = s.unloaded := rfl
@[simp] theorem State.setLe_nvAreas (s : State) (n : Nat) (c : Cpu) : (s.setLe n c).nvAreas = s.nvAreas := rfl
@[simp] theorem State.setLe_nvr (s : State) (n : Nat) (c : Cpu) : (s.setLe n c).nvr = s.nvr := rfl
@[simp] theorem State.setLe_pfl (s : State) (n : Nat) (c : Cpu) : (s.setLe n c).pfl = s.pfl := rfl
@[simp] theorem State.setLe_cfg (s : State) (n : Nat) (c : Cpu) : (s.setLe n c).cfg = s.cfg := rfl
@[simp] theorem State.setLe_boot (s : State) (n : Nat) (c : Cpu) : (s.setLe n c).boot = s.boot := rfl
@[simp] theorem State.setLe_ent (s : State) (n : Nat) (c : Cpu) : (s.setLe n c).ent = s.ent := rfl
@[simp] theorem State.setLe_rst (s : State) (n : Nat) (c : Cpu) : (s.setLe n c).rst = s.rst := rfl
@[simp] theorem State.setLe_clk (s : State) (n : Nat) (c : Cpu) : (s.setLe n c).clk = s.clk := rfl
@[simp] theorem State.setLe_pmu (s : State) (n : Nat) (c : Cpu) : (s.setLe n c).pmu = s.pmu := rfl
@[simp] theorem State.setLe_bkd (s : State) (n : Nat) (c : Cpu) : (s.setLe n c).bkd = s.bkd := rfl
@[simp] theorem State.setLe_agm (s : State) (n : Nat) (c : Cpu) : (s.setLe n c).agm = s.agm := rfl
@[simp] theorem State.setLe_twl (s : State) (n : Nat) (c : Cpu) : (s.setLe n c).twl = s.twl := rfl
@[simp] theorem State.setLe_per (s : State) (n : Nat) (c : Cpu) : (s.setLe n c).per = s.per := rfl
@[simp] theorem State.setLe_bmv (s : State) (n : Nat) (c : Cpu) : (s.setLe n c).bmv = s.bmv := rfl
@[simp] theorem State.setLe_cvu (s : State) (n : Nat) (c : Cpu) : (s.setLe n c).cvu = s.cvu := rfl
@[simp] theorem State.setLe_mse (s : State) (n : Nat) (c : Cpu) : (s.setLe n c).mse = s.mse := rfl
@[simp] theorem State.setLe_dpr (s : State) (n : Nat) (c : Cpu) : (s.setLe n c).dpr = s.dpr := rfl
@[simp] theorem State.setLe_cyc (s : State) (n : Nat) (c : Cpu) : (s.setLe n c).cyc = s.cyc := rfl
@[simp] theorem State.setLe_slots (s : State) (n : Nat) (c : Cpu) : (s.setLe n c).slots = s.slots := rfl
@[simp] theorem State.setLe_orphans (s : State) (n : Nat) (c : Cpu) : (s.setLe n c).orphans = s.orphans := rfl
@[simp] theorem State.setLe_trc (s : State) (n : Nat) (c : Cpu) : (s.setLe n c).trc = s.trc := rfl
@[simp] theorem State.setLe_dbg (s : State) (n : Nat) (c : Cpu) : (s.setLe n c).dbg = s.dbg := rfl
@[simp] theorem State.setLe_hif (s : State) (n : Nat) (c : Cpu) : (s.setLe n c).hif = s.hif := rfl
@[simp] theorem State.setLe_links (s : State) (n : Nat) (c : Cpu) : (s.setLe n c).links = s.links := rfl
@[simp] theorem State.setLe_units (s : State) (n : Nat) (c : Cpu) : (s.setLe n c).units = s.units := rfl
@[simp] theorem State.setLe_fpgs (s : State) (n : Nat) (c : Cpu) : (s.setLe n c).fpgs = s.fpgs := rfl
@[simp] theorem State.setLe_draws (s : State) (n : Nat) (c : Cpu) : (s.setLe n c).draws = s.draws := rfl
@[simp] theorem State.setLe_readData (s : State) (n : Nat) (c : Cpu) : (s.setLe n c).readData = s.readData := rfl
@[simp] theorem State.setSlot_pending (s : State) (n : Nat) (x : Slot) : (s.setSlot n x).pending = s.pending := rfl
@[simp] theorem State.setSlot_tb (s : State) (n : Nat) (x : Slot) : (s.setSlot n x).tb = s.tb := rfl
@[simp] theorem State.setSlot_mem (s : State) (n : Nat) (x : Slot) : (s.setSlot n x).mem = s.mem := rfl
@[simp] theorem State.setSlot_ecc1 (s : State) (n : Nat) (x : Slot) : (s.setSlot n x).ecc1 = s.ecc1 := rfl
@[simp] theorem State.setSlot_ecc2 (s : State) (n : Nat) (x : Slot) : (s.setSlot n x).ecc2 = s.ecc2 := rfl
@[simp] theorem State.setSlot_regs (s : State) (n : Nat) (x : Slot) : (s.setSlot n x).regs = s.regs := rfl
@[simp] theorem State.setSlot_les (s : State) (n : Nat) (x : Slot) : (s.setSlot n x).les = s.les := rfl
@[simp] theorem State.setSlot_mc (s : State) (n : Nat) (x : Slot) : (s.setSlot n x).mc = s.mc := rfl
@[simp] theorem State.setSlot_sp (s : State) (n : Nat) (x : Slot) : (s.setSlot n x).sp = s.sp := rfl
@[simp] theorem State.setSlot_mcr (s : State) (n : Nat) (x : Slot) : (s.setSlot n x).mcr = s.mcr := rfl
@[simp] theorem State.setSlot_plan (s : State) (n : Nat) (x : Slot) : (s.setSlot n x).plan = s.plan := rfl
@[simp] theorem State.setSlot_shadows (s : State) (n : Nat) (x : Slot) : (s.setSlot n x).shadows = s.shadows := rfl
@[simp] theorem State.setSlot_loading (s : State) (n : Nat) (x : Slot) : (s.setSlot n x).loading = s.loading := rfl
@[simp] theorem State.setSlot_commits (s : State) (n : Nat) (x : Slot) : (s.setSlot n x).commits = s.commits := rfl
@[simp] theorem State.setSlot_unloaded (s : State) (n : Nat) (x : Slot) : (s.setSlot n x).unloaded = s.unloaded := rfl
@[simp] theorem State.setSlot_nvAreas (s : State) (n : Nat) (x : Slot) : (s.setSlot n x).nvAreas = s.nvAreas := rfl
@[simp] theorem State.setSlot_nvr (s : State) (n : Nat) (x : Slot) : (s.setSlot n x).nvr = s.nvr := rfl
@[simp] theorem State.setSlot_pfl (s : State) (n : Nat) (x : Slot) : (s.setSlot n x).pfl = s.pfl := rfl
@[simp] theorem State.setSlot_cfg (s : State) (n : Nat) (x : Slot) : (s.setSlot n x).cfg = s.cfg := rfl
@[simp] theorem State.setSlot_boot (s : State) (n : Nat) (x : Slot) : (s.setSlot n x).boot = s.boot := rfl
@[simp] theorem State.setSlot_ent (s : State) (n : Nat) (x : Slot) : (s.setSlot n x).ent = s.ent := rfl
@[simp] theorem State.setSlot_rst (s : State) (n : Nat) (x : Slot) : (s.setSlot n x).rst = s.rst := rfl
@[simp] theorem State.setSlot_clk (s : State) (n : Nat) (x : Slot) : (s.setSlot n x).clk = s.clk := rfl
@[simp] theorem State.setSlot_pmu (s : State) (n : Nat) (x : Slot) : (s.setSlot n x).pmu = s.pmu := rfl
@[simp] theorem State.setSlot_bkd (s : State) (n : Nat) (x : Slot) : (s.setSlot n x).bkd = s.bkd := rfl
@[simp] theorem State.setSlot_agm (s : State) (n : Nat) (x : Slot) : (s.setSlot n x).agm = s.agm := rfl
@[simp] theorem State.setSlot_twl (s : State) (n : Nat) (x : Slot) : (s.setSlot n x).twl = s.twl := rfl
@[simp] theorem State.setSlot_per (s : State) (n : Nat) (x : Slot) : (s.setSlot n x).per = s.per := rfl
@[simp] theorem State.setSlot_bmv (s : State) (n : Nat) (x : Slot) : (s.setSlot n x).bmv = s.bmv := rfl
@[simp] theorem State.setSlot_cvu (s : State) (n : Nat) (x : Slot) : (s.setSlot n x).cvu = s.cvu := rfl
@[simp] theorem State.setSlot_mse (s : State) (n : Nat) (x : Slot) : (s.setSlot n x).mse = s.mse := rfl
@[simp] theorem State.setSlot_dpr (s : State) (n : Nat) (x : Slot) : (s.setSlot n x).dpr = s.dpr := rfl
@[simp] theorem State.setSlot_cyc (s : State) (n : Nat) (x : Slot) : (s.setSlot n x).cyc = s.cyc := rfl
@[simp] theorem State.setSlot_orphans (s : State) (n : Nat) (x : Slot) : (s.setSlot n x).orphans = s.orphans := rfl
@[simp] theorem State.setSlot_trc (s : State) (n : Nat) (x : Slot) : (s.setSlot n x).trc = s.trc := rfl
@[simp] theorem State.setSlot_dbg (s : State) (n : Nat) (x : Slot) : (s.setSlot n x).dbg = s.dbg := rfl
@[simp] theorem State.setSlot_hif (s : State) (n : Nat) (x : Slot) : (s.setSlot n x).hif = s.hif := rfl
@[simp] theorem State.setSlot_links (s : State) (n : Nat) (x : Slot) : (s.setSlot n x).links = s.links := rfl
@[simp] theorem State.setSlot_units (s : State) (n : Nat) (x : Slot) : (s.setSlot n x).units = s.units := rfl
@[simp] theorem State.setSlot_fpgs (s : State) (n : Nat) (x : Slot) : (s.setSlot n x).fpgs = s.fpgs := rfl
@[simp] theorem State.setSlot_draws (s : State) (n : Nat) (x : Slot) : (s.setSlot n x).draws = s.draws := rfl
@[simp] theorem State.setSlot_readData (s : State) (n : Nat) (x : Slot) : (s.setSlot n x).readData = s.readData := rfl
@[simp] theorem State.setLnk_pending (s : State) (l : Nat) (x : Lnk) : (s.setLnk l x).pending = s.pending := rfl
@[simp] theorem State.setLnk_tb (s : State) (l : Nat) (x : Lnk) : (s.setLnk l x).tb = s.tb := rfl
@[simp] theorem State.setLnk_mem (s : State) (l : Nat) (x : Lnk) : (s.setLnk l x).mem = s.mem := rfl
@[simp] theorem State.setLnk_ecc1 (s : State) (l : Nat) (x : Lnk) : (s.setLnk l x).ecc1 = s.ecc1 := rfl
@[simp] theorem State.setLnk_ecc2 (s : State) (l : Nat) (x : Lnk) : (s.setLnk l x).ecc2 = s.ecc2 := rfl
@[simp] theorem State.setLnk_regs (s : State) (l : Nat) (x : Lnk) : (s.setLnk l x).regs = s.regs := rfl
@[simp] theorem State.setLnk_les (s : State) (l : Nat) (x : Lnk) : (s.setLnk l x).les = s.les := rfl
@[simp] theorem State.setLnk_mc (s : State) (l : Nat) (x : Lnk) : (s.setLnk l x).mc = s.mc := rfl
@[simp] theorem State.setLnk_sp (s : State) (l : Nat) (x : Lnk) : (s.setLnk l x).sp = s.sp := rfl
@[simp] theorem State.setLnk_mcr (s : State) (l : Nat) (x : Lnk) : (s.setLnk l x).mcr = s.mcr := rfl
@[simp] theorem State.setLnk_plan (s : State) (l : Nat) (x : Lnk) : (s.setLnk l x).plan = s.plan := rfl
@[simp] theorem State.setLnk_shadows (s : State) (l : Nat) (x : Lnk) : (s.setLnk l x).shadows = s.shadows := rfl
@[simp] theorem State.setLnk_loading (s : State) (l : Nat) (x : Lnk) : (s.setLnk l x).loading = s.loading := rfl
@[simp] theorem State.setLnk_commits (s : State) (l : Nat) (x : Lnk) : (s.setLnk l x).commits = s.commits := rfl
@[simp] theorem State.setLnk_unloaded (s : State) (l : Nat) (x : Lnk) : (s.setLnk l x).unloaded = s.unloaded := rfl
@[simp] theorem State.setLnk_nvAreas (s : State) (l : Nat) (x : Lnk) : (s.setLnk l x).nvAreas = s.nvAreas := rfl
@[simp] theorem State.setLnk_nvr (s : State) (l : Nat) (x : Lnk) : (s.setLnk l x).nvr = s.nvr := rfl
@[simp] theorem State.setLnk_pfl (s : State) (l : Nat) (x : Lnk) : (s.setLnk l x).pfl = s.pfl := rfl
@[simp] theorem State.setLnk_cfg (s : State) (l : Nat) (x : Lnk) : (s.setLnk l x).cfg = s.cfg := rfl
@[simp] theorem State.setLnk_boot (s : State) (l : Nat) (x : Lnk) : (s.setLnk l x).boot = s.boot := rfl
@[simp] theorem State.setLnk_ent (s : State) (l : Nat) (x : Lnk) : (s.setLnk l x).ent = s.ent := rfl
@[simp] theorem State.setLnk_rst (s : State) (l : Nat) (x : Lnk) : (s.setLnk l x).rst = s.rst := rfl
@[simp] theorem State.setLnk_clk (s : State) (l : Nat) (x : Lnk) : (s.setLnk l x).clk = s.clk := rfl
@[simp] theorem State.setLnk_pmu (s : State) (l : Nat) (x : Lnk) : (s.setLnk l x).pmu = s.pmu := rfl
@[simp] theorem State.setLnk_bkd (s : State) (l : Nat) (x : Lnk) : (s.setLnk l x).bkd = s.bkd := rfl
@[simp] theorem State.setLnk_agm (s : State) (l : Nat) (x : Lnk) : (s.setLnk l x).agm = s.agm := rfl
@[simp] theorem State.setLnk_twl (s : State) (l : Nat) (x : Lnk) : (s.setLnk l x).twl = s.twl := rfl
@[simp] theorem State.setLnk_per (s : State) (l : Nat) (x : Lnk) : (s.setLnk l x).per = s.per := rfl
@[simp] theorem State.setLnk_bmv (s : State) (l : Nat) (x : Lnk) : (s.setLnk l x).bmv = s.bmv := rfl
@[simp] theorem State.setLnk_cvu (s : State) (l : Nat) (x : Lnk) : (s.setLnk l x).cvu = s.cvu := rfl
@[simp] theorem State.setLnk_mse (s : State) (l : Nat) (x : Lnk) : (s.setLnk l x).mse = s.mse := rfl
@[simp] theorem State.setLnk_dpr (s : State) (l : Nat) (x : Lnk) : (s.setLnk l x).dpr = s.dpr := rfl
@[simp] theorem State.setLnk_cyc (s : State) (l : Nat) (x : Lnk) : (s.setLnk l x).cyc = s.cyc := rfl
@[simp] theorem State.setLnk_slots (s : State) (l : Nat) (x : Lnk) : (s.setLnk l x).slots = s.slots := rfl
@[simp] theorem State.setLnk_orphans (s : State) (l : Nat) (x : Lnk) : (s.setLnk l x).orphans = s.orphans := rfl
@[simp] theorem State.setLnk_trc (s : State) (l : Nat) (x : Lnk) : (s.setLnk l x).trc = s.trc := rfl
@[simp] theorem State.setLnk_dbg (s : State) (l : Nat) (x : Lnk) : (s.setLnk l x).dbg = s.dbg := rfl
@[simp] theorem State.setLnk_hif (s : State) (l : Nat) (x : Lnk) : (s.setLnk l x).hif = s.hif := rfl
@[simp] theorem State.setLnk_units (s : State) (l : Nat) (x : Lnk) : (s.setLnk l x).units = s.units := rfl
@[simp] theorem State.setLnk_fpgs (s : State) (l : Nat) (x : Lnk) : (s.setLnk l x).fpgs = s.fpgs := rfl
@[simp] theorem State.setLnk_draws (s : State) (l : Nat) (x : Lnk) : (s.setLnk l x).draws = s.draws := rfl
@[simp] theorem State.setLnk_readData (s : State) (l : Nat) (x : Lnk) : (s.setLnk l x).readData = s.readData := rfl
@[simp] theorem State.setStn_pending (s : State) (l st : Nat) (y : Stn) : (s.setStn l st y).pending = s.pending := rfl
@[simp] theorem State.setStn_tb (s : State) (l st : Nat) (y : Stn) : (s.setStn l st y).tb = s.tb := rfl
@[simp] theorem State.setStn_mem (s : State) (l st : Nat) (y : Stn) : (s.setStn l st y).mem = s.mem := rfl
@[simp] theorem State.setStn_ecc1 (s : State) (l st : Nat) (y : Stn) : (s.setStn l st y).ecc1 = s.ecc1 := rfl
@[simp] theorem State.setStn_ecc2 (s : State) (l st : Nat) (y : Stn) : (s.setStn l st y).ecc2 = s.ecc2 := rfl
@[simp] theorem State.setStn_regs (s : State) (l st : Nat) (y : Stn) : (s.setStn l st y).regs = s.regs := rfl
@[simp] theorem State.setStn_les (s : State) (l st : Nat) (y : Stn) : (s.setStn l st y).les = s.les := rfl
@[simp] theorem State.setStn_mc (s : State) (l st : Nat) (y : Stn) : (s.setStn l st y).mc = s.mc := rfl
@[simp] theorem State.setStn_sp (s : State) (l st : Nat) (y : Stn) : (s.setStn l st y).sp = s.sp := rfl
@[simp] theorem State.setStn_mcr (s : State) (l st : Nat) (y : Stn) : (s.setStn l st y).mcr = s.mcr := rfl
@[simp] theorem State.setStn_plan (s : State) (l st : Nat) (y : Stn) : (s.setStn l st y).plan = s.plan := rfl
@[simp] theorem State.setStn_shadows (s : State) (l st : Nat) (y : Stn) : (s.setStn l st y).shadows = s.shadows := rfl
@[simp] theorem State.setStn_loading (s : State) (l st : Nat) (y : Stn) : (s.setStn l st y).loading = s.loading := rfl
@[simp] theorem State.setStn_commits (s : State) (l st : Nat) (y : Stn) : (s.setStn l st y).commits = s.commits := rfl
@[simp] theorem State.setStn_unloaded (s : State) (l st : Nat) (y : Stn) : (s.setStn l st y).unloaded = s.unloaded := rfl
@[simp] theorem State.setStn_nvAreas (s : State) (l st : Nat) (y : Stn) : (s.setStn l st y).nvAreas = s.nvAreas := rfl
@[simp] theorem State.setStn_nvr (s : State) (l st : Nat) (y : Stn) : (s.setStn l st y).nvr = s.nvr := rfl
@[simp] theorem State.setStn_pfl (s : State) (l st : Nat) (y : Stn) : (s.setStn l st y).pfl = s.pfl := rfl
@[simp] theorem State.setStn_cfg (s : State) (l st : Nat) (y : Stn) : (s.setStn l st y).cfg = s.cfg := rfl
@[simp] theorem State.setStn_boot (s : State) (l st : Nat) (y : Stn) : (s.setStn l st y).boot = s.boot := rfl
@[simp] theorem State.setStn_ent (s : State) (l st : Nat) (y : Stn) : (s.setStn l st y).ent = s.ent := rfl
@[simp] theorem State.setStn_rst (s : State) (l st : Nat) (y : Stn) : (s.setStn l st y).rst = s.rst := rfl
@[simp] theorem State.setStn_clk (s : State) (l st : Nat) (y : Stn) : (s.setStn l st y).clk = s.clk := rfl
@[simp] theorem State.setStn_pmu (s : State) (l st : Nat) (y : Stn) : (s.setStn l st y).pmu = s.pmu := rfl
@[simp] theorem State.setStn_bkd (s : State) (l st : Nat) (y : Stn) : (s.setStn l st y).bkd = s.bkd := rfl
@[simp] theorem State.setStn_agm (s : State) (l st : Nat) (y : Stn) : (s.setStn l st y).agm = s.agm := rfl
@[simp] theorem State.setStn_twl (s : State) (l st : Nat) (y : Stn) : (s.setStn l st y).twl = s.twl := rfl
@[simp] theorem State.setStn_per (s : State) (l st : Nat) (y : Stn) : (s.setStn l st y).per = s.per := rfl
@[simp] theorem State.setStn_bmv (s : State) (l st : Nat) (y : Stn) : (s.setStn l st y).bmv = s.bmv := rfl
@[simp] theorem State.setStn_cvu (s : State) (l st : Nat) (y : Stn) : (s.setStn l st y).cvu = s.cvu := rfl
@[simp] theorem State.setStn_mse (s : State) (l st : Nat) (y : Stn) : (s.setStn l st y).mse = s.mse := rfl
@[simp] theorem State.setStn_dpr (s : State) (l st : Nat) (y : Stn) : (s.setStn l st y).dpr = s.dpr := rfl
@[simp] theorem State.setStn_cyc (s : State) (l st : Nat) (y : Stn) : (s.setStn l st y).cyc = s.cyc := rfl
@[simp] theorem State.setStn_slots (s : State) (l st : Nat) (y : Stn) : (s.setStn l st y).slots = s.slots := rfl
@[simp] theorem State.setStn_orphans (s : State) (l st : Nat) (y : Stn) : (s.setStn l st y).orphans = s.orphans := rfl
@[simp] theorem State.setStn_trc (s : State) (l st : Nat) (y : Stn) : (s.setStn l st y).trc = s.trc := rfl
@[simp] theorem State.setStn_dbg (s : State) (l st : Nat) (y : Stn) : (s.setStn l st y).dbg = s.dbg := rfl
@[simp] theorem State.setStn_hif (s : State) (l st : Nat) (y : Stn) : (s.setStn l st y).hif = s.hif := rfl
@[simp] theorem State.setStn_units (s : State) (l st : Nat) (y : Stn) : (s.setStn l st y).units = s.units := rfl
@[simp] theorem State.setStn_fpgs (s : State) (l st : Nat) (y : Stn) : (s.setStn l st y).fpgs = s.fpgs := rfl
@[simp] theorem State.setStn_draws (s : State) (l st : Nat) (y : Stn) : (s.setStn l st y).draws = s.draws := rfl
@[simp] theorem State.setStn_readData (s : State) (l st : Nat) (y : Stn) : (s.setStn l st y).readData = s.readData := rfl
@[simp] theorem State.setRun_pending (s : State) (i : Nat) (x : BlkRun) : (s.setRun i x).pending = s.pending := rfl
@[simp] theorem State.setRun_tb (s : State) (i : Nat) (x : BlkRun) : (s.setRun i x).tb = s.tb := rfl
@[simp] theorem State.setRun_mem (s : State) (i : Nat) (x : BlkRun) : (s.setRun i x).mem = s.mem := rfl
@[simp] theorem State.setRun_ecc1 (s : State) (i : Nat) (x : BlkRun) : (s.setRun i x).ecc1 = s.ecc1 := rfl
@[simp] theorem State.setRun_ecc2 (s : State) (i : Nat) (x : BlkRun) : (s.setRun i x).ecc2 = s.ecc2 := rfl
@[simp] theorem State.setRun_regs (s : State) (i : Nat) (x : BlkRun) : (s.setRun i x).regs = s.regs := rfl
@[simp] theorem State.setRun_les (s : State) (i : Nat) (x : BlkRun) : (s.setRun i x).les = s.les := rfl
@[simp] theorem State.setRun_mc (s : State) (i : Nat) (x : BlkRun) : (s.setRun i x).mc = s.mc := rfl
@[simp] theorem State.setRun_sp (s : State) (i : Nat) (x : BlkRun) : (s.setRun i x).sp = s.sp := rfl
@[simp] theorem State.setRun_mcr (s : State) (i : Nat) (x : BlkRun) : (s.setRun i x).mcr = s.mcr := rfl
@[simp] theorem State.setRun_plan (s : State) (i : Nat) (x : BlkRun) : (s.setRun i x).plan = s.plan := rfl
@[simp] theorem State.setRun_shadows (s : State) (i : Nat) (x : BlkRun) : (s.setRun i x).shadows = s.shadows := rfl
@[simp] theorem State.setRun_loading (s : State) (i : Nat) (x : BlkRun) : (s.setRun i x).loading = s.loading := rfl
@[simp] theorem State.setRun_commits (s : State) (i : Nat) (x : BlkRun) : (s.setRun i x).commits = s.commits := rfl
@[simp] theorem State.setRun_unloaded (s : State) (i : Nat) (x : BlkRun) : (s.setRun i x).unloaded = s.unloaded := rfl
@[simp] theorem State.setRun_nvAreas (s : State) (i : Nat) (x : BlkRun) : (s.setRun i x).nvAreas = s.nvAreas := rfl
@[simp] theorem State.setRun_nvr (s : State) (i : Nat) (x : BlkRun) : (s.setRun i x).nvr = s.nvr := rfl
@[simp] theorem State.setRun_pfl (s : State) (i : Nat) (x : BlkRun) : (s.setRun i x).pfl = s.pfl := rfl
@[simp] theorem State.setRun_cfg (s : State) (i : Nat) (x : BlkRun) : (s.setRun i x).cfg = s.cfg := rfl
@[simp] theorem State.setRun_boot (s : State) (i : Nat) (x : BlkRun) : (s.setRun i x).boot = s.boot := rfl
@[simp] theorem State.setRun_ent (s : State) (i : Nat) (x : BlkRun) : (s.setRun i x).ent = s.ent := rfl
@[simp] theorem State.setRun_rst (s : State) (i : Nat) (x : BlkRun) : (s.setRun i x).rst = s.rst := rfl
@[simp] theorem State.setRun_clk (s : State) (i : Nat) (x : BlkRun) : (s.setRun i x).clk = s.clk := rfl
@[simp] theorem State.setRun_pmu (s : State) (i : Nat) (x : BlkRun) : (s.setRun i x).pmu = s.pmu := rfl
@[simp] theorem State.setRun_bkd (s : State) (i : Nat) (x : BlkRun) : (s.setRun i x).bkd = s.bkd := rfl
@[simp] theorem State.setRun_agm (s : State) (i : Nat) (x : BlkRun) : (s.setRun i x).agm = s.agm := rfl
@[simp] theorem State.setRun_twl (s : State) (i : Nat) (x : BlkRun) : (s.setRun i x).twl = s.twl := rfl
@[simp] theorem State.setRun_per (s : State) (i : Nat) (x : BlkRun) : (s.setRun i x).per = s.per := rfl
@[simp] theorem State.setRun_bmv (s : State) (i : Nat) (x : BlkRun) : (s.setRun i x).bmv = s.bmv := rfl
@[simp] theorem State.setRun_cvu (s : State) (i : Nat) (x : BlkRun) : (s.setRun i x).cvu = s.cvu := rfl
@[simp] theorem State.setRun_mse (s : State) (i : Nat) (x : BlkRun) : (s.setRun i x).mse = s.mse := rfl
@[simp] theorem State.setRun_cyc (s : State) (i : Nat) (x : BlkRun) : (s.setRun i x).cyc = s.cyc := rfl
@[simp] theorem State.setRun_slots (s : State) (i : Nat) (x : BlkRun) : (s.setRun i x).slots = s.slots := rfl
@[simp] theorem State.setRun_orphans (s : State) (i : Nat) (x : BlkRun) : (s.setRun i x).orphans = s.orphans := rfl
@[simp] theorem State.setRun_trc (s : State) (i : Nat) (x : BlkRun) : (s.setRun i x).trc = s.trc := rfl
@[simp] theorem State.setRun_dbg (s : State) (i : Nat) (x : BlkRun) : (s.setRun i x).dbg = s.dbg := rfl
@[simp] theorem State.setRun_hif (s : State) (i : Nat) (x : BlkRun) : (s.setRun i x).hif = s.hif := rfl
@[simp] theorem State.setRun_links (s : State) (i : Nat) (x : BlkRun) : (s.setRun i x).links = s.links := rfl
@[simp] theorem State.setRun_units (s : State) (i : Nat) (x : BlkRun) : (s.setRun i x).units = s.units := rfl
@[simp] theorem State.setRun_fpgs (s : State) (i : Nat) (x : BlkRun) : (s.setRun i x).fpgs = s.fpgs := rfl
@[simp] theorem State.setRun_draws (s : State) (i : Nat) (x : BlkRun) : (s.setRun i x).draws = s.draws := rfl
@[simp] theorem State.setRun_readData (s : State) (i : Nat) (x : BlkRun) : (s.setRun i x).readData = s.readData := rfl
@[simp] theorem State.setCh_pending (s : State) (n : Nat) (x : BmvCh) : (s.setCh n x).pending = s.pending := rfl
@[simp] theorem State.setCh_tb (s : State) (n : Nat) (x : BmvCh) : (s.setCh n x).tb = s.tb := rfl
@[simp] theorem State.setCh_mem (s : State) (n : Nat) (x : BmvCh) : (s.setCh n x).mem = s.mem := rfl
@[simp] theorem State.setCh_ecc1 (s : State) (n : Nat) (x : BmvCh) : (s.setCh n x).ecc1 = s.ecc1 := rfl
@[simp] theorem State.setCh_ecc2 (s : State) (n : Nat) (x : BmvCh) : (s.setCh n x).ecc2 = s.ecc2 := rfl
@[simp] theorem State.setCh_regs (s : State) (n : Nat) (x : BmvCh) : (s.setCh n x).regs = s.regs := rfl
@[simp] theorem State.setCh_les (s : State) (n : Nat) (x : BmvCh) : (s.setCh n x).les = s.les := rfl
@[simp] theorem State.setCh_mc (s : State) (n : Nat) (x : BmvCh) : (s.setCh n x).mc = s.mc := rfl
@[simp] theorem State.setCh_sp (s : State) (n : Nat) (x : BmvCh) : (s.setCh n x).sp = s.sp := rfl
@[simp] theorem State.setCh_mcr (s : State) (n : Nat) (x : BmvCh) : (s.setCh n x).mcr = s.mcr := rfl
@[simp] theorem State.setCh_plan (s : State) (n : Nat) (x : BmvCh) : (s.setCh n x).plan = s.plan := rfl
@[simp] theorem State.setCh_shadows (s : State) (n : Nat) (x : BmvCh) : (s.setCh n x).shadows = s.shadows := rfl
@[simp] theorem State.setCh_loading (s : State) (n : Nat) (x : BmvCh) : (s.setCh n x).loading = s.loading := rfl
@[simp] theorem State.setCh_commits (s : State) (n : Nat) (x : BmvCh) : (s.setCh n x).commits = s.commits := rfl
@[simp] theorem State.setCh_unloaded (s : State) (n : Nat) (x : BmvCh) : (s.setCh n x).unloaded = s.unloaded := rfl
@[simp] theorem State.setCh_nvAreas (s : State) (n : Nat) (x : BmvCh) : (s.setCh n x).nvAreas = s.nvAreas := rfl
@[simp] theorem State.setCh_nvr (s : State) (n : Nat) (x : BmvCh) : (s.setCh n x).nvr = s.nvr := rfl
@[simp] theorem State.setCh_pfl (s : State) (n : Nat) (x : BmvCh) : (s.setCh n x).pfl = s.pfl := rfl
@[simp] theorem State.setCh_cfg (s : State) (n : Nat) (x : BmvCh) : (s.setCh n x).cfg = s.cfg := rfl
@[simp] theorem State.setCh_boot (s : State) (n : Nat) (x : BmvCh) : (s.setCh n x).boot = s.boot := rfl
@[simp] theorem State.setCh_ent (s : State) (n : Nat) (x : BmvCh) : (s.setCh n x).ent = s.ent := rfl
@[simp] theorem State.setCh_rst (s : State) (n : Nat) (x : BmvCh) : (s.setCh n x).rst = s.rst := rfl
@[simp] theorem State.setCh_clk (s : State) (n : Nat) (x : BmvCh) : (s.setCh n x).clk = s.clk := rfl
@[simp] theorem State.setCh_pmu (s : State) (n : Nat) (x : BmvCh) : (s.setCh n x).pmu = s.pmu := rfl
@[simp] theorem State.setCh_bkd (s : State) (n : Nat) (x : BmvCh) : (s.setCh n x).bkd = s.bkd := rfl
@[simp] theorem State.setCh_agm (s : State) (n : Nat) (x : BmvCh) : (s.setCh n x).agm = s.agm := rfl
@[simp] theorem State.setCh_twl (s : State) (n : Nat) (x : BmvCh) : (s.setCh n x).twl = s.twl := rfl
@[simp] theorem State.setCh_per (s : State) (n : Nat) (x : BmvCh) : (s.setCh n x).per = s.per := rfl
@[simp] theorem State.setCh_cvu (s : State) (n : Nat) (x : BmvCh) : (s.setCh n x).cvu = s.cvu := rfl
@[simp] theorem State.setCh_mse (s : State) (n : Nat) (x : BmvCh) : (s.setCh n x).mse = s.mse := rfl
@[simp] theorem State.setCh_dpr (s : State) (n : Nat) (x : BmvCh) : (s.setCh n x).dpr = s.dpr := rfl
@[simp] theorem State.setCh_cyc (s : State) (n : Nat) (x : BmvCh) : (s.setCh n x).cyc = s.cyc := rfl
@[simp] theorem State.setCh_slots (s : State) (n : Nat) (x : BmvCh) : (s.setCh n x).slots = s.slots := rfl
@[simp] theorem State.setCh_orphans (s : State) (n : Nat) (x : BmvCh) : (s.setCh n x).orphans = s.orphans := rfl
@[simp] theorem State.setCh_trc (s : State) (n : Nat) (x : BmvCh) : (s.setCh n x).trc = s.trc := rfl
@[simp] theorem State.setCh_dbg (s : State) (n : Nat) (x : BmvCh) : (s.setCh n x).dbg = s.dbg := rfl
@[simp] theorem State.setCh_hif (s : State) (n : Nat) (x : BmvCh) : (s.setCh n x).hif = s.hif := rfl
@[simp] theorem State.setCh_links (s : State) (n : Nat) (x : BmvCh) : (s.setCh n x).links = s.links := rfl
@[simp] theorem State.setCh_units (s : State) (n : Nat) (x : BmvCh) : (s.setCh n x).units = s.units := rfl
@[simp] theorem State.setCh_fpgs (s : State) (n : Nat) (x : BmvCh) : (s.setCh n x).fpgs = s.fpgs := rfl
@[simp] theorem State.setCh_draws (s : State) (n : Nat) (x : BmvCh) : (s.setCh n x).draws = s.draws := rfl
@[simp] theorem State.setCh_readData (s : State) (n : Nat) (x : BmvCh) : (s.setCh n x).readData = s.readData := rfl
@[simp] theorem State.setCvu_pending (s : State) (c : Nat) (v : Word) : (s.setCvu c v).pending = s.pending := rfl
@[simp] theorem State.setCvu_tb (s : State) (c : Nat) (v : Word) : (s.setCvu c v).tb = s.tb := rfl
@[simp] theorem State.setCvu_mem (s : State) (c : Nat) (v : Word) : (s.setCvu c v).mem = s.mem := rfl
@[simp] theorem State.setCvu_ecc1 (s : State) (c : Nat) (v : Word) : (s.setCvu c v).ecc1 = s.ecc1 := rfl
@[simp] theorem State.setCvu_ecc2 (s : State) (c : Nat) (v : Word) : (s.setCvu c v).ecc2 = s.ecc2 := rfl
@[simp] theorem State.setCvu_regs (s : State) (c : Nat) (v : Word) : (s.setCvu c v).regs = s.regs := rfl
@[simp] theorem State.setCvu_les (s : State) (c : Nat) (v : Word) : (s.setCvu c v).les = s.les := rfl
@[simp] theorem State.setCvu_mc (s : State) (c : Nat) (v : Word) : (s.setCvu c v).mc = s.mc := rfl
@[simp] theorem State.setCvu_sp (s : State) (c : Nat) (v : Word) : (s.setCvu c v).sp = s.sp := rfl
@[simp] theorem State.setCvu_mcr (s : State) (c : Nat) (v : Word) : (s.setCvu c v).mcr = s.mcr := rfl
@[simp] theorem State.setCvu_plan (s : State) (c : Nat) (v : Word) : (s.setCvu c v).plan = s.plan := rfl
@[simp] theorem State.setCvu_shadows (s : State) (c : Nat) (v : Word) : (s.setCvu c v).shadows = s.shadows := rfl
@[simp] theorem State.setCvu_loading (s : State) (c : Nat) (v : Word) : (s.setCvu c v).loading = s.loading := rfl
@[simp] theorem State.setCvu_commits (s : State) (c : Nat) (v : Word) : (s.setCvu c v).commits = s.commits := rfl
@[simp] theorem State.setCvu_unloaded (s : State) (c : Nat) (v : Word) : (s.setCvu c v).unloaded = s.unloaded := rfl
@[simp] theorem State.setCvu_nvAreas (s : State) (c : Nat) (v : Word) : (s.setCvu c v).nvAreas = s.nvAreas := rfl
@[simp] theorem State.setCvu_nvr (s : State) (c : Nat) (v : Word) : (s.setCvu c v).nvr = s.nvr := rfl
@[simp] theorem State.setCvu_pfl (s : State) (c : Nat) (v : Word) : (s.setCvu c v).pfl = s.pfl := rfl
@[simp] theorem State.setCvu_cfg (s : State) (c : Nat) (v : Word) : (s.setCvu c v).cfg = s.cfg := rfl
@[simp] theorem State.setCvu_boot (s : State) (c : Nat) (v : Word) : (s.setCvu c v).boot = s.boot := rfl
@[simp] theorem State.setCvu_ent (s : State) (c : Nat) (v : Word) : (s.setCvu c v).ent = s.ent := rfl
@[simp] theorem State.setCvu_rst (s : State) (c : Nat) (v : Word) : (s.setCvu c v).rst = s.rst := rfl
@[simp] theorem State.setCvu_clk (s : State) (c : Nat) (v : Word) : (s.setCvu c v).clk = s.clk := rfl
@[simp] theorem State.setCvu_pmu (s : State) (c : Nat) (v : Word) : (s.setCvu c v).pmu = s.pmu := rfl
@[simp] theorem State.setCvu_bkd (s : State) (c : Nat) (v : Word) : (s.setCvu c v).bkd = s.bkd := rfl
@[simp] theorem State.setCvu_agm (s : State) (c : Nat) (v : Word) : (s.setCvu c v).agm = s.agm := rfl
@[simp] theorem State.setCvu_twl (s : State) (c : Nat) (v : Word) : (s.setCvu c v).twl = s.twl := rfl
@[simp] theorem State.setCvu_per (s : State) (c : Nat) (v : Word) : (s.setCvu c v).per = s.per := rfl
@[simp] theorem State.setCvu_bmv (s : State) (c : Nat) (v : Word) : (s.setCvu c v).bmv = s.bmv := rfl
@[simp] theorem State.setCvu_mse (s : State) (c : Nat) (v : Word) : (s.setCvu c v).mse = s.mse := rfl
@[simp] theorem State.setCvu_dpr (s : State) (c : Nat) (v : Word) : (s.setCvu c v).dpr = s.dpr := rfl
@[simp] theorem State.setCvu_cyc (s : State) (c : Nat) (v : Word) : (s.setCvu c v).cyc = s.cyc := rfl
@[simp] theorem State.setCvu_slots (s : State) (c : Nat) (v : Word) : (s.setCvu c v).slots = s.slots := rfl
@[simp] theorem State.setCvu_orphans (s : State) (c : Nat) (v : Word) : (s.setCvu c v).orphans = s.orphans := rfl
@[simp] theorem State.setCvu_trc (s : State) (c : Nat) (v : Word) : (s.setCvu c v).trc = s.trc := rfl
@[simp] theorem State.setCvu_dbg (s : State) (c : Nat) (v : Word) : (s.setCvu c v).dbg = s.dbg := rfl
@[simp] theorem State.setCvu_hif (s : State) (c : Nat) (v : Word) : (s.setCvu c v).hif = s.hif := rfl
@[simp] theorem State.setCvu_links (s : State) (c : Nat) (v : Word) : (s.setCvu c v).links = s.links := rfl
@[simp] theorem State.setCvu_units (s : State) (c : Nat) (v : Word) : (s.setCvu c v).units = s.units := rfl
@[simp] theorem State.setCvu_fpgs (s : State) (c : Nat) (v : Word) : (s.setCvu c v).fpgs = s.fpgs := rfl
@[simp] theorem State.setCvu_draws (s : State) (c : Nat) (v : Word) : (s.setCvu c v).draws = s.draws := rfl
@[simp] theorem State.setCvu_readData (s : State) (c : Nat) (v : Word) : (s.setCvu c v).readData = s.readData := rfl
@[simp] theorem State.withPending_pending (s : State) (q : List Instr) : (s.withPending q).pending = q := rfl

end Sys2Proof.Machine
end

