-- ==== Sys2Proof/Laws/Ops.lean ====
section
/-! SUPPORT. What the named operations do: registers, fields, slots, engines, memory and its canonical form. -/

namespace Sys2Proof.Machine

/-! ### Registers and fields -/

@[simp] theorem State.reg_setReg (s : State) (a : Nat) (v : Word) : (s.setReg a v).reg a = v := by simp [State.reg, State.setReg]

theorem State.reg_setReg_ne (s : State) (a b : Nat) (v : Word) (h : b ≠ a) : (s.setReg a v).reg b = s.reg b := by
  simp [State.reg, State.setReg, h]

theorem State.reg_setFld_ne (s : State) (f : Fld) (v : Nat) (b : Nat) (h : b ≠ f.reg) : (s.setFld f v).reg b = s.reg b :=
  s.reg_setReg_ne _ _ _ h

theorem State.fld_setReg_ne (s : State) (f : Fld) (a : Nat) (v : Word) (h : f.reg ≠ a) : (s.setReg a v).fld f = s.fld f := by
  simp [State.fld, s.reg_setReg_ne a f.reg v h]

theorem State.fld_setFld_other (s : State) (f g : Fld) (v : Nat) (h : g.reg ≠ f.reg) : (s.setFld f v).fld g = s.fld g :=
  s.fld_setReg_ne g f.reg _ h

/-- The parts of a word around a field that fits in it. -/
theorem Fld.of_le (f : Fld) (w : Word) : f.of w * 2 ^ f.lo ≤ w.toNat := by
  unfold Fld.of
  calc w.toNat / 2 ^ f.lo % 2 ^ f.w * 2 ^ f.lo ≤ w.toNat / 2 ^ f.lo * 2 ^ f.lo :=
        Nat.mul_le_mul_right _ (Nat.mod_le _ _)
    _ ≤ w.toNat := Nat.div_mul_le_self _ _

/-- A word as what lies below a field, the field, and what lies above it. -/
theorem Fld.split (f : Fld) (n : Nat) :
    n = n % 2 ^ f.lo + 2 ^ f.lo * (n / 2 ^ f.lo % 2 ^ f.w + 2 ^ f.w * (n / 2 ^ f.lo / 2 ^ f.w)) := by
  rw [Nat.mod_add_div, Nat.mod_add_div]

theorem Fld.put_toNat (f : Fld) (w : Word) (v : Nat) (h : f.lo + f.w ≤ 32) :
    (f.put w v).toNat = w.toNat % 2 ^ f.lo + 2 ^ f.lo * (v % 2 ^ f.w + 2 ^ f.w * (w.toNat / 2 ^ f.lo / 2 ^ f.w)) := by
  have e := f.split w.toNat
  have hv : v % 2 ^ f.w < 2 ^ f.w := Nat.mod_lt _ (by positivity)
  have hl : w.toNat % 2 ^ f.lo < 2 ^ f.lo := Nat.mod_lt _ (by positivity)
  have hw : w.toNat < 2 ^ 32 := w.isLt
  have hp : 2 ^ 32 = 2 ^ f.lo * (2 ^ f.w * 2 ^ (32 - f.lo - f.w)) := by
    rw [← pow_add, ← pow_add]; congr 1; omega
  have hu : w.toNat / 2 ^ f.lo / 2 ^ f.w < 2 ^ (32 - f.lo - f.w) := by
    rw [Nat.div_div_eq_div_mul]
    apply Nat.div_lt_of_lt_mul
    rw [mul_assoc, ← hp]; exact hw
  unfold Fld.put Fld.of word
  rw [BitVec.toNat_ofNat]
  generalize w.toNat % 2 ^ f.lo = lo at *
  generalize w.toNat / 2 ^ f.lo % 2 ^ f.w = mid at *
  generalize w.toNat / 2 ^ f.lo / 2 ^ f.w = up at *
  generalize v % 2 ^ f.w = nv at *
  generalize (2 : Nat) ^ f.lo = A at *
  generalize (2 : Nat) ^ f.w = B at *
  generalize (2 : Nat) ^ (32 - f.lo - f.w) = C at *
  have e2 : w.toNat - mid * A + nv * A = lo + A * (nv + B * up) := by
    have : w.toNat = lo + mid * A + A * (B * up) := by rw [e]; ring
    have h2 : w.toNat - mid * A = lo + A * (B * up) := by omega
    rw [h2]; ring
  rw [e2]
  apply Nat.mod_eq_of_lt
  have h1 : nv + B * up < B * C := by
    calc nv + B * up < B + B * up := by omega
      _ = B * (up + 1) := by ring
      _ ≤ B * C := Nat.mul_le_mul_left _ (by omega)
  calc lo + A * (nv + B * up) < A + A * (nv + B * up) := by omega
    _ = A * (nv + B * up + 1) := by ring
    _ ≤ A * (B * C) := Nat.mul_le_mul_left _ (by omega)
    _ = 2 ^ 32 := hp.symm

/-- A field that was written reads the value, modulo its width. -/
theorem Fld.of_put (f : Fld) (w : Word) (v : Nat) (h : f.lo + f.w ≤ 32) : f.of (f.put w v) = v % 2 ^ f.w := by
  unfold Fld.of
  rw [f.put_toNat w v h, Nat.add_mul_div_left _ _ (by positivity), Nat.div_eq_of_lt (Nat.mod_lt _ (by positivity)), Nat.zero_add,
    Nat.add_mul_mod_self_left, Nat.mod_mod]

/-- A field below another one is not touched. -/
theorem Fld.of_put_below (f g : Fld) (w : Word) (v : Nat) (h : f.lo + f.w ≤ 32) (hg : g.lo + g.w ≤ f.lo) :
    g.of (f.put w v) = g.of w := by
  have e := f.split w.toNat
  unfold Fld.of
  rw [f.put_toNat w v h]
  have hA : (2 : Nat) ^ f.lo = 2 ^ (g.lo + g.w) * 2 ^ (f.lo - g.lo - g.w) := by rw [← pow_add]; congr 1; omega
  have key : ∀ x y : Nat, (x + 2 ^ f.lo * y) / 2 ^ g.lo % 2 ^ g.w = x / 2 ^ g.lo % 2 ^ g.w := by
    intro x y
    rw [hA, pow_add, mul_assoc, mul_assoc, Nat.add_mul_div_left _ _ (by positivity), Nat.add_mul_mod_self_left]
  rw [key]
  conv_rhs => rw [e, key]

/-- A field above another one is not touched. -/
theorem Fld.of_put_above (f g : Fld) (w : Word) (v : Nat) (h : f.lo + f.w ≤ 32) (hg : f.lo + f.w ≤ g.lo) :
    g.of (f.put w v) = g.of w := by
  have e := f.split w.toNat
  unfold Fld.of
  rw [f.put_toNat w v h]
  have hB : (2 : Nat) ^ g.lo = 2 ^ f.lo * (2 ^ f.w * 2 ^ (g.lo - f.lo - f.w)) := by rw [← pow_add, ← pow_add]; congr 1; omega
  have key : ∀ x y u : Nat, x < 2 ^ f.lo → y < 2 ^ f.w →
      (x + 2 ^ f.lo * (y + 2 ^ f.w * u)) / 2 ^ g.lo = u / 2 ^ (g.lo - f.lo - f.w) := by
    intro x y u hx hy
    rw [hB, ← Nat.div_div_eq_div_mul, ← Nat.div_div_eq_div_mul, Nat.add_mul_div_left _ _ (by positivity), Nat.div_eq_of_lt hx,
      Nat.zero_add, Nat.add_mul_div_left _ _ (by positivity), Nat.div_eq_of_lt hy, Nat.zero_add]
  have a1 := key (w.toNat % 2 ^ f.lo) (v % 2 ^ f.w) (w.toNat / 2 ^ f.lo / 2 ^ f.w) (Nat.mod_lt _ (by positivity)) (Nat.mod_lt _ (by positivity))
  have a2 := key (w.toNat % 2 ^ f.lo) (w.toNat / 2 ^ f.lo % 2 ^ f.w) (w.toNat / 2 ^ f.lo / 2 ^ f.w) (Nat.mod_lt _ (by positivity)) (Nat.mod_lt _ (by positivity))
  rw [a1]
  conv_rhs => rw [e, a2]

theorem State.fld_setFld (s : State) (f : Fld) (v : Nat) (h : f.lo + f.w ≤ 32) : (s.setFld f v).fld f = v % 2 ^ f.w := by
  unfold State.fld State.setFld
  rw [State.reg_setReg]
  exact f.of_put _ v h

theorem State.fld_setFld_below (s : State) (f g : Fld) (v : Nat) (h : f.lo + f.w ≤ 32) (hr : g.reg = f.reg) (hg : g.lo + g.w ≤ f.lo) :
    (s.setFld f v).fld g = s.fld g := by
  unfold State.fld State.setFld
  rw [hr, State.reg_setReg]
  exact f.of_put_below g _ v h hg

theorem State.fld_setFld_above (s : State) (f g : Fld) (v : Nat) (h : f.lo + f.w ≤ 32) (hr : g.reg = f.reg) (hg : f.lo + f.w ≤ g.lo) :
    (s.setFld f v).fld g = s.fld g := by
  unfold State.fld State.setFld
  rw [hr, State.reg_setReg]
  exact f.of_put_above g _ v h hg

/-! ### Slots, engines, channels -/

@[simp] theorem State.slot_setSlot (s : State) (n : Nat) (x : Slot) : (s.setSlot n x).slot n = x := by
  simp [State.slot, State.setSlot]

theorem State.slot_setSlot_ne (s : State) (n m : Nat) (x : Slot) (h : m ≠ n) : (s.setSlot n x).slot m = s.slot m := by
  simp [State.slot, State.setSlot, h]

@[simp] theorem State.le_setLe (s : State) (n : Nat) (c : Cpu) : (s.setLe n c).le n = c := by simp [State.le, State.setLe]

theorem State.le_setLe_ne (s : State) (n m : Nat) (c : Cpu) (h : m ≠ n) : (s.setLe n c).le m = s.le m := by
  simp [State.le, State.setLe, h]

@[simp] theorem State.cpu_setCpu (s : State) (p : ProcId) (c : Cpu) : (s.setCpu p c).cpu p = c := by
  cases p <;> simp [State.cpu, State.setCpu, State.setLe]

@[simp] theorem State.ch_setCh (s : State) (n : Nat) (x : BmvCh) : (s.setCh n x).ch n = x := by simp [State.ch, State.setCh]

@[simp] theorem State.run_setRun (s : State) (i : Nat) (x : BlkRun) : (s.setRun i x).run i = x := by simp [State.run, State.setRun]

@[simp] theorem State.lnk_setLnk (s : State) (l : Nat) (x : Lnk) : (s.setLnk l x).lnk l = x := by simp [State.lnk, State.setLnk]

@[simp] theorem State.cvuReg_setCvu (s : State) (c : Nat) (v : Word) : (s.setCvu c v).cvuReg c = v := by
  simp [State.cvuReg, State.setCvu]

/-! ### Memory -/

@[simp] theorem State.byte_setByte (s : State) (a : Nat) (v : Byte) : (s.setByte a v).byte a = v := by
  simp [State.byte, State.setByte]

theorem State.byte_setByte_ne (s : State) (a b : Nat) (v : Byte) (h : b ≠ a) : (s.setByte a v).byte b = s.byte b := by
  simp [State.byte, State.setByte, h]

/-- A write of bytes leaves every byte outside them. -/
theorem State.byte_setBytes_out (s : State) (a : Nat) (l : List Byte) (b : Nat) (h : b < a ∨ a + l.length ≤ b) :
    (s.setBytes a l).byte b = s.byte b := by
  induction l generalizing s a with
  | nil => rfl
  | cons v l ih =>
    simp only [State.setBytes]
    simp only [List.length_cons] at h
    rw [ih _ _ (by omega), State.byte_setByte_ne _ _ _ _ (by omega)]

/-- A write of bytes puts each at its place. -/
theorem State.byte_setBytes_in (s : State) (a : Nat) (l : List Byte) (k : Nat) (h : k < l.length) :
    (s.setBytes a l).byte (a + k) = l.getD k 0 := by
  induction l generalizing s a k with
  | nil => simp at h
  | cons v l ih =>
    simp only [State.setBytes]
    cases k with
    | zero => rw [State.byte_setBytes_out _ _ _ _ (by omega)]; simp
    | succ k =>
      have := ih (s.setByte a v) (a + 1) k (by simpa using h)
      rw [show a + (k + 1) = a + 1 + k by omega, this]; simp

/-- Reading back what was written. -/
theorem State.bytes_setBytes (s : State) (a : Nat) (l : List Byte) : (s.setBytes a l).bytes a l.length = l := by
  induction l generalizing s a with
  | nil => rfl
  | cons v l ih =>
    simp only [State.setBytes, List.length_cons, State.bytes, ih]
    rw [State.byte_setBytes_out _ _ _ _ (by omega), State.byte_setByte]

theorem State.setByte_wf (s : State) (a : Nat) (v : Byte) (h : Memory.wf s.mem = true) : Memory.wf (s.setByte a v).mem = true :=
  SMap.wf_set blank s.mem a v h

theorem State.setBytes_wf (s : State) (a : Nat) (l : List Byte) (h : Memory.wf s.mem = true) :
    Memory.wf (s.setBytes a l).mem = true := by
  induction l generalizing s a with
  | nil => exact h
  | cons v l ih => exact ih _ _ (s.setByte_wf a v h)

theorem State.store_wf (s : State) (a : Nat) (l : List Byte) (h : Memory.wf s.mem = true) : Memory.wf (s.store a l).mem = true :=
  s.setBytes_wf a l h

theorem State.wipe_wf (s : State) (p : Nat → Bool) (h : Memory.wf s.mem = true) : Memory.wf (s.wipe p).mem = true :=
  SMap.wf_erase blank p s.mem h

/-- Every operation that changes memory keeps its canonical form. -/
theorem memory_operations_keep_form (s : State) (h : s.memOk) (a n v : Nat) (b : Byte) (l : List Byte) (p : Nat → Bool) :
    (s.setByte a b).memOk ∧ (s.setBytes a l).memOk ∧ (s.wr a n v).memOk ∧ (s.store a l).memOk ∧ (s.wipe p).memOk :=
  ⟨s.setByte_wf a b h, s.setBytes_wf a l h, s.setBytes_wf a _ h, s.store_wf a l h, s.wipe_wf p h⟩

/-! ### Bytes of numbers -/

@[simp] theorem leBytes_length (n v : Nat) : (leBytes n v).length = n := by
  induction n generalizing v with
  | zero => rfl
  | succ n ih => simp [leBytes, ih]

theorem leNat_leBytes (n v : Nat) : leNat (leBytes n v) = v % 256 ^ n := by
  induction n generalizing v with
  | zero => simp [leBytes, leNat, Nat.mod_one]
  | succ n ih =>
    simp only [leBytes, leNat, ih, BitVec.toNat_ofNat]
    rw [show (256 : Nat) ^ (n + 1) = 256 * 256 ^ n from pow_succ' _ _, Nat.mod_mul]

end Sys2Proof.Machine
end

