-- ==== Sys2Proof/Laws/Gurno.lean ====
section
/-! SUPPORT. What one Gurno instruction does once it issues. -/

namespace Sys2Proof.Machine

/-- An instruction row is its operation at its processor. -/
theorem exec_gurno (i : Instr) (op : GOp) (g : Issue) (s : State) (h : i.gurno = some (op, g)) : exec i s = .next (gurno op g s) := by
  cases i <;> simp only [Instr.gurno, Option.some.injEq, Prod.mk.injEq, reduceCtorEq] at h <;> (obtain ⟨rfl, rfl⟩ := h; rfl)

theorem cmpAll_off (s : State) (p : ProcId) (o : Seen) (n : Nat) (h : ∀ i, i < n → (cmpOf s p i).ctrl.msb = false) :
    cmpAll s p o n = [] := by
  induction n with
  | zero => rfl
  | succ n ih =>
    have hn : cmpOwn s p o n = false := by simp [cmpOwn, h n (by omega)]
    have hh : cmpHits s p o n = false := by cases n <;> simp [cmpHits, hn]
    simp [cmpAll, ih (fun i hi => h i (by omega)), hh]

/-- Comparators that are off see nothing. -/
theorem cmpSee_off (s : State) (p : ProcId) (o : Seen) (h : noCmp s p) : cmpSee s p o = (false, s) := by
  simp [cmpSee, cmpAll_off s p o _ h, cmpExc, cmpActs]

/-- Issue writes what it leaves to those behind it, and nothing else of the processor (R135). -/
@[simp] theorem noted_r (s : State) (p : ProcId) (op : GOp) (e : Enc) (on : Bool) : ((noted s p op e on).cpu p).r = (s.cpu p).r := by
  cases p <;> simp [noted, State.updK, State.setCpu, State.cpu, State.setLe]
theorem noted_cmps (s : State) (p : ProcId) (op : GOp) (e : Enc) (on : Bool) : ((noted s p op e on).cpu p).k.cmps = (s.cpu p).k.cmps := by
  cases p <;> simp [noted, State.updK, State.setCpu, State.cpu, State.setLe]
theorem noted_noCmp (s : State) (p : ProcId) (op : GOp) (e : Enc) (on : Bool) (h : noCmp s p) : noCmp (noted s p op e on) p :=
  fun i hi => by simpa [cmpOf, noted_cmps] using h i hi

/-- An executed instruction whose encoding and mode are in order, and that no comparator watches, performs its operation. -/
theorem executed_runs (s : State) (p : ProcId) (op : GOp) (e : Enc) (n : Nat) (h6 : encodingOk p op e = true)
    (h7 : op = .loop → (s.cpu p).r.loopAtEnd e = false) (h8 : privileged op e = true → (s.cpu p).r.sup = true) (h9 : noCmp s p) :
    executed s p op e n = execOp s p op e n := by
  unfold executed
  have hl : (op == GOp.loop && (s.cpu p).r.loopAtEnd e) = false := by
    by_cases ho : op = .loop
    · simp [h7 ho]
    · simp [ho]
  have hp : (privileged op e && !(s.cpu p).r.sup) = false := by
    by_cases ho : privileged op e = true
    · simp [h8 ho]
    · simp [ho]
  simp [h6, hl, hp, cmpSee_off s p _ h9]

/-- An instruction that may run performs its operation. -/
theorem gurno_runs (s : State) (op : GOp) (g : Issue) (h : mayRun s op g) :
    gurno op g s = execOp (issued s op g) g.p op g.e (cost s op g) := by
  obtain ⟨⟨h1, h2, h3, h4⟩, h5, h6, h7, h8, h9⟩ := h
  have e1 := executed_runs (issued s op g) g.p op g.e (cost s op g) h6 (by simpa [issued] using h7) (by simpa [issued] using h8)
    (noted_noCmp s g.p op g.e true h9)
  unfold gurno
  simp only [h1, h2, h3, h4, h5]
  exact e1

/-- The whole effect of an instruction that may run. -/
theorem exec_runs (i : Instr) (op : GOp) (g : Issue) (s : State) (hi : i.gurno = some (op, g)) (h : mayRun s op g) :
    exec i s = .next (execOp (issued s op g) g.p op g.e (cost s op g)) := by
  rw [exec_gurno i op g s hi, gurno_runs s op g h]

end Sys2Proof.Machine
end

