-- ==== Sys2Proof/Laws/Frames.lean ====
section
/-! SUPPORT. The one lemma of each shared operation that says everything it can change. -/

namespace Sys2Proof.Machine

/-- A change of registers of the register map alone. -/
def State.onlyRegs (s t : State) : Prop := ∃ r, t = { s with regs := r }

/-- A change of registers of the register map and of the trace unit alone. -/
def State.onlyRegsTrace (s t : State) : Prop := ∃ r x, t = { s with regs := r, trc := x }

theorem State.onlyRegs_self (s : State) : s.onlyRegs s := ⟨s.regs, rfl⟩

theorem State.onlyRegs_trans {s t u : State} (h : s.onlyRegs t) (k : t.onlyRegs u) : s.onlyRegs u := by
  obtain ⟨r, rfl⟩ := h; obtain ⟨q, rfl⟩ := k; exact ⟨q, rfl⟩

theorem State.onlyRegs_setReg (s : State) (a : Nat) (v : Word) : s.onlyRegs (s.setReg a v) := ⟨_, rfl⟩
theorem State.onlyRegs_setFld (s : State) (f : Fld) (v : Nat) : s.onlyRegs (s.setFld f v) := ⟨_, rfl⟩
theorem State.onlyRegs_setRegBit (s : State) (a k : Nat) (v : Bool) : s.onlyRegs (s.setRegBit a k v) := ⟨_, rfl⟩
theorem State.onlyRegs_count (s : State) (f : Fld) : s.onlyRegs (s.count f) := by
  unfold State.count; split
  · exact s.onlyRegs_setFld _ _
  · exact s.onlyRegs_self
theorem State.onlyRegs_setFldIn (s : State) (f : Fld) (lo hi v : Nat) : s.onlyRegs (s.setFldIn f lo hi v) := by
  unfold State.setFldIn; split
  · exact s.onlyRegs_setFld _ _
  · exact s.onlyRegs_self

/-- An event of the EVC changes registers alone (R513). -/
theorem evcEvent_only (s : State) (k : Nat) : s.onlyRegs (evcEvent s k) := by
  unfold evcEvent
  split
  · exact s.onlyRegs_self
  · have h := State.onlyRegs_trans (s.onlyRegs_setRegBit (R.EVC_PEND (k / 32)) (k % 32) true) (State.onlyRegs_count _ ⟨R.EVC_CNT (k / 8), 4 * (k % 8), 4⟩)
    dsimp only
    split
    · exact State.onlyRegs_trans h (State.onlyRegs_trans (State.onlyRegs_setRegBit _ _ _ _) (State.onlyRegs_setRegBit _ _ _ _))
    · exact h

theorem evcIf_only (s : State) (en : Fld) (a k : Nat) : s.onlyRegs (evcIf s en a k) := by
  unfold evcIf; split
  · exact evcEvent_only _ _
  · exact s.onlyRegs_self

theorem aonEvent_only (s : State) (k : Nat) : s.onlyRegs (aonEvent s k) := by
  unfold aonEvent; split
  · exact State.onlyRegs_trans (s.onlyRegs_setRegBit _ _ _) (evcEvent_only _ _)
  · exact s.onlyRegs_setRegBit _ _ _
  · exact s.onlyRegs_self

/-- A packet of the trace unit changes its funnels and registers alone (R540). -/
theorem trcEmit_only (s : State) (src : Nat) (p : List Byte) : s.onlyRegsTrace (trcEmit s src p) := by
  unfold trcEmit
  split
  · exact ⟨s.regs, s.trc, rfl⟩
  · extract_lets time ovf add
    by_cases h : fifoBytes (fifoOf s src) + fifoBytes add ≤ 64
    · rw [if_pos h]
      by_cases ht : time = []
      · rw [if_pos ht]; exact ⟨s.regs, _, rfl⟩
      · rw [if_neg ht]; exact ⟨s.regs, _, rfl⟩
    · rw [if_neg h]
      obtain ⟨r, h⟩ := State.onlyRegs_trans (State.onlyRegs_count (setLost s src (lostOf s src + 1)) F.TRC_STAT_LOST)
        (evcIf_only _ F.DBG_EVT_EN_EN 232 9)
      exact ⟨r, _, h⟩

theorem traceFlow_only (s : State) (p : ProcId) (t : Word) : s.onlyRegsTrace (traceFlow s p t) := by
  unfold traceFlow
  extract_lets me
  by_cases h : s.fld F.TRC_FLOW_CPU = me
  · rw [if_pos h]; exact trcEmit_only _ _ _
  · rw [if_neg h]; exact ⟨s.regs, s.trc, rfl⟩

/-- The fabric's capture of an error changes registers alone (R46). -/
theorem busErrOf_only (s : State) (code part a : Nat) (w : Bool) : s.onlyRegs (busErrOf s code part a w) := by
  unfold busErrOf
  refine State.onlyRegs_trans ?_ (evcEvent_only _ _)
  split
  · exact s.onlyRegs_setFld _ _
  · exact State.onlyRegs_trans (s.onlyRegs_setReg _ _) (State.onlyRegs_setReg _ _ _)

@[simp] theorem State.cpu_upd (s : State) (p : ProcId) (f : Proc → Proc) : (s.upd p f).cpu p = { s.cpu p with r := f (s.cpu p).r } :=
  s.cpu_setCpu p _
@[simp] theorem State.cpu_updK (s : State) (p : ProcId) (f : Core → Core) : (s.updK p f).cpu p = { s.cpu p with k := f (s.cpu p).k } :=
  s.cpu_setCpu p _

/-- What a change of one processor leaves: every other processor and everything but the processors. -/
theorem State.cpu_setCpu_ne (s : State) (p q : ProcId) (c : Cpu) (h : q ≠ p) : (s.setCpu p c).cpu q = s.cpu q := by
  cases p <;> cases q <;> simp_all [State.cpu, State.setCpu, State.setLe]
  rename_i n m
  rw [SMap.get_set_ne]
  exact fun e => h (Fin.ext e)

@[simp] theorem State.setCpu_setCpu_self (s : State) (p : ProcId) : (s.setCpu p (s.cpu p)).cpu p = s.cpu p := s.cpu_setCpu p _

/-- A transfer leaves everything but its processor's PC and counts (R138). -/
theorem jump_cpu (s : State) (p : ProcId) (n : Nat) (r : Proc) (t : Word) :
    ∃ k, (jump s p n r t).cpu p = { s.cpu p with r := { r with pc := t &&& 0xFFFFFFFC, ecnt := k } } := by
  cases p <;> simp [jump, charge]

theorem complete_cpu (s : State) (p : ProcId) (e : Enc) (n : Nat) (r : Proc) :
    ∃ k, (complete s p e n r).cpu p = ⟨{ r.advance e with ecnt := k }, { (s.cpu p).k with stall := none }⟩ := by
  cases p <;> simp [complete, charge]
  · exact ⟨(r.advance e).ecnt, rfl⟩
  · exact ⟨(r.advance e).ecnt, rfl⟩

/-! ### What an instruction leaves of its processor -/

theorem charge_cpu (s : State) (p : ProcId) (n : Nat) : ∃ k, (charge s p n).cpu p = { s.cpu p with r := { (s.cpu p).r with ecnt := k } } := by
  cases p <;> simp [charge]
  · exact ⟨s.mc.r.ecnt, rfl⟩
  · exact ⟨s.sp.r.ecnt, rfl⟩

@[simp] theorem charge_k (s : State) (p : ProcId) (n : Nat) : ((charge s p n).cpu p).k = (s.cpu p).k := by
  obtain ⟨k, h⟩ := charge_cpu s p n; rw [h]
@[simp] theorem charge_pc (s : State) (p : ProcId) (n : Nat) : ((charge s p n).cpu p).r.pc = (s.cpu p).r.pc := by
  obtain ⟨k, h⟩ := charge_cpu s p n; rw [h]
@[simp] theorem complete_k (s : State) (p : ProcId) (e : Enc) (n : Nat) (r : Proc) :
    ((complete s p e n r).cpu p).k = { (s.cpu p).k with stall := none } := by
  obtain ⟨k, h⟩ := complete_cpu s p e n r; rw [h]
@[simp] theorem complete_pc (s : State) (p : ProcId) (e : Enc) (n : Nat) (r : Proc) :
    ((complete s p e n r).cpu p).r.pc = (r.advance e).pc := by
  obtain ⟨k, h⟩ := complete_cpu s p e n r; rw [h]
@[simp] theorem jump_k (s : State) (p : ProcId) (n : Nat) (r : Proc) (t : Word) : ((jump s p n r t).cpu p).k = (s.cpu p).k := by
  obtain ⟨k, h⟩ := jump_cpu s p n r t; rw [h]
@[simp] theorem jump_pc (s : State) (p : ProcId) (n : Nat) (r : Proc) (t : Word) :
    ((jump s p n r t).cpu p).r.pc = t &&& 0xFFFFFFFC := by
  obtain ⟨k, h⟩ := jump_cpu s p n r t; rw [h]
theorem Proc.setLp_keeps (r : Proc) (k : Nat) (l : HwLoop) : ∃ a b c, r.setLp k l = { r with lp0 := a, lp1 := b, lp2 := c } := by
  unfold Proc.setLp
  split
  · exact ⟨_, _, _, rfl⟩
  · split
    · exact ⟨_, _, _, rfl⟩
    · exact ⟨_, _, _, rfl⟩

/-- The end check changes PC and the loop levels alone (R137). -/
theorem endCheck_keeps (e : Enc) (n : Word) (k : Nat) (r : Proc) :
    ∃ p a b c, endCheck r e n k = { r with pc := p, lp0 := a, lp1 := b, lp2 := c } := by
  induction k generalizing r with
  | zero => exact ⟨n, r.lp0, r.lp1, r.lp2, rfl⟩
  | succ k ih =>
    unfold endCheck
    split
    · split
      · split
        · obtain ⟨a, b, c, h⟩ := r.setLp_keeps k { r.lp k with count := (r.lp k).count - 1 }
          rw [h]; exact ⟨_, a, b, c, rfl⟩
        · obtain ⟨a, b, c, h⟩ := r.setLp_keeps k { r.lp k with count := 0 }
          rw [h]
          obtain ⟨p, a', b', c', h'⟩ := ih { r with lp0 := a, lp1 := b, lp2 := c }
          exact ⟨p, a', b', c', h'⟩
      · exact ⟨n, r.lp0, r.lp1, r.lp2, rfl⟩
    · exact ih r

theorem Proc.advance_keeps (r : Proc) (e : Enc) : ∃ p a b c, r.advance e = { r with pc := p, lp0 := a, lp1 := b, lp2 := c } :=
  endCheck_keeps e _ 3 r
@[simp] theorem Proc.advance_a (r : Proc) (e : Enc) : (r.advance e).a = r.a := by
  obtain ⟨p, a, b, c, h⟩ := r.advance_keeps e; rw [h]
@[simp] theorem complete_a (s : State) (p : ProcId) (e : Enc) (n : Nat) (r : Proc) : ((complete s p e n r).cpu p).r.a = r.a := by
  obtain ⟨k, h⟩ := complete_cpu s p e n r; rw [h]; simp
@[simp] theorem jump_a (s : State) (p : ProcId) (n : Nat) (r : Proc) (t : Word) : ((jump s p n r t).cpu p).r.a = r.a := by
  obtain ⟨k, h⟩ := jump_cpu s p n r t; rw [h]
@[simp] theorem Proc.advance_x (r : Proc) (e : Enc) : (r.advance e).x = r.x := by
  obtain ⟨p, a, b, c, h⟩ := r.advance_keeps e; rw [h]
@[simp] theorem complete_x (s : State) (p : ProcId) (e : Enc) (n : Nat) (r : Proc) : ((complete s p e n r).cpu p).r.x = r.x := by
  obtain ⟨k, h⟩ := complete_cpu s p e n r; rw [h]; simp
@[simp] theorem jump_x (s : State) (p : ProcId) (n : Nat) (r : Proc) (t : Word) : ((jump s p n r t).cpu p).r.x = r.x := by
  obtain ⟨k, h⟩ := jump_cpu s p n r t; rw [h]
@[simp] theorem Proc.advance_y (r : Proc) (e : Enc) : (r.advance e).y = r.y := by
  obtain ⟨p, a, b, c, h⟩ := r.advance_keeps e; rw [h]
@[simp] theorem complete_y (s : State) (p : ProcId) (e : Enc) (n : Nat) (r : Proc) : ((complete s p e n r).cpu p).r.y = r.y := by
  obtain ⟨k, h⟩ := complete_cpu s p e n r; rw [h]; simp
@[simp] theorem jump_y (s : State) (p : ProcId) (n : Nat) (r : Proc) (t : Word) : ((jump s p n r t).cpu p).r.y = r.y := by
  obtain ⟨k, h⟩ := jump_cpu s p n r t; rw [h]
@[simp] theorem Proc.advance_b (r : Proc) (e : Enc) : (r.advance e).b = r.b := by
  obtain ⟨p, a, b, c, h⟩ := r.advance_keeps e; rw [h]
@[simp] theorem complete_b (s : State) (p : ProcId) (e : Enc) (n : Nat) (r : Proc) : ((complete s p e n r).cpu p).r.b = r.b := by
  obtain ⟨k, h⟩ := complete_cpu s p e n r; rw [h]; simp
@[simp] theorem jump_b (s : State) (p : ProcId) (n : Nat) (r : Proc) (t : Word) : ((jump s p n r t).cpu p).r.b = r.b := by
  obtain ⟨k, h⟩ := jump_cpu s p n r t; rw [h]
@[simp] theorem Proc.advance_p1 (r : Proc) (e : Enc) : (r.advance e).p1 = r.p1 := by
  obtain ⟨p, a, b, c, h⟩ := r.advance_keeps e; rw [h]
@[simp] theorem complete_p1 (s : State) (p : ProcId) (e : Enc) (n : Nat) (r : Proc) : ((complete s p e n r).cpu p).r.p1 = r.p1 := by
  obtain ⟨k, h⟩ := complete_cpu s p e n r; rw [h]; simp
@[simp] theorem jump_p1 (s : State) (p : ProcId) (n : Nat) (r : Proc) (t : Word) : ((jump s p n r t).cpu p).r.p1 = r.p1 := by
  obtain ⟨k, h⟩ := jump_cpu s p n r t; rw [h]
@[simp] theorem Proc.advance_p2 (r : Proc) (e : Enc) : (r.advance e).p2 = r.p2 := by
  obtain ⟨p, a, b, c, h⟩ := r.advance_keeps e; rw [h]
@[simp] theorem complete_p2 (s : State) (p : ProcId) (e : Enc) (n : Nat) (r : Proc) : ((complete s p e n r).cpu p).r.p2 = r.p2 := by
  obtain ⟨k, h⟩ := complete_cpu s p e n r; rw [h]; simp
@[simp] theorem jump_p2 (s : State) (p : ProcId) (n : Nat) (r : Proc) (t : Word) : ((jump s p n r t).cpu p).r.p2 = r.p2 := by
  obtain ⟨k, h⟩ := jump_cpu s p n r t; rw [h]
@[simp] theorem Proc.advance_p3 (r : Proc) (e : Enc) : (r.advance e).p3 = r.p3 := by
  obtain ⟨p, a, b, c, h⟩ := r.advance_keeps e; rw [h]
@[simp] theorem complete_p3 (s : State) (p : ProcId) (e : Enc) (n : Nat) (r : Proc) : ((complete s p e n r).cpu p).r.p3 = r.p3 := by
  obtain ⟨k, h⟩ := complete_cpu s p e n r; rw [h]; simp
@[simp] theorem jump_p3 (s : State) (p : ProcId) (n : Nat) (r : Proc) (t : Word) : ((jump s p n r t).cpu p).r.p3 = r.p3 := by
  obtain ⟨k, h⟩ := jump_cpu s p n r t; rw [h]
@[simp] theorem Proc.advance_st (r : Proc) (e : Enc) : (r.advance e).st = r.st := by
  obtain ⟨p, a, b, c, h⟩ := r.advance_keeps e; rw [h]
@[simp] theorem complete_st (s : State) (p : ProcId) (e : Enc) (n : Nat) (r : Proc) : ((complete s p e n r).cpu p).r.st = r.st := by
  obtain ⟨k, h⟩ := complete_cpu s p e n r; rw [h]; simp
@[simp] theorem jump_st (s : State) (p : ProcId) (n : Nat) (r : Proc) (t : Word) : ((jump s p n r t).cpu p).r.st = r.st := by
  obtain ⟨k, h⟩ := jump_cpu s p n r t; rw [h]
@[simp] theorem Proc.advance_rs (r : Proc) (e : Enc) : (r.advance e).rs = r.rs := by
  obtain ⟨p, a, b, c, h⟩ := r.advance_keeps e; rw [h]
@[simp] theorem complete_rs (s : State) (p : ProcId) (e : Enc) (n : Nat) (r : Proc) : ((complete s p e n r).cpu p).r.rs = r.rs := by
  obtain ⟨k, h⟩ := complete_cpu s p e n r; rw [h]; simp
@[simp] theorem jump_rs (s : State) (p : ProcId) (n : Nat) (r : Proc) (t : Word) : ((jump s p n r t).cpu p).r.rs = r.rs := by
  obtain ⟨k, h⟩ := jump_cpu s p n r t; rw [h]
@[simp] theorem Proc.advance_rsTop (r : Proc) (e : Enc) : (r.advance e).rsTop = r.rsTop := by
  obtain ⟨p, a, b, c, h⟩ := r.advance_keeps e; rw [h]
@[simp] theorem complete_rsTop (s : State) (p : ProcId) (e : Enc) (n : Nat) (r : Proc) : ((complete s p e n r).cpu p).r.rsTop = r.rsTop := by
  obtain ⟨k, h⟩ := complete_cpu s p e n r; rw [h]; simp
@[simp] theorem jump_rsTop (s : State) (p : ProcId) (n : Nat) (r : Proc) (t : Word) : ((jump s p n r t).cpu p).r.rsTop = r.rsTop := by
  obtain ⟨k, h⟩ := jump_cpu s p n r t; rw [h]
@[simp] theorem Proc.advance_rsDepth (r : Proc) (e : Enc) : (r.advance e).rsDepth = r.rsDepth := by
  obtain ⟨p, a, b, c, h⟩ := r.advance_keeps e; rw [h]
@[simp] theorem complete_rsDepth (s : State) (p : ProcId) (e : Enc) (n : Nat) (r : Proc) : ((complete s p e n r).cpu p).r.rsDepth = r.rsDepth := by
  obtain ⟨k, h⟩ := complete_cpu s p e n r; rw [h]; simp
@[simp] theorem jump_rsDepth (s : State) (p : ProcId) (n : Nat) (r : Proc) (t : Word) : ((jump s p n r t).cpu p).r.rsDepth = r.rsDepth := by
  obtain ⟨k, h⟩ := jump_cpu s p n r t; rw [h]
@[simp] theorem Proc.advance_epc (r : Proc) (e : Enc) : (r.advance e).epc = r.epc := by
  obtain ⟨p, a, b, c, h⟩ := r.advance_keeps e; rw [h]
@[simp] theorem complete_epc (s : State) (p : ProcId) (e : Enc) (n : Nat) (r : Proc) : ((complete s p e n r).cpu p).r.epc = r.epc := by
  obtain ⟨k, h⟩ := complete_cpu s p e n r; rw [h]; simp
@[simp] theorem jump_epc (s : State) (p : ProcId) (n : Nat) (r : Proc) (t : Word) : ((jump s p n r t).cpu p).r.epc = r.epc := by
  obtain ⟨k, h⟩ := jump_cpu s p n r t; rw [h]
@[simp] theorem Proc.advance_estat (r : Proc) (e : Enc) : (r.advance e).estat = r.estat := by
  obtain ⟨p, a, b, c, h⟩ := r.advance_keeps e; rw [h]
@[simp] theorem complete_estat (s : State) (p : ProcId) (e : Enc) (n : Nat) (r : Proc) : ((complete s p e n r).cpu p).r.estat = r.estat := by
  obtain ⟨k, h⟩ := complete_cpu s p e n r; rw [h]; simp
@[simp] theorem jump_estat (s : State) (p : ProcId) (n : Nat) (r : Proc) (t : Word) : ((jump s p n r t).cpu p).r.estat = r.estat := by
  obtain ⟨k, h⟩ := jump_cpu s p n r t; rw [h]
@[simp] theorem Proc.advance_vbr (r : Proc) (e : Enc) : (r.advance e).vbr = r.vbr := by
  obtain ⟨p, a, b, c, h⟩ := r.advance_keeps e; rw [h]
@[simp] theorem complete_vbr (s : State) (p : ProcId) (e : Enc) (n : Nat) (r : Proc) : ((complete s p e n r).cpu p).r.vbr = r.vbr := by
  obtain ⟨k, h⟩ := complete_cpu s p e n r; rw [h]; simp
@[simp] theorem jump_vbr (s : State) (p : ProcId) (n : Nat) (r : Proc) (t : Word) : ((jump s p n r t).cpu p).r.vbr = r.vbr := by
  obtain ⟨k, h⟩ := jump_cpu s p n r t; rw [h]
@[simp] theorem Proc.advance_spc (r : Proc) (e : Enc) : (r.advance e).spc = r.spc := by
  obtain ⟨p, a, b, c, h⟩ := r.advance_keeps e; rw [h]
@[simp] theorem complete_spc (s : State) (p : ProcId) (e : Enc) (n : Nat) (r : Proc) : ((complete s p e n r).cpu p).r.spc = r.spc := by
  obtain ⟨k, h⟩ := complete_cpu s p e n r; rw [h]; simp
@[simp] theorem jump_spc (s : State) (p : ProcId) (n : Nat) (r : Proc) (t : Word) : ((jump s p n r t).cpu p).r.spc = r.spc := by
  obtain ⟨k, h⟩ := jump_cpu s p n r t; rw [h]
@[simp] theorem Proc.advance_ssr (r : Proc) (e : Enc) : (r.advance e).ssr = r.ssr := by
  obtain ⟨p, a, b, c, h⟩ := r.advance_keeps e; rw [h]
@[simp] theorem complete_ssr (s : State) (p : ProcId) (e : Enc) (n : Nat) (r : Proc) : ((complete s p e n r).cpu p).r.ssr = r.ssr := by
  obtain ⟨k, h⟩ := complete_cpu s p e n r; rw [h]; simp
@[simp] theorem jump_ssr (s : State) (p : ProcId) (n : Nat) (r : Proc) (t : Word) : ((jump s p n r t).cpu p).r.ssr = r.ssr := by
  obtain ⟨k, h⟩ := jump_cpu s p n r t; rw [h]
@[simp] theorem Proc.advance_fe (r : Proc) (e : Enc) : (r.advance e).fe = r.fe := by
  obtain ⟨p, a, b, c, h⟩ := r.advance_keeps e; rw [h]
@[simp] theorem complete_fe (s : State) (p : ProcId) (e : Enc) (n : Nat) (r : Proc) : ((complete s p e n r).cpu p).r.fe = r.fe := by
  obtain ⟨k, h⟩ := complete_cpu s p e n r; rw [h]; simp
@[simp] theorem jump_fe (s : State) (p : ProcId) (n : Nat) (r : Proc) (t : Word) : ((jump s p n r t).cpu p).r.fe = r.fe := by
  obtain ⟨k, h⟩ := jump_cpu s p n r t; rw [h]
@[simp] theorem Proc.advance_lseAddr (r : Proc) (e : Enc) : (r.advance e).lseAddr = r.lseAddr := by
  obtain ⟨p, a, b, c, h⟩ := r.advance_keeps e; rw [h]
@[simp] theorem complete_lseAddr (s : State) (p : ProcId) (e : Enc) (n : Nat) (r : Proc) : ((complete s p e n r).cpu p).r.lseAddr = r.lseAddr := by
  obtain ⟨k, h⟩ := complete_cpu s p e n r; rw [h]; simp
@[simp] theorem jump_lseAddr (s : State) (p : ProcId) (n : Nat) (r : Proc) (t : Word) : ((jump s p n r t).cpu p).r.lseAddr = r.lseAddr := by
  obtain ⟨k, h⟩ := jump_cpu s p n r t; rw [h]
@[simp] theorem Proc.advance_lseInfo (r : Proc) (e : Enc) : (r.advance e).lseInfo = r.lseInfo := by
  obtain ⟨p, a, b, c, h⟩ := r.advance_keeps e; rw [h]
@[simp] theorem complete_lseInfo (s : State) (p : ProcId) (e : Enc) (n : Nat) (r : Proc) : ((complete s p e n r).cpu p).r.lseInfo = r.lseInfo := by
  obtain ⟨k, h⟩ := complete_cpu s p e n r; rw [h]; simp
@[simp] theorem jump_lseInfo (s : State) (p : ProcId) (n : Nat) (r : Proc) (t : Word) : ((jump s p n r t).cpu p).r.lseInfo = r.lseInfo := by
  obtain ⟨k, h⟩ := jump_cpu s p n r t; rw [h]
@[simp] theorem Proc.advance_lsePend (r : Proc) (e : Enc) : (r.advance e).lsePend = r.lsePend := by
  obtain ⟨p, a, b, c, h⟩ := r.advance_keeps e; rw [h]
@[simp] theorem complete_lsePend (s : State) (p : ProcId) (e : Enc) (n : Nat) (r : Proc) : ((complete s p e n r).cpu p).r.lsePend = r.lsePend := by
  obtain ⟨k, h⟩ := complete_cpu s p e n r; rw [h]; simp
@[simp] theorem jump_lsePend (s : State) (p : ProcId) (n : Nat) (r : Proc) (t : Word) : ((jump s p n r t).cpu p).r.lsePend = r.lsePend := by
  obtain ⟨k, h⟩ := jump_cpu s p n r t; rw [h]
@[simp] theorem Proc.advance_sbl (r : Proc) (e : Enc) : (r.advance e).sbl = r.sbl := by
  obtain ⟨p, a, b, c, h⟩ := r.advance_keeps e; rw [h]
@[simp] theorem complete_sbl (s : State) (p : ProcId) (e : Enc) (n : Nat) (r : Proc) : ((complete s p e n r).cpu p).r.sbl = r.sbl := by
  obtain ⟨k, h⟩ := complete_cpu s p e n r; rw [h]; simp
@[simp] theorem jump_sbl (s : State) (p : ProcId) (n : Nat) (r : Proc) (t : Word) : ((jump s p n r t).cpu p).r.sbl = r.sbl := by
  obtain ⟨k, h⟩ := jump_cpu s p n r t; rw [h]
@[simp] theorem Proc.advance_part (r : Proc) (e : Enc) : (r.advance e).part = r.part := by
  obtain ⟨p, a, b, c, h⟩ := r.advance_keeps e; rw [h]
@[simp] theorem complete_part (s : State) (p : ProcId) (e : Enc) (n : Nat) (r : Proc) : ((complete s p e n r).cpu p).r.part = r.part := by
  obtain ⟨k, h⟩ := complete_cpu s p e n r; rw [h]; simp
@[simp] theorem jump_part (s : State) (p : ProcId) (n : Nat) (r : Proc) (t : Word) : ((jump s p n r t).cpu p).r.part = r.part := by
  obtain ⟨k, h⟩ := jump_cpu s p n r t; rw [h]
@[simp] theorem Proc.advance_gen (r : Proc) (e : Enc) : (r.advance e).gen = r.gen := by
  obtain ⟨p, a, b, c, h⟩ := r.advance_keeps e; rw [h]
@[simp] theorem complete_gen (s : State) (p : ProcId) (e : Enc) (n : Nat) (r : Proc) : ((complete s p e n r).cpu p).r.gen = r.gen := by
  obtain ⟨k, h⟩ := complete_cpu s p e n r; rw [h]; simp
@[simp] theorem jump_gen (s : State) (p : ProcId) (n : Nat) (r : Proc) (t : Word) : ((jump s p n r t).cpu p).r.gen = r.gen := by
  obtain ⟨k, h⟩ := jump_cpu s p n r t; rw [h]
@[simp] theorem Proc.advance_cycnum (r : Proc) (e : Enc) : (r.advance e).cycnum = r.cycnum := by
  obtain ⟨p, a, b, c, h⟩ := r.advance_keeps e; rw [h]
@[simp] theorem complete_cycnum (s : State) (p : ProcId) (e : Enc) (n : Nat) (r : Proc) : ((complete s p e n r).cpu p).r.cycnum = r.cycnum := by
  obtain ⟨k, h⟩ := complete_cpu s p e n r; rw [h]; simp
@[simp] theorem jump_cycnum (s : State) (p : ProcId) (n : Nat) (r : Proc) (t : Word) : ((jump s p n r t).cpu p).r.cycnum = r.cycnum := by
  obtain ⟨k, h⟩ := jump_cpu s p n r t; rw [h]
@[simp] theorem Proc.advance_tbHi (r : Proc) (e : Enc) : (r.advance e).tbHi = r.tbHi := by
  obtain ⟨p, a, b, c, h⟩ := r.advance_keeps e; rw [h]
@[simp] theorem complete_tbHi (s : State) (p : ProcId) (e : Enc) (n : Nat) (r : Proc) : ((complete s p e n r).cpu p).r.tbHi = r.tbHi := by
  obtain ⟨k, h⟩ := complete_cpu s p e n r; rw [h]; simp
@[simp] theorem jump_tbHi (s : State) (p : ProcId) (n : Nat) (r : Proc) (t : Word) : ((jump s p n r t).cpu p).r.tbHi = r.tbHi := by
  obtain ⟨k, h⟩ := jump_cpu s p n r t; rw [h]
@[simp] theorem State.setCpu_mem (s : State) (p : ProcId) (c : Cpu) : (State.setCpu s p c).mem = s.mem := by cases p <;> rfl
@[simp] theorem State.setCpu_slots (s : State) (p : ProcId) (c : Cpu) : (State.setCpu s p c).slots = s.slots := by cases p <;> rfl
@[simp] theorem State.setCpu_regs (s : State) (p : ProcId) (c : Cpu) : (State.setCpu s p c).regs = s.regs := by cases p <;> rfl
@[simp] theorem State.setCpu_mcr (s : State) (p : ProcId) (c : Cpu) : (State.setCpu s p c).mcr = s.mcr := by cases p <;> rfl
@[simp] theorem State.setCpu_plan (s : State) (p : ProcId) (c : Cpu) : (State.setCpu s p c).plan = s.plan := by cases p <;> rfl
@[simp] theorem State.setCpu_trc (s : State) (p : ProcId) (c : Cpu) : (State.setCpu s p c).trc = s.trc := by cases p <;> rfl
@[simp] theorem State.setCpu_ecc1 (s : State) (p : ProcId) (c : Cpu) : (State.setCpu s p c).ecc1 = s.ecc1 := by cases p <;> rfl
@[simp] theorem State.setCpu_ecc2 (s : State) (p : ProcId) (c : Cpu) : (State.setCpu s p c).ecc2 = s.ecc2 := by cases p <;> rfl
@[simp] theorem State.setCpu_pmu (s : State) (p : ProcId) (c : Cpu) : (State.setCpu s p c).pmu = s.pmu := by cases p <;> rfl
@[simp] theorem State.setCpu_tb (s : State) (p : ProcId) (c : Cpu) : (State.setCpu s p c).tb = s.tb := by cases p <;> rfl
@[simp] theorem State.setCpu_dpr (s : State) (p : ProcId) (c : Cpu) : (State.setCpu s p c).dpr = s.dpr := by cases p <;> rfl
@[simp] theorem State.setCpu_cyc (s : State) (p : ProcId) (c : Cpu) : (State.setCpu s p c).cyc = s.cyc := by cases p <;> rfl
@[simp] theorem State.updK_mem (s : State) (p : ProcId) (f : Core → Core) : (State.updK s p f).mem = s.mem := by cases p <;> rfl
@[simp] theorem State.updK_slots (s : State) (p : ProcId) (f : Core → Core) : (State.updK s p f).slots = s.slots := by cases p <;> rfl
@[simp] theorem State.updK_regs (s : State) (p : ProcId) (f : Core → Core) : (State.updK s p f).regs = s.regs := by cases p <;> rfl
@[simp] theorem State.updK_mcr (s : State) (p : ProcId) (f : Core → Core) : (State.updK s p f).mcr = s.mcr := by cases p <;> rfl
@[simp] theorem State.updK_plan (s : State) (p : ProcId) (f : Core → Core) : (State.updK s p f).plan = s.plan := by cases p <;> rfl
@[simp] theorem State.updK_trc (s : State) (p : ProcId) (f : Core → Core) : (State.updK s p f).trc = s.trc := by cases p <;> rfl
@[simp] theorem State.updK_ecc1 (s : State) (p : ProcId) (f : Core → Core) : (State.updK s p f).ecc1 = s.ecc1 := by cases p <;> rfl
@[simp] theorem State.updK_ecc2 (s : State) (p : ProcId) (f : Core → Core) : (State.updK s p f).ecc2 = s.ecc2 := by cases p <;> rfl
@[simp] theorem State.updK_pmu (s : State) (p : ProcId) (f : Core → Core) : (State.updK s p f).pmu = s.pmu := by cases p <;> rfl
@[simp] theorem State.updK_tb (s : State) (p : ProcId) (f : Core → Core) : (State.updK s p f).tb = s.tb := by cases p <;> rfl
@[simp] theorem State.updK_dpr (s : State) (p : ProcId) (f : Core → Core) : (State.updK s p f).dpr = s.dpr := by cases p <;> rfl
@[simp] theorem State.updK_cyc (s : State) (p : ProcId) (f : Core → Core) : (State.updK s p f).cyc = s.cyc := by cases p <;> rfl
@[simp] theorem State.upd_mem (s : State) (p : ProcId) (f : Proc → Proc) : (State.upd s p f).mem = s.mem := by cases p <;> rfl
@[simp] theorem State.upd_slots (s : State) (p : ProcId) (f : Proc → Proc) : (State.upd s p f).slots = s.slots := by cases p <;> rfl
@[simp] theorem State.upd_regs (s : State) (p : ProcId) (f : Proc → Proc) : (State.upd s p f).regs = s.regs := by cases p <;> rfl
@[simp] theorem State.upd_mcr (s : State) (p : ProcId) (f : Proc → Proc) : (State.upd s p f).mcr = s.mcr := by cases p <;> rfl
@[simp] theorem State.upd_plan (s : State) (p : ProcId) (f : Proc → Proc) : (State.upd s p f).plan = s.plan := by cases p <;> rfl
@[simp] theorem State.upd_trc (s : State) (p : ProcId) (f : Proc → Proc) : (State.upd s p f).trc = s.trc := by cases p <;> rfl
@[simp] theorem State.upd_ecc1 (s : State) (p : ProcId) (f : Proc → Proc) : (State.upd s p f).ecc1 = s.ecc1 := by cases p <;> rfl
@[simp] theorem State.upd_ecc2 (s : State) (p : ProcId) (f : Proc → Proc) : (State.upd s p f).ecc2 = s.ecc2 := by cases p <;> rfl
@[simp] theorem State.upd_pmu (s : State) (p : ProcId) (f : Proc → Proc) : (State.upd s p f).pmu = s.pmu := by cases p <;> rfl
@[simp] theorem State.upd_tb (s : State) (p : ProcId) (f : Proc → Proc) : (State.upd s p f).tb = s.tb := by cases p <;> rfl
@[simp] theorem State.upd_dpr (s : State) (p : ProcId) (f : Proc → Proc) : (State.upd s p f).dpr = s.dpr := by cases p <;> rfl
@[simp] theorem State.upd_cyc (s : State) (p : ProcId) (f : Proc → Proc) : (State.upd s p f).cyc = s.cyc := by cases p <;> rfl
@[simp] theorem jump_mem (s : State) (p : ProcId) (n : Nat) (r : Proc) (t : Word) : (jump s p n r t).mem = s.mem := by cases p <;> rfl
@[simp] theorem jump_slots (s : State) (p : ProcId) (n : Nat) (r : Proc) (t : Word) : (jump s p n r t).slots = s.slots := by cases p <;> rfl
@[simp] theorem jump_regs (s : State) (p : ProcId) (n : Nat) (r : Proc) (t : Word) : (jump s p n r t).regs = s.regs := by cases p <;> rfl
@[simp] theorem jump_mcr (s : State) (p : ProcId) (n : Nat) (r : Proc) (t : Word) : (jump s p n r t).mcr = s.mcr := by cases p <;> rfl
@[simp] theorem jump_plan (s : State) (p : ProcId) (n : Nat) (r : Proc) (t : Word) : (jump s p n r t).plan = s.plan := by cases p <;> rfl
@[simp] theorem jump_trc (s : State) (p : ProcId) (n : Nat) (r : Proc) (t : Word) : (jump s p n r t).trc = s.trc := by cases p <;> rfl
@[simp] theorem jump_ecc1 (s : State) (p : ProcId) (n : Nat) (r : Proc) (t : Word) : (jump s p n r t).ecc1 = s.ecc1 := by cases p <;> rfl
@[simp] theorem jump_ecc2 (s : State) (p : ProcId) (n : Nat) (r : Proc) (t : Word) : (jump s p n r t).ecc2 = s.ecc2 := by cases p <;> rfl
@[simp] theorem jump_pmu (s : State) (p : ProcId) (n : Nat) (r : Proc) (t : Word) : (jump s p n r t).pmu = s.pmu := by cases p <;> rfl
@[simp] theorem jump_tb (s : State) (p : ProcId) (n : Nat) (r : Proc) (t : Word) : (jump s p n r t).tb = s.tb := by cases p <;> rfl
@[simp] theorem jump_dpr (s : State) (p : ProcId) (n : Nat) (r : Proc) (t : Word) : (jump s p n r t).dpr = s.dpr := by cases p <;> rfl
@[simp] theorem jump_cyc (s : State) (p : ProcId) (n : Nat) (r : Proc) (t : Word) : (jump s p n r t).cyc = s.cyc := by cases p <;> rfl
@[simp] theorem complete_mem (s : State) (p : ProcId) (e : Enc) (n : Nat) (r : Proc) : (complete s p e n r).mem = s.mem := by cases p <;> rfl
@[simp] theorem complete_slots (s : State) (p : ProcId) (e : Enc) (n : Nat) (r : Proc) : (complete s p e n r).slots = s.slots := by cases p <;> rfl
@[simp] theorem complete_regs (s : State) (p : ProcId) (e : Enc) (n : Nat) (r : Proc) : (complete s p e n r).regs = s.regs := by cases p <;> rfl
@[simp] theorem complete_mcr (s : State) (p : ProcId) (e : Enc) (n : Nat) (r : Proc) : (complete s p e n r).mcr = s.mcr := by cases p <;> rfl
@[simp] theorem complete_plan (s : State) (p : ProcId) (e : Enc) (n : Nat) (r : Proc) : (complete s p e n r).plan = s.plan := by cases p <;> rfl
@[simp] theorem complete_trc (s : State) (p : ProcId) (e : Enc) (n : Nat) (r : Proc) : (complete s p e n r).trc = s.trc := by cases p <;> rfl
@[simp] theorem complete_ecc1 (s : State) (p : ProcId) (e : Enc) (n : Nat) (r : Proc) : (complete s p e n r).ecc1 = s.ecc1 := by cases p <;> rfl
@[simp] theorem complete_ecc2 (s : State) (p : ProcId) (e : Enc) (n : Nat) (r : Proc) : (complete s p e n r).ecc2 = s.ecc2 := by cases p <;> rfl
@[simp] theorem complete_pmu (s : State) (p : ProcId) (e : Enc) (n : Nat) (r : Proc) : (complete s p e n r).pmu = s.pmu := by cases p <;> rfl
@[simp] theorem complete_tb (s : State) (p : ProcId) (e : Enc) (n : Nat) (r : Proc) : (complete s p e n r).tb = s.tb := by cases p <;> rfl
@[simp] theorem complete_dpr (s : State) (p : ProcId) (e : Enc) (n : Nat) (r : Proc) : (complete s p e n r).dpr = s.dpr := by cases p <;> rfl
@[simp] theorem complete_cyc (s : State) (p : ProcId) (e : Enc) (n : Nat) (r : Proc) : (complete s p e n r).cyc = s.cyc := by cases p <;> rfl
@[simp] theorem charge_mem (s : State) (p : ProcId) (n : Nat) : (charge s p n).mem = s.mem := by cases p <;> rfl
@[simp] theorem charge_slots (s : State) (p : ProcId) (n : Nat) : (charge s p n).slots = s.slots := by cases p <;> rfl
@[simp] theorem charge_regs (s : State) (p : ProcId) (n : Nat) : (charge s p n).regs = s.regs := by cases p <;> rfl
@[simp] theorem charge_mcr (s : State) (p : ProcId) (n : Nat) : (charge s p n).mcr = s.mcr := by cases p <;> rfl
@[simp] theorem charge_plan (s : State) (p : ProcId) (n : Nat) : (charge s p n).plan = s.plan := by cases p <;> rfl
@[simp] theorem charge_trc (s : State) (p : ProcId) (n : Nat) : (charge s p n).trc = s.trc := by cases p <;> rfl
@[simp] theorem charge_ecc1 (s : State) (p : ProcId) (n : Nat) : (charge s p n).ecc1 = s.ecc1 := by cases p <;> rfl
@[simp] theorem charge_ecc2 (s : State) (p : ProcId) (n : Nat) : (charge s p n).ecc2 = s.ecc2 := by cases p <;> rfl
@[simp] theorem charge_pmu (s : State) (p : ProcId) (n : Nat) : (charge s p n).pmu = s.pmu := by cases p <;> rfl
@[simp] theorem charge_tb (s : State) (p : ProcId) (n : Nat) : (charge s p n).tb = s.tb := by cases p <;> rfl
@[simp] theorem charge_dpr (s : State) (p : ProcId) (n : Nat) : (charge s p n).dpr = s.dpr := by cases p <;> rfl
@[simp] theorem charge_cyc (s : State) (p : ProcId) (n : Nat) : (charge s p n).cyc = s.cyc := by cases p <;> rfl

end Sys2Proof.Machine
end

