-- ==== Sys2Proof/Laws/Host.lean ====
section
/-! SUPPORT. Host commands that start, and the answers that stand in the host's memory. -/

namespace Sys2Proof.Machine

/-- A command that starts runs its effect on the state in which it is marked started. -/
theorem onHost_runs (s : State) (serial op : Nat) (c : HostCmd) (k : HostCmd → State → State) (h : hostRuns s serial op c) :
    onHost s serial (fun o => o == op) k = k c (markStarted s serial) := by
  obtain ⟨h1, h2, h3, h4⟩ := h
  simp [onHost, h1, h2, h3, h4]

/-- A firmware-served command that runs does so on the state in which it is marked started. -/
theorem onFw_runs (s : State) (serial op : Nat) (c : HostCmd) (k : HostCmd → State → State) (h : fwRuns s serial op c) :
    onFw s serial (fun o => o == op) k = k c (markStarted s serial) := by
  obtain ⟨h1, h2, h3⟩ := h
  unfold onFw
  rw [h1]
  simp only [h2, beq_self_eq_true, Bool.true_and, h3, if_true]

end Sys2Proof.Machine
end

