-- ==== Sys2Proof/Tests/Slice0.lean ====
section
/-! SUPPORT. The model's own tests: terms that no sender can bring about, words of the manual's encodings, and for every
statement with hypotheses a state and operands that meet them. -/

namespace Sys2Proof.Tests

open Sys2Proof Sys2Proof.Machine

set_option maxRecDepth 40000

/-! ### Helpers -/

/-- A state with some fields set. -/
def flds (s : State) (l : List (Fld × Nat)) : State := l.foldl (fun t e => t.setFld e.1 e.2) s

/-- The state of reset with the bring-up behind it: every block answers. -/
def live : State := flds State.reset [(F.RST_SEQ_STEP, 0)]

/-- Engine 0 in its kernel, supervisor, with registers `r`. -/
def kern (r : Proc) : State :=
  live.setCpu (.le 0) { r := { r with st := 0x100 }, k := { ({} : Core) with state := .kernel } }

/-- An instruction for engine 0. -/
def at0 (e : Enc) : Issue := ⟨.le 0, e, 0⟩

/-- A word without predicate: addressing mode, OPD, second word. -/
def en (am : BitVec 3) (opd : BitVec 20) (ext : Word) : Enc := ⟨false, 0, am, opd, ext, none⟩

/-! ### Well-formed terms: what no sender can bring about -/

theorem test_reset_memory : Memory.wf State.reset.mem = true := by decide

theorem test_wf_plain : (Instr.ld (at0 (en 7 1 5))).wf = true := by decide

theorem test_wf_second_word : (Instr.ld (at0 (en 6 0 1))).wf = false := by decide

theorem test_wf_suboperation : (Instr.sret (at0 (en 0 0 0))).wf = false := by decide

/-- A frame of `n` payload bytes with `len` as LEN. -/
def fr (len n : Nat) : Frame :=
  { type := 0x10, flags := 0, dest := 0, src := 0, epoch := 1, channel := 0, seq := 0, len := BitVec.ofNat 16 len, cycle := 0,
    payload := List.replicate n 0, check := 0, fault := false, portB := false }

/-- A frame of the Twin Link, likewise. -/
def tf (len n : Nat) : TwlFrame :=
  { type := 1, flags := 0, seq := 0, len := BitVec.ofNat 16 len, rsv := 0, payload := List.replicate n 0, check := 0 }

theorem test_wf_frame : (Instr.inFrame 0 (fr 4 4)).wf = true ∧ (Instr.inFrame 0 (fr 5 4)).wf = false ∧
    (Instr.inFrame 0 (fr 1025 1025)).wf = false := by and_intros <;> decide

theorem test_wf_twin_frame : (Instr.shadow (tf 4 4)).wf = true ∧ (Instr.shadow (tf 3 4)).wf = false := by and_intros <;> decide

theorem test_wf_window : (Instr.agmWindowEnd ⟨[], [0, 0, 0, 0], [], []⟩).wf = false := by decide

theorem test_wf_values : (Instr.inFrameSend 0 0 0 (List.replicate 65 ⟨0, 0, 0⟩)).wf = false := by decide

theorem test_wf_acyclic_data : (Instr.acy 0 0 (fr 4 4) 0 (List.replicate 1021 0)).wf = false := by decide

theorem test_wf_unlock : (Instr.unlock 0x30 (List.replicate 129 0)).wf = false := by decide

/-! ### Words of instructions, written field by field: PI, PS, OP, AM, OPD (R119, R128) -/

/-- The word of five fields. -/
def fw (pi : BitVec 1) (ps : BitVec 2) (op : BitVec 6) (am : BitVec 3) (opd : BitVec 20) : Word := pi ++ ps ++ op ++ am ++ opd

theorem test_decode_memory : decodeGurno .mc 0 (fw 0 0b01 0b001001 0b010 0x3FFFC) 0 = some (.stb ⟨.mc, ⟨false, 1, 2, 0x3FFFC, 0, none⟩, 0⟩) := by
  decide

theorem test_decode_integer : decodeGurno .mc 0 (fw 1 0b11 0b010000 0b000 0x00005) 0 = some (.add ⟨.mc, ⟨true, 3, 0, 5, 0, none⟩, 0⟩) := by
  decide

theorem test_decode_float : decodeGurno .mc 0 (fw 0 0b00 0b100100 0b111 0x80000) 0x30000000 =
    some (.fmac ⟨.mc, ⟨false, 0, 7, 0x80000, 0x30000000, none⟩, 0⟩) := by decide

theorem test_decode_compare : decodeGurno .mc 0 (fw 0 0b10 0b110001 0b110 0x004D2) 0 = some (.fcmp ⟨.mc, ⟨false, 2, 6, 0x4D2, 0, none⟩, 0⟩) := by
  decide

theorem test_decode_predicate : decodeGurno .mc 0 (fw 0 0b00 0b110100 0b000 0x00096) 0 = some (.pand ⟨.mc, ⟨false, 0, 0, 0x96, 0, none⟩, 0⟩) := by
  decide

theorem test_decode_call : decodeGurno .mc 0 (fw 0 0b00 0b111001 0b000 0xFFFFE) 0 = some (.call ⟨.mc, ⟨false, 0, 0, 0xFFFFE, 0, none⟩, 0⟩) := by
  decide

theorem test_decode_loop : decodeGurno .mc 0 (fw 0 0b00 0b111011 0b000 0x01004) 0 = some (.loop ⟨.mc, ⟨false, 0, 0, 0x1004, 0, none⟩, 0⟩) := by
  decide

theorem test_decode_system : decodeGurno .mc 0 (fw 0 0b00 0b111100 0b000 0x20000) 0 = some (.eret ⟨.mc, ⟨false, 0, 0, 0x20000, 0, none⟩, 0⟩) := by
  decide

theorem test_decode_control : decodeGurno .mc 0 (fw 0 0b00 0b111101 0b000 0x20064) 0 = some (.wait ⟨.mc, ⟨false, 0, 0, 0x20064, 0, none⟩, 0⟩) := by
  decide

theorem test_decode_special : decodeGurno .mc 0 (fw 0 0b00 0b111110 0b000 0x00010) 0 = some (.mfs ⟨.mc, ⟨false, 0, 0, 0x10, 0, none⟩, 0⟩) := by
  decide

/-- Reserved codes stand in the NOP row with their OP (R122). -/
theorem test_decode_reserved :
    decodeGurno .mc 0 (fw 0 0b00 0b001111 0b000 0) 0 = some (.nop ⟨.mc, ⟨false, 0, 0, 0, 0, some 0x0F⟩, 0⟩) ∧
    decodeGurno .mc 0 (fw 0 0b00 0b111100 0b000 0x30000) 0 = some (.nop ⟨.mc, ⟨false, 0, 0, 0x30000, 0, some 0x3C⟩, 0⟩) ∧
    decodeGurno .mc 0 (fw 0 0b00 0b111101 0b000 0x40000) 0 = some (.nop ⟨.mc, ⟨false, 0, 0, 0x40000, 0, some 0x3D⟩, 0⟩) := by
  and_intros <;> decide

/-! ### Worked examples of the manual -/

/-- The ASCII bytes 123456789. -/
def digits : List Byte := [0x31, 0x32, 0x33, 0x34, 0x35, 0x36, 0x37, 0x38, 0x39]

/-- Context 0 with a POLY and its default initial value, restarted and fed with the digits. -/
def cvuOf (poly : Nat) : State :=
  cvuFeed (cvuRestart (flds live [(F.CVU_CFG_CLASS 0, 0), (F.CVU_CFG_OWNINIT 0, 0), (F.CVU_CFG_POLY 0, poly)]) 0 none) 0 digits

/-- The check column of R321. -/
theorem test_cvu_crc32 : cvuRes (cvuOf 0) 0 = 0xCBF43926 := by decide
theorem test_cvu_crc32c : cvuRes (cvuOf 1) 0 = 0xE3069283 := by decide
theorem test_cvu_crc16 : cvuRes (cvuOf 2) 0 = 0x29B1 := by decide
theorem test_cvu_crc8 : cvuRes (cvuOf 3) 0 = 0xF4 := by decide

/-- The worked example of chapter 10: context 2, frame class, the HOLD frame in three words. -/
theorem test_cvu_frame_class :
    let s := cvuRestart ((live.setFld (F.CVU_CFG_CLASS 2) 1).setReg (R.CVU_FOLD 2) 0x050C0107) 2 none
    s.cvuReg 2 = 0xFAF3FEF8 ∧ cvuRes (cvuData (cvuData (cvuData s 2 4 0x000C0008) 2 4 0x0107025A) 2 4 0xBC530000) 2 = 0xA5DF7980 := by
  decide

/-- The HOLD frame of chapter 7 and its check. -/
theorem test_hold_check : crc32cFrom (frameSeed 5 12 0x0107) [0x08, 0, 0x0C, 0, 0x5A, 2, 7, 1, 0, 0, 0x53, 0xBC] = 0xA5DF7980 := by
  decide

/-- The K28.1 blocks of chapter 7. -/
theorem test_kblock_check : crc8 [0x53, 0xBC, 0x10, 0x90, 0x5F, 0x01] = 0xC2 ∧ crc8 [0x53, 0xBC, 0x16, 0xA0, 0x0F, 0x00] = 0x5C := by
  and_intros <;> decide

/-- The predictor's entry of chapter 3: P12 at 0x1A4C and P7 at 0x07D0 share entry 54. -/
theorem test_predictor_entry :
    let s (pt pc : Nat) : State := { kern { part := pt, pc := BitVec.ofNat 32 pc } with dpr := { live.dpr with keys := [(7, 0x1C2), (12, 0x0A5)] } }
    predIdx (s 12 0x1A4C) (.le 0) = 54 ∧ predIdx (s 7 0x07D0) (.le 0) = 54 := by
  decide

/-- The state behind an outcome. -/
def after (s : State) : Outcome → State
  | .next t => t
  | _ => s

/-- ADD wraps: A = 0xFFFFFFFF plus 1 is 0. -/
theorem test_add_wraps :
    let t := after live (exec (.add (at0 (en 0 1 0))) (kern { a := 0xFFFFFFFF }))
    (t.cpu (.le 0)).r.a = 0 ∧ (t.cpu (.le 0)).r.pc = 4 := by
  decide

/-! ### Witnesses: processors -/

theorem witness_IdleStepCounts : State.reset.pending = [] ∧ State.reset.pmu.state ≠ .backup := by and_intros <;> decide

theorem witness_GurnoRoundTrip :
    Instr.gurno (.ld (at0 (en 7 0xFFFFF 0xFFFFFFFF))) = some (.ld, at0 (en 7 0xFFFFF 0xFFFFFFFF)) ∧
      (en 7 0xFFFFF 0xFFFFFFFF).wf .ld = true := by and_intros <;> decide

theorem witness_GurnoWordsOneMeaning :
    decodeGurno .mc 3 0xFFFFFFFF 7 = some (.mts ⟨.mc, ⟨true, 3, 7, 0xFFFFF, 7, none⟩, 3⟩) := by decide

theorem witness_GurnoConstantOperand :
    readsValue .add = true ∧ mayRun (kern {}) .add (at0 (en 0 0xFFFFF 0)) ∧
      operand (.le 0) ((kern {}).cpu (.le 0)).r .add (en 0 0xFFFFF 0) = .const 0xFFFFFFFF := by
  and_intros <;> first | decide | (unfold noCmp; decide)

theorem witness_GurnoOwnMemory :
    (mayRun (kern {}) .ldb (at0 (en 1 0x3FFF 0)) ∧
      operand (.le 0) ((kern {}).cpu (.le 0)).r .ldb (en 1 0x3FFF 0) = .addr 0x3FFF) ∧
    (mayRun (kern {}) .xch (at0 (en 1 0x3FFC 0)) ∧
      operand (.le 0) ((kern {}).cpu (.le 0)).r .xch (en 1 0x3FFC 0) = .addr 0x3FFC) ∧
    (mayRun (kern { y := 0x3FFC }) .fmac (at0 (en 5 4 0)) ∧
      operand (.le 0) ((kern { y := 0x3FFC }).cpu (.le 0)).r .fmac (en 5 4 0) = .addr 0 ∧
      ((kern { y := 0x3FFC }).cpu (.le 0)).r.y = 0x3FFC) ∧ (kern {}).ecc1 = [] ∧ (kern {}).ecc2 = [] := by
  and_intros <;> first | decide | (unfold noCmp; decide)

/-- Engine 0 with an instruction held at MA. -/
def held (op : GOp) (e : Enc) : State :=
  (kern {}).updK (.le 0) (fun k => { k with stall := some ⟨op, e, .load⟩ })

theorem witness_GurnoHeldLoad :
    (mayRun (kern {}) .ld (at0 (en 7 0x80000 0x30000000)) ∧
      operand (.le 0) ((kern {}).cpu (.le 0)).r .ld (en 7 0x80000 0x30000000) = .addr 0x30000000 ∧
      route (kern {}) (.le 0) 0x30000000 4 true false = .fabric) ∧
    (mayRun (kern {}) .ld (at0 (en 6 0x3FFFF 0)) ∧
      operand (.le 0) ((kern {}).cpu (.le 0)).r .ld (en 6 0x3FFFF 0) = .sig 0xFFFF 3) ∧
    (mayRun (State.reset.setCpu .mc { k := { ({} : Core) with state := .kernel } }) .add ⟨.mc, en 6 0 0, 0⟩ ∧
      mpuRefuses (State.reset.setCpu .mc { k := { ({} : Core) with state := .kernel } }).mcr true false false 0x20000000 = none) := by
  and_intros <;> first | decide | (unfold noCmp; decide)

theorem witness_GurnoHeldLoad_slot :
    let s := held .ld (en 6 5 0)
    (s.cpu (.le 0)).k.stall = some ⟨.ld, en 6 5 0, .load⟩ ∧ operand (.le 0) (s.cpu (.le 0)).r .ld (en 6 5 0) = .sig 5 0 ∧
      overlaps (s.cpu (.le 0)).k.buf (0x20000000 + 8 * 5) 8 = false ∧
      sigAccess s (cpuInit s (.le 0)) (s.cpu (.le 0)).r.part 5 0 = (.ok 0, (sigAccess s (cpuInit s (.le 0)) 0 5 0).2) ∧
      noCmp (sigAccess s (cpuInit s (.le 0)) 0 5 0).2 (.le 0) := by
  and_intros <;> first | decide | (unfold noCmp; decide)

theorem witness_GurnoHeldLoad_address :
    let e := en 7 0x80000 0x30000000
    let s := held .ld e
    (s.cpu (.le 0)).k.stall = some ⟨.ld, e, .load⟩ ∧ operand (.le 0) (s.cpu (.le 0)).r .ld e = .addr 0x30000000 ∧
      overlaps (s.cpu (.le 0)).k.buf 0x30000000 4 = false ∧
      busRead s (cpuInit s (.le 0)) (s.cpu (.le 0)).r.part 0x30000000 4 .error =
        (.ok 0, (busRead s (cpuInit s (.le 0)) 0 0x30000000 4 .error).2) ∧
      noCmp (busRead s (cpuInit s (.le 0)) 0 0x30000000 4 .error).2 (.le 0) := by
  and_intros <;> first | decide | (unfold noCmp; decide)

theorem witness_GurnoStores :
    (mayRun (kern {}) .st (at0 (en 6 0x1FFFF 0)) ∧
      operand (.le 0) ((kern {}).cpu (.le 0)).r .st (en 6 0x1FFFF 0) = .sig 0xFFFF 1 ∧
      ((kern {}).cpu (.le 0)).k.buf.length < 4) ∧
    (mayRun (kern {}) .sth (at0 (en 7 0x80000 0x1FFFFFFE)) ∧
      operand (.le 0) ((kern {}).cpu (.le 0)).r .sth (en 7 0x80000 0x1FFFFFFE) = .addr 0x1FFFFFFE ∧
      route (kern {}) (.le 0) 0x1FFFFFFE 2 false true = .fabric) ∧
    (mayRun (kern {}) .stb (at0 (en 1 0x3FFF 0)) ∧
      operand (.le 0) ((kern {}).cpu (.le 0)).r .stb (en 1 0x3FFF 0) = .addr 0x3FFF) ∧ (kern {}).ecc1 = [] ∧ (kern {}).ecc2 = [] := by
  and_intros <;> first | decide | (unfold noCmp; decide)

/-- Engine 0 with one buffered store of its kernel to an address. -/
def buffered (a : Nat) : State :=
  (kern {}).updK (.le 0) (fun k => { k with buf := [⟨a, 4, 7, 0, .plain, 0, 0, none, false⟩] })

theorem witness_StoreResponses :
    ((buffered 0x30000000).cpu (.le 0)).k.buf[(0 : Fin 4).val]? = some ⟨0x30000000, 4, 7, 0, .plain, 0, 0, none, false⟩ ∧
    mayAnswer (buffered 0x30000000) ((buffered 0x30000000).cpu (.le 0)).k.buf 0 = true ∧
    (busStore (buffered 0x30000000) (.cpu (.le 0) true) ⟨0x30000000, 4, 7, 0, .plain, 0, 0, none, false⟩).1 = some 0 ∧
    (busStore (buffered 0x00000000) (.cpu (.le 0) true) ⟨0x00000000, 4, 7, 0, .plain, 0, 0, none, false⟩).1 = some 1 := by and_intros <;> decide

theorem witness_GurnoRegisterMoves :
    mayRun (kern {}) .leax (at0 (en 1 0xFFFF 0)) ∧ mayRun (kern {}) .mov (at0 (en 0 0x31 0)) ∧ mayRun (kern {}) .ldu (at0 (en 0 0xFFFFF 0)) ∧
      mayRun (kern {}) .pset (at0 (en 0 0x3F 0)) ∧ mayRun (kern {}) .pnot (at0 (en 0 0x30 0)) ∧ mayRun (kern {}) .nop (at0 (en 0 0xFFFF 0)) := by
  and_intros <;> first | decide | (unfold noCmp; decide)

theorem witness_HardwareLoopEnd :
    (∀ k, k < 3 → Proc.active {} k = true → Proc.atEnd {} (en 0 0 0) k = false) ∧
    (Proc.innermost { lp2 := ⟨0x10, 0, 2⟩ } = some 2 ∧ Proc.atEnd { lp2 := ⟨0x10, 0, 2⟩ } (en 0 0 0) 2 = true) ∧
    (Proc.innermost { lp0 := ⟨0, 0, 1⟩ } = some 0 ∧ Proc.atEnd { lp0 := ⟨0, 0, 1⟩ } (en 0 0 0) 0 = true) := by and_intros <;> decide

theorem witness_GurnoTransfers :
    mayRun (kern {}) .br (at0 (en 0 0x80000 0)) ∧ mayRun (kern { rsDepth := 16 }) .call (at0 (en 0 1 0)) ∧
      ((kern { rsDepth := 16 }).cpu (.le 0)).r.rstrap = false ∧ mayRun (kern {}) .ret (at0 (en 0 0 0)) ∧
      ((kern {}).cpu (.le 0)).r.rstrap = false ∧ mayRun (kern {}) .loop (at0 (en 0 0x3FF 0)) ∧
      (mayRun (kern {}) .loop (at0 (en 0 0x7FFFF 0)) ∧ ((kern {}).cpu (.le 0)).r.freeLevel = some 0 ∧ opdBits (en 0 0x7FFFF 0) 10 9 = 511) ∧
      (mayRun (kern { lp1 := ⟨0, 0x100, 3⟩ }) .loop (at0 (en 0 0 0)) ∧
        ((kern { lp1 := ⟨0, 0x100, 3⟩ }).cpu (.le 0)).r.innermost = some 1) := by
  and_intros <;> first | decide | (unfold noCmp; decide)

theorem witness_GurnoSystemReturns :
    mayRun (kern {}) .sysc (at0 (en 0 7 0)) ∧ mayRun (kern { ssr := 0xFFFF }) .sret (at0 (en 0 0x10000 0)) ∧
      mayRun (kern { estat := 0xFFFFFFFF }) .eret (at0 (en 0 0x20000 0)) := by
  and_intros <;> first | decide | (unfold noCmp; decide)

theorem witness_GurnoControlAndSpecialRegisters :
    mayRun (kern {}) .yield (at0 (en 0 0x10000 0)) ∧ mayRun (kern {}) .wait (at0 (en 0 0x2FFFF 0)) ∧
      mayRun (kern {}) .fence (at0 (en 0 0x30000 0)) ∧ ((kern {}).cpu (.le 0)).k.buf = [] ∧
      mayRun (buffered 0x30000000) .fence (at0 (en 0 0x30000 0)) ∧ ((buffered 0x30000000).cpu (.le 0)).k.buf ≠ [] ∧
      mayRun (kern {}) .mfs (at0 (en 0 0x29 0)) ∧ mayRun (kern {}) .mts (at0 (en 0 0x24 0)) := by
  and_intros <;> first | decide | (unfold noCmp; decide)

/-- Engine 0 in a task. -/
def inTask : State :=
  State.reset.setCpu (.le 0) { r := { ({} : Proc) with st := 0 }, k := { ({} : Core) with state := .task } }

theorem witness_GurnoTraps :
    (issues inTask (at0 (en 0 0 0)) ∧ encodingOk (.le 0) .st (en 0 0 0) = false) ∧
    (issues inTask (at0 (en 0 0x20000 0)) ∧ encodingOk (.le 0) .eret (en 0 0x20000 0) = true ∧
      privileged .eret (en 0 0x20000 0) = true ∧ (inTask.cpu (.le 0)).r.sup = false) := by
  and_intros <;> decide

theorem witness_PredicatesAndInterlocks :
    issues inTask (at0 ⟨false, 3, 1, 0, 0, none⟩) ∧ guardTrue (inTask.cpu (.le 0)).r ⟨false, 3, 1, 0, 0, none⟩ = false := by
  and_intros <;> decide

theorem witness_FloatBounds :
    fIsNan 0x40000000 = false ∧ fIsNan 0x3F800000 = false ∧ fLt 0x3F800000 0x3F800000 = false := by and_intros <;> decide

/-- The MC in its kernel with IE set, source 255 pending and unmasked. -/
def mcReady : State :=
  flds (live.setCpu .mc { r := { ({} : Proc) with st := 0x300 }, k := { ({} : Core) with state := .kernel } })
    [(F.EVC_PEND_PEND 7, 2 ^ 31), (F.EVC_MASK_MASK 7, 2 ^ 31), (F.EVC_CFG_PRIO 255, 3)]

theorem witness_ProcessorEventsAndLockstep :
    (let s := live.setCpu (.le 63) { r := { ({} : Proc) with st := 0x200, lsePend := true }, k := { ({} : Core) with state := .task } }
     interruptible s (.le 63) = true ∧ (s.cpu (.le 63)).r.lsePend = true ∧ (s.cpu (.le 63)).r.ie = true) ∧
    (interruptible mcReady .mc = true ∧ (bestSource mcReady).isSome = true ∧ evcRuns mcReady = true ∧ mcReady.mc.r.ie = true) ∧
    (let s := { mcReady with mcr := { mcReady.mcr with nmiNew := true } }
     interruptible s .mc = true ∧ s.mcr.nmiNew = true ∧ s.mcr.nmiAct = false) ∧
    ((((buffered 0).cpu (.le 0)).k.buf[(0 : Fin 4).val]?).isSome = true ∧ ((buffered 0).cpu (.le 0)).k.stall = none ∧
      stBit ((buffered 0).cpu (.le 0)).r.lseInfo 31 = false ∧
      stBit (((buffered 0).upd (.le 0) (fun r => { r with lseInfo := 0x80000000 })).cpu (.le 0)).r.lseInfo 31 = true) ∧
    (((kern {}).updK (.le 0) (fun k => { k with waiting := some 1 })).cpu (.le 0)).k.waiting = some (0 + 1) ∧
    (mcReady.mc.k.state ≠ .reset ∧ mcReady.mc.k.stopped = false ∧ stBit mcReady.mcr.lsStat 31 = false) := by
  and_intros <;> decide

/-! ### Witnesses: the cycle -/

/-- The cycle runs. -/
def running : State := flds live [(F.CYC_CTRL_EN, 1)]

/-- A cycle is open. -/
def inCyc : State := { running with cyc := { running.cyc with inCycle := true } }

theorem witness_TimingSetsAndCycleStarts :
    (cycServes running = true ∧ running.cycEn = true) ∧
    ((flds live [(F.CYC_CTRL_COMMIT, 1)]).flag F.CYC_CTRL_COMMIT = true ∧ timingCode (flds live [(F.CYC_CTRL_COMMIT, 1)]) = 0) ∧
    (let s := flds { live with cyc := { live.cyc with shadow := [(R.CYC_PERIOD, 131071)] } } [(F.CYC_CTRL_COMMIT, 1)]
     s.flag F.CYC_CTRL_COMMIT = true ∧ timingCode s ≠ 0) ∧
    (running.cycHalted = false ∧ running.saving = false) ∧
    (cycServes live = true ∧ live.cycEn = false) ∧
    (let s := { running with cyc := { running.cyc with firstDue := true } }
     s.cycEn = true ∧ s.cyc.firstDue = true ∧ s.cycHalted = false) ∧
    (inCyc.cycEn = true ∧ inCyc.cyc.firstDue = false ∧ inCyc.cyc.inCycle = true ∧ inCyc.cycHalted = false ∧ inCyc.cyc.skip = 0) ∧
    ((flds inCyc [(F.CYC_CTRL_EN, 0)]).cycEn = false ∧ (flds inCyc [(F.CYC_CTRL_EN, 0)]).cyc.inCycle = true ∧
      (flds inCyc [(F.CYC_CTRL_EN, 0)]).cycHalted = false) ∧
    (2 ^ 32 - 1 < 2 ^ 32 ∧ ({ live with tb := 2 ^ 64 - 1 } : State).tb < 2 ^ 64) := by
  and_intros <;> decide

theorem witness_CycleEvents :
    (inCyc.cycling = true ∧ inCyc.standby = false ∧ (flds inCyc [(F.CYC_SAMPLE_OFS_US, 1)]).fld F.CYC_SAMPLE_OFS_US ≠ 0 ∧
      (flds inCyc [(F.CYC_SAMPLE_OFS_US, 1)]).cycling = true ∧ inCyc.cyc.deadline = false ∧
      inCyc.saving = false ∧ inCyc.dpr.open' = false ∧ inCyc.cyc.cutoff = false) ∧
    (flds live [(F.CYC_STATUS_SERVICE, 1)]).service = true ∧
    (let s := flds live [(F.DPR_SNAP_STATUS_BUSY, 1)]
     s.flag F.DPR_SNAP_STATUS_BUSY = true ∧ s.dpr.snapLate = false ∧ s.twl.setDue = false) ∧
    (let s := { inCyc with cyc := { inCyc.cyc with deadline := true } }
     s.cycling = true ∧ s.cyc.deadline = true ∧ s.cyc.house = false) ∧
    (let s := { live with dpr := { live.dpr with runs := [(3, { state := .good })] } }
     (closeCompute s).dpr.runs ≠ []) := by
  and_intros <;> decide

theorem witness_CycleRequests :
    (let s := flds inCyc [(F.CYC_CTRL_SYNC_SRC, 1)]
     hasReference s = true ∧ s.cyc.inCycle = true) ∧ cycServes live = true := by
  and_intros <;> decide

theorem witness_CommitGroups :
    has ({ live with dpr := { live.dpr with resolved := [4095] } } : State).dpr.resolved 4095 = true ∧
    (live.setTrack 0 true).track ((live.setTrack 0 true).thePlan.group 4095).owner = true ∧ (0 : Nat) ≠ 65535 := by
  and_intros <;> decide

/-! ### Witnesses: the dispatcher -/

/-- A plan with block 7 homed in cluster 1, and engine `n` idle; the block is in its queue. -/
def queued (n : Fin 64) : State :=
  { live.setCpu (.le n) { k := { ({} : Core) with state := .idle } } with
    plan := some { sets := [(0, { residency := 1 })], blocks := [(7, { cost := 10, home := 1, steal := true })] }
    dpr := { live.dpr with open' := true, runs := [(7, { state := .ready })] } }

theorem witness_DispatchAndSteal :
    leastKey (queued 16) [9, 7] = some 7 ∧
    ((queued 16).dbgHalted = false ∧ (queued 16).dpr.open' = true ∧ firstTaker (queued 16) (offerOrder (queued 16) (1 : Fin 4).val) = some (16, 7)) ∧
    ((queued 0).dbgHalted = false ∧ (queued 0).dpr.open' = true ∧ (queued 0).dpr.stealIn = true ∧
      nextThief (queued 0) (queued 0).dpr.stealPtr 4 = some (0, 0) ∧
      stealTarget { queued 0 with dpr := { (queued 0).dpr with stealPtr := (0 + 1) % 4 } } 0 = some 7) ∧
    ((queued 16).queue ((queued 16).block 7).home).length < 1024 := by
  and_intros <;> decide

/-- Engine 5 with an evaluation of block 9 in state `st`, `n` clocks used of 20. -/
def evaluating (st : ProcState) (n : Nat) : State :=
  live.setCpu (.le 5) { r := { ({} : Proc) with ecnt := n }, k := { ({} : Core) with state := st, ev := some ⟨9, 1, 0, 20, false, false, false⟩ } }

theorem witness_EvaluationsEnd :
    (let s := evaluating .drain 3
     (s.le 5).k.state = .drain ∧ (s.le 5).k.buf = [] ∧ s.dbgHalted = false ∧ (s.le 5).k.init = false ∧
      (s.le 5).k.ev = some ⟨9, 1, 0, 20, false, false, false⟩) ∧
    (let s := evaluating .task 20
     (s.le 5).k.ev = some ⟨9, 1, 0, 20, false, false, false⟩ ∧ 20 ≤ (s.le 5).r.ecnt ∧ (s.le 5).k.state = .task ∧ has s.dpr.suspect 9 = false) ∧
    (let s := flds { evaluating .task 20 with dpr := { live.dpr with suspect := [9] } } [(F.DPR_CTRL_QUAR_EN, 1)]
     has s.dpr.suspect 9 = true ∧ s.flag F.DPR_CTRL_QUAR_EN = true) ∧
    (let s := live.setCpu (.le 63) { k := { ({} : Core) with state := .idle } }
     dprServes s = true ∧ (s.le 63).k.state ≠ .retired ∧ (s.le 63).k.state ≠ .off ∧ (s.le 63).k.ev = none ∧ (s.le 63).k.state = .idle) := by
  and_intros <;> decide

theorem witness_DispatcherCommands :
    dprServes live = true ∧ live.cycEn = false ∧ dprServes running = true ∧ running.cycEn = true ∧
    (8 : BitVec 4).toNat.testBit (3 : Fin 4).val = true ∧ (8 : BitVec 4).toNat.testBit (0 : Fin 4).val = false := by
  and_intros <;> decide

/-! ### Witnesses: commands of the host -/

/-- A command of partition `p` in progress, first in its ring. -/
def cmd (p : Nat) (op : BitVec 8) (a0 a1 len : Word) : HostCmd := ⟨1, p, 0, ⟨op, 0, 7, a0, a1, 0, 0x1000, len, 0⟩, false, none, false⟩

/-- A state with that command and its partition in the plan, and a window of 16 MB from host address 0 on that admits reads and writes. -/
def withCmd (c : HostCmd) : State :=
  flds { live with plan := some { parts := [(c.part, { present := true })] }, hif := { live.hif with cmds := [c] } }
    [(F.HIF_WCTRL_VALID c.part 15, 1), (F.HIF_WCTRL_LOG2 c.part 15, 24), (F.HIF_WCTRL_WR c.part 15, 1), (F.HIF_WCTRL_RD c.part 15, 1)]

theorem witness_PlanCommands :
    (live.accepts R.DPR_PLAN_CTRL = true ∧ live.loading = none ∧ running.accepts R.DPR_PLAN_CTRL = true ∧ running.cycEn = true) ∧
    (let s := { live with loading := some ⟨0x10000000, 64, 0, .regs⟩ }
     s.accepts R.DPR_PLAN_CTRL = true ∧ s.loading.isSome = true ∧ s.loading = some ⟨0x10000000, 64, 0, .regs⟩) ∧
    ({ live with loading := some ⟨0x1000, 64, 0, .host 1⟩ } : State).loading = some ⟨0x1000, 64, 0, .host 1⟩ ∧
    (checkImage live ⟨0x10000000, 64, 0, .regs⟩ (fun _ => 0) 64).isSome = true ∧
    hostRuns (withCmd (cmd 0 0x10 0 0 64)) 1 0x10 (cmd 0 0x10 0 0 64) ∧ hostRuns (withCmd (cmd 0 0x11 0 0 0)) 1 0x11 (cmd 0 0x11 0 0 0) ∧
    hostRuns (withCmd (cmd 0 0x12 0 0 0)) 1 0x12 (cmd 0 0x12 0 0 0) := by
  and_intros <;> decide

theorem witness_ConfigurationLoader :
    (running.accepts R.CYC_CFG_CTRL = true ∧ running.cycEn = true) ∧
    (let s := flds live [(⟨R.CYC_CFG_BASE, 0, 32⟩, 0x10000000)]
     s.accepts R.CYC_CFG_CTRL = true ∧ s.cycEn = false ∧ s.cfg.by' = none ∧ storeOk s = true ∧ copyValid (copyImg s 0) 0 = false ∧
      copyValid (copyImg s 1) 1 = false) ∧
    (let s := { live with cfg := { live.cfg with pend := some 1 } }
     s.accepts R.CYC_CFG_CTRL = true ∧ s.cfg.pend.isSome = true ∧ s.cfg.by' = none ∧ cfgBusy s = true) ∧
    (fwRuns (withCmd (cmd 0 0x32 0 0 16)) 1 0x32 (cmd 0 0x32 0 0 16) ∧ (cmd 0 0x32 0 0 16).len = 16) ∧
    (fwRuns (withCmd (cmd 0 0x33 0 0 4096)) 1 0x33 (cmd 0 0x33 0 0 4096) ∧ (withCmd (cmd 0 0x33 0 0 4096)).cfg.half = none ∧
      (cmd 0 0x33 0 0 4096).len ≤ 4096) ∧
    (fwRuns (withCmd (cmd 0 0x34 0 0 131072)) 1 0x34 (cmd 0 0x34 0 0 131072) ∧ 0x248 ≤ (cmd 0 0x34 0 0 131072).len ∧
      (cmd 0 0x34 0 0 131072).len ≤ 131072) ∧
    (fwRuns (withCmd (cmd 63 0x35 128 0 65536)) 1 0x35 (cmd 63 0x35 128 0 65536) ∧ (cmd 63 0x35 128 0 65536).a0 ≤ 128 ∧
      (cmd 63 0x35 128 0 65536).len ≤ 65536 ∧ ownsCostume (cmd 63 0x35 128 0 65536).part 128 = false) ∧
    fwRuns (withCmd (cmd 0 0x36 0 0 4)) 1 0x36 (cmd 0 0x36 0 0 4) ∧
    (fwRuns (withCmd (cmd 0 0x37 255 1 12)) 1 0x37 (cmd 0 0x37 255 1 12) ∧ 1 ≤ (cmd 0 0x37 255 1 12).a1 ∧
      (cmd 0 0x37 255 1 12).a0 + (cmd 0 0x37 255 1 12).a1 ≤ 256 ∧ (cmd 0 0x37 255 1 12).len = 12 * (cmd 0 0x37 255 1 12).a1) := by
  and_intros <;> decide

/-- Ring `k` of partition 63 stands enabled with 16 entries at host address 0x1000, beside a window that holds it. -/
def ringOn (k : Nat) : State :=
  flds (withCmd (cmd 63 0 0 0 0)) [(F.HIF_RCTRL_ACT 63, 2 ^ k), (F.HIF_RSIZE_LOG2 63 k, 4), (F.HIF_RBASE_LO_BASE 63 k, 64), (F.HIF_CTRL_READY, 1)]

/-- A full completion ring, ring 0 with one descriptor, and a command in progress. -/
def fetching : State :=
  let s := flds (ringOn 0) [(F.HIF_RCTRL_ACT 63, 0x11), (F.HIF_RSIZE_LOG2 63 4, 4)]
  { s with hif := { s.hif with rings := [(63 * 8, { hostIdx := 1, phase := true })] } }

theorem witness_RingsAndWindows :
    (hifUp (ringOn 5) = true ∧ (0x000F0005 : Word).toNat % 16 < 6 ∧ ringAct (ringOn 5) 63 ((0x000F0005 : Word).toNat % 16) = true ∧
      (0x000F0005 : Word).toNat / 65536 < ringSize (ringOn 5) 63 ((0x000F0005 : Word).toNat % 16)) ∧
    (6 ≤ (6 : Word).toNat % 16) ∧ ringAct live 63 0 = false ∧ ringSize (ringOn 5) 63 ((0x00100005 : Word).toNat % 16) ≤ (0x00100005 : Word).toNat / 65536 ∧
    ((ringOn 5).flag F.HIF_CTRL_READY = true ∧ ringAct (ringOn 5) 63 4 = false ∧
      (let s := flds (ringOn 5) [(F.HIF_RSIZE_LOG2 63 4, 12), (F.HIF_RBASE_LO_BASE 63 4, 64)]
       ringAct s 63 (4 : Fin 6).val = false ∧ 4 ≤ s.fld (F.HIF_RSIZE_LOG2 63 4) ∧ s.fld (F.HIF_RSIZE_LOG2 63 4) ≤ 12 ∧
        winOk s 63 (decide (4 ≤ 4)) (ringBase s 63 4) (ringSize s 63 4 * entryBytes 4) = true)) ∧
    (hifUp live = true ∧ live.flag F.HIF_CTRL_READY = false ∧ live.flag F.HIF_RING_ERR_VALID = false ∧ (5 : Fin 6).val ≠ 4) ∧
    (live.flag (F.HIF_WCTRL_VALID 63 15) = false) ∧
    ((ringOn 5).flag (F.HIF_WCTRL_VALID 63 15) = true ∧ (0 : Word).toNat.testBit 31 = false ∧ ringInside (ringOn 5) 63 15 = true ∧
      (withCmd (cmd 63 0 0 0 0)).flag (F.HIF_WCTRL_VALID 63 15) = true ∧ ringInside (withCmd (cmd 63 0 0 0 0)) 63 15 = false) ∧
    (let s := { live with hif := { live.hif with clearing := [16 * 63 + 15] } }
     has s.hif.clearing (16 * 63 + 15) = true ∧ transferIn s 63 15 = false) := by
  and_intros <;> decide

theorem witness_RingEngineAndCompletions :
    (ringRuns fetching = true ∧ nextFetch fetching = some (63, 0)) ∧
    (let s := { ringOn 5 with hif := { (ringOn 5).hif with evts := [⟨1, 63, true, 0, 0, [], 0⟩], rings := [(63 * 8 + 5, { hostIdx := 15 })] } }
     ringRuns s = true ∧ s.saving = false ∧ s.pfstop = false ∧ s.flag F.SPM_BOOT_STAT_RAGDOLL = false ∧ ringRoom s 63 5 = true ∧
      s.hif.evts.find? (fun e => decide (e.part = 63)) = some ⟨1, 63, true, 0, 0, [], 0⟩) ∧
    (let s := live.setVec 127 { timer := true, n := 3, masked := false }
     hifUp s = true ∧ (s.vec 127).timer = true ∧ (s.vec 127).masked = false ∧ s.hif.funcMask = false ∧ s.hif.d3 = false) ∧
    (let s := live.setVec 127 { timer := true, n := 3 }
     (s.vec 127).timer = true ∧ (s.vec 127).masked = true) ∧
    (let s := live.setVec 129 { pba := true }
     hifUp s = true ∧ (s.vec 129).pba = true ∧ s.hif.funcMask = false) ∧
    ((live.setVec 129 { masked := false }).vec 129).masked = false ∧
    (let s := { withCmd (cmd 0 0x32 0 0 16) with hif := { (withCmd (cmd 0 0x32 0 0 16)).hif with fwq := [(63, 1)] } }
     hifUp s = true ∧ s.hif.fwq = (63, 1) :: [] ∧
      (s.hif.fwOpen ++ s.hif.fwq).find? (fun e => decide (fwBase s + 64 * e.1 = (0xFC0 : Word).toNat)) = some (63, 1) ∧
      (findCmd s 1).isSome = true) ∧
    (findCmd (withCmd (cmd 0 0x79 0 0 0)) 1 = some (cmd 0 0x79 0 0 0) ∧ opFirmware (cmd 0 0x79 0 0 0).desc.op.toNat = true) ∧
    (let r : HReq := ⟨1, 0, .write, false, false, [], 0, 0⟩
     let s := { live with hif := { live.hif with reqs := [r] } }
     s.hif.reqs.find? (fun r => decide (r.serial = 1 ∧ r.kind = .write)) = some r) ∧
    R.HIF_BADACC ≠ R.HIF_BADACC + 4 * (3 : Fin 4).val := by
  and_intros <;> decide

/-- The bytes of one parameter entry: block 7, offset 0, 4 bytes at host address 0x1000. -/
def paramBytes : List Byte := [7, 0, 0, 0, 4, 0, 0, 0, 0, 0x10, 0, 0, 0, 0, 0, 0]

/-- The plan has block 7 of partition 0 with a state block of 4 bytes. -/
def withBlock (c : HostCmd) : State := { withCmd c with plan := some { blocks := [(7, { cost := 10, sbl := 4 })] } }

theorem witness_HostSignalCommands :
    hostRuns (withCmd (cmd 0 0x00 0 0 0)) 1 0x00 (cmd 0 0x00 0 0 0) ∧
    (hostRuns (withCmd (cmd 63 0x01 65535 1 8)) 1 0x01 (cmd 63 0x01 65535 1 8) ∧ slotRange (cmd 63 0x01 65535 1 8) = true ∧
      slotsReadable (withCmd (cmd 63 0x01 65535 1 8)) (cmd 63 0x01 65535 1 8) = false) ∧
    (hostRuns (withCmd (cmd 0 0x01 65535 1 8)) 1 0x01 (cmd 0 0x01 65535 1 8) ∧ slotRange (cmd 0 0x01 65535 1 8) = true ∧
      slotsReadable (withCmd (cmd 0 0x01 65535 1 8)) (cmd 0 0x01 65535 1 8) = true ∧
      reaches (withCmd (cmd 0 0x01 65535 1 8)) (0x20000000 + 8 * 65535)) ∧
    (hostRuns (withCmd (cmd 0 0x02 0 0 8)) 1 0x02 (cmd 0 0x02 0 0 8) ∧ (cmd 0 0x02 0 0 8).len % 8 = 0 ∧ 8 ≤ (cmd 0 0x02 0 0 8).len ∧
      winOk (withCmd (cmd 0 0x02 0 0 8)) 0 false (cmd 0 0x02 0 0 8).addr 8 = true ∧
      (sigEntries (padTo (([255, 255, 0, 0, 0, 0, 0, 0] : List Byte).take 8) 8)).all (fun e => ownInternal (withCmd (cmd 0 0x02 0 0 8)) 0 e.1) = true ∧
      (sigEntries (padTo (([255, 255, 0, 0, 0, 0, 0, 0] : List Byte).take 8) 8)).all (fun e => ownInternal (withCmd (cmd 0 0x02 0 0 8)) 63 e.1) = false) ∧
    hostRuns (withCmd (cmd 63 0x03 0 0 16)) 1 0x03 (cmd 63 0x03 0 0 16) ∧ hostRuns (withCmd (cmd 63 0x04 0 0 16)) 1 0x04 (cmd 63 0x04 0 0 16) ∧
    (winOk (withBlock (cmd 0 0x04 0 0 16)) 0 false 0x1000 16 = true ∧
      paramChecks (withBlock (cmd 0 0x04 0 0 16)) (cmd 0 0x04 0 0 16) (padTo (paramBytes.take 16) 16) = St.ok ∧
      ((entries (padTo (paramBytes.take 16) 16) 16).map (paramPart (withBlock (cmd 0 0x04 0 0 16)))).all
        (fun q => winOk (withBlock (cmd 0 0x04 0 0 16)) 0 false q.host q.len) = true) ∧
    (hostRuns (withCmd (cmd 0 0x05 0 1 8)) 1 0x05 (cmd 0 0x05 0 1 8) ∧
      (let s := flds (withCmd (cmd 0 0x05 0 1 8)) [(F.HIF_STG_CFG_SNAP, 1)]
       slotRange (cmd 0 0x05 0 1 8) = true ∧ slotsReadable s (cmd 0 0x05 0 1 8) = true ∧ winOk s 0 true 0x1000 8 = true ∧
        (cmd 0 0x05 0 1 8).len ≤ snapArea s)) ∧
    (hostRuns (withCmd (cmd 63 0x06 0 0 0)) 1 0x06 (cmd 63 0x06 0 0 0) ∧ (cmd 63 0x06 0 0 0).a0 = 0) ∧
    (hostRuns (withCmd (cmd 63 0x14 1 0 0)) 1 0x14 (cmd 63 0x14 1 0 0) ∧ (cmd 63 0x14 1 0 0).a0 < 2) ∧
    (hostRuns (withCmd (cmd 63 0x14 3 0 0)) 1 0x14 (cmd 63 0x14 3 0 0) ∧ (cmd 63 0x14 3 0 0).a0 < 4 ∧ 2 ≤ (cmd 63 0x14 3 0 0).a0 ∧
      (cmd 63 0x14 3 0 0).part ≠ 0) ∧
    (hostRuns (withCmd (cmd 63 0x15 0 0 16)) 1 0x15 (cmd 63 0x15 0 0 16) ∧ (cmd 63 0x15 0 0 16).len = 16) ∧
    (hostRuns (withCmd (cmd 63 0x13 0 0 16)) 1 0x13 (cmd 63 0x13 0 0 16) ∧ (cmd 63 0x13 0 0 16).len = 16) := by
  and_intros <;> decide

/-- A submit of partition 63 and the cancel that names it. -/
def cancelling : State :=
  { live with plan := some { parts := [(63, { present := true })] }, hif := { live.hif with cmds := [⟨2, 63, 3, ⟨0x20, 0, 9, 0, 0, 0, 0x1000, 0, 0⟩, false, none, false⟩, cmd 63 0x21 0x00090003 0 0] } }

theorem witness_HostDeviceCommands :
    hostRuns (withCmd (cmd 63 0x20 0 0 0)) 1 0x20 (cmd 63 0x20 0 0 0) ∧
    (hostRuns cancelling 1 0x21 (cmd 63 0x21 0x00090003 0 0) ∧ (cmd 63 0x21 0x00090003 0 0).a0 / 4 % 16384 = 0 ∧
      cancelTarget (markStarted cancelling 1) (cmd 63 0x21 0x00090003 0 0) = some ⟨2, 63, 3, ⟨0x20, 0, 9, 0, 0, 0, 0x1000, 0, 0⟩, false, none, false⟩) ∧
    hostRuns (withCmd (cmd 63 0x22 0 0 0)) 1 0x22 (cmd 63 0x22 0 0 0) ∧ hostRuns (withCmd (cmd 63 0x23 0 0 0)) 1 0x23 (cmd 63 0x23 0 0 0) ∧
    hostRuns (withCmd (cmd 0 0x24 0 0 0)) 1 0x24 (cmd 0 0x24 0 0 0) ∧ hostRuns (withCmd (cmd 63 0x30 0 0 0)) 1 0x30 (cmd 63 0x30 0 0 0) ∧
    (let s := flds { withCmd (cmd 63 0x31 0 0 3840) with nvAreas := [(63, 0, 0, 3840)] } [(F.NVR_STATUS_READY, 1)]
     hostRuns s 1 0x31 (cmd 63 0x31 0 0 3840) ∧ 1 ≤ (cmd 63 0x31 0 0 3840).len ∧ (cmd 63 0x31 0 0 3840).len ≤ 3840 ∧
      (cmd 63 0x31 0 0 3840).a0 + (cmd 63 0x31 0 0 3840).len ≤ (nvArea s 63).2 ∧ nvUp s = true ∧ winOk s 63 false 0x1000 3840 = true) ∧
    hostRuns (withCmd (cmd 63 0x40 0 0 0)) 1 0x40 (cmd 63 0x40 0 0 0) ∧
    (hostRuns (withCmd (cmd 0 0x41 0 0 128)) 1 0x41 (cmd 0 0x41 0 0 128) ∧ (cmd 0 0x41 0 0 128).len = 128) ∧
    (hostRuns (withCmd (cmd 63 0x42 0 0 256)) 1 0x42 (cmd 63 0x42 0 0 256) ∧ 1 ≤ (cmd 63 0x42 0 0 256).len ∧ (cmd 63 0x42 0 0 256).len ≤ 256 ∧
      (flds live [(F.ENT_STATUS_STATE, 1)]).entOk = true ∧
      ({ live with ent := { live.ent with first := false } } : State).entOk = false ∧
      ({ live with ent := { live.ent with first := false } } : State).entFailed = true) ∧
    (hostRuns (withCmd (cmd 63 0x43 0 0 16)) 1 0x43 (cmd 63 0x43 0 0 16) ∧ (cmd 63 0x43 0 0 16).len = 16) ∧
    (hostRuns (withCmd (cmd 0 0x70 2 0 0)) 1 0x70 (cmd 0 0x70 2 0 0) ∧ (cmd 0 0x70 2 0 0).a0 < 3) ∧
    ({ live with hif := { live.hif with resetDue := some 0 } } : State).hif.resetDue = some 0 ∧
    ({ live with hif := { live.hif with resetDue := some 1 } } : State).hif.resetDue = some 1 ∧
    ({ live with hif := { live.hif with resetDue := some 2 } } : State).hif.resetDue = some 2 := by
  and_intros <;> decide

theorem witness_FirmwareCommands :
    (0x50 ≤ 0x6F ∧ fwRuns (withCmd (cmd 63 0x6F 0 0 0)) 1 0x6F (cmd 63 0x6F 0 0 0)) ∧ fwRuns (withCmd (cmd 0 0x71 0 0 0)) 1 0x71 (cmd 0 0x71 0 0 0) ∧
    (fwRuns (withCmd (cmd 0 0x72 0 0 0x800000)) 1 0x72 (cmd 0 0x72 0 0 0x800000) ∧ (cmd 0 0x72 0 0 0x800000).len ≤ 0x800000 ∧
      winOk (withCmd (cmd 0 0x72 0 0 0x800000)) 0 false 0x1000 0x800000 = true) ∧
    fwRuns (withCmd (cmd 0 0x73 0 0 0)) 1 0x73 (cmd 0 0x73 0 0 0) ∧
    (fwRuns (withCmd (cmd 0 0x74 1 0 0)) 1 0x74 (cmd 0 0x74 1 0 0) ∧ (cmd 0 0x74 1 0 0).a0 < 2) ∧
    (fwRuns (withCmd (cmd 0 0x75 0 0 32)) 1 0x75 (cmd 0 0x75 0 0 32) ∧ (cmd 0 0x75 0 0 32).len = 32) ∧
    (fwRuns (withCmd (cmd 0 0x76 2 0 32)) 1 0x76 (cmd 0 0x76 2 0 32) ∧ (cmd 0 0x76 2 0 32).a0 = 2 ∧ (cmd 0 0x76 2 0 32).len = 32 ∧
      (flds (withCmd (cmd 0 0x76 2 0 32)) [(F.ENT_STATUS_STATE, 1)]).entOk = true ∧
      ({ withCmd (cmd 0 0x76 2 0 32) with ent := { first := false } } : State).entFailed = true ∧
      ({ withCmd (cmd 0 0x76 2 0 32) with ent := { first := false } } : State).entOk = false) ∧
    (fwRuns (withCmd (cmd 0 0x77 0 0 128)) 1 0x77 (cmd 0 0x77 0 0 128) ∧ (cmd 0 0x77 0 0 128).len = 128 ∧
      winOk (withCmd (cmd 0 0x77 0 0 128)) 0 false 0x1000 128 = true) ∧
    fwRuns (withCmd (cmd 0 0x78 0 0 0)) 1 0x78 (cmd 0 0x78 0 0 0) ∧ fwRuns (withCmd (cmd 0 0x79 0 0 0)) 1 0x79 (cmd 0 0x79 0 0 0) := by
  and_intros <;> decide

/-! ### Witnesses: field links -/

/-- A frame with a good check: type, flags, destination, source, epoch, channel, SEQ, payload; context and address of the check. -/
def frame (ty fl dest src ep ch : BitVec 8) (seq : BitVec 16) (pay : List Byte) (ctx addr : Nat) : Frame :=
  let f : Frame := ⟨ty, fl, dest, src, ep, ch, seq, BitVec.ofNat 16 pay.length, 0, pay, 0, false, false⟩
  { f with check := f.checkOf ctx addr }

/-- The record of station 31: one input, one output. -/
def rec31 : StnCfg := { addr := 31, inMask := 1, outMask := 1, safe := [0], uid := 5 }

/-- Link 23 in link state `k` with station 31 of its plan in the table as `y`. -/
def linkAt (k : Nat) (y : Stn) : State :=
  flds { live.setLnk 23 { stns := [(31, y)] } with plan := some { links := [(23, { en := true, fpg := 255, stns := [rec31] })] } }
    [(F.SFL_STATUS_STATE 23, k)]

theorem witness_InboundFrames :
    (let f := frame 2 0 0 31 9 0 0 [0, 0, 0, 0, 1, 2, 3, 4, 0, 0] 23 31
     let s := linkAt 4 { state := 3, epoch := 9, seen := true }
     s.listens 23 = false ∧ s.linkState 23 = 4 ∧ frameRes s 23 f = .ok ∧ s.thePlan.station 23 f.src.toNat = some rec31 ∧ f.type = 2 ∧
      s.stnRun 23 f.src.toNat = true ∧ f.flags.toNat.testBit 0 = false ∧ f.cycle.toNat = cycle16 s ∧ f.flags.toNat.testBit 2 = false ∧
      f.payload.length = 4 + 6 * rec31.nIn ∧ (s.stn 23 f.src.toNat).inNow = false ∧ s.cyc.cutoff = false ∧
      (s.stn 23 f.src.toNat).seen = true) ∧
    ({ linkAt 4 {} with cyc := { live.cyc with cutoff := true } } : State).cyc.cutoff = true ∧
    (let s := linkAt 4 {}
     s.listens 23 = false ∧ s.linkState 23 ≠ 0 ∧ s.linkState 23 ≠ 5) ∧
    (let f := frame 2 0 0 31 9 0 0 [] 23 31
     f.fault = false ∧ f.isAnnounce = false ∧ { f with check := f.check + 1 }.check ≠ { f with check := f.check + 1 }.checkOf 23 31) ∧
    (let f := frame 1 0 0 31 9 0 0 [] 23 31
     f.isAnnounce = false ∧ f.check = f.checkOf 23 31 ∧ inboundType f.type.toNat = false) ∧
    (let f := frame 4 0 0 31 9 1 7 [0, 0, 1, 0] 23 31
     let a : Acy := { owner := .host 1, part := 0, station := 31, tag := 0, state := acyGranted, seq := 7, sent := 1, due := false, payload := [], rspMax := 0, rspAddr := 0 }
     let s := (linkAt 4 {}).setLnk 23 { stns := [(31, { state := 3, epoch := 9 })], acyq := [a] }
     s.linkState 23 = 4 ∧ frameRes s 23 f = .ok ∧ f.type = 4 ∧ s.stnRun 23 f.src.toNat = true ∧ 4 ≤ f.payload.length ∧
      acyAt s 23 (fun a => decide (a.station = f.src.toNat ∧ a.state = acyGranted ∧ a.seq = f.seq.toNat)) = some 0 ∧ f.payLe 2 2 = 1) ∧
    (let f := frame 6 0 0 31 9 2 7 (List.replicate 20 0) 23 31
     let s := linkAt 4 { state := 3, epoch := 9, pollWait := true }
     frameRes s 23 f = .ok ∧ f.type = 6 ∧ f.payload.length = 20 ∧ (s.stn 23 f.src.toNat).state = 3 ∧ (s.stn 23 f.src.toNat).pollWait = true) := by
  and_intros <;> decide

theorem witness_StationAdmission :
    (let f := frame 5 0 0 31 9 2 0 (0x84 :: List.replicate 11 0) 0xFF 31
     let s := linkAt 4 { state := 3 }
     s.linkState 23 ≠ 0 ∧ s.linkState 23 ≠ 5 ∧ frameRes s 23 f = .ok ∧ f.isAnnounce = true ∧ f.payload.length = 12 ∧ (s.stn 23 f.src.toNat).state = 3) ∧
    ((linkAt 4 { state := 4, retry := true }).stn 23 31).state = 4 ∧ ((linkAt 4 { state := 6, retry := true }).stn 23 31).state = 6 ∧
    ((linkAt 4 {}).stn 23 31).state = 0 ∧ ((linkAt 4 { state := 2 }).stn 23 31).state = 2 ∧
    (let f := frame 5 0 0 31 9 2 0 ([0x81, 0, 0, 0, 0, 1, 0, 0] ++ leBytes 8 5 ++ List.replicate 4 0 ++ leBytes 8 1 ++ leBytes 8 1 ++ [0x90, 1, 0, 0]) 23 31
     let s := linkAt 4 { state := 2, step := 1 }
     answerOk s 23 f 0x81 40 1 = .ok ∧ s.thePlan.station 23 f.src.toNat = some rec31 ∧ f.payLe 4 2 = 0x0100 ∧ s.linkState 23 ≠ 2 ∧
      identityOk rec31 (f.payLe 8 8) (f.payLe 16 4) (f.payLe 20 8) (f.payLe 28 8) (f.payLe 36 2) (f.payLe 38 2) = true) ∧
    (let f := frame 5 0 0 31 9 2 0 [0x82, 23, 0, 0, 1, 0, 0, 0] 23 31
     let s := linkAt 4 { state := 2, step := 3, newEpoch := 9, exGood := 7, exTried := 15 }
     s.stnRun 23 f.src.toNat = false ∧ answerOk s 23 f 0x82 8 3 = .ok ∧ (s.stn 23 f.src.toNat).exGood = 7) ∧
    (((linkAt 4 { state := 2, step := 3, exGood := 6, exTried := 14 }).stn 23 31).exGood < 7 ∧
      ((linkAt 4 { state := 2, step := 3, exGood := 6, exTried := 14 }).stn 23 31).exTried < 15 ∧
      ((linkAt 4 { state := 2, step := 3, exGood := 6, exTried := 15 }).stn 23 31).exTried = 15) ∧
    (let s := flds (linkAt 4 { state := 2, step := 3, exBest := 1000 }) [(F.CYC_APPLY_OFS_US, 900), (F.CYC_OUT_LAST_US, 700)]
     ruleFourAt (s.thePlan.link 23) (s.fld F.CYC_APPLY_OFS_US) (s.fld F.CYC_OUT_LAST_US)
        (max (((s.stn 23 31).exBest + 1) / 2) (dLine (s.setStn 23 31 { s.stn 23 31 with delay := ((s.stn 23 31).exBest + 1) / 2 }) 23)) = true) ∧
    (let f := frame 5 0 0 31 9 2 0 ([0x83, 23, 0, 0] ++ leBytes 8 5) 23 31
     let s := linkAt 4 { state := 2, step := 5, newEpoch := 9 }
     s.stnRun 23 f.src.toNat = false ∧ answerOk s 23 f 0x83 12 5 = .ok ∧ s.thePlan.station 23 f.src.toNat = some rec31 ∧
      f.payLe 4 8 = (if rec31.uidAny then (s.stn 23 f.src.toNat).uid.getD 0 else rec31.uid)) ∧
    (((linkAt 4 { state := 2, step := 5 }).stn 23 31).step = 5 ∧ (linkAt 4 { state := 2, step := 5 }).linkState 23 ≠ 2) ∧
    (((linkAt 3 { state := 6, retry := true }).stn 23 31).retry = true ∧ ((linkAt 3 { state := 6, retry := true }).stn 23 31).state = 6 ∧
      (linkAt 3 { state := 6, retry := true }).linkState 23 ≠ 4) ∧ ((linkAt 3 {}).stn 23 31).retry = false := by
  and_intros <;> decide

/-- A link whose conditions to train hold. -/
def mayUp (k : Nat) : State :=
  flds ((linkAt k {}).setLnk 23 { waited := true }) [(F.SFL_CTRL_EN 23, 1), (F.CKG_STATUS_XTAL_GOOD, 1), (F.CKG_STATUS_LK_LOCK, 1)]

theorem witness_LinkStates :
    (linkAt 1 {}).linkState 23 = 1 ∧ (flds (linkAt 1 {}) [(F.ENT_STATUS_STATE, 1)]).fld F.ENT_STATUS_STATE = 1 ∧
    (linkAt 1 {}).fld F.ENT_STATUS_STATE ≠ 1 ∧ ((linkAt 1 {}).lnk 23).entEpoch = false ∧
    (((linkAt 1 {}).setLnk 23 { entEpoch := true }).lnk 23).entEpoch = true ∧ (linkAt 2 {}).linkState 23 = 2 ∧ (linkAt 2 {}).linkState 23 ≠ 1 ∧
    (linkAt 1 {}).linkState 23 ≠ 2 ∧
    (let s := (linkAt 4 {}).setLnk 23 {}
     (15 < 16) ∧ s.linkState 23 ≠ 0 ∧ s.linkState 23 ≠ 5 ∧ s.stnList 23 = [] ∧ (s.lnk 23).acyq = []) ∧
    ((mayUp 0).linkState 23 = 0 ∧ mayTrain (mayUp 0) 23 = true ∧ (mayUp 0).accepts (R.SFL_CTRL 23) = true) ∧
    ((linkAt 0 {}).linkState 23 = 0 ∧ mayTrain (linkAt 0 {}) 23 = false) ∧
    ((mayUp 5).linkState 23 = 5 ∧ mayTrain (mayUp 5) 23 = true ∧ ((mayUp 5).lnk 23).waited = true ∧ ((mayUp 5).lnk 23).testBy = none) ∧
    (((linkAt 5 {}).setLnk 23 { testLoop := 1 }).lnk 23).testLoop = 1 ∧ (linkAt 5 {}).linkState 23 = 5 ∧ mayTrain (linkAt 5 {}) 23 = false := by
  and_intros <;> decide

/-- A queue entry of link 23. -/
def acyEntry (state sent : Nat) : Acy :=
  { owner := .record 0x10000000, part := 0, station := 31, tag := 5, state := state, seq := 7, sent := sent, due := false, payload := [], rspMax := 0, rspAddr := 0 }

/-- Link 23 with that entry. -/
def withAcy (state sent : Nat) : State := (linkAt 4 {}).setLnk 23 { stns := [(31, { state := 3 })], acyq := [acyEntry state sent] }

/-- A record at 0x1000_0000: a request for station 31 with 6 bytes at 0x1000_0020. -/
def withRecord (n : Byte) : State :=
  (linkAt 4 { state := 3 }).setBytes 0x10000000 [31, 0, 0, 0, 5, 0, 0, 0, 0x20, 0, 0, 0x10, n, 0, 8, 0]

theorem witness_AcyclicRequests :
    (let s := { linkAt 4 { state := 3 } with plan := some { links := [(23, { stns := [{ rec31 with inMask := 0 }] })] } }
     let s := flds s [(F.SFL_DIAG_POLL_CYCLES 23, 0)]
     s.thePlan.station 23 31 = some { rec31 with inMask := 0 } ∧ (s.stn 23 31).state = 3 ∧ StnCfg.nIn { rec31 with inMask := 0 } = 0 ∧
      s.linkState 23 = 4 ∧ freeSpan s 23 = true ∧
      (s.stn 23 31).pollWait = false ∧ s.fld (F.SFL_DIAG_POLL_CYCLES 23) ≤ (s.stn 23 31).pollCnt) ∧
    (let s := linkAt 4 { state := 3, pollWait := true, miss := 1 }
     (s.stn 23 31).state = 3 ∧ (s.stn 23 31).pollWait = true ∧ (s.stn 23 31).miss < 2) ∧
    (2 ≤ ((linkAt 4 { state := 3, pollWait := true, miss := 2 }).stn 23 31).miss) ∧
    (let s := (linkAt 4 {}).setLnk 23 {}
     s.linkState 23 = 4 ∧ s.cyc.deadline = false ∧ s.stnList 23 = []) ∧
    (acyAt (withAcy acyGranted 2) 23 (fun a => decide (a.station = 31 ∧ a.state = acyGranted)) = some 0 ∧
      ((withAcy acyGranted 2).lnk 23).acyq[0]? = some (acyEntry acyGranted 2) ∧ (acyEntry acyGranted 2).sent < 3 ∧ 3 ≤ (acyEntry acyGranted 3).sent ∧
      ((withAcy acyGranted 2).lnk 23).due.contains (.again 31 7) = false ∧ freeSpan (withAcy acyGranted 2) 23 = true ∧
      freeSpan { withAcy acyGranted 2 with cyc := { live.cyc with inCycle := true } } 23 = false ∧
      acyAt (withAcy acyGranted 2) 23 (fun a => decide (a.station = 31 ∧ a.state = acyGranted ∧ a.seq = 7)) = some 0) ∧
    (((withAcy acyWaiting 1).lnk 23).acyq[(0 : Fin 64).val]? = some (acyEntry acyWaiting 1) ∧ (acyEntry acyWaiting 1).state = acyWaiting ∧
      (1 : Nat) ≠ (0 : Fin 64).val) ∧
    (((withAcy acyQueued 0).lnk 23).acyq[(0 : Fin 64).val]? = some (acyEntry acyQueued 0) ∧ (acyEntry acyQueued 0).state = acyQueued ∧
      (acyEntry acyWaiting 0).state ≠ acyQueued) ∧
    ((withRecord 6).accepts (R.SFL_ACY_SUB 23) = true ∧ inMgs (0x10000000 : Word).toNat 32 32 = true ∧ (withRecord 6).rd (0x10000000 + 2) 2 = 0 ∧
      acyRefuse (withRecord 6) 23 ((withRecord 6).rd 0x10000000 1) ((withRecord 6).rd (0x10000000 + 1) 1)
        ((withRecord 6).rd (0x10000000 + 0xC) 2) = St.ok) ∧ live.accepts (R.SFL_ACY_CANCEL 23) = true := by
  and_intros <;> decide

theorem witness_LinkRegisters :
    (let s := { linkAt 4 { state := 3, acks := [63] } with cyc := { live.cyc with deadline := true } }
     s.accepts (R.SFL_RESUME 23) = true ∧ (s.stn 23 31).state = 3 ∧ has (s.stn 23 31).acks (63 : Fin 64).val = true ∧ s.cyc.deadline = true ∧
      has (s.stn 23 31).acks (0 : Fin 64).val = false) ∧
    live.accepts (R.SFL_CNT_CLR 23) = true ∧ live.accepts (R.SFL_PAT_CTRL 23) = true ∧
    (let s := flds live [(F.SFL_PAT_CTRL_PATTERN 23, 7)]
     testAllowed s 23 (s.fld (F.SFL_PAT_CTRL_PATTERN 23)) (s.fld (F.SFL_PAT_CTRL_CODED 23)) (s.fld (F.SFL_PAT_CTRL_LOOP 23))
      (s.fld (F.SFL_PAT_CTRL_STATION 23)) = false) ∧
    testAllowed live 23 (live.fld (F.SFL_PAT_CTRL_PATTERN 23)) (live.fld (F.SFL_PAT_CTRL_CODED 23)) (live.fld (F.SFL_PAT_CTRL_LOOP 23))
      (live.fld (F.SFL_PAT_CTRL_STATION 23)) = true ∧
    testAllowed (flds (linkAt 4 { state := 3 }) [(F.CYC_STATUS_SERVICE, 1)]) 23 6 0 1 31 = true ∧
    ((linkAt 4 {}).linkState 23 ≠ 5) ∧ ((linkAt 5 {}).linkState 23 = 5 ∧ ((linkAt 5 {}).lnk 23).testLoop ≠ 1) ∧
    (((linkAt 5 {}).setLnk 23 { testLoop := 1 }).lnk 23).testLoop = 1 := by
  and_intros <;> decide

/-! ### Witnesses: station units, field power -/

/-- The unit at station 31 of link 23. -/
def unitAt (u : StnUnit) : State := live.setUnit 23 31 u

/-- A unit that knows its link and epoch, with one input and one output. -/
def known (st : UnitState) : StnUnit :=
  { state := st, ident := ⟨5, 0, 1, 1, 0, 0⟩, epoch := 3, linkNo := some 23, linkEpoch := some 9, identified := true, redundant := true,
    opened := true, everSoc := true, sampled := true, cycle := 6, pairEpoch := 1, flags := 1 }

/-- A K28.1 block with a good check. -/
def block (cyc : BitVec 16) (fl : BitVec 8) : KBlock := ⟨cyc, fl, 900, crc8 (leBytes 2 cyc.toNat ++ [fl] ++ leBytes 3 900), false⟩

/-- A frame for the unit. -/
def toUnit (ty ch : BitVec 8) (pay : List Byte) : Frame := frame ty 0 31 0 9 ch 4 pay 23 31

theorem witness_StationUnits_blocks :
    ((unitAt {}).unit 23 31).state = .start ∧ (255 : BitVec 8).toNat ≠ 0 ∧ (255 : BitVec 8).toNat ≠ ((unitAt {}).unit 23 31).epoch ∧
    ((unitAt (known .admitted)).unit 23 31).state ≠ .start ∧ blockOk (block 7 0x20) = true ∧ (block 7 0x20).flags.toNat.testBit 2 = false ∧
    socRes ((unitAt (known .admitted)).unit 23 31) false (block 7 0x20) = .accept false ∧
    socRes ((unitAt (known .admitted)).unit 23 31) true (block 7 0x20) = .accept true ∧
    socRes ((unitAt (known .admitted)).unit 23 31) true (block 7 0x10) = .discard ∧
    (((unitAt (known .admitted)).unit 23 31).everSoc = true ∧ ((unitAt (known .admitted)).unit 23 31).missTold = false ∧
      (block 9 0x20).flags.toNat.testBit 3 = false ∧ (block 9 0x20).cycle.toNat ≠ (((unitAt (known .admitted)).unit 23 31).cycle + 1) % 65536) ∧
    socRes ((unitAt (known .wait)).unit 23 31) false (block 7 0) = .accept false ∧
    blockOk { block 7 0 with crc := (block 7 0).crc + 1 } = false ∧
    (blockOk (block 6 0x16) = true ∧ (block 6 0x16).flags.toNat.testBit 2 = true ∧ (block 6 0x16).flags.toNat.testBit 1 = true ∧
      ((unitAt (known .admitted)).unit 23 31).opened = true ∧ (block 6 0x16).cycle.toNat = ((unitAt (known .admitted)).unit 23 31).cycle) := by
  and_intros <;> decide

theorem witness_StationUnits_cyclic :
    (let u := (unitAt (known .admitted)).unit 23 31
     u.sampled = true ∧ 0 < u.nIn ∧ [(⟨7, 0, 0⟩ : InVal)].length = u.nIn ∧ u.inSent = false) ∧
    ((unitAt {}).unit 23 31).sampled = false ∧
    (let u := (unitAt { known .admitted with cycle := 0 }).unit 23 31
     let f := toUnit 1 0 [1, 2, 3, 4]
     u.state = .admitted ∧ consume u 31 f false = .yes 23 ∧ f.type = 1 ∧ f.cycle.toNat = u.cycle ∧ u.portChanged = false ∧
      f.payload.length = 4 * u.nOut) ∧
    (toUnit 1 0 [1, 2, 3, 4]).cycle.toNat ≠ ((unitAt (known .admitted)).unit 23 31).cycle ∧
    (consume (known .wait) 31 { toUnit 1 0 [] with check := (toUnit 1 0 []).check + 1 } false = .crc) ∧
    ((unitAt (known .admitted)).unit 23 31).flags.testBit 0 = true ∧
    (let u := (unitAt { known .admitted with flags := 0, next := some [7] }).unit 23 31
     u.opened = true ∧ u.state ≠ .start ∧ u.flags.testBit 0 = false ∧ u.next = some [7] ∧ u.state = .admitted) ∧
    ((unitAt (known .admitted)).unit 23 31).next = none := by
  and_intros <;> decide

theorem witness_StationUnits_frames :
    (let u := (unitAt { known .admitted with linkNo := none }).unit 23 31
     let f := frame 5 0 31 0 9 2 4 [1, 0, 0, 0] 0 31
     u.state ≠ .start ∧ u.state ≠ .loop ∧ consume u 31 f true = .yes 0 ∧ f.type = 5 ∧ f.pay 0 = 1 ∧ f.payload.length = 4 ∧
      u.state = .admitted ∧ u.linkEpoch = some f.epoch.toNat) ∧
    ((unitAt (known .admitted)).unit 23 31).linkEpoch ≠ some 8 ∧ ((unitAt (known .wait)).unit 23 31).state ≠ .admitted ∧
    (let f := toUnit 5 2 [2, 0, 0, 0]
     consume (known .wait) 31 f false = .yes 23 ∧ f.pay 0 = 2 ∧ f.payload.length = 4 ∧ (known .wait).identified = true) ∧
    (let f := toUnit 5 2 ([3, 23, 1, 0, 0, 1, 0, 0, 0, 1, 0, 0] ++ leBytes 8 5 ++ [1, 2, 3, 4])
     consume (known .wait) 31 f false = .yes 23 ∧ f.type = 5 ∧ f.pay 0 = 3 ∧ f.payload.length = 20 + 4 * (known .wait).nOut ∧
      f.payLe 12 8 = (known .wait).ident.uid.toNat) ∧
    (consume (known .admitted) 31 (toUnit 5 2 [4, 0, 0, 0]) false = .yes 23 ∧ (toUnit 5 2 [4, 0, 0, 0]).pay 0 = 4) ∧
    (consume (known .held) 31 (toUnit 6 2 [1, 0, 0, 0]) false = .yes 23 ∧ consume (known .wait) 31 (toUnit 6 2 [2, 0, 0, 0]) false = .yes 23) ∧
    (consume (known .admitted) 31 (toUnit 3 1 [1, 0, 0, 0, 0, 0]) false = .yes 23 ∧ 6 ≤ (toUnit 3 1 [1, 0, 0, 0, 0, 0]).payload.length ∧
      (known .admitted).lastAcr = none ∧ { known .admitted with lastAcr := some (4, [9]) }.lastAcr = some ((toUnit 3 1 [1, 0, 0, 0, 0, 0]).seq.toNat, [9])) ∧
    (consume (known .held) 31 (toUnit 8 2 []) true = .yes 23 ∧ (known .held).state = .held ∧ (toUnit 8 2 []).payload.length = 0) := by
  and_intros <;> decide

theorem witness_FieldPower :
    live.accepts (R.FPC_CTRL 5) = true ∧ fpcState live 5 = 0 ∧ fpcState (flds live [(F.FPC_STATUS_STATE 5, 1)]) 5 = 1 ∧
    fpcState (flds live [(F.FPC_STATUS_STATE 5, 2)]) 5 = 2 ∧ fpcState (flds live [(F.FPC_STATUS_STATE 5, 3)]) 5 = 3 ∧
    (fpcState (flds live [(F.FPC_STATUS_STATE 5, 4), (F.FPC_STATUS_RETRIES 5, 2)]) 5 = 4 ∧
      (flds live [(F.FPC_STATUS_STATE 5, 4), (F.FPC_STATUS_RETRIES 5, 2)]).fld (F.FPC_STATUS_RETRIES 5) ≤ 2) ∧
    (fpcState (flds live [(F.FPC_STATUS_STATE 5, 5), (F.FPC_CTRL_EN 5, 1)]) 5 = 5 ∧
      (flds live [(F.FPC_STATUS_STATE 5, 5), (F.FPC_CTRL_EN 5, 1)]).flag (F.FPC_CTRL_EN 5) = true) := by
  and_intros <;> decide

/-! ### Witnesses: Block Mover, checks, storage -/

/-- Channel 15 busy with a descriptor of one element of 64 bytes from MGS to MGS. -/
def moving : State :=
  (flds live [(F.BMV_CH_STAT_STATE 15, 1)]).setCh 15 { desc := some ⟨0, false, false, 0, 0, 0x10000100, [(0x10000200, 64)]⟩ }

/-- A descriptor at 0x1000_0020 whose one element stands at 0x1000_0040. -/
def described (n : Byte) : State :=
  live.setBytes 0x10000020 ([0, 0, 0, 0, n, 0, 0, 0, 0x40, 0, 0, 0x10, 0, 1, 0, 0x10] ++ List.replicate 16 0 ++ [0, 2, 0, 0x10, 64, 0, 0, 0])

theorem witness_BlockMoverAndChecks :
    (bmvServes live = true ∧ live.flag F.BMV_STATUS_HALT = false ∧ chState live 15 = 0) ∧
    (flds live [(F.BMV_STATUS_HALT, 1)]).flag F.BMV_STATUS_HALT = true ∧ (chState moving 15 = 1 ∧ (moving.ch 15).ending = none) ∧
    ((moving.setCh 15 { ending := some (St.ok, 1) }).ch 15).ending = some (St.ok, 1) ∧
    (mgsRange 0x10000020 32 = true ∧ 0x10000020 % 32 = 0 ∧ mgsBad (described 1) 0x10000020 32 = none ∧
      mgsBad (described 1) ((described 1).rd (0x10000020 + 8) 4) (8 * ((described 1).rd (0x10000020 + 4) 4 % 32)) = none ∧
      descCheck (described 1) 0x10000020 = St.ok ∧ descCheck (described 17) 0x10000020 ≠ St.ok) ∧
    (moving.dbgHalted = false ∧ (turns moving).find? (mayBurst moving) = some 15 ∧ bmvServes moving = true ∧
      (moving.ch 15).desc = some ⟨0, false, false, 0, 0, 0x10000100, [(0x10000200, 64)]⟩) ∧
    ((moving.ch 15).done < 1 ∧ (moving.ch 15).eofs = 0 ∧
      elemStatus moving (moving.fld (F.BMV_CH_CFG_PART 15)) ⟨0, false, false, 0, 0, 0, [(0xFFFFFFF0, 64)]⟩ 0 ≠ St.ok) ∧
    (((moving.setCh 15 { ending := some (St.busError, 1) }).ch 15).ending = some (St.busError, 1) ∧ St.busError ≠ St.ok ∧ St.busError < 256) ∧
    ((moving.setCh 15 {}).ch 15).ending = none ∧ live.flag F.BMV_HALT_INFO_VALID = false ∧
    (flds live [(F.BMV_HALT_INFO_VALID, 1)]).flag F.BMV_HALT_INFO_VALID = true ∧ (∀ m, m < 16 → chState live m = 0) ∧
    live.flag (F.CVU_CFG_BUSY 3) = false ∧ (flds live [(F.CVU_CFG_BUSY 3, 1)]).flag (F.CVU_CFG_BUSY 3) = true ∧ live.mse.job = none ∧
    (({ live with mse := { job := some (2, 8, true) } } : State).mse.job = some (2, 8, true) ∧ 2 % 4 ≠ 0) ∧
    (let s := { live with mse := { job := some (0x10000000, 4, true) } }
     s.mse.job = some (0x10000000, 4, true) ∧ regionFor 0x10000000 4 = some .mgs ∧ mseMay 0x10000000 4 = true ∧
      mseWay s .mgs 0x10000000 4 = (none, s) ∧ eccRead s .mgs 0x10000000 4 = (none, s)) ∧
    (let s := flds { live.setCpu (.le 0) { k := { ({} : Core) with state := .idle } } with
        plan := some { sets := [(0, { progs := [⟨0, 0, 64, 0⟩] })] } } [(F.MSE_SCRUB_CFG_EN, 1)]
     s.flag F.MSE_SCRUB_CFG_EN = true ∧ s.plan.isSome = true ∧ s.mse.job = none ∧ s.dbgHalted = false ∧ scrubbed s s.mse.engine = true ∧
      s.mse.engine < 64 ∧ (progsOf s s.mse.engine)[s.mse.prog]? = some ⟨0, 0, 64, 0⟩) := by
  and_intros <;> decide

/-- The NVR is ready, a plan in force, the cycle has run: the save engine is armed. -/
def armed : State :=
  flds { live with plan := some {}, nvr := { live.nvr with enSeen := true } }
    [(F.NVR_STATUS_READY, 1), (F.NVR_PF_CTRL_PFN_EN, 1), (F.NVR_PF_CTRL_MON_EN, 1)]

/-- The head of a retain record with SEQ 1 and nothing behind it. -/
def retHead : List Byte :=
  let l := leBytes 4 0x52544E52 ++ [0, 1, 0, 0x64] ++ leBytes 4 1 ++ leBytes 4 256 ++ List.replicate 236 0 ++ leBytes 4 0x2E7A1A5C
  l.take 0xF8 ++ leBytes 4 (retCrc 0 1 l) ++ l.drop 0xFC

theorem witness_Storage_regions :
    nvrServes live = true ∧ regionLocked (flds live [(F.NVR_STATUS_LOCKED, 1)]) ((flds live [(F.NVR_STATUS_LOCKED, 1)]).fld F.NVR_PWD_SEL_REGION) = true ∧
    regionLocked live (live.fld F.NVR_PWD_SEL_REGION) = false ∧ (0 : Word) = regionKey live (live.fld F.NVR_PWD_SEL_REGION) false ∧
    (1 : Word) ≠ regionKey live (live.fld F.NVR_PWD_SEL_REGION) true ∧ regionOpen live (live.fld F.NVR_PWD_SEL_REGION) true = true ∧
    (let s := { live with nvr := { live.nvr with keyW := [(0, 5)] } }
     regionOpen s (s.fld F.NVR_PWD_SEL_REGION) true = false ∧ (5 : Word) = regionKey s (s.fld F.NVR_PWD_SEL_REGION) true) ∧
    (let s := { armed with nvr := { armed.nvr with queue := [⟨.key 7 true 5, 0⟩] } }
     s.flag F.NVR_STATUS_READY = true ∧ s.saving = false ∧ s.nvr.queue = ⟨.key 7 true 5, 0⟩ :: [] ∧ jCheck s ⟨.key 7 true 5, 0⟩ = St.ok ∧
      jCheck s ⟨.firmware 0 0, 0⟩ ≠ St.ok) ∧
    (live.powered 7 = true ∧ live.flag F.NVR_STATUS_READY = false ∧ live.fld F.RST_SEQ_STEP = 0 ∧
      5 ≤ (flds live [(F.RST_SEQ_STEP, 5)]).fld F.RST_SEQ_STEP) ∧ live.rd journalBase 4 ≠ 0x4A434D54 := by
  and_intros <;> decide

theorem witness_Storage_save :
    (armed.flag F.NVR_PF_CTRL_PFN_EN = true ∧ armed.armed = true ∧ armed.flag F.NVR_PF_CTRL_MON_EN = true ∧ live.armed = false) ∧
    (live.accepts R.NVR_PF_CTRL = true ∧ (flds live [(F.CYC_STATUS_SERVICE, 1)]).service = true ∧ live.service = false) ∧
    (flds live [(F.NVR_STATUS_PFSTOP, 1)]).pfstop = true ∧ (live.saving = false ∧ live.pfstop = false ∧ live.dbgHalted = false) ∧
    ((flds armed [(F.NVR_STATUS_SAVING, 1)]).saving = true ∧ (flds armed [(F.NVR_STATUS_SAVING, 1)]).rst.after = none) ∧
    (let s := flds { armed with rst := { armed.rst with after := some ⟨64, 2⟩ } } [(F.NVR_STATUS_SAVING, 1)]
     s.rst.after = some ⟨64, 2⟩ ∧ (finishSave s).rst.after = some ⟨64, 2⟩) ∧
    (live.accepts R.NVR_RET_CTRL = true ∧ live.plan = none ∧ armed.cycEn = false ∧ armed.plan.isSome = true ∧ armed.flag F.NVR_STATUS_READY = true) ∧
    ((flds armed [(F.NVR_RET_STAT_BUSY, 1)]).flag F.NVR_RET_STAT_BUSY = true ∧ newest armed = none) ∧
    (let s := retWrite { armed with plan := some { id := 7 } } 0 0 retHead
     newest s = some 0 ∧ retLe s 0 0x10 4 ≠ s.thePlan.id) := by
  and_intros <;> decide

theorem witness_Storage_flash :
    live.accepts R.PFL_CMD = true ∧ pflOwner .mc (pflAddr live / 4096) = false ∧
    (let s := flds live [(F.PFL_ADDR_WORD, 512 * 255)]
     pflOwner .mc (pflAddr s / 4096) = true ∧ s.pfl.op = none ∧ s.pfl.suspended ≠ some (pflAddr s / 4096) ∧ s.flag F.PFL_STATUS_BUSY = false ∧
      pflErased s 0xFF000 = true) ∧ (flds live [(F.PFL_STATUS_BUSY, 1)]).flag F.PFL_STATUS_BUSY = true ∧
    ({ live with pfl := { live.pfl with op := some (.erase 255) } } : State).pfl.op = some (.erase 255) ∧
    ({ live with pfl := { live.pfl with suspended := some 255 } } : State).pfl.suspended = some 255 ∧
    within (0x58000000 + 4096 * 255 + 4095) (0x58000000 + 4096 * 255) 4096 = true ∧
    within (0x58000000 + 4096 * 256) (0x58000000 + 4096 * 255) 4096 = false ∧
    ({ live with pfl := { live.pfl with op := some (.program 0xFF000 1 2) } } : State).pfl.op = some (.program 0xFF000 1 2) := by
  and_intros <;> decide

/-! ### Witnesses: resets, boot, entropy, clocks -/

theorem witness_Resets :
    (debugLevel live = 2 ∧
      debugLevel { live with boot := { live.boot with fuses := { live.boot.fuses with dbgLock := true, secEn := true } } } ≠ 2) ∧
    ((0x52530001 : Word).toNat / 65536 = 0x5253 ∧ (0x52530001 : Word).toNat % 4 = 1) ∧ (0x52530002 : Word).toNat % 4 = 2 ∧ (0x52530003 : Word).toNat % 4 = 3 ∧
    (hifUp live = true ∧ (flds live [(F.HIF_CTRL_LTSSM_EN, 1)]).flag F.HIF_CTRL_LTSSM_EN = true ∧ live.flag F.HIF_CTRL_LTSSM_EN = false) ∧
    (State.reset.fld F.RST_SEQ_STEP ≠ 0 ∧ State.reset.fld F.RST_SEQ_STEP < 2) ∧ (live.fld F.RST_SEQ_STEP = 0 ∧ live.saving = false) ∧
    ((3 : Nat) ≠ 1 ∧ 2 ^ 6 &&& clkfailBit = 0 ∧ (flds armed [(F.RST_CFG_SAVE, 1)]).flag F.RST_CFG_SAVE = true ∧
      (flds armed [(F.RST_CFG_SAVE, 1)]).armed = true ∧ (flds armed [(F.RST_CFG_SAVE, 1)]).pfstop = false) ∧ 2 ^ 5 &&& clkfailBit ≠ 0 ∧
    (stepHeld live (live.fld F.RST_SEQ_STEP) = false ∧ live.pmu.state = .active) ∧ (flds live [(F.RST_SEQ_STEP, 2)]).fld F.RST_SEQ_STEP = 2 ∧
    ((flds live [(F.RST_SEQ_STEP, 3)]).fld F.RST_SEQ_STEP = 3 ∧ live.rst.xtalDone = false ∧ { live.rst with xtalDone := true }.xtalDone = true) ∧
    (flds live [(F.RST_SEQ_STEP, 4)]).fld F.RST_SEQ_STEP = 4 ∧ (flds live [(F.RST_SEQ_STEP, 5)]).fld F.RST_SEQ_STEP = 5 ∧
    { live.rst with rstN := true }.rstN = true ∧ has { live.rst with closing := [31] }.closing (31 : Fin 32).val = true ∧
    has live.rst.closing (0 : Fin 32).val = false := by
  and_intros <;> decide

theorem witness_BootAndEntropy :
    ({ live.boot with wdt := .confirm }.wdt = .confirm ∧ live.boot.wdt ≠ .confirm ∧ (0x53544F4A : Word) ≠ 0x53544F4B) ∧
    (live.sp.k.halted = false ∧ live.boot.wdt = .off ∧ { live.boot with wdt := .own }.wdt = .own) ∧ live.boot.challenge = none ∧
    2 ≤ (flds live [(F.ENT_STATUS_STATE, 2)]).fld F.ENT_STATUS_STATE ∧
    (live.fld F.ENT_STATUS_STATE = 0 ∧ live.ent.passes < 5 ∧ { live.ent with passes := 5 }.passes = 5) ∧
    (flds live [(F.ENT_STATUS_STATE, 1)]).fld F.ENT_STATUS_STATE = 1 ∧ (live.ent.waiting = [] ∧ live.dbg.want = 0) ∧
    (flds live [(F.ENT_STATUS_RETRIES, 7)]).fld F.ENT_STATUS_RETRIES = 7 ∧ live.fld F.ENT_STATUS_RETRIES < 7 ∧
    (flds live [(F.ENT_STATUS_STATE, 2)]).fld F.ENT_STATUS_RETRIES < 8 ∧ { live.ent with cond := some (List.replicate 32 0) }.cond.isSome = true ∧ live.ent.cond = none ∧
    { live.ent with served := 1023 }.served < 1024 ∧ 1024 ≤ { live.ent with served := 1024 }.served ∧
    ((0x80000000 : Word).toNat.testBit 31 = true ∧ live.flag F.ENT_REQ_STAT_BUSY = false ∧ live.fld F.ENT_STATUS_STATE ≠ 1 ∧ live.ent.first = true ∧
      { live.ent with first := false }.first = false) := by
  and_intros <;> decide

/-- STEP of cluster 3 stands at a value, whatever the ordering code. -/
def stepped (s : State) (n : Nat) : State := { s with regs := ((F.CKG_CLFREQ_STEP 3).reg, word n) :: s.regs }

theorem witness_Clocks :
    (has live.clk.badWin (6 : Fin 7).val = false ∧ has { live.clk with badWin := [6] }.badWin (6 : Fin 7).val = true ∧
      ((flds live [(F.CKG_MON_CTRL_EN, 127)]).fld F.CKG_MON_CTRL_EN).testBit 6 = true) ∧
    (Machine.live live 3 = false ∧ ((flds live [(F.CKG_MON_CTRL_PROMOTE, 8)]).fld F.CKG_MON_CTRL_PROMOTE).testBit 3 = true) ∧
    (Machine.live live 1 = false ∧ ((flds live [(F.CKG_MON_CTRL_PROMOTE, 0)]).fld F.CKG_MON_CTRL_PROMOTE).testBit 1 = false ∧
      (flds live [(F.CKG_CL_CTRL_PENDING, 1)]).flag F.CKG_CL_CTRL_PENDING = true) ∧
    ((flds live [(F.CKG_STATUS_XTAL_GOOD, 1)]).flag F.CKG_STATUS_XTAL_GOOD = true ∧ (flds live [(F.CKG_STATUS_XTAL_GOOD, 0)]).flag F.CKG_STATUS_XTAL_GOOD = false) ∧
    ((flds live [(F.CKG_STATUS_CL_LOCK, 1)]).flag F.CKG_STATUS_CL_LOCK = true ∧ (flds live [(F.CKG_STATUS_CL_STABLE, 1)]).flag F.CKG_STATUS_CL_STABLE = true ∧
      (flds live [(F.CKG_STATUS_CL_STABLE, 0)]).flag F.CKG_STATUS_CL_STABLE = false) ∧
    (trimExpected (flds live [(F.CKG_TRIM_CTRL_SRC, 3), (F.CYC_PERIOD_US, 1000)]) = some 100000 ∧
      2 * 100000 < 100 * apartBy (102001 : Word).toNat 100000 ∧ 100 * apartBy (102000 : Word).toNat 100000 ≤ 2 * 100000) ∧
    trimExpected (flds live [(F.CKG_TRIM_CTRL_SRC, 0)]) = none ∧
    ((live.fld F.AGM_STATUS_CRIT).testBit 3 = false ∧ running.cycEn = true ∧ running.regBit R.AGM_STATUS (20 + (3 : Fin 4).val) = false) ∧
    (((flds live [(F.AGM_STATUS_CRIT, 8)]).fld F.AGM_STATUS_CRIT).testBit 3 = true ∧
      (stepped (flds live [(F.AGM_STATUS_CRIT, 8)]) 0).fld (F.CKG_CLFREQ_STEP 3) < (1 : BitVec 4).toNat) := by
  and_intros <;> decide

theorem witness_Clocks_step : maxStep < (15 : BitVec 4).toNat ∧ (4 : BitVec 4).toNat ≤ maxStep := by
  unfold maxStep Config.greatestStep; split <;> decide

/-! ### Witnesses: power, backup -/

theorem witness_Power_domains :
    (live.powered 7 = true ∧ has live.pmu.goingOff 7 = false ∧ has live.pmu.comingOn 7 = false ∧ offRefused live 7 = true) ∧
    (live.powered 0 = true ∧ offRefused live 0 = false) ∧ has { live.pmu with goingOff := [7] }.goingOff (7 : Fin 8).val = true ∧
    has { live.pmu with comingOn := [7] }.comingOn (7 : Fin 8).val = true ∧
    ((flds live [(F.PMU_DOM_STAT_PWR, 0)]).powered 0 = false ∧ domLocked live 0 = false ∧
      domLocked (flds live [(F.PMU_DOM_CTRL_LOCK, 1)]) 0 = true) ∧ domByte 0 0x31000000 = false ∧ (4 ≤ 7 ∧ 7 < 8) ∧
    ({ live with plan := some {} } : State).plan.isSome = true := by
  and_intros <;> decide

theorem witness_Power_states :
    ((0x53550001 : Word).toNat / 65536 ≠ 0x5354 ∧ (0x53540000 : Word).toNat % 2 = 0) ∧
    ((0x53540003 : Word).toNat / 65536 = 0x5354 ∧ (0x53540003 : Word).toNat % 2 = 1 ∧ (flds live [(F.CYC_STATUS_RUNNING, 1)]).flag F.CYC_STATUS_RUNNING = true) ∧
    (live.flag F.CYC_STATUS_RUNNING = false ∧ live.saving = false ∧ live.pfstop = false ∧ (flds live [(F.NVR_STATUS_PFSTOP, 1)]).pfstop = true) ∧
    (live.pmu.entering = false ∧ { live.pmu with entering := true }.entering = true) ∧ wakeLatched (aonEvent live 0) 0 = false ∧
    (let s := flds { live with pmu := { live.pmu with state := .standby } } [(⟨R.BKD_WAKE_EN, 0, 32⟩, 2 ^ 23)]
     wakeLatched (aonEvent s 23) 23 = true ∧ s.pmu.entering = false ∧ s.pmu.state = .standby) := by
  and_intros <;> decide

theorem witness_Power_avs :
    (flds live [(F.PMU_AVS_CFG_OWNER, 1)]).flag F.PMU_AVS_CFG_OWNER = true ∧
    (let s := flds live [(F.PMU_AVS_CFG_OWNER, 0), (F.PMU_AVS_CFG_EN, 1), (F.PMU_AVS_LIM_MIN, 700), (F.PMU_AVS_LIM_MAX, 900), (F.PMU_AVS_STAT_MV, 800)]
     s.flag F.PMU_AVS_CFG_OWNER = false ∧ s.fld F.PMU_AVS_LIM_MIN ≤ (900 : BitVec 10).toNat ∧ (900 : BitVec 10).toNat ≤ s.fld F.PMU_AVS_LIM_MAX ∧
      (699 : BitVec 10).toNat < s.fld F.PMU_AVS_LIM_MIN ∧ s.fld F.PMU_AVS_LIM_MAX < (901 : BitVec 10).toNat ∧ s.flag F.PMU_AVS_CFG_EN = true ∧
      s.pmu.step = none ∧ s.fld F.PMU_AVS_STAT_MV < (900 : BitVec 10).toNat ∧ (700 : BitVec 10).toNat < s.fld F.PMU_AVS_STAT_MV) ∧
    { live.pmu with step := some 810 }.step = some 810 ∧ { live.pmu with step := some 810 }.repeated = false ∧
    { live.pmu with step := some 810, repeated := true }.repeated = true ∧
    voutNear (820 : BitVec 16).toNat 810 (avsExp (flds live [(F.PMU_AVS_CFG_EXP, 0)])) = voutNear 820 810 0 ∧ voutNear 1 1000 0 = true ∧
    (flds live [(F.PMU_AVS_CFG_EN, 0)]).flag F.PMU_AVS_CFG_EN = false := by
  and_intros <;> decide

theorem witness_Backup :
    within bkdRam bkdRam 0x100 = true ∧ within (bkdRam + 0x100) bkdRam 0x100 = false ∧
    (live.flag F.BKD_CTRL_ALM_EN = false ∧ (flds live [(F.BKD_CTRL_ALM_EN, 1)]).flag F.BKD_CTRL_ALM_EN = true ∧ live.pmu.state ≠ .backup ∧
      { live.pmu with state := .backup }.state = .backup ∧ live.bkd.evq.length < 8 ∧ 8 ≤ { live.bkd with evq := List.replicate 8 0 }.evq.length) ∧
    ((live.fld F.BKD_WAKE_CFG_EDGE / 4 ^ (0 : Fin 4).val % 4).testBit 0 = false ∧
      ((flds live [(F.BKD_WAKE_CFG_EDGE, 192)]).fld F.BKD_WAKE_CFG_EDGE / 4 ^ (3 : Fin 4).val % 4).testBit 1 = true ∧
      ((flds live [(F.BKD_CTRL_REQ_EN, 16)]).fld F.BKD_CTRL_REQ_EN).testBit ((3 : Fin 4).val + 1) = true) ∧
    { live.bkd with evq := [2 ^ 63] }.evq = 2 ^ 63 :: [] := by
  and_intros <;> decide

/-! ### Witnesses: ageing, Twin Link -/

/-- The factory record does not pass its check: the nominal limits hold. Cluster 3 with a margin in 0.01 % and AGM_STATUS bits. -/
def margin (pct canary status : Nat) : State :=
  stepped (flds { live with mem := [(0x58001000, 0), (0x58001001, 0), (0x58001002, 0), (0x58001003, 0)], agm := { live.agm with ratios := [(3, pct)] } }
    [(F.AGM_CANARY_WIN 3, canary), (⟨R.AGM_STATUS, 0, 32⟩, status)]) 4

theorem witness_Ageing_margins :
    (live.flag F.AGM_CTRL_EN = true ∧ (flds live [(F.AGM_CTRL_EN, 0)]).flag F.AGM_CTRL_EN = false ∧ (flds live [(F.PMU_DOM_STAT_PWR, 0)]).powered 3 = false) ∧
    ((margin 799 0 0).powered 3 = true ∧ marginState (margin 799 0 0) 3 = .ok ∧ lowCrit (margin 799 0 0) 3 = false ∧ lowWarn (margin 799 0 0) 3 = true) ∧
    (marginState (margin 900 0 (2 ^ 27)) 3 = .warn ∧ lowCrit (margin 900 0 (2 ^ 27)) 3 = false ∧ highOk (margin 900 0 (2 ^ 27)) 3 = true) ∧
    (marginState (margin 600 0 (2 ^ 31)) 3 = .crit ∧ lowCrit (margin 600 0 (2 ^ 31)) 3 = false) ∧
    (marginState (margin 299 0 0) 3 ≠ .crit ∧ lowCrit (margin 299 0 0) 3 = true ∧ 0 < stepOf (margin 299 0 0) 3) ∧
    (marginState (margin 299 0 (2 ^ 31)) 3 = .crit ∧ lowCrit (margin 299 0 (2 ^ 31)) 3 = true) ∧
    ((flds { live with cyc := { live.cyc with house := true } } [(F.AGM_CTRL_PROBE_EN, 1)]).flag F.AGM_CTRL_EN &&
      (flds { live with cyc := { live.cyc with house := true } } [(F.AGM_CTRL_PROBE_EN, 1)]).flag F.AGM_CTRL_PROBE_EN && live.powered 3) = true ∧
    (live.agm.settling = false ∧ { live.agm with settling := true }.settling = true) ∧
    ((margin 400 0 (2 ^ 31)).regBit R.AGM_STATUS (28 + 3) = true ∧ clearOk (margin 400 0 (2 ^ 31)) 3 = true ∧
      clearOk (margin 399 0 (2 ^ 31)) 3 = false ∧ (8 : BitVec 4).toNat.testBit 3 = true ∧
      marginState (margin 400 0 (2 ^ 23)) 3 = .pend) ∧ (∀ c, c < 4 → marginState live c ≠ .pend) ∧ (∀ c, c < 4 → (0 : BitVec 4).toNat.testBit c = false) := by
  and_intros <;> decide

theorem witness_Ageing_ledger :
    (List.replicate 24 (0 : Byte)).length = 24 ∧ (flds live [(F.AGM_CTRL_LEDGER_EN, 0)]).flag F.AGM_CTRL_LEDGER_EN = false ∧
    (let s := flds { live with agm := { live.agm with started := true } } [(F.AGM_CTRL_LEDGER_EN, 1), (F.NVR_STATUS_READY, 1), (F.AGM_STATUS_LEDGER_READY, 1)]
     s.flag F.AGM_CTRL_LEDGER_EN = true ∧ ledgerOpen s = true) ∧
    (ledgerOpen live = false ∧ live.agm.held.length < 4 ∧ 4 ≤ { live.agm with held := List.replicate 4 (true, []) }.held.length) ∧
    (flds live [(F.AGM_LEDGER_SEQ_VAL, 0xFFFFFFFD)]).fld F.AGM_LEDGER_SEQ_VAL < 0xFFFFFFFE ∧
    within (ledgerAt 127) (ledgerAt (120 + live.agm.anchor % 8)) 32 = false := by
  and_intros <;> decide

/-- A frame of the Twin Link with a good check. -/
def twlFrame (ty : BitVec 8) (pay : List Byte) : TwlFrame :=
  let f : TwlFrame := ⟨ty, 0, 3, BitVec.ofNat 16 pay.length, 0, pay, 0⟩
  { f with check := f.checkOf }

/-- The Twin Link stands UP in a role. -/
def twin (role : Nat) : State := flds live [(F.TWL_STATUS_LINK, 2), (F.TWL_STATUS_ROLE, role), (F.TWL_STATUS_PAIR_EPOCH, 1)]

theorem witness_TwinLink_training :
    live.accepts R.TWL_CTRL = true ∧
    (let s := flds live [(F.TWL_CTRL_EN, 1), (F.CKG_STATUS_XTAL_GOOD, 1)]
     s.fld F.TWL_STATUS_LINK = 0 ∧ s.flag F.TWL_CTRL_EN = true ∧ s.flag F.CKG_STATUS_XTAL_GOOD = true ∧ s.serves R.TWL_CTRL = true) ∧
    live.flag F.TWL_CTRL_EN = false ∧
    ((flds live [(F.TWL_STATUS_LINK, 1)]).fld F.TWL_STATUS_LINK = 1 ∧ (flds live [(F.TWL_STATUS_LINK, 1)]).twl.deskewed = false) ∧
    (running.cycEn = true ∧ live.cycEn = false ∧ live.twlUp = false ∧ (twin 0).cycEn = false ∧ (twin 0).twlUp = true) ∧
    (let f := twlFrame 7 ([1] ++ List.replicate 15 0)
     (twin 0).fld F.TWL_STATUS_LINK ≠ 0 ∧ f.passes = true ∧ f.type = 7 ∧ f.payload.length = 16 ∧ f.pay 0 1 = 1 ∧ { f with check := f.check + 1 }.passes = false) ∧
    (let f := twlFrame 7 ([2] ++ List.replicate 15 0)
     let s := { flds live [(F.TWL_STATUS_LINK, 1)] with twl := { live.twl with deskewed := true, echoes := 7, best := 100 } }
     f.passes = true ∧ f.pay 0 1 = 2 ∧ s.fld F.TWL_STATUS_LINK = 1 ∧ s.twl.deskewed = true ∧ s.twl.echoes = 7) := by
  and_intros <;> decide

theorem witness_TwinLink_roles :
    (twlRole live = 0 ∧ live.cycEn = false ∧ live.twl.claim = false ∧ live.twl.peer = none ∧ live.reg R.TWL_REFUSE_CNT ≠ 0xFFFFFFFF) ∧
    (let b : Beat := { role := 1, epoch := 15 }
     let s := { twin 0 with twl := { live.twl with peer := some b } }
     s.accepts R.TWL_CTRL = true ∧ twlRole s = 0 ∧ s.twl.peer = some b ∧ s.twlUp = true ∧ b.role = 1 ∧ b.epoch < 16) ∧
    ({ live.twl with claim := true, claimLost := true }.claimLost = true ∧ { live.twl with claim := true }.claimLost = false) ∧
    (let f := twlFrame 1 (List.replicate 0x3C 0)
     (twin 0).wrapped R.TWL_CTRL = false ∧ (twin 0).powered 5 = true ∧ (twin 0).fld F.TWL_STATUS_LINK ≠ 0 ∧ twlTakes (twin 0) f 1 ∧ f.payload.length = 0x3C ∧
      { f with check := f.check + 1 }.passes = false) ∧
    ((1 : Nat) = (twin 1).fld F.TWL_STATUS_PAIR_EPOCH ∧ 2 ≠ (twin 1).fld F.TWL_STATUS_PAIR_EPOCH ∧ epochNewer 2 ((twin 1).fld F.TWL_STATUS_PAIR_EPOCH) = true) ∧
    ((flds (twin 2) [(F.CYC_CTRL_EN, 1)]).standby = true ∧ (flds (twin 2) [(F.CYC_CTRL_EN, 1)]).cycEn = true ∧ (twin 1).standby = false ∧
      (twin 2).reg R.TWL_HB_MISS_CNT ≠ 0xFFFFFFFF) := by
  and_intros <;> decide

theorem witness_TwinLink_sets :
    twlTakes (twin 2) (twlFrame 2 []) 2 ∧ twlTakes (twin 2) (twlFrame 3 []) 3 ∧ twlTakes (twin 1) (twlFrame 4 []) 4 ∧ twlTakes (twin 2) (twlFrame 5 []) 5 ∧
    ((twin 1).standby = false ∧ (twin 2).primary = false) ∧
    ((twin 2).standby = true ∧ (twlFrame 3 (List.replicate 12 0)).payload.length = 12 ∧ (twin 2).flag F.TWL_STATUS_PLAN_OK = false ∧ (twin 2).twlUp = true) ∧
    (let s := { twin 2 with twl := { live.twl with ready' := some ⟨5, [], true, 0⟩ } }
     s.twl.ready' = some ⟨5, [], true, 0⟩ ∧ s.standby = true ∧ s.flag F.TWL_STATUS_PLAN_OK = false ∧
     (s.setFld F.TWL_STATUS_PLAN_OK 1).flag F.TWL_STATUS_PLAN_OK = true) ∧ live.twl.ready' = none ∧ ((twin 1).primary = true ∧ (twin 1).twl.peer = none) ∧
    (let f := twlFrame 6 [2, 0, 0, 0, 9, 0, 0, 0]
     let s := flds (twin 2) [(F.TWL_STATUS_READY, 1)]
     twlTakes s f 6 ∧ s.standby = true ∧ s.flag F.TWL_STATUS_READY = true ∧ f.payload.length = 8 ∧ f.pay 0 1 = 2) ∧
    (let f := twlFrame 6 [3, 0, 0, 0, 9, 0, 0, 0]
     let s := { twin 1 with twl := { live.twl with handover := some 9 } }
     twlTakes s f 6 ∧ s.primary = true ∧ f.payload.length = 8 ∧ f.pay 0 1 = 3 ∧ s.twl.handover = some (f.pay 4 4)) ∧
    live.listens 23 = false ∧
    (let s := flds { twin 2 with plan := some { links := [(23, { en := true, redundant := true })] } } [(F.SFL_CTRL_EN 23, 1)]
     s.listens 23 = true ∧ blockOk (block 7 0x10) = true ∧ (block 7 0x10).flags.toNat / 16 = s.fld F.TWL_STATUS_PAIR_EPOCH) := by
  and_intros <;> decide

theorem witness_WarmResetCommand :
    (let f := twlFrame 6 [1, 0, 0, 0, 0, 0, 0, 0]
     twlTakes (twin 2) f 6 ∧ f.payload.length = 8 ∧ f.pay 0 1 = 1 ∧ (twin 2).standby = true ∧ twlTakes (twin 1) f 6 ∧ (twin 1).standby = false) ∧
    ((twin 1).accepts R.TWL_CTRL = true ∧ (twin 1).twlUp = true) := by
  and_intros <;> decide

/-! ### Witnesses: events, pins, timers, serial units -/

theorem witness_EventsAndPins :
    ((31 : Fin 256).val < 32 ∧ 32 ≤ (255 : Fin 256).val ∧ mcReady.mc.k.state ≠ .reset) ∧ bestSource live = none ∧ bestSource mcReady = some 255 ∧
    srcActive live 255 = false ∧
    (let s := flds live [(F.EVC_ACT_V_V, 8), (⟨R.EVC_ACT, 24, 8⟩, 255)]
     activeAt s 3 = some (255 : Fin 256).val ∧ ∀ k, k < 4 → k ≠ 3 → activeAt s k ≠ some (255 : Fin 256).val) ∧
    (live.regBit (R.GPIO_IN 2) 15 = false ∧ live.pmu.state = .active ∧ (2 : Fin 3).val ≠ 0 ∧
      edgeOn (flds live [(⟨R.GPIO_IEDGE 2, 30, 2⟩, 1)]) (R.GPIO_IEDGE 2) 15 true = true ∧ edgeOn live (R.GPIO_IEDGE 2) 15 true = false) := by
  and_intros <;> decide

theorem witness_SerialUnitsAndTimers :
    ((live.uart 3).tx.length < 16 ∧ 16 ≤ ((live.setUart 3 { tx := List.replicate 16 0 }).uart 3).tx.length ∧ (live.uart 3).rx = [] ∧
      ((live.setUart 3 { rx := [256] }).uart 3).rx = 256 :: [] ∧ 16 ≤ ((live.setUart 3 { rx := List.replicate 16 0 }).uart 3).rx.length ∧
      ((live.setUart 3 { tx := [5] }).uart 3).tx = 5 :: []) ∧
    ((flds live [(F.UART_CFG_EN 3, 1), (F.UART_CFG_LEN 3, 3)]).flag (F.UART_CFG_EN 3) = true ∧
      (flds live [(F.UART_CFG_EN 3, 1), (F.UART_CFG_LEN 3, 3)]).fld (F.UART_CFG_LEN 3) = 3 ∧ live.dbgHalted = false) ∧
    ((live.spi 1).tx.length < 8 ∧ ((live.setSpi 1 { tx := List.replicate 8 0 }).spi 1).tx.length = 8 ∧
      ((live.setSpi 1 { rx := [7] }).spi 1).rx = 7 :: [] ∧ ((live.setSpi 1 { tx := [7] }).spi 1).tx = 7 :: [] ∧
      (flds live [(F.SPI_CFG_EN 1, 1)]).flag (F.SPI_CFG_EN 1) = true ∧ live.flag (F.SPI_CFG_CSHOLD 1) = false ∧
      (flds live [(F.SPI_CFG_CSHOLD 1, 1)]).flag (F.SPI_CFG_CSHOLD 1) = true) ∧
    (1 ≤ (5 : BitVec 3).toNat ∧ (5 : BitVec 3).toNat ≤ 5 ∧ (live.i2c 1).fifo.length < 8 ∧ 5 < (6 : BitVec 3).toNat ∧
      8 ≤ ((live.setI2c 1 { fifo := List.replicate 8 (1, 0) }).i2c 1).fifo.length ∧ live.flag (F.I2C_CFG_EN 1) = false ∧
      ((live.setI2c 1 { fifo := [(4, 0)] }).i2c 1).fifo = (4, 0) :: [] ∧ (flds live [(F.I2C_CFG_EN 1, 1)]).flag (F.I2C_CFG_EN 1) = true) ∧
    (((live.setTmr 7 { running := true }).tmr 7).running = true ∧
      (flds live [(⟨R.TMR_CNT 7, 0, 32⟩, 0xFFFFFFFF)]).reg (R.TMR_CNT 7) = (flds live [(⟨R.TMR_CNT 7, 0, 32⟩, 0xFFFFFFFF)]).reg (R.TMR_CMP 7) ∧
      live.reg (R.TMR_CNT 7) ≠ live.reg (R.TMR_CMP 7) ∧ live.fld (F.TMR_CTRL_MODE 7) = 0 ∧ (flds live [(F.TMR_CTRL_MODE 7, 1)]).fld (F.TMR_CTRL_MODE 7) = 1 ∧
      (flds live [(F.TMR_CTRL_MODE 7, 2)]).fld (F.TMR_CTRL_MODE 7) = 2) ∧
    (live.flag F.WDT_SYS_CTRL_EN = false ∧ (flds live [(F.WDT_SYS_CTRL_EN, 1)]).flag F.WDT_SYS_CTRL_EN = true ∧ wdtRuns live = false) ∧
    (let s := flds live [(F.WDT_SYS_CTRL_EN, 1), (F.WDT_SYS_CTRL_WINDOW, 1)]
     wdtRuns s = true ∧ s.per.wdtSys.key = none ∧ (0x5A5B : BitVec 16) ≠ 0x5A5A) ∧
    (let s := flds { live with tb := 110000, per := { live.per with wdtSys := { since := 10000, key := some 100000 } } } [(F.WDT_SYS_CTRL_EN, 1), (F.WDT_SYS_CTRL_WINDOW, 1)]
     wdtRuns s = true ∧ s.per.wdtSys.key = some 100000 ∧ s.tb ≤ 100000 + 10000 ∧ s.per.wdtSys.since + s.fld F.WDT_SYS_CTRL_WINDOW * 100000 ≤ s.tb ∧
      100000 + 10000 < s.tb + 1) := by
  and_intros <;> decide

/-! ### Witnesses: debug, trace, registers, memory -/

/-- Debug access is locked at level 0. -/
def locked : State := { live with boot := { live.boot with fuses := { live.boot.fuses with dbgLock := true, secEn := true } } }

theorem witness_DebugAndTrace :
    (debugLevel locked = 0 ∧ debugLevel locked ≠ 2 ∧ debugLevel live ≠ 0 ∧ debugLevel live = 2) ∧ (0x10000002 : Word).toNat % 4 ≠ 0 ∧
    ((0x101FFFFC : Word).toNat % 4 = 0 ∧ (fabRead live .dbg 0 (0x101FFFFC : Word).toNat 4 .error).1 = .ok [0, 0, 0, 0] ∧
      (fabWrite live .dbg 0 (0x101FFFFC : Word).toNat (leBytes 4 (5 : Word).toNat)).1 = .ok []) ∧
    (live.dbg.extest = none ∧ live.boot.challenge = none ∧ { live with ent := { live.ent with first := false } }.entFailed = true) ∧
    live.reg (R.DBG_STR_OUT 7) = 0 ∧
    (let s := flds live [(F.DBG_STR_OUT_HALT 7, 4)]
     s.fld (F.DBG_STR_OUT_HALT 7) = 4 ∧ s.flag (F.DBG_STR_OUT_TSTOP 7) = false ∧ s.flag (F.DBG_STR_OUT_TSTART 7) = false ∧
      s.flag (F.DBG_STR_OUT_THALT 7) = false) ∧ (flds locked [(F.DBG_STR_OUT_HALT 7, 4)]).reg (R.DBG_STR_OUT 7) = 4 ∧
    (live.dbgHalted = false ∧ (flds live [(F.DBG_HALT_STAT_HALTED, 1)]).dbgHalted = true ∧ { live.mc.k with halted := true }.halted = true) ∧
    cmpSel (flds live [(F.DBG_CMP_SEL_CPU, 64), (F.DBG_CMP_SEL_CMP, 7)]) = some (.mc, 7) ∧
    cmpSel (flds live [(F.DBG_CMP_SEL_CPU, 63), (F.DBG_CMP_SEL_CMP, 4)]) = none ∧
    cmpSel (flds live [(F.DBG_CMP_SEL_CPU, 65), (F.DBG_CMP_SEL_CMP, 1)]) = some (.sp, 1) ∧
    ((flds live [(F.TRC_CTRL_EN, 1)]).flag F.TRC_CTRL_EN = true ∧ live.flag F.TRC_CTRL_EN = false ∧ trcOn live 4 = false) ∧
    ({ live.trc with atEnd := true }.atEnd = true ∧ live.trc.atEnd = false ∧ live.flag F.TRC_CTRL_FSEN = false) := by
  and_intros <;> decide

theorem witness_RegisterWrites :
    (inPeriphery (0x3FFFFFFC : Word).toNat = false ∧ (0x40000001 : Word).toNat % 4 ≠ 0) ∧ (inPeriphery (0x40038FFC : Word).toNat = true) ∧
    (0x10000 ≤ (0x10000 : Word).toNat) ∧ ((0xFFFC : Word).toNat % 4 = 0 ∧ (0xFFFC : Word).toNat < 0x10000 ∧ asleep live R.HIF_CTRL = none ∧ hifUp live = true) ∧
    (live.wrapped 0x4000D054 = false ∧ asleep live 0x4000D054 = none) ∧ live.flag F.SYS_BERR_INFO_VALID = false := by
  and_intros <;> decide

theorem witness_MemoryKeepsForm :
    (let s := (buffered 0x30000000).withPending [.storeResponse (.le 0) 0]
     s.memOk ∧ ∃ t, step s = .next t ∧ t.mem ≠ s.mem) := by
  refine ⟨by unfold State.memOk; decide, _, rfl, by decide⟩

theorem witness_LinkTimes :
    (let s := linkAt 4 { state := 3, delay := 65535 }
     31 ∈ s.stnList 23 ∧ s.stnRun 23 31 = true) ∧ (∀ st ∈ (linkAt 4 {}).stnList 23, (linkAt 4 {}).stnRun 23 st = false) := by
  and_intros <;> decide

/-! ### Witnesses: one for each further clause -/

/-- Engine 0 with two buffered stores to one target block. -/
def twoStores : State :=
  (kern {}).updK (.le 0) (fun k => { k with
    buf := [⟨0x30000000, 4, 7, 0, .plain, 0, 0, none, false⟩, ⟨0x303FFFFC, 4, 8, 0, .plain, 0, 0, none, false⟩] })

/-- The MC with one buffered store. -/
def mcStore (b : StoreEntry) : State := live.updK .mc (fun k => { k with buf := [b] })

/-- A store of the MC's kernel to the last word of the MGS. -/
def mgsStore : StoreEntry := ⟨0x101FFFFC, 4, 7, 0, .plain, 0, 0, none, false⟩

/-- A store of the MC's kernel to the value of slot 65535. -/
def sigStore : StoreEntry := ⟨0x2007FFF8, 4, 7, 0, .sig 0, 0, 0, none, false⟩

theorem witness_StoreResponses_order :
    ((twoStores.cpu (.le 0)).k.buf[(1 : Fin 4).val]? = some ⟨0x303FFFFC, 4, 8, 0, .plain, 0, 0, none, false⟩ ∧
      (twoStores.cpu (.le 0)).k.buf[0]? = some ⟨0x30000000, 4, 7, 0, .plain, 0, 0, none, false⟩ ∧
      targetBlock twoStores ⟨0x30000000, 4, 7, 0, .plain, 0, 0, none, false⟩ =
        targetBlock twoStores ⟨0x303FFFFC, 4, 8, 0, .plain, 0, 0, none, false⟩) ∧
    (let s := mcStore mgsStore
     s.mc.k.buf[(0 : Fin 4).val]? = some mgsStore ∧ mayAnswer s s.mc.k.buf 0 = true ∧ s.mc.k.stall = none ∧
      regionFor mgsStore.addr mgsStore.size = some .mgs ∧ initMay s (.cpu .mc true) .mgs true = true ∧
      regionMay s (.cpu .mc true) 0 .mgs true mgsStore.addr mgsStore.size = true ∧ s.held.contains (.store .mc mgsStore) = false ∧
      busyAt s .mgs mgsStore.addr = none ∧ s.ecc1 = [] ∧ s.ecc2 = []) ∧
    (let s := mcStore sigStore
     s.mc.k.buf[(0 : Fin 4).val]? = some sigStore ∧ mayAnswer s s.mc.k.buf 0 = true ∧ s.mc.k.stall = none ∧
      (sigStore.addr - 0x20000000) / 8 = 65535 ∧ (s.thePlan.bind 65535).kind = 0 ∧ (s.thePlan.bind 65535).owner = 0) := by
  and_intros <;> decide

theorem witness_StoreResponses_passage :
    passage (mcStore mgsStore) mgsStore.addr = (none, mcStore mgsStore) ∧
    passage (mcStore sigStore) (0x20000000 + 8 * 65535) = (none, mcStore sigStore) ∧
    (∀ n, staleStore (mcStore sigStore) sigStore n = false) ∧ lateStore (mcStore sigStore) none sigStore = false := by
  refine ⟨?_, ?_, fun _ => rfl, rfl⟩ <;> (unfold passage; rw [if_neg (by decide)]; rfl)

theorem witness_CycleEvents_mark :
    (let s := flds { inCyc with cyc := { inCyc.cyc with block := some (block 65535 1) } } [(F.CYC_SAMPLE_OFS_US, 1)]
     s.cyc.block = some (block 65535 1) ∧ s.cycling = true ∧ s.standby = false ∧ s.fld F.CYC_SAMPLE_OFS_US ≠ 0) ∧ live.cyc.block = none := by
  and_intros <;> decide

theorem witness_RingEngine_waits :
    (let c := cmd 63 0x14 0 0 0
     let s := withCmd c
     findCmd s 1 = some c ∧ c.mute = false ∧ ringRoom s c.part 4 = false) ∧
    (let s := flds (ringOn 4) [(F.HIF_RIDX_IDX 63 4, 15)]
     let c := cmd 63 0 0 0 0
     findCmd { s with hif := { s.hif with rings := [(63 * 8 + 4, { hostIdx := 1 })] } } 1 = some c ∧
      cplOpen { s with hif := { s.hif with rings := [(63 * 8 + 4, { hostIdx := 1 })] } } c) := by
  and_intros <;> decide

theorem witness_InboundFrames_other :
    (let f := { frame 2 0 0 31 9 0 0 [0, 0, 0, 0, 1, 2, 3, 4, 0, 0] 23 31 with cycle := 0 }
     let s (n : Nat) := (linkAt 4 { state := 3, epoch := 9, seen := true }).setReg R.CYC_CYCNUM (word n)
     frameRes (s 1) 23 f = .ok ∧ frameAge (s 1) f = 1 ∧ frameAge (s 32767) f = 32767 ∧ frameAge (s 32768) f = 32768) ∧
    (let f := frame 2 4 0 31 9 0 0 [0, 0, 0, 0] 23 31
     let s := linkAt 4 { state := 3, epoch := 9, seen := true }
     frameRes s 23 f = .ok ∧ f.cycle.toNat = cycle16 s ∧ f.flags.toNat.testBit 2 = true ∧ s.cyc.cutoff = false) ∧
    (let f := frame 5 0 0 31 9 2 0 (0x84 :: List.replicate 11 0) 0xFF 31
     (linkAt 0 { state := 4, epoch := 9 }).linkState 23 = 0 ∧ (linkAt 5 {}).linkState 23 = 5 ∧
      frameRes (linkAt 0 { state := 4, epoch := 9 }) 23 f = .ok ∧ f.fault = false ∧ f.tooLong = false) ∧
    ({ fr 0 0 with payload := List.replicate 1027 0 }.tooLong = true ∧ { fr 0 0 with payload := List.replicate 1026 0 }.tooLong = false) := by
  and_intros <;> decide

theorem witness_StationAdmission_other :
    (let s := linkAt 2 { state := 2, step := 1, idWait := true }
     (s.stn 23 31).state = 2 ∧ (s.stn 23 31).idWait = true) ∧
    (let s := linkAt 4 { state := 2, step := 3, dWait := true }
     (s.stn 23 31).dWait = true ∧ exchangeMay s 23 31 = true ∧ exchangeMay { s with cyc := { s.cyc with inCycle := true } } 23 31 = false) ∧
    (let s := linkAt 2 { state := 2, step := 1 }
     (s.stn 23 31).idWait = false ∧ (s.stn 23 31).dWait = false ∧ s.linkState 23 = 2 ∧ (s.stn 23 31).step = 1) ∧
    8 ≤ ((live.setLnk 23 { idCyc := 8 }).lnk 23).idCyc := by
  and_intros <;> decide

theorem witness_LinkStates_other :
    (let s := linkAt 2 { state := 2, idWait := true }
     s.linkState 23 = 2 ∧ 31 ∈ s.stnList 23 ∧ (s.stn 23 31).idWait = true) ∧
    (let s := linkAt 2 { state := 2 }
     s.linkState 23 = 2 ∧ ∀ st ∈ s.stnList 23, (s.stn 23 st).idWait = false) ∧
    ((linkAt 4 {}).linkState 23 ≠ 0 ∧ (linkAt 4 {}).linkState 23 ≠ 5) ∧ (linkAt 0 {}).linkState 23 = 0 := by
  and_intros <;> decide

/-- A far-end test of link 23 with its checker in step or not. -/
def checking (sync : Nat) (run : Nat) (bad : Nat) : State :=
  flds ((linkAt 5 {}).setLnk 23 { testLoop := 1, patRun := run, patWin := List.replicate bad true }) [(F.SFL_PAT_STATUS_SYNC 23, sync)]

theorem witness_LinkRegisters_checker :
    ((checking 0 63 0).flag (F.SFL_PAT_STATUS_SYNC 23) = false ∧ 63 ≤ ((checking 0 63 0).lnk 23).patRun) ∧
    (((checking 0 62 0).lnk 23).patRun < 63 ∧ ((checking 0 62 0).lnk 23).testLoop ≠ 0) ∧
    ((checking 1 0 15).flag (F.SFL_PAT_STATUS_SYNC 23) = true ∧
      15 ≤ ((((checking 1 0 15).lnk 23).patWin.take 255).filter id).length) ∧
    ((((checking 1 0 14).lnk 23).patWin.take 255).filter id).length < 15 := by
  and_intros <;> decide

theorem witness_StationUnits_other :
    (let u := (unitAt (known .loop)).unit 23 31
     u.state = .loop ∧ u.state ≠ .start) ∧
    ({ block 7 0 with fault := true }.fault = true ∧ ((unitAt (known .wait)).unit 23 31).state ≠ .start) ∧
    (let f := toUnit 7 2 [1, 0, 0, 0, 0x60, 0xEA, 0, 0]
     consume (known .admitted) 31 f false = .yes 23 ∧ testFits f = true ∧
      testFits (toUnit 7 2 [2, 0, 0, 0, 1, 0, 0, 0]) = true ∧ consume (known .loop) 31 (toUnit 7 2 [2, 0, 0, 0, 1, 0, 0, 0]) false = .yes 23) ∧
    (let u := (unitAt { known .admitted with twoSocs := true }).unit 23 31
     u.state = .admitted ∧ u.redundant = true ∧ u.twoSocs = true) ∧
    (0 : Fin 32).val = 0 ∧ (known .held).state = .held := by
  and_intros <;> decide

theorem witness_Storage_seal :
    (let s := flds live [(F.NVR_STATUS_SAVING, 1)]
     s.saving = true ∧ allDrained s = true ∧ s.rst.after = none) ∧
    (let s := (flds live [(F.NVR_STATUS_SAVING, 1)]).updK (.le 63) (fun k => { k with buf := [mgsStore] })
     s.saving = true ∧ allDrained s = false) := by
  and_intros <;> decide

/-- Domain 7 is on its way off or on. -/
def switching (off on : List Nat) : State := { live with pmu := { live.pmu with goingOff := off, comingOn := on } }

theorem witness_Power_accesses :
    (offReady (switching [7] []) 7 = true ∧ offReady live 7 = false ∧ has (switching [] [7]).pmu.comingOn 7 = true) ∧
    (let s := (switching [3] []).updK (.le 63) (fun k => { k with buf := [mgsStore] })
     s.pmu.entering = false ∧ has s.pmu.goingOff 3 = true ∧ offReady s 3 = false) ∧
    (let h : HeldAcc := .reg .mc 0 false R.NVR_JLEN 5
     { switching [] [7] with held := [h] }.held = [h] ∧ domainOf h.addr = some 7) ∧
    (let s := flds live [(F.PMU_DOM_STAT_PWR, 0)]
     s.wrapped R.NVR_JLEN = false ∧ asleep s R.NVR_JLEN = some 7 ∧ domLocked s 7 = false ∧
      domLocked (flds s [(F.PMU_DOM_CTRL_LOCK, 128)]) 7 = true) := by
  and_intros <;> decide

theorem witness_DebugAndTrace_port :
    (selectTap live 8).dbg.dpStatus ≠ 1 ∧
    (let s := flds live [(F.PMU_DOM_STAT_PWR, 0)]
     (R.NVR_JLEN : Nat) % 4 = 0 ∧ (fabWrite s .dbg 0 R.NVR_JLEN (leBytes 4 5)).1 = .held) ∧
    (live.dbg.tap = 0x1F ∨ (selectTap live 0x1F).dbg.tap = 0x1F) := by
  and_intros <;> decide

theorem witness_RegisterWrites_host :
    hifUp live = true ∧
    (hostFits ⟨.bar0, 4, true⟩ 0xFFFC = true ∧ hostFits ⟨.bar0, 4, false⟩ 0xFFFE = false ∧ hostFits ⟨.bar2, 8, false⟩ 0 = false) ∧
    (hostFits ⟨.bar0, 4, false⟩ 0x10000 = true ∧ hostFits ⟨.bar2, 4, false⟩ 0x3F004 = true ∧ 0x3F004 % 0x1000 ≠ 0) ∧
    (hostFits ⟨.bar4, 4, false⟩ 2072 = true ∧ 2072 < 16 * 130 ∧ 2072 % 16 = 8) ∧ (3 : Word).toNat % 4 = 3 ∧
    (let s := flds live [(F.PMU_DOM_STAT_PWR, 0)]
     inPeriphery R.NVR_JLEN = true ∧ (fabWrite s (.cpu .mc true) 0 R.NVR_JLEN (leBytes 4 5)).1 = .held ∧
      (fabWrite live (.cpu .mc true) 0 R.NVR_JLEN (leBytes 4 5)).1 ≠ .held) := by
  and_intros <;> decide

/-! ### Witnesses: clauses on waits, interlocks and retries -/

/-- Every domain is off. -/
def allOff (s : State) : State := flds s [(F.PMU_DOM_STAT_PWR, 0)]

theorem witness_fetchClean : fetchClean (kern {}) (.le 0) ∧ fetchClean inTask (.le 0) := by
  refine ⟨fun _ _ => ?_, fun _ _ => ?_⟩ <;> rfl

theorem witness_GurnoTransfers_yield :
    let s := { kern {} with ecc2 := [limBase 0 + 4] }
    mayRun s .yield (at0 (en 0 0x10000 0)) ∧ ((s.cpu (.le 0)).r.pc + 4).toNat < 0x8000 ∧
      has s.ecc2 (limBase 0 + ((s.cpu (.le 0)).r.pc + 4).toNat) = true := by
  and_intros <;> first | decide | (unfold noCmp; decide)

theorem witness_StoreResponses_held :
    let b : StoreEntry := ⟨0x30000000, 4, 7, 0, .plain, 0, 0, none, false⟩
    let s := { buffered 0x30000000 with held := [.store (.le 0) b] }
    s.held.contains (.store (.le 0) b) = true ∧ (buffered 0x30000000).held.contains (.store (.le 0) b) = false ∧
      (held .ld (en 6 5 0)).held.contains (.load (.le 0) (0x20000000 + 8 * 5)) = false ∧
      (s.cpu (.le 0)).k.buf[(0 : Fin 4).val]? = some b ∧ mayAnswer s (s.cpu (.le 0)).k.buf 0 = true := by
  and_intros <;> decide

theorem witness_PredicatesAndInterlocks_clauses :
    (addrX .ld (en 5 0 0) = true ∧ addrY .ld (en 5 0 0) = false ∧ ({ x1 := true } : Pipe).x1 = true ∧ ({ x2 := true } : Pipe).x1 = false ∧
      ({ x2 := true } : Pipe).x2 = true) ∧ (addrX .st (en 1 0 0) = false ∧ addrY .st (en 1 0 0) = false) ∧
    (issues inTask (at0 ⟨false, 3, 1, 0, 0, none⟩) ∧ guardTrue (inTask.cpu (.le 0)).r ⟨false, 3, 1, 0, 0, none⟩ = false ∧ GOp.ld ≠ .br) := by
  and_intros <;> decide

theorem witness_TimingSetsAndCycleStarts_saving :
    (let s := flds inCyc [(F.NVR_STATUS_SAVING, 1)]
     s.cycling = true ∧ s.cyc.cutoff = false ∧ s.standby = false ∧ s.saving = true) ∧ inCyc.saving = false := by
  and_intros <;> decide

theorem witness_PlanCommands_asleep :
    reaches live R.DPR_PLAN_CTRL ∧
    (let c := cmd 0 0x10 0 0 64
     let s := allOff (withCmd c)
     s.wrapped R.DPR_PLAN_CTRL = false ∧ asleep s R.DPR_PLAN_CTRL = some 4 ∧ domLocked s 4 = false ∧ hostRuns s 1 0x10 c) ∧
    reaches (withCmd (cmd 0 0x12 0 0 0)) R.DPR_PLAN_CTRL := by
  and_intros <;> decide

theorem witness_HostSignalCommands_asleep :
    let c := cmd 0 0x01 65535 1 8
    let a := 0x20000000 + 8 * 65535
    (let s := allOff (withCmd c)
     s.wrapped a = false ∧ asleep s a = some 4 ∧ domLocked s 4 = false ∧ hostRuns s 1 0x01 c ∧ slotsReadable s c = true) ∧
    (let s := flds (allOff (withCmd c)) [(F.PMU_DOM_CTRL_LOCK, 16)]
     domLocked s 4 = true ∧ has s.pmu.comingOn 4 = false ∧ asleep s a = some 4 ∧ hostRuns s 1 0x01 c) ∧
    reaches (withCmd (cmd 63 0x14 1 0 0)) R.CYC_MODE_REQ ∧ (live.accepts (R.HIF_BADACC + 4 * (3 : Fin 4).val) = true) := by
  and_intros <;> decide

theorem witness_HostSignalCommands_first :
    reaches (withCmd (cmd 0 0x02 0 0 8))
      (0x20000000 + 8 * ((sigEntries (padTo (([255, 255, 0, 0, 0, 0, 0, 0] : List Byte).take 8) 8)).headD (0, 0, 0)).1) ∧
    reaches (flds (withCmd (cmd 0 0x05 0 1 8)) [(F.HIF_STG_CFG_SNAP, 1)]) (0x20000000 + 8 * 0) := by
  and_intros <;> decide

/-- A command of partition 63 in progress whose completion ring has room. -/
def answering (c : HostCmd) : State :=
  flds { withCmd c with hif := { (withCmd c).hif with rings := [(63 * 8 + 4, { hostIdx := 1 })] } }
    [(F.HIF_RCTRL_ACT 63, 16), (F.HIF_RSIZE_LOG2 63 4, 4), (F.HIF_RBASE_LO_BASE 63 4, 64), (F.HIF_CTRL_READY, 1), (F.HIF_RIDX_IDX 63 4, 15),
     (F.ENT_STATUS_STATE, 1)]

theorem witness_HostDeviceCommands_entropy :
    (let c := cmd 63 0x42 0 0 256
     let s := flds (withCmd c) [(F.ENT_STATUS_STATE, 1)]
     hostRuns s 1 0x42 c ∧ s.entReady = true ∧ s.entFailed = false ∧ s.ent.waiting = [] ∧ winOk s c.part true c.addr c.len = true ∧
      s.ent.served < 1023 ∧ (live.ent.waiting.contains (.random 1)) = false) ∧
    (let c := cmd 0 0x76 2 0 32
     let s := flds (withCmd c) [(F.ENT_STATUS_STATE, 1)]
     fwRuns s 1 0x76 c ∧ s.entReady = true ∧ s.entFailed = false ∧ s.ent.waiting = [] ∧ winOk s c.part true c.addr 32 = true) ∧
    (let c := cmd 0 0x76 2 0 32
     let s := withCmd c
     fwRuns s 1 0x76 c ∧ s.entReady = false ∧ s.entFailed = false ∧ s.ent.waiting.contains (.challenge c.serial) = false) ∧
    (let c := cmd 63 0x42 0 0 256
     hostRuns (answering c) 1 0x42 c ∧ cplOpen (answering c) c) := by
  and_intros <;> decide

theorem witness_HostDeviceCommands_nv :
    (let c := cmd 63 0x31 0 0 3840
     let s := flds { withCmd c with nvAreas := [(63, 0, 0, 3840)] } [(F.NVR_STATUS_READY, 1)]
     reaches s (poolBase + (nvArea s c.part).1 + c.a0) ∧ nvUp s = true ∧ nvUp live = false ∧ regionLocked s 2 = false) ∧
    asleep live (R.SFL_CTRL 0) = none ∧ (withCmd (cmd 0 0x74 1 0 0)).flag F.SPM_BOOT_STAT_RAGDOLL = false ∧
    runningSlot (flds (withCmd (cmd 0 0x74 1 0 0)) [(F.SPM_BOOT_STAT_SLOT, 1)]) = 1 := by
  and_intros <;> decide

/-- Link 23 of a standby listens. -/
def listening : State :=
  flds { twin 2 with plan := some { links := [(23, { en := true, redundant := true })] } } [(F.SFL_CTRL_EN 23, 1)]

theorem witness_InboundFrames_report :
    (listening.listens 23 = true ∧ isReport listening 23 (frame 2 2 0 31 9 0 0 [0, 0, 0, 0] 23 31) = true ∧
      isReport listening 23 (frame 2 0 0 31 9 0 0 [0, 0, 0, 0] 23 31) = false) := by
  and_intros <;> decide

/-- Link 23 in RUN or ADMIT, in a cycle before its input cutoff. -/
def before (k : Nat) (y : Stn) : State := { linkAt k y with cyc := { live.cyc with inCycle := true } }

theorem witness_StationAdmission_spans :
    (freeSpan (linkAt 4 {}) 23 = true ∧ freeSpan (before 4 {}) 23 = false ∧ ((before 4 {}).lnk 23).due.contains (.hold 31) = false) ∧
    ((before 4 {}).cyc.inCycle = true ∧ (before 4 {}).linkState 23 = 4) ∧
    (((linkAt 3 {}).setLnk 23 { due := [.admission 31] }).lnk 23).due.contains (.admission 31) = true ∧
    (let s := (before 2 {}).setLnk 23 { idCyc := 8 }
     8 ≤ (s.lnk 23).idCyc ∧ s.linkState 23 = 2 ∧ s.cyc.inCycle = true) ∧
    (let s := linkAt 4 { state := 2, step := 3 }
     s.linkState 23 = 4 ∧ freeSpan s 23 = true ∧ exchanging s 23 = true ∧ exchanging (linkAt 4 {}) 23 = false) := by
  and_intros <;> decide

theorem witness_BlockMoverAndChecks_closed :
    (let s := moving.setCh 15 { ending := some (St.busError, 1) }
     snapClosed s ((s.reg (R.BMV_CH_DESC 15)).toNat + 0x18) 8 = false) ∧ live.flag F.SYS_BERR_INFO_VALID = false := by
  and_intros <;> decide

theorem witness_Storage_faults :
    (let q : JReq := ⟨.firmware 0x10000000 4, 0x50000000⟩
     let s := { armed with ecc2 := [0x10000000], nvr := { armed.nvr with queue := [q] } }
     s.nvr.queue = q :: [] ∧ jFault s q = some 0x10000000 ∧ jFault armed ⟨.key 7 true 5, 0⟩ = none) ∧
    (let s := flds { armed with rst := { armed.rst with after := some ⟨64, 4⟩ } } [(F.NVR_STATUS_SAVING, 1)]
     s.saving = true ∧ allDrained s = true ∧ s.rst.after = some ⟨64, 4⟩) ∧
    (let s := { live with pfl := { live.pfl with op := some (.program 0xFF000 1 2), suspended := some 254, resuming := true } }
     s.pfl.op = some (.program 0xFF000 1 2) ∧ s.pfl.suspended = some 254 ∧ s.pfl.resuming = true) ∧
    ({ live with pfl := { live.pfl with op := some (.erase 255) } } : State).pfl.suspended = none := by
  and_intros <;> decide

theorem witness_Resets_clocks :
    ({ live with pmu := { live.pmu with state := .backup } } : State).pmu.state = .backup ∧
    (let s := { live with rst := { live.rst with fresh := some ⟨live.tb, 16, 3, 0, 0⟩ } }
     s.pmu.state ≠ .backup ∧ freshReset s = some ⟨live.tb, 16, 3, 0, 0⟩ ∧ (2 ≤ 3 ∧ 3 ≤ 3)) ∧ freshReset live = none ∧
    (∀ l, l < 24 → fedLink live l = false) ∧
    (let s := flds live [(F.RST_LAST_SCOPE, 3), (F.RST_SEQ_STEP, 3)]
     warmStart s = true ∧ s.fld F.RST_SEQ_STEP = 3) ∧ warmStart (flds live [(F.RST_LAST_SCOPE, 2)]) = false := by
  and_intros <;> decide

theorem witness_Resets_units : ∀ l, fedLink live l = false := fun l => by
  have h : live.thePlan.link l = {} := rfl
  unfold fedLink
  rw [h]
  decide

set_option exponentiation.threshold 1024 in
theorem witness_BootAndEntropy_tests :
    (live.boot.wdt = .off ∧ live.flag F.WDT_SP_CTRL_EN = false) ∧
    ({ live.rst with timeout := some 0 }.timeout = some 0 ∧ { live.rst with timeout := some 1 }.timeout = some 1) ∧
    (let s := { live with ent := { live.ent with run := 1, last := false } }
     0 < s.ent.run ∧ ∀ i, i < 41 → (0 : BitVec 512).getLsbD i = s.ent.last) ∧ live.ent.run ≤ 1 := by
  and_intros <;> decide

/-- The window of alternating bits. -/
def alternating : BitVec 512 := 0x55555555555555555555555555555555555555555555555555555555555555555555555555555555555555555555555555555555555555555555555555555555

set_option maxRecDepth 100000 in
set_option exponentiation.threshold 1024 in
theorem witness_BootAndEntropy_window :
    (∀ i, i < 511 → alternating.getLsbD i ≠ alternating.getLsbD (i + 1)) ∧
    (rawTests live alternating alternating).rct = false ∧ (rawTests live alternating alternating).apt = false ∧ (rawTests live 0 0).rct = true := by
  and_intros <;> decide

theorem witness_BootAndEntropy_requests :
    (let s := flds live [(F.ENT_STATUS_STATE, 1)]
     s.fld F.ENT_STATUS_STATE = 1 ∧ s.ent.served < 1024 ∧ s.ent.waiting = [] ∧ s.ent.cond = none) ∧
    1024 ≤ (flds { live with ent := { live.ent with served := 1024 } } [(F.ENT_STATUS_STATE, 1)]).ent.served := by
  and_intros <;> decide

theorem witness_Clocks_steer :
    (flds live [(F.CKG_TRIM_CTRL_SRC, 3)]).fld F.CKG_TRIM_CTRL_SRC ≠ 1 ∧ R.CKG_STATUS ≠ R.CKG_TB_CORR := by and_intros <;> decide

theorem witness_Power_switches :
    (has live.pmu.wanted 7 = false ∧ has { live.pmu with wanted := [7] }.wanted 7 = true) ∧
    (let s := { live with pmu := { live.pmu with entering := true } }
     s.pmu.entering = true ∧ s.pmu.goingOff = [] ∧ s.pmu.comingOn = [] ∧ stbyOrder.find? s.powered = some 6 ∧ stbyAsked s = false) ∧
    (let s := { allOff live with pmu := { live.pmu with entering := true } }
     stbyAsked s = true ∧ s.pmu.step = none ∧ s.pmu.acked = false) ∧
    (let s := { allOff live with pmu := { live.pmu with entering := true, step := some 810, acked := true, repeated := true } }
     stbyAsked s = true ∧ s.pmu.step.isSome = true ∧ s.pmu.acked = true ∧ s.pmu.repeated = true) ∧
    (let s := flds { live with pmu := { live.pmu with comingOn := [0] } } [(F.PMU_DOM_STAT_PWR, 0), (F.PMU_DOM_CTRL_LOCK, 1)]
     domLocked s 0 = true ∧ has s.pmu.comingOn 0 = true) ∧ (flds live [(F.PMU_AVS_CFG_PEC, 0)]).flag F.PMU_AVS_CFG_PEC = false ∧
    within 0x38000000 trcBase trcSize = false := by
  and_intros <;> decide

theorem witness_Ageing_probes :
    (let s := flds { live with cyc := { live.cyc with house := true } } [(F.AGM_CTRL_PROBE_EN, 1)]
     (s.flag F.AGM_CTRL_EN && s.flag F.AGM_CTRL_PROBE_EN && s.powered 3 && (s.cyc.house && !has s.agm.probed 3 || clusterQuiet s 3)) = true ∧
      s.cyc.house = true) ∧ (allOff live).powered 3 = false := by
  and_intros <;> decide

theorem witness_TwinLink_heartbeat :
    (inCyc.cyc.inCycle = true ∧ inCyc.cycHalted = false) ∧ ((twin 0).cyc.inCycle = false ∧ (twin 0).twlUp = true) := by
  and_intros <;> decide

theorem witness_SerialUnitsAndTimers_modes :
    (flds live [(F.TMR_CTRL_MODE 7, 3)]).fld (F.TMR_CTRL_MODE 7) = 3 ∧
    (let s := (flds live [(F.SPI_CFG_EN 1, 1), (F.SPI_CFG_CSHOLD 1, 1)]).setSpi 1 { tx := [7], cs := some 2 }
     (s.spi 1).tx = 7 :: [] ∧ s.flag (F.SPI_CFG_CSHOLD 1) = true) := by
  and_intros <;> decide

theorem witness_DebugAndTrace_cells :
    (debugLevel live = 2 ∧ { live.dbg with extest := some 0 }.extest.isSome = true) ∧
    ([1, 2] : List Byte) ≠ [] ∧ ({ live with dbg := { live.dbg with tap := 0x1F } } : State).dbg.tap = 0x1F := by
  and_intros <;> decide

theorem witness_RegisterWrites_config :
    (⟨.cfg .header, 4, true⟩ : HostAcc).space = .cfg .header ∧ hifUp live = true ∧ writerPart live .dbg = 0 ∧ hifUp (allOff live) = false := by
  and_intros <;> decide

/-! ### Witnesses: debug's halt of the periphery -/

/-- Debug halts the periphery. -/
def stopped : State := flds live [(F.DBG_HALT_STAT_HALTED, 1)]

theorem witness_debugHalt :
    (stopped.dbgHalted = true ∧ stopped.cycHalted = true ∧ live.dbgHalted = false ∧ live.cycHalted = false) ∧
    ((linkAt 4 { state := 4, retry := true }).dbgHalted = false ∧ (linkAt 1 {}).dbgHalted = false ∧ (mayUp 0).dbgHalted = false ∧
      (linkAt 5 {}).dbgHalted = false) ∧
    ((twin 0).dbgHalted = false ∧ (twin 1).dbgHalted = false ∧ (twin 2).dbgHalted = false ∧
      (flds (twin 2) [(F.CYC_CTRL_EN, 1)]).cycHalted = false) ∧
    exchangeMay { linkAt 4 {} with regs := stopped.regs } 23 31 = false := by
  and_intros <;> decide

/-- WDT_SYS runs with its reset PERIOD of 1,000 ms, since TB 0. -/
def watched (tb : Nat) : State := flds { live with tb := tb, per := { live.per with wdtSys := {} } } [(F.WDT_SYS_CTRL_EN, 1)]

theorem witness_SerialUnitsAndTimers_late :
    (wdtRuns (watched 100000000) = true ∧
      (watched 100000000).per.wdtSys.since + (watched 100000000).fld F.WDT_SYS_CTRL_PERIOD * 100000 ≤ (watched 100000000).tb) ∧
    (wdtRuns (watched 99999999) = true ∧ (watched 99999999).per.wdtSys.key = none ∧
      ¬ (watched 99999999).per.wdtSys.since + (watched 99999999).fld F.WDT_SYS_CTRL_PERIOD * 100000 ≤ (watched 99999999).tb) := by
  and_intros <;> decide

end Sys2Proof.Tests
end

section
/-! The timebase and the queue across the events of one idle count (log entry 1): no operation that the RTC, the timers, the pulse
on CYC_OUT or the trace funnel perform changes either of them. -/

namespace Sys2Proof.Machine

/-- The timebase with the queue of commands: what an idle step is about. -/
def State.clock (s : State) : Nat × List Instr := (s.tb, s.pending)

/-! ### Shared operations -/

theorem State.onlyRegs.clock_eq {s t : State} (h : s.onlyRegs t) : t.clock = s.clock := by
  obtain ⟨r, rfl⟩ := h; rfl

theorem State.onlyRegsTrace.clock_eq {s t : State} (h : s.onlyRegsTrace t) : t.clock = s.clock := by
  obtain ⟨r, x, rfl⟩ := h; rfl

@[simp] theorem clock_setReg (s : State) (a : Nat) (v : Word) : (s.setReg a v).clock = s.clock := rfl
@[simp] theorem clock_setFld (s : State) (f : Fld) (v : Nat) : (s.setFld f v).clock = s.clock := rfl
@[simp] theorem clock_setCpu (s : State) (p : ProcId) (c : Cpu) : (s.setCpu p c).clock = s.clock := by cases p <;> rfl

theorem clock_eachNat (f : State → Nat → State) (h : ∀ t k, (f t k).clock = t.clock) (s : State) (l : List Nat) :
    (eachNat f s l).clock = s.clock := by
  induction l generalizing s with
  | nil => rfl
  | cons k l ih => exact (ih (f s k)).trans (h s k)

/-! ### Trace (R540 to R543) -/

@[simp] theorem clock_trcByte (s : State) (b : Byte) : (trcByte s b).clock = s.clock := by
  unfold trcByte
  split
  · dsimp only; split <;> rfl
  · rfl

@[simp] theorem clock_trcBytes (s : State) (l : List Byte) : (trcBytes s l).clock = s.clock := by
  induction l generalizing s with
  | nil => rfl
  | cons b l ih => rw [trcBytes, ih, clock_trcByte]

@[simp] theorem clock_trcTimes (s : State) (n : Nat) : (trcTimes s n).clock = s.clock := by
  induction n with
  | zero => rfl
  | succ n ih =>
    unfold trcTimes; dsimp only
    split
    · exact (clock_trcBytes _ _).trans ih
    · exact ih

@[simp] theorem clock_trcSync (s : State) : (trcSync s).clock = s.clock :=
  (clock_trcTimes _ 8).trans (clock_trcBytes s pktSync)

@[simp] theorem clock_trcServe (s : State) : (trcServe s).clock = s.clock := by
  unfold trcServe
  split
  · rfl
  · split
    · rfl
    · split
      · rfl
      · next src _ _ pkt l _ =>
        dsimp only
        split
        · exact (clock_trcSync _).trans (clock_trcBytes (setFifo s src l) pkt)
        · exact clock_trcBytes (setFifo s src l) pkt

@[simp] theorem clock_trcUp (s : State) (src : Nat) : (trcUp s src).clock = s.clock :=
  (trcEmit_only s src _).clock_eq

/-! ### Timers, watchdogs and the pulse on CYC_OUT (R77, R528, R529) -/

@[simp] theorem clock_tmrCount (s : State) (t : Nat) : (tmrCount s t).clock = s.clock := by
  unfold tmrCount; split <;> rfl

@[simp] theorem clock_tickPer (s : State) : (tickPer s).clock = s.clock :=
  clock_eachNat _ (fun t k => by split <;> simp) s _

@[simp] theorem clock_tickWdtSp (s : State) : (tickWdtSp s).clock = s.clock := by
  unfold tickWdtSp; dsimp only
  split
  · rfl
  · split
    · exact (aonEvent_only _ 18).clock_eq.trans (clock_setFld s _ _)
    · rfl

@[simp] theorem clock_tickTimers (s : State) : (tickTimers s).clock = s.clock := by
  have hcount : ∀ t k, (if State.fld t (F.TMR_CTRL_SRC k) = 1 then tmrCount t k else t).clock = t.clock := by
    intro t k; split <;> simp
  unfold tickTimers; dsimp only
  split
  · exact clock_tickWdtSp s
  · split <;> simp [clock_eachNat _ hcount]

@[simp] theorem clock_cycOutTick (s : State) : (cycOutTick s).clock = s.clock := by
  unfold cycOutTick; split <;> rfl

/-! ### The exit from STANDBY (R450) -/

@[simp] theorem clock_keepFields (s t : State) (scope : Nat) : (keepFields s t scope).clock = t.clock := by
  unfold keepFields
  split
  · rw [clock_setFld, clock_setFld]
  · split
    · exact List.foldlRecOn _ _ (motive := fun u : State => u.clock = t.clock) rfl
        (fun u hu e _ => (clock_setFld u _ _).trans hu)
    · rfl

@[simp] theorem clock_scopeClear (s : State) (scope : Nat) (exit : Bool) : (scopeClear s scope exit).clock = s.clock :=
  clock_keepFields s _ scope

@[simp] theorem clock_releaseCpu (s : State) (p : ProcId) (pc : Nat) : (releaseCpu s p pc).clock = s.clock :=
  clock_setCpu s p _

@[simp] theorem clock_stepAction (s : State) (k : Nat) : (stepAction s k).clock = s.clock := by
  unfold stepAction
  split
  · dsimp only; split <;> simp
  · rfl

@[simp] theorem clock_beginStep (s : State) (k : Nat) : (beginStep s k).clock = s.clock := by
  unfold beginStep; dsimp only; split <;> simp

@[simp] theorem clock_bringUp (s : State) (scope : Nat) : (bringUp s scope).clock = s.clock := by
  unfold bringUp; dsimp only; split <;> simp

@[simp] theorem clock_allPowered (s : State) : (allPowered s).clock = s.clock := by
  rw [allPowered, clock_setFld, clock_setFld, clock_setFld]

theorem clock_withRstPerPmu (s : State) (r : Rst) (p : Per) (q : Pmu) : { s with rst := r, per := p, pmu := q }.clock = s.clock := rfl

@[simp] theorem clock_leaveStandby (s : State) (k : Nat) : (leaveStandby s k).clock = s.clock := by
  unfold leaveStandby
  rw [clock_bringUp, clock_eachNat _ clock_trcUp, clock_allPowered, clock_setFld, clock_withRstPerPmu, clock_setReg, clock_scopeClear]

@[simp] theorem clock_endEntry (s : State) : (endEntry s).clock = s.clock := clock_setFld s F.PMU_DOM_STAT_BUSY 0

/-! ### The alarm and the RTC (R457, R458, R460) -/

@[simp] theorem clock_wakeOn (s : State) (k : Nat) : (wakeOn s k).clock = s.clock := by
  unfold wakeOn
  split
  · rfl
  · split
    · exact (evcIf_only _ _ _ _).clock_eq.trans (clock_endEntry _ |>.trans (clock_setFld s _ _))
    · split
      · exact clock_leaveStandby s k
      · split <;> simp

@[simp] theorem clock_aonWake (s : State) (k : Nat) : (aonWake s k).clock = s.clock :=
  (clock_wakeOn _ k).trans (aonEvent_only s k).clock_eq

@[simp] theorem clock_backupEvent (s : State) (src : Nat) : (backupEvent s src).clock = s.clock := by
  unfold backupEvent
  extract_lets e _ s1
  have hs1 : s1.clock = s.clock := by
    by_cases h : s.bkd.evq.length < 8
    · rw [show s1 = _ from if_pos h]; rfl
    · rw [show s1 = _ from if_neg h]; exact (State.onlyRegs_count s _).clock_eq
  split
  · exact (clock_setFld s1 _ _).trans hs1
  · exact hs1

@[simp] theorem clock_alarmFires (s : State) : (alarmFires s).clock = s.clock := by
  unfold alarmFires; dsimp only; split <;> simp

@[simp] theorem clock_rtcPeriod (s : State) : (rtcPeriod s).clock = s.clock := by
  unfold rtcPeriod; dsimp only
  split
  · rw [clock_setFld]
  · split <;> simp

@[simp] theorem clock_rtcTick (s : State) : (rtcTick s).clock = s.clock := by
  unfold rtcTick; split <;> simp

/-! ### The idle step -/

theorem clock_tbCount (s : State) : (tbCount s).clock = ((s.clock.1 + 1) % 2 ^ 64, s.clock.2) := rfl

/-- Outside BACKUP one idle count moves the timebase on by one and leaves the queue (R12). -/
theorem clock_idle (s : State) (h : s.pmu.state ≠ .backup) : (idle s).clock = ((s.tb + 1) % 2 ^ 64, s.pending) := by
  have hcount : (tbCount (rtcTick s)).clock = ((s.tb + 1) % 2 ^ 64, s.pending) := by
    rw [clock_tbCount, clock_rtcTick]; rfl
  unfold idle
  split
  next hb => exact absurd hb h
  next => exact hcount
  next => simpa using hcount

theorem step_empty_queue (s : State) (h : s.pending = []) : step s = .next (idle s) := by
  unfold step; rw [h]

/-- Settles O2: nothing that an idle count does besides counting, the RTC's alarm with the exit from STANDBY included, changes the
timebase or the queue. -/
theorem idleStepCounts : Obligations.IdleStepCounts := by
  intro s hq hstate
  have hclock := clock_idle s hstate
  simp only [State.clock, Prod.mk.injEq] at hclock
  obtain ⟨htb, hpending⟩ := hclock
  exact ⟨idle s, step_empty_queue s hq, htb, hpending.trans hq⟩

end Sys2Proof.Machine
end

section
/-! Writes of peripheral registers (R13, R15, R41, R285): what an access that its target holds leaves, the fabric's answers to one
aligned word, the RW rule of R13, and the host's accesses of the BARs. -/

namespace Sys2Proof.Machine

/-! ### Accesses that are held (R444, R445) -/

/-- A change of registers of the register map and of the PMU alone. -/
def State.onlyRegsPmu (s t : State) : Prop := ∃ r p, t = { s with regs := r, pmu := p }

theorem State.onlyRegsPmu_self (s : State) : s.onlyRegsPmu s := ⟨s.regs, s.pmu, rfl⟩

theorem State.onlyRegs.toPmu {s t : State} (h : s.onlyRegs t) : s.onlyRegsPmu t := by
  obtain ⟨r, rfl⟩ := h; exact ⟨r, s.pmu, rfl⟩

theorem State.onlyRegsPmu_trans {s t u : State} (h : s.onlyRegsPmu t) (k : t.onlyRegsPmu u) : s.onlyRegsPmu u := by
  obtain ⟨r, p, rfl⟩ := h; obtain ⟨r', p', rfl⟩ := k; exact ⟨r', p', rfl⟩

theorem switchOn_only (s : State) (d : Nat) : s.onlyRegsPmu (switchOn s d) := by
  unfold switchOn
  split
  · exact ⟨_, _, rfl⟩
  · split
    · exact (s.onlyRegs_setRegBit _ _ _).toPmu
    · exact ⟨_, _, rfl⟩

/-- A wake on demand changes registers and the PMU alone (R445). -/
theorem wakeAccess_only (s : State) (d : Nat) : s.onlyRegsPmu (wakeAccess s d).2 := by
  unfold wakeAccess
  extract_lets waking told s1
  have hs1 : s.onlyRegsPmu s1 := State.onlyRegsPmu_trans (switchOn_only s d) (State.onlyRegs_setRegBit _ _ _ _).toPmu
  split
  · exact s.onlyRegsPmu_self
  · dsimp only
    split
    · exact hs1
    · exact State.onlyRegsPmu_trans hs1 (evcIf_only _ _ _ _).toPmu

/-- The way to a block changes registers and the PMU alone. -/
theorem passage_only (s : State) (a : Nat) : s.onlyRegsPmu (passage s a).2 := by
  unfold passage
  split
  · exact s.onlyRegsPmu_self
  · split
    · next d _ => exact wakeAccess_only s d
    · split <;> exact s.onlyRegsPmu_self

/-- Where no service of a region holds, an access that is held was stopped on its way, and its state is that of the way. -/
theorem access_held (s t : State) (i : Init) (part : Nat) (write : Bool) (a n : Nat) (serve : State → Region → Acc × State)
    (hserve : ∀ u g, (serve u g).1 ≠ .held) (h : access s i part write a n serve = (.held, t)) : t = (passage s a).2 := by
  unfold access at h
  extract_lets r at h
  generalize hr : r = q at h
  have hq : q = (.held, t) := by
    split at h
    · simp at h
    · exact h
  have hway := hr.trans hq
  clear h hr hq
  unfold r at hway
  split at hway
  · simp at hway
  · next g _ =>
    split at hway
    · simp at hway
    · split at hway
      · next e s1 hp => rw [hp]; exact (congrArg Prod.snd hway).symm
      · next s1 hp =>
        rw [hp]
        split at hway
        · exact (congrArg Prod.snd hway).symm
        · split at hway
          · exact absurd (congrArg Prod.fst hway) (hserve s1 g)
          · simp at hway

theorem regionWrite_ne_held (s : State) (i : Init) (part : Nat) (g : Region) (a : Nat) (l : List Byte) :
    (regionWrite s i part g a l).1 ≠ .held := by
  unfold regionWrite
  dsimp only
  split
  next => split <;> simp
  next => simp
  next => simp
  next => split <;> simp
  next => split <;> simp

/-- A write that is held leaves everything but registers and the PMU. -/
theorem fabWrite_held_only (s t : State) (i : Init) (part a : Nat) (l : List Byte) (h : fabWrite s i part a l = (.held, t)) :
    s.onlyRegsPmu t := by
  rw [access_held s t i part true a _ _ (fun u g => regionWrite_ne_held u i part g a l) h]
  exact passage_only s a

theorem State.onlyRegsPmu.writerPart_eq {s t : State} (h : s.onlyRegsPmu t) (w : Writer) : writerPart t w = writerPart s w := by
  obtain ⟨r, p, rfl⟩ := h; cases w <;> rfl

/-! ### One register through the fabric -/

theorem regAccess_done (s : State) (i : Init) (w : Writer) (a : Nat) (v : Word)
    (h : (fabWrite s i (writerPart s w) a (leBytes 4 v.toNat)).1 ≠ .held) :
    regAccess s i w a v = (fabWrite s i (writerPart s w) a (leBytes 4 v.toNat)).2 := by
  unfold regAccess
  split
  · next e => exact absurd (congrArg Prod.fst e) h
  · next e => rw [e]

theorem regAccess_held (s : State) (i : Init) (w : Writer) (a : Nat) (v : Word)
    (h : (fabWrite s i (writerPart s w) a (leBytes 4 v.toNat)).1 = .held) :
    regAccess s i w a v = holdAccess (fabWrite s i (writerPart s w) a (leBytes 4 v.toNat)).2 w false a v := by
  unfold regAccess
  split
  · next e => rw [e]
  · next hne e => exact (hne ((congrArg Prod.fst e).symm.trans h)).elim

/-- The initiators of the fabric that write one register of the periphery, each with its accessor. -/
def fabricWriters : List (Writer × Init) := [(.mc, .cpu .mc true), (.sp, .cpu .sp true), (.dbg, .dbg)]

/-- REGISTER_WRITE of a processor or the debug port: one access through the fabric, for an aligned address of the periphery alone. -/
theorem exec_registerWrite_fabric (w : Writer) (i : Init) (a v : Word) (s : State) (hw : (w, i) ∈ fabricWriters) :
    exec (.registerWrite w a v) s =
      if inPeriphery a.toNat ∧ a.toNat % 4 = 0 then .next (regAccess s i w a.toNat v) else .next s := by
  simp only [fabricWriters, List.mem_cons, Prod.mk.injEq, List.not_mem_nil, or_false] at hw
  obtain ⟨rfl, rfl⟩ | ⟨rfl, rfl⟩ | ⟨rfl, rfl⟩ := hw <;> rfl

theorem exec_registerWrite_host (x : HostAcc) (a v : Word) (s : State) :
    exec (.registerWrite (.host x) a v) s = .next (hostAccess s x a.toNat v) := rfl

theorem exec_registerWrite_outside (w : Writer) (i : Init) (a v : Word) (s : State) (hw : (w, i) ∈ fabricWriters)
    (h : inPeriphery a.toNat = false ∨ a.toNat % 4 ≠ 0) : exec (.registerWrite w a v) s = .next s := by
  rw [exec_registerWrite_fabric w i a v s hw, if_neg]
  rintro ⟨hin, hal⟩
  obtain h | h := h
  · simp [h] at hin
  · exact h hal

theorem exec_registerWrite_inside (w : Writer) (i : Init) (a v : Word) (s : State) (hw : (w, i) ∈ fabricWriters)
    (hin : inPeriphery a.toNat = true) (hal : a.toNat % 4 = 0) :
    exec (.registerWrite w a v) s = .next (regAccess s i w a.toNat v) := by
  rw [exec_registerWrite_fabric w i a v s hw, if_pos ⟨hin, hal⟩]

/-- A held write waits at the wrapper with the partition that its accessor had (R445). -/
theorem exec_registerWrite_waits (w : Writer) (i : Init) (a v : Word) (s : State) (hw : (w, i) ∈ fabricWriters)
    (hin : inPeriphery a.toNat = true) (hal : a.toNat % 4 = 0)
    (h : (fabWrite s i (writerPart s w) a.toNat (leBytes 4 v.toNat)).1 = .held) :
    ∃ t, exec (.registerWrite w a v) s = .next t ∧
      t.held = (fabWrite s i (writerPart s w) a.toNat (leBytes 4 v.toNat)).2.held ++ [.reg w (writerPart s w) false a.toNat v] ∧
      t.mem = (fabWrite s i (writerPart s w) a.toNat (leBytes 4 v.toNat)).2.mem := by
  have hpart := (fabWrite_held_only s _ i (writerPart s w) a.toNat _ (Prod.ext h rfl)).writerPart_eq w
  refine ⟨holdAccess (fabWrite s i (writerPart s w) a.toNat (leBytes 4 v.toNat)).2 w false a.toNat v, ?_, ?_, rfl⟩
  · rw [exec_registerWrite_inside w i a v s hw hin hal, regAccess_held s i w _ v h]
  · simp only [holdAccess, hpart]

/-! ### The fabric's answer to one access (R43, R46) -/

/-- An access that its region refuses ends with an error that SYS captures. -/
theorem access_refused (s : State) (i : Init) (part : Nat) (write : Bool) (a n : Nat) (serve : State → Region → Acc × State) (g : Region)
    (hg : regionFor a n = some g) (hn : g ≠ .nvr) (hm : regionMay s i part g write a n = false) :
    access s i part write a n serve = (.err 1, busErr s i part a write) := by
  simp [access, hg, hn, hm]

/-- An access with its rights and an open way is served. -/
theorem access_served (s t : State) (i : Init) (part : Nat) (write : Bool) (a n : Nat) (serve : State → Region → Acc × State) (g : Region)
    (l : List Byte) (hg : regionFor a n = some g) (hi : initMay s i g write = true) (hm : regionMay s i part g write a n = true)
    (hp : passage s a = (none, s)) (hb : busyAt s g a = none) (hs : serve s g = (.ok l, t)) :
    access s i part write a n serve = (.ok l, t) := by
  simp [access, hg, hi, hm, hp, hb, hs]

theorem passage_open (s : State) (a : Nat) (hw : s.wrapped a = false) (ha : asleep s a = none) (hu : uninitialised s a = false) :
    passage s a = (none, s) := by
  simp [passage, hw, ha, hu]

/-- The periphery needs no initialisation by the bring-up (R421). -/
theorem uninitialised_per (s : State) (a : Nat) (h : region a = some .per) : uninitialised s a = false := by
  simp [uninitialised, h]

/-! ### Plain registers (R13) -/

/-- The bytes of a word are that word. -/
theorem word_leNat_leBytes (v : Word) : word (leNat (leBytes 4 v.toNat)) = v := by
  rw [leNat_leBytes, word, Nat.mod_eq_of_lt (show v.toNat < 256 ^ 4 from v.isLt), BitVec.ofNat_toNat, BitVec.setWidth_eq]

/-- An aligned write of four bytes outside the backup RAM is a write of the register. -/
theorem regStore_word (s : State) (w : Writer) (a : Nat) (v : Word) (ha : a % 4 = 0) (hb : inBkdRam a = false) :
    regStore s w a (leBytes 4 v.toNat) = regWrite s w a v := by
  have hr : a / 4 * 4 = a := by omega
  have hdrop : ∀ n, (leBytes 4 n).drop 4 = [] := fun n => List.drop_of_length_le (by simp)
  unfold regStore
  simp [hr, ha, hb, hdrop, word_leNat_leBytes]

theorem plainReg_of_row (s : State) (a : Nat) (v : Word) (r : RegRow) (hr : regRow a = some r) (hf : fieldRanges a = []) :
    plainReg s a v = s.setReg a (plainWrite r (s.reg a) v) := by
  simp [plainReg, hr, keepRanges, hf]

theorem getElem_word (n k : Nat) (h : k < 32) : (word n)[k] = n.testBit k := by
  rw [← BitVec.getLsbD_eq_getElem, word, BitVec.getLsbD_ofNat]
  simp [h]

/-- A field whose bits are all RW takes what is written (R13). -/
theorem Fld.of_plainWrite_rw (f : Fld) (r : RegRow) (old v : Word) (hlo : f.lo + f.w ≤ 32)
    (hrw : ∀ k < f.w, r.rw.testBit (k + f.lo) = true) (hw1c : ∀ k < f.w, r.w1c.testBit (k + f.lo) = false) :
    f.of (plainWrite r old v) = f.of v := by
  apply Nat.eq_of_testBit_eq
  intro k
  simp only [Fld.of, Nat.testBit_mod_two_pow, Nat.testBit_div_two_pow, BitVec.testBit_toNat]
  by_cases hk : k < f.w
  · have h32 : k + f.lo < 32 := by omega
    simp [plainWrite, hk, h32, getElem_word, hrw k hk, hw1c k hk]
  · simp [hk]

/-! ### The capture of a bus error (R45, R46) -/

/-- An event leaves every register but the four of its source (R513). -/
theorem evcEvent_reg (s : State) (k b : Nat) (hp : b ≠ R.EVC_PEND (k / 32)) (hc : b ≠ R.EVC_CNT (k / 8)) (hm : b ≠ R.EVC_MASK (k / 32))
    (hs : b ≠ R.EVC_STORM (k / 32)) : (evcEvent s k).reg b = s.reg b := by
  have hcount : ((s.setRegBit (R.EVC_PEND (k / 32)) (k % 32) true).count ⟨R.EVC_CNT (k / 8), 4 * (k % 8), 4⟩).reg b = s.reg b := by
    unfold State.count
    split
    · rw [State.reg_setFld_ne _ _ _ _ hc]; exact State.reg_setReg_ne _ _ _ _ hp
    · exact State.reg_setReg_ne _ _ _ _ hp
  unfold evcEvent
  split
  · rfl
  · dsimp only
    split
    · exact (State.reg_setReg_ne _ _ _ _ hs).trans ((State.reg_setReg_ne _ _ _ _ hm).trans hcount)
    · exact hcount

/-- What SYS_BERR_INFO captures: VALID, the kind of access, the partition and the initiator (R45). -/
def berrInfo (code part : Nat) (write : Bool) : Word := word (2 ^ 17 + (if write then 2 ^ 16 else 0) + part % 64 * 256 + code)

/-- The register is none of those that the event of source 32 changes. -/
def offEvc32 (b : Nat) : Bool := decide (b ≠ R.EVC_PEND 1 ∧ b ≠ R.EVC_CNT 4 ∧ b ≠ R.EVC_MASK 1 ∧ b ≠ R.EVC_STORM 1)

theorem evcEvent32_reg (s : State) (b : Nat) (h : offEvc32 b = true) : (evcEvent s 32).reg b = s.reg b := by
  simp only [offEvc32, decide_eq_true_eq] at h
  obtain ⟨hp, hc, hm, hs⟩ := h
  exact evcEvent_reg s 32 b hp hc hm hs

theorem busErrOf_first (s : State) (code part a : Nat) (write : Bool) (h : s.flag F.SYS_BERR_INFO_VALID = false) :
    busErrOf s code part a write =
      evcEvent ((s.setReg R.SYS_BERR_ADDR (word a)).setReg R.SYS_BERR_INFO (berrInfo code part write)) 32 := by
  simp [busErrOf, h, berrInfo]

/-- The first bus error since VALID was cleared is captured with its address. -/
theorem busErrOf_first_addr (s : State) (code part a : Nat) (write : Bool) (h : s.flag F.SYS_BERR_INFO_VALID = false) :
    (busErrOf s code part a write).reg R.SYS_BERR_ADDR = word a := by
  rw [busErrOf_first s code part a write h, evcEvent32_reg _ _ (by decide), State.reg_setReg_ne _ _ _ _ (by decide), State.reg_setReg]

theorem busErrOf_first_info (s : State) (code part a : Nat) (write : Bool) (h : s.flag F.SYS_BERR_INFO_VALID = false) :
    (busErrOf s code part a write).reg R.SYS_BERR_INFO = berrInfo code part write := by
  rw [busErrOf_first s code part a write h, evcEvent32_reg _ _ (by decide), State.reg_setReg]

/-- The capture leaves every register but its own and those of its event. -/
theorem busErrOf_first_reg (s : State) (code part a b : Nat) (write : Bool) (h : s.flag F.SYS_BERR_INFO_VALID = false)
    (hb : offEvc32 b = true) (ha : b ≠ R.SYS_BERR_ADDR) (hi : b ≠ R.SYS_BERR_INFO) :
    (busErrOf s code part a write).reg b = s.reg b := by
  rw [busErrOf_first s code part a write h, evcEvent32_reg _ _ hb, State.reg_setReg_ne _ _ _ _ hi, State.reg_setReg_ne _ _ _ _ ha]

theorem busErrOf_mem (s : State) (code part a : Nat) (write : Bool) : (busErrOf s code part a write).mem = s.mem := by
  obtain ⟨r, h⟩ := busErrOf_only s code part a write
  rw [h]

theorem berrInfo_valid (code part : Nat) (write : Bool) (hc : code < 256) : F.SYS_BERR_INFO_VALID.of (berrInfo code part write) = 1 := by
  simp only [berrInfo, word, Fld.of, BitVec.toNat_ofNat]
  split <;> omega

theorem berrInfo_write (code part : Nat) (hc : code < 256) : F.SYS_BERR_INFO_WRITE.of (berrInfo code part true) = 1 := by
  simp only [berrInfo, word, Fld.of, BitVec.toNat_ofNat, if_true]
  omega

/-! ### AGM_VSENS, a register of the MC alone (R41) -/

theorem regionFor_vsens : regionFor 0x4000D054 4 = some .per := by decide

theorem regRow_vsens : regRow 0x4000D054 = some ⟨0x4000D054, 1, 4, 1, 4, 8, 0xFFFF, 0, 0⟩ := by decide

theorem regionMay_vsens_mc (s : State) (part : Nat) : regionMay s (.cpu .mc true) part .per true 0x4000D054 4 = true := rfl

theorem regionMay_vsens_sp (s : State) (part : Nat) : regionMay s (.cpu .sp true) part .per true 0x4000D054 4 = false := rfl

/-- The MC's write of the register, with its way open, is a plain one. -/
theorem fabWrite_vsens_mc (s : State) (part : Nat) (v : Word) (hw : s.wrapped 0x4000D054 = false) (ha : asleep s 0x4000D054 = none) :
    fabWrite s (.cpu .mc true) part 0x4000D054 (leBytes 4 v.toNat) = (.ok [], plainReg s 0x4000D054 v) := by
  have hserve : regionWrite s (.cpu .mc true) part .per 0x4000D054 (leBytes 4 v.toNat) = (.ok [], plainReg s 0x4000D054 v) := by
    have hstore := regStore_word s .mc 0x4000D054 v (by decide) (by decide)
    simp only [regionWrite, Init.writer, leBytes_length, le_refl, if_true, regStores, hstore]
    rfl
  exact access_served s _ _ part true _ _ _ .per [] regionFor_vsens rfl (regionMay_vsens_mc s part)
    (passage_open s _ hw ha (uninitialised_per s _ (by decide))) rfl hserve

theorem fld_plainReg_vsens (s : State) (v : Word) : (plainReg s 0x4000D054 v).fld F.AGM_VSENS_PS = v.toNat % 65536 := by
  have hof := F.AGM_VSENS_PS.of_plainWrite_rw ⟨0x4000D054, 1, 4, 1, 4, 8, 0xFFFF, 0, 0⟩ (s.reg 0x4000D054) v (by decide) (by decide)
    (by decide)
  rw [plainReg_of_row s _ v _ regRow_vsens (by decide), State.fld, State.reg_setReg, hof]
  simp [Fld.of]

/-- The SP's write of the register is a bus error. -/
theorem fabWrite_vsens_sp (s : State) (part : Nat) (v : Word) :
    fabWrite s (.cpu .sp true) part 0x4000D054 (leBytes 4 v.toNat) = (.err 1, busErrOf s 0x41 part 0x4000D054 true) :=
  access_refused s _ part true _ _ _ .per regionFor_vsens (by decide) (regionMay_vsens_sp s part)

theorem registerWrite_mc_vsens (v : Word) (s : State) (hw : s.wrapped 0x4000D054 = false) (ha : asleep s 0x4000D054 = none) :
    exec (.registerWrite .mc 0x4000D054 v) s = .next (plainReg s 0x4000D054 v) := by
  have hfab := fabWrite_vsens_mc s (writerPart s .mc) v hw ha
  rw [exec_registerWrite_inside .mc (.cpu .mc true) _ v s (by decide) (by decide) (by decide)]
  exact congrArg _ ((regAccess_done s _ .mc 0x4000D054 v (by rw [hfab]; simp)).trans (by rw [hfab]))

theorem registerWrite_sp_vsens (v : Word) (s : State) :
    exec (.registerWrite .sp 0x4000D054 v) s = .next (busErrOf s 0x41 (writerPart s .sp) 0x4000D054 true) := by
  have hfab := fabWrite_vsens_sp s (writerPart s .sp) v
  rw [exec_registerWrite_inside .sp (.cpu .sp true) _ v s (by decide) (by decide) (by decide)]
  exact congrArg _ ((regAccess_done s _ .sp 0x4000D054 v (by rw [hfab]; simp)).trans (by rw [hfab]))

/-! ### Accesses of the host (R285, R293) -/

theorem hostAccess_down (s : State) (x : HostAcc) (ofs : Nat) (v : Word) (h : hifUp s = false) : hostAccess s x ofs v = s := by
  simp [hostAccess, h]

theorem hostAccess_read (s : State) (x : HostAcc) (ofs : Nat) (v : Word) (h : hifUp s = true) (hr : x.read = true) :
    hostAccess s x ofs v = { (hostRead s x ofs).2 with readData := (hostRead s x ofs).1 } := by
  simp [hostAccess, h, hr]

theorem hostAccess_write (s : State) (x : HostAcc) (ofs : Nat) (v : Word) (h : hifUp s = true) (hr : x.read = false) :
    hostAccess s x ofs v = hostWrite s x ofs v := by
  simp [hostAccess, h, hr]

theorem hostRead_misfit (s : State) (x : HostAcc) (ofs : Nat) (hx : x.space = .bar0 ∨ x.space = .bar2) (hf : hostFits x ofs = false) :
    hostRead s x ofs = (0xFFFFFFFF, s.countReg R.HIF_BADACC) := by
  obtain hx | hx := hx <;> simp [hostRead, hx, hf]

theorem hostWrite_misfit (s : State) (x : HostAcc) (ofs : Nat) (v : Word) (hx : x.space = .bar0 ∨ x.space = .bar2)
    (hf : hostFits x ofs = false) : hostWrite s x ofs v = s.countReg R.HIF_BADACC := by
  obtain hx | hx := hx <;> simp [hostWrite, hx, hf]

theorem hostRead_bar0 (s : State) (x : HostAcc) (ofs : Nat) (hx : x.space = .bar0) (hf : hostFits x ofs = true) (ho : ofs < 0x10000) :
    hostRead s x ofs = (regView s (bar0Reg ofs), s) := by
  simp [hostRead, hx, hf, ho]

theorem hostWrite_bar0 (s : State) (x : HostAcc) (ofs : Nat) (v : Word) (hx : x.space = .bar0) (hf : hostFits x ofs = true) :
    hostWrite s x ofs v = if ofs < 0x10000 then bar0Write s (bar0Reg ofs) v else s := by
  simp [hostWrite, hx, hf]

theorem hostRead_bar2 (s : State) (x : HostAcc) (ofs : Nat) (hx : x.space = .bar2) (hf : hostFits x ofs = true) :
    hostRead s x ofs = (0, s) := by
  simp [hostRead, hx, hf]

theorem hostWrite_bar2_inside_page (s : State) (x : HostAcc) (ofs : Nat) (v : Word) (hx : x.space = .bar2) (hf : hostFits x ofs = true)
    (ho : ofs % 0x1000 ≠ 0) : hostWrite s x ofs v = s := by
  simp [hostWrite, hx, hf, ho]

/-- The third word of an entry of the MSI-X table is its message data (R298). -/
theorem hostWrite_bar4_data (s : State) (x : HostAcc) (ofs : Nat) (v : Word) (hx : x.space = .bar4) (hf : hostFits x ofs = true)
    (ho : ofs < 16 * 130) (hd : ofs % 16 = 8) :
    hostWrite s x ofs v = s.setVec (ofs / 16) { s.vec (ofs / 16) with data := v } := by
  simp [hostWrite, bar4Write, hx, hf, ho, hd]

theorem hostRead_cfg (s : State) (x : HostAcc) (ofs : Nat) (i : CfgItem) (hx : x.space = .cfg i) :
    hostRead s x ofs = (cfgRead s i, s) := by
  simp [hostRead, hx]

theorem hostWrite_cfg (s : State) (x : HostAcc) (ofs : Nat) (v : Word) (i : CfgItem) (hx : x.space = .cfg i) :
    hostWrite s x ofs v = cfgWrite s i v := by
  simp [hostWrite, hx]

/-- A write of 3 to the power state takes the function to D3hot. -/
theorem cfgWrite_d3 (s : State) (v : Word) (h : v.toNat % 4 = 3) : cfgWrite s .power v = { s with hif := { s.hif with d3 := true } } := by
  simp [cfgWrite, h]

/-- What a read of the host answers, as REGISTER_WRITE shows it. -/
theorem exec_hostRead (x : HostAcc) (a v : Word) (s t : State) (d : Word) (h : hifUp s = true) (hr : x.read = true)
    (e : hostRead s x a.toNat = (d, t)) : exec (.registerWrite (.host x) a v) s = .next { t with readData := d } := by
  rw [exec_registerWrite_host, hostAccess_read s x _ v h hr, e]

theorem exec_hostWrite (x : HostAcc) (a v : Word) (s t : State) (h : hifUp s = true) (hr : x.read = false)
    (e : hostWrite s x a.toNat v = t) : exec (.registerWrite (.host x) a v) s = .next t := by
  rw [exec_registerWrite_host, hostAccess_write s x _ v h hr, e]

/-! ### The statement -/

/-- Settles O57: the fabric's clauses come from the one access that the command makes, a held one keeping its writer's partition; the
host's from what each space does with an access; and AGM_VSENS shows the RW rule of R13 and the rights of R41. -/
theorem registerWrites : Obligations.RegisterWrites := by
  refine ⟨fun a v s => ⟨fun h => ?_, ?_⟩, fun x a v s hup => ⟨?_, ?_, ?_, ?_, ?_, ?_, ?_, ?_, ?_⟩, ?_, ?_, ?_⟩
  · exact ⟨exec_registerWrite_outside .mc (.cpu .mc true) a v s (by decide) h,
      exec_registerWrite_outside .sp (.cpu .sp true) a v s (by decide) h, exec_registerWrite_outside .dbg .dbg a v s (by decide) h⟩
  · rintro hin hal w i hw _ rfl
    exact ⟨fun h => by rw [exec_registerWrite_inside w i a v s hw hin hal, regAccess_done s i w _ v h],
      exec_registerWrite_waits w i a v s hw hin hal⟩
  · intro hx hf
    exact ⟨fun hr => exec_hostWrite x a v s _ hup hr (hostWrite_misfit s x _ v hx hf),
      fun hr => exec_hostRead x a v s _ _ hup hr (hostRead_misfit s x _ hx hf)⟩
  · intro hx hf ho
    exact ⟨fun hr => exec_hostWrite x a v s _ hup hr ((hostWrite_bar0 s x _ v hx hf).trans (if_pos ho)),
      fun hr => exec_hostRead x a v s _ _ hup hr (hostRead_bar0 s x _ hx hf ho)⟩
  · intro hx hf ho hr
    exact exec_hostWrite x a v s _ hup hr ((hostWrite_bar0 s x _ v hx hf).trans (if_neg (by omega)))
  · intro hx hf
    exact ⟨fun hr => exec_hostRead x a v s _ _ hup hr (hostRead_bar2 s x _ hx hf),
      fun hr ho => exec_hostWrite x a v s _ hup hr (hostWrite_bar2_inside_page s x _ v hx hf ho)⟩
  · intro hx hf ho hd hr
    exact exec_hostWrite x a v s _ hup hr (hostWrite_bar4_data s x _ v hx hf ho hd)
  · intro hx hr
    exact exec_hostRead x a v s _ _ hup hr (hostRead_cfg s x _ .ids hx)
  · intro hx hr
    exact exec_hostRead x a v s _ _ hup hr (hostRead_cfg s x _ .header hx)
  · intro hx hr
    exact exec_hostWrite x a v s _ hup hr (hostWrite_cfg s x _ v .ids hx)
  · intro hx hr hv
    exact ⟨_, exec_hostWrite x a v s _ hup hr ((hostWrite_cfg s x _ v .power hx).trans (cfgWrite_d3 s v hv)), rfl, rfl, rfl⟩
  · intro x a v s hdown
    rw [exec_registerWrite_host, hostAccess_down s x _ v hdown]
  · intro v s hw ha
    refine ⟨_, registerWrite_mc_vsens v s hw ha, fld_plainReg_vsens s v, ?_⟩
    rw [plainReg_of_row s _ v _ regRow_vsens (by decide), State.setReg_mem]
  · intro v s hv
    refine ⟨_, registerWrite_sp_vsens v s, busErrOf_first_reg s _ _ _ _ true hv (by decide) (by decide) (by decide),
      busErrOf_first_addr s _ _ _ true hv, ?_, ?_, busErrOf_mem s _ _ _ true⟩
    · rw [State.flag, State.fld, busErrOf_first_info s _ _ _ true hv, berrInfo_valid _ _ true (by decide)]; rfl
    · rw [State.flag, State.fld, busErrOf_first_info s _ _ _ true hv, berrInfo_write _ _ (by decide)]; rfl

end Sys2Proof.Machine
end

section
/-! The state right after reset (R45, R79, R480, R524, R528, R529). -/

namespace Sys2Proof.Machine

/-- What the power-on reset leaves in memory is its log entry, listed in rising order (R427). -/
theorem reset_memOk : State.reset.memOk := by
  unfold State.memOk; decide

/-- A register that the power-on reset does not set itself reads the reset column of its table. -/
theorem reset_reg (a : Nat) (h : a ∉ resetRegs.map Prod.fst) : State.reset.reg a = regReset a := by
  have hget : ∀ m : SMap Word, a ∉ m.map Prod.fst → SMap.get regReset m a = regReset a := by
    intro m
    induction m with
    | nil => exact fun _ => rfl
    | cons e m ih =>
      intro hm
      simp only [List.map_cons, List.mem_cons, not_or] at hm
      obtain ⟨hne, hrest⟩ := hm
      rw [SMap.get, if_neg (Ne.symm hne), ih hrest]
  exact hget resetRegs h

/-- Settles O58: the registers named are none of those that the reset sets, so each reads its table's value. -/
theorem resetState : Obligations.ResetState := by
  refine ⟨rfl, rfl, reset_memOk, rfl, ?_, ?_, ?_, ?_, ?_, ?_⟩
  · rw [reset_reg _ (by decide)]; decide
  · rw [reset_reg _ (by decide)]; decide
  · rw [State.fld, reset_reg _ (by decide)]; decide
  · rw [reset_reg _ (by decide)]; decide
  · rw [State.fld, reset_reg _ (by decide)]; decide
  · rw [reset_reg _ (by decide)]; decide

end Sys2Proof.Machine
end

section
/-! What a field reads after a change, registers that an event of the Event Controller leaves as they are (R513), and rows that find
their block open. -/

namespace Sys2Proof.Machine

/-! ### Fields -/

theorem State.fld_congr {s t : State} {f : Fld} (h : t.reg f.reg = s.reg f.reg) : t.fld f = s.fld f := by
  rw [State.fld, State.fld, h]

theorem State.flag_congr {s t : State} {f : Fld} (h : t.reg f.reg = s.reg f.reg) : t.flag f = s.flag f := by
  rw [State.flag, State.flag, State.fld_congr h]

theorem State.flag_setFld (s : State) (f : Fld) (v : Nat) (h : f.lo + f.w ≤ 32) :
    (s.setFld f v).flag f = decide (v % 2 ^ f.w ≠ 0) := by
  rw [State.flag, s.fld_setFld f v h]

theorem State.reg_count_ne (s : State) (f : Fld) (b : Nat) (h : b ≠ f.reg) : (s.count f).reg b = s.reg b := by
  unfold State.count
  split
  · exact s.reg_setFld_ne f _ b h
  · rfl

theorem State.reg_countReg_ne (s : State) (a b : Nat) (h : b ≠ a) : (s.countReg a).reg b = s.reg b :=
  s.reg_count_ne ⟨a, 0, 32⟩ b h

/-! ### Events (R513) -/

/-- The registers of the Event Controller lie below the blocks of the cycle and of the dispatcher. -/
theorem evcEvent_reg_above (s : State) (k b : Nat) (hk : k < 256) (hb : 0x40004280 ≤ b) : (evcEvent s k).reg b = s.reg b := by
  apply evcEvent_reg <;> simp only [R.EVC_PEND, R.EVC_CNT, R.EVC_MASK, R.EVC_STORM] <;> omega

theorem evcIf_reg_above (s : State) (en : Fld) (a k b : Nat) (hk : a + k < 256) (hb : 0x40004280 ≤ b) :
    (evcIf s en a k).reg b = s.reg b := by
  unfold evcIf
  split
  · exact evcEvent_reg_above s _ b hk hb
  · rfl

theorem cycEvent_reg (s : State) (k b : Nat) (hk : k < 5) (hb : 0x40004280 ≤ b) : (cycEvent s k).reg b = s.reg b :=
  evcIf_reg_above s _ 33 k b (by omega) hb

theorem dprEvent_reg (s : State) (k b : Nat) (hk : k < 3) (hb : 0x40004280 ≤ b) : (dprEvent s k).reg b = s.reg b :=
  evcIf_reg_above s _ 39 k b (by omega) hb

/-! ### Rows that write or read one register (R15, R424, R445) -/

theorem atReg_open (s : State) (a : Nat) (v : Word) (t : State) (h : s.accepts a = true) : atReg s a v t = .next t := by
  simp [atReg, atRegBy, h]

theorem atRead_open (s : State) (a : Nat) (r : Word × State) (h : s.accepts a = true) :
    atRead s a r = .next { r.2 with readData := r.1 } := by
  simp [atRead, h]

/-! ### Memory -/

/-- A change of memory alone. -/
def State.onlyMem (s t : State) : Prop := ∃ m, t = { s with mem := m }

theorem State.onlyMem_setBytes (s : State) (a : Nat) (l : List Byte) : s.onlyMem (s.setBytes a l) := by
  induction l generalizing s a with
  | nil => exact ⟨s.mem, rfl⟩
  | cons b l ih =>
    obtain ⟨m, h⟩ := ih (s.setByte a b) (a + 1)
    exact ⟨m, h⟩

end Sys2Proof.Machine
end

section
/-! Synchronisation and the requests of the Cycle Timer (R74, R76, R79). -/

namespace Sys2Proof.Machine

/-! ### References (R76) -/

theorem exec_referenceEdge (e : Word) (s : State) (hr : hasReference s = true) (hc : s.cyc.inCycle = true) :
    exec (.referenceEdge e) s =
      .next ((s.setReg R.CYC_SYNC_ERR e).setFld F.CYC_STATUS_SYNC_LOCK (if -10 ≤ e.toInt ∧ e.toInt ≤ 10 then 1 else 0)) := by
  show execReferenceEdge e s = _
  simp [execReferenceEdge, hr, hc]

theorem exec_referenceLoss (s : State) (hr : hasReference s = true) (hc : s.cyc.inCycle = true) :
    exec .referenceLoss s = .next (cycEvent (s.setFld F.CYC_STATUS_SYNC_LOCK 0) 3) := by
  show execReferenceLoss s = _
  simp [execReferenceLoss, hr, hc]

/-! ### Clear and coherent read (R79) -/

/-- The registers that the clear command resets. -/
def clearedByCnt (a : Nat) : Bool := a == R.CYC_MISS_TOTAL || a == R.CYC_LSE_INVAL || a == R.CYC_SPLIT_CNT || a == R.CYC_CFG_SKIP

theorem cycCntClr_reg (s : State) (a : Nat) : (cycCntClr s).reg a = if clearedByCnt a then regReset a else s.reg a :=
  SMap.get_erase regReset clearedByCnt s.regs a

theorem cycCntClr_cleared (s : State) (a : Nat) (h : clearedByCnt a = true) (h0 : regReset a = 0) : (cycCntClr s).reg a = 0 := by
  rw [cycCntClr_reg, if_pos h, h0]

/-- With the high word latched, it is what the next read of it answers. -/
theorem cycRead_hi_latched (s : State) (w : Word) (h : s.cyc.hiLatch = some w.toNat) : cycRead s R.CYC_SOC_TB_HI = some w := by
  simp [cycRead, h]

/-! ### The statement -/

/-- Settles O25: each request writes the registers or the one field of the cycle's state that its row names. -/
theorem cycleRequests : Obligations.CycleRequests := by
  refine ⟨fun s e hr hc => ?_, fun s hr hc => ?_, fun m p g s ha => ?_, fun s ha => ?_, fun s ha => ?_⟩
  · refine ⟨_, exec_referenceEdge e s hr hc, ?_, ?_, rfl, rfl⟩
    · rw [State.reg_setFld_ne _ _ _ _ (by decide), State.reg_setReg]
    · rw [State.flag_setFld _ _ _ (by decide)]
      split
      · next h => simp [h]
      · next h => simp [h]
  · refine ⟨_, exec_referenceLoss s hr hc, ?_, ?_⟩
    · rw [State.flag_congr (cycEvent_reg _ 3 _ (by decide) (by decide)), State.flag_setFld _ _ _ (by decide)]; rfl
    · obtain ⟨r, h⟩ := evcIf_only (s.setFld F.CYC_STATUS_SYNC_LOCK 0) F.CYC_EVT_EN_EN 33 3
      rw [cycEvent, h]; exact ⟨rfl, rfl⟩
  · exact ⟨_, atReg_open s _ _ _ ha, rfl, rfl⟩
  · refine ⟨_, atReg_open s _ _ _ ha, cycCntClr_cleared s _ (by decide) (by decide), cycCntClr_cleared s _ (by decide) (by decide),
      cycCntClr_cleared s _ (by decide) (by decide), rfl, cycCntClr_reg s _, cycCntClr_reg s _⟩
  · exact ⟨_, atRead_open s _ _ ha, rfl, cycRead_hi_latched _ _ rfl, rfl⟩

end Sys2Proof.Machine
end

section
/-! What the placing of ready blocks and the failing of a block change (R54, R57, R147, R149). -/

namespace Sys2Proof.Machine

/-- A change of registers of the register map and of the dispatcher alone; the queues stay open or closed. -/
def State.onlyQueues (s t : State) : Prop := ∃ r d, t = { s with regs := r, dpr := d } ∧ d.open' = s.dpr.open'

theorem State.onlyQueues_self (s : State) : s.onlyQueues s := ⟨s.regs, s.dpr, rfl, rfl⟩

theorem State.onlyQueues_trans {s t u : State} (h : s.onlyQueues t) (k : t.onlyQueues u) : s.onlyQueues u := by
  obtain ⟨r, d, rfl, hd⟩ := h; obtain ⟨r', d', rfl, hd'⟩ := k; exact ⟨r', d', rfl, hd'.trans hd⟩

theorem State.onlyRegs.toQueues {s t : State} (h : s.onlyRegs t) : s.onlyQueues t := by
  obtain ⟨r, rfl⟩ := h; exact ⟨r, s.dpr, rfl, rfl⟩

theorem State.onlyQueues_setRun (s : State) (i : Nat) (x : BlkRun) : s.onlyQueues (s.setRun i x) := ⟨s.regs, _, rfl, rfl⟩

theorem State.onlyQueues_eachNat (f : State → Nat → State) (h : ∀ t k, State.onlyQueues t (f t k)) (s : State) (l : List Nat) :
    s.onlyQueues (eachNat f s l) := by
  induction l generalizing s with
  | nil => exact s.onlyQueues_self
  | cons k l ih => exact State.onlyQueues_trans (h s k) (ih (f s k))

theorem State.onlyQueues.mem_eq {s t : State} (h : s.onlyQueues t) : t.mem = s.mem := by obtain ⟨r, d, rfl, -⟩ := h; rfl
theorem State.onlyQueues.slots_eq {s t : State} (h : s.onlyQueues t) : t.slots = s.slots := by obtain ⟨r, d, rfl, -⟩ := h; rfl
theorem State.onlyQueues.le_eq {s t : State} (h : s.onlyQueues t) (n : Nat) : t.le n = s.le n := by obtain ⟨r, d, rfl, -⟩ := h; rfl
theorem State.onlyQueues.open_eq {s t : State} (h : s.onlyQueues t) : t.dpr.open' = s.dpr.open' := by
  obtain ⟨r, d, rfl, hd⟩ := h; exact hd

/-! ### Placing (R149) -/

theorem markHwm_only (s : State) (c : Nat) : s.onlyRegs (markHwm s c) := by
  unfold markHwm; dsimp only
  split
  · exact s.onlyRegs_setFld _ _
  · exact s.onlyRegs_self

theorem place_only (s : State) (i : Nat) : s.onlyQueues (place s i) := by
  unfold place
  extract_lets c r s1 d1 s2 s3 d3
  split
  · exact State.onlyQueues_trans ⟨s.regs, _, rfl, rfl⟩ (markHwm_only _ c).toQueues
  · have hcount : s.onlyQueues s2 := State.onlyQueues_trans (s.onlyQueues_setRun i _) (State.onlyRegs_count _ _).toQueues
    have hs3 : s.onlyQueues s3 := State.onlyQueues_trans hcount (State.onlyRegs_setFld _ _ _).toQueues
    split
    · exact hs3
    · exact State.onlyQueues_trans hs3
        (State.onlyQueues_trans ⟨s3.regs, _, rfl, rfl⟩ (evcIf_only _ F.DPR_EVT_EN_EN 39 2).toQueues)

theorem makeReady_only (s : State) (l : List Nat) : s.onlyQueues (makeReady s l) :=
  State.onlyQueues_trans (State.onlyQueues_eachNat (fun t i => t.setRun i { t.run i with readyTime := t.tb })
    (fun t i => t.onlyQueues_setRun i _) s _) (State.onlyQueues_eachNat place place_only _ _)

theorem State.reg_withDpr (s : State) (d : Dpr) (b : Nat) : State.reg { s with dpr := d } b = s.reg b := rfl

theorem State.reg_setRun (s : State) (i : Nat) (x : BlkRun) (b : Nat) : (s.setRun i x).reg b = s.reg b := rfl

theorem markHwm_reg (s : State) (c b : Nat) (hb : b < R.DPR_QSTAT 0) : (markHwm s c).reg b = s.reg b := by
  unfold markHwm; dsimp only
  split
  · exact s.reg_setFld_ne _ _ b (by simp only [R.DPR_QSTAT] at hb ⊢; omega)
  · rfl

/-- Placing changes the queues' own registers and counters, which lie above the dispatcher's settings, and the Event Controller. -/
theorem place_reg (s : State) (i b : Nat) (hlo : 0x40004280 ≤ b) (hb : b < R.DPR_QSTAT 0) : (place s i).reg b = s.reg b := by
  have hq : ∀ c, b ≠ (F.DPR_QSTAT_OVF c).reg := fun c => by simp only [R.DPR_QSTAT] at hb ⊢; omega
  have hovf : b ≠ R.DPR_QOVF_CNT := by simp only [R.DPR_QSTAT] at hb; simp only [R.DPR_QOVF_CNT]; omega
  unfold place
  extract_lets c r s1 d1 s2 s3 d3
  split
  · rw [markHwm_reg _ c b hb, State.reg_withDpr, State.reg_setRun]
  · have hs3 : s3.reg b = s.reg b := by
      rw [State.reg_setFld_ne _ _ 1 b (hq c), State.reg_countReg_ne _ _ b hovf, State.reg_setRun]
    split
    · exact hs3
    · rw [dprEvent_reg _ 2 b (by decide) hlo, State.reg_withDpr, hs3]

/-! ### Failing (R57, R147) -/

/-- A failure walks the successors within the dispatcher. -/
theorem failSuccs_only (s : State) (i fuel : Nat) : ∃ x, failSuccs s i fuel = { s with dpr := { s.dpr with runs := x } } := by
  induction fuel generalizing s i with
  | zero => exact ⟨s.dpr.runs, rfl⟩
  | succ fuel ih =>
    unfold failSuccs
    generalize s.thePlan.succs i = l
    induction l generalizing s with
    | nil => exact ⟨s.dpr.runs, rfl⟩
    | cons j l ihl =>
      rw [eachNat]
      split
      · obtain ⟨x, hx⟩ := ih (s.setRun j { s.run j with state := .failed 3 0 }) j
        rw [hx]
        exact ihl _
      · exact ihl s

/-- A block that waits no more is not touched by another's failure. -/
theorem failSuccs_run_kept (s : State) (i j fuel : Nat) (h : (s.run i).state ≠ .waiting) : (failSuccs s j fuel).run i = s.run i := by
  induction fuel generalizing s j with
  | zero => rfl
  | succ fuel ih =>
    unfold failSuccs
    generalize s.thePlan.succs j = l
    induction l generalizing s with
    | nil => rfl
    | cons k l ihl =>
      rw [eachNat]
      split
      · next hk =>
        have hne : i ≠ k := by rintro rfl; exact h hk
        have hset : (s.setRun k { s.run k with state := .failed 3 0 }).run i = s.run i := by simp [State.run, State.setRun, hne]
        have hfail := (ih (s.setRun k { s.run k with state := .failed 3 0 }) k (by rwa [hset])).trans hset
        rw [ihl _ (by rwa [hfail]), hfail]
      · exact ihl s h

/-- A failed block keeps its cause and report (R166). -/
theorem failBlock_run (s : State) (i c r : Nat) : ((failBlock s i c r).run i).state = .failed c r := by
  unfold failBlock
  rw [failSuccs_run_kept _ i i 64 (by simp), State.run_setRun]

theorem failBlock_only (s : State) (i c r : Nat) : ∃ x, failBlock s i c r = { s with dpr := { s.dpr with runs := x } } :=
  failSuccs_only (s.setRun i { s.run i with state := .failed c r }) i 64

end Sys2Proof.Machine
end

section
/-! The events of a cycle (R47, R53, R61 to R65, R68, R187, R221): the block that a sample mark sends, what the opening of the queues
leaves, what the OUT deadline empties, and the end of the snapshot copy. -/

namespace Sys2Proof.Machine

theorem leBytes_mod (n v : Nat) : leBytes n (v % 256 ^ n) = leBytes n v := by
  induction n generalizing v with
  | zero => rfl
  | succ n ih =>
    have hdiv : v % 256 ^ (n + 1) / 256 = v / 256 % 256 ^ n := by
      rw [pow_succ', Nat.mod_mul_right_div_self]
    have hbyte : BitVec.ofNat 8 (v % 256 ^ (n + 1)) = BitVec.ofNat 8 v := by
      apply BitVec.eq_of_toNat_eq
      rw [BitVec.toNat_ofNat, BitVec.toNat_ofNat, pow_succ']
      exact Nat.mod_mul_right_mod v 256 _
    rw [leBytes, leBytes, hdiv, ih, hbyte]

/-! ### K28.1 blocks (R218, R221) -/

/-- A block that the device makes passes its own CRC-8. -/
theorem blockOk_mkBlock (cycle flags ofs : Nat) : blockOk (mkBlock cycle flags ofs) = true := by
  have hcycle := leBytes_mod 2 cycle
  have hofs := leBytes_mod 3 ofs
  have hflags : leBytes 1 flags = [BitVec.ofNat 8 flags] := rfl
  norm_num at hcycle hofs
  simp [blockOk, mkBlock, hcycle, hofs, hflags]

theorem markBlock_cycle (s : State) (b : KBlock) : (markBlock s b).cycle = b.cycle := by
  simp [markBlock, mkBlock]

theorem markBlock_flags (s : State) (b : KBlock) : (markBlock s b).flags = b.flags ||| 6 := by
  simp [markBlock, mkBlock, BitVec.ofNat_or]

/-- What `sendBlock` does at one link. -/
def blockTo (b : KBlock) (s : State) (l : Nat) : State := if sendsBlocks s l then s.setLnk l { s.lnk l with soc := some b } else s

theorem sendBlock_eq (s : State) (b : KBlock) :
    sendBlock s b = eachNat (blockTo b) { s with cyc := { s.cyc with block := some b } } (List.range 24) := rfl

theorem blockTo_only (b : KBlock) (s : State) (l : Nat) : ∃ x, blockTo b s l = { s with links := x } := by
  unfold blockTo
  split
  · exact ⟨_, rfl⟩
  · exact ⟨s.links, rfl⟩

theorem eachNat_blockTo_only (b : KBlock) (s : State) (ls : List Nat) : ∃ x, eachNat (blockTo b) s ls = { s with links := x } := by
  induction ls generalizing s with
  | nil => exact ⟨s.links, rfl⟩
  | cons l ls ih =>
    obtain ⟨x, hx⟩ := blockTo_only b s l
    obtain ⟨y, hy⟩ := ih (blockTo b s l)
    exact ⟨y, by rw [eachNat, hy, hx]⟩

theorem sendsBlocks_blockTo (b : KBlock) (s : State) (n l : Nat) : sendsBlocks (blockTo b s n) l = sendsBlocks s l := by
  obtain ⟨x, hx⟩ := blockTo_only b s n
  rw [hx]; rfl

theorem blockTo_lnk_same (b : KBlock) (s : State) (l : Nat) (h : sendsBlocks s l = true) : ((blockTo b s l).lnk l).soc = some b := by
  rw [blockTo, if_pos h, State.lnk_setLnk]

theorem blockTo_lnk_other (b : KBlock) (s : State) (n l : Nat) (h : n ≠ l ∨ sendsBlocks s l = false) :
    (blockTo b s n).lnk l = s.lnk l := by
  unfold blockTo
  split
  · next hn =>
    have hne : l ≠ n := by
      rintro rfl
      rcases h with h | h
      · exact h rfl
      · simp [hn] at h
    simp [State.lnk, State.setLnk, hne]
  · rfl

/-- A link that sends no blocks is left as it is. -/
theorem eachNat_blockTo_silent (b : KBlock) (s : State) (ls : List Nat) (l : Nat) (h : sendsBlocks s l = false) :
    (eachNat (blockTo b) s ls).lnk l = s.lnk l := by
  induction ls generalizing s with
  | nil => rfl
  | cons n ls ih => rw [eachNat, ih _ (by rwa [sendsBlocks_blockTo]), blockTo_lnk_other b s n l (.inr h)]

/-- A link of the list that sends blocks has sent this one last. -/
theorem eachNat_blockTo_sends (b : KBlock) (s : State) (ls : List Nat) (l : Nat) (hs : sendsBlocks s l = true)
    (h : l ∈ ls ∨ (s.lnk l).soc = some b) : ((eachNat (blockTo b) s ls).lnk l).soc = some b := by
  induction ls generalizing s with
  | nil => simpa [eachNat] using h
  | cons n ls ih =>
    rw [eachNat]
    apply ih _ (by rwa [sendsBlocks_blockTo])
    by_cases hn : n = l
    · subst hn; exact .inr (blockTo_lnk_same b s n hs)
    · rw [blockTo_lnk_other b s n l (.inl hn)]
      exact h.imp_left fun hm => (List.mem_cons.mp hm).resolve_left (Ne.symm hn)

theorem exec_sampleMark (s : State) (b : KBlock) (hb : s.cyc.block = some b) (hc : s.cycling = true) (hst : s.standby = false)
    (ho : s.fld F.CYC_SAMPLE_OFS_US ≠ 0) : exec .sampleMark s = .next (sendBlock s (markBlock s b)) := by
  show execSampleMark s = _
  simp [execSampleMark, hb, hc, hst, ho]

theorem exec_sampleMark_none (s : State) (h : s.cyc.block = none ∨ s.fld F.CYC_SAMPLE_OFS_US = 0 ∨ s.standby = true) :
    exec .sampleMark s = .next s := by
  show execSampleMark s = _
  unfold execSampleMark
  split
  · next b hb =>
    rw [if_neg]
    rcases h with h | h | h
    · simp [hb] at h
    · simp [h]
    · simp [h]
  · rfl

/-! ### Dispatch start (R54, R149, R152) -/

theorem openQueues_only (s : State) : State.onlyQueues { s with dpr := { s.dpr with open' := true } } (openQueues s) :=
  makeReady_only _ _

theorem dispatchUnit_service (s : State) (c : Nat) (h : s.service = true) : dispatchUnit s c = s := by
  simp [dispatchUnit, h]

theorem stealArbiter_service (s : State) (h : s.service = true) : stealArbiter s = s := by
  simp [stealArbiter, h]

/-! ### The snapshot copy (R187) -/

theorem State.onlyMem_trans {s t u : State} (h : s.onlyMem t) (k : t.onlyMem u) : s.onlyMem u := by
  obtain ⟨m, rfl⟩ := h; obtain ⟨n, rfl⟩ := k; exact ⟨n, rfl⟩

theorem State.onlyMem_foldl {α : Type} (f : State → α → State) (h : ∀ (t : State) (e : α), t.onlyMem (f t e)) (s : State) (l : List α) :
    s.onlyMem (l.foldl f s) := by
  induction l generalizing s with
  | nil => exact ⟨s.mem, rfl⟩
  | cons e l ih => exact State.onlyMem_trans (h s e) (ih (f s e))

theorem snapCopy_only (s : State) : s.onlyMem (snapCopy s) := by
  unfold snapCopy; dsimp only
  refine State.onlyMem_trans (State.onlyMem_foldl _ (fun t e => ?_) s _) (State.onlyMem_foldl _ (fun t e => t.onlyMem_setBytes _ _) _ _)
  split
  · exact t.onlyMem_setBytes _ _
  · exact ⟨t.mem, rfl⟩

/-- A copy that ends before its boundary waits for it. -/
theorem snapEnd_intime (s : State) (hb : s.flag F.DPR_SNAP_STATUS_BUSY = true) (hl : s.dpr.snapLate = false) :
    ∃ r m, snapEnd s = { s with regs := r, mem := m, dpr := { s.dpr with snapAll := false, snapDone := true } } := by
  obtain ⟨m, hm⟩ := snapCopy_only s
  refine ⟨((snapCopy s).setFld F.DPR_SNAP_STATUS_BUSY 0).regs, m, ?_⟩
  simp [snapEnd, hb, hm, hl, State.setFld, State.setReg]

theorem exec_snapshotCopyEnd (s : State) (h : (snapEnd s).twl.setDue = false) : exec .snapshotCopyEnd s = .next (snapEnd s) := by
  show execSnapshotCopyEnd s = _
  simp [execSnapshotCopyEnd, h]

/-! ### The OUT deadline (R61 to R64) -/

/-- After the OUT deadline no entry stands in a queue or in the bitmap (R63). -/
theorem closeCompute_runs (s : State) (e : Nat × BlkRun) (h : e ∈ (closeCompute s).dpr.runs) :
    e.2.state ≠ .ready ∧ e.2.state ≠ .overflow := by
  have hkeep := (List.mem_filter.mp h).2
  simpa using hkeep

/-! ### The statement -/

/-- Settles O24: the sample mark by what `sendBlock` does at each link, dispatch start by the frame of `openQueues`, and every other
event by the branch of its row that the premises choose. -/
theorem cycleEvents : Obligations.CycleEvents := by
  refine ⟨fun s b hb hc hst ho => ?_, exec_sampleMark_none, fun s hc hd hst hsv hopen => ⟨?_, fun u => ?_⟩, fun s c hs => ⟨?_, ?_⟩,
    fun s hc hcut hst hsv => ?_, fun s hc hcut hst hsv => ?_, fun s hc hcut hst => ?_, fun s hc hd hst => ?_, fun s hc hd hst => ?_,
    fun s => ⟨rfl, closeCompute_runs s⟩, fun s hb hl hset => ?_, fun s hc hd hh => ?_⟩
  · have he := exec_sampleMark s b hb hc hst ho
    obtain ⟨x, hx⟩ := eachNat_blockTo_only (markBlock s b) { s with cyc := { s.cyc with block := some (markBlock s b) } } (List.range 24)
    have hsend := (sendBlock_eq s (markBlock s b)).trans hx
    refine ⟨_, markBlock s b, he, ?_, markBlock_cycle s b, markBlock_flags s b, rfl, blockOk_mkBlock _ _ _, fun l hl hs => ?_,
      fun l hs => ?_, ?_, ?_, ?_⟩
    · rw [hsend]
    · exact eachNat_blockTo_sends _ _ _ l hs (.inl (List.mem_range.mpr hl))
    · exact eachNat_blockTo_silent _ _ _ l hs
    · rw [hsend]
    · rw [hsend]
    · rw [hsend]
  · show execDispatchStart s = _
    simp [execDispatchStart, hc, hd, hst, hsv, hopen]
  · have h := openQueues_only u
    exact ⟨h.open_eq, h.mem_eq, h.slots_eq⟩
  · exact congrArg Host.Outcome.next (dispatchUnit_service s c.val hs)
  · exact congrArg Host.Outcome.next (stealArbiter_service s hs)
  · show execInputCutoff s = _
    simp [execInputCutoff, hc, hcut, hst, hsv]
  · show execInputCutoff s = _
    simp [execInputCutoff, hc, hcut, hst, hsv]
  · show execInputCutoff s = _
    simp [execInputCutoff, hc, hcut, hst]
  · show execOutDeadline s = _
    simp [execOutDeadline, hc, hd, hst]
  · show execOutDeadline s = _
    simp [execOutDeadline, hc, hd, hst]
  · obtain ⟨r, m, h⟩ := snapEnd_intime s hb hl
    exact ⟨_, exec_snapshotCopyEnd s (by rw [h]; exact hset), rfl, by rw [h], by rw [h]⟩
  · show execApplyInstant s = _
    unfold execApplyInstant
    rw [if_pos (by simp [hc, hd, hh])]
    exact (apply_ite Host.Outcome.next _ _ _).symm

end Sys2Proof.Machine
end

section
/-! How evaluations end (R56, R89, R92, R156, R160, R165, R166): reports, the dispatch budget, and retirement. -/

namespace Sys2Proof.Machine

/-! ### Reports (R56, R92, R166) -/

theorem limFlush_empty (s : State) (h : s.dpr.limQueue = []) : limFlush s = s := by
  simp [limFlush, h]

theorem engineReport_evaluation (s : State) (n : Nat) (v : Eval) (hst : (s.le n).k.state = .drain) (hbuf : (s.le n).k.buf = [])
    (hh : s.dbgHalted = false) (hinit : (s.le n).k.init = false) (hev : (s.le n).k.ev = some v) :
    engineReport s n =
      (let c := s.le n
       let s1 := updLe s n (fun c => { r := { c.r with lsePend := false }, k := { c.k with state := .idle, init := false, ev := none } })
       let s2 := recordReport s1 v (reportCode c.r)
       trcEmit s2 (n / 16) (pktReport s2 n v.blk ((reportCode c.r).getD 0x0A) (c.r.ecnt % 65536))) := by
  simp [engineReport, hst, hbuf, hh, hinit, hev]

section
variable (s : State) (v : Eval) (hbg : v.bg = false) (hlate : v.late = false)
include hbg hlate

theorem recordReport_lse : recordReport s v none = failBlock (s.countReg R.CYC_LSE_INVAL) v.blk 4 0x0A := by
  simp [recordReport, hbg, hlate]

theorem recordReport_good (h : v.lse = false) : recordReport s v (some 0) = blockGood s v.blk := by
  simp [recordReport, hbg, hlate, h]

theorem recordReport_lateStore (h : v.lse = true) :
    recordReport s v (some 0) = failBlock (s.countReg R.CYC_LSE_INVAL) v.blk 4 0x0A := by
  simp [recordReport, hbg, hlate, h]

theorem recordReport_code (h : v.lse = false) (k : Nat) (h0 : k ≠ 0) (hA : k ≠ 0x0A) :
    recordReport s v (some k) = failBlock s v.blk 1 k := by
  simp [recordReport, hbg, hlate, h]

end

/-! ### The dispatch budget (R156, R165) -/

/-- The evaluation of an engine that runs has used up its budget, or may have while clocks pass that no row charges. -/
def atBudget (s : State) (n : Nat) (v : Eval) : Prop :=
  (s.le n).k.ev = some v ∧ (v.budget ≤ (s.le n).r.ecnt ∨ (s.le n).k.idles = true) ∧
    ((s.le n).k.state = .task ∨ (s.le n).k.state = .kernel ∨ (s.le n).k.state = .drain)

/-- An evaluation at its budget is counted; its block is quarantined where it was suspect before, else becomes suspect. -/
theorem budgetOverrun_atBudget (s : State) (n : Nat) (v : Eval) (h : atBudget s n v) :
    budgetOverrun s n =
      if has s.dpr.suspect v.blk && s.flag F.DPR_CTRL_QUAR_EN then quarantineReset (s.countReg R.DPR_OVERRUN_CNT) n v
      else retireEngine { s.countReg R.DPR_OVERRUN_CNT with dpr := { s.dpr with suspect := addTo s.dpr.suspect v.blk } } n 1 := by
  obtain ⟨hev, hused, hrun⟩ := h
  have hdue : ¬(((s.le n).r.ecnt < v.budget ∧ (s.le n).k.idles = false) ∨
      ¬((s.le n).k.state = .task ∨ (s.le n).k.state = .kernel ∨ (s.le n).k.state = .drain)) := by
    rintro (⟨hlt, hidle⟩ | hstop)
    · rcases hused with hle | hid
      · omega
      · simp [hidle] at hid
    · exact hstop hrun
  have hdpr : (s.countReg R.DPR_OVERRUN_CNT).dpr = s.dpr := by
    obtain ⟨r, hr⟩ := s.onlyRegs_count ⟨R.DPR_OVERRUN_CNT, 0, 32⟩
    rw [State.countReg, hr]
  have hflag : (s.countReg R.DPR_OVERRUN_CNT).flag F.DPR_CTRL_QUAR_EN = s.flag F.DPR_CTRL_QUAR_EN :=
    State.flag_congr (s.reg_countReg_ne _ _ (by decide))
  unfold budgetOverrun
  simp only [hev, if_neg hdue, hdpr, hflag]

/-! ### Retirement (R158 to R160) -/

theorem resetLe_le_same (s : State) (n : Nat) (st : ProcState) :
    ((resetLe s n st).le n).k.state = st ∧ ((resetLe s n st).le n).k.ev = none ∧ ((resetLe s n st).le n).k.buf = [] := by
  simp [resetLe]

theorem resetLe_le_other (s : State) (n m : Nat) (st : ProcState) (h : m ≠ n) : (resetLe s n st).le m = s.le m :=
  State.le_setLe_ne _ n m _ h

/-- `DPR_LAST_RETIRE` tells a retirement, `DPR_RETIRE_CNT` counts it, and source 39 raises it (R158). -/
def retireNoted (s : State) (w : Word) : State := dprEvent ((s.setReg R.DPR_LAST_RETIRE w).countReg R.DPR_RETIRE_CNT) 0

theorem retireNoted_only (s : State) (w : Word) : s.onlyQueues (retireNoted s w) :=
  (State.onlyRegs_trans (State.onlyRegs_trans (s.onlyRegs_setReg _ w) (State.onlyRegs_count _ _)) (evcIf_only _ _ _ _)).toQueues

theorem retireNoted_last (s : State) (w : Word) : (retireNoted s w).reg R.DPR_LAST_RETIRE = w := by
  rw [retireNoted, dprEvent_reg _ 0 _ (by decide) (by decide), State.reg_countReg_ne _ _ _ (by decide), State.reg_setReg]

theorem bumpGen_only (s : State) (i : Nat) : s.onlyQueues (s.bumpGen i) := ⟨s.regs, _, rfl, rfl⟩

theorem abandoned_only (s : State) (v : Eval) (k : Nat) : s.onlyQueues (abandoned s v k) := by
  unfold abandoned; dsimp only
  split
  · exact (s.onlyRegs_count _).toQueues
  · split
    · exact s.onlyQueues_self
    · split
      · exact State.onlyQueues_trans (State.onlyQueues_trans (s.onlyQueues_setRun _ _) (State.onlyRegs_count _ _).toQueues)
          (place_only _ _)
      · obtain ⟨x, hx⟩ := failBlock_only s v.blk 5 k
        exact ⟨s.regs, _, hx, rfl⟩

theorem abandoned_last (s : State) (v : Eval) (k : Nat) : (abandoned s v k).reg R.DPR_LAST_RETIRE = s.reg R.DPR_LAST_RETIRE := by
  unfold abandoned; dsimp only
  split
  · exact s.reg_countReg_ne _ _ (by decide)
  · split
    · rfl
    · split
      · rw [place_reg _ _ _ (by decide) (by decide), State.reg_countReg_ne _ _ _ (by decide), State.reg_setRun]
      · obtain ⟨x, hx⟩ := failBlock_only s v.blk 5 k
        rw [hx, State.reg_withDpr]

section
variable (s : State) (n k : Nat) (hr : (s.le n).k.state ≠ .retired) (ho : (s.le n).k.state ≠ .off)
include hr ho

theorem retireEngine_free (hev : (s.le n).k.ev = none) :
    retireEngine s n k = retireNoted (resetLe s n .retired) (word (2 ^ 31 + 2 ^ 15 + k * 256 + n)) := by
  simp [retireEngine, retireNoted, hr, ho, hev]

theorem retireEngine_busy (v : Eval) (hev : (s.le n).k.ev = some v) :
    retireEngine s n k =
      abandoned (retireNoted ((resetLe s n .retired).bumpGen v.blk) (word (2 ^ 31 + v.blk * 2 ^ 16 + k * 256 + n))) v k := by
  simp [retireEngine, retireNoted, hr, ho, hev]

/-- A retirement resets the engine, and changes no engine but this one. -/
theorem retireEngine_le (m : Nat) : (retireEngine s n k).le m = (resetLe s n .retired).le m := by
  rcases hev : (s.le n).k.ev with _ | v
  · rw [retireEngine_free s n k hr ho hev, (retireNoted_only _ _).le_eq]
  · rw [retireEngine_busy s n k hr ho v hev, (abandoned_only _ _ _).le_eq, (retireNoted_only _ _).le_eq, (bumpGen_only _ _).le_eq]

end

theorem exec_engineClockGate (n : Fin 64) (s : State) (h : (s.le n.val).k.state = .idle) :
    exec (.engineClockGate n) s = .next (updLe s n.val (fun c => { c with k := { c.k with gated := true } })) := by
  show execEngineClockGate n s = _
  simp [execEngineClockGate, h]

/-! ### The statement -/

/-- Settles O28: each way an evaluation ends is one branch of the dispatcher's operations, and what follows a retirement changes
neither the engines nor `DPR_LAST_RETIRE`. -/
theorem evaluationsEnd : Obligations.EvaluationsEnd := by
  refine ⟨fun n s v hst hbuf hh hinit hev => ?_, limFlush_empty, fun s v hbg hlate => ?_, failBlock_run,
    fun n s v hev hused hrun => ?_, fun n s k hr ho => ?_, fun n s ha hr ho hev => ?_, fun n s hi => ?_⟩
  · exact congrArg (fun t => Host.Outcome.next (limFlush t)) (engineReport_evaluation s n.val v hst hbuf hh hinit hev)
  · exact ⟨recordReport_lse s v hbg hlate, fun h => ⟨recordReport_good s v hbg hlate h, recordReport_code s v hbg hlate h⟩,
      recordReport_lateStore s v hbg hlate⟩
  · have he : exec (.budgetOverrun n) s = .next (limFlush _) :=
      congrArg (fun t => Host.Outcome.next (limFlush t)) (budgetOverrun_atBudget s n.val v ⟨hev, hused, hrun⟩)
    exact ⟨fun hs => by rw [he, if_neg (by simp [hs])], fun hs hq => by rw [he, if_pos (by simp [hs, hq])]⟩
  · obtain ⟨hstate, hnone, -⟩ := resetLe_le_same s n .retired
    rw [retireEngine_le s n k hr ho n]
    refine ⟨hstate, hnone, ?_⟩
    rcases hev : (s.le n).k.ev with _ | v
    · rw [retireEngine_free s n k hr ho hev, retireNoted_last]; simp
    · rw [retireEngine_busy s n k hr ho v hev, abandoned_last, retireNoted_last]; simp
  · obtain ⟨hstate, -, hbuf⟩ := resetLe_le_same s n.val .retired
    have hle := retireEngine_le s n.val 5 hr ho
    refine ⟨_, atReg_open s _ _ _ ha, by rw [hle]; exact hstate, by rw [hle]; exact hbuf, ?_, fun m hm => ?_⟩
    · rw [retireEngine_free s n.val 5 hr ho hev, retireNoted_last]
    · rw [hle, resetLe_le_other s n.val m _ hm]
  · refine ⟨_, exec_engineClockGate n s hi, ?_, ?_, fun m hm => s.le_setLe_ne n.val m _ hm⟩
    · rw [updLe, State.le_setLe]
    · rw [updLe, State.le_setLe]

end Sys2Proof.Machine
end

section
/-! Timing sets, and the start and end of cycles (R20, R50, R51, R78). -/

namespace Sys2Proof.Machine

theorem State.reg_withCyc (s : State) (c : Cyc) (b : Nat) : State.reg { s with cyc := c } b = s.reg b := rfl

theorem State.fld_withCyc (s : State) (c : Cyc) (f : Fld) : State.fld { s with cyc := c } f = s.fld f := rfl

theorem State.flag_withCyc (s : State) (c : Cyc) (f : Fld) : State.flag { s with cyc := c } f = s.flag f := rfl

/-! ### The timing set (R50, R51) -/

theorem timingCode_le (s : State) : timingCode s ≤ 7 := by
  unfold timingCode
  dsimp only
  split_ifs <;> decide

/-- COMMIT and CFG_PEND return to 0 when the set is judged. -/
def unmarked (s : State) : State := (s.setFld F.CYC_CTRL_COMMIT 0).setFld F.CYC_STATUS_CFG_PEND 0

/-- The seven registers take their shadow copies. -/
def takeTiming (s t : State) : State := timingRegs.foldl (fun u a => u.setFld ⟨a, 0, 17⟩ (shadowOf s a)) t

/-- CFG_ERR and the code of the rule that failed. -/
def showCode (s : State) (code : Nat) : State := (s.setFld F.CYC_STATUS_CFG_ERR 1).setFld F.CYC_STATUS_CFG_ERR_CODE code

theorem judgeTiming_taken (s : State) (hc : s.flag F.CYC_CTRL_COMMIT = true) (h : timingCode s = 0) :
    judgeTiming s = { takeTiming s (unmarked s) with cyc := { (takeTiming s (unmarked s)).cyc with shadow := [] } } := by
  simp [judgeTiming, takeTiming, unmarked, hc, h]

theorem judgeTiming_refused (s : State) (hc : s.flag F.CYC_CTRL_COMMIT = true) (h : timingCode s ≠ 0) :
    judgeTiming s = { cycEvent (showCode (unmarked s) (timingCode s)) 2 with
      cyc := { (cycEvent (showCode (unmarked s) (timingCode s)) 2).cyc with shadow := [] } } := by
  simp [judgeTiming, showCode, unmarked, hc, h]

theorem foldl_setFld_reg (v : Nat → Nat) (l : List Nat) (s : State) (b : Nat) (h : b ∉ l) :
    (l.foldl (fun u a => u.setFld ⟨a, 0, 17⟩ (v a)) s).reg b = s.reg b := by
  induction l generalizing s with
  | nil => rfl
  | cons a l ih =>
    rw [List.mem_cons, not_or] at h
    obtain ⟨hne, hrest⟩ := h
    rw [List.foldl_cons, ih _ hrest, State.reg_setFld_ne _ _ _ b hne]

theorem foldl_setFld_fld (v : Nat → Nat) (l : List Nat) (hl : l.Nodup) (s : State) (a : Nat) (h : a ∈ l) :
    (l.foldl (fun u a => u.setFld ⟨a, 0, 17⟩ (v a)) s).fld ⟨a, 0, 17⟩ = v a % 2 ^ 17 := by
  induction l generalizing s with
  | nil => cases h
  | cons b l ih =>
    obtain ⟨hb, hl⟩ := List.nodup_cons.mp hl
    rw [List.foldl_cons]
    by_cases hab : a = b
    · subst hab
      rw [State.fld_congr (foldl_setFld_reg v l _ a hb), State.fld_setFld _ _ _ (by simp)]
    · exact ih hl _ ((List.mem_cons.mp h).resolve_left hab)

theorem takeTiming_reg (s t : State) (b : Nat) (h : b ∉ timingRegs) : (takeTiming s t).reg b = t.reg b :=
  foldl_setFld_reg (shadowOf s) timingRegs t b h

theorem showCode_reg (s : State) (code b : Nat) (h : b ≠ R.CYC_STATUS) : (showCode s code).reg b = s.reg b := by
  rw [showCode, State.reg_setFld_ne _ _ _ b h, State.reg_setFld_ne _ _ _ b h]

theorem unmarked_reg (s : State) (b : Nat) (hc : b ≠ R.CYC_CTRL) (h : b ≠ R.CYC_STATUS) : (unmarked s).reg b = s.reg b := by
  rw [unmarked, State.reg_setFld_ne _ _ _ b h, State.reg_setFld_ne _ _ _ b hc]

theorem unmarked_commit (s : State) : (unmarked s).flag F.CYC_CTRL_COMMIT = false := by
  rw [unmarked, State.flag_congr (State.reg_setFld_ne _ _ _ _ (by decide)), State.flag_setFld _ _ _ (by decide)]; rfl

theorem unmarked_pend (s : State) : (unmarked s).flag F.CYC_STATUS_CFG_PEND = false := by
  rw [unmarked, State.flag_setFld _ _ _ (by decide)]; rfl

theorem showCode_flag_pend (s : State) (code : Nat) : (showCode s code).flag F.CYC_STATUS_CFG_PEND = s.flag F.CYC_STATUS_CFG_PEND := by
  rw [State.flag, State.flag, showCode, State.fld_setFld_below _ _ _ _ (by decide) (by decide) (by decide),
    State.fld_setFld_below _ _ _ _ (by decide) (by decide) (by decide)]

theorem showCode_flag_err (s : State) (code : Nat) : (showCode s code).flag F.CYC_STATUS_CFG_ERR = true := by
  rw [State.flag, showCode, State.fld_setFld_below _ _ _ _ (by decide) (by decide) (by decide), State.fld_setFld _ _ _ (by decide)]; rfl

theorem showCode_code (s : State) (code : Nat) (h : code ≤ 7) : (showCode s code).fld F.CYC_STATUS_CFG_ERR_CODE = code := by
  rw [showCode, State.fld_setFld _ _ _ (by decide)]
  exact Nat.mod_eq_of_lt (by simp only; omega)

/-- The registers of the timing set are their own, and lie above the Event Controller. -/
theorem timingRegs_apart (a : Nat) (h : a ∈ timingRegs) : a ≠ R.CYC_CTRL ∧ a ≠ R.CYC_STATUS ∧ 0x40004280 ≤ a := by
  revert h a; decide

theorem judgeTiming_takes (s : State) (hc : s.flag F.CYC_CTRL_COMMIT = true) (h : timingCode s = 0) (a : Nat) (ha : a ∈ timingRegs) :
    (judgeTiming s).fld ⟨a, 0, 17⟩ = shadowOf s a % 2 ^ 17 := by
  rw [judgeTiming_taken s hc h, State.fld_withCyc]
  exact foldl_setFld_fld (shadowOf s) timingRegs (by decide) _ a ha

/-- What the refusal shows is what `showCode` puts there: the event changes the Event Controller alone. -/
theorem judgeTiming_refused_reg (s : State) (hc : s.flag F.CYC_CTRL_COMMIT = true) (h : timingCode s ≠ 0) (b : Nat)
    (hb : 0x40004280 ≤ b) : (judgeTiming s).reg b = (showCode (unmarked s) (timingCode s)).reg b := by
  rw [judgeTiming_refused s hc h, State.reg_withCyc, cycEvent_reg _ 2 b (by decide) hb]

theorem judgeTiming_refused_keeps (s : State) (hc : s.flag F.CYC_CTRL_COMMIT = true) (h : timingCode s ≠ 0) (a : Nat)
    (ha : a ∈ timingRegs) : (judgeTiming s).reg a = s.reg a := by
  obtain ⟨hctrl, hstatus, hlo⟩ := timingRegs_apart a ha
  rw [judgeTiming_refused_reg s hc h a hlo, showCode_reg _ _ a hstatus, unmarked_reg s a hctrl hstatus]

theorem judgeTiming_unmarks (s : State) (hc : s.flag F.CYC_CTRL_COMMIT = true) :
    (judgeTiming s).flag F.CYC_CTRL_COMMIT = false ∧ (judgeTiming s).flag F.CYC_STATUS_CFG_PEND = false ∧
      (judgeTiming s).cyc.shadow = [] := by
  by_cases h : timingCode s = 0
  · refine ⟨?_, ?_, by rw [judgeTiming_taken s hc h]⟩
    · rw [judgeTiming_taken s hc h, State.flag_withCyc, State.flag_congr (takeTiming_reg _ _ _ (by decide)), unmarked_commit]
    · rw [judgeTiming_taken s hc h, State.flag_withCyc, State.flag_congr (takeTiming_reg _ _ _ (by decide)), unmarked_pend]
  · refine ⟨?_, ?_, by rw [judgeTiming_refused s hc h]⟩
    · rw [State.flag_congr (judgeTiming_refused_reg s hc h _ (by decide)), State.flag_congr (showCode_reg _ _ _ (by decide)),
        unmarked_commit]
    · rw [State.flag_congr (judgeTiming_refused_reg s hc h _ (by decide)), showCode_flag_pend, unmarked_pend]

/-- While the cycle runs a committed set is marked and waits (R50). -/
theorem submitTiming_running (s : State) (h : s.cycEn = true) :
    submitTiming s = (s.setFld F.CYC_CTRL_COMMIT 1).setFld F.CYC_STATUS_CFG_PEND 1 := by
  have hen : ((s.setFld F.CYC_CTRL_COMMIT 1).setFld F.CYC_STATUS_CFG_PEND 1).cycEn = true := by
    rw [State.cycEn, State.flag, State.fld_setFld_other _ _ _ _ (by decide), State.fld_setFld_below _ _ _ _ (by decide) (by decide) (by decide)]
    exact h
  rw [submitTiming, if_pos hen]

/-! ### What a start or a stop of the cycle leaves (R78) -/

/-- The cycle's own state, its control register, and its number. -/
def State.cycleView (s : State) : Cyc × Word × Word := (s.cyc, s.reg R.CYC_CTRL, s.reg R.CYC_CYCNUM)

/-- The register is neither the control register of the cycle nor its number. -/
def offCycle (a : Nat) : Prop := R.CYC_CTRL ≠ a ∧ R.CYC_CYCNUM ≠ a

theorem cycleView_setReg (s : State) (a : Nat) (v : Word) (h : offCycle a) : (s.setReg a v).cycleView = s.cycleView := by
  obtain ⟨hctrl, hnum⟩ := h
  rw [State.cycleView, State.reg_setReg_ne _ _ _ _ hctrl, State.reg_setReg_ne _ _ _ _ hnum]; rfl

theorem cycleView_setFld (s : State) (f : Fld) (v : Nat) (h : offCycle f.reg) : (s.setFld f v).cycleView = s.cycleView :=
  cycleView_setReg s f.reg _ h

theorem cycleView_setRegBit (s : State) (a k : Nat) (v : Bool) (h : offCycle a) : (s.setRegBit a k v).cycleView = s.cycleView :=
  cycleView_setReg s a _ h

theorem cycleView_count (s : State) (f : Fld) (h : offCycle f.reg) : (s.count f).cycleView = s.cycleView := by
  unfold State.count
  split
  · exact cycleView_setFld s f _ h
  · rfl

theorem cycleView_evcIf (s : State) (en : Fld) (a k : Nat) (h : a + k < 256) : (evcIf s en a k).cycleView = s.cycleView := by
  obtain ⟨r, hr⟩ := evcIf_only s en a k
  rw [State.cycleView, evcIf_reg_above s en a k _ h (by decide), evcIf_reg_above s en a k _ h (by decide), hr]; rfl

theorem cycleView_setBytes (s : State) (a : Nat) (l : List Byte) : (s.setBytes a l).cycleView = s.cycleView := by
  obtain ⟨m, h⟩ := s.onlyMem_setBytes a l
  rw [h]; rfl

theorem cycleView_withAgm (s : State) (x : Agm) : State.cycleView { s with agm := x } = s.cycleView := rfl

theorem cycleView_withHif (s : State) (x : Hif) : State.cycleView { s with hif := x } = s.cycleView := rfl

theorem cycleView_eachNat (f : State → Nat → State) (l : List Nat) (h : ∀ k ∈ l, ∀ t, (f t k).cycleView = t.cycleView) (s : State) :
    (eachNat f s l).cycleView = s.cycleView := by
  induction l generalizing s with
  | nil => rfl
  | cons k l ih =>
    rw [eachNat, ih (fun j hj => h j (List.mem_cons_of_mem k hj)), h k List.mem_cons_self]

/-! The events of partitions (R28, R296 to R298). -/

theorem cycleView_sendVector (s : State) (v : Nat) : (sendVector s v).cycleView = s.cycleView := by
  unfold sendVector; dsimp only
  split <;> rfl

theorem cycleView_devEvt (s : State) (k : Nat) : (devEvt s k).cycleView = s.cycleView := by
  have hbit : (s.setRegBit R.HIF_DEV_EVT k true).cycleView = s.cycleView := cycleView_setRegBit s _ k true ⟨by decide, by decide⟩
  unfold devEvt; dsimp only
  split
  · rfl
  · split
    · rw [cycleView_sendVector, hbit]
    · exact hbit

/-- The pages of the partitions lie above the periphery. -/
theorem offCycle_pstat (part : Nat) : offCycle (R.HIF_PSTAT part) := by
  unfold offCycle; simp only [R.CYC_CTRL, R.CYC_CYCNUM, R.HIF_PSTAT]; omega

theorem cycleView_postEvent (s : State) (part type : Nat) (data : List Nat) : (postEvent s part type data).cycleView = s.cycleView := by
  unfold postEvent; dsimp only
  split
  · rfl
  · split
    · rfl
    · rw [cycleView_devEvt, cycleView_withHif, cycleView_count _ _ (offCycle_pstat part), State.countReg,
        cycleView_count _ _ ⟨by decide, by decide⟩]
      rfl

theorem cycleView_postEvents (s : State) (type : Nat) (data : List Nat) (l : List Nat) :
    (postEvents s type data l).cycleView = s.cycleView := by
  induction l generalizing s with
  | nil => rfl
  | cons p l ih => rw [postEvents, ih, cycleView_postEvent]

theorem cycleView_healthTell (s : State) : (healthTell s).cycleView = s.cycleView := by
  unfold healthTell; dsimp only
  split
  · rfl
  · rw [cycleView_postEvents, cycleView_withHif]

/-! Caps (R58, R60, R167, R206). -/

theorem cycleView_capStep (s : State) (c : Nat) (h : c < 4) : (capStep s c).cycleView = s.cycleView := by
  have hcap : offCycle (R.CYC_ADM_CAPC c) := by unfold offCycle; simp only [R.CYC_CTRL, R.CYC_CYCNUM, R.CYC_ADM_CAPC]; omega
  unfold capStep; dsimp only
  rw [cycleView_setRegBit _ _ _ _ ⟨by decide, by decide⟩]
  split
  · rw [cycleView_setRegBit _ _ _ _ ⟨by decide, by decide⟩, cycleView_setFld _ _ _ hcap]
  · exact cycleView_setFld _ _ _ hcap

theorem cycleView_recomputeCaps (s : State) : (recomputeCaps s).cycleView = s.cycleView := by
  have hcaps : (eachNat capStep s (List.range 4)).cycleView = s.cycleView :=
    cycleView_eachNat capStep _ (fun c hc t => cycleView_capStep t c (List.mem_range.mp hc)) s
  unfold recomputeCaps; dsimp only
  split
  · rw [cycleView_healthTell, cycleView_setFld _ _ _ ⟨by decide, by decide⟩, hcaps]
  · exact hcaps

/-! A pending derate (R470, R473, R477). -/

theorem cycleView_agmEvent (s : State) (k : Nat) (h : k < 4) : (agmEvent s k).cycleView = s.cycleView :=
  cycleView_evcIf s _ 69 k (by omega)

theorem cycleView_setAgmBit (s : State) (lo c : Nat) (v : Bool) : (setAgmBit s lo c v).cycleView = s.cycleView :=
  cycleView_setRegBit s _ _ v ⟨by decide, by decide⟩

theorem cycleView_ledgerWrite (s : State) (anchor : Bool) (l : List Byte) : (ledgerWrite s anchor l).cycleView = s.cycleView := by
  unfold ledgerWrite; dsimp only
  split
  · rw [cycleView_withAgm, cycleView_setBytes]
  · rw [cycleView_setFld _ _ _ ⟨by decide, by decide⟩, cycleView_setBytes]

theorem cycleView_record (s : State) (kind cluster : Nat) : (record s kind cluster).cycleView = s.cycleView := by
  unfold record ledgerPut
  split
  · rfl
  · split
    · exact cycleView_ledgerWrite _ _ _
    · split
      · rfl
      · rw [cycleView_agmEvent _ _ (by decide), cycleView_setFld _ _ _ ⟨by decide, by decide⟩]

theorem cycleView_enterWarn (s : State) (c : Nat) : (enterWarn s c).cycleView = s.cycleView := by
  unfold enterWarn; dsimp only
  rw [cycleView_record, cycleView_withAgm, cycleView_agmEvent _ _ (by decide), cycleView_setAgmBit]

theorem cycleView_clearPend (s : State) (c : Nat) : (clearPend s c).cycleView = s.cycleView := by
  unfold clearPend; dsimp only
  rw [cycleView_withAgm, cycleView_setAgmBit]

theorem cycleView_setStep (s : State) (c v : Nat) (h : c < 4) : (setStep s c v).cycleView = s.cycleView := by
  have hreg : offCycle (R.CKG_CLFREQ c) := by unfold offCycle; simp only [R.CYC_CTRL, R.CYC_CYCNUM, R.CKG_CLFREQ]; omega
  unfold setStep; dsimp only
  split
  · exact cycleView_setFld _ _ _ hreg
  · rw [cycleView_setRegBit _ _ _ _ ⟨by decide, by decide⟩, cycleView_setFld _ _ _ hreg]

theorem cycleView_applyDerate (s : State) (c : Nat) (h : c < 4) : (applyDerate s c).cycleView = s.cycleView := by
  unfold applyDerate
  split
  · rw [cycleView_enterWarn, cycleView_record, cycleView_agmEvent _ _ (by decide), cycleView_clearPend, cycleView_setStep _ _ _ h]
  · rfl

/-- A stop of the cycle with the derates that it applies: EN is 0 and no first SOC is due; the cycle's number and whether one is in
progress stay. -/
theorem cycDisable_spec (s : State) : (cycDisable s).cycEn = false ∧ (cycDisable s).cyc.firstDue = false ∧
    (cycDisable s).cyc.inCycle = s.cyc.inCycle ∧ (cycDisable s).reg R.CYC_CYCNUM = s.reg R.CYC_CYCNUM := by
  unfold cycDisable
  extract_lets s1 s2 c1 f1
  have hview : s2.cycleView = s1.cycleView := by
    refine cycleView_eachNat _ _ (fun c hc t => ?_) s1
    split
    · rw [cycleView_recomputeCaps, cycleView_applyDerate t c (List.mem_range.mp hc)]
    · rfl
  simp only [State.cycleView, Prod.mk.injEq] at hview
  obtain ⟨hcyc, hctrl, hnum⟩ := hview
  have hin : s2.cyc.inCycle = s1.cyc.inCycle := by rw [hcyc]
  refine ⟨?_, rfl, hin, hnum.trans (s.reg_setFld_ne _ _ _ (by decide))⟩
  have hen : s1.flag F.CYC_CTRL_EN = false := by rw [s.flag_setFld _ _ (by decide)]; rfl
  exact (State.flag_congr hctrl).trans hen

theorem cycEnable_spec (s : State) (h : s.cycEn = false) : (cycEnable s).cycEn = true ∧ (cycEnable s).cyc.firstDue = true ∧
    (cycEnable s).reg R.CYC_CYCNUM = s.reg R.CYC_CYCNUM ∧ (cycEnable s).mem = s.mem ∧ (cycEnable s).slots = s.slots := by
  unfold cycEnable
  rw [if_neg (by simp [h])]
  refine ⟨?_, rfl, s.reg_setFld_ne _ 1 _ (by decide), rfl, rfl⟩
  exact s.flag_setFld F.CYC_CTRL_EN 1 (by decide)

/-! ### SOCs (R48, R78) -/

theorem endCycle_running (s : State) : (endCycle s).flag F.CYC_STATUS_RUNNING = false :=
  s.flag_setFld F.CYC_STATUS_RUNNING 0 (by decide)

theorem exec_firstSoc (s : State) (he : s.cycEn = true) (hf : s.cyc.firstDue = true) (hh : s.cycHalted = false) :
    exec .firstSoc s = .next (openSoc (endCycle s) (s.reg R.CYC_CYCNUM).toNat true) := by
  show execFirstSoc s = _
  simp [execFirstSoc, he, hf, hh]

theorem exec_soc_next (s : State) (he : s.cycEn = true) (hf : s.cyc.firstDue = false) (hi : s.cyc.inCycle = true)
    (hh : s.cycHalted = false) (hk : s.cyc.skip = 0) :
    exec .soc s = .next (openSoc s (((s.reg R.CYC_CYCNUM).toNat + 1) % 2 ^ 32) false) := by
  show execSoc s = _
  simp [execSoc, he, hf, hi, hh, hk]

theorem exec_soc_last (s : State) (h : s.cycEn = false ∨ s.cyc.firstDue = true) (hi : s.cyc.inCycle = true)
    (hh : s.cycHalted = false) : exec .soc s = .next (endCycle s) := by
  show execSoc s = _
  rcases h with h | h <;> simp [execSoc, h, hi, hh]

/-- The two words of the SOC time are the timebase. -/
theorem tbWords (n : Nat) (h : n < 2 ^ 64) : (word (n / 2 ^ 32)).toNat * 2 ^ 32 + (word n).toNat = n := by
  simp only [word, BitVec.toNat_ofNat]; omega

theorem cycAtSoc_spec (s : State) (n : Nat) (f : Bool) :
    (cycAtSoc s n f).reg R.CYC_CYCNUM = word n ∧ (cycAtSoc s n f).flag F.CYC_STATUS_RUNNING = !s.standby ∧
      (cycAtSoc s n f).reg R.CYC_SOC_TB_HI = word (s.tb / 2 ^ 32) ∧ (cycAtSoc s n f).reg R.CYC_SOC_TB_LO = word s.tb := by
  unfold cycAtSoc
  extract_lets s1 s2
  refine ⟨?_, ?_, ?_, ?_⟩
  · rw [State.reg_withCyc, State.reg_setReg_ne _ _ _ _ (by decide), State.reg_setReg_ne _ _ _ _ (by decide),
      State.reg_setFld_ne _ _ _ _ (by decide), State.reg_setReg]
  · rw [State.flag_withCyc, State.flag_congr ((State.reg_setReg_ne _ _ _ _ (by decide)).trans (State.reg_setReg_ne _ _ _ _ (by decide))),
      State.flag_setFld _ _ _ (by decide)]
    cases s.standby <;> rfl
  · rw [State.reg_withCyc, State.reg_setReg]
  · rw [State.reg_withCyc, State.reg_setReg_ne _ _ _ _ (by decide), State.reg_setReg]

/-! ### The statement -/

/-- Settles O23: the timing set by the two ways in which it is judged, a stop by the view of the cycle that its derates keep, and an SOC
by the registers that open it. -/
theorem timingSetsAndCycleStarts : Obligations.TimingSetsAndCycleStarts := by
  refine ⟨⟨fun s ha he => ?_, judgeTiming_takes, fun s hc h => ⟨judgeTiming_refused_keeps s hc h, ?_, ?_⟩, fun s hc => ?_,
    fun s he hh hs => ⟨?_, rfl⟩⟩, fun s ha he => ⟨_, atReg_open s _ _ _ ha, cycEnable_spec s he⟩,
    fun s ha => ⟨_, atReg_open s _ _ _ ha, cycDisable_spec s⟩, exec_firstSoc, exec_soc_next,
    fun s h hi hh => ⟨_, exec_soc_last s h hi hh, rfl, endCycle_running s, rfl, rfl, rfl⟩, fun s n f _ htb => ?_⟩
  · refine ⟨_, atReg_open s _ _ _ ha, ?_⟩
    rw [submitTiming_running s he]
    refine ⟨?_, ?_, fun a ha => ?_⟩
    · rw [State.flag_congr (State.reg_setFld_ne _ _ _ _ (by decide)), State.flag_setFld _ _ _ (by decide)]; rfl
    · rw [State.flag_setFld _ _ _ (by decide)]; rfl
    · obtain ⟨hctrl, hstatus, -⟩ := timingRegs_apart a ha
      rw [State.reg_setFld_ne _ _ _ a hstatus, State.reg_setFld_ne _ _ _ a hctrl]
  · rw [State.flag_congr (judgeTiming_refused_reg s hc h _ (by decide)), showCode_flag_err]
  · rw [State.fld_congr (judgeTiming_refused_reg s hc h _ (by decide)), showCode_code _ _ (timingCode_le s)]
  · obtain ⟨hcommit, hpend, hshadow⟩ := judgeTiming_unmarks s hc
    exact ⟨hcommit, hpend, hshadow, timingCode_le s⟩
  · show execBoundaryLatch s = _
    simp [execBoundaryLatch, he, hh, hs]
  · obtain ⟨hnum, hrun, hhi, hlo⟩ := cycAtSoc_spec s n f
    exact ⟨hnum, hrun, by rw [hhi, hlo, tbWords s.tb htb], rfl, rfl, rfl⟩

end Sys2Proof.Machine
end

section
/-! Inbound frames (R53, R55, R226, R230, R233, R237, R264, R272): how R233 sorts a frame, what each row does with a frame that R233
refuses and on a link that takes none, and what an accepted one does. -/

namespace Sys2Proof.Machine

/-! ### How R233 sorts a frame -/

theorem frameRes_fault (s : State) (l : Nat) (f : Frame) (h : f.fault = true) : frameRes s l f = .code := by
  simp [frameRes, h]

theorem frameRes_tooLong (s : State) (l : Nat) (f : Frame) (hf : f.fault = false) (h : f.tooLong = true) :
    frameRes s l f = .discard := by
  simp [frameRes, hf, h]

theorem frameRes_check (s : State) (l : Nat) (f : Frame) (hf : f.fault = false) (hl : f.tooLong = false) (ha : f.isAnnounce = false)
    (h : f.check ≠ f.checkOf l f.src.toNat) : frameRes s l f = .crc := by
  simp [frameRes, hf, hl, ha, h]

/-- A frame whose TYPE, CHANNEL, LEN or address R226 and R233 do not allow is discarded. -/
theorem frameRes_misfit (s : State) (l : Nat) (f : Frame) (hf : f.fault = false) (ha : f.isAnnounce = false)
    (hc : f.check = f.checkOf l f.src.toNat)
    (h : inboundType f.type.toNat = false ∨ typeChannel f.type.toNat ≠ some f.channel.toNat ∨ f.len.toNat ≠ f.payload.length ∨
      s.thePlan.station l f.src.toNat = none) : frameRes s l f = .discard := by
  by_cases hlong : f.tooLong = true
  · exact frameRes_tooLong s l f hf hlong
  · unfold frameRes
    rcases h with h | h | h | h <;> simp [hf, ha, hlong, ← hc, h]

/-! ### Links that take no frame, and frames that are refused -/

theorem badRes_of_ok {s : State} {l : Nat} {f : Frame} (h : frameRes s l f = .ok) : badRes s l f = .discard := by
  simp [badRes, h]

/-- Only a link that is down listens (R489). -/
theorem listens_of_linkState (s : State) (l : Nat) (h : s.linkState l ≠ 0) : s.listens l = false := by
  simp [State.listens, h]

theorem inFrame_listening (s : State) (l : Nat) (f : Frame) (h : s.listens l = true) :
    inFrame s l f = if isReport s l f then s.setLnk l { s.lnk l with repSeen := true } else countBad s l (badRes s l f) := by
  unfold inFrame; rw [if_pos h]

theorem inFrame_closed (s : State) (l : Nat) (f : Frame) (hl : s.listens l = false) (h : s.linkState l = 0 ∨ s.linkState l = 5) :
    inFrame s l f = countBad s l (badRes s l f) := by
  unfold inFrame; rw [hl, if_neg Bool.false_ne_true, if_pos h]

theorem announce_closed (s : State) (l : Nat) (f : Frame) (h : s.linkState l = 0 ∨ s.linkState l = 5) :
    announce s l f = countBad s l (badRes s l f) := by
  unfold announce; exact if_pos h

theorem acr_closed (s : State) (l : Nat) (f : Frame) (h : s.linkState l = 0 ∨ s.linkState l = 5) :
    acr s l f = countBad s l (badRes s l f) := by
  unfold acr; exact if_pos h

theorem exec_diagResponse_closed (s : State) (l : Fin 24) (f : Frame) (h : s.linkState l.val = 0 ∨ s.linkState l.val = 5) :
    exec (.diagResponse l f) s = .next (countBad s l.val (badRes s l.val f)) := by
  show execDiagResponse l f s = _
  unfold execDiagResponse; exact if_pos h

/-- On a link that takes frames, one that R233 refuses is counted under its own counter, whichever row delivers it. -/
theorem exec_refused (l : Fin 24) (f : Frame) (s : State) (r : FrameRes) (h0 : s.linkState l.val ≠ 0) (h5 : s.linkState l.val ≠ 5)
    (hr : frameRes s l.val f = r) (hok : r ≠ .ok) :
    exec (.inFrame l f) s = .next (countBad s l.val r) ∧ exec (.acr l f) s = .next (countBad s l.val r) ∧
      exec (.diagResponse l f) s = .next (countBad s l.val r) := by
  have hopen : ¬(s.linkState l.val = 0 ∨ s.linkState l.val = 5) := by simp [h0, h5]
  show Host.Outcome.next (inFrame s l.val f) = _ ∧ Host.Outcome.next (acr s l.val f) = _ ∧ execDiagResponse l f s = _
  unfold inFrame acr execDiagResponse
  simp only [listens_of_linkState s l.val h0, if_neg hopen, hr]
  cases r with
  | ok => exact absurd rfl hok
  | code => simp
  | crc => simp
  | discard => simp

/-! ### IN frames of a station in RUN -/

theorem inFrame_accepted (s : State) (l : Nat) (f : Frame) (c : StnCfg) (h4 : s.linkState l = 4) (hr : frameRes s l f = .ok)
    (hc : s.thePlan.station l f.src.toNat = some c) (ht : f.type = 2) (hrun : s.stnRun l f.src.toNat = true) :
    inFrame s l f = inAccepted s l f c := by
  unfold inFrame
  simp [listens_of_linkState s l (by simp [h4]), h4, hr, hc, ht, hrun]

theorem frameAge_current (s : State) (f : Frame) (h : f.cycle.toNat = cycle16 s) : frameAge s f = 0 := by
  simp [frameAge, h]

theorem frameLate_current (s : State) (f : Frame) (h : frameAge s f = 0) : frameLate s f = s.cyc.cutoff := by
  simp [frameLate, h]

/-- The station's entry with an IN frame of the cycle noted, good or not. -/
def notedIn (s : State) (l st : Nat) : State := s.setStn l st { s.stn l st with inAny := true }

/-- An IN frame of an earlier cycle is late (R55). -/
theorem inAccepted_old (s : State) (l : Nat) (f : Frame) (c : StnCfg) (h0 : 0 < frameAge s f) (h : frameAge s f < 32768) :
    inAccepted s l f c = s.countReg (R.SFL_LATE_FRAME l) := by
  have hlate : frameLate s f = true := by simp [frameLate, h0, h]
  simp [inAccepted, hlate, show frameAge s f ≠ 0 by omega]

/-- One of a cycle to come is discarded. -/
theorem inAccepted_ahead (s : State) (l : Nat) (f : Frame) (c : StnCfg) (h : 32768 ≤ frameAge s f) :
    inAccepted s l f c = s.countReg (R.SFL_RX_DISCARD l) := by
  have hage : frameAge s f ≠ 0 := by omega
  have hlate : frameLate s f = false := by simp [frameLate, hage, h]
  simp [inAccepted, hlate, hage]

theorem inAccepted_afterCutoff (s : State) (l : Nat) (f : Frame) (c : StnCfg) (h : frameAge s f = 0) (hc : s.cyc.cutoff = true) :
    inAccepted s l f c = (notedIn s l f.src.toNat).countReg (R.SFL_LATE_FRAME l) := by
  simp [inAccepted, frameLate_current s f h, hc, h, notedIn]

theorem inAccepted_unfit (s : State) (l : Nat) (f : Frame) (c : StnCfg) (h : frameAge s f = 0) (hc : s.cyc.cutoff = false)
    (hbad : f.flags.toNat.testBit 2 = true ∨ f.payload.length ≠ 4 + 6 * c.nIn ∨ (s.stn l f.src.toNat).inAny = true) :
    inAccepted s l f c = (notedIn s l f.src.toNat).countReg (R.SFL_RX_DISCARD l) := by
  unfold inAccepted notedIn
  simp only [frameLate_current s f h, hc, h, if_true, Bool.false_eq_true, if_false]
  rw [if_pos (Or.inr hbad)]

/-- A good IN frame of a station whose gate is open writes its inputs, is counted, and triggers its dependants (R53). -/
theorem inAccepted_good (s : State) (l : Nat) (f : Frame) (c : StnCfg) (h : frameAge s f = 0) (hc : s.cyc.cutoff = false)
    (h2 : f.flags.toNat.testBit 2 = false) (hlen : f.payload.length = 4 + 6 * c.nIn) (hany : (s.stn l f.src.toNat).inAny = false)
    (h0 : f.flags.toNat.testBit 0 = false) (hseen : (s.stn l f.src.toNat).seen = true) :
    inAccepted s l f c = frameTrigger
      (let s1 := (writeInputs (notedIn s l f.src.toNat) l f.src.toNat c f).countReg (R.SFL_RX_GOOD l)
       s1.setStn l f.src.toNat { s1.stn l f.src.toNat with miss := 0, inNow := true, seen := true }) l f.src.toNat := by
  simp [inAccepted, notedIn, frameLate_current s f h, hc, h, h2, hlen, hany, h0, hseen]

/-! ### Answers -/

/-- An ACR that answers the granted request `k` (R272). -/
theorem acr_granted (s : State) (l : Nat) (f : Frame) (k : Nat) (h4 : s.linkState l = 4) (hr : frameRes s l f = .ok) (ht : f.type = 4)
    (hrun : s.stnRun l f.src.toNat = true) (hlen : 4 ≤ f.payload.length)
    (hk : acyAt s l (fun a => decide (a.station = f.src.toNat ∧ a.state = acyGranted ∧ a.seq = f.seq.toNat)) = some k) :
    acr s l f =
      if f.payLe 2 2 = 1 then
        s.setLnk l { s.lnk l with acyq := (s.lnk l).acyq.modify k (fun a => { a with state := acyWaiting, due := false, sent := 1 }) }
      else acyComplete s l k St.ok (f.payLe 2 2) f.payload := by
  unfold acr
  simp only [h4, hr, ht, hrun, hk]
  simp [show ¬ f.payload.length < 4 by omega]

theorem exec_diagResponse_polled (s : State) (l : Fin 24) (f : Frame) (h4 : s.linkState l.val = 4) (hr : frameRes s l.val f = .ok)
    (ht : f.type = 6) (hlen : f.payload.length = 20) (h3 : (s.stn l.val f.src.toNat).state = 3)
    (hw : (s.stn l.val f.src.toNat).pollWait = true) :
    exec (.diagResponse l f) s =
      .next (s.setStn l.val f.src.toNat { s.stn l.val f.src.toNat with miss := 0, pollWait := false }) := by
  show execDiagResponse l f s = _
  simp [execDiagResponse, h4, hr, ht, hlen, h3, hw]

/-! ### The statement -/

/-- Settles O37: R233 sorts the frame, and each row answers the result of that as its own lemma above says. -/
theorem inboundFrames : Obligations.InboundFrames := by
  refine ⟨fun l f s hl => ?_, fun l f c s h4 hr hc ht hrun h0 hcyc h2 hlen hany => ?_, fun l f c s h4 hr hc ht hrun => ?_,
    fun l f s hl hst hr => ?_, fun l f s h0 h5 => ?_, fun l f s k h4 hr ht hrun hlen hk => ?_, fun l f s h4 hr ht hlen h3 hw => ?_⟩
  · have e : exec (.inFrame l f) s = .next _ := congrArg Host.Outcome.next (inFrame_listening s l.val f hl)
    exact ⟨fun h => by rw [e, if_pos h], fun h => by rw [e, if_neg (by simp [h])]⟩
  · have e : exec (.inFrame l f) s = .next _ := congrArg Host.Outcome.next (inFrame_accepted s l.val f c h4 hr hc ht hrun)
    have hage := frameAge_current s f hcyc
    constructor
    · intro hcut
      rw [e, inAccepted_afterCutoff s l.val f c hage hcut]; rfl
    · intro hcut hseen
      rw [e, inAccepted_good s l.val f c hage hcut h2 hlen hany h0 hseen]; rfl
  · have e : exec (.inFrame l f) s = .next _ := congrArg Host.Outcome.next (inFrame_accepted s l.val f c h4 hr hc ht hrun)
    refine ⟨fun hcyc hcut hbad => ?_, fun hpos hold => ?_, fun hahead => ?_⟩
    · rw [e, inAccepted_unfit s l.val f c (frameAge_current s f hcyc) hcut hbad]; rfl
    · rw [e, inAccepted_old s l.val f c hpos hold]
    · rw [e, inAccepted_ahead s l.val f c hahead]
  · have hd : countBad s l.val (badRes s l.val f) = s.countReg (R.SFL_RX_DISCARD l.val) := by rw [badRes_of_ok hr, countBad]
    rw [← hd]
    exact ⟨congrArg Host.Outcome.next (inFrame_closed s l.val f hl hst), congrArg Host.Outcome.next (announce_closed s l.val f hst),
      congrArg Host.Outcome.next (acr_closed s l.val f hst), exec_diagResponse_closed s l f hst⟩
  · refine ⟨fun hf => ?_, fun hf hlong ha hchk => ?_, fun hf hlong => ?_, fun hf ha hchk hbad => ?_⟩
    · exact exec_refused l f s .code h0 h5 (frameRes_fault s l.val f hf) (by decide)
    · exact exec_refused l f s .crc h0 h5 (frameRes_check s l.val f hf hlong ha hchk) (by decide)
    · exact (exec_refused l f s .discard h0 h5 (frameRes_tooLong s l.val f hf hlong) (by decide)).1
    · exact (exec_refused l f s .discard h0 h5 (frameRes_misfit s l.val f hf ha hchk hbad) (by decide)).1
  · have e : exec (.acr l f) s = .next _ := congrArg Host.Outcome.next (acr_granted s l.val f k h4 hr ht hrun hlen hk)
    exact ⟨fun h => by rw [e, if_pos h], fun h => by rw [e, if_neg h]⟩
  · exact exec_diagResponse_polled s l f h4 hr ht hlen h3 hw

end Sys2Proof.Machine
end

section
/-! The layer under the statements of the loop engines: frames of trace packets (R540), what an instruction that issues leaves to those
behind it (R135), the words that IF reads (R84), and the clocks of a completion (R86). -/

namespace Sys2Proof.Machine

/-! ### Registers and trace alone -/

theorem State.onlyRegsTrace.cpu_eq {s t : State} (h : s.onlyRegsTrace t) (p : ProcId) : t.cpu p = s.cpu p := by
  obtain ⟨r, x, rfl⟩ := h; cases p <;> rfl
theorem State.onlyRegsTrace.mem_eq {s t : State} (h : s.onlyRegsTrace t) : t.mem = s.mem := by obtain ⟨r, x, rfl⟩ := h; rfl
theorem State.onlyRegsTrace.slots_eq {s t : State} (h : s.onlyRegsTrace t) : t.slots = s.slots := by obtain ⟨r, x, rfl⟩ := h; rfl
theorem State.onlyRegsTrace.ecc2_eq {s t : State} (h : s.onlyRegsTrace t) : t.ecc2 = s.ecc2 := by obtain ⟨r, x, rfl⟩ := h; rfl
theorem State.onlyRegsTrace.mcr_eq {s t : State} (h : s.onlyRegsTrace t) : t.mcr = s.mcr := by obtain ⟨r, x, rfl⟩ := h; rfl

/-! ### Issue (R120, R135) -/

/-- Issue changes of the state only what the processor's pipeline leaves to those behind. -/
theorem noted_k (s : State) (p : ProcId) (op : GOp) (e : Enc) (on : Bool) :
    ∃ x, ((noted s p op e on).cpu p).k = { (s.cpu p).k with pipe := x } := by
  rw [noted, State.cpu_updK]; exact ⟨_, rfl⟩

@[simp] theorem noted_buf (s : State) (p : ProcId) (op : GOp) (e : Enc) (on : Bool) :
    ((noted s p op e on).cpu p).k.buf = (s.cpu p).k.buf := by obtain ⟨x, h⟩ := noted_k s p op e on; rw [h]
@[simp] theorem noted_mem (s : State) (p : ProcId) (op : GOp) (e : Enc) (on : Bool) : (noted s p op e on).mem = s.mem := s.updK_mem p _
@[simp] theorem noted_slots (s : State) (p : ProcId) (op : GOp) (e : Enc) (on : Bool) : (noted s p op e on).slots = s.slots :=
  s.updK_slots p _
@[simp] theorem noted_regs (s : State) (p : ProcId) (op : GOp) (e : Enc) (on : Bool) : (noted s p op e on).regs = s.regs := s.updK_regs p _
@[simp] theorem noted_mcr (s : State) (p : ProcId) (op : GOp) (e : Enc) (on : Bool) : (noted s p op e on).mcr = s.mcr := s.updK_mcr p _
@[simp] theorem noted_ecc1 (s : State) (p : ProcId) (op : GOp) (e : Enc) (on : Bool) : (noted s p op e on).ecc1 = s.ecc1 := s.updK_ecc1 p _
@[simp] theorem noted_ecc2 (s : State) (p : ProcId) (op : GOp) (e : Enc) (on : Bool) : (noted s p op e on).ecc2 = s.ecc2 := s.updK_ecc2 p _

section
variable (s : State) (op : GOp) (g : Issue)

@[simp] theorem issued_r : ((issued s op g).cpu g.p).r = (s.cpu g.p).r := noted_r s g.p op g.e true
@[simp] theorem issued_buf : ((issued s op g).cpu g.p).k.buf = (s.cpu g.p).k.buf := noted_buf s g.p op g.e true
@[simp] theorem issued_mem : (issued s op g).mem = s.mem := noted_mem s g.p op g.e true
@[simp] theorem issued_slots : (issued s op g).slots = s.slots := noted_slots s g.p op g.e true
@[simp] theorem issued_regs : (issued s op g).regs = s.regs := noted_regs s g.p op g.e true
@[simp] theorem issued_mcr : (issued s op g).mcr = s.mcr := noted_mcr s g.p op g.e true
@[simp] theorem issued_ecc1 : (issued s op g).ecc1 = s.ecc1 := noted_ecc1 s g.p op g.e true
@[simp] theorem issued_ecc2 : (issued s op g).ecc2 = s.ecc2 := noted_ecc2 s g.p op g.e true

theorem mayRun.issued_noCmp {s : State} {op : GOp} {g : Issue} (h : mayRun s op g) : noCmp (issued s op g) g.p := by
  obtain ⟨_, _, _, _, _, hcmp⟩ := h
  exact noted_noCmp s g.p op g.e true hcmp

end

/-- An executed instruction that issues is judged in the state in which it is noted. -/
theorem gurno_on (s : State) (op : GOp) (g : Issue) (h : issues s g) (hg : guardTrue (s.cpu g.p).r g.e = true) :
    gurno op g s = executed (issued s op g) g.p op g.e (cost s op g) := by
  obtain ⟨hcan, hasync, hfetch, hcorrect⟩ := h
  unfold gurno
  simp only [hcan, hasync, hfetch, hcorrect, hg]
  rfl

/-- A predicated-off one pays its interlocks and goes on (R120). -/
theorem gurno_off (s : State) (op : GOp) (g : Issue) (h : issues s g) (hg : guardTrue (s.cpu g.p).r g.e = false) :
    gurno op g s = predicatedOff (noted s g.p op g.e false) g.p op g.e (wait s g.p op g.e false) := by
  obtain ⟨hcan, hasync, hfetch, hcorrect⟩ := h
  unfold gurno
  simp only [hcan, hasync, hfetch, hcorrect, hg]
  rfl

/-! ### What IF reads (R84) -/

theorem fetchClean.congr {s t : State} {p : ProcId} (h : fetchClean s p) (he : t.ecc2 = s.ecc2) : fetchClean t p :=
  fun n hn => he.trans (h n hn)

/-- From `s` on, IF of a processor has at most corrected words it has read: their count and their marks are all that differs. -/
structure State.ifRead (s : State) (p : ProcId) (t : State) : Prop where
  r : (t.cpu p).r = (s.cpu p).r
  k : ∃ n, (t.cpu p).k = { (s.cpu p).k with eccLim := n }
  mem : t.mem = s.mem
  slots : t.slots = s.slots
  regs : t.regs = s.regs

theorem State.ifRead_self (s : State) (p : ProcId) : s.ifRead p s := ⟨rfl, ⟨_, rfl⟩, rfl, rfl, rfl⟩

theorem State.cpu_withEcc1 (s : State) (l : List Nat) (p : ProcId) : State.cpu { s with ecc1 := l } p = s.cpu p := by cases p <;> rfl

theorem correctLim_ifRead (s : State) (p : ProcId) (words : List Nat) : s.ifRead p (correctLim s p words) := by
  unfold correctLim; dsimp only
  split
  · exact s.ifRead_self p
  · refine ⟨?_, ?_, s.updK_mem p _, s.updK_slots p _, s.updK_regs p _⟩
    · rw [State.cpu_withEcc1, State.cpu_updK]
    · rw [State.cpu_withEcc1, State.cpu_updK]; exact ⟨_, rfl⟩

theorem fetched_ifRead (s : State) (p : ProcId) (words : Fin 64 → List Nat) (h : fetchClean s p) : s.ifRead p (fetched s p words) := by
  cases p with
  | le n =>
    have hclean : (words n).any (has s.ecc2) = false := by simp [h n rfl, has]
    simp only [fetched, hclean]
    exact correctLim_ifRead s _ _
  | mc => exact s.ifRead_self _
  | sp => exact s.ifRead_self _

theorem squashed_ifRead (s : State) (p : ProcId) (pc : Word) (k : Nat) (h : fetchClean s p) : s.ifRead p (squashed s p pc k) :=
  fetched_ifRead s p _ h

/-- A word with an uncorrectable error among those that IF reads retires the engine. -/
theorem fetched_retires (s : State) (n : Fin 64) (words : Fin 64 → List Nat) (a : Nat) (ha : a ∈ words n) (h : has s.ecc2 a = true) :
    fetched s (.le n) words = retireEngine s n.val 2 := by
  have hany : (words n).any (has s.ecc2) = true := List.any_eq_true.mpr ⟨a, ha, h⟩
  simp [fetched, hany]

theorem mem_fetchWords (s : State) (n pc : Nat) (h : pc < 0x8000) : limBase n + pc ∈ fetchWords s n pc := by
  simp [fetchWords, show ¬ 0x8000 ≤ pc by omega]

theorem mem_pathWords (s : State) (n : Fin 64) (k pc : Nat) (h : pc < 0x8000) : limBase n.val + pc ∈ pathWords s n (k + 1) pc := by
  cases k with
  | zero => exact mem_fetchWords s n.val pc h
  | succ k => exact List.mem_append_left _ (mem_fetchWords s n.val pc h)

/-! ### Clocks (R86) -/

@[simp] theorem Proc.advance_ecnt (r : Proc) (e : Enc) : (r.advance e).ecnt = r.ecnt := by
  obtain ⟨p, a, b, c, h⟩ := r.advance_keeps e; rw [h]

theorem complete_le_ecnt (s : State) (n : Fin 64) (e : Enc) (c : Nat) (r : Proc) :
    ((complete s (.le n) e c r).cpu (.le n)).r.ecnt = r.ecnt + c := by
  simp [complete, charge]

end Sys2Proof.Machine
end

section
/-! Transfers of control and returns from the kernel (R84, R97, R99, R127, R128, R136, R138, R139): what BR, CALL, RET, LOOP, SYSC, SRET,
ERET and YIELD leave in the registers of their processor. -/

namespace Sys2Proof.Machine

/-! ### Transfers that the trace shows -/

section
variable (s : State) (p : ProcId) (n : Nat) (r : Proc) (t flow : Word)

/-- A transfer writes the registers that it is given, with PC at its target. -/
theorem jump_traced_r : ∃ m, ((traceFlow (jump s p n r t) p flow).cpu p).r = { r with pc := t &&& 0xFFFFFFFC, ecnt := m } := by
  obtain ⟨m, hm⟩ := jump_cpu s p n r t
  rw [(traceFlow_only _ p flow).cpu_eq, hm]
  exact ⟨m, rfl⟩

theorem jump_traced_clean (h : fetchClean s p) : fetchClean (traceFlow (jump s p n r t) p flow) p :=
  h.congr ((traceFlow_only _ p flow).ecc2_eq.trans (jump_ecc2 s p n r t))

/-- The words that IF squashes behind a transfer change nothing of that. -/
theorem jump_squashed_r (h : fetchClean s p) (pc : Word) (k : Nat) :
    ∃ m, ((squashed (traceFlow (jump s p n r t) p flow) p pc k).cpu p).r = { r with pc := t &&& 0xFFFFFFFC, ecnt := m } := by
  rw [(squashed_ifRead _ p pc k (jump_traced_clean s p n r t flow h)).r]
  exact jump_traced_r s p n r t flow

end

/-! ### BR, CALL and RET (R128, R139) -/

theorem predUpdate_r (s : State) (p : ProcId) (t : Word) (taken predicted : Bool) :
    ((predUpdate s p t taken predicted).cpu p).r = (s.cpu p).r := by rw [predUpdate, State.cpu_updK]

/-- A branch changes PC and the clocks alone. -/
theorem doBr_r (s : State) (p : ProcId) (e : Enc) (c : Nat) (h : fetchClean s p) :
    ∃ m, ((doBr s p e c).cpu p).r = { (s.cpu p).r with pc := branchTarget (s.cpu p).r e &&& 0xFFFFFFFC, ecnt := m } := by
  unfold doBr
  extract_lets r t cond hit s1 s2
  have hr : (s1.cpu p).r = r := by
    unfold s1; split
    · exact predUpdate_r s p t true _
    · rfl
  have hs1 : fetchClean s1 p := h.congr (by
    unfold s1; split
    · exact s.updK_ecc2 p _
    · rfl)
  have hs2 : fetchClean s2 p := jump_traced_clean s1 p _ _ t t hs1
  have hjump : ∃ m, (s2.cpu p).r = { r with pc := t &&& 0xFFFFFFFC, ecnt := m } := by
    rw [← hr]; exact jump_traced_r s1 p _ (s1.cpu p).r t t
  split
  · rw [(fetched_ifRead s2 p _ hs2).r]; exact hjump
  · rw [(squashed_ifRead s2 p _ _ hs2).r]; exact hjump

/-- CALL without a trap pushes the address behind it and transfers. -/
theorem doCall_r (s : State) (p : ProcId) (e : Enc) (c : Nat) (h : fetchClean s p)
    (hfull : (s.cpu p).r.rsDepth = 16 → (s.cpu p).r.rstrap = false) :
    ∃ m, ((doCall s p e c).cpu p).r = { (s.cpu p).r.push ((s.cpu p).r.pc + word (ilen e)) with
      pc := branchTarget (s.cpu p).r e &&& 0xFFFFFFFC, ecnt := m } := by
  unfold doCall
  dsimp only
  rw [if_neg (by rintro ⟨hd, ht⟩; simp [hfull hd] at ht)]
  exact jump_squashed_r s p _ _ _ _ h _ _

/-- RET without a trap transfers to the entry below the top pointer and pops it. -/
theorem doRet_r (s : State) (p : ProcId) (e : Enc) (c : Nat) (h : fetchClean s p)
    (hempty : (s.cpu p).r.rsDepth = 0 → (s.cpu p).r.rstrap = false) :
    ∃ m, ((doRet s p e c).cpu p).r = { (s.cpu p).r.pop with pc := (s.cpu p).r.top &&& 0xFFFFFFFC, ecnt := m } := by
  unfold doRet
  dsimp only
  rw [if_neg (by rintro ⟨hd, ht⟩; simp [hempty hd] at ht)]
  exact jump_squashed_r s p _ _ _ _ h _ _

/-- What was pushed stands on top. -/
theorem Proc.top_push (r : Proc) (v : Word) : (r.push v).top = v := by
  have htop : ((r.rsTop + 1) % 16 + 15) % 16 = r.rsTop % 16 := by omega
  simp [Proc.top, Proc.push, rsGet, htop]

/-! ### LOOP (R136) -/

/-- LOOP's count: X where the encoding says so, else its field. -/
def loopCount (r : Proc) (e : Enc) : Nat := if opdBits e 19 1 = 1 then r.x.toNat % 65536 else opdBits e 10 9

section
variable (s : State) (p : ProcId) (e : Enc) (c : Nat)

/-- A count of 0 skips the body. -/
theorem doLoop_skip (hlen : opdBits e 0 10 ≠ 0) (hc : loopCount (s.cpu p).r e = 0) :
    doLoop s p e c = squashed (jump s p (c + 1) (s.cpu p).r ((s.cpu p).r.pc + word (4 + 4 * opdBits e 0 10))) p ((s.cpu p).r.pc + 4) 1 := by
  unfold doLoop
  dsimp only
  rw [if_neg hlen]
  exact if_pos hc

/-- Another count takes the lowest free level. -/
theorem doLoop_enter (k : Nat) (hlen : opdBits e 0 10 ≠ 0) (hc : loopCount (s.cpu p).r e ≠ 0) (hk : (s.cpu p).r.freeLevel = some k) :
    doLoop s p e c = complete s p e c ((s.cpu p).r.setLp k
      ⟨(s.cpu p).r.pc + 4, (s.cpu p).r.pc + word (4 * opdBits e 0 10), BitVec.ofNat 16 (loopCount (s.cpu p).r e)⟩) := by
  unfold doLoop
  dsimp only
  rw [if_neg hlen, hk]
  exact if_neg hc

/-- A body of 0 words ends the innermost active level. -/
theorem doLoop_leave (k : Nat) (hlen : opdBits e 0 10 = 0) (hk : (s.cpu p).r.innermost = some k) :
    doLoop s p e c = complete s p e c ((s.cpu p).r.setLp k { (s.cpu p).r.lp k with count := 0 }) := by
  unfold doLoop
  dsimp only
  rw [if_pos hlen, hk]

end

theorem jump_skipped_pc (s : State) (p : ProcId) (n : Nat) (r : Proc) (t pc : Word) (k : Nat) (h : fetchClean s p) :
    ((squashed (jump s p n r t) p pc k).cpu p).r.pc = t &&& 0xFFFFFFFC := by
  rw [(squashed_ifRead _ p pc k (h.congr (jump_ecc2 s p n r t))).r, jump_pc]

/-! ### YIELD (R84, R92) -/

/-- The state of a processor in which a YIELD has been executed, before IF's reads behind it. -/
def yielded (s : State) (p : ProcId) (c : Nat) : State := (charge s p c).updK p (fun k => { k with state := .drain })

theorem execYieldOp_eq (s : State) (p : ProcId) (c : Nat) :
    execYieldOp s p c = squashed (yielded s p c) p ((s.cpu p).r.pc + 4) 3 := rfl

@[simp] theorem yielded_ecc2 (s : State) (p : ProcId) (c : Nat) : (yielded s p c).ecc2 = s.ecc2 := by simp [yielded]

/-- The first word behind a YIELD is read, whatever follows. -/
theorem execYieldOp_retires (s : State) (n : Fin 64) (c : Nat) (hpc : ((s.cpu (.le n)).r.pc + 4).toNat < 0x8000)
    (h : has s.ecc2 (limBase n.val + ((s.cpu (.le n)).r.pc + 4).toNat) = true) :
    execYieldOp s (.le n) c = retireEngine (yielded s (.le n) c) n.val 2 := by
  rw [execYieldOp_eq]
  exact fetched_retires _ n _ _ (mem_pathWords _ n 2 _ hpc) (by rwa [yielded_ecc2])

/-! ### The statement on transfers -/

/-- Settles O14: each transfer writes the registers that its lemma above gives, and IF's reads behind it change nothing of them; YIELD's
retire the engine by the word at PC + 4. -/
theorem gurnoTransfers : Obligations.GurnoTransfers := by
  refine ⟨fun g s => ⟨fun hrun hclean => ?_, fun hrun hclean hfull => ?_, fun hrun hclean hempty => ?_⟩,
    fun g s hrun => ⟨fun hlen hc hclean => ?_, fun c k hlen hc hne hk => ?_, fun k hlen hk => ?_, fun n hn hyield hpc hbad => ?_⟩⟩
  · obtain ⟨m, hm⟩ := doBr_r (issued s .br g) g.p g.e (cost s .br g) (hclean.congr (issued_ecc2 s .br g))
    rw [issued_r] at hm
    refine ⟨doBr _ _ _ _, exec_runs (.br g) .br g s rfl hrun, ?_⟩
    rw [hm]; exact ⟨rfl, rfl, rfl⟩
  · obtain ⟨m, hm⟩ := doCall_r (issued s .call g) g.p g.e (cost s .call g) (hclean.congr (issued_ecc2 s .call g))
      (by rw [issued_r]; exact hfull)
    rw [issued_r] at hm
    refine ⟨doCall _ _ _ _, exec_runs (.call g) .call g s rfl hrun, ?_⟩
    rw [hm]; exact ⟨rfl, Proc.top_push _ _, rfl⟩
  · obtain ⟨m, hm⟩ := doRet_r (issued s .ret g) g.p g.e (cost s .ret g) (hclean.congr (issued_ecc2 s .ret g))
      (by rw [issued_r]; exact hempty)
    rw [issued_r] at hm
    refine ⟨doRet _ _ _ _, exec_runs (.ret g) .ret g s rfl hrun, ?_⟩
    rw [hm]; exact ⟨rfl, rfl⟩
  · have hskip := doLoop_skip (issued s .loop g) g.p g.e (cost s .loop g) hlen (by rw [issued_r]; exact hc)
    refine ⟨_, exec_runs (.loop g) .loop g s rfl hrun, ?_⟩
    simp only [execOp, hskip, issued_r]
    exact jump_skipped_pc _ g.p _ _ _ _ 1 (hclean.congr (issued_ecc2 s .loop g))
  · subst hc
    rw [exec_runs (.loop g) .loop g s rfl hrun]
    have henter := doLoop_enter (issued s .loop g) g.p g.e (cost s .loop g) k hlen (by rw [issued_r]; exact hne) (by rw [issued_r]; exact hk)
    simp only [execOp, henter, issued_r]
    rfl
  · rw [exec_runs (.loop g) .loop g s rfl hrun]
    have hleave := doLoop_leave (issued s .loop g) g.p g.e (cost s .loop g) k hlen (by rw [issued_r]; exact hk)
    simp only [execOp, hleave, issued_r]
  · obtain ⟨p, e, st⟩ := g
    obtain rfl : p = .le n := hn
    refine ⟨yielded (issued s .yield ⟨.le n, e, st⟩) (.le n) (cost s .yield ⟨.le n, e, st⟩), ?_, by simp [yielded], by simp [yielded],
      by simp [yielded]⟩
    rw [exec_runs (.yield ⟨.le n, e, st⟩) .yield ⟨.le n, e, st⟩ s rfl hyield]
    have hr := issued_r s .yield ⟨.le n, e, st⟩
    exact congrArg Host.Outcome.next (execYieldOp_retires _ n _ (by rw [hr]; exact hpc) (by rw [hr, issued_ecc2]; exact hbad))

/-! ### SYSC, SRET and ERET (R97, R99) -/

section
variable (s : State) (p : ProcId) (c : Nat) (h : fetchClean s p)
include h

/-- A transfer after which the processor's surroundings change writes the registers that it is given, and no memory. -/
theorem jump_updK_squashed (n : Nat) (r : Proc) (t pc : Word) (f : Core → Core) (k : Nat) :
    (∃ m, ((squashed ((jump s p n r t).updK p f) p pc k).cpu p).r = { r with pc := t &&& 0xFFFFFFFC, ecnt := m }) ∧
      (squashed ((jump s p n r t).updK p f) p pc k).mem = s.mem := by
  have hread := squashed_ifRead ((jump s p n r t).updK p f) p pc k (h.congr (((jump s p n r t).updK_ecc2 p f).trans (jump_ecc2 s p n r t)))
  obtain ⟨m, hm⟩ := jump_cpu s p n r t
  refine ⟨⟨m, ?_⟩, hread.mem.trans (((jump s p n r t).updK_mem p f).trans (jump_mem s p n r t))⟩
  rw [hread.r, State.cpu_updK, hm]

theorem execSys_frame (e : Enc) :
    (∃ m, ((execSys s p e c).cpu p).r = { (s.cpu p).r with
      spc := (s.cpu p).r.pc + 4, ssr := (s.cpu p).r.stVal &&& 0xFFFF, st := setBit (s.cpu p).r.st 8 true
      pc := SMap.get (fun _ => 0) (s.cpu p).r.fe (opdBits e 0 4) &&& 0xFFFFFFFC, ecnt := m }) ∧ (execSys s p e c).mem = s.mem :=
  jump_updK_squashed s p h _ _ _ _ _ 1

theorem execSretOp_frame :
    (∃ m, ((execSretOp s p c).cpu p).r = { (s.cpu p).r with
      st := restoreSt p (s.cpu p).r.ssr, pc := (s.cpu p).r.spc &&& 0xFFFFFFFC, ecnt := m }) ∧ (execSretOp s p c).mem = s.mem :=
  jump_updK_squashed s p h _ _ _ _ _ 1

theorem execEretOp_frame :
    (∃ m, ((execEretOp s p c).cpu p).r = { (s.cpu p).r with
      st := restoreSt p ((s.cpu p).r.estat &&& 0xFFFF), p1 := stBit (s.cpu p).r.estat 24, p2 := stBit (s.cpu p).r.estat 25
      p3 := stBit (s.cpu p).r.estat 26, pc := (s.cpu p).r.epc &&& 0xFFFFFFFC, ecnt := m }) ∧ (execEretOp s p c).mem = s.mem :=
  jump_updK_squashed s p h _ _ _ _ _ 3

end

/-- Settles O15: each of the three writes the registers that its frame lemma gives, and no memory. -/
theorem gurnoSystemReturns : Obligations.GurnoSystemReturns := by
  refine ⟨fun g s => ⟨fun hrun hclean => ?_, fun hrun hclean => ?_⟩, fun g s hrun hclean => ?_⟩
  · obtain ⟨⟨m, hm⟩, hmem⟩ := execSys_frame (issued s .sysc g) g.p (cost s .sysc g) (hclean.congr (issued_ecc2 s .sysc g)) g.e
    rw [issued_r] at hm
    refine ⟨execSys _ _ _ _, exec_runs (.sysc g) .sysc g s rfl hrun, ?_⟩
    rw [hm, hmem]; exact ⟨rfl, rfl, rfl, rfl, rfl, rfl, issued_mem s .sysc g⟩
  · obtain ⟨⟨m, hm⟩, hmem⟩ := execSretOp_frame (issued s .sret g) g.p (cost s .sret g) (hclean.congr (issued_ecc2 s .sret g))
    rw [issued_r] at hm
    refine ⟨execSretOp _ _ _, exec_runs (.sret g) .sret g s rfl hrun, ?_⟩
    rw [hm, hmem]; exact ⟨rfl, rfl, rfl, rfl, issued_mem s .sret g⟩
  · obtain ⟨⟨m, hm⟩, hmem⟩ := execEretOp_frame (issued s .eret g) g.p (cost s .eret g) (hclean.congr (issued_ecc2 s .eret g))
    rw [issued_r] at hm
    refine ⟨execEretOp _ _ _, exec_runs (.eret g) .eret g s rfl hrun, ?_⟩
    rw [hm, hmem]; exact ⟨rfl, rfl, rfl, rfl, rfl, rfl, issued_mem s .eret g⟩

end Sys2Proof.Machine
end

section
/-! YIELD, WAIT, FENCE, MFS and MTS (R92, R101, R140, R141). -/

namespace Sys2Proof.Machine

/-! ### YIELD, WAIT and FENCE -/

theorem execYieldOp_frame (s : State) (p : ProcId) (c : Nat) (h : fetchClean s p) :
    ((execYieldOp s p c).cpu p).k.state = .drain ∧ ((execYieldOp s p c).cpu p).k.buf = (s.cpu p).k.buf ∧
      ((execYieldOp s p c).cpu p).r.a = (s.cpu p).r.a := by
  have hread := squashed_ifRead (yielded s p c) p ((s.cpu p).r.pc + 4) 3 (h.congr (yielded_ecc2 s p c))
  obtain ⟨n, hn⟩ := hread.k
  obtain ⟨m, hm⟩ := charge_cpu s p c
  rw [execYieldOp_eq, hn, hread.r, yielded, State.cpu_updK, hm]
  exact ⟨rfl, rfl, rfl⟩

theorem execWaitOp_frame (s : State) (p : ProcId) (e : Enc) (c : Nat) :
    ((execWaitOp s p e c).cpu p).k.waiting = some (opdBits e 0 16) ∧
      ((execWaitOp s p e c).cpu p).r.pc = ((s.cpu p).r.advance e).pc := by
  rw [execWaitOp, State.cpu_updK]
  exact ⟨rfl, complete_pc s p e c _⟩

theorem execFenceOp_empty (s : State) (p : ProcId) (e : Enc) (c : Nat) (h : (s.cpu p).k.buf = []) :
    execFenceOp s p e c = complete s p e c (s.cpu p).r := if_pos h

theorem execFenceOp_holds (s : State) (p : ProcId) (e : Enc) (c : Nat) (h : (s.cpu p).k.buf ≠ []) :
    execFenceOp s p e c = hold (charge s p c) p .fence e .fence := if_neg h

/-- An instruction held at MA, or by FENCE, keeps its PC. -/
theorem hold_cpu (s : State) (p : ProcId) (op : GOp) (e : Enc) (c : Nat) (why : StallWhy) :
    ((hold (charge s p c) p op e why).cpu p).k.stall = some ⟨op, e, why⟩ ∧
      ((hold (charge s p c) p op e why).cpu p).r.pc = (s.cpu p).r.pc := by
  rw [hold, State.cpu_updK]
  exact ⟨rfl, charge_pc s p c⟩

/-! ### Special registers -/

/-- Issue changes nothing that a special register shows. -/
theorem mfsVal_issued (s : State) (op : GOp) (g : Issue) (n : Nat) : mfsVal (issued s op g) g.p n = mfsVal s g.p n := by
  have hreg : (issued s op g).reg R.CYC_CYCNUM = s.reg R.CYC_CYCNUM := by rw [State.reg, issued_regs]; rfl
  have htb : (issued s op g).tb = s.tb := s.updK_tb g.p _
  have hdraws : (issued s op g).draws = s.draws := by obtain ⟨p, e, k⟩ := g; cases p <;> rfl
  simp only [mfsVal, issued_r, issued_mcr, hreg, htb, hdraws]

theorem execMfsOp_frame (s : State) (p : ProcId) (e : Enc) (c : Nat) :
    ((execMfsOp s p e c).cpu p).r.a = mfsVal s p (opdBits e 0 8) ∧ (execMfsOp s p e c).mem = s.mem ∧
      (execMfsOp s p e c).regs = s.regs := by
  unfold execMfsOp
  extract_lets n v s1
  have hs1 : s1.mem = s.mem ∧ s1.regs = s.regs := by unfold s1; split <;> exact ⟨rfl, rfl⟩
  rw [complete_a, complete_mem, complete_regs]
  exact ⟨rfl, hs1⟩

/-- MTS leaves A as it is. -/
theorem mtsRegs_a (r : Proc) (n : Nat) (v : Word) : (mtsRegs r n v).a = r.a := by
  unfold mtsRegs
  split
  · rfl
  · split
    case h_7 => split <;> rfl
    all_goals rfl

theorem execMtsOp_frame (s : State) (p : ProcId) (e : Enc) (c : Nat) :
    ((execMtsOp s p e c).cpu p).r.a = (s.cpu p).r.a ∧
      ((execMtsOp s p e c).cpu p).r.b = (mtsRegs (s.cpu p).r (opdBits e 0 8) (s.cpu p).r.a).b ∧
      ((execMtsOp s p e c).cpu p).r.vbr = (mtsRegs (s.cpu p).r (opdBits e 0 8) (s.cpu p).r.a).vbr ∧
      ((execMtsOp s p e c).cpu p).r.st = (mtsRegs (s.cpu p).r (opdBits e 0 8) (s.cpu p).r.a).st ∧
      (execMtsOp s p e c).mem = s.mem ∧ (execMtsOp s p e c).regs = s.regs := by
  unfold execMtsOp
  extract_lets n r s1
  have hs1 : s1.mem = s.mem ∧ s1.regs = s.regs := by unfold s1; split <;> exact ⟨rfl, rfl⟩
  rw [complete_a, complete_b, complete_vbr, complete_st, complete_mem, complete_regs]
  exact ⟨mtsRegs_a r n r.a, rfl, rfl, rfl, hs1⟩

/-! ### The statement -/

/-- Settles O16: what each of the five leaves of its processor is its frame lemma in the state in which it has issued. -/
theorem gurnoControlAndSpecialRegisters : Obligations.GurnoControlAndSpecialRegisters := by
  refine ⟨fun g s => ⟨fun hrun hclean => ?_, fun hrun => ?_, fun hrun hbuf => ?_, fun hrun hbuf => ?_⟩,
    fun g s => ⟨fun hrun => ?_, fun hrun => ?_⟩⟩
  · have h := execYieldOp_frame (issued s .yield g) g.p (cost s .yield g) (hclean.congr (issued_ecc2 s .yield g))
    rw [issued_buf, issued_r] at h
    exact ⟨_, exec_runs (.yield g) .yield g s rfl hrun, h⟩
  · have h := execWaitOp_frame (issued s .wait g) g.p g.e (cost s .wait g)
    rw [issued_r] at h
    exact ⟨_, exec_runs (.wait g) .wait g s rfl hrun, h⟩
  · have h := execFenceOp_empty (issued s .fence g) g.p g.e (cost s .fence g) ((issued_buf s .fence g).trans hbuf)
    rw [issued_r] at h
    exact (exec_runs (.fence g) .fence g s rfl hrun).trans (congrArg Host.Outcome.next h)
  · have h := execFenceOp_holds (issued s .fence g) g.p g.e (cost s .fence g) (by rwa [issued_buf])
    obtain ⟨hstall, hpc⟩ := hold_cpu (issued s .fence g) g.p .fence g.e (cost s .fence g) .fence
    rw [issued_r] at hpc
    exact ⟨_, (exec_runs (.fence g) .fence g s rfl hrun).trans (congrArg Host.Outcome.next h), hstall, hpc⟩
  · have h := execMfsOp_frame (issued s .mfs g) g.p g.e (cost s .mfs g)
    rw [mfsVal_issued, issued_mem, issued_regs] at h
    exact ⟨_, exec_runs (.mfs g) .mfs g s rfl hrun, h⟩
  · have h := execMtsOp_frame (issued s .mts g) g.p g.e (cost s .mts g)
    rw [issued_r, issued_mem, issued_regs] at h
    exact ⟨_, exec_runs (.mts g) .mts g s rfl hrun, h⟩

end Sys2Proof.Machine
end

section
/-! Exceptions of the processors (R84, R86, R93 to R97, R122, R134): what an entry leaves, and the two traps of an encoding. -/

namespace Sys2Proof.Machine

/-! ### Bits of ST -/

theorem stBit_eq_getLsbD (w : Word) (k : Nat) : stBit w k = w.getLsbD k := BitVec.testBit_toNat w

/-- A bit that was set or cleared reads so, and every other bit reads as before. -/
theorem stBit_setBit (w : Word) (k j : Nat) (v : Bool) (hj : j < 32) : stBit (setBit w k v) j = if j = k then v else stBit w j := by
  have hpow : (word (2 ^ k)).getLsbD j = decide (j = k) := by
    rw [word, BitVec.getLsbD_ofNat, Nat.testBit_two_pow, decide_eq_true hj, Bool.true_and, decide_eq_decide]
    exact eq_comm
  rw [stBit_eq_getLsbD, stBit_eq_getLsbD, setBit]
  cases v
  · rw [if_neg Bool.false_ne_true, BitVec.getLsbD_and, BitVec.getLsbD_not, hpow]
    by_cases h : j = k <;> simp [h, hj]
  · rw [if_pos rfl, BitVec.getLsbD_or, hpow]
    by_cases h : j = k <;> simp [h]

/-! ### Entry (R96) -/

theorem enter_sup (r : Proc) (c : Nat) (b : Bool) : (r.enter c b).sup = true := by
  rw [Proc.sup, Proc.enter, stBit_setBit _ _ _ _ (by decide), if_neg (by decide), stBit_setBit _ _ _ _ (by decide), if_pos rfl]

theorem enter_ie (r : Proc) (c : Nat) (b : Bool) : (r.enter c b).ie = false := by
  rw [Proc.ie, Proc.enter, stBit_setBit _ _ _ _ (by decide), if_pos rfl]

section
variable (s : State) (p : ProcId) (c : Nat) (b : Bool)

/-- The registers that an entry leaves: those of R96, the pending late store error where it is the cause, and the clocks. -/
theorem enterExc_r : ((enterExc s p c b).cpu p).r = { (s.cpu p).r.enter c b with
    lsePend := if c = 0xA then false else (s.cpu p).r.lsePend, ecnt := (s.cpu p).r.ecnt + entryClocks p } := by
  rw [enterExc, (trcEmit_only _ _ _).cpu_eq, State.cpu_updK, State.cpu_upd]

theorem enterExc_mem : (enterExc s p c b).mem = s.mem := by
  rw [enterExc, (trcEmit_only _ _ _).mem_eq, State.updK_mem, State.upd_mem]

theorem enterExc_slots : (enterExc s p c b).slots = s.slots := by
  rw [enterExc, (trcEmit_only _ _ _).slots_eq, State.updK_slots, State.upd_slots]

theorem enterExc_ecc2 : (enterExc s p c b).ecc2 = s.ecc2 := by
  rw [enterExc, (trcEmit_only _ _ _).ecc2_eq, State.updK_ecc2, State.upd_ecc2]

theorem enterExc_mcr : (enterExc s p c b).mcr = s.mcr := by
  rw [enterExc, (trcEmit_only _ _ _).mcr_eq, State.updK_mcr, State.upd_mcr]

end

/-! ### Precise exceptions (R86, R93, R95) -/

/-- The clocks that an engine counts; the MC and the SP count none. -/
theorem charge_r (s : State) (p : ProcId) (n : Nat) :
    ((charge s p n).cpu p).r = { (s.cpu p).r with ecnt := (s.cpu p).r.ecnt + if entryClocks p = 0 then 0 else n } := by
  cases p with
  | le k => simp [charge, entryClocks]
  | mc => rfl
  | sp => rfl

/-- A precise exception that is no double fault enters, with the clocks of its instruction. -/
theorem raiseAt_frame (s : State) (p : ProcId) (e : Enc) (n c : Nat) (hc : c ≠ 0xA) (hclean : fetchClean s p)
    (hie : (s.cpu p).r.sup = true → (s.cpu p).r.ie = true) :
    ((raiseAt s p e n c).cpu p).r = { (s.cpu p).r.enter c false with
        lsePend := (s.cpu p).r.lsePend
        ecnt := (s.cpu p).r.ecnt + if entryClocks p = 0 then 0 else n + entryClocks p } ∧
      (raiseAt s p e n c).slots = s.slots := by
  have hr := charge_r s p n
  have henter : raise (charge s p n) p c = enterExc (charge s p n) p c false := by
    have hmode : (((charge s p n).cpu p).r.sup && !((charge s p n).cpu p).r.ie) = false := by
      rw [hr]
      change ((s.cpu p).r.sup && !(s.cpu p).r.ie) = false
      cases hs : (s.cpu p).r.sup
      · rfl
      · simp [hie hs]
    unfold raise
    simp [hmode]
  have hread := squashed_ifRead (enterExc (charge s p n) p c false) p ((s.cpu p).r.pc + word (ilen e)) 3
    (hclean.congr ((enterExc_ecc2 _ p c false).trans (charge_ecc2 s p n)))
  have hclocks : (s.cpu p).r.ecnt + (if entryClocks p = 0 then 0 else n) + entryClocks p =
      (s.cpu p).r.ecnt + if entryClocks p = 0 then 0 else n + entryClocks p := by split <;> omega
  rw [raiseAt, henter, hread.r, hread.slots, enterExc_r, enterExc_slots, charge_slots, hr, ← hclocks, if_neg hc]
  exact ⟨rfl, rfl⟩

/-! ### ILLEGAL and PRIVILEGED (R94, R122) -/

theorem executed_illegal (s : State) (p : ProcId) (op : GOp) (e : Enc) (n : Nat) (h : encodingOk p op e = false) :
    executed s p op e n = raiseAt s p e n 1 := by
  simp [executed, h]

theorem executed_privileged (s : State) (p : ProcId) (op : GOp) (e : Enc) (n : Nat) (h : encodingOk p op e = true) (hl : op ≠ .loop)
    (hp : privileged op e = true) (hs : (s.cpu p).r.sup = false) : executed s p op e n = raiseAt s p e n 2 := by
  simp [executed, h, hl, hp, hs]

/-- Settles O17: both traps are precise exceptions of the noted instruction, with causes 1 and 2. -/
theorem gurnoTraps : Obligations.GurnoTraps := by
  intro i op g s c hi hissues hclean hguard hie htrap
  have hrun : exec i s = .next (raiseAt (issued s op g) g.p g.e (cost s op g) c) := by
    rw [exec_gurno i op g s hi, gurno_on s op g hissues hguard]
    rcases htrap with ⟨hbad, rfl⟩ | ⟨hok, hloop, hpriv, hsup, rfl⟩
    · rw [executed_illegal _ _ _ _ _ hbad]
    · rw [executed_privileged _ _ _ _ _ hok hloop hpriv (by rw [issued_r]; exact hsup)]
  have hcause : c ≠ 0xA ∧ c % 16 = c := by rcases htrap with ⟨-, rfl⟩ | ⟨-, -, -, -, rfl⟩ <;> decide
  obtain ⟨hr, hslots⟩ := raiseAt_frame (issued s op g) g.p g.e (cost s op g) c hcause.1 (hclean.congr (issued_ecc2 s op g))
    (by rw [issued_r]; exact hie)
  rw [issued_r] at hr
  refine ⟨_, hrun, hr, ?_⟩
  rw [hr]
  refine ⟨rfl, ?_, enter_sup _ c false, enter_ie _ c false, hslots.trans (issued_slots s op g)⟩
  conv_rhs => rw [← hcause.2]
  rfl

end Sys2Proof.Machine
end

section
/-! Accesses of the processors to memory and slots (R81, R84, R85, R91, R101, R116, R123, R124, R131, R132): the own LDM, loads that are
held at MA with their responses, and the store buffer. -/

namespace Sys2Proof.Machine

/-! ### Memory -/

theorem State.byte_congr {s t : State} (h : t.mem = s.mem) (a : Nat) : t.byte a = s.byte a := by rw [State.byte, h]; rfl

theorem State.rd_congr {s t : State} (h : t.mem = s.mem) (a n : Nat) : t.rd a n = s.rd a n := by
  have hbytes : ∀ a, t.bytes a n = s.bytes a n := by
    induction n with
    | zero => exact fun _ => rfl
    | succ n ih => exact fun a => by rw [State.bytes, State.bytes, State.byte_congr h, ih]
  rw [State.rd, State.rd, hbytes]

/-- A number that was written is read back, as far as its bytes hold it. -/
theorem State.rd_wr (s : State) (a n v : Nat) : (s.wr a n v).rd a n = v % 256 ^ n := by
  have hbytes := s.bytes_setBytes a (leBytes n v)
  rw [leBytes_length] at hbytes
  rw [State.rd, State.wr, hbytes, leNat_leBytes]

theorem State.byte_wr_out (s : State) (a n v b : Nat) (h : b < a ∨ a + n ≤ b) : (s.wr a n v).byte b = s.byte b :=
  s.byte_setBytes_out a _ b (by rwa [leBytes_length])

theorem State.onlyMem_wr (s : State) (a n v : Nat) : s.onlyMem (s.wr a n v) := s.onlyMem_setBytes a _

theorem State.onlyMem.cpu_eq {s t : State} (h : s.onlyMem t) (p : ProcId) : t.cpu p = s.cpu p := by
  obtain ⟨m, rfl⟩ := h; cases p <;> rfl

/-! ### What an opcode does with its operand -/

theorem execOp_value (s : State) (p : ProcId) (op : GOp) (e : Enc) (c : Nat) (h : readsValue op = true) :
    execOp s p op e c = execValue s p op e c := by
  revert h; cases op <;> simp [readsValue, amSet, isStore, execOp]

theorem execOp_store (s : State) (p : ProcId) (op : GOp) (e : Enc) (c : Nat) (h : isStore op = true) :
    execOp s p op e c = execStore s p op e c := by
  revert h; cases op <;> simp [isStore, execOp]

section
variable (s : State) (p : ProcId) (op : GOp) (e : Enc) (c : Nat)

theorem execValue_addr (a : Word) (h : operand p (s.cpu p).r op e = .addr a) : execValue s p op e c = loadFrom s p op e a c := by
  rw [execValue, h]

theorem execValue_sig (slot part : Nat) (h : operand p (s.cpu p).r op e = .sig slot part) :
    execValue s p op e c = loadSig s p op e slot c := by
  rw [execValue, h]

/-- Where no comparator looks on, the operand that was read gives the result at once. -/
theorem loaded_unwatched (a : Word) (v : Nat) (m : Word) (w : State → State) (h : noCmp s p) :
    loaded s p op e a v c m w = complete (w s) p e c (valueRegs ((w s).cpu p).r op e (word v) (word (v / 2 ^ 32)) m) := by
  rw [loaded, cmpSee_off s p _ h]; rfl

end

/-- Where an access goes rests on the processor's registers and the MPU alone. -/
theorem route_issued (s : State) (op : GOp) (g : Issue) (a n : Nat) (read write : Bool) :
    route (issued s op g) g.p a n read write = route s g.p a n read write := by
  simp only [route, mpuData, issued_r, issued_mcr]

/-! ### The own LDM (R81, R84) -/

theorem ldmRead_clean (s : State) (n a size : Nat) (h1 : s.ecc1 = []) (h2 : s.ecc2 = []) :
    ldmRead s n a size = (some (s.rd (ldmBase n + a) size), s) := by
  simp [ldmRead, ldmCorrect, h1, h2, has]

theorem route_own (s : State) (n : Fin 64) (a size : Nat) (read write : Bool) (h : a < 0x4000) :
    route s (.le n) a size read write = .own := by
  simp [route, h]

/-- FMAC's second operand in the own LDM; every other opcode has none. -/
def ownSecond (s : State) (n : Fin 64) (op : GOp) : Word :=
  if op = .fmac then word (s.rd (ldmBase n.val + (s.cpu (.le n)).r.y.toNat) 4) else 0

/-- XCH's write half in the own LDM; every other opcode has none. -/
def ownWrite (n : Fin 64) (op : GOp) (a : Word) (t : State) : State :=
  if op = .xch then (ldmWrite t n.val a.toNat 4 (t.cpu (.le n)).r.a).getD t else t

/-- A value-reading opcode on the own LDM, with no marked word there: the bytes are read, and the write half of XCH follows. -/
theorem loadFrom_own (s : State) (n : Fin 64) (op : GOp) (e : Enc) (a : Word) (c : Nat) (ha : a.toNat < 0x4000)
    (hal : a.toNat % accessSize op = 0) (h1 : s.ecc1 = []) (h2 : s.ecc2 = [])
    (hy : op = .fmac → (s.cpu (.le n)).r.y.toNat < 0x4000 ∧ (s.cpu (.le n)).r.y.toNat % 4 = 0) :
    loadFrom s (.le n) op e a c =
      loaded s (.le n) op e a (s.rd (ldmBase n.val + a.toNat) (accessSize op)) c (ownSecond s n op) (ownWrite n op a) := by
  have hsecond : secondOperand s (.le n) op e c .error = (some (ownSecond s n op), s) := by
    unfold secondOperand ownSecond
    split
    · simp only [ldmRead_clean s _ _ _ h1 h2]
    · rfl
  have hxch : ¬(op = .xch ∧ (!xchOk (.le n) (s.cpu (.le n)).r a.toNat) = true) := by simp [xchOk, ha]
  have hfmac : ¬(op = .fmac ∧ (!fmacYOk (.le n) (s.cpu (.le n)).r.y.toNat) = true) := by
    rintro ⟨ho, hno⟩; simp [fmacYOk, (hy ho).1] at hno
  have halign : ¬(a.toNat % accessSize op ≠ 0 ∨ (op = .fmac ∧ (s.cpu (.le n)).r.y.toNat % 4 ≠ 0)) := by
    rintro (hno | ⟨ho, hno⟩)
    · exact hno hal
    · exact hno (hy ho).2
  unfold loadFrom
  simp only [route_own s n a.toNat _ _ _ ha, if_neg hxch, if_neg hfmac, if_neg halign, ldmRead_clean s _ _ _ h1 h2, hsecond]
  rfl

theorem ownSecond_other (s : State) (n : Fin 64) (op : GOp) (h : op ≠ .fmac) : ownSecond s n op = 0 := if_neg h

theorem ownWrite_other (n : Fin 64) (op : GOp) (a : Word) (t : State) (h : op ≠ .xch) : ownWrite n op a t = t := if_neg h

/-- XCH writes A into the word and takes its marks away. -/
theorem ownWrite_xch (n : Fin 64) (a : Word) (t : State) :
    (ownWrite n .xch a t).mem = (t.wr (ldmBase n.val + a.toNat) 4 (t.cpu (.le n)).r.a.toNat).mem ∧
      (ownWrite n .xch a t).cpu (.le n) = t.cpu (.le n) :=
  ⟨rfl, (t.onlyMem_wr _ _ _).cpu_eq (.le n)⟩

/-! ### Results of XCH and FMAC (R131, R132) -/

theorem valueRegs_xch_a (r : Proc) (e : Enc) (v hi m : Word) : (valueRegs r .xch e v hi m).a = v := rfl

theorem valueRegs_fmac (r : Proc) (e : Enc) (v hi m : Word) :
    (valueRegs r .fmac e v hi m).a = (fMac r.a v m).val ∧ (valueRegs r .fmac e v hi m).y = r.y + 4 := ⟨rfl, rfl⟩

/-- A value-reading instruction that may run on the own LDM. -/
theorem exec_own (i : Instr) (op : GOp) (n : Fin 64) (e : Enc) (k : Nat) (s : State) (a : Word) (hi : i.gurno = some (op, ⟨.le n, e, k⟩))
    (hv : readsValue op = true) (hrun : mayRun s op ⟨.le n, e, k⟩) (ho : operand (.le n) (s.cpu (.le n)).r op e = .addr a)
    (ha : a.toNat < 0x4000) (hal : a.toNat % accessSize op = 0) (h1 : s.ecc1 = []) (h2 : s.ecc2 = [])
    (hy : op = .fmac → (s.cpu (.le n)).r.y.toNat < 0x4000 ∧ (s.cpu (.le n)).r.y.toNat % 4 = 0) :
    exec i s = .next (complete (ownWrite n op a (issued s op ⟨.le n, e, k⟩)) (.le n) e (cost s op ⟨.le n, e, k⟩)
      (valueRegs ((ownWrite n op a (issued s op ⟨.le n, e, k⟩)).cpu (.le n)).r op e
        (word (s.rd (ldmBase n.val + a.toNat) (accessSize op))) (word (s.rd (ldmBase n.val + a.toNat) (accessSize op) / 2 ^ 32))
        (ownSecond s n op))) := by
  have hr := issued_r s op ⟨.le n, e, k⟩
  have hmem := issued_mem s op ⟨.le n, e, k⟩
  have hsecond : ownSecond (issued s op ⟨.le n, e, k⟩) n op = ownSecond s n op := by
    simp only [ownSecond, hr, State.rd_congr hmem]
  rw [exec_runs i op _ s hi hrun, execOp_value _ _ _ _ _ hv, execValue_addr _ _ _ _ _ a (by rw [hr]; exact ho),
    loadFrom_own _ n op e a _ ha hal (by rw [issued_ecc1, h1]) (by rw [issued_ecc2, h2]) (by rw [hr]; exact hy),
    loaded_unwatched _ _ _ _ _ _ _ _ _ hrun.issued_noCmp, hsecond, State.rd_congr hmem]

/-- Settles O7: on the own LDM every value-reading instruction is `exec_own`; XCH adds its write half, FMAC its second operand. -/
theorem gurnoOwnMemory : Obligations.GurnoOwnMemory := by
  refine ⟨fun i op n e k s a hi hv hf hx hrun ho ha hal h1 h2 => ?_, fun n e k s a hrun ho ha hal h1 h2 => ?_,
    fun n e k s a hrun ho ha hal hy hyal h1 h2 => ?_⟩
  · have h := exec_own i op n e k s a hi hv hrun ho ha hal h1 h2 fun h => absurd h hf
    rwa [ownWrite_other n op a _ hx, ownSecond_other s n op hf, issued_r s op ⟨.le n, e, k⟩] at h
  · obtain ⟨hmem, -⟩ := ownWrite_xch n a (issued s .xch ⟨.le n, e, k⟩)
    rw [issued_r s .xch ⟨.le n, e, k⟩] at hmem
    have hin := issued_mem s .xch ⟨.le n, e, k⟩
    refine ⟨_, exec_own (.xch ⟨.le n, e, k⟩) .xch n e k s a rfl rfl hrun ho ha hal h1 h2 (fun h => by cases h), ?_, ?_, fun b hb => ?_⟩
    · rw [complete_a, valueRegs_xch_a]; rfl
    · rw [State.rd_congr ((complete_mem _ _ _ _ _).trans hmem), State.rd_wr]
      exact Nat.mod_eq_of_lt (s.cpu (.le n)).r.a.isLt
    · rw [State.byte_congr ((complete_mem _ _ _ _ _).trans hmem), State.byte_wr_out _ _ _ _ _ hb, State.byte_congr hin]
  · refine ⟨_, exec_own (.fmac ⟨.le n, e, k⟩) .fmac n e k s a rfl rfl hrun ho ha hal h1 h2 (fun _ => ⟨hy, hyal⟩), ?_⟩
    rw [ownWrite_other n .fmac a _ (by decide), issued_r s .fmac ⟨.le n, e, k⟩, complete_a, complete_y, complete_mem]
    exact ⟨rfl, rfl, issued_mem s .fmac ⟨.le n, e, k⟩⟩

end Sys2Proof.Machine
end

section
/-! Loads that are held at MA (R85), their responses (R101, R123), and stores (R81, R91, R101, R124). -/

namespace Sys2Proof.Machine

/-! ### Held at MA (R85) -/

section
variable (s : State) (p : ProcId) (op : GOp) (e : Enc) (c : Nat)

theorem loadFrom_fabric (a : Word) (hf : op ≠ .fmac) (hx : op ≠ .xch) (hr : route s p a.toNat (accessSize op) true false = .fabric)
    (hal : a.toNat % accessSize op = 0) : loadFrom s p op e a c = hold (charge s p c) p op e .load := by
  have hread : (op == .xch) = false := beq_eq_false_iff_ne.mpr hx
  unfold loadFrom
  simp [hread, hr, hf, hx, hal]

theorem loadSig_held (slot : Nat) (hf : op ≠ .fmac) (hp : p ≠ .sp)
    (hm : p = .mc → mpuRefuses s.mcr (s.cpu p).r.sup false false (0x20000000 + 8 * slot) = none) :
    loadSig s p op e slot c = hold (charge s p c) p op e .load := by
  unfold loadSig
  cases p with
  | le n => simp [hf]
  | mc => simp [hf, hm rfl]
  | sp => exact absurd rfl hp

end

/-! ### Responses (R85, R101, R123) -/

theorem secondOperand_none (s : State) (p : ProcId) (op : GOp) (e : Enc) (c : Nat) (d : HostData) (h : op ≠ .fmac) :
    secondOperand s p op e c d = (some 0, s) := if_neg h

section
variable (s s1 : State) (p : ProcId) (op : GOp) (e : Enc) (d : HostData) (v : Nat) (hs : (s.cpu p).k.stall = some ⟨op, e, .load⟩)
  (hf : op ≠ .fmac) (hx : op ≠ .xch) (hcmp : noCmp s1 p)
include hs hf hx hcmp

/-- The response to a load of a part of a slot. -/
theorem loadResponse_sig (slot part : Nat) (ho : operand p (s.cpu p).r op e = .sig slot part)
    (hbuf : overlaps (s.cpu p).k.buf (0x20000000 + 8 * slot) 8 = false) (hheld : s.held.contains (.load p (0x20000000 + 8 * slot)) = false)
    (hacc : sigAccess s (cpuInit s p) (s.cpu p).r.part slot part = (.ok v, s1)) :
    loadResponse s p d = complete s1 p e 0 (valueRegs (s1.cpu p).r op e (word v) (word (v / 2 ^ 32)) 0) := by
  have hrange : heldRange p (s.cpu p).r op e = (0x20000000 + 8 * slot, 8) := by rw [heldRange, ho]
  unfold loadResponse
  simp only [hs, hrange, hbuf, hheld, beq_eq_false_iff_ne.mpr hf, Bool.false_and, Bool.or_false, Bool.false_eq_true, if_false, ho, hacc,
    secondOperand_none _ _ _ _ _ _ hf, loaded_unwatched _ _ _ _ _ _ _ _ _ hcmp, if_neg hx]

/-- The response to a load of an address. -/
theorem loadResponse_addr (a : Word) (ho : operand p (s.cpu p).r op e = .addr a)
    (hbuf : overlaps (s.cpu p).k.buf a.toNat (accessSize op) = false) (hheld : s.held.contains (.load p a.toNat) = false)
    (hacc : busRead s (cpuInit s p) (s.cpu p).r.part a.toNat (accessSize op) d = (.ok v, s1)) :
    loadResponse s p d = complete s1 p e 0 (valueRegs (s1.cpu p).r op e (word v) (word (v / 2 ^ 32)) 0) := by
  have hrange : heldRange p (s.cpu p).r op e = (a.toNat, accessSize op) := by rw [heldRange, ho]
  unfold loadResponse
  simp only [hs, hrange, hbuf, hheld, beq_eq_false_iff_ne.mpr hf, Bool.false_and, Bool.or_false, Bool.false_eq_true, if_false, ho, hx,
    false_and, hacc, secondOperand_none _ _ _ _ _ _ hf, loaded_unwatched _ _ _ _ _ _ _ _ _ hcmp]

end

/-- Settles O8: a load that leaves the processor is held, and its response completes it with the fabric's answer. -/
theorem gurnoHeldLoad : Obligations.GurnoHeldLoad := by
  refine ⟨fun i op g s a hi hv hf hx hrun ho hroute hal => ?_, fun i op g s slot part hi hv hf hrun ho hp hm => ?_,
    fun p op e d s s1 slot part v hs hf hx ho hbuf hheld hacc hcmp => ?_, fun p op e d s s1 a v hs hf hx ho hbuf hheld hacc hcmp => ?_⟩
  · rw [exec_runs i op g s hi hrun, execOp_value _ _ _ _ _ hv, execValue_addr _ _ _ _ _ a (by rw [issued_r]; exact ho),
      loadFrom_fabric _ _ _ _ _ a hf hx ((route_issued s op g _ _ _ _).trans hroute) hal]
  · rw [exec_runs i op g s hi hrun, execOp_value _ _ _ _ _ hv, execValue_sig _ _ _ _ _ slot part (by rw [issued_r]; exact ho),
      loadSig_held _ _ _ _ _ slot hf hp (by rw [issued_r, issued_mcr]; exact hm)]
  · exact congrArg Host.Outcome.next (loadResponse_sig s s1 p op e d v hs hf hx hcmp slot part ho hbuf hheld hacc)
  · exact congrArg Host.Outcome.next (loadResponse_addr s s1 p op e d v hs hf hx hcmp a ho hbuf hheld hacc)

/-! ### The store buffer (R91, R101) -/

/-- What a store carries rests on the registers and the evaluation of its processor. -/
theorem storeEntry_issued (s : State) (op : GOp) (g : Issue) (a : Nat) (kind : StoreKind) :
    storeEntry (issued s op g) g.p op a kind = storeEntry s g.p op a kind := by
  obtain ⟨x, hx⟩ := noted_k s g.p op g.e true
  have hk : ((issued s op g).cpu g.p).k = _ := hx
  simp only [storeEntry, issued_r, hk]

/-- The state with a store added to the buffer of its processor. -/
def bufferedStore (s : State) (p : ProcId) (op : GOp) (a : Nat) (kind : StoreKind) : State :=
  s.updK p (fun k => { k with buf := k.buf ++ [storeEntry s p op a kind] })

theorem bufferedStore_cpu (s : State) (p : ProcId) (op : GOp) (a : Nat) (kind : StoreKind) :
    (bufferedStore s p op a kind).cpu p =
      { s.cpu p with k := { (s.cpu p).k with buf := (s.cpu p).k.buf ++ [storeEntry s p op a kind] } } := by
  rw [bufferedStore, State.cpu_updK]

section
variable (s : State) (p : ProcId) (op : GOp) (e : Enc) (c : Nat)

/-- With room in the buffer the store enters it, and the instruction completes with the post-update of X. -/
theorem storeBuffered_room (a : Nat) (kind : StoreKind) (h : (s.cpu p).k.buf.length < 4) :
    storeBuffered s p op e a kind c =
      complete (bufferedStore s p op a kind) p e c { (s.cpu p).r with x := ixpX (s.cpu p).r e } := by
  have hr : ((bufferedStore s p op a kind).cpu p).r = (s.cpu p).r := by rw [bufferedStore_cpu]
  rw [storeBuffered, if_pos h, ← hr]; rfl

theorem storeBuffered_frame (a : Nat) (kind : StoreKind) (h : (s.cpu p).k.buf.length < 4) :
    let t := storeBuffered s p op e a kind c
    (t.cpu p).k.buf = (s.cpu p).k.buf ++ [storeEntry s p op a kind] ∧ (t.cpu p).r.a = (s.cpu p).r.a ∧ (t.cpu p).r.y = (s.cpu p).r.y ∧
      (t.cpu p).r.x = ixpX (s.cpu p).r e ∧ (t.cpu p).r.st = (s.cpu p).r.st ∧ t.mem = s.mem ∧ t.slots = s.slots ∧ t.regs = s.regs := by
  rw [storeBuffered_room s p op e c a kind h]
  intro t
  have hframe : t.mem = s.mem ∧ t.slots = s.slots ∧ t.regs = s.regs := by simp [t, bufferedStore]
  have hbuf : (t.cpu p).k.buf = (s.cpu p).k.buf ++ [storeEntry s p op a kind] := by simp [t, bufferedStore_cpu]
  exact ⟨hbuf, complete_a .., complete_y .., complete_x .., complete_st .., hframe⟩

section
variable (hcmp : noCmp s p)
include hcmp

theorem execStore_sig (slot part : Nat) (ho : operand p (s.cpu p).r op e = .sig slot part) (hp : p ≠ .sp)
    (hm : p = .mc → mpuRefuses s.mcr (s.cpu p).r.sup true false (0x20000000 + 8 * slot) = none) :
    execStore s p op e c =
      storeBuffered s p op e (if part = 1 then 0x20000000 + 8 * slot + 4 else 0x20000000 + 8 * slot) (.sig part) c := by
  have hrefuse : (if p == .mc then mpuRefuses s.mcr (s.cpu p).r.sup true false (0x20000000 + 8 * slot) else none) = none := by
    by_cases h : p = .mc
    · rw [hm h]; exact ite_self _
    · rw [if_neg (by simp [h])]
  have hsp : (p == .sp) = false := beq_eq_false_iff_ne.mpr hp
  unfold execStore
  simp only [ho, hsp, hrefuse, cmpSee_off s p _ hcmp, Bool.false_eq_true, if_false]

theorem execStore_fabric (a : Word) (ho : operand p (s.cpu p).r op e = .addr a) (hal : a.toNat % accessSize op = 0)
    (hr : route s p a.toNat (accessSize op) false true = .fabric) :
    execStore s p op e c = storeBuffered s p op e a.toNat .plain c := by
  unfold execStore
  simp [ho, hr, hal, cmpSee_off s p _ hcmp]

end
end

/-! ### Stores to the own LDM (R81, R84) -/

theorem State.cpu_withEcc (s : State) (l m : List Nat) (p : ProcId) : State.cpu { s with ecc1 := l, ecc2 := m } p = s.cpu p := by
  cases p <;> rfl

/-- A store to words without marks is written at once, and nothing but memory changes. -/
theorem ldmWrite_clean (s : State) (n a size : Nat) (v : Word) (h1 : s.ecc1 = []) (h2 : s.ecc2 = []) :
    ∃ t, ldmWrite s n a size v = some t ∧ t.mem = (s.wr (ldmBase n + a) size v.toNat).mem ∧ ∀ p, t.cpu p = s.cpu p := by
  unfold ldmWrite
  split
  · next h4 =>
    subst h4
    exact ⟨_, rfl, rfl, fun p => (State.cpu_withEcc _ _ _ p).trans ((s.onlyMem_wr _ _ _).cpu_eq p)⟩
  · simp only [ldmRead_clean s n a size h1 h2]
    exact ⟨_, rfl, rfl, (s.onlyMem_wr _ _ _).cpu_eq⟩

theorem execStore_own (s : State) (n : Fin 64) (op : GOp) (e : Enc) (c : Nat) (a : Word) (hcmp : noCmp s (.le n))
    (ho : operand (.le n) (s.cpu (.le n)).r op e = .addr a) (hal : a.toNat % accessSize op = 0) (ha : a.toNat < 0x4000)
    (h1 : s.ecc1 = []) (h2 : s.ecc2 = []) :
    ∃ t, execStore s (.le n) op e c = complete t (.le n) e c { (s.cpu (.le n)).r with x := ixpX (s.cpu (.le n)).r e } ∧
      t.mem = (s.wr (ldmBase n.val + a.toNat) (accessSize op) (storeData (s.cpu (.le n)).r op).toNat).mem ∧
      t.cpu (.le n) = s.cpu (.le n) := by
  obtain ⟨t, ht, hmem, hcpu⟩ := ldmWrite_clean s n.val a.toNat (accessSize op) (storeData (s.cpu (.le n)).r op) h1 h2
  refine ⟨t, ?_, hmem, hcpu _⟩
  unfold execStore
  simp [ho, route_own s n a.toNat _ false true ha, hal, cmpSee_off s (.le n) _ hcmp, ht, hcpu]

/-- Settles O9: a store that leaves the processor is its entry in the buffer, one to the own LDM its bytes. -/
theorem gurnoStores : Obligations.GurnoStores := by
  refine ⟨⟨fun i op g s slot part hi hst hrun ho hp hm hroom => ?_, fun i op g s a hi hst hrun ho hroute hal hroom => ?_⟩,
    fun i op n e k s a hi hst hrun ho ha hal h1 h2 => ?_⟩
  · have hexec := exec_runs i op g s hi hrun
    rw [execOp_store _ _ _ _ _ hst, execStore_sig _ _ _ _ _ hrun.issued_noCmp slot part (by rw [issued_r]; exact ho) hp
      (by rw [issued_r, issued_mcr]; exact hm)] at hexec
    obtain ⟨hbuf, -, -, -, -, hmem, hslots, -⟩ := storeBuffered_frame (issued s op g) g.p op g.e (cost s op g)
      (if part = 1 then 0x20000000 + 8 * slot + 4 else 0x20000000 + 8 * slot) (.sig part) (by rw [issued_buf]; exact hroom)
    rw [issued_buf, storeEntry_issued] at hbuf
    exact ⟨_, hexec, hmem.trans (issued_mem s op g), hslots.trans (issued_slots s op g), hbuf⟩
  · have hexec := exec_runs i op g s hi hrun
    rw [execOp_store _ _ _ _ _ hst, execStore_fabric _ _ _ _ _ hrun.issued_noCmp a (by rw [issued_r]; exact ho) hal
      (by rw [route_issued]; exact hroute)] at hexec
    have hframe := storeBuffered_frame (issued s op g) g.p op g.e (cost s op g) a.toNat .plain (by rw [issued_buf]; exact hroom)
    rw [issued_buf, storeEntry_issued, issued_r, issued_mem, issued_slots, issued_regs] at hframe
    exact ⟨_, hexec, hframe⟩
  · have hr := issued_r s op ⟨.le n, e, k⟩
    have hin := issued_mem s op ⟨.le n, e, k⟩
    have hexec := exec_runs i op ⟨.le n, e, k⟩ s hi hrun
    obtain ⟨t, ht, hmem, hcpu⟩ := execStore_own (issued s op ⟨.le n, e, k⟩) n op e (cost s op ⟨.le n, e, k⟩) a hrun.issued_noCmp
      (by rw [hr]; exact ho) hal ha (by rw [issued_ecc1, h1]) (by rw [issued_ecc2, h2])
    rw [execOp_store _ _ _ _ _ hst, ht, hr] at hexec
    rw [hr] at hmem
    refine ⟨_, hexec, ?_, fun b hb => ?_, ?_, complete_a .., complete_y .., complete_st ..⟩
    · rw [State.rd_congr ((complete_mem _ _ _ _ _).trans hmem), State.rd_wr]
    · rw [State.byte_congr ((complete_mem _ _ _ _ _).trans hmem), State.byte_wr_out _ _ _ _ _ hb, State.byte_congr hin]
    · rw [complete_k, hcpu]; exact issued_buf s op ⟨.le n, e, k⟩

end Sys2Proof.Machine
end

section
/-! Predicated-off instructions (R120, R121), and what latencies and interlocks cost (R134, R135). -/

namespace Sys2Proof.Machine

/-! ### A predicate that is false (R120) -/

/-- What a predicated-off instruction is charged before a prediction that missed: its issue slots and its interlocks. -/
def offCost (e : Enc) (waited : Nat) : Nat := (if e.am = 7 then 2 else 1) + waited

theorem predicatedOff_other (s : State) (p : ProcId) (op : GOp) (e : Enc) (w : Nat) (h : op ≠ .br) :
    predicatedOff s p op e w = complete s p e (offCost e w) (s.cpu p).r := by
  simp [predicatedOff, offCost, h]

/-- A conditional branch that is off teaches the predictor, then goes on like every other instruction. -/
theorem predicatedOff_frame (s : State) (p : ProcId) (op : GOp) (e : Enc) (w : Nat) (h : fetchClean s p) :
    let t := predicatedOff s p op e w
    (∃ n, (t.cpu p).r = { (s.cpu p).r.advance e with ecnt := n }) ∧ t.mem = s.mem ∧ t.slots = s.slots ∧ t.regs = s.regs ∧
      (t.cpu p).k.buf = (s.cpu p).k.buf := by
  have hcomplete : ∀ u : State, ∀ c, (u.cpu p).r = (s.cpu p).r → (u.cpu p).k.buf = (s.cpu p).k.buf →
      (∃ n, ((complete u p e c (u.cpu p).r).cpu p).r = { (s.cpu p).r.advance e with ecnt := n }) ∧
        ((complete u p e c (u.cpu p).r).cpu p).k.buf = (s.cpu p).k.buf := by
    intro u c hr hbuf
    obtain ⟨n, hn⟩ := complete_cpu u p e c (u.cpu p).r
    rw [hn, hr]
    exact ⟨⟨n, rfl⟩, hbuf⟩
  intro t
  by_cases hbr : op = .br ∧ e.ps ≠ 0 ∧ amOk op e = true
  · let s1 := predUpdate s p (branchTarget (s.cpu p).r e) false (e.am != 3)
    let hit := decide (e.am ≠ 3) && predTaken s p (branchTarget (s.cpu p).r e)
    let s2 := complete s1 p e (offCost e w + if hit then 3 else 0) (s1.cpu p).r
    have hclean : fetchClean s2 p := h.congr ((complete_ecc2 _ _ _ _ _).trans (s.updK_ecc2 p _))
    have ht : s2.ifRead p t := by
      have : t = if e.am = 3 then s2 else fetched s2 p (branchPath s p e (branchTarget (s.cpu p).r e) hit) := if_pos hbr
      rw [this]
      split
      · exact s2.ifRead_self p
      · exact fetched_ifRead s2 p _ hclean
    obtain ⟨m, hm⟩ := ht.k
    obtain ⟨hr, hbuf⟩ := hcomplete s1 (offCost e w + if hit then 3 else 0) (predUpdate_r s p _ _ _) (by
      simp only [s1, predUpdate, State.cpu_updK])
    rw [ht.r, ht.mem, ht.slots, ht.regs, hm]
    exact ⟨hr, (complete_mem _ _ _ _ _).trans (s.updK_mem p _), (complete_slots _ _ _ _ _).trans (s.updK_slots p _),
      (complete_regs _ _ _ _ _).trans (s.updK_regs p _), hbuf⟩
  · have ht : t = complete s p e (offCost e w) (s.cpu p).r := if_neg hbr
    obtain ⟨hr, hbuf⟩ := hcomplete s (offCost e w) rfl rfl
    rw [ht]
    exact ⟨hr, complete_mem _ _ _ _ _, complete_slots _ _ _ _ _, complete_regs _ _ _ _ _, hbuf⟩

/-! ### What an instruction leaves to those behind it (R135) -/

section
variable (s : State) (p : ProcId) (op : GOp) (e : Enc)

/-- The pipeline's note of an executed instruction. -/
theorem noted_pipe_on :
    let k := ((noted s p op e true).cpu p).k.pipe
    k.x1 = writesX op e ∧ k.y1 = writesY op e ∧ k.x2 = (s.cpu p).k.pipe.x1 ∧ k.y2 = (s.cpu p).k.pipe.y1 ∧
      k.preds = writesPreds op e := by
  rw [noted, State.cpu_updK]
  exact ⟨Bool.true_and _, Bool.true_and _, rfl, rfl, rfl⟩

/-- The note of a predicated-off one. -/
theorem noted_pipe_off :
    let k := ((noted s p op e false).cpu p).k.pipe
    k.x1 = false ∧ k.x2 = (s.cpu p).k.pipe.x1 ∧ k.preds = 0 := by
  rw [noted, State.cpu_updK]
  exact ⟨rfl, rfl, rfl⟩

/-- A MUL or MULH tells when A may be read. -/
theorem noted_pipe_mul (h : op = .mul ∨ op = .mulh) :
    let k := ((noted s p op e true).cpu p).k.pipe
    k.aReady = (s.cpu p).r.ecnt + wait s p op e true + 2 ∧ k.aFmac = false := by
  rw [noted, State.cpu_updK]
  obtain rfl | rfl := h
  · exact ⟨rfl, rfl⟩
  · exact ⟨rfl, rfl⟩

/-- So does an FMAC, and that it wrote A. -/
theorem noted_pipe_fmac :
    let k := ((noted s p .fmac e true).cpu p).k.pipe
    k.aReady = (s.cpu p).r.ecnt + wait s p .fmac e true + 3 ∧ k.aFmac = true := by
  rw [noted, State.cpu_updK]
  exact ⟨rfl, rfl⟩

end

theorem complete_le_pipe (s : State) (n : Fin 64) (e : Enc) (c : Nat) (r : Proc) :
    ((complete s (.le n) e c r).le n).k.pipe = (s.le n).k.pipe := by
  have h := complete_k s (.le n) e c r
  simp only [State.cpu] at h
  rw [State.le, h]; rfl

theorem valueRegs_ecnt (r : Proc) (op : GOp) (e : Enc) (v hi m : Word) : (valueRegs r op e v hi m).ecnt = r.ecnt := by
  unfold valueRegs
  extract_lets r1
  split
  · dsimp only
    split
    · split <;> rfl
    · split <;> rfl
  · split
    case h_1 => split <;> rfl
    all_goals rfl

/-- A constant operand accesses no memory. -/
theorem opTouches_const (p : ProcId) (r : Proc) (op : GOp) (e : Enc) (v : Word) (h : operand p r op e = .const v) :
    opTouches op e = false := by
  have ham : e.am = 0 ∨ (e.am = 7 ∧ extAddr e = false) := by
    unfold operand at h
    split at h
    case h_1 h0 => exact .inl (BitVec.eq_of_toNat_eq h0)
    case h_8 h0 h1 h2 h3 h4 h5 h6 =>
      refine .inr ⟨BitVec.eq_of_toNat_eq ?_, ?_⟩
      · have := e.am.isLt
        simp only [imp_false] at h0 h1 h2 h3 h4 h5 h6
        show e.am.toNat = 7
        omega
      · split at h
        · cases h
        · next hx => exact Bool.eq_false_iff.mpr hx
    all_goals cases h
  rcases ham with h0 | ⟨h7, hx⟩
  · simp [opTouches, h0]
  · simp [opTouches, h7, hx]

/-! ### Waits (R134, R135) -/

theorem latency_plain (k : Pipe) (n : Nat) (o : GOp) (e : Enc) (h : k.aFmac = false) :
    latency k n o e = if readsA o e || readsFlags o e then k.aReady - n else 0 := by
  simp [latency, h]

theorem latency_fmac (k : Pipe) (n : Nat) (o : GOp) (e : Enc) (h : k.aFmac = true) :
    latency k n o e = if readsA o e && o != .fmac then k.aReady - n else 0 := by
  simp [latency, h]

theorem interlock_writerX (k : Pipe) (op : GOp) (e : Enc) (hx : addrX op e = true) (h : k.x1 = true) : interlock k op e = 2 := by
  simp only [interlock, hx, h, Bool.and_self, Bool.true_or, if_true]
  split <;> rfl

theorem interlock_writerX_before (k : Pipe) (op : GOp) (e : Enc) (hx : addrX op e = true) (hy : addrY op e = false) (h1 : k.x1 = false)
    (h2 : k.x2 = true) : interlock k op e = 1 := by
  simp only [interlock, hx, hy, h1, h2]
  cases opTouches op e && k.preds.testBit e.ps.toNat <;> rfl

theorem interlock_predicate (k : Pipe) (op : GOp) (e : Enc) (hx : addrX op e = false) (hy : addrY op e = false) :
    interlock k op e = if opTouches op e && k.preds.testBit e.ps.toNat then 1 else 0 := by
  simp only [interlock, hx, hy]
  exact Nat.zero_max _

theorem wait_on (s : State) (n : Fin 64) (op : GOp) (e : Enc) :
    wait s (.le n) op e true = max (interlock (s.le n).k.pipe op e) (latency (s.le n).k.pipe (s.le n).r.ecnt op e) := rfl

theorem wait_off (s : State) (n : Fin 64) (op : GOp) (e : Enc) : wait s (.le n) op e false = interlock (s.le n).k.pipe op e :=
  Nat.max_zero _

/-- What an instruction with a constant operand costs: its slots and its wait. -/
theorem cost_constant (s : State) (op : GOp) (n : Fin 64) (e : Enc) (k : Nat) (v : Word) (hv : readsValue op = true)
    (ho : operand (.le n) (s.cpu (.le n)).r op e = .const v) :
    cost s op ⟨.le n, e, k⟩ = slots op e + wait s (.le n) op e true := by
  have hfence : (op == .fence) = false := by revert hv; cases op <;> simp [readsValue, amSet]
  simp [cost, rowStall, opTouches_const _ _ _ _ _ ho, hfence]

theorem complete_le_clocks (s : State) (n : Fin 64) (e : Enc) (c : Nat) (r : Proc) :
    ((complete s (.le n) e c r).le n).r.ecnt = r.ecnt + c := complete_le_ecnt s n e c r

/-! ### The statement -/

/-- A value-reading instruction with a constant operand completes at once. -/
theorem exec_constant (i : Instr) (op : GOp) (g : Issue) (s : State) (v : Word) (hi : i.gurno = some (op, g)) (hv : readsValue op = true)
    (hrun : mayRun s op g) (ho : operand g.p (s.cpu g.p).r op g.e = .const v) :
    exec i s = .next (complete (issued s op g) g.p g.e (cost s op g) (valueRegs (s.cpu g.p).r op g.e v 0 0)) := by
  rw [exec_runs i op g s hi hrun, execOp_value _ _ _ _ _ hv, execValue, issued_r, ho]

theorem exec_off (i : Instr) (op : GOp) (g : Issue) (s : State) (hi : i.gurno = some (op, g)) (h : issues s g)
    (hg : guardTrue (s.cpu g.p).r g.e = false) :
    exec i s = .next (predicatedOff (noted s g.p op g.e false) g.p op g.e (wait s g.p op g.e false)) := by
  rw [exec_gurno i op g s hi, gurno_off s op g h hg]

/-- Settles O18: the first and last clause by what a predicated-off instruction leaves, the second and third by the note of an executed
one and the clocks of its completion, the fourth by `interlock` itself. -/
theorem predicatesAndInterlocks : Obligations.PredicatesAndInterlocks := by
  refine ⟨fun i op g s hi his hclean hg => ?_, fun i op g s v n hi hv hrun ho hp => ?_,
    fun n e k s a hrun ho ha hal hy hyal h1 h2 => ?_,
    fun k op e => ⟨interlock_writerX k op e, interlock_writerX_before k op e, interlock_predicate k op e⟩,
    fun i op g s n hi his hclean hg hbr hp => ?_⟩
  · have h := predicatedOff_frame (noted s g.p op g.e false) g.p op g.e (wait s g.p op g.e false) (hclean.congr (noted_ecc2 ..))
    rw [noted_r, noted_mem, noted_slots, noted_regs, noted_buf] at h
    exact ⟨_, exec_off i op g s hi his hg, h⟩
  · obtain ⟨p, e, k⟩ := g
    obtain rfl : p = .le n := hp
    have hexec := exec_constant i op ⟨.le n, e, k⟩ s v hi hv hrun ho
    have hcost := cost_constant s op n e k v hv ho
    have hclocks := complete_le_clocks (issued s op ⟨.le n, e, k⟩) n e (cost s op ⟨.le n, e, k⟩)
      (valueRegs (s.cpu (.le n)).r op e v 0 0)
    rw [valueRegs_ecnt] at hclocks
    obtain ⟨hx1, hy1, hx2, hy2, hpreds⟩ := noted_pipe_on s (.le n) op e
    refine ⟨_, hexec, ?_⟩
    rw [complete_le_pipe, hclocks]
    refine ⟨hx1, hy1, hx2, hy2, hpreds, ?_, fun hmul o e' => ?_⟩
    · rw [hcost, wait_on, ← Nat.add_assoc]; rfl
    · obtain ⟨hready, hfmac⟩ := noted_pipe_mul s (.le n) op e hmul
      have hleft : (s.cpu (.le n)).r.ecnt + wait s (.le n) op e true + 2 -
          ((s.cpu (.le n)).r.ecnt + (slots op e + wait s (.le n) op e true)) = 2 - slots op e := by omega
      rw [hcost, ← hleft, ← hready]
      exact latency_plain _ _ o e' hfmac
  · have hexec := exec_own (.fmac ⟨.le n, e, k⟩) .fmac n e k s a rfl rfl hrun ho ha hal h1 h2 (fun _ => ⟨hy, hyal⟩)
    rw [ownWrite_other n .fmac a _ (by decide)] at hexec
    refine ⟨_, hexec, ?_⟩
    rw [complete_le_pipe, complete_le_clocks, valueRegs_ecnt, issued_r s .fmac ⟨.le n, e, k⟩]
    obtain ⟨-, hy1, -⟩ := noted_pipe_on s (.le n) .fmac e
    obtain ⟨hready, hfmac⟩ := noted_pipe_fmac s (.le n) e
    refine ⟨hy1, fun o e' => ?_⟩
    have hleft : (s.cpu (.le n)).r.ecnt + wait s (.le n) .fmac e true + 3 - ((s.cpu (.le n)).r.ecnt + cost s .fmac ⟨.le n, e, k⟩) =
        3 - slots .fmac e - rowStall .fmac ⟨.le n, e, k⟩ := by
      simp only [cost]; omega
    rw [← hleft, ← hready]
    exact latency_fmac _ _ o e' hfmac
  · obtain ⟨p, e, k⟩ := g
    obtain rfl : p = .le n := hp
    have hexec := exec_off i op ⟨.le n, e, k⟩ s hi his hg
    rw [predicatedOff_other _ _ _ _ _ hbr, noted_r, wait_off] at hexec
    refine ⟨_, hexec, ?_⟩
    rw [complete_le_pipe, complete_le_clocks, offCost, ← Nat.add_assoc]
    exact ⟨rfl, noted_pipe_off s (.le n) op e⟩

end Sys2Proof.Machine
end

section
/-! Dispatch and steal (R90, R148, R150, R153): the order of the dispatch keys, and what a dispatch leaves. -/

namespace Sys2Proof.Machine

/-! ### The dispatch key (R148) -/

/-- Keys are compared as lists of numbers are: the first field that differs decides. -/
theorem keyLt_iff_lt (l m : List Nat) : keyLt l m = true ↔ l < m := by
  induction l generalizing m with
  | nil => cases m <;> simp [keyLt]
  | cons a l ih =>
    cases m with
    | nil => simp [keyLt]
    | cons b m =>
      rw [List.cons_lt_cons_iff, keyLt]
      rcases lt_trichotomy a b with h | rfl | h
      · simp [h]
      · simp [ih]
      · simp [h, h.not_gt, h.ne']

theorem leastKey_none (s : State) (l : List Nat) (h : leastKey s l = none) : l = [] := by
  cases l with
  | nil => rfl
  | cons i l =>
    rw [leastKey] at h
    split at h
    · cases h
    · split at h <;> cases h

/-- The entry of least key is an entry, and no other has a lower key. -/
theorem leastKey_least (s : State) (l : List Nat) (i : Nat) (h : leastKey s l = some i) :
    i ∈ l ∧ ∀ j ∈ l, dispatchKey s i ≤ dispatchKey s j := by
  induction l generalizing i with
  | nil => cases h
  | cons k l ih =>
    rw [leastKey] at h
    split at h
    · next hnone =>
      obtain rfl : k = i := Option.some.inj h
      simp [leastKey_none s l hnone]
    · next j hj =>
      obtain ⟨hmem, hleast⟩ := ih j hj
      split at h
      · next hlt =>
        obtain rfl : j = i := Option.some.inj h
        rw [keyLt_iff_lt] at hlt
        exact ⟨List.mem_cons_of_mem k hmem, List.forall_mem_cons.mpr ⟨hlt.le, hleast⟩⟩
      · next hle =>
        obtain rfl : k = i := Option.some.inj h
        rw [keyLt_iff_lt, not_lt] at hle
        exact ⟨List.mem_cons_self, List.forall_mem_cons.mpr ⟨le_rfl, fun m hm => hle.trans (hleast m hm)⟩⟩

/-! ### Dispatch (R90, R149, R150) -/

theorem State.onlyRegsTrace.le_eq {s t : State} (h : s.onlyRegsTrace t) (n : Nat) : t.le n = s.le n := by
  obtain ⟨r, x, rfl⟩ := h; rfl
theorem State.onlyRegsTrace.run_eq {s t : State} (h : s.onlyRegsTrace t) (i : Nat) : t.run i = s.run i := by
  obtain ⟨r, x, rfl⟩ := h; rfl

/-- An entry that moves into a queue changes the queues alone. -/
theorem refill_only (s : State) (c : Nat) (full : Bool) : s.onlyQueues (refill s c full) := by
  unfold refill
  split
  · exact s.onlyQueues_self
  · split
    · exact s.onlyQueues_self
    · exact State.onlyQueues_trans ⟨s.regs, _, rfl, rfl⟩ (markHwm_only _ c).toQueues

/-- Nothing moves into a queue that was not full. -/
theorem refill_notFull (s : State) (c : Nat) : refill s c false = s := rfl

/-- An engine's registers and surroundings once a block has been dispatched to it (R90, R156). -/
def dispatchCpu (s : State) (c : Cpu) (i : Nat) : Cpu :=
  { r := dispatchRegs s c.r (s.block i) (s.gen i)
    k := { c.k with
      state := .task, gated := false, stall := none, waiting := none, pipe := {}
      ev := some ⟨i, s.gen i, (s.block i).part, 2 * (s.block i).cost, (s.block i).bg, false, false⟩ } }

theorem State.mem_updLe (s : State) (n : Nat) (f : Cpu → Cpu) : (updLe s n f).mem = s.mem := rfl
theorem State.slots_updLe (s : State) (n : Nat) (f : Cpu → Cpu) : (updLe s n f).slots = s.slots := rfl
theorem State.run_updLe (s : State) (n : Nat) (f : Cpu → Cpu) (i : Nat) : (updLe s n f).run i = s.run i := rfl
theorem State.onlyRegs.run_eq {s t : State} (h : s.onlyRegs t) (i : Nat) : t.run i = s.run i := by obtain ⟨r, rfl⟩ := h; rfl

/-- A dispatch: the engine has the block, which runs unless its entry was one of a full queue; no memory and no slot changes. -/
theorem dispatchTo_frame (s : State) (n i : Nat) :
    (dispatchTo s n i).le n = dispatchCpu s (s.le n) i ∧
      ((s.queue (s.block i).home).length < 1024 → ((dispatchTo s n i).run i).state = .running n) ∧
      (dispatchTo s n i).mem = s.mem ∧ (dispatchTo s n i).slots = s.slots := by
  unfold dispatchTo
  extract_lets b full g x s1 s2 s3 y s4
  have h3 : s2.onlyRegs s3 := s2.onlyRegs_count _
  have h4 : s3.onlyQueues s4 := by
    unfold s4; split
    · exact ⟨s3.regs, _, rfl, rfl⟩
    · exact s3.onlyQueues_self
  have hqueues := State.onlyQueues_trans h3.toQueues (State.onlyQueues_trans h4 (refill_only s4 b.home full))
  have htrace := trcEmit_only (refill s4 b.home full) (n / 16) (pktDispatch s4 n i g)
  refine ⟨?_, fun hroom => ?_, ?_, ?_⟩
  · rw [htrace.le_eq, hqueues.le_eq]
    exact s1.le_setLe n _
  · have hfull : full = false := decide_eq_false (show ¬ (s.queue (s.block i).home).length = 1024 by omega)
    have h4run : s4.run i = s3.run i := by unfold s4; split <;> rfl
    have hrun : s4.run i = s1.run i := h4run.trans ((h3.run_eq i).trans (s1.run_updLe n _ i))
    rw [htrace.run_eq, hfull, refill_notFull, hrun, State.run_setRun]
  · exact htrace.mem_eq.trans (hqueues.mem_eq.trans (s1.mem_updLe n _))
  · exact htrace.slots_eq.trans (hqueues.slots_eq.trans (s1.slots_updLe n _))

/-! ### Steal (R153) -/

/-- The arbiter, where it serves the next thief and finds an entry for it. -/
theorem stealArbiter_grants (s : State) (c n i : Nat) (hserves : ¬ (s.dbgHalted || !s.dpr.open' || s.service || !s.dpr.stealIn) = true)
    (hthief : nextThief s s.dpr.stealPtr 4 = some (c, n))
    (htarget : stealTarget { s with dpr := { s.dpr with stealPtr := (c + 1) % 4 } } c = some i) :
    stealArbiter s = (dispatchTo { s with dpr := { s.dpr with stealPtr := (c + 1) % 4 } } n i).countReg R.DPR_STEAL_CNT := by
  rw [stealArbiter, if_neg hserves]
  simp only [hthief, htarget]

/-! ### The statement -/

/-- Settles O27: the head of a queue is least in the order of the keys, both rows come down to one dispatch, and that is its frame. -/
theorem dispatchAndSteal : Obligations.DispatchAndSteal := by
  refine ⟨fun s l i h => ?_, fun c s n i hh ho hs ht => ?_, fun s c n i hh ho hs hin hthief htarget => ?_, fun s n i => ?_⟩
  · obtain ⟨hmem, hleast⟩ := leastKey_least s l i h
    exact ⟨hmem, fun j hj => Bool.eq_false_iff.mpr fun hlt => (hleast j hj).not_gt ((keyLt_iff_lt _ _).mp hlt)⟩
  · show Host.Outcome.next (dispatchUnit s c.val) = _
    simp [dispatchUnit, hh, ho, hs, ht]
  · show Host.Outcome.next (stealArbiter s) = _
    rw [stealArbiter_grants s c n i (by simp [hh, ho, hs, hin]) hthief htarget]
  · obtain ⟨hle, hrun, hmem, hslots⟩ := dispatchTo_frame s n i
    rw [hle]
    exact ⟨rfl, rfl, rfl, hrun, hmem, hslots⟩

end Sys2Proof.Machine
end

section
/-! The dispatcher's register commands (R114, R165, R171). -/

namespace Sys2Proof.Machine

/-! ### What a recomputation of the caps leaves (R58, R60, R296) -/

/-- Nothing but registers and the host interface differs. -/
def State.onlyRegsHif (s t : State) : Prop := ∃ r h, t = { s with regs := r, hif := h }

theorem State.onlyRegsHif_self (s : State) : s.onlyRegsHif s := ⟨s.regs, s.hif, rfl⟩

theorem State.onlyRegsHif_trans {s t u : State} (h : s.onlyRegsHif t) (k : t.onlyRegsHif u) : s.onlyRegsHif u := by
  obtain ⟨r, x, rfl⟩ := h; obtain ⟨q, y, rfl⟩ := k; exact ⟨q, y, rfl⟩

theorem State.onlyRegs.toRegsHif {s t : State} (h : s.onlyRegs t) : s.onlyRegsHif t := by
  obtain ⟨r, rfl⟩ := h; exact ⟨r, s.hif, rfl⟩

theorem State.onlyRegsHif.dpr_eq {s t : State} (h : s.onlyRegsHif t) : t.dpr = s.dpr := by obtain ⟨r, x, rfl⟩ := h; rfl
theorem State.onlyRegsHif.mem_eq {s t : State} (h : s.onlyRegsHif t) : t.mem = s.mem := by obtain ⟨r, x, rfl⟩ := h; rfl

theorem sendVector_only (s : State) (v : Nat) : s.onlyRegsHif (sendVector s v) := by
  unfold sendVector; dsimp only
  split <;> exact ⟨_, _, rfl⟩

theorem devEvt_only (s : State) (k : Nat) : s.onlyRegsHif (devEvt s k) := by
  have hbit := (s.onlyRegs_setRegBit R.HIF_DEV_EVT k true).toRegsHif
  unfold devEvt; dsimp only
  split
  · exact s.onlyRegsHif_self
  · split
    · exact State.onlyRegsHif_trans hbit (sendVector_only _ _)
    · exact hbit

theorem bumpSeq_only (s : State) (part : Nat) : s.onlyRegsHif (bumpSeq s part) := ⟨_, _, rfl⟩

theorem postEvent_only (s : State) (part type : Nat) (data : List Nat) : s.onlyRegsHif (postEvent s part type data) := by
  unfold postEvent; dsimp only
  split
  · exact s.onlyRegsHif_self
  · refine State.onlyRegsHif_trans (bumpSeq_only s part) ?_
    split
    · exact ⟨_, _, rfl⟩
    · have hcounted := State.onlyRegs_trans (State.onlyRegs_count (bumpSeq s part) F.HIF_EVT_DROP_COUNT)
        (State.onlyRegs_count _ (F.HIF_PSTAT_EVT_LOST part))
      exact State.onlyRegsHif_trans hcounted.toRegsHif (State.onlyRegsHif_trans ⟨_, _, rfl⟩ (devEvt_only _ 3))

theorem postEvents_only (s : State) (type : Nat) (data l : List Nat) : s.onlyRegsHif (postEvents s type data l) := by
  induction l generalizing s with
  | nil => exact s.onlyRegsHif_self
  | cons p l ih => exact State.onlyRegsHif_trans (postEvent_only s p type data) (ih _)

theorem healthTell_only (s : State) : s.onlyRegsHif (healthTell s) := by
  unfold healthTell; dsimp only
  split
  · exact s.onlyRegsHif_self
  · exact State.onlyRegsHif_trans ⟨s.regs, _, rfl⟩ (postEvents_only _ _ _ _)

theorem capStep_only (s : State) (c : Nat) : s.onlyRegs (capStep s c) := by
  unfold capStep; dsimp only
  refine State.onlyRegs_trans ?_ (State.onlyRegs_setRegBit _ _ _ _)
  split
  · exact State.onlyRegs_trans (s.onlyRegs_setFld _ _) (State.onlyRegs_setRegBit _ _ _ _)
  · exact s.onlyRegs_setFld _ _

/-- The caps are registers, and what they tell the host is the host interface's own. -/
theorem recomputeCaps_only (s : State) : s.onlyRegsHif (recomputeCaps s) := by
  have hcaps : s.onlyRegsHif (eachNat capStep s (List.range 4)) := by
    generalize List.range 4 = l
    induction l generalizing s with
    | nil => exact s.onlyRegsHif_self
    | cons c l ih => exact State.onlyRegsHif_trans (capStep_only s c).toRegsHif (ih _)
  unfold recomputeCaps; dsimp only
  split
  · exact State.onlyRegsHif_trans hcaps
      (State.onlyRegsHif_trans (State.onlyRegs_setFld _ F.CYC_STATUS_OVER_CAP 1).toRegsHif (healthTell_only _))
  · exact hcaps

/-! ### A release from quarantine (R165) -/

/-- While the cycle stands, the released blocks leave the quarantine at once; memory stands. -/
theorem quarRel_stopped (s : State) (all : Bool) (b : Nat) (h : s.cycEn = false) :
    (quarRel s all b).dpr.quarantine = s.dpr.quarantine.filter (fun i => !has (if all then s.dpr.quarantine else [b]) i) ∧
      (quarRel s all b).mem = s.mem := by
  have hrel : quarRel s all b = recomputeCaps (releaseQuar s (if all then s.dpr.quarantine else [b])) := by
    rw [quarRel, h]; exact if_neg Bool.false_ne_true
  have honly := recomputeCaps_only (releaseQuar s (if all then s.dpr.quarantine else [b]))
  rw [hrel, honly.dpr_eq, honly.mem_eq]
  exact ⟨rfl, rfl⟩

/-- While the cycle runs, the release waits for the boundary. -/
theorem quarRel_running (s : State) (b : Nat) (h : s.cycEn = true) :
    quarRel s false b = { s with dpr := { s.dpr with quarRel := addTo s.dpr.quarRel b } } := by
  rw [quarRel, h]; rfl

/-! ### Counters and error registers (R114, R171) -/

/-- A register of a cleared range reads its reset value, every other register keeps its own. -/
theorem State.reg_resetRegs (s : State) (p : Nat → Bool) (a : Nat) :
    (s.resetRegs p).reg a = if p a then regReset a else s.reg a :=
  SMap.get_erase regReset p s.regs a

/-- The clear of the counters leaves each register outside their range and the queues' marks as it was. -/
theorem dprCntClr_reg (s : State) (a : Nat) (h : ∀ c < 4, a ≠ R.DPR_QSTAT c) :
    (dprCntClr s).reg a = if within a R.DPR_DISP_CNT 0x30 then regReset a else s.reg a := by
  unfold dprCntClr; dsimp only
  rw [State.reg_setFld_ne _ _ _ _ (h 3 (by decide)), State.reg_setFld_ne _ _ _ _ (h 2 (by decide)),
    State.reg_setFld_ne _ _ _ _ (h 1 (by decide)), State.reg_setFld_ne _ _ _ _ (h 0 (by decide)), State.reg_resetRegs]

theorem dprCntClr_counters (s : State) : (dprCntClr s).reg R.DPR_DISP_CNT = 0 ∧ (dprCntClr s).reg R.DPR_STEAL_CNT = 0 ∧
    (dprCntClr s).reg R.DPR_RETIRE_CNT = 0 ∧ (dprCntClr s).reg R.DPR_STALE_DROP = 0 := by
  have hcleared : ∀ a ∈ [R.DPR_DISP_CNT, R.DPR_STEAL_CNT, R.DPR_RETIRE_CNT, R.DPR_STALE_DROP],
      (∀ c < 4, a ≠ R.DPR_QSTAT c) ∧ within a R.DPR_DISP_CNT 0x30 = true ∧ regReset a = 0 := by decide
  have hzero : ∀ a ∈ [R.DPR_DISP_CNT, R.DPR_STEAL_CNT, R.DPR_RETIRE_CNT, R.DPR_STALE_DROP], (dprCntClr s).reg a = 0 := by
    intro a ha
    obtain ⟨hoff, hin, hreset⟩ := hcleared a ha
    rw [dprCntClr_reg s a hoff, if_pos hin, hreset]
  simpa using hzero

/-- The highest depths of the first and the last queue clear (each mark is a register of its own). -/
theorem dprCntClr_marks (s : State) : (dprCntClr s).fld (F.DPR_QSTAT_HWM 0) = 0 ∧ (dprCntClr s).fld (F.DPR_QSTAT_HWM 3) = 0 := by
  unfold dprCntClr; dsimp only
  refine ⟨?_, State.fld_setFld _ (F.DPR_QSTAT_HWM 3) 0 (by decide)⟩
  rw [State.fld_setFld_other _ _ _ _ (by decide), State.fld_setFld_other _ _ _ _ (by decide), State.fld_setFld_other _ _ _ _ (by decide)]
  exact State.fld_setFld _ (F.DPR_QSTAT_HWM 0) 0 (by decide)

/-- The clear of an engine's counters: no register of its processor and none of the map. -/
theorem lewinClr_engine (s : State) (n : Nat) : ((lewinClr s n).le n).k.brCount = 0 ∧ ((lewinClr s n).le n).k.brMiss = 0 ∧
    ((lewinClr s n).le n).r = (s.le n).r := by
  rw [lewinClr, updLe, State.le_setLe]
  exact ⟨rfl, rfl, rfl⟩

/-- The window selects the engine and the register that were written. -/
theorem lewinSelect_fields (s : State) (n : Fin 64) (k : Fin 16) :
    ((s.setFld F.DPR_LEWIN_SEL_LE n.val).setFld F.DPR_LEWIN_SEL_REG k.val).fld F.DPR_LEWIN_SEL_LE = n.val ∧
      ((s.setFld F.DPR_LEWIN_SEL_LE n.val).setFld F.DPR_LEWIN_SEL_REG k.val).fld F.DPR_LEWIN_SEL_REG = k.val := by
  constructor
  · rw [State.fld_setFld_above _ F.DPR_LEWIN_SEL_REG F.DPR_LEWIN_SEL_LE _ (by decide) rfl (by decide),
      State.fld_setFld _ F.DPR_LEWIN_SEL_LE _ (by decide)]
    exact Nat.mod_eq_of_lt n.isLt
  · rw [State.fld_setFld _ F.DPR_LEWIN_SEL_REG _ (by decide)]
    exact Nat.mod_eq_of_lt k.isLt

theorem csmEccClr_reg (s : State) (m a : Nat) :
    (csmEccClr s m).reg a = if within a (R.DPR_CSM_ECC 0) 0x20 && m.testBit (a / 4 % 4) then regReset a else s.reg a :=
  s.reg_resetRegs _ a

/-- Both error registers of a cluster lie in the range, under the cluster's bit of the mask, and are 0 after a reset. -/
theorem csmErrorRegs (c : Fin 4) : (within (R.DPR_CSM_ECC c.val) (R.DPR_CSM_ECC 0) 0x20 = true ∧ R.DPR_CSM_ECC c.val / 4 % 4 = c.val ∧
      regReset (R.DPR_CSM_ECC c.val) = 0) ∧
    within (R.DPR_CSM_UEADDR c.val) (R.DPR_CSM_ECC 0) 0x20 = true ∧ R.DPR_CSM_UEADDR c.val / 4 % 4 = c.val ∧
      regReset (R.DPR_CSM_UEADDR c.val) = 0 := by
  revert c; decide

/-! ### The statement -/

/-- Settles O29: a command at an open register has its effect alone, and each effect is read off by its own lemma. -/
theorem dispatcherCommands : Obligations.DispatcherCommands := by
  refine ⟨fun b s ha hen => ⟨_, atReg_open _ _ _ _ ha, ?_⟩, fun s ha hen => ⟨_, atReg_open _ _ _ _ ha, ?_⟩,
    fun b s ha hen => ⟨_, atReg_open _ _ _ _ ha, ?_⟩, fun s ha => ⟨_, atReg_open _ _ _ _ ha, ?_⟩,
    fun n k s ha => ⟨_, atReg_open _ _ _ _ ha, ?_⟩, fun m c s ha => ⟨_, atReg_open _ _ _ _ ha, ?_⟩⟩
  · obtain ⟨hquar, hmem⟩ := quarRel_stopped s false b.toNat hen
    refine ⟨hquar.trans (List.filter_congr fun i _ => ?_), hmem⟩
    simp [has]
  · obtain ⟨hquar, -⟩ := quarRel_stopped s true 0 hen
    exact hquar.trans (List.filter_eq_nil_iff.mpr fun i hi => by simp [has, hi])
  · rw [quarRel_running s _ hen]
    exact ⟨rfl, rfl⟩
  · obtain ⟨hdisp, hsteal, hretire, hstale⟩ := dprCntClr_counters s
    obtain ⟨hmark0, hmark3⟩ := dprCntClr_marks s
    exact ⟨hdisp, hsteal, hretire, hstale, hmark0, hmark3, dprCntClr_reg s _ (by decide), rfl⟩
  · obtain ⟨hbr, hmiss, hr⟩ := lewinClr_engine ((s.setFld F.DPR_LEWIN_SEL_LE n.val).setFld F.DPR_LEWIN_SEL_REG k.val) n.val
    obtain ⟨hle, hsel⟩ := lewinSelect_fields s n k
    exact ⟨hbr, hmiss, hle, hsel, hr⟩
  · obtain ⟨⟨hin, hbit, hzero⟩, hinUe, hbitUe, hzeroUe⟩ := csmErrorRegs c
    refine ⟨fun hm => ⟨?_, ?_⟩, fun hm => ?_⟩
    · rw [csmEccClr_reg, hin, hbit, hm, hzero]; rfl
    · rw [csmEccClr_reg, hinUe, hbitUe, hm, hzeroUe]; rfl
    · rw [csmEccClr_reg, hin, hbit, hm]; rfl

end Sys2Proof.Machine
end

section
/-! Words of Gurno instructions (R119, R128): the fields of a word, the operation of a code, and that writing and reading a word are
inverse to each other. -/

namespace Sys2Proof.Machine

/-! ### The fields of a word (R119) -/

/-- The word with the given fields, from bit 31 down. -/
def packWord (pi : Bool) (ps : BitVec 2) (op : BitVec 6) (am : BitVec 3) (opd : BitVec 20) : Word :=
  BitVec.ofBool pi ++ ps ++ op ++ am ++ opd

theorem gurnoWord_eq_packWord (op : GOp) (e : Enc) :
    gurnoWord op e = packWord e.pi e.ps (e.rsv.getD (BitVec.ofNat 6 (opcode op))) e.am e.opd := rfl

section
variable (pi : Bool) (ps : BitVec 2) (op : BitVec 6) (am : BitVec 3) (opd : BitVec 20)

@[simp] theorem wordPi_packWord : wordPi (packWord pi ps op am opd) = pi := by
  simp only [wordPi, packWord, BitVec.getLsbD_append]
  simp

@[simp] theorem wordPs_packWord : wordPs (packWord pi ps op am opd) = ps := by
  rw [wordPs, packWord, BitVec.extractLsb'_append_eq_of_le (by decide), BitVec.extractLsb'_append_eq_of_le (by decide),
    BitVec.extractLsb'_append_eq_of_le (by decide), BitVec.extractLsb'_append_eq_right]

@[simp] theorem wordOp_packWord : wordOp (packWord pi ps op am opd) = op := by
  rw [wordOp, packWord, BitVec.extractLsb'_append_eq_of_le (by decide), BitVec.extractLsb'_append_eq_of_le (by decide),
    BitVec.extractLsb'_append_eq_right]

@[simp] theorem wordAm_packWord : wordAm (packWord pi ps op am opd) = am := by
  rw [wordAm, packWord, BitVec.extractLsb'_append_eq_of_le (by decide), BitVec.extractLsb'_append_eq_right]

@[simp] theorem wordOpd_packWord : wordOpd (packWord pi ps op am opd) = opd := BitVec.extractLsb'_append_eq_right

end

/-- A word is put together again from its fields. -/
theorem packWord_fields (w : Word) : packWord (wordPi w) (wordPs w) (wordOp w) (wordAm w) (wordOpd w) = w := by
  have hpi : BitVec.ofBool (wordPi w) = w.extractLsb' 31 1 := by
    apply BitVec.eq_of_getLsbD_eq
    intro i hi
    obtain rfl : i = 0 := by omega
    simp [wordPi]
  rw [packWord, hpi, wordPs, wordOp, wordAm, wordOpd, BitVec.extractLsb'_append_extractLsb'_eq_extractLsb' (by decide),
    BitVec.extractLsb'_append_extractLsb'_eq_extractLsb' (by decide), BitVec.extractLsb'_append_extractLsb'_eq_extractLsb' (by decide),
    BitVec.extractLsb'_append_extractLsb'_eq_extractLsb' (by decide)]
  exact BitVec.extractLsb'_eq_self

/-! ### The operation of a code (R128) -/

theorem mem_allOps (op : GOp) : op ∈ allOps := by cases op <;> decide

/-- OP and the sub-operation tell the operations apart. -/
theorem opcode_subcode_injective {o p : GOp} (hc : opcode o = opcode p) (hs : subcode o = subcode p) : o = p :=
  List.inj_on_of_nodup_map (f := fun op => (opcode op, subcode op)) (by decide) (mem_allOps o) (mem_allOps p) (Prod.ext hc hs)

/-- Only OP of the SYS and CTL groups leaves the sub-operation open. -/
theorem hasSub_iff_opcode (op : GOp) : hasSub op = true ↔ opcode op = 0x3C ∨ opcode op = 0x3D := by
  cases op <;> decide

theorem subcode_of_not_hasSub (op : GOp) (h : hasSub op = false) : subcode op = 0 := by
  revert h; cases op <;> decide

theorem opMatches_iff (code sub : Nat) (op : GOp) :
    opMatches code sub op = true ↔ opcode op = code ∧ (hasSub op = true → subcode op = sub) := by
  cases h : hasSub op <;> simp [opMatches, h]

/-- A code has at most one operation. -/
theorem opMatches_unique {code sub : Nat} {o p : GOp} (ho : opMatches code sub o = true) (hp : opMatches code sub p = true) : o = p := by
  obtain ⟨hoc, hos⟩ := (opMatches_iff _ _ _).mp ho
  obtain ⟨hpc, hps⟩ := (opMatches_iff _ _ _).mp hp
  have hgroup : hasSub o = hasSub p := by rw [Bool.eq_iff_iff, hasSub_iff_opcode, hasSub_iff_opcode, hoc, hpc]
  refine opcode_subcode_injective (hoc.trans hpc.symm) ?_
  cases h : hasSub p
  · rw [subcode_of_not_hasSub o (hgroup.trans h), subcode_of_not_hasSub p h]
  · rw [hos (hgroup.trans h), hps h]

theorem opOfCode_eq_some_iff (code sub : Nat) (op : GOp) : opOfCode code sub = some op ↔ opMatches code sub op = true := by
  refine ⟨fun h => List.find?_some h, fun h => ?_⟩
  obtain ⟨o, ho⟩ := Option.isSome_iff_exists.mp (List.find?_isSome.mpr ⟨op, mem_allOps op, h⟩)
  rw [opOfCode, ho, opMatches_unique (List.find?_some ho) h]

theorem opOfCode_eq_none_iff (code sub : Nat) : opOfCode code sub = none ↔ ∀ op, opMatches code sub op = false := by
  simp [opOfCode, List.find?_eq_none, mem_allOps]

/-- The codes outside the SYS and CTL groups that no operation has are the reserved opcodes. -/
theorem opcode_exists (code : Nat) (h : code < 64) : reservedCode code 0 = true ∨ ∃ op ∈ allOps, opcode op = code := by
  revert code; decide

theorem subcode_exists_sys (sub : Nat) (h : sub < 3) : ∃ op ∈ allOps, opMatches 0x3C sub op = true := by
  revert sub; decide

theorem subcode_exists_ctl (sub : Nat) (h : sub < 4) : ∃ op ∈ allOps, opMatches 0x3D sub op = true := by
  revert sub; decide

theorem not_reservedCode_opcode (op : GOp) : reservedCode (opcode op) (subcode op) = false := by
  cases op <;> decide

/-- The sub-operation matters to the SYS and CTL groups alone. -/
theorem reservedCode_other (code sub : Nat) (hs : code ≠ 0x3C) (hc : code ≠ 0x3D) : reservedCode code sub = reservedCode code 0 := by
  simp [reservedCode, hs, hc]

/-- A code that is not reserved has an operation. -/
theorem opMatches_exists (code sub : Nat) (h : code < 64) (hfree : reservedCode code sub = false) :
    ∃ op, opMatches code sub op = true := by
  by_cases hsys : code = 0x3C
  · subst hsys
    obtain ⟨op, -, hop⟩ := subcode_exists_sys sub (by simpa [reservedCode] using hfree)
    exact ⟨op, hop⟩
  by_cases hctl : code = 0x3D
  · subst hctl
    obtain ⟨op, -, hop⟩ := subcode_exists_ctl sub (by simpa [reservedCode] using hfree)
    exact ⟨op, hop⟩
  · rcases opcode_exists code h with hres | ⟨op, -, rfl⟩
    · rw [reservedCode_other code sub hsys hctl, hres] at hfree
      cases hfree
    · exact ⟨op, (opMatches_iff _ _ _).mpr ⟨rfl, fun hgroup => absurd ((hasSub_iff_opcode op).mp hgroup) (by simp [hsys, hctl])⟩⟩

/-- A code that an operation has is not reserved. -/
theorem not_reservedCode_of_opMatches {code sub : Nat} {op : GOp} (h : opMatches code sub op = true) : reservedCode code sub = false := by
  obtain ⟨rfl, hsub⟩ := (opMatches_iff _ _ _).mp h
  have hfree := not_reservedCode_opcode op
  cases hgroup : hasSub op
  · have hout := mt (hasSub_iff_opcode op).mpr (by simp [hgroup])
    rw [reservedCode_other _ _ (fun he => hout (.inl he)) (fun he => hout (.inr he))] at hfree ⊢
    exact hfree
  · rwa [hsub hgroup] at hfree

/-- The codes that no operation has are the reserved ones. -/
theorem opOfCode_eq_none_iff_reserved (code sub : Nat) (h : code < 64) : opOfCode code sub = none ↔ reservedCode code sub = true := by
  constructor
  · intro hnone
    by_contra hres
    obtain ⟨op, hop⟩ := opMatches_exists code sub h (Bool.eq_false_of_not_eq_true hres)
    rw [(opOfCode_eq_some_iff code sub op).mpr hop] at hnone
    cases hnone
  · intro hres
    by_contra hsome
    obtain ⟨op, hop⟩ := Option.ne_none_iff_exists'.mp hsome
    rw [not_reservedCode_of_opMatches ((opOfCode_eq_some_iff code sub op).mp hop)] at hres
    cases hres

/-! ### The row of an operation -/

theorem gurno_instr (op : GOp) (g : Issue) : (op.instr g).gurno = some (op, g) := by cases op <;> rfl

theorem eq_instr_of_gurno {i : Instr} {op : GOp} {g : Issue} (h : i.gurno = some (op, g)) : i = op.instr g := by
  cases i <;> simp only [Instr.gurno, Option.some.injEq, Prod.mk.injEq, reduceCtorEq] at h <;> (obtain ⟨rfl, rfl⟩ := h; rfl)

/-! ### Writing and reading (R119) -/

/-- The fields that a word and the word behind it give, with the reserved code where there is one. -/
def wordEnc (w x : Word) (rsv : Option (BitVec 6)) : Enc :=
  ⟨wordPi w, wordPs w, wordAm w, wordOpd w, if wordAm w = 7 then x else 0, rsv⟩

section
variable {p : ProcId} {n : Nat} {w x : Word}

theorem decodeGurno_named {op : GOp} (h : opMatches (wordOp w).toNat ((wordOpd w).toNat / 65536) op = true) :
    decodeGurno p n w x = some (op.instr ⟨p, wordEnc w x none, n⟩) := by
  rw [decodeGurno, (opOfCode_eq_some_iff _ _ _).mpr h]; rfl

theorem decodeGurno_reserved (h : reservedCode (wordOp w).toNat ((wordOpd w).toNat / 65536) = true) :
    decodeGurno p n w x = some (GOp.nop.instr ⟨p, wordEnc w x (some (wordOp w)), n⟩) := by
  rw [decodeGurno, (opOfCode_eq_none_iff_reserved _ _ (wordOp w).isLt).mpr h]; rfl

end

/-- OP holds every opcode. -/
theorem opcode_toNat (op : GOp) : (BitVec.ofNat 6 (opcode op)).toNat = opcode op := by cases op <;> rfl

/-- The second word of fields that go together is read back: outside EXT mode it is 0. -/
theorem wordEnc_gurnoWord (op : GOp) (e : Enc) (h : e.am = 7 ∨ e.ext = 0) : wordEnc (gurnoWord op e) e.ext e.rsv = e := by
  have hext : (if e.am = 7 then e.ext else 0) = e.ext := by
    rcases h with h | h <;> simp [h]
  rw [wordEnc, gurnoWord_eq_packWord, wordPi_packWord, wordPs_packWord, wordAm_packWord, wordOpd_packWord, hext]

/-- What `Enc.wf` says of the fields of a named operation and of a reserved code. -/
theorem encWf_iff (op : GOp) (e : Enc) : e.wf op = true ↔ (e.am = 7 ∨ e.ext = 0) ∧
    match e.rsv with
    | none => hasSub op = true → e.opd.toNat / 65536 = subcode op
    | some c => op = .nop ∧ reservedCode c.toNat (e.opd.toNat / 65536) = true := by
  unfold Enc.wf
  cases e.rsv <;> cases h : hasSub op <;> simp

/-- Settles O3: the word's OP and OPD[19:16] name the operation, or are a reserved code, and its fields are read back one by one. -/
theorem gurnoRoundTrip : Obligations.GurnoRoundTrip := by
  intro i op g hi hwf
  obtain ⟨p, e, n⟩ := g
  obtain ⟨hext, hcode⟩ := (encWf_iff op e).mp hwf
  have henc := wordEnc_gurnoWord op e hext
  rw [eq_instr_of_gurno hi]
  cases hrsv : e.rsv with
  | none =>
    simp only [hrsv] at hcode henc
    have hm : opMatches (wordOp (gurnoWord op e)).toNat ((wordOpd (gurnoWord op e)).toNat / 65536) op = true := by
      rw [opMatches_iff, gurnoWord_eq_packWord, wordOp_packWord, wordOpd_packWord, hrsv]
      exact ⟨(opcode_toNat op).symm, fun h => (hcode h).symm⟩
    rw [decodeGurno_named hm, henc]
  | some c =>
    simp only [hrsv] at hcode henc
    obtain ⟨rfl, hres⟩ := hcode
    have hop : wordOp (gurnoWord .nop e) = c := by rw [gurnoWord_eq_packWord, wordOp_packWord, hrsv]; rfl
    have hopd : wordOpd (gurnoWord .nop e) = e.opd := by rw [gurnoWord_eq_packWord, wordOpd_packWord]
    rw [decodeGurno_reserved (by rwa [hop, hopd]), hop, henc]

/-- Settles O4: a word is its fields, whether its code names an operation or is reserved. -/
theorem gurnoWordsOneMeaning : Obligations.GurnoWordsOneMeaning := by
  intro p n w x i h
  have hext : ∀ r, (wordEnc w x r).am = 7 ∨ (wordEnc w x r).ext = 0 := fun r =>
    or_iff_not_imp_left.mpr fun ham => if_neg ham
  have hsecond : ∀ r, (wordEnc w x r).am = 7 → (wordEnc w x r).ext = x := fun r ham => if_pos ham
  cases hc : opOfCode (wordOp w).toNat ((wordOpd w).toNat / 65536) with
  | some op =>
    have hm := (opOfCode_eq_some_iff _ _ _).mp hc
    obtain ⟨hop, hsub⟩ := (opMatches_iff _ _ _).mp hm
    rw [decodeGurno_named hm] at h
    cases h
    refine ⟨op, _, gurno_instr op _, rfl, rfl, (encWf_iff _ _).mpr ⟨hext none, fun hs => (hsub hs).symm⟩, ?_, hsecond none⟩
    have hword : BitVec.ofNat 6 (opcode op) = wordOp w := BitVec.eq_of_toNat_eq ((opcode_toNat op).trans hop)
    rw [gurnoWord_eq_packWord, wordEnc, Option.getD_none, hword, packWord_fields]
  | none =>
    have hres := (opOfCode_eq_none_iff_reserved _ _ (wordOp w).isLt).mp hc
    rw [decodeGurno_reserved hres] at h
    cases h
    exact ⟨.nop, _, gurno_instr .nop _, rfl, rfl, (encWf_iff _ _).mpr ⟨hext _, rfl, hres⟩, packWord_fields w, hsecond _⟩

/-- The word of fields that go together decodes to the row that has them. -/
theorem decodeGurno_of_gurnoWord (op : GOp) (p : ProcId) (e : Enc) (w : Word) (hw : gurnoWord op e = w) (h : e.wf op = true) :
    decodeGurno p 0 w e.ext = some (op.instr ⟨p, e, 0⟩) :=
  hw ▸ gurnoRoundTrip (op.instr ⟨p, e, 0⟩) op ⟨p, e, 0⟩ (gurno_instr op _) h

/-- Settles O5: each printed word is that of its fields, so it is read back by the round trip. -/
theorem gurnoManualWords : Obligations.GurnoManualWords := fun p =>
  ⟨decodeGurno_of_gurnoWord .ld p ⟨false, 0, 6, 0x4D2, 0, none⟩ _ (by decide) (by decide),
    decodeGurno_of_gurnoWord .fmul p ⟨true, 2, 2, 0xC, 0, none⟩ _ (by decide) (by decide),
    decodeGurno_of_gurnoWord .pset p ⟨false, 0, 0, 0x1E, 0, none⟩ _ (by decide) (by decide),
    decodeGurno_of_gurnoWord .br p ⟨false, 1, 0, 0xFFFFA, 0, none⟩ _ (by decide) (by decide),
    decodeGurno_of_gurnoWord .ld p ⟨false, 0, 7, 0, 0x41200000, none⟩ _ (by decide) (by decide),
    decodeGurno_of_gurnoWord .yield p ⟨false, 0, 0, 0x10000, 0, none⟩ _ (by decide) (by decide)⟩

end Sys2Proof.Machine
end

section
/-! Instructions that complete at once (R86, R123, R128, R130) and the end check of the hardware loops (R136, R137). -/

namespace Sys2Proof.Machine

/-! ### Constant operands and moves of registers -/

theorem execValue_const (s : State) (p : ProcId) (op : GOp) (e : Enc) (c : Nat) (v : Word)
    (h : operand p (s.cpu p).r op e = .const v) : execValue s p op e c = complete s p e c (valueRegs (s.cpu p).r op e v 0 0) := by
  rw [execValue, h]

/-- Settles O6: every value-reading row is `execValue`, and issue leaves the registers that its operand rests on. -/
theorem gurnoConstantOperand : Obligations.GurnoConstantOperand := by
  intro i op g s v hi hv hrun ho
  rw [exec_runs i op g s hi hrun, execOp_value _ _ _ _ _ hv, execValue_const _ _ _ _ _ v (by rw [issued_r]; exact ho), issued_r]

/-- The opcodes that write a predicate register (R130). -/
theorem execOp_pred (s : State) (p : ProcId) (op : GOp) (e : Enc) (c : Nat) (h : op = .pset ∨ op = .pand ∨ op = .por ∨ op = .pnot) :
    execOp s p op e c = complete s p e c (predRegs (s.cpu p).r op e) := by
  rcases h with rfl | rfl | rfl | rfl <;> rfl

theorem execOp_lea (s : State) (p : ProcId) (op : GOp) (e : Enc) (c : Nat) (h : op = .leax ∨ op = .leay) :
    execOp s p op e c = complete s p e c (leaRegs p (s.cpu p).r op e) := by
  rcases h with rfl | rfl <;> rfl

/-- Settles O11: each row completes with its register written from the registers before issue. -/
theorem gurnoRegisterMoves : Obligations.GurnoRegisterMoves := by
  intro i op g s hi hrun
  rw [exec_runs i op g s hi hrun, ← issued_r s op g]
  refine ⟨fun h => ?_, ?_, ?_, fun h => ?_, ?_⟩
  · rw [execOp_lea _ _ _ _ _ h]
  · rintro rfl; rfl
  · rintro rfl; rfl
  · rw [execOp_pred _ _ _ _ _ h]
  · rintro rfl; rfl

/-! ### The frame of a completion (R86, R137) -/

theorem State.cpu_upd_ne (s : State) (p q : ProcId) (f : Proc → Proc) (h : q ≠ p) : (s.upd p f).cpu q = s.cpu q :=
  s.cpu_setCpu_ne p q _ h

theorem State.cpu_updK_ne (s : State) (p q : ProcId) (f : Core → Core) (h : q ≠ p) : (s.updK p f).cpu q = s.cpu q :=
  s.cpu_setCpu_ne p q _ h

theorem charge_cpu_ne (s : State) (p q : ProcId) (n : Nat) (h : q ≠ p) : (charge s p n).cpu q = s.cpu q := by
  cases p with
  | le k => exact s.cpu_upd_ne _ q _ h
  | mc => rfl
  | sp => rfl

/-- A completion is its own processor's alone. -/
theorem complete_cpu_ne (s : State) (p q : ProcId) (e : Enc) (n : Nat) (r : Proc) (h : q ≠ p) : (complete s p e n r).cpu q = s.cpu q := by
  rw [complete, charge_cpu_ne _ p q n h, State.cpu_upd_ne _ p q _ h, State.cpu_updK_ne _ p q _ h]

/-- Settles O12: the reads of a completed state, field by field. -/
theorem gurnoCompletionFrame : Obligations.GurnoCompletionFrame := fun s p e n r =>
  ⟨fun q hq => complete_cpu_ne s p q e n r hq, complete_mem .., complete_slots .., complete_regs .., complete_mcr ..,
    complete_plan .., complete_k .., complete_a .., complete_x .., complete_y .., complete_b .., complete_st .., complete_epc ..,
    complete_estat .., complete_vbr .., complete_spc .., complete_ssr .., complete_rs .., complete_rsDepth .., complete_fe ..,
    complete_lseInfo ..⟩

/-! ### Hardware loops (R136, R137) -/

section
variable (r : Proc) (e : Enc) (next : Word)

/-- A level that is not active is passed over. -/
theorem endCheck_inactive (k : Nat) (h : r.active k = false) : endCheck r e next (k + 1) = endCheck r e next k := by
  simp [endCheck, h]

/-- Off the end address of an active level the next instruction follows. -/
theorem endCheck_inside (k : Nat) (h : r.active k = true) (hend : r.atEnd e k = false) :
    endCheck r e next (k + 1) = { r with pc := next } := by
  simp [endCheck, h, hend]

/-- At the end address a count above 1 goes down and PC returns to the start. -/
theorem endCheck_again (k : Nat) (h : r.active k = true) (hend : r.atEnd e k = true) (hc : 1 < (r.lp k).count.toNat) :
    endCheck r e next (k + 1) =
      { (r.setLp k { r.lp k with count := (r.lp k).count - 1 }) with pc := (r.lp k).start &&& 0xFFFFFFFC } := by
  simp [endCheck, h, hend, hc]

/-- A count of 1 is used up, and the level below decides. -/
theorem endCheck_done (k : Nat) (h : r.active k = true) (hend : r.atEnd e k = true) (hc : (r.lp k).count.toNat = 1) :
    endCheck r e next (k + 1) = endCheck (r.setLp k { r.lp k with count := 0 }) e next k := by
  simp [endCheck, h, hend, hc]

/-- Where no level below `k` is active at its end address, the next instruction follows. -/
theorem endCheck_off (k : Nat) (h : ∀ j < k, r.active j = true → r.atEnd e j = false) :
    endCheck r e next k = { r with pc := next } := by
  induction k with
  | zero => rfl
  | succ k ih =>
    cases hk : r.active k with
    | false => rw [endCheck_inactive r e next k hk, ih fun j hj => h j (by omega)]
    | true => rw [endCheck_inside r e next k hk (h k (by omega) hk)]

end

/-- The check starts at the innermost active level. -/
theorem advance_innermost (r : Proc) (e : Enc) (k : Nat) (h : r.innermost = some k) :
    r.active k = true ∧ r.advance e = endCheck r e (r.pc + word (ilen e)) (k + 1) := by
  unfold Proc.innermost at h
  unfold Proc.advance
  split at h
  · next h2 => cases h; exact ⟨h2, rfl⟩
  · next h2 =>
    rw [endCheck_inactive r e _ 2 (by simpa using h2)]
    split at h
    · next h1 => cases h; exact ⟨h1, rfl⟩
    · next h1 =>
      rw [endCheck_inactive r e _ 1 (by simpa using h1)]
      split at h
      · next h0 => cases h; exact ⟨h0, rfl⟩
      · cases h

theorem Proc.lp_setLp_same (r : Proc) (k : Nat) (l : HwLoop) (hk : k < 3) : (r.setLp k l).lp k = l := by
  interval_cases k <;> rfl

theorem Proc.lp_setLp_ne (r : Proc) (k j : Nat) (l : HwLoop) (hk : k < 3) (hj : j < 3) (h : j ≠ k) : (r.setLp k l).lp j = r.lp j := by
  interval_cases k <;> interval_cases j <;> simp_all [Proc.lp, Proc.setLp]

theorem Proc.lp_withPc (r : Proc) (pc : Word) (k : Nat) : { r with pc := pc }.lp k = r.lp k := rfl

/-- The check leaves the levels above the one from which it starts. -/
theorem endCheck_lp_above (e : Enc) (next : Word) (k j : Nat) (hkj : k ≤ j) (hj : j < 3) (r : Proc) :
    (endCheck r e next k).lp j = r.lp j := by
  induction k generalizing r with
  | zero => rfl
  | succ k ih =>
    have hset : ∀ l, (r.setLp k l).lp j = r.lp j := fun l => r.lp_setLp_ne k j l (by omega) hj (by omega)
    unfold endCheck
    split
    · split
      · split
        · rw [Proc.lp_withPc, hset]
        · rw [ih (by omega), hset]
      · rfl
    · exact ih (by omega) r

/-- Settles O13: with no level at its end the check passes; the innermost active level decides where it is at its end. -/
theorem hardwareLoopEnd : Obligations.HardwareLoopEnd := by
  intro r e
  refine ⟨fun h => endCheck_off r e _ 3 h, fun k hk hin hend hc => ?_, fun k hk hin hend hc => ?_⟩
  · obtain ⟨hact, hadv⟩ := advance_innermost r e k hin
    rw [hadv, endCheck_again r e _ k hact hend hc]
    refine ⟨rfl, ?_⟩
    rw [Proc.lp_withPc, Proc.lp_setLp_same r k _ hk]
  · obtain ⟨hact, hadv⟩ := advance_innermost r e k hin
    rw [hadv, endCheck_done r e _ k hact hend hc, endCheck_lp_above e _ k k le_rfl hk, Proc.lp_setLp_same r k _ hk]

end Sys2Proof.Machine
end

section
/-! Integer arithmetic (R128, R129): results and flags as exact arithmetic has them. -/

namespace Sys2Proof.Machine

section
variable (a b : Word)

/-- The carry is what the sum of 32 bits leaves out. -/
theorem aluAdd_carry : a.toNat + b.toNat = (aluAdd a b).val.toNat + if (aluAdd a b).c = some true then 2 ^ 32 else 0 := by
  have ha := a.isLt
  have hb := b.isLt
  have hval : (aluAdd a b).val.toNat = (a.toNat + b.toNat) % 2 ^ 32 := BitVec.toNat_add a b
  have hc : (aluAdd a b).c = some (decide (2 ^ 32 ≤ a.toNat + b.toNat)) := rfl
  rw [hval, hc]
  simp only [Option.some.injEq, decide_eq_true_eq]
  split <;> omega

/-- The borrow is what the difference of 32 bits takes in. -/
theorem aluSub_borrow : a.toNat + (if (aluSub a b).c = some true then 0 else 2 ^ 32) = (aluSub a b).val.toNat + b.toNat := by
  have ha := a.isLt
  have hb := b.isLt
  have hval : (aluSub a b).val.toNat = (2 ^ 32 - b.toNat + a.toNat) % 2 ^ 32 := BitVec.toNat_sub a b
  have hc : (aluSub a b).c = some (decide (b.toNat ≤ a.toNat)) := rfl
  rw [hval, hc]
  simp only [Option.some.injEq, decide_eq_true_eq]
  split <;> omega

end

/-- A number narrowed to 32 bits is itself just where a signed word holds it. -/
theorem bmod_ne_self_iff (n : Int) : n.bmod (2 ^ 32) ≠ n ↔ n < -2 ^ 31 ∨ 2 ^ 31 ≤ n := by
  rw [Int.bmod_def]
  split <;> omega

section
variable (a b : Word)

theorem aluAdd_overflow : (aluAdd a b).v = some true ↔ a.toInt + b.toInt < -2 ^ 31 ∨ 2 ^ 31 ≤ a.toInt + b.toInt := by
  have hv : (aluAdd a b).v = some (decide ((a + b).toInt ≠ a.toInt + b.toInt)) := rfl
  rw [hv, BitVec.toInt_add, Option.some.injEq, decide_eq_true_eq]
  exact bmod_ne_self_iff _

theorem aluSub_overflow : (aluSub a b).v = some true ↔ a.toInt - b.toInt < -2 ^ 31 ∨ 2 ^ 31 ≤ a.toInt - b.toInt := by
  have hv : (aluSub a b).v = some (decide ((a - b).toInt ≠ a.toInt - b.toInt)) := rfl
  rw [hv, BitVec.toInt_sub, Option.some.injEq, decide_eq_true_eq]
  exact bmod_ne_self_iff _

/-- The product of two signed words fits in 63 bits. -/
theorem toInt_mul_bounds : -2 ^ 62 ≤ a.toInt * b.toInt ∧ a.toInt * b.toInt ≤ 2 ^ 62 := by
  have ha : |a.toInt| ≤ 2 ^ 31 := abs_le.mpr ⟨a.le_toInt, (a.toInt_lt).le⟩
  have hb : |b.toInt| ≤ 2 ^ 31 := abs_le.mpr ⟨b.le_toInt, (b.toInt_lt).le⟩
  have h : |a.toInt * b.toInt| ≤ 2 ^ 31 * 2 ^ 31 := by
    rw [abs_mul]; exact mul_le_mul ha hb (abs_nonneg _) (by norm_num)
  exact abs_le.mp h

/-- MULH and MUL are the two halves of the product. -/
theorem aluMul_halves : (aluMulh a b).val.toInt * 2 ^ 32 + ((aluMul a b).val.toNat : Int) = a.toInt * b.toInt := by
  obtain ⟨hlow, hhigh⟩ := toInt_mul_bounds a b
  have hh : (aluMulh a b).val.toInt = (a.toInt * b.toInt / 2 ^ 32).bmod (2 ^ 32) := BitVec.toInt_ofInt _
  have hl : ((aluMul a b).val.toNat : Int) = a.toInt * b.toInt % 2 ^ 32 := by
    have hnat : (aluMul a b).val.toNat = (a.toInt * b.toInt % 2 ^ 32).toNat := BitVec.toNat_ofInt _
    rw [hnat, Int.toNat_of_nonneg (Int.emod_nonneg _ (by norm_num))]
  have hself : (a.toInt * b.toInt / 2 ^ 32).bmod (2 ^ 32) = a.toInt * b.toInt / 2 ^ 32 := by
    by_contra h
    have hout := (bmod_ne_self_iff _).mp h
    omega
  rw [hh, hl, hself]
  omega

/-- SHL's carry is the bit above the word. -/
theorem aluShl_carry (h : b.toNat % 32 ≠ 0) :
    (aluShl a b).c = some (decide (a.toNat * 2 ^ (b.toNat % 32) / 2 ^ 32 % 2 = 1)) := by
  have hn : b.toNat % 32 < 32 := Nat.mod_lt _ (by decide)
  have hc : (aluShl a b).c = some (decide (b.toNat % 32 ≠ 0) && a.getLsbD (32 - b.toNat % 32)) := rfl
  have hdiv : a.toNat * 2 ^ (b.toNat % 32) / 2 ^ 32 = a.toNat / 2 ^ (32 - b.toNat % 32) := by
    have hpow : 2 ^ 32 = 2 ^ (32 - b.toNat % 32) * 2 ^ (b.toNat % 32) := by rw [← pow_add, Nat.sub_add_cancel hn.le]
    rw [hpow]
    exact Nat.mul_div_mul_right _ _ (by positivity)
  rw [hc, hdiv, BitVec.getLsbD, Nat.testBit_eq_decide_div_mod_eq, decide_eq_true h, Bool.true_and]

/-- SHR's carry is the last bit below the result. -/
theorem aluShr_carry (h : b.toNat % 32 ≠ 0) :
    (aluShr a b).c = some (decide (a.toNat / 2 ^ (b.toNat % 32 - 1) % 2 = 1)) := by
  have hc : (aluShr a b).c = some (decide (b.toNat % 32 ≠ 0) && a.getLsbD (b.toNat % 32 - 1)) := rfl
  rw [hc, BitVec.getLsbD, Nat.testBit_eq_decide_div_mod_eq, decide_eq_true h, Bool.true_and]

theorem aluMin_toInt : (aluMin a b).val.toInt = min a.toInt b.toInt := by
  have hval : (aluMin a b).val = if b.toInt < a.toInt then b else a := rfl
  rw [hval]; split <;> omega

theorem aluMax_toInt : (aluMax a b).val.toInt = max a.toInt b.toInt := by
  have hval : (aluMax a b).val = if a.toInt < b.toInt then b else a := rfl
  rw [hval]; split <;> omega

end

/-- Settles O19: one law for each operation. -/
theorem integerResults : Obligations.IntegerResults := fun a b =>
  ⟨aluAdd_carry a b, aluSub_borrow a b, aluAdd_overflow a b, aluSub_overflow a b, aluMul_halves a b, aluShl_carry a b,
    aluShr_carry a b, aluMin_toInt a b, aluMax_toInt a b⟩

end Sys2Proof.Machine
end

section
/-! Binary32 (R129, R132, R133): NaN words and the numeric order, the limiters, and the words that float operations deliver. -/

namespace Sys2Proof.Machine

/-! ### NaN words and the order (R132) -/

/-- A NaN has all exponent bits set and a fraction. -/
theorem fIsNan_iff (w : Word) : fIsNan w = true ↔ w.toNat / 2 ^ 23 % 256 = 255 ∧ w.toNat % 2 ^ 23 ≠ 0 := by
  unfold fIsNan fval
  dsimp only
  split
  · next hex =>
    split
    · next hfr => exact iff_of_false Bool.false_ne_true fun h => h.2 hfr
    · next hfr => split <;> exact iff_of_true rfl ⟨hex, hfr⟩
  · next hex => split <;> exact iff_of_false Bool.false_ne_true fun h => hex h.1

/-- The sign of a word says nothing about NaN. -/
theorem fIsNan_congr {v w : Word} (h : v.toNat % 2 ^ 31 = w.toNat % 2 ^ 31) : fIsNan v = fIsNan w := by
  have hex : v.toNat / 2 ^ 23 % 256 = w.toNat / 2 ^ 23 % 256 := by omega
  have hfr : v.toNat % 2 ^ 23 = w.toNat % 2 ^ 23 := by omega
  rw [Bool.eq_iff_iff, fIsNan_iff, fIsNan_iff, hex, hfr]

theorem fIsNan_fAbsWord (w : Word) : fIsNan (fAbsWord w) = fIsNan w := by
  refine fIsNan_congr ?_
  have habs : (fAbsWord w).toNat = w.toNat % 2 ^ 31 := (BitVec.toNat_and w _).trans (Nat.and_two_pow_sub_one_eq_mod w.toNat 31)
  rw [habs, Nat.mod_mod]

theorem fIsNan_fNegWord (w : Word) : fIsNan (fNegWord w) = fIsNan w := by
  refine fIsNan_congr ?_
  rw [fNegWord, BitVec.toNat_xor, Nat.xor_mod_two_pow]
  exact Nat.xor_zero _

/-- A subnormal denotes the zero that it is taken as. -/
theorem fval_fFlush (w : Word) : fval (fFlush w) = fval w := by
  unfold fFlush
  split
  · next s h => rw [h]; cases s <;> decide
  · rfl

@[simp] theorem fIsNan_fFlush (w : Word) : fIsNan (fFlush w) = fIsNan w := by rw [fIsNan, fval_fFlush]; rfl

@[simp] theorem fLt_fFlush_left (v w : Word) : fLt (fFlush v) w = fLt v w := by rw [fLt, fval_fFlush]; rfl

@[simp] theorem fLt_fFlush_right (v w : Word) : fLt v (fFlush w) = fLt v w := by rw [fLt, fval_fFlush]; rfl

theorem fLt_self (w : Word) : fLt w w = false := by simp [fLt]

/-- Below a bound means not above a bound that is no lower. -/
theorem fLt_false_of_lt {a lo hi : Word} (h : fLt a lo = true) (hb : fLt hi lo = false) : fLt hi a = false := by
  simp only [fLt, decide_eq_true_eq, decide_eq_false_iff_not] at h hb ⊢
  omega

/-! ### CLAMP and SAT (R133) -/

@[simp] theorem fLimited_val (r : Word) (c v fi : Bool) : (fLimited r c v fi).val = r := rfl
@[simp] theorem fLimited_c (r : Word) (c v fi : Bool) : (fLimited r c v fi).c = some c := rfl
@[simp] theorem fLimited_v (r : Word) (c v fi : Bool) : (fLimited r c v fi).v = some v := rfl

theorem fIsNan_fZero (neg : Bool) : fIsNan (fZero neg) = false := by cases neg <;> decide

/-- CLAMP gives A only where A is no NaN, and a bound only where the bound is none. -/
theorem fClamp_notNan (a lo hi : Word) : fIsNan (fClamp a lo hi).val = false := by
  unfold fClamp
  dsimp only
  split_ifs <;> simp_all only [fLimited_val, fIsNan_fFlush, fIsNan_fZero, Bool.not_eq_true, Bool.and_eq_true, Bool.not_eq_true',
    true_and]

/-- SAT gives zero in place of a NaN, else A or the magnitude of an operand that is none. -/
theorem fSat_notNan (a b : Word) : fIsNan (fSat a b).val = false := by
  unfold fSat
  dsimp only
  split_ifs <;> simp_all only [fLimited_val, fIsNan_fFlush, fIsNan_fZero, Bool.not_eq_true, fIsNan_fAbsWord, fIsNan_fNegWord]

section
variable (a lo hi : Word) (ha : fIsNan a = false) (hlo : fIsNan lo = false) (hhi : fIsNan hi = false) (hle : fLt hi lo = false)
include ha hlo hhi hle

/-- CLAMP of numbers between bounds in order. -/
theorem fClamp_ordered : fClamp a lo hi =
    if fLt a lo then fLimited (fFlush lo) true false false
    else if fLt hi a then fLimited (fFlush hi) false true false
    else fLimited (fFlush a) false false false := by
  simp [fClamp, ha, hlo, hhi, hle]

theorem fClamp_bounds : fLt (fClamp a lo hi).val lo = false ∧ fLt hi (fClamp a lo hi).val = false ∧
    ((fClamp a lo hi).c = some true ↔ fLt a lo = true) ∧ ((fClamp a lo hi).v = some true ↔ fLt hi a = true) := by
  rw [fClamp_ordered a lo hi ha hlo hhi hle]
  cases hbelow : fLt a lo with
  | true => simp [fLt_self, hle, fLt_false_of_lt hbelow hle]
  | false =>
    cases habove : fLt hi a with
    | true => simp [fLt_self, hle]
    | false => simp [hbelow, habove]

end

/-! ### The words that float operations deliver (R132) -/

/-- A word that is no subnormal, and the canonical NaN if it is a NaN. -/
def fCanonical (w : Word) : Prop :=
  (w.toNat / 2 ^ 23 % 256 = 0 → w.toNat % 2 ^ 23 = 0) ∧ (fIsNan w = true → w = 0x7FC00000)

theorem fCanonical_fNan : fCanonical fNan := ⟨by decide, fun _ => rfl⟩

theorem fCanonical_fInf (neg : Bool) : fCanonical (fInf neg) := by cases neg <;> exact ⟨by decide, by decide⟩

theorem fCanonical_fZero (neg : Bool) : fCanonical (fZero neg) := by cases neg <;> exact ⟨by decide, by decide⟩

/-- A word that denotes a finite number other than zero is a normal number. -/
theorem fCanonical_of_fin {w : Word} {neg : Bool} {m : Nat} {e : Int} (h : fval w = .fin neg m e) : fCanonical w := by
  refine ⟨fun hex => ?_, fun hnan => ?_⟩
  · have hzero : fval w = .zero w.msb := by
      unfold fval
      dsimp only
      rw [if_neg (by omega), if_pos hex]
    rw [hzero] at h
    cases h
  · simp [fIsNan, h, FVal.isNan] at hnan

/-- An exponent field within the normal numbers makes a canonical word, whatever the fraction. -/
theorem fCanonical_normal (neg : Bool) (be f : Nat) (h1 : 1 ≤ be) (h2 : be < 255) (hf : f < 2 ^ 23) :
    fCanonical (word (fSign neg + be * 2 ^ 23 + f)) := by
  have hs : fSign neg = 0 ∨ fSign neg = 2 ^ 31 := by cases neg <;> simp [fSign]
  have hn : (word (fSign neg + be * 2 ^ 23 + f)).toNat = fSign neg + be * 2 ^ 23 + f := by
    rw [BitVec.toNat_ofNat]; omega
  have hex : (word (fSign neg + be * 2 ^ 23 + f)).toNat / 2 ^ 23 % 256 = be := by rw [hn]; omega
  refine ⟨fun h => ?_, fun h => ?_⟩
  · omega
  · have hall := ((fIsNan_iff _).mp h).1
    omega

/-- Rounding gives at most 24 bits. -/
theorem fRound_lt (m : Nat) (e : Int) : (fRound m e).1 < 2 ^ 24 := by
  have hm : m < 2 ^ (m.log2 + 1) := Nat.lt_log2_self
  unfold fRound
  extract_lets l k q r up q'
  split
  · next hl =>
    calc m * 2 ^ (24 - l) < 2 ^ l * 2 ^ (24 - l) := by gcongr
      _ = 2 ^ 24 := by rw [← pow_add, Nat.add_sub_cancel' hl]
  · next hl =>
    have hq : q < 2 ^ 24 := by
      refine Nat.div_lt_of_lt_mul ?_
      rw [← pow_add, Nat.sub_add_cancel (by omega)]
      exact hm
    have hq' : q' ≤ q + 1 := by unfold q'; split <;> omega
    split
    · show 2 ^ 23 < 2 ^ 24
      decide
    · show q' < 2 ^ 24
      omega

theorem fCanonical_fDeliver (neg : Bool) (m : Nat) (e : Int) : fCanonical (fDeliver neg m e).val := by
  have hq := fRound_lt m e
  unfold fDeliver
  dsimp only
  split
  · exact fCanonical_fInf neg
  · split
    · exact fCanonical_fZero neg
    · exact fCanonical_normal neg _ _ (by omega) (by omega) (by omega)

theorem fCanonical_fDeliverInt (v e : Int) : fCanonical (fDeliverInt v e).val := by
  unfold fDeliverInt
  split
  · exact fCanonical_fZero false
  · exact fCanonical_fDeliver _ _ _

theorem fCanonical_fSum (s : Bool) (m : Nat) (e : Int) (s' : Bool) (m' : Nat) (e' : Int) : fCanonical (fSum s m e s' m' e').val :=
  fCanonical_fDeliverInt _ _

theorem fCanonical_fInvalid : fCanonical fInvalid.val := fCanonical_fNan

section
variable (a b : Word)

theorem fCanonical_fAdd : fCanonical (fAdd a b).val := by
  unfold fAdd
  split
  case h_1 | h_2 => exact fCanonical_fInvalid
  case h_3 | h_4 => exact fCanonical_fNan
  case h_5 =>
    split
    · exact fCanonical_fInf _
    · exact fCanonical_fInvalid
  case h_6 | h_7 => exact fCanonical_fInf _
  case h_8 => exact fCanonical_fZero _
  case h_9 _ hb => exact fCanonical_of_fin hb
  case h_10 ha _ => exact fCanonical_of_fin ha
  case h_11 => exact fCanonical_fSum _ _ _ _ _ _

theorem fCanonical_fMul : fCanonical (fMul a b).val := by
  unfold fMul
  split
  case h_1 | h_2 | h_5 | h_6 => exact fCanonical_fInvalid
  case h_3 | h_4 => exact fCanonical_fNan
  case h_7 | h_8 | h_9 => exact fCanonical_fInf _
  case h_10 | h_11 | h_12 => exact fCanonical_fZero _
  case h_13 => exact fCanonical_fDeliver _ _ _

theorem fCanonical_fDiv : fCanonical (fDiv a b).val := by
  unfold fDiv
  split
  case h_1 | h_2 | h_5 | h_6 => exact fCanonical_fInvalid
  case h_3 | h_4 => exact fCanonical_fNan
  case h_7 | h_8 | h_9 => exact fCanonical_fInf _
  case h_10 | h_11 | h_12 => exact fCanonical_fZero _
  case h_13 => exact fCanonical_fDeliver _ _ _

end

/-- Settles O20: the limiters by their cases, and every float result by the word that is delivered. -/
theorem floatBounds : Obligations.FloatBounds := by
  refine ⟨⟨fun a lo hi => ⟨fClamp_notNan a lo hi, fSat_notNan a lo⟩, fClamp_bounds⟩, fun a b u hu => ?_⟩
  simp only [List.mem_cons, List.not_mem_nil, or_false] at hu
  rcases hu with rfl | rfl | rfl | rfl | rfl
  · exact fCanonical_fAdd a b
  · exact fCanonical_fAdd a (fNegWord b)
  · exact fCanonical_fMul a b
  · exact fCanonical_fDiv a b
  · exact fCanonical_fDeliverInt _ _

end Sys2Proof.Machine
end

section
/-! The flags of a float comparison and the conditions of PSET on them (R129, R130). -/

namespace Sys2Proof.Machine

section
variable (a b : Word)

theorem fCmp_unordered (h : fIsNan a = true ∨ fIsNan b = true) :
    (fCmp a b).z = false ∧ (fCmp a b).n = false ∧ (fCmp a b).c = some false ∧ (fCmp a b).v = some true := by
  have hnan : ((fval a).isNan || (fval b).isNan) = true := (Bool.or_eq_true _ _).mpr h
  simp [fCmp, hnan]

/-- On ordered operands Z is equality, N the order, and C and V are clear. -/
theorem fCmp_ordered (ha : fIsNan a = false) (hb : fIsNan b = false) :
    (fCmp a b).z = (!fLt a b && !fLt b a) ∧ (fCmp a b).n = fLt a b ∧ (fCmp a b).c = some false ∧ (fCmp a b).v = some false := by
  have hnan : ((fval a).isNan || (fval b).isNan) = false := Bool.or_eq_false_iff.mpr ⟨ha, hb⟩
  rcases lt_trichotomy (fCmpKey (fval a)) (fCmpKey (fval b)) with h | h | h
  · simp [fCmp, hnan, fLt, h]
  · simp [fCmp, hnan, fLt, h]
  · simp [fCmp, hnan, fLt, h, h.not_gt, h.ne']

theorem fLt_asymm (h : fLt a b = true) : fLt b a = false := by
  simp only [fLt, decide_eq_true_eq, decide_eq_false_iff_not] at h ⊢
  omega

end

theorem predRegs_pset (r : Proc) (e : Enc) : predRegs r .pset e =
    r.setPred (opdBits e 4 2) (condHolds (opdBits e 0 4) (stBit r.st 0) (stBit r.st 1) (stBit r.st 2) (stBit r.st 3)) := rfl

/-- Settles O21: PSET is its row of O11, the table is read off, and the float conditions follow from the flags that FCMP sets. -/
theorem psetConditions : Obligations.PsetConditions := by
  refine ⟨fun g s hrun => ?_, fun z n c v => ?_, fun a b => ⟨fun h => ?_, fun ha hb => ?_⟩⟩
  · obtain ⟨-, -, -, hpred, -⟩ := gurnoRegisterMoves (.pset g) .pset g s rfl hrun
    rw [hpred (.inl rfl), predRegs_pset]
  · exact ⟨⟨rfl, rfl, rfl, rfl, rfl, rfl, rfl, rfl⟩, rfl, rfl, rfl, rfl, rfl, rfl, rfl, rfl⟩
  · obtain ⟨hz, hn, hc, hv⟩ := fCmp_unordered a b h
    rw [hz, hn, hc, hv]
    decide
  · obtain ⟨hz, hn, hc, hv⟩ := fCmp_ordered a b ha hb
    rw [hz, hn, hc, hv]
    have hasymm := fLt_asymm a b
    cases hab : fLt a b <;> cases hba : fLt b a <;> simp_all [condHolds]

end Sys2Proof.Machine
end

section
/-! Plan commands (R197 to R205): the start of a load and its refusal, the request to commit while the cycle runs, and the host's
commands, which run where their unit is open and are held where its domain sleeps (R299, R445; log entry 108). -/

namespace Sys2Proof.Machine

/-! ### A load that is refused on the register path (R197, R198, R208) -/

section
variable (s : State) (e : LoadErr)

theorem planResult_only (status : Nat) : s.onlyRegs (planResult s status) :=
  State.onlyRegs_trans (s.onlyRegs_setFld _ _) (State.onlyRegs_setFld _ _ _)

theorem loadFails_regs_only : s.onlyRegs (loadFails s .regs e) :=
  have hstatus := State.onlyRegs_trans (planResult_only s e.status) (State.onlyRegs_setFld _ F.DPR_PLAN_STATUS_SECT e.sect)
  State.onlyRegs_trans (State.onlyRegs_trans hstatus (State.onlyRegs_setReg _ R.DPR_PLAN_ERR (word e.ofs))) (evcEvent_only _ 42)

/-- The registers of the plan loader are none that the event of a refusal changes. -/
theorem loadFails_regs_status : (loadFails s .regs e).reg R.DPR_PLAN_STATUS =
    ((planResult s e.status).setFld F.DPR_PLAN_STATUS_SECT e.sect).reg R.DPR_PLAN_STATUS := by
  unfold loadFails tellPath
  rw [evcEvent_reg_above _ 42 _ (by decide) (by decide), State.reg_setReg_ne _ _ _ _ (by decide)]

theorem loadFails_regs_result : (loadFails s .regs e).fld F.DPR_PLAN_STATUS_RESULT = e.status % 256 := by
  rw [State.fld_congr (loadFails_regs_status s e), planResult,
    State.fld_setFld_above _ F.DPR_PLAN_STATUS_SECT F.DPR_PLAN_STATUS_RESULT _ (by decide) rfl (by decide),
    State.fld_setFld_below _ F.DPR_PLAN_STATUS_DONE F.DPR_PLAN_STATUS_RESULT _ (by decide) rfl (by decide),
    State.fld_setFld _ F.DPR_PLAN_STATUS_RESULT _ (by decide)]
  rfl

theorem loadFails_regs_done : (loadFails s .regs e).flag F.DPR_PLAN_STATUS_DONE = true := by
  rw [State.flag_congr (loadFails_regs_status s e), planResult, State.flag,
    State.fld_setFld_above _ F.DPR_PLAN_STATUS_SECT F.DPR_PLAN_STATUS_DONE _ (by decide) rfl (by decide),
    State.fld_setFld _ F.DPR_PLAN_STATUS_DONE _ (by decide)]
  rfl

end

/-- An image that a check refuses ends its load with the check's error. -/
theorem endLoad_refused (s : State) (ld : Loading) (m : Img) (n : Nat) (e : LoadErr)
    (h : checkImage { s with loading := none } ld m n = some e) : endLoad s ld m n = loadFails { s with loading := none } ld.path e := by
  simp [endLoad, h]

/-! ### The start of a load and its end (R197, R198) -/

theorem startLoad_free (s : State) (ld : Loading) (h : s.loading = none) : startLoad s ld = { s with loading := some ld } := by
  simp [startLoad, h]

theorem startLoad_busy (s : State) (ld : Loading) (h : s.loading.isSome = true) :
    startLoad s ld = loadFails s ld.path ⟨St.busy, 0, 0⟩ := by
  simp [startLoad, h]

theorem exec_planLoadEnd_regs (d : HostData) (s : State) (ld : Loading) (h : s.loading = some ld) (hp : ld.path = .regs) :
    exec (.planLoadEnd d) s = .next (regLoad s ld d) := by
  show execPlanLoadEnd d s = _
  simp [execPlanLoadEnd, h, hp]

theorem exec_planLoadEnd_host (d : HostData) (s : State) (ld : Loading) (n : Nat) (h : s.loading = some ld) (hp : ld.path = .host n) :
    exec (.planLoadEnd d) s = .next (hostLoad s ld d) := by
  show execPlanLoadEnd d s = _
  simp [execPlanLoadEnd, h, hp]

/-! ### A request to commit (R201) -/

/-- A shadow that a request makes PENDING; one that is PENDING already keeps the path that asked first. -/
def Shadow.pending (path : Path) (x : Shadow) : Shadow := if x.commit.isNone then { x with commit := some path } else x

theorem Shadow.pending_commit (path : Path) (x : Shadow) : (x.pending path).commit.isSome = true := by
  unfold Shadow.pending
  split
  · rfl
  · next h => simpa [Option.isSome_iff_ne_none] using h

theorem Shadow.pending_plan (path : Path) (x : Shadow) : (x.pending path).plan = x.plan := by
  unfold Shadow.pending
  split <;> rfl

/-- While the cycle runs, the shadows wait for the boundary. -/
theorem requestCommit_running (s : State) (path : Path) (h : s.cycEn = true) :
    requestCommit s path = { s with shadows := s.shadows.map (Shadow.pending path), commits := s.commits ++ [path] } := if_pos h

theorem cycEn_setPlanOp (s : State) (v : Nat) : (s.setFld F.DPR_PLAN_CTRL_OP v).cycEn = s.cycEn :=
  State.flag_congr (State.reg_setFld_ne _ _ _ _ (by decide))

/-! ### Commands of the host (R295, R299, R424, R445) -/

theorem findCmd_serial {s : State} {n : Nat} {c : HostCmd} (h : findCmd s n = some c) : c.serial = n := by
  have hfound := List.find?_some h
  simp only [Bool.and_eq_true, decide_eq_true_eq] at hfound
  exact hfound.1

theorem reach_open (s : State) (c : HostCmd) (d : HostData) (a : Nat) (write : Bool) (t : State) (h : reaches s a) :
    reach s c d a write t = t := by
  obtain ⟨hwrap, hawake⟩ := h
  simp [reach, reachDomain, hwrap, hawake]

/-- An access to a sleeping domain that is not locked is held. -/
theorem wakeAccess_holds (s : State) (k : Nat) (h : domLocked s k = false) : (wakeAccess s k).1 = true := by
  simp [wakeAccess, h]

theorem reach_asleep (s : State) (c : HostCmd) (d : HostData) (a k : Nat) (write : Bool) (t : State) (hwrap : s.wrapped a = false)
    (hsleep : asleep s a = some k) (hlock : domLocked s k = false) :
    reach s c d a write t = { (wakeAccess s k).2 with held := (wakeAccess s k).2.held ++ [.host c.serial a d] } := by
  simp [reach, reachDomain, hwrap, hsleep, wakeAccess_holds s k hlock]

/-- A held command leaves all but the PMU, the registers and the list of held accesses. -/
theorem reach_asleep_frame (s : State) (c : HostCmd) (d : HostData) (a k : Nat) (write : Bool) (t : State) (hwrap : s.wrapped a = false)
    (hsleep : asleep s a = some k) (hlock : domLocked s k = false) :
    (reach s c d a write t).held = s.held ++ [.host c.serial a d] ∧ (reach s c d a write t).loading = s.loading := by
  rw [reach_asleep s c d a k write t hwrap hsleep hlock]
  obtain ⟨r, p, hwake⟩ := wakeAccess_only s k
  rw [hwake]
  exact ⟨rfl, rfl⟩

section
variable {s : State} {n op : Nat} {c : HostCmd}

/-- A command that starts and finds its unit open has its effect; to start it does not bear on how the unit answers. -/
theorem onHost_reach_open (h : hostRuns s n op c) {a : Nat} (ha : reaches s a) (effect : HostCmd → State → State) :
    onHost s n (fun o => o == op) (fun c t => reach t c noData a true (effect c t)) = effect c (markStarted s n) :=
  (onHost_runs s n op c _ h).trans (reach_open (markStarted s n) c noData a true _ ha)

theorem exec_planLoad_open (h : hostRuns s n 0x10 c) (ha : reaches s R.DPR_PLAN_CTRL) :
    exec (.planLoad n) s = .next (startLoad (markStarted s n) ⟨c.addr, c.len, c.part, .host n⟩) := by
  obtain rfl := findCmd_serial h.1
  exact congrArg Host.Outcome.next (onHost_reach_open h ha fun c t => startLoad t ⟨c.addr, c.len, c.part, .host c.serial⟩)

theorem exec_planCommit_open (h : hostRuns s n 0x11 c) (ha : reaches s R.DPR_PLAN_CTRL) :
    exec (.planCommit n) s = .next (requestCommit (markStarted s n) (.host n)) := by
  obtain rfl := findCmd_serial h.1
  exact congrArg Host.Outcome.next (onHost_reach_open h ha fun c t => requestCommit t (.host c.serial))

theorem exec_planAbort_open (h : hostRuns s n 0x12 c) (ha : reaches s R.DPR_PLAN_CTRL) :
    exec (.planAbort n) s = .next (endCmd (abortShadows (markStarted s n)) c St.ok) :=
  congrArg Host.Outcome.next (onHost_reach_open h ha fun c t => endCmd (abortShadows t) c St.ok)

theorem exec_planLoad_asleep {k : Nat} (h : hostRuns s n 0x10 c) (hwrap : s.wrapped R.DPR_PLAN_CTRL = false)
    (hsleep : asleep s R.DPR_PLAN_CTRL = some k) (hlock : domLocked s k = false) :
    ∃ t, exec (.planLoad n) s = .next t ∧ t.held = s.held ++ [.host c.serial R.DPR_PLAN_CTRL noData] ∧ t.loading = s.loading :=
  ⟨planLoad c (markStarted s n), congrArg Host.Outcome.next (onHost_runs s n 0x10 c planLoad h),
    reach_asleep_frame (markStarted s n) c noData _ k true _ hwrap hsleep hlock⟩

end

/-! ### The statement -/

/-- Settles O30: on the register path each command is its helper at an open register, a refusal writing registers alone; the host's
commands reach the same helpers, or are held where the plan loader's domain sleeps. -/
theorem planCommands : Obligations.PlanCommands := by
  refine ⟨fun s ha hfree => ⟨_, atReg_open _ _ _ _ ha, ?_⟩, fun s ha hbusy => ⟨_, atReg_open _ _ _ _ ha, ?_⟩,
    fun d s ld hld => ⟨exec_planLoadEnd_regs d s ld hld, fun n => exec_planLoadEnd_host d s ld n hld⟩,
    fun s ld m n e hpath hcheck => ?_, fun s ha hen => ⟨_, atReg_open _ _ _ _ ha, ?_⟩,
    fun s ha => ⟨_, atReg_open _ _ _ _ ha, rfl, rfl, rfl, rfl⟩,
    fun n c s => ⟨exec_planLoad_open, exec_planCommit_open, exec_planAbort_open,
      fun k hwrap hsleep hlock hruns => exec_planLoad_asleep hruns hwrap hsleep hlock⟩⟩
  · rw [startLoad_free (s.setFld F.DPR_PLAN_CTRL_OP 1) _ hfree]
    exact ⟨rfl, rfl, rfl, rfl⟩
  · rw [startLoad_busy (s.setFld F.DPR_PLAN_CTRL_OP 1) _ hbusy]
    obtain ⟨r, hregs⟩ := loadFails_regs_only (s.setFld F.DPR_PLAN_CTRL_OP 1) ⟨St.busy, 0, 0⟩
    refine ⟨loadFails_regs_result _ _, ?_⟩
    rw [hregs]
    exact ⟨rfl, rfl, rfl⟩
  · rw [endLoad_refused s ld m n e hcheck, hpath]
    have hresult := loadFails_regs_result { s with loading := none } e
    have hdone := loadFails_regs_done { s with loading := none } e
    obtain ⟨r, hregs⟩ := loadFails_regs_only { s with loading := none } e
    rw [hregs] at hresult hdone ⊢
    exact ⟨rfl, rfl, rfl, rfl, hresult, hdone⟩
  · rw [requestCommit_running _ _ ((cycEn_setPlanOp s 2).trans hen)]
    refine ⟨rfl, fun x hx => ?_, ?_, rfl⟩
    · obtain ⟨y, -, rfl⟩ := List.mem_map.mp hx
      exact y.pending_commit .regs
    · exact List.map_map.trans (List.map_congr_left fun y _ => y.pending_plan .regs)

end Sys2Proof.Machine
end

section
/-! The field links' tables and states (R259 to R262, R281, R296): what a link and a station read after a change, and what the change of a
link's state leaves as it is. -/

namespace Sys2Proof.Machine

/-! ### Stations of a table (R262) -/

theorem Lnk.stn_setStn (x : Lnk) (st : Nat) (y : Stn) : (x.setStn st y).stn st = y := SMap.get_set_same _ _ _ _

theorem Lnk.stn_setStn_ne (x : Lnk) (st st' : Nat) (y : Stn) (h : st' ≠ st) : (x.setStn st y).stn st' = x.stn st' :=
  SMap.get_set_ne _ _ _ _ _ h

theorem State.lnk_setLnk_ne (s : State) (l l' : Nat) (x : Lnk) (h : l' ≠ l) : (s.setLnk l x).lnk l' = s.lnk l' :=
  SMap.get_set_ne _ _ _ _ _ h

@[simp] theorem State.lnk_setFld (s : State) (f : Fld) (v l : Nat) : (s.setFld f v).lnk l = s.lnk l := rfl

@[simp] theorem State.stn_setLnk (s : State) (l st : Nat) (x : Lnk) : (s.setLnk l x).stn l st = x.stn st := by
  rw [State.stn, State.lnk_setLnk]

@[simp] theorem State.stn_setStn (s : State) (l st : Nat) (y : Stn) : (s.setStn l st y).stn l st = y := by
  rw [State.setStn, State.stn_setLnk, Lnk.stn_setStn]

/-- Every other station of every link keeps its entry. -/
theorem State.stn_setStn_ne (s : State) (l st l' st' : Nat) (y : Stn) (h : (l', st') ≠ (l, st)) :
    (s.setStn l st y).stn l' st' = s.stn l' st' := by
  by_cases hl : l' = l
  · subst hl
    have hst : st' ≠ st := fun e => h (by rw [e])
    rw [State.setStn, State.stn_setLnk, Lnk.stn_setStn_ne _ _ _ _ hst]; rfl
  · rw [State.setStn, State.stn, State.lnk_setLnk_ne _ _ _ _ hl]; rfl

@[simp] theorem State.linkState_setLnk (s : State) (l l' : Nat) (x : Lnk) : (s.setLnk l x).linkState l' = s.linkState l' := rfl

@[simp] theorem State.fld_setLnk (s : State) (l : Nat) (x : Lnk) (f : Fld) : (s.setLnk l x).fld f = s.fld f := rfl

@[simp] theorem State.linkState_setStn (s : State) (l st l' : Nat) (y : Stn) : (s.setStn l st y).linkState l' = s.linkState l' := rfl

/-! ### Events (R281, R296) -/

theorem sflEvent_only (s : State) (l k : Nat) : s.onlyRegs (sflEvent s l k) := evcIf_only s _ _ k

/-- The registers of the links lie above the Event Controller. -/
theorem sflEvent_reg (s : State) (l k b : Nat) (hl : l < 24) (hk : k < 4) (hb : 0x40010000 ≤ b) : (sflEvent s l k).reg b = s.reg b :=
  evcIf_reg_above s _ _ k b (by omega) (by omega)

theorem sendVector_reg (s : State) (v b : Nat) : (sendVector s v).reg b = s.reg b := by
  unfold sendVector; dsimp only
  split <;> rfl

theorem devEvt_reg (s : State) (k b : Nat) (hb : b ≠ R.HIF_DEV_EVT) : (devEvt s k).reg b = s.reg b := by
  have hbit : (s.setRegBit R.HIF_DEV_EVT k true).reg b = s.reg b := s.reg_setReg_ne _ b _ hb
  unfold devEvt; dsimp only
  split
  · rfl
  · split
    · exact (sendVector_reg _ 128 b).trans hbit
    · exact hbit

/-- What an event of a partition sets lies in the host interface, above the links. -/
theorem postEvent_reg (s : State) (part type : Nat) (data : List Nat) (b : Nat) (hb : b < 0x40030000) :
    (postEvent s part type data).reg b = s.reg b := by
  unfold postEvent
  dsimp only
  split
  · rfl
  · split
    · rfl
    · refine (devEvt_reg _ 3 b (by simp only [R.HIF_DEV_EVT]; omega)).trans ((State.reg_count_ne _ _ b ?_).trans (State.reg_countReg_ne _ _ b ?_))
      · simp only [R.HIF_PSTAT]; omega
      · simp only [R.HIF_EVT_DROP]; omega

theorem postEvents_reg (s : State) (type : Nat) (data l : List Nat) (b : Nat) (hb : b < 0x40030000) :
    (postEvents s type data l).reg b = s.reg b := by
  induction l generalizing s with
  | nil => rfl
  | cons p l ih => rw [postEvents, ih, postEvent_reg s p type data b hb]

/-! ### A link enters another state (R260) -/

/-- The link's controller takes the drive of the state; beside it, registers and the host interface differ. -/
theorem linkTo_only (s : State) (l k : Nat) : (s.setLnk l { s.lnk l with drive := lineDrive s l k }).onlyRegsHif (linkTo s l k) :=
  State.onlyRegsHif_trans (State.onlyRegs_trans (State.onlyRegs_setFld _ (F.SFL_STATUS_STATE l) k) (sflEvent_only _ l 0)).toRegsHif
    (postEvents_only _ _ _ _)

/-- Of the registers of the links the field of the state alone is written. -/
theorem linkTo_reg (s : State) (l k b : Nat) (hl : l < 24) (hlo : 0x40010000 ≤ b) (hhi : b < 0x40030000) :
    (linkTo s l k).reg b = (s.setFld (F.SFL_STATUS_STATE l) k).reg b :=
  (postEvents_reg _ _ _ _ b hhi).trans (sflEvent_reg _ l 0 b hl (by decide) hlo)

theorem linkTo_status (s : State) (l k : Nat) (hl : l < 24) :
    (linkTo s l k).reg (R.SFL_STATUS l) = (s.setFld (F.SFL_STATUS_STATE l) k).reg (R.SFL_STATUS l) :=
  linkTo_reg s l k _ hl (by simp only [R.SFL_STATUS]; omega) (by simp only [R.SFL_STATUS]; omega)

theorem linkTo_linkState (s : State) (l k : Nat) (hl : l < 24) (hk : k < 8) : (linkTo s l k).linkState l = k := by
  rw [State.linkState, State.fld_congr (linkTo_status s l k hl), State.fld_setFld _ _ _ (by simp)]
  exact Nat.mod_eq_of_lt hk

theorem linkTo_downCause (s : State) (l k : Nat) (hl : l < 24) :
    (linkTo s l k).fld (F.SFL_STATUS_DOWN_CAUSE l) = s.fld (F.SFL_STATUS_DOWN_CAUSE l) :=
  (State.fld_congr (f := F.SFL_STATUS_DOWN_CAUSE l) (linkTo_status s l k hl)).trans
    (State.fld_setFld_above _ (F.SFL_STATUS_STATE l) _ k (by simp) rfl (by simp))

theorem linkTo_lnk (s : State) (l k : Nat) : (linkTo s l k).lnk l = { s.lnk l with drive := lineDrive s l k } := by
  obtain ⟨r, h, e⟩ := linkTo_only s l k
  rw [e]; exact State.lnk_setLnk _ _ _

theorem linkTo_mem (s : State) (l k : Nat) : (linkTo s l k).mem = s.mem := (linkTo_only s l k).mem_eq

end Sys2Proof.Machine
end

section
/-! Link states (R229, R260, R261): the link epoch of a training that succeeds, the entries to TRAIN and to DOWN, and the ends of a test. -/

namespace Sys2Proof.Machine

/-! ### The link epoch (R229, R410) -/

theorem drbg_reg (s : State) (b : Nat) : s.drbg.2.reg b = s.reg b := by
  unfold State.drbg State.drbgUsed
  dsimp only
  split <;> rfl

theorem newEpoch_served (s : State) (l : Nat) (h : s.fld F.ENT_STATUS_STATE = 1) : newEpoch s l =
    (s.drbg.2.setLnk l { s.drbg.2.lnk l with entEpoch := true }).setFld (F.SFL_STATUS_EPOCH l) (1 + Config.freeValue s.draws % 255) := by
  unfold newEpoch; exact if_pos h

theorem newEpoch_kept (s : State) (l : Nat) (h : s.fld F.ENT_STATUS_STATE ≠ 1) (he : (s.lnk l).entEpoch = true) : newEpoch s l = s := by
  unfold newEpoch; rw [if_neg h, if_pos he]

theorem newEpoch_timebase (s : State) (l : Nat) (h : s.fld F.ENT_STATUS_STATE ≠ 1) (he : (s.lnk l).entEpoch = false) :
    newEpoch s l = s.setFld (F.SFL_STATUS_EPOCH l) (1 + s.tb % 255) := by
  unfold newEpoch; rw [if_neg h, if_neg (by simp [he])]

/-- An epoch from 1 to 255 fits in its field. -/
theorem fld_setEpoch (s : State) (l v : Nat) :
    (s.setFld (F.SFL_STATUS_EPOCH l) (1 + v % 255)).fld (F.SFL_STATUS_EPOCH l) = 1 + v % 255 := by
  rw [State.fld_setFld _ _ _ (by simp)]
  exact Nat.mod_eq_of_lt (by simp only; omega)

/-- A new epoch leaves the fields of the status below it, SYNC and LOS among them. -/
theorem newEpoch_fld_below (s : State) (l : Nat) (f : Fld) (hr : f.reg = R.SFL_STATUS l) (hf : f.lo + f.w ≤ 8) :
    (newEpoch s l).fld f = s.fld f := by
  have hput : ∀ (t : State) (v : Nat), (t.setFld (F.SFL_STATUS_EPOCH l) v).fld f = t.fld f :=
    fun t v => State.fld_setFld_below t (F.SFL_STATUS_EPOCH l) f v (by simp) hr hf
  by_cases h : s.fld F.ENT_STATUS_STATE = 1
  · rw [newEpoch_served s l h, hput]
    exact State.fld_congr (drbg_reg s _)
  · cases he : (s.lnk l).entEpoch with
    | true => rw [newEpoch_kept s l h he]
    | false => rw [newEpoch_timebase s l h he, hput]

/-! ### Synchronisation (R217) -/

/-- The receiver has acquired character synchronisation. -/
def synced (s : State) (l : Nat) : State := (s.setFld (F.SFL_STATUS_SYNC l) 1).setFld (F.SFL_STATUS_LOS l) 0

theorem synced_fld (s : State) (l : Nat) (f : Fld) (h : f.reg ≠ R.SFL_STATUS l) : (synced s l).fld f = s.fld f := by
  rw [synced, State.fld_setFld_other _ _ _ _ h, State.fld_setFld_other _ _ _ _ h]

theorem synced_fld_above (s : State) (l : Nat) (f : Fld) (hr : f.reg = R.SFL_STATUS l) (hf : 5 ≤ f.lo) : (synced s l).fld f = s.fld f := by
  rw [synced, State.fld_setFld_above _ _ _ _ (by simp) hr (by simpa), State.fld_setFld_above _ _ _ _ (by simp) hr (by simp; omega)]

theorem synced_draws (s : State) (l : Nat) : (synced s l).draws = s.draws := by simp [synced]

theorem synced_tb (s : State) (l : Nat) : (synced s l).tb = s.tb := by simp [synced]

theorem synced_lnk (s : State) (l : Nat) : (synced s l).lnk l = s.lnk l := by simp [synced]

theorem synced_sync (s : State) (l : Nat) : (synced s l).flag (F.SFL_STATUS_SYNC l) = true := by
  have h : (synced s l).fld (F.SFL_STATUS_SYNC l) = 1 :=
    (State.fld_setFld_below _ (F.SFL_STATUS_LOS l) (F.SFL_STATUS_SYNC l) 0 (by simp) rfl (by simp)).trans
      (s.fld_setFld (F.SFL_STATUS_SYNC l) 1 (by simp))
  rw [State.flag, h]; rfl

theorem synced_los (s : State) (l : Nat) : (synced s l).flag (F.SFL_STATUS_LOS l) = false := by
  rw [synced, State.flag_setFld _ _ _ (by simp)]; rfl

theorem entStatus_apart (l : Nat) : R.ENT_STATUS ≠ R.SFL_STATUS l := by
  simp only [R.ENT_STATUS, R.SFL_STATUS]; omega

theorem exec_trainSync_short (l : Fin 24) (s : State) : exec (.trainSync ⟨l, false⟩) s = .next (synced s l.val) := by
  show execTrainSync ⟨l, false⟩ s = _
  unfold execTrainSync; exact if_pos (Or.inr rfl)

theorem exec_trainSync_elsewhere (l : Fin 24) (s : State) (h : s.linkState l.val ≠ 1) :
    exec (.trainSync ⟨l, true⟩) s = .next (synced s l.val) := by
  show execTrainSync ⟨l, true⟩ s = _
  unfold execTrainSync; exact if_pos (Or.inl h)

theorem exec_trainSync_train (l : Fin 24) (s : State) (h : s.linkState l.val = 1) :
    exec (.trainSync ⟨l, true⟩) s = .next (enumStart (synced s l.val) l.val) := by
  show execTrainSync ⟨l, true⟩ s = _
  unfold execTrainSync; exact if_neg (by simp [h])

/-- What ENUM begins with: SYNC and LOS as the receiver has them, and the epoch of R229. -/
theorem newEpoch_synced (s : State) (l : Nat) :
    (newEpoch (synced s l) l).flag (F.SFL_STATUS_SYNC l) = true ∧ (newEpoch (synced s l) l).flag (F.SFL_STATUS_LOS l) = false ∧
      (s.fld F.ENT_STATUS_STATE = 1 →
        (newEpoch (synced s l) l).fld (F.SFL_STATUS_EPOCH l) = 1 + Config.freeValue s.draws % 255) ∧
      (s.fld F.ENT_STATUS_STATE ≠ 1 → (s.lnk l).entEpoch = true →
        (newEpoch (synced s l) l).fld (F.SFL_STATUS_EPOCH l) = s.fld (F.SFL_STATUS_EPOCH l)) ∧
      (s.fld F.ENT_STATUS_STATE ≠ 1 → (s.lnk l).entEpoch = false →
        (newEpoch (synced s l) l).fld (F.SFL_STATUS_EPOCH l) = 1 + s.tb % 255) := by
  have hent : (synced s l).fld F.ENT_STATUS_STATE = s.fld F.ENT_STATUS_STATE := synced_fld s l _ (entStatus_apart l)
  refine ⟨?_, ?_, fun h => ?_, fun h he => ?_, fun h he => ?_⟩
  · rw [State.flag, newEpoch_fld_below _ _ (F.SFL_STATUS_SYNC l) rfl (by simp)]; exact synced_sync s l
  · rw [State.flag, newEpoch_fld_below _ _ (F.SFL_STATUS_LOS l) rfl (by simp)]; exact synced_los s l
  · rw [newEpoch_served _ _ (hent.trans h), fld_setEpoch, synced_draws]
  · rw [newEpoch_kept (synced s l) l (by rwa [hent]) (by rwa [synced_lnk])]
    exact synced_fld_above s l (F.SFL_STATUS_EPOCH l) rfl (by simp)
  · rw [newEpoch_timebase (synced s l) l (by rwa [hent]) (by rwa [synced_lnk]), fld_setEpoch, synced_tb]

/-! ### Time in a state (R260, R537) -/

theorem exec_trainTimeout_train (l : Fin 24) (s : State) (h : s.linkState l.val = 1) (hh : s.dbgHalted = false) :
    exec (.trainTimeout l) s = .next (linkDown s l.val 3) := by
  show execTrainTimeout l s = _
  unfold execTrainTimeout; exact if_pos ⟨h, hh⟩

theorem exec_trainTimeout_idle (l : Fin 24) (s : State) (h : s.linkState l.val ≠ 1 ∨ s.dbgHalted = true) :
    exec (.trainTimeout l) s = .next s := by
  show execTrainTimeout l s = _
  unfold execTrainTimeout
  exact if_neg fun ⟨hstate, hrun⟩ => h.elim (· hstate) fun hh => by simp [hh] at hrun

theorem exec_enumEnd_waits (l : Fin 24) (s : State)
    (h : s.linkState l.val ≠ 2 ∨ ∃ st ∈ s.stnList l.val, (s.stn l.val st).idWait = true) : exec (.enumEnd l) s = .next s := by
  show execEnumEnd l s = _
  unfold execEnumEnd
  exact if_pos (h.imp_right fun h => List.any_eq_true.mpr h)

theorem exec_enumEnd_ends (l : Fin 24) (s : State) (h2 : s.linkState l.val = 2)
    (h : ∀ st ∈ s.stnList l.val, (s.stn l.val st).idWait = false) : exec (.enumEnd l) s =
      .next (admitCheck (eachNat (enumResult l.val) (linkTo s l.val 3) (s.stnList l.val)) l.val) := by
  have hnone : ((s.stnList l.val).any (fun st => (s.stn l.val st).idWait)) = false :=
    List.any_eq_false.mpr fun st hst => by simp [h st hst]
  show execEnumEnd l s = _
  unfold execEnumEnd
  exact if_neg (by simp [h2, hnone])

/-! ### Entries to TRAIN and to DOWN (R260, R261) -/

theorem mayTrain_setLnk (s : State) (l l' : Nat) (x : Lnk) : mayTrain (s.setLnk l x) l' = mayTrain s l' := rfl

/-- The wait in DOWN is over. -/
def waitOver (s : State) (l : Nat) : State := s.setLnk l { s.lnk l with waited := true }

theorem waitOver_lnk (s : State) (l : Nat) : (waitOver s l).lnk l = { s.lnk l with waited := true } := State.lnk_setLnk _ _ _

theorem mayTrain_waitOver (s : State) (l : Nat) : mayTrain (waitOver s l) l = mayTrain s l := mayTrain_setLnk s l l _

theorem linkState_waitOver (s : State) (l : Nat) : (waitOver s l).linkState l = s.linkState l := s.linkState_setLnk l l _

theorem tryTrain_trains (s : State) (l : Nat) (h0 : s.linkState l = 0) (hm : mayTrain s l = true) :
    tryTrain (waitOver s l) l = linkTo (waitOver s l) l 1 :=
  if_pos ⟨(linkState_waitOver s l).trans h0, (mayTrain_waitOver s l).trans hm, by rw [waitOver_lnk]⟩

theorem tryTrain_stays (s : State) (l : Nat) (h : s.linkState l ≠ 0 ∨ mayTrain s l = false) : tryTrain s l = s :=
  if_neg fun ⟨h0, hm, _⟩ => h.elim (· h0) fun hno => by simp [hno] at hm

theorem exec_linkRetry_halted (l : Fin 24) (s : State) (hh : s.dbgHalted = true) : exec (.linkRetry l) s = .next s := by
  show execLinkRetry l s = _
  unfold execLinkRetry; exact if_neg (by simp [hh])

theorem exec_linkRetry_runs (l : Fin 24) (s : State) (h : s.linkState l.val = 0 ∨ s.linkState l.val = 5) (hh : s.dbgHalted = false) :
    exec (.linkRetry l) s = .next (tryTrain (waitOver s l.val) l.val) := by
  show execLinkRetry l s = _
  unfold execLinkRetry; exact if_pos ⟨h, hh⟩

theorem retrain_down (s : State) (l : Nat) (h0 : s.linkState l = 0) : retrain s l = tryTrain (waitOver s l) l := if_pos h0

/-- A link that leaves DOWN for TRAIN leaves memory as it is. -/
theorem tryTrain_train (s : State) (l : Fin 24) (h0 : s.linkState l.val = 0) (hm : mayTrain s l.val = true) :
    (tryTrain (waitOver s l.val) l.val).linkState l.val = 1 ∧ (tryTrain (waitOver s l.val) l.val).mem = s.mem := by
  rw [tryTrain_trains s l.val h0 hm]
  exact ⟨linkTo_linkState _ _ _ l.isLt (by decide), linkTo_mem _ _ _⟩

theorem endTest_elsewhere (s : State) (l : Nat) (h : s.linkState l ≠ 5) : endTest s l = s := if_pos h

/-- What a link that has entered DOWN ends: its wait, its due frames, the service of its stations, its acyclic requests. -/
def endTraffic (t : State) (l : Nat) : State :=
  let s2 := t.setLnk l { t.lnk l with waited := false, due := [] }
  let s3 := eachNat (fun t st =>
    let y := t.stn l st
    if y.state = 1 then t.setStn l st { y with fell := true }
    else setRetry (stnTo t l st 4 4) l st false) s2 (s2.stnList l)
  acyFail s3 l (fun _ => true) (s3.lnk l).acyq.length

theorem linkDown_open (s : State) (l k : Nat) (h0 : s.linkState l ≠ 0) :
    linkDown s l k = endTraffic (linkTo ((endTest s l).setFld (F.SFL_STATUS_DOWN_CAUSE l) k) l 0) l := by
  unfold linkDown; exact if_neg h0

/-- With no station and no request there is nothing to end but the link's own wait. -/
theorem endTraffic_empty (t : State) (l : Nat) (hst : t.stnList l = []) (hq : (t.lnk l).acyq = []) :
    endTraffic t l = t.setLnk l { t.lnk l with waited := false, due := [] } := by
  have hlist : (t.setLnk l { t.lnk l with waited := false, due := [] }).stnList l = [] := by
    rw [State.stnList, State.lnk_setLnk]; exact hst
  have hacyq : ((t.setLnk l { t.lnk l with waited := false, due := [] }).lnk l).acyq = [] := by
    rw [State.lnk_setLnk]; exact hq
  unfold endTraffic
  simp only [hlist, eachNat, hacyq, List.length_nil, acyFail]

theorem linkDown_shows (s : State) (l : Fin 24) (k : Nat) (hk : k < 16) (h0 : s.linkState l.val ≠ 0) (h5 : s.linkState l.val ≠ 5)
    (hst : s.stnList l.val = []) (hq : (s.lnk l.val).acyq = []) :
    (linkDown s l.val k).linkState l.val = 0 ∧ (linkDown s l.val k).fld (F.SFL_STATUS_DOWN_CAUSE l.val) = k := by
  have hlnk := linkTo_lnk (s.setFld (F.SFL_STATUS_DOWN_CAUSE l.val) k) l.val 0
  have hcause := (linkTo_downCause (s.setFld (F.SFL_STATUS_DOWN_CAUSE l.val) k) l.val 0 l.isLt).trans
    (s.fld_setFld (F.SFL_STATUS_DOWN_CAUSE l.val) k (by simp))
  rw [linkDown_open s l.val k h0, endTest_elsewhere s l.val h5, endTraffic_empty, State.linkState_setLnk, State.fld_setLnk]
  · exact ⟨linkTo_linkState _ _ _ l.isLt (by decide), hcause.trans (Nat.mod_eq_of_lt hk)⟩
  · rw [State.stnList, hlnk, State.lnk_setFld]; exact hst
  · rw [hlnk, State.lnk_setFld]; exact hq

/-! ### Loss of signal (R217, R260) -/

theorem signalLost_short (s : State) (l : Nat) (lasted : Bool) (h : lasted = false ∨ s.linkState l = 0 ∨ s.linkState l = 5) :
    signalLost s l lasted = (s.setFld (F.SFL_STATUS_LOS l) 1).setFld (F.SFL_STATUS_SYNC l) 0 := by
  unfold signalLost; exact if_pos h

theorem signalLost_down (s : State) (l : Nat) (h0 : s.linkState l ≠ 0) (h5 : s.linkState l ≠ 5) :
    signalLost s l true = linkDown ((s.setFld (F.SFL_STATUS_LOS l) 1).setFld (F.SFL_STATUS_SYNC l) 0) l 2 := by
  unfold signalLost; exact if_neg (by simp [h0, h5])

/-! ### The end of a test (R260, R276) -/

theorem leaveTest_train (s : State) (l : Nat) (h5 : s.linkState l = 5) (hm : mayTrain s l = true) (hw : (s.lnk l).waited = true) :
    leaveTest s l = linkTo (endTest s l) l 1 := by
  unfold leaveTest; rw [if_neg (by simp [h5]), if_pos (by simp [hm, hw])]

theorem leaveTest_down (s : State) (l : Nat) (h5 : s.linkState l = 5) (hm : mayTrain s l = false) :
    leaveTest s l = linkDown s l 6 := by
  unfold leaveTest; rw [if_neg (by simp [h5]), if_neg (by simp [hm])]

theorem patBits_test (s : State) (l : Nat) (rx : List Bool) (h5 : s.linkState l = 5) : patBits s l rx = rx.foldl (patBit l) s :=
  if_pos h5

theorem exec_patLoopEnd_ended (l : Fin 24) (s : State) (h5 : s.linkState l.val = 5) (ht : (s.lnk l.val).testLoop = 1) :
    exec (.patLoopEnd ⟨l, [], true⟩) s = .next (leaveTest s l.val) := by
  show execPatLoopEnd ⟨l, [], true⟩ s = _
  unfold execPatLoopEnd
  rw [patBits_test s l.val [] h5]
  exact if_pos ⟨rfl, h5, ht⟩

theorem exec_patLoopEnd_bits (l : Fin 24) (rx : List Bool) (s : State) (h5 : s.linkState l.val = 5) :
    exec (.patLoopEnd ⟨l, rx, false⟩) s = .next (rx.foldl (patBit l.val) s) := by
  show execPatLoopEnd ⟨l, rx, false⟩ s = _
  unfold execPatLoopEnd
  rw [patBits_test s l.val rx h5]
  exact if_neg (by simp)

theorem sflEn_off (s : State) (l : Nat) : sflEn s l false = linkDown (s.setFld (F.SFL_CTRL_EN l) 0) l 1 := by
  simp [sflEn]

theorem sflEn_on (s : State) (l : Nat) : sflEn s l true = tryTrain (s.setFld (F.SFL_CTRL_EN l) 1) l := by
  simp [sflEn]

theorem exec_sflnCtrlEn_open (l : Fin 24) (en : Bool) (s : State) (ha : s.accepts (R.SFL_CTRL l.val) = true) :
    exec (.sflnCtrlEn l en) s = .next (sflEn s l.val en) := atReg_open s _ _ _ ha

theorem exec_retrain_down (l : Fin 24) (s : State) (ha : s.accepts (R.SFL_CTRL l.val) = true) (h0 : s.linkState l.val = 0) :
    exec (.retrain l) s = .next (tryTrain (waitOver s l.val) l.val) :=
  (atReg_open s _ _ _ ha).trans (congrArg Host.Outcome.next (retrain_down s l.val h0))

theorem exec_lossOfSignal_device (l : Fin 24) (lasted : Bool) (s : State) :
    exec (.lossOfSignal ⟨l, lasted, none⟩) s = .next (signalLost s l.val lasted) := rfl

/-! ### The statement -/

/-- Settles O39: training by the epoch and the state it enters, DOWN by what a link without stations tells, and each other row by the
one branch that its state takes. -/
theorem linkStates : Obligations.LinkStates := by
  refine ⟨fun l s => ⟨fun h1 => ?_, exec_trainSync_short l s, fun h => ⟨?_, exec_trainTimeout_idle l s (Or.inl h)⟩,
      exec_trainTimeout_train l s, fun hh => ⟨exec_trainTimeout_idle l s (Or.inr hh), exec_linkRetry_halted l s hh⟩,
      fun _ h => exec_enumEnd_waits l s (Or.inr h), exec_enumEnd_ends l s, fun h => exec_enumEnd_waits l s (Or.inl h)⟩,
    fun l s h0 h5 => by rw [exec_lossOfSignal_device, signalLost_down s l.val h0 h5],
    fun l lasted s h => by rw [exec_lossOfSignal_device, signalLost_short s l.val lasted h],
    fun l k s hk h0 hst hq h5 => linkDown_shows s l k hk h0 h5 hst hq, fun l s h0 hm hh => ?_, fun l s h hh => ?_,
    fun l s ha h0 hm => ?_, fun l s ha => ⟨?_, ?_⟩, fun l s h5 => ?_⟩
  · obtain ⟨hsync, hlos, hserved, hkept, htb⟩ := newEpoch_synced s l.val
    exact ⟨_, rfl, hsync, hlos, hserved, hkept, htb, exec_trainSync_train l s h1, linkTo_linkState _ _ _ l.isLt (by decide)⟩
  · rw [exec_trainSync_elsewhere l s h, exec_trainSync_short]
  · exact ⟨_, exec_linkRetry_runs l s (Or.inl h0) hh, tryTrain_train s l h0 hm⟩
  · have hopen : s.linkState l.val = 0 ∨ s.linkState l.val = 5 := h.imp_left And.left
    have hstay : (waitOver s l.val).linkState l.val ≠ 0 ∨ mayTrain (waitOver s l.val) l.val = false := by
      rw [linkState_waitOver, mayTrain_waitOver]
      exact h.symm.imp (fun h5 => by simp [h5]) And.right
    rw [exec_linkRetry_runs l s hopen hh, tryTrain_stays _ _ hstay, waitOver]
  · exact ⟨_, exec_retrain_down l s ha h0, tryTrain_train s l h0 hm⟩
  · rw [exec_sflnCtrlEn_open l false s ha, sflEn_off]
  · rw [exec_sflnCtrlEn_open l true s ha, sflEn_on]
  · refine ⟨exec_patLoopEnd_ended l s h5, fun rx => exec_patLoopEnd_bits l rx s h5, fun hm hw _ => ?_, leaveTest_down s l.val h5⟩
    rw [leaveTest_train s l.val h5 hm hw]
    exact linkTo_linkState _ _ _ l.isLt (by decide)

end Sys2Proof.Machine
end

section
/-! Admission of stations (R235, R258, R259, R263, R266, R267): the free spans of a link, the frames that wait for one, and what each row
of the procedure does. -/

namespace Sys2Proof.Machine

@[simp] theorem State.fld_setStn (s : State) (l st : Nat) (y : Stn) (f : Fld) : (s.setStn l st y).fld f = s.fld f := rfl

/-! ### Free spans (R235, R259, R263) -/

theorem freeSpan_run (s : State) (l : Nat) (hin : s.cyc.inCycle = true) (hh : s.dbgHalted = false) (h4 : s.linkState l = 4) :
    freeSpan s l = true ↔ s.cyc.cutoff = true ∧ (s.cyc.deadline = false ∨ has s.dpr.outBegun l = true) := by
  simp [freeSpan, hin, hh, h4]

theorem exchangeMay_iff (s : State) (l st : Nat) : exchangeMay s l st = true ↔
    s.dbgHalted = false ∧ (s.cyc.inCycle = false ∨ s.cyc.cutoff = true ∧ (s.stn l st).exCyc < 4 ∧
      (s.cyc.deadline = false ∨ has s.dpr.outBegun l = true)) ∧
      s.linkState l ≠ 0 ∧ s.linkState l ≠ 5 ∧ ∀ a ∈ (s.lnk l).acyq, a.state ≠ acyGranted := by
  simp only [exchangeMay, Bool.and_eq_true, Bool.or_eq_true, Bool.not_eq_true', decide_eq_true_eq, List.all_eq_true]
  constructor
  · rintro ⟨⟨⟨hh, h0, h5⟩, hspan⟩, hacy⟩
    exact ⟨hh, hspan.imp_right fun ⟨⟨hcut, h4⟩, hout⟩ => ⟨hcut, h4, hout⟩, h0, h5, hacy⟩
  · rintro ⟨hh, hspan, h0, h5, hacy⟩
    exact ⟨⟨⟨hh, h0, h5⟩, hspan.imp_right fun ⟨hcut, h4, hout⟩ => ⟨⟨hcut, h4⟩, hout⟩⟩, hacy⟩

theorem identStn_noSpan (s : State) (l st : Nat) (h : freeSpan s l = false) : identStn l s st = s := by
  simp [identStn, h]

/-- In ENUM no more than 8 IDENT_REQ go out in a cycle. -/
theorem identStn_full (s : State) (l st : Nat) (h8 : 8 ≤ (s.lnk l).idCyc) (h2 : s.linkState l = 2) (hin : s.cyc.inCycle = true) :
    identStn l s st = s := by
  simp [identStn, h8, h2, hin]

theorem exchangeStn_waits (s : State) (l st : Nat) (h : exchangeMay s l st = false) : exchangeStn l s st = s := by
  simp [exchangeStn, h]

/-! ### ANNOUNCE and HOLD (R266) -/

/-- In a free span HOLD goes out at once, to a station that is neither IDLE nor ADMITTING (R262). -/
theorem askFrame_hold_free (s : State) (l st : Nat) (hf : freeSpan s l = true) (h1 : (s.stn l st).state ≠ 1)
    (h2 : (s.stn l st).state ≠ 2) : askFrame s l (.hold st) = sendHold s l st := by
  simp [askFrame, sendDue, hf, h1, h2]

theorem askFrame_waits (s : State) (l : Nat) (x : DueFrame) (hf : freeSpan s l = false) (hd : (s.lnk l).due.contains x = false) :
    askFrame s l x = s.setLnk l { s.lnk l with due := (s.lnk l).due ++ [x] } := by
  rw [askFrame, if_neg (ne_true_of_eq_false hf), putDue, if_neg (ne_true_of_eq_false hd)]

section
variable {s : State} {l : Nat} {f : Frame} (h0 : s.linkState l ≠ 0) (h5 : s.linkState l ≠ 5) (hr : frameRes s l f = .ok)
  (ha : f.isAnnounce = true) (hlen : f.payload.length = 12)
include h0 h5 hr ha hlen

theorem announce_run (h : (s.stn l f.src.toNat).state = 3) :
    announce s l f = askFrame (stnOut s l f.src.toNat 4 3) l (.hold f.src.toNat) := by
  simp [announce, h0, h5, hr, ha, hlen, h]

theorem announce_lost (h : (s.stn l f.src.toNat).state = 4) :
    announce s l f = askFrame (stnTo s l f.src.toNat 5 (s.stn l f.src.toNat).cause) l (.hold f.src.toNat) := by
  simp [announce, h0, h5, hr, ha, hlen, h]

theorem announce_held (h : (s.stn l f.src.toNat).state = 5 ∨ (s.stn l f.src.toNat).state = 6 ∨ (s.stn l f.src.toNat).state = 0) :
    announce s l f = askFrame s l (.hold f.src.toNat) := by
  rcases h with h | h | h <;> simp [announce, h0, h5, hr, ha, hlen, h]

theorem announce_sought (h : (s.stn l f.src.toNat).state = 1 ∨ (s.stn l f.src.toNat).state = 2) : announce s l f = s := by
  rcases h with h | h <;> simp [announce, h0, h5, hr, ha, hlen, h]

end

/-! ### IDENT_RSP (R263, steps 1 and 2) -/

/-- The station has answered IDENT_REQ outside ENUM. -/
def identAnswer (s : State) (l : Nat) (f : Frame) (good : Bool) : State :=
  s.setStn l f.src.toNat { s.stn l f.src.toNat with
    answered := true, identOk := good, uid := some (f.payLe 8 8), newEpoch := f.epoch.toNat, fwd := f.payLe 36 2, step := 1 }

theorem identAnswer_stn (s : State) (l : Nat) (f : Frame) (good : Bool) : (identAnswer s l f good).stn l f.src.toNat =
    { s.stn l f.src.toNat with
      answered := true, identOk := good, uid := some (f.payLe 8 8), newEpoch := f.epoch.toNat, fwd := f.payLe 36 2, step := 1 } :=
  State.stn_setStn _ _ _ _

/-- Step 2 decides: the delay measurement, or FAULT. -/
theorem identRsp_decides (s : State) (l : Nat) (f : Frame) (c : StnCfg) (good : Bool) (hok : answerOk s l f 0x81 40 1 = .ok)
    (hc : s.thePlan.station l f.src.toNat = some c) (hp : f.payLe 4 2 = 0x0100) (h2 : s.linkState l ≠ 2)
    (hgood : identityOk c (f.payLe 8 8) (f.payLe 16 4) (f.payLe 20 8) (f.payLe 28 8) (f.payLe 36 2) (f.payLe 38 2) = good) :
    identRsp s l f = if good then delayReq (identAnswer s l f good) l f.src.toNat
      else admissionFail (identAnswer s l f good) l f.src.toNat 6 5 := by
  simp [identRsp, identAnswer, hok, hc, hp, h2, hgood]

/-! ### DELAY_RSP (R235) -/

theorem takenOk_of_not_run {s : State} {l : Nat} {f : Frame} (h : s.stnRun l f.src.toNat = false) (sub len step : Nat) :
    takenOk s l f sub len step = false := by
  simp [takenOk, h]

/-- One more exchange of the station is answered, with the difference of RT and TURN. -/
def exchanged (s : State) (l st v : Nat) : State :=
  s.setStn l st { s.stn l st with
    exGood := (s.stn l st).exGood + 1, exTried := (s.stn l st).exTried + 1,
    exBest := if (s.stn l st).exGood = 0 then v else min (s.stn l st).exBest v }

theorem exchanged_stn (s : State) (l st v : Nat) : (exchanged s l st v).stn l st =
    { s.stn l st with
      exGood := (s.stn l st).exGood + 1, exTried := (s.stn l st).exTried + 1,
      exBest := if (s.stn l st).exGood = 0 then v else min (s.stn l st).exBest v } :=
  State.stn_setStn _ _ _ _

/-- The eighth answer ends the measurement, the sixteenth attempt the procedure. -/
theorem delayRsp_counts (s : State) (l : Nat) (f : Frame) (rt : Nat) (hrun : s.stnRun l f.src.toNat = false)
    (hok : answerOk s l f 0x82 8 3 = .ok) : delayRsp s l f rt =
      if (s.stn l f.src.toNat).exGood + 1 = 8 then delayDone (exchanged s l f.src.toNat (rt - f.payLe 4 4)) l f.src.toNat
      else if (s.stn l f.src.toNat).exTried + 1 = 16 then
        admissionFail (exchanged s l f.src.toNat (rt - f.payLe 4 4)) l f.src.toNat 4 6
      else delayReq (exchanged s l f.src.toNat (rt - f.payLe 4 4)) l f.src.toNat := by
  simp [delayRsp, takenOk_of_not_run hrun, hok, exchanged]

/-! ### D_k and ADMIT (R235, R263, steps 4 and 5) -/

/-- A frame to a station changes in its entry only the counters of its channels. -/
theorem sendFrame_stn (s : State) (l st ty ch : Nat) (p : List Byte) (seq : Option Nat) : ∃ a b c,
    (sendFrame s l st ty ch p seq).stn l st = { s.stn l st with seq0 := a, seq1 := b, seq2 := c } := by
  have hkept : ∃ a b c, (s.lnk l).stn st = { (s.lnk l).stn st with seq0 := a, seq1 := b, seq2 := c } := ⟨_, _, _, rfl⟩
  unfold sendFrame
  split
  · exact hkept
  · dsimp only
    rw [State.stn_setLnk]
    split
    · show ∃ a b c, ((s.lnk l).setStn st _).stn st = { (s.lnk l).stn st with seq0 := a, seq1 := b, seq2 := c }
      rw [Lnk.stn_setStn]
      split
      · exact hkept
      · split <;> exact ⟨_, _, _, rfl⟩
    · split <;> exact hkept

theorem admitUid_stn (s : State) (l st : Nat) (c : StnCfg) : ∃ u, (admitUid s l st c).2.stn l st = { s.stn l st with uid := u } := by
  unfold admitUid
  split
  · split
    · exact ⟨_, rfl⟩
    · exact ⟨_, State.stn_setStn _ _ _ _⟩
  · exact ⟨_, rfl⟩

theorem sendAdmit_stn (s : State) (l st : Nat) :
    ((sendAdmit s l st).stn l st).delay = (s.stn l st).delay ∧ ((sendAdmit s l st).stn l st).step = (s.stn l st).step := by
  unfold sendAdmit
  split
  · next c _ =>
    obtain ⟨u, hu⟩ := admitUid_stn s l st c
    obtain ⟨x, y, z, h⟩ := sendFrame_stn (admitUid s l st c).2 l st 5 2
      (admitPayload l ((admitUid s l st c).2.thePlan.link l) c ((admitUid s l st c).2.stn l st).delay (admitUid s l st c).1) none
    dsimp only
    rw [h, hu]
    exact ⟨rfl, rfl⟩
  · exact ⟨rfl, rfl⟩

/-- To send ADMIT, or to put it off, leaves the station's delay and step. -/
theorem askAdmission_stn (s : State) (l st : Nat) :
    ((askFrame s l (.admission st)).stn l st).delay = (s.stn l st).delay ∧
      ((askFrame s l (.admission st)).stn l st).step = (s.stn l st).step := by
  unfold askFrame
  split
  · unfold sendDue
    dsimp only
    split
    · exact sendAdmit_stn s l st
    · exact ⟨rfl, rfl⟩
  · unfold putDue
    split
    · exact ⟨rfl, rfl⟩
    · rw [State.stn_setLnk]; exact ⟨rfl, rfl⟩

/-- The station's line delay, the half of its best exchange rounded up (log entry 30). -/
def delayed (s : State) (l st : Nat) : State := s.setStn l st { s.stn l st with delay := ((s.stn l st).exBest + 1) / 2 }

/-- Where rule 4 holds, ADMIT is asked for in step 5. -/
theorem delayDone_admits (s : State) (l st : Nat)
    (h : ruleFourAt (s.thePlan.link l) (s.fld F.CYC_APPLY_OFS_US) (s.fld F.CYC_OUT_LAST_US)
      (max (((s.stn l st).exBest + 1) / 2) (dLine (delayed s l st) l)) = true) :
    delayDone s l st = askFrame ((delayed s l st).setStn l st { (delayed s l st).stn l st with step := 5 }) l (.admission st) := by
  unfold delayDone
  exact if_pos h

theorem delayDone_stn (s : State) (l st : Nat)
    (h : ruleFourAt (s.thePlan.link l) (s.fld F.CYC_APPLY_OFS_US) (s.fld F.CYC_OUT_LAST_US)
      (max (((s.stn l st).exBest + 1) / 2) (dLine (delayed s l st) l)) = true) :
    ((delayDone s l st).stn l st).delay = ((s.stn l st).exBest + 1) / 2 ∧ ((delayDone s l st).stn l st).step = 5 := by
  obtain ⟨hdelay, hstep⟩ := askAdmission_stn ((delayed s l st).setStn l st { (delayed s l st).stn l st with step := 5 }) l st
  rw [delayDone_admits s l st h, hdelay, hstep, State.stn_setStn, delayed, State.stn_setStn]
  exact ⟨rfl, rfl⟩

/-! ### ADMIT_ACK (R263, steps 5 and 6) -/

theorem admitAck_accepted (s : State) (l : Nat) (f : Frame) (c : StnCfg) (hrun : s.stnRun l f.src.toNat = false)
    (hok : answerOk s l f 0x83 12 5 = .ok) (hc : s.thePlan.station l f.src.toNat = some c) : admitAck s l f =
      if f.payLe 4 8 = (if c.uidAny then (s.stn l f.src.toNat).uid.getD 0 else c.uid) then
        admitCheck (s.setStn l f.src.toNat { s.stn l f.src.toNat with step := 6, seq0 := 0, seq1 := 0, seq2 := 0 }) l
      else s := by
  simp [admitAck, takenOk_of_not_run hrun, hok, hc]

/-! ### Answers that do not come (R263) -/

section
variable {l : Fin 24} {st : Fin 32} {s : State} (h2 : (s.stn l.val st.val).state = 2)
include h2

/-- No answer is awaited of a frame that has not gone out. -/
theorem exec_answerTimeout_unsent (h : (s.lnk l.val).due.contains (.admission st.val) = true ∨
    (s.stn l.val st.val).idWait = true ∨ (s.stn l.val st.val).dWait = true) : exec (.admissionAnswerTimeout l st) s = .next s := by
  have hwait : (s.stn l.val st.val).state ≠ 2 ∨ (s.stn l.val st.val).idWait = true ∨ (s.stn l.val st.val).dWait = true ∨
      (s.lnk l.val).due.contains (.admission st.val) = true := by tauto
  show execAdmissionAnswerTimeout l st s = _
  unfold execAdmissionAnswerTimeout
  exact (if_neg (by simp [h2])).trans (if_pos hwait)

variable (hi : (s.stn l.val st.val).idWait = false) (hd : (s.stn l.val st.val).dWait = false)
  (hn : (s.lnk l.val).due.contains (.admission st.val) = false)
include hi hd hn

/-- The answer is awaited. -/
theorem answer_awaited : ¬((s.stn l.val st.val).state ≠ 2 ∨ (s.stn l.val st.val).idWait = true ∨ (s.stn l.val st.val).dWait = true ∨
    (s.lnk l.val).due.contains (.admission st.val) = true) := by
  rw [h2, hi, hd, hn]; decide

/-- In ENUM the outcome waits for the end of ENUM. -/
theorem exec_answerTimeout_enum (hl : s.linkState l.val = 2) (h1 : (s.stn l.val st.val).step = 1) :
    exec (.admissionAnswerTimeout l st) s = .next (s.setStn l.val st.val { s.stn l.val st.val with step := 2 }) := by
  show execAdmissionAnswerTimeout l st s = _
  unfold execAdmissionAnswerTimeout
  refine (if_neg (by simp [h2])).trans ((if_neg (answer_awaited h2 hi hd hn)).trans ((if_pos hl).trans ?_))
  rw [if_pos h1]

/-- Without an answer to IDENT_REQ or ADMIT the station is LOST. -/
theorem exec_answerTimeout_lost (hl : s.linkState l.val ≠ 2)
    (h : (s.stn l.val st.val).step = 1 ∨ (s.stn l.val st.val).step = 5) :
    exec (.admissionAnswerTimeout l st) s = .next (admissionFail s l.val st.val 4 6) := by
  show execAdmissionAnswerTimeout l st s = _
  unfold execAdmissionAnswerTimeout
  refine (if_neg (by simp [h2])).trans ((if_neg (answer_awaited h2 hi hd hn)).trans ((if_neg hl).trans ?_))
  rcases h with h | h <;> simp only [h]

/-- An exchange without an answer is repeated. -/
theorem exec_answerTimeout_repeats (hl : s.linkState l.val ≠ 2) (h3 : (s.stn l.val st.val).step = 3)
    (ht : (s.stn l.val st.val).exTried < 15) : exec (.admissionAnswerTimeout l st) s = .next (delayReq
      (s.setStn l.val st.val { s.stn l.val st.val with exTried := (s.stn l.val st.val).exTried + 1 }) l.val st.val) := by
  show execAdmissionAnswerTimeout l st s = _
  unfold execAdmissionAnswerTimeout
  refine (if_neg (by simp [h2])).trans ((if_neg (answer_awaited h2 hi hd hn)).trans ((if_neg hl).trans ?_))
  simp only [h3]
  exact if_neg (by omega)

end

/-! ### The retry of a station (R267) -/

/-- The entry of a station that becomes ADMITTING (R262). -/
def soughtEntry (y : Stn) : Stn := { y with state := 2, cause := 0, idWait := false, dWait := false }

/-- A station that was neither in RUN nor ADMITTING loses nothing by it: its link's event alone is told. -/
theorem stnTo_seeks (s : State) (l st : Nat) (h2 : (s.stn l st).state ≠ 2) (h3 : (s.stn l st).state ≠ 3) : stnTo s l st 2 0 =
    sflEvent ((s.setStn l st (soughtEntry (s.stn l st))).setLnk l
      { (s.setStn l st (soughtEntry (s.stn l st))).lnk l with changed := true }) l 1 := by
  simp [stnTo, soughtEntry, h2, h3]

theorem stnTo_seeks_stn (s : State) (l st : Nat) (h2 : (s.stn l st).state ≠ 2) (h3 : (s.stn l st).state ≠ 3) :
    (stnTo s l st 2 0).stn l st = soughtEntry (s.stn l st) := by
  obtain ⟨r, hr⟩ := sflEvent_only ((s.setStn l st (soughtEntry (s.stn l st))).setLnk l
    { (s.setStn l st (soughtEntry (s.stn l st))).lnk l with changed := true }) l 1
  rw [stnTo_seeks s l st h2 h3, hr]
  exact (State.stn_setLnk _ l st _).trans (State.stn_setStn s l st _)

theorem stnTo_seeks_linkState (s : State) (l : Fin 24) (st : Nat) (h2 : (s.stn l.val st).state ≠ 2) (h3 : (s.stn l.val st).state ≠ 3) :
    (stnTo s l.val st 2 0).linkState l.val = s.linkState l.val := by
  rw [stnTo_seeks s l.val st h2 h3, State.linkState,
    State.fld_congr (sflEvent_reg _ l.val 1 _ l.isLt (by decide) (by simp only [R.SFL_STATUS]; omega)), State.fld_setLnk, State.fld_setStn]
  rfl

/-- Outside RUN of the link no admission begins by itself. -/
theorem nextAdmission_notRun (s : State) (l : Nat) (h4 : s.linkState l ≠ 4) : nextAdmission s l = s := if_pos h4

/-- The station whose retry time has passed, at step 0 of the procedure. -/
def retried (s : State) (l st : Nat) : State :=
  (stnTo (setRetry s l st false) l st 2 0).setStn l st { (stnTo (setRetry s l st false) l st 2 0).stn l st with step := 0 }

theorem exec_retryExpiry_seeks (l : Fin 24) (st : Fin 32) (s : State) (hr : (s.stn l.val st.val).retry = true)
    (h : (s.stn l.val st.val).state = 4 ∨ (s.stn l.val st.val).state = 5 ∨ (s.stn l.val st.val).state = 6) (hh : s.dbgHalted = false) :
    exec (.stationRetryExpiry l st) s = .next (nextAdmission (retried s l.val st.val) l.val) := by
  show execStationRetryExpiry l st s = _
  unfold execStationRetryExpiry
  exact if_pos ⟨hr, h, hh⟩

theorem exec_retryExpiry_idle (l : Fin 24) (st : Fin 32) (s : State) (h : (s.stn l.val st.val).retry = false ∨ s.dbgHalted = true) :
    exec (.stationRetryExpiry l st) s = .next s := by
  show execStationRetryExpiry l st s = _
  unfold execStationRetryExpiry
  exact if_neg fun ⟨hr, _, hh⟩ => h.elim (fun hno => by simp [hno] at hr) fun hhalt => by simp [hhalt] at hh

/-- On a link outside RUN the station then waits in ADMITTING, without a cause and without a retry time. -/
theorem retried_waits (s : State) (l : Fin 24) (st : Nat)
    (h : (s.stn l.val st).state = 4 ∨ (s.stn l.val st).state = 5 ∨ (s.stn l.val st).state = 6) (h4 : s.linkState l.val ≠ 4) :
    nextAdmission (retried s l.val st) l.val = retried s l.val st ∧ ((retried s l.val st).stn l.val st).state = 2 ∧
      ((retried s l.val st).stn l.val st).cause = 0 ∧ ((retried s l.val st).stn l.val st).retry = false := by
  have hentry : (setRetry s l.val st false).stn l.val st = { s.stn l.val st with retry := false } := State.stn_setStn _ _ _ _
  have h2 : ((setRetry s l.val st false).stn l.val st).state ≠ 2 := by rw [hentry]; rcases h with h | h | h <;> simp [h]
  have h3 : ((setRetry s l.val st false).stn l.val st).state ≠ 3 := by rw [hentry]; rcases h with h | h | h <;> simp [h]
  have hlink : (retried s l.val st).linkState l.val = s.linkState l.val := by
    rw [retried, State.linkState_setStn, stnTo_seeks_linkState _ l st h2 h3, setRetry, State.linkState_setStn]
  refine ⟨nextAdmission_notRun _ _ (hlink ▸ h4), ?_⟩
  rw [retried, State.stn_setStn, stnTo_seeks_stn _ _ _ h2 h3, hentry]
  exact ⟨rfl, rfl, rfl⟩

/-! ### The statement -/

/-- Settles O38: each row is the one branch of the procedure that its conditions choose, and the frames that go out or wait change in a
station's entry the counters of its channels alone. -/
theorem stationAdmission : Obligations.StationAdmission := by
  refine ⟨fun l f s h0 h5 hr ha hlen => ⟨fun h => ?_, fun h => ?_, fun h => ⟨fun hf => ?_, fun hf hd => ?_⟩, fun h => ?_⟩,
    fun l f c s hok hc hp h2 => ?_, fun l f rt s hrun hok => ?_, fun l st s h => delayDone_stn s l.val st.val h,
    fun l f c s hrun hok hc => ?_,
    fun l st s h2 => ⟨fun h => exec_answerTimeout_unsent h2 (Or.inl h), fun h => exec_answerTimeout_unsent h2 (Or.inr h),
      fun hi hd hn hl h1 => exec_answerTimeout_enum h2 hi hd hn hl h1⟩,
    fun l st s h2 hl hi hd hn => ⟨exec_answerTimeout_lost h2 hi hd hn hl, exec_answerTimeout_repeats h2 hi hd hn hl⟩,
    fun l st s => exchangeMay_iff s l.val st, fun l s => freeSpan_run s l.val,
    fun l st s => ⟨identStn_noSpan s l.val st, identStn_full s l.val st, fun _ h => exchangeStn_waits s l.val st h⟩,
    fun l st s => ⟨fun hr h h4 hh => ?_, exec_retryExpiry_idle l st s⟩⟩
  · exact congrArg Host.Outcome.next (announce_run h0 h5 hr ha hlen h)
  · exact congrArg Host.Outcome.next (announce_lost h0 h5 hr ha hlen h)
  · refine congrArg Host.Outcome.next ((announce_held h0 h5 hr ha hlen h).trans (askFrame_hold_free s _ _ hf ?_ ?_)) <;>
      rcases h with h | h | h <;> simp [h]
  · exact congrArg Host.Outcome.next ((announce_held h0 h5 hr ha hlen h).trans (askFrame_waits s _ _ hf hd))
  · exact congrArg Host.Outcome.next (announce_sought h0 h5 hr ha hlen h)
  · have hentry := identAnswer_stn s l.val f (identityOk c (f.payLe 8 8) (f.payLe 16 4) (f.payLe 20 8) (f.payLe 28 8)
      (f.payLe 36 2) (f.payLe 38 2))
    have hstep : exec (.identRsp l f) s = .next _ := congrArg Host.Outcome.next (identRsp_decides s l.val f c _ hok hc hp h2 rfl)
    refine ⟨_, fun l' st' hne _ => State.stn_setStn_ne s l.val f.src.toNat l' st' _ hne, congrArg Stn.uid hentry,
      congrArg Stn.newEpoch hentry, fun hgood => hstep.trans ?_, fun hbad => hstep.trans ?_⟩
    · rw [if_pos hgood]; rfl
    · rw [if_neg (ne_true_of_eq_false hbad)]; rfl
  · have hentry := exchanged_stn s l.val f.src.toNat (rt.toNat - f.payLe 4 4)
    have hstep : exec (.delayRsp l f rt) s = .next _ := congrArg Host.Outcome.next (delayRsp_counts s l.val f rt.toNat hrun hok)
    refine ⟨_, congrArg Stn.exGood hentry, congrArg Stn.exTried hentry, fun h0 => (congrArg Stn.exBest hentry).trans (if_neg h0),
      fun h7 => hstep.trans ?_, fun h7 h15 => hstep.trans ?_, fun h7 h15 => hstep.trans ?_⟩
    · rw [if_pos (by omega)]
    · rw [if_neg (by omega), if_neg (by omega)]
    · rw [if_neg (by omega), if_pos (by omega)]
  · have hstep : exec (.admitAck l f) s = .next _ := congrArg Host.Outcome.next (admitAck_accepted s l.val f c hrun hok hc)
    exact ⟨fun h => hstep.trans (congrArg Host.Outcome.next (if_pos h)), fun h => hstep.trans (congrArg Host.Outcome.next (if_neg h))⟩
  · obtain ⟨hnext, hentry⟩ := retried_waits s l st.val h h4
    exact ⟨_, (exec_retryExpiry_seeks l st s hr h hh).trans (congrArg Host.Outcome.next hnext), hentry⟩

end Sys2Proof.Machine
end

section
/-! The station units (R217, R222, R223, R231, R232, R234, R237 to R244, R246 to R254): their counters, the frames they send, what
becomes of a frame that reaches one, and each change of their states. -/

namespace Sys2Proof.Machine

/-! ### A unit, its counters and its frames (R225, R228, R247, R252) -/

@[simp] theorem State.unit_setUnit (s : State) (l st : Nat) (u : StnUnit) : (s.setUnit l st u).unit l st = u :=
  SMap.get_set_same _ _ _ _

theorem StnUnit.cntAt_bump (u : StnUnit) (k : Nat) : (u.bump k).cntAt k = min 65535 (u.cntAt k + 1) :=
  SMap.get_set_same _ _ _ _

/-- The frame that `unitSend` sends. -/
def unitFrame (u : StnUnit) (st ty ch seq ctx flags cycle : Nat) (payload : List Byte) : Frame :=
  let f : Frame := ⟨BitVec.ofNat 8 ty, BitVec.ofNat 8 flags, 0, BitVec.ofNat 8 st, BitVec.ofNat 8 u.epoch, BitVec.ofNat 8 ch,
    BitVec.ofNat 16 seq, BitVec.ofNat 16 payload.length, BitVec.ofNat 16 cycle, payload, 0, false, false⟩
  { f with check := f.checkOf ctx st }

/-- A unit that sends changes nothing but the frame it last sent and the ports of that. -/
theorem unitSend_eq (u : StnUnit) (st ty ch seq ctx flags cycle : Nat) (payload : List Byte) :
    unitSend u st ty ch seq ctx flags cycle payload =
      { u with tx := some (unitFrame u st ty ch seq ctx flags cycle payload), txPorts := [u.portB] } := rfl

/-- NO_OUT, NO_SOC_A and NODATA in the flags of an IN or report frame (R227). -/
theorem inFlags_bits (u : StnUnit) (nodata : Bool) : (BitVec.ofNat 8 (inFlags u nodata)).toNat.testBit 0 = u.noOut ∧
    (BitVec.ofNat 8 (inFlags u nodata)).toNat.testBit 1 = (nodata || !u.socA) ∧
    (BitVec.ofNat 8 (inFlags u nodata)).toNat.testBit 2 = nodata := by
  have hcnt : (if u.cnt = [] then 0 else 8) = 0 ∨ (if u.cnt = [] then 0 else 8) = 8 := ite_eq_or_eq _ _ _
  unfold inFlags
  generalize u.noOut = a, u.socA = b
  rcases hcnt with h | h
  · rw [h]; revert a b nodata; decide
  · rw [h]; revert a b nodata; decide

/-! ### Frames that reach a unit (R217, R231, R232) -/

section
variable {s : State} {l st : Nat} {f : Frame} {anyEpoch row ok acts : Bool} {k : StnUnit → Nat → StnUnit}

/-- A frame that R231 and R232 pass, of the row's type and length, in a state that gives it an effect. -/
theorem onFrame_consumed {c : Nat} (hs : (s.unit l st).state ≠ .start) (hc : consume (s.unit l st) st f anyEpoch = .yes c)
    (hrow : row = true) (hok : ok = true) (hacts : acts = true) :
    onFrame s l st f anyEpoch row ok acts k = s.setUnit l st (k (s.unit l st) c) := by
  subst hrow hok hacts
  unfold onFrame
  simp [hs, hc]

/-- One that they do not pass is counted under RX_CRC of its port. -/
theorem onFrame_refused (hs : (s.unit l st).state ≠ .start)
    (hc : consume (s.unit l st) st f anyEpoch = .crc ∨ consume (s.unit l st) st f anyEpoch = .bad) :
    onFrame s l st f anyEpoch row ok acts k = s.setUnit l st (rxCrc (s.unit l st) f.portB) := by
  unfold onFrame
  rcases hc with hc | hc <;> simp [hs, hc]

end

/-- A unit that takes admission frames: identified in WAIT, or ADMITTED (R234, R250). -/
def takesAdm (u : StnUnit) : Prop := (u.state = .wait ∧ u.identified = true) ∨ u.state = .admitted

theorem takesAdm_acts {u : StnUnit} (h : takesAdm u) : ((u.state == .wait && u.identified) || u.state == .admitted) = true := by
  rcases h with ⟨hw, hi⟩ | h
  · simp [hw, hi]
  · simp [h]

theorem takesAdm_started {u : StnUnit} (h : takesAdm u) : u.state ≠ .start := by
  rcases h with ⟨h, -⟩ | h <;> simp [h]

end Sys2Proof.Machine
end

section
/-! Each row of the station units (R217, R222, R223, R231, R232, R234, R237 to R244, R246 to R254): the unit it leaves, and what that unit
has sent. -/

namespace Sys2Proof.Machine

/-! ### Start, loss of signal, time-outs (R217, R229, R247 to R251) -/

section
variable (l : Fin 24) (st : Fin 32) (s : State)

theorem exec_stationStart_starts (e : BitVec 8) (i : Ident) (h0 : st.val ≠ 0) (he : e.toNat ≠ 0)
    (hnew : e.toNat ≠ (s.unit l.val st.val).epoch) : exec (.stationStart l st e i) s =
      .next (s.setUnit l.val st.val { state := .wait, epoch := e.toNat, ident := i }) := by
  show execStationStart l st e i s = _
  unfold execStationStart; exact if_pos ⟨h0, he, hnew⟩

theorem exec_stationStart_refused (e : BitVec 8) (i : Ident)
    (h : st.val = 0 ∨ e.toNat = 0 ∨ e.toNat = (s.unit l.val st.val).epoch) : exec (.stationStart l st e i) s = .next s := by
  show execStationStart l st e i s = _
  unfold execStationStart
  exact if_neg fun ⟨h0, he, hnew⟩ => h.elim h0 (Or.elim · he hnew)

theorem exec_lossOfSignal_unit (portB : Bool) (hs : (s.unit l.val st.val).state ≠ .start) :
    exec (.lossOfSignal ⟨l, false, some (st, portB)⟩) s =
      .next (s.setUnit l.val st.val ((s.unit l.val st.val).bump (if portB then 5 else 4))) := by
  show execLossOfSignal ⟨l, false, some (st, portB)⟩ s = _
  simp [execLossOfSignal, hs]

theorem exec_lossOfSignal_loop (h : (s.unit l.val st.val).state = .loop) :
    exec (.lossOfSignal ⟨l, true, some (st, (s.unit l.val st.val).portB)⟩) s =
      .next (s.setUnit l.val st.val { s.unit l.val st.val with state := .wait }) := by
  show execLossOfSignal ⟨l, true, some (st, (s.unit l.val st.val).portB)⟩ s = _
  simp [execLossOfSignal, h]

theorem exec_loopbackEnd_loop (h : (s.unit l.val st.val).state = .loop) :
    exec (.loopbackEnd l st) s = .next (s.setUnit l.val st.val { s.unit l.val st.val with state := .wait }) := by
  show execLoopbackEnd l st s = _
  unfold execLoopbackEnd; exact if_pos h

theorem exec_heldTimeout_held (h : (s.unit l.val st.val).state = .held) :
    exec (.heldTimeout l st) s = .next (s.setUnit l.val st.val { s.unit l.val st.val with state := .wait }) := by
  show execHeldTimeout l st s = _
  unfold execHeldTimeout; exact if_pos h

/-- The unit that has missed its SOC block: told once for the interval (R222, R247). -/
def socMissed (u : StnUnit) : StnUnit := if u.missTold then u else { u.bump 6 with missTold := true }

theorem socMissed_goSafe_outs (u : StnUnit) : (socMissed u).goSafe.outs = u.goSafe.outs := by
  unfold socMissed; split <;> rfl

theorem socMissed_count (u : StnUnit) (h : u.missTold = false) : (socMissed u).cntAt 6 = min 65535 (u.cntAt 6 + 1) := by
  rw [socMissed, if_neg (by simp [h])]; exact u.cntAt_bump 6

theorem exec_socLossTimeout_admitted (h : (s.unit l.val st.val).state = .admitted) : exec (.socLossTimeout l st) s =
    .next (s.setUnit l.val st.val { (socMissed (s.unit l.val st.val)).goSafe with state := .wait }) := by
  show execSocLossTimeout l st s = _
  unfold execSocLossTimeout; exact if_pos h

end

/-! ### SOC blocks and sample marks (R222, R223, R250, R253) -/

theorem blockOk_fault (b : KBlock) (h : blockOk b = true) : b.fault = false := by
  simp only [blockOk, Bool.and_eq_true, Bool.not_eq_true'] at h
  exact h.1

/-- The unit after an SOC block that it accepts; `change`: the block brings a change of the active port. -/
def socOpened (u : StnUnit) (portB change : Bool) (b : KBlock) : StnUnit :=
  { openCycle u b with
    socA := !portB, socPort := portB, portB := if change then portB else u.portB, portChanged := u.portChanged || change }

/-- Its ANNOUNCE (R250). -/
def announced (u : StnUnit) (st : Nat) : StnUnit :=
  { unitSend u st 5 2 u.seq2 0xFF 0 u.cycle ([0x84, 0xFF, 0, 0] ++ leBytes 8 u.ident.uid.toNat) with seq2 := (u.seq2 + 1) % 65536 }

/-- What an accepted SOC block leaves: in WAIT, where it has been quiet, the unit announces itself. -/
def socTaken (u : StnUnit) (st : Nat) (portB quiet change : Bool) (b : KBlock) : StnUnit :=
  if (socOpened u portB change b).state = .wait ∧ quiet = true then announced (socOpened u portB change b) st
  else socOpened u portB change b

theorem openCycle_state (u : StnUnit) (b : KBlock) : (openCycle u b).state = u.state := by
  unfold openCycle; dsimp only
  split <;> rfl

theorem openCycle_missed (u : StnUnit) (b : KBlock) (he : u.everSoc = true) (ht : u.missTold = false)
    (hf : b.flags.toNat.testBit 3 = false) (hc : b.cycle.toNat ≠ (u.cycle + 1) % 65536) :
    (openCycle u b).cntAt 6 = min 65535 (u.cntAt 6 + 1) := by
  unfold openCycle; dsimp only
  rw [if_pos (by simp [he, ht, hf, hc])]
  exact u.cntAt_bump 6

/-- Announcing changes only what the unit has sent. -/
theorem socTaken_eq (u : StnUnit) (st : Nat) (portB quiet change : Bool) (b : KBlock) : ∃ x p q,
    socTaken u st portB quiet change b = { socOpened u portB change b with tx := x, txPorts := p, seq2 := q } := by
  unfold socTaken
  split
  · exact ⟨_, _, _, rfl⟩
  · exact ⟨_, _, _, rfl⟩

theorem socTaken_opens (u : StnUnit) (st : Nat) (portB quiet change : Bool) (b : KBlock) :
    (socTaken u st portB quiet change b).cycle = b.cycle.toNat ∧ (socTaken u st portB quiet change b).flags = b.flags.toNat ∧
      (socTaken u st portB quiet change b).ofs = b.ofs.toNat ∧ (socTaken u st portB quiet change b).opened = true ∧
      (socTaken u st portB quiet change b).sampled = b.flags.toNat.testBit 1 ∧ (socTaken u st portB quiet change b).next = none ∧
      (socTaken u st portB quiet change b).state = u.state := by
  obtain ⟨x, p, q, h⟩ := socTaken_eq u st portB quiet change b
  rw [h]
  exact ⟨rfl, rfl, rfl, rfl, rfl, rfl, openCycle_state u b⟩

theorem socTaken_missed (u : StnUnit) (st : Nat) (portB quiet change : Bool) (b : KBlock) (he : u.everSoc = true)
    (ht : u.missTold = false) (hf : b.flags.toNat.testBit 3 = false) (hc : b.cycle.toNat ≠ (u.cycle + 1) % 65536) :
    (socTaken u st portB quiet change b).cntAt 6 = min 65535 (u.cntAt 6 + 1) := by
  obtain ⟨x, p, q, h⟩ := socTaken_eq u st portB quiet change b
  rw [h]
  exact openCycle_missed u b he ht hf hc

theorem socTaken_announces (u : StnUnit) (st : Nat) (portB change : Bool) (b : KBlock) (h : u.state = .wait) :
    (socTaken u st portB true change b).tx.map (fun f => (f.type, f.payload.take 2)) = some (5, [0x84, 0xFF]) := by
  have hwait : (socOpened u portB change b).state = .wait := (openCycle_state u b).trans h
  rw [socTaken, if_pos ⟨hwait, rfl⟩, announced, unitSend_eq]
  rfl

section
variable (l : Fin 24) (st : Fin 32) (portB quiet : Bool) (b : KBlock) (s : State)

theorem exec_socBlockAccept_discard (hs : (s.unit l.val st.val).state ≠ .start) (hok : blockOk b = true)
    (hm : b.flags.toNat.testBit 2 = false) (h : socRes (s.unit l.val st.val) portB b = .discard) :
    exec (.socBlockAccept l st portB quiet b) s = .next (s.setUnit l.val st.val
      ({ s.unit l.val st.val with socA := (s.unit l.val st.val).socA || !portB }.bump 6)) := by
  show execSocBlockAccept l st portB quiet b s = _
  unfold execSocBlockAccept
  simp [hs, blockOk_fault b hok, hok, hm, h]

theorem exec_socBlockAccept_accept (change : Bool) (hs : (s.unit l.val st.val).state ≠ .start) (hok : blockOk b = true)
    (hm : b.flags.toNat.testBit 2 = false) (h : socRes (s.unit l.val st.val) portB b = .accept change) :
    exec (.socBlockAccept l st portB quiet b) s =
      .next (s.setUnit l.val st.val (socTaken (s.unit l.val st.val) st.val portB quiet change b)) := by
  show execSocBlockAccept l st portB quiet b s = _
  unfold execSocBlockAccept
  refine (if_neg hs).trans ((if_neg (by simp [blockOk_fault b hok])).trans ((if_neg (by simp [hok, hm])).trans ?_))
  rw [h, socTaken]
  exact (apply_ite (fun u => Host.Outcome.next (s.setUnit l.val st.val u)) _ _ _).symm

/-- A block that fails its CRC-8 has no effect (R218). -/
theorem exec_block_bad (hf : b.fault = false) (hok : blockOk b = false) :
    exec (.socBlockAccept l st portB quiet b) s = .next s ∧ exec (.sampleMarkAccept l st portB b) s = .next s := by
  show execSocBlockAccept l st portB quiet b s = _ ∧ execSampleMarkAccept l st portB b s = _
  unfold execSocBlockAccept execSampleMarkAccept
  by_cases hs : (s.unit l.val st.val).state = .start <;> simp [hs, hf, hok]

/-- One with a code error counts on its port (R217, R247). -/
theorem exec_block_fault (hf : b.fault = true) (hs : (s.unit l.val st.val).state ≠ .start) :
    exec (.socBlockAccept l st portB quiet b) s = .next (s.setUnit l.val st.val (rxCodeAt (s.unit l.val st.val) portB)) ∧
      exec (.sampleMarkAccept l st portB b) s = .next (s.setUnit l.val st.val (rxCodeAt (s.unit l.val st.val) portB)) := by
  show execSocBlockAccept l st portB quiet b s = _ ∧ execSampleMarkAccept l st portB b s = _
  unfold execSocBlockAccept execSampleMarkAccept
  simp [hs, hf]

/-- The mark of the cycle that is open, on the port of its SOC block. -/
theorem exec_sampleMarkAccept_marks (hs : (s.unit l.val st.val).state ≠ .start) (hok : blockOk b = true)
    (hm : b.flags.toNat.testBit 2 = true) (hsample : b.flags.toNat.testBit 1 = true) (ho : (s.unit l.val st.val).opened = true)
    (hc : b.cycle.toNat = (s.unit l.val st.val).cycle) : exec (.sampleMarkAccept l st (s.unit l.val st.val).socPort b) s =
      .next (s.setUnit l.val st.val { s.unit l.val st.val with sampled := true }) := by
  show execSampleMarkAccept l st (s.unit l.val st.val).socPort b s = _
  unfold execSampleMarkAccept
  simp [hs, blockOk_fault b hok, hok, hm, hsample, ho, hc]

end

/-! ### IN and report frames (R227, R237, R238, R254) -/

/-- The payload of an IN frame (R237). -/
def inPayload (u : StnUnit) (fl : BitVec 16) (vs : List InVal) : List Byte :=
  leBytes 2 (statusWord u fl) ++ [0, 0] ++ (vs.map (fun v => leBytes 4 v.value.toNat ++ [v.stn, v.q.zeroExtend 8])).flatten

theorem inPayload_length (u : StnUnit) (fl : BitVec 16) (vs : List InVal) : (inPayload u fl vs).length = 4 + 6 * vs.length := by
  have hval : ∀ v : InVal, (leBytes 4 v.value.toNat ++ [v.stn, v.q.zeroExtend 8]).length = 6 := fun v => by simp
  have hbody : ((vs.map (fun v => leBytes 4 v.value.toNat ++ [v.stn, v.q.zeroExtend 8])).flatten).length = 6 * vs.length := by
    induction vs with
    | nil => rfl
    | cons v vs ih => rw [List.map_cons, List.flatten_cons, List.length_append, hval, ih, List.length_cons]; omega
  rw [inPayload, List.length_append, hbody]
  simp

/-- The ports of a cyclic frame (R252). -/
theorem onBothPorts_eq (u : StnUnit) :
    onBothPorts u = { u with txPorts := if u.redundant then [false, true] else u.txPorts } := by
  unfold onBothPorts; split <;> rfl

/-- The unit that has sent its IN frame. -/
def inSentUnit (u : StnUnit) (st : Nat) (fl : BitVec 16) (vs : List InVal) : StnUnit :=
  onBothPorts { unitSend u st 2 0 u.seq0 (u.linkNo.getD 0) (inFlags u false) u.cycle (inPayload u fl vs) with
    inSent := true, seq0 := (u.seq0 + 1) % 65536 }

/-- The unit that has sent a report frame; NO_OUT tells of the cycle whose SOC block is missing. -/
def reportedUnit (u : StnUnit) (st : Nat) (fl : BitVec 16) : StnUnit :=
  onBothPorts ({ unitSend u st 2 0 u.seq0 (u.linkNo.getD 0)
      (inFlags { u with noOut := decide (0 < u.nOut) && (u.missTold || (!u.applied && !u.flags.testBit 0)) } true)
      ((u.cycle + 1) % 65536) (leBytes 2 (statusWord u fl) ++ [0, 0]) with
    missTold := true, seq0 := (u.seq0 + 1) % 65536 }.bump 6)

theorem inSentUnit_sends (u : StnUnit) (st : Nat) (fl : BitVec 16) (vs : List InVal) : ∃ f, (inSentUnit u st fl vs).tx = some f ∧
    f.type = 2 ∧ f.channel = 0 ∧ f.src = BitVec.ofNat 8 st ∧ f.payload.length = 4 + 6 * vs.length ∧
    f.cycle = BitVec.ofNat 16 u.cycle ∧ f.flags.toNat.testBit 0 = u.noOut ∧ (inSentUnit u st fl vs).inSent = true ∧
    (inSentUnit u st fl vs).txPorts = if u.redundant then [false, true] else [u.portB] := by
  rw [inSentUnit, onBothPorts_eq, unitSend_eq]
  obtain ⟨hout, -, -⟩ := inFlags_bits u false
  exact ⟨_, rfl, rfl, rfl, rfl, inPayload_length u fl vs, rfl, hout, rfl, rfl⟩

theorem reportedUnit_sends (u : StnUnit) (st : Nat) (fl : BitVec 16) (hr : u.redundant = true) : ∃ f,
    (reportedUnit u st fl).tx = some f ∧ f.type = 2 ∧ f.payload.length = 4 ∧ f.flags.toNat.testBit 1 = true ∧
      f.flags.toNat.testBit 2 = true ∧ f.cycle = BitVec.ofNat 16 ((u.cycle + 1) % 65536) ∧
      (reportedUnit u st fl).txPorts = [false, true] ∧ (reportedUnit u st fl).outs = u.outs := by
  rw [reportedUnit, onBothPorts_eq, unitSend_eq]
  obtain ⟨-, hsoc, hnodata⟩ :=
    inFlags_bits { u with noOut := decide (0 < u.nOut) && (u.missTold || (!u.applied && !u.flags.testBit 0)) } true
  exact ⟨_, rfl, rfl, by simp [unitFrame], hsoc, hnodata, rfl, if_pos hr, rfl⟩

section
variable (l : Fin 24) (st : Fin 32) (fl : BitVec 16) (s : State)

theorem exec_inFrameSend_sends (vs : List InVal) (ha : (s.unit l.val st.val).state = .admitted)
    (hs : (s.unit l.val st.val).sampled = true) (h0 : 0 < (s.unit l.val st.val).nIn) (hn : vs.length = (s.unit l.val st.val).nIn)
    (hi : (s.unit l.val st.val).inSent = false) : exec (.inFrameSend l st fl vs) s =
      .next (s.setUnit l.val st.val (inSentUnit (s.unit l.val st.val) st.val fl vs)) := by
  show execInFrameSend l st fl vs s = _
  unfold execInFrameSend; exact if_pos ⟨ha, h0, hn, hs, hi⟩

/-- No IN frame goes out before the sample mark. -/
theorem exec_inFrameSend_unsampled (vs : List InVal) (hs : (s.unit l.val st.val).sampled = false) :
    exec (.inFrameSend l st fl vs) s = .next s := by
  show execInFrameSend l st fl vs s = _
  unfold execInFrameSend; exact if_neg (by simp [hs])

theorem exec_reportFrame_reports (ha : (s.unit l.val st.val).state = .admitted) (hr : (s.unit l.val st.val).redundant = true)
    (h2 : (s.unit l.val st.val).twoSocs = true) : exec (.reportFrame l st fl) s =
      .next (s.setUnit l.val st.val (reportedUnit (s.unit l.val st.val) st.val fl)) := by
  show execReportFrame l st fl s = _
  unfold execReportFrame; exact if_pos ⟨ha, hr, h2⟩

end

end Sys2Proof.Machine
end

section
/-! Frames that a station unit consumes (R231, R232, R234, R240 to R244, R246 to R250): the unit that each leaves, and the statement on the
station units. -/

namespace Sys2Proof.Machine

/-! ### OUT frames and the apply instant (R240, R241) -/

/-- The unit after an OUT frame that it consumes: values for the apply instant, or OUT_MISS. -/
def outTaken (u : StnUnit) (inTime : Bool) (f : Frame) : StnUnit :=
  if f.cycle.toNat = u.cycle ∧ inTime = true ∧ u.portChanged = false ∧ f.payload.length = 4 * u.nOut then
    { u with next := some (payWords f 0 u.nOut) }
  else u.bump 7

section
variable (l : Fin 24) (st : Fin 32) (s : State)

theorem exec_outFrameConsume_admitted (inTime : Bool) (f : Frame) (c : Nat) (ha : (s.unit l.val st.val).state = .admitted)
    (hc : consume (s.unit l.val st.val) st.val f false = .yes c) (ht : f.type = 1) :
    exec (.outFrameConsume l st inTime f) s = .next (s.setUnit l.val st.val (outTaken (s.unit l.val st.val) inTime f)) :=
  congrArg Host.Outcome.next (onFrame_consumed (by simp [ha]) hc (by simp [ht]) rfl (by simp [ha]))

theorem exec_outFrameConsume_refused (inTime : Bool) (f : Frame) (hs : (s.unit l.val st.val).state ≠ .start)
    (hc : consume (s.unit l.val st.val) st.val f false = .crc ∨ consume (s.unit l.val st.val) st.val f false = .bad) :
    exec (.outFrameConsume l st inTime f) s = .next (s.setUnit l.val st.val (rxCrc (s.unit l.val st.val) f.portB)) :=
  congrArg Host.Outcome.next (onFrame_refused hs hc)

theorem exec_stationApply_safe (ho : (s.unit l.val st.val).opened = true) (hs : (s.unit l.val st.val).state ≠ .start)
    (hf : (s.unit l.val st.val).flags.testBit 0 = true) :
    exec (.stationApply l st) s = .next (s.setUnit l.val st.val (s.unit l.val st.val).goSafe) := by
  show execStationApply l st s = _
  simp [execStationApply, ho, hs, hf]

theorem exec_stationApply_applies (v : List Word) (ho : (s.unit l.val st.val).opened = true)
    (hf : (s.unit l.val st.val).flags.testBit 0 = false) (hn : (s.unit l.val st.val).next = some v)
    (ha : (s.unit l.val st.val).state = .admitted) : exec (.stationApply l st) s = .next (s.setUnit l.val st.val
      { s.unit l.val st.val with outs := some v, atSafe := false, applied := true, next := none }) := by
  show execStationApply l st s = _
  simp [execStationApply, ho, hf, hn, ha]

theorem exec_stationApply_nothing (ho : (s.unit l.val st.val).opened = true) (hs : (s.unit l.val st.val).state ≠ .start)
    (hf : (s.unit l.val st.val).flags.testBit 0 = false) (hn : (s.unit l.val st.val).next = none) :
    exec (.stationApply l st) s = .next s := by
  show execStationApply l st s = _
  simp [execStationApply, ho, hs, hf, hn]

end

/-! ### IDENT_REQ (R231, R246, R250) -/

/-- The state in which IDENT_REQ finds or puts the unit: only one admitted under the same epoch stays admitted. -/
def identEntered (u : StnUnit) (f : Frame) : StnUnit :=
  if u.state = .admitted then (if u.linkEpoch == some f.epoch.toNat then u else { u.goSafe with state := .wait })
  else { u with state := .wait }

/-- It keeps the link's number and epoch. -/
def identKept (u : StnUnit) (f : Frame) (c : Nat) : StnUnit :=
  { identEntered u f with linkNo := some c, linkEpoch := some f.epoch.toNat, identified := true }

/-- And answers with IDENT_RSP. -/
def identAnswered (u : StnUnit) (st : Nat) (f : Frame) (c : Nat) : StnUnit :=
  unitSend (identKept u f c) st 5 2 f.seq.toNat c 0 (identKept u f c).cycle (identPayload (identKept u f c) c)

theorem identEntered_ident (u : StnUnit) (f : Frame) : (identEntered u f).ident = u.ident := by
  unfold identEntered
  split
  · split <;> rfl
  · rfl

theorem identKept_payload (u : StnUnit) (f : Frame) (c : Nat) : identPayload (identKept u f c) c = identPayload u c := by
  have h : (identKept u f c).ident = u.ident := identEntered_ident u f
  rw [identPayload, identPayload, h]

theorem identEntered_same (u : StnUnit) (f : Frame) (ha : u.state = .admitted) (he : u.linkEpoch = some f.epoch.toNat) :
    identEntered u f = u := by
  rw [identEntered, if_pos ha, if_pos (by simp [he])]

theorem identEntered_newEpoch (u : StnUnit) (f : Frame) (ha : u.state = .admitted) (he : u.linkEpoch ≠ some f.epoch.toNat) :
    identEntered u f = { u.goSafe with state := .wait } := by
  rw [identEntered, if_pos ha, if_neg (by simp [he])]

theorem identEntered_waits (u : StnUnit) (f : Frame) (ha : u.state ≠ .admitted) : identEntered u f = { u with state := .wait } :=
  if_neg ha

/-- What IDENT_REQ leaves, by the state and epoch it finds. -/
theorem identAnswered_enters (u : StnUnit) (st : Nat) (f : Frame) (c : Nat) :
    ((u.state = .admitted ∧ u.linkEpoch = some f.epoch.toNat →
        (identAnswered u st f c).state = .admitted ∧ (identAnswered u st f c).outs = u.outs) ∧
      (u.state = .admitted → u.linkEpoch ≠ some f.epoch.toNat →
        (identAnswered u st f c).state = .wait ∧ (identAnswered u st f c).outs = u.goSafe.outs) ∧
      (u.state ≠ .admitted → (identAnswered u st f c).state = .wait)) := by
  have hstate : (identAnswered u st f c).state = (identEntered u f).state := rfl
  have houts : (identAnswered u st f c).outs = (identEntered u f).outs := rfl
  rw [hstate, houts]
  refine ⟨fun ⟨ha, he⟩ => ?_, fun ha he => ?_, fun ha => ?_⟩
  · rw [identEntered_same u f ha he]; exact ⟨ha, rfl⟩
  · rw [identEntered_newEpoch u f ha he]; exact ⟨rfl, rfl⟩
  · rw [identEntered_waits u f ha]

theorem exec_identReq_answers (l : Fin 24) (st : Fin 32) (f : Frame) (c : Nat) (s : State) (hs : (s.unit l.val st.val).state ≠ .start)
    (hl : (s.unit l.val st.val).state ≠ .loop) (hc : consume (s.unit l.val st.val) st.val f true = .yes c) (ht : f.type = 5)
    (hp : f.pay 0 = 1) (hlen : f.payload.length = 4) :
    exec (.identReq l st f) s = .next (s.setUnit l.val st.val (identAnswered (s.unit l.val st.val) st.val f c)) :=
  congrArg Host.Outcome.next (onFrame_consumed hs hc (by simp [ht, hp]) (by simp [hlen]) (by simp [hl]))

/-! ### ADMIT (R250, R253) -/

/-- The unit with the parameters of ADMIT. -/
def admitKept (u : StnUnit) (f : Frame) : StnUnit :=
  { u with
    admitted := true, redundant := f.payLe 2 2 % 2 = 1, delay := f.payLe 4 4, timeout := f.payLe 8 4,
    safe := payWords f 20 u.nOut, portChanged := u.portChanged && f.portB != u.portB }

theorem admitKept_safe (u : StnUnit) (f : Frame) : (admitKept u f).safe = payWords f 20 u.nOut := by simp only [admitKept]

/-- The unit ADMITTED: from WAIT at its safe values, its counters restarted. -/
def admitEntered (u : StnUnit) (f : Frame) : StnUnit :=
  if u.state = .admitted then admitKept u f
  else { (admitKept u f).goSafe with state := .admitted, seq0 := 0, seq2 := 0, lastAcr := none, applied := false }

/-- The unit that has answered with ADMIT_ACK. -/
def admitAnswered (u : StnUnit) (st : Nat) (f : Frame) (c : Nat) : StnUnit :=
  unitSend (admitEntered u f) st 5 2 f.seq.toNat c 0 (admitEntered u f).cycle
    ([0x83, BitVec.ofNat 8 c, 0, 0] ++ leBytes 8 u.ident.uid.toNat)

theorem admitEntered_keeps (u : StnUnit) (f : Frame) : (admitEntered u f).state = .admitted ∧ (admitEntered u f).delay = f.payLe 4 4 ∧
    (admitEntered u f).timeout = f.payLe 8 4 ∧ (admitEntered u f).redundant = decide (f.payLe 2 2 % 2 = 1) ∧
    (admitEntered u f).portChanged = (u.portChanged && f.portB != u.portB) ∧ (admitEntered u f).safe = payWords f 20 u.nOut := by
  unfold admitEntered
  split
  · next ha => simp [admitKept, ha]
  · simp [admitKept, StnUnit.goSafe]

theorem admitEntered_fromWait (u : StnUnit) (f : Frame) (h : u.state = .wait) :
    (admitEntered u f).outs = some (payWords f 20 u.nOut) ∧ (admitEntered u f).seq0 = 0 := by
  rw [← admitKept_safe, admitEntered, if_neg (by simp [h])]
  exact ⟨rfl, rfl⟩

theorem admitEntered_again (u : StnUnit) (f : Frame) (h : u.state = .admitted) : (admitEntered u f).outs = u.outs := by
  rw [admitEntered, if_pos h]; rfl

theorem exec_admitReq_admits (l : Fin 24) (st : Fin 32) (f : Frame) (c : Nat) (s : State)
    (hc : consume (s.unit l.val st.val) st.val f false = .yes c) (ht : f.type = 5) (hp : f.pay 0 = 3)
    (hlen : f.payload.length = 20 + 4 * (s.unit l.val st.val).nOut) (hu : f.payLe 12 8 = (s.unit l.val st.val).ident.uid.toNat)
    (ha : takesAdm (s.unit l.val st.val)) :
    exec (.admitReq l st f) s = .next (s.setUnit l.val st.val (admitAnswered (s.unit l.val st.val) st.val f c)) :=
  congrArg Host.Outcome.next
    (onFrame_consumed (takesAdm_started ha) hc (by simp [ht, hp]) (by simp [hlen, hu]) (takesAdm_acts ha))

/-! ### ACY (R243, R244) -/

/-- The ACR payload: of an answer already final the one sent before. -/
def acrPayload (u : StnUnit) (f : Frame) (r : BitVec 16) (data : List Byte) : List Byte :=
  let fresh := f.payload.take 2 ++ leBytes 2 r.toNat ++ (if f.payLe 0 2 = 1 ∧ r = 0 then data.take 1020 else [])
  match u.lastAcr with | some (n, p) => if n = f.seq.toNat then p else fresh | none => fresh

theorem acrPayload_fresh (u : StnUnit) (f : Frame) (r : BitVec 16) (data : List Byte) (h : u.lastAcr = none) :
    acrPayload u f r data = f.payload.take 2 ++ leBytes 2 r.toNat ++ (if f.payLe 0 2 = 1 ∧ r = 0 then data.take 1020 else []) := by
  simp [acrPayload, h]

theorem acrPayload_again (u : StnUnit) (f : Frame) (r : BitVec 16) (data p : List Byte) (h : u.lastAcr = some (f.seq.toNat, p)) :
    acrPayload u f r data = p := by
  simp [acrPayload, h]

/-- The unit that has answered with ACR. -/
def acyAnswered (u : StnUnit) (st : Nat) (f : Frame) (r : BitVec 16) (data : List Byte) (c : Nat) : StnUnit :=
  let u1 := unitSend u st 4 1 f.seq.toNat c 0 u.cycle (acrPayload u f r data)
  if r = 1 then u1 else { u1 with lastAcr := some (f.seq.toNat, acrPayload u f r data) }

theorem acyAnswered_sends (u : StnUnit) (st : Nat) (f : Frame) (r : BitVec 16) (data : List Byte) (c : Nat) :
    ∃ g, (acyAnswered u st f r data c).tx = some g ∧ g.type = 4 ∧ g.seq = f.seq ∧ g.payload = acrPayload u f r data := by
  refine ⟨unitFrame u st 4 1 f.seq.toNat c 0 u.cycle (acrPayload u f r data), ?_, rfl, BitVec.ofNat_toNat .. |>.trans (by simp), rfl⟩
  unfold acyAnswered; dsimp only
  split <;> rfl

theorem exec_acy_answers (l : Fin 24) (st : Fin 32) (f : Frame) (r : BitVec 16) (data : List Byte) (c : Nat) (s : State)
    (hc : consume (s.unit l.val st.val) st.val f false = .yes c) (ha : (s.unit l.val st.val).state = .admitted) (ht : f.type = 3)
    (h6 : 6 ≤ f.payload.length) (h1024 : f.payload.length ≤ 1024) :
    exec (.acy l st f r data) s = .next (s.setUnit l.val st.val (acyAnswered (s.unit l.val st.val) st.val f r data c)) :=
  congrArg Host.Outcome.next (onFrame_consumed (by simp [ha]) hc (by simp [ht]) (by simp [h6, h1024]) (by simp [ha]))

/-! ### DELAY_REQ, RELEASE, HOLD, TEST and DIAG (R234, R247, R248, R250) -/

/-- The unit that has answered with DELAY_RSP. -/
def delayAnswered (u : StnUnit) (st : Nat) (f : Frame) (tn : Word) (c : Nat) : StnUnit :=
  unitSend u st 5 2 f.seq.toNat c 0 u.cycle ([0x82, BitVec.ofNat 8 c, 0, 0] ++ leBytes 4 tn.toNat)

/-- The unit that has answered DIAG; READ_AND_CLEAR clears the counters. -/
def diagAnswered (u : StnUnit) (st : Nat) (f : Frame) (c : Nat) : StnUnit :=
  let u1 := unitSend u st 6 2 f.seq.toNat c 0 u.cycle (diagPayload u (f.pay 0))
  if f.pay 0 = 2 then { u1 with cnt := [] } else u1

theorem delayAnswered_sends (u : StnUnit) (st : Nat) (f : Frame) (tn : Word) (c : Nat) : ∃ g,
    delayAnswered u st f tn c = { u with tx := some g, txPorts := [u.portB] } ∧ g.type = 5 ∧
      g.payload = [0x82, BitVec.ofNat 8 c, 0, 0] ++ leBytes 4 tn.toNat ∧ g.seq = f.seq :=
  ⟨_, unitSend_eq .., rfl, rfl, by simp [unitFrame]⟩

theorem diagAnswered_read (u : StnUnit) (st : Nat) (f : Frame) (c : Nat) (hp : f.pay 0 = 1) : ∃ g,
    diagAnswered u st f c = { u with tx := some g, txPorts := [u.portB] } ∧ g.payload = diagPayload u 1 := by
  rw [diagAnswered, hp, if_neg (by decide), unitSend_eq]
  exact ⟨_, rfl, rfl⟩

theorem diagAnswered_clear (u : StnUnit) (st : Nat) (f : Frame) (c : Nat) (hp : f.pay 0 = 2) : ∃ g,
    diagAnswered u st f c = { u with tx := some g, txPorts := [u.portB], cnt := [] } ∧ g.payload = diagPayload u 2 := by
  rw [diagAnswered, hp, if_pos rfl, unitSend_eq]
  exact ⟨_, rfl, rfl⟩

section
variable (l : Fin 24) (st : Fin 32) (f : Frame) (c : Nat) (s : State)

theorem exec_delayReq_answers (tn : Word) (hc : consume (s.unit l.val st.val) st.val f false = .yes c) (ht : f.type = 5)
    (hp : f.pay 0 = 2) (hlen : f.payload.length = 4) (ha : takesAdm (s.unit l.val st.val)) : exec (.delayReq l st f tn) s =
      .next (s.setUnit l.val st.val (delayAnswered (s.unit l.val st.val) st.val f tn c)) :=
  congrArg Host.Outcome.next (onFrame_consumed (takesAdm_started ha) hc (by simp [ht, hp]) (by simp [hlen]) (takesAdm_acts ha))

theorem exec_release_waits (hc : consume (s.unit l.val st.val) st.val f false = .yes c)
    (ha : (s.unit l.val st.val).state = .admitted) (ht : f.type = 5) (hp : f.pay 0 = 4) (hlen : f.payload.length = 4) :
    exec (.release l st f) s = .next (s.setUnit l.val st.val { (s.unit l.val st.val).goSafe with state := .wait }) :=
  congrArg Host.Outcome.next (onFrame_consumed (by simp [ha]) hc (by simp [ht, hp]) (by simp [hlen]) (by simp [ha]))

theorem exec_hold_holds (hc : consume (s.unit l.val st.val) st.val f true = .yes c)
    (ha : (s.unit l.val st.val).state = .wait ∨ (s.unit l.val st.val).state = .held) (ht : f.type = 8) (hlen : f.payload.length = 0) :
    exec (.hold l st f) s = .next (s.setUnit l.val st.val
      { s.unit l.val st.val with state := .held, linkNo := some ((s.unit l.val st.val).linkNo.getD c) }) := by
  have hstart : (s.unit l.val st.val).state ≠ .start := by rcases ha with h | h <;> simp [h]
  have hadm : (s.unit l.val st.val).state ≠ .admitted := by rcases ha with h | h <;> simp [h]
  exact congrArg Host.Outcome.next (onFrame_consumed hstart hc (by simp [ht]) (by simp [hlen, hadm]) (by simp [ha]))

theorem exec_testLoopOn_loops (hc : consume (s.unit l.val st.val) st.val f false = .yes c)
    (ha : (s.unit l.val st.val).state = .wait ∨ (s.unit l.val st.val).state = .admitted) (ht : f.type = 7) (hp : f.pay 0 = 1)
    (hfit : testFits f = true) :
    exec (.testLoopOn l st f) s = .next (s.setUnit l.val st.val { (s.unit l.val st.val).goSafe with state := .loop }) := by
  have hstart : (s.unit l.val st.val).state ≠ .start := by rcases ha with h | h <;> simp [h]
  exact congrArg Host.Outcome.next (onFrame_consumed hstart hc (by simp [ht, hp]) hfit (by simp [ha]))

theorem exec_testLoopOff_waits (hc : consume (s.unit l.val st.val) st.val f false = .yes c)
    (ha : (s.unit l.val st.val).state = .loop) (ht : f.type = 7) (hp : f.pay 0 = 2) (hfit : testFits f = true) :
    exec (.testLoopOff l st f) s = .next (s.setUnit l.val st.val { s.unit l.val st.val with state := .wait }) :=
  congrArg Host.Outcome.next (onFrame_consumed (by simp [ha]) hc (by simp [ht, hp]) hfit (by simp [ha]))

theorem exec_diag_answers (hc : consume (s.unit l.val st.val) st.val f false = .yes c) (hs : (s.unit l.val st.val).state ≠ .start)
    (hl : (s.unit l.val st.val).state ≠ .loop) (ht : f.type = 6) (hlen : f.payload.length = 4) (hp : f.pay 0 = 1 ∨ f.pay 0 = 2) :
    exec (.diag l st f) s = .next (s.setUnit l.val st.val (diagAnswered (s.unit l.val st.val) st.val f c)) :=
  congrArg Host.Outcome.next (onFrame_consumed hs hc (by simp [ht]) (by simp [hlen, hp]) (by simp [hl]))

end

/-! ### The statement -/

/-- Settles O42: each row in a state that takes it leaves the unit of its lemma above, and each answer is the frame that unit has sent. -/
theorem stationUnits : Obligations.StationUnits := by
  refine ⟨fun l st e i s => ⟨exec_stationStart_starts l st s e i, exec_stationStart_refused l st s e i⟩,
    fun l st portB s hs => ⟨exec_lossOfSignal_unit l st s portB hs, exec_lossOfSignal_loop l st s⟩,
    fun l st portB quiet b s hs hok hm => ⟨fun h => ?_, fun change h => ?_⟩,
    fun l st portB quiet b s => ⟨exec_block_bad l st portB quiet b s, exec_block_fault l st portB quiet b s⟩,
    fun u portB => ⟨fun h => if_pos h, fun h => if_neg h⟩,
    fun l st b s => exec_sampleMarkAccept_marks l st b s,
    fun l st fl vs s ha hs h0 hn hi => ?_, fun l st fl vs s => exec_inFrameSend_unsampled l st fl s vs,
    fun l st inTime f c s ha hc ht => ⟨fun hcyc hin hport hlen => ?_, fun hmiss => ?_⟩,
    fun l st inTime f s hs => exec_outFrameConsume_refused l st s inTime f hs,
    fun l st s ho hs => ⟨exec_stationApply_safe l st s ho hs, fun v hf hn ha => exec_stationApply_applies l st s v ho hf hn ha,
      exec_stationApply_nothing l st s ho hs⟩,
    fun l st f c s hs hl hc ht hp hlen => ?_, fun l st f tn c s hc ht hp hlen ha => ?_,
    fun l st f c s hc ht hp hlen hu ha => ?_,
    fun l st f c s hc => ⟨exec_release_waits l st f c s hc, exec_testLoopOn_loops l st f c s hc, exec_testLoopOff_waits l st f c s hc,
      fun hs hl ht hlen => ⟨fun hp => ?_, fun hp => ?_⟩, fun r data ha ht h6 h1024 hfresh => ?_,
      fun r data p ha ht h6 h1024 hlast => ?_⟩,
    fun l st f c s hc ha ht hlen => exec_hold_holds l st f c s hc ha ht hlen,
    fun l st s => ⟨exec_loopbackEnd_loop l st s, exec_heldTimeout_held l st s, fun ha => ?_, fun fl ha hr h2 => ?_⟩⟩
  · refine ⟨_, exec_socBlockAccept_discard l st portB quiet b s hs hok hm h, ?_⟩
    rw [State.unit_setUnit]
    exact ⟨StnUnit.cntAt_bump _ 6, rfl⟩
  · refine ⟨_, exec_socBlockAccept_accept l st portB quiet b s change hs hok hm h, ?_⟩
    rw [State.unit_setUnit]
    obtain ⟨hcycle, hflags, hofs, hopened, hsampled, hnext, hstate⟩ :=
      socTaken_opens (s.unit l.val st.val) st.val portB quiet change b
    refine ⟨hcycle, hflags, hofs, hopened, hsampled, hnext, hstate, socTaken_missed _ _ _ _ _ _, fun hw hq => ?_, rfl, rfl⟩
    subst hq
    exact socTaken_announces _ _ _ _ _ hw
  · obtain ⟨f, htx, hf⟩ := inSentUnit_sends (s.unit l.val st.val) st.val fl vs
    refine ⟨_, f, exec_inFrameSend_sends l st fl s vs ha hs h0 hn hi, ?_⟩
    rw [State.unit_setUnit]
    exact ⟨htx, hf⟩
  · rw [exec_outFrameConsume_admitted l st s inTime f c ha hc ht, outTaken, if_pos ⟨hcyc, hin, hport, hlen⟩]
  · have hnot : ¬(f.cycle.toNat = (s.unit l.val st.val).cycle ∧ inTime = true ∧ (s.unit l.val st.val).portChanged = false ∧
        f.payload.length = 4 * (s.unit l.val st.val).nOut) :=
      fun ⟨hcyc, hin, _⟩ => hmiss.elim (· hcyc) fun hlate => by simp [hlate] at hin
    rw [exec_outFrameConsume_admitted l st s inTime f c ha hc ht, outTaken, if_neg hnot]
  · refine ⟨_, unitFrame (identKept (s.unit l.val st.val) f c) st.val 5 2 f.seq.toNat c 0 (identKept (s.unit l.val st.val) f c).cycle
      (identPayload (identKept (s.unit l.val st.val) f c) c), exec_identReq_answers l st f c s hs hl hc ht hp hlen, ?_⟩
    rw [State.unit_setUnit]
    exact ⟨rfl, rfl, identKept_payload _ f c, rfl, rfl, identAnswered_enters _ st.val f c⟩
  · obtain ⟨g, hsent, hg⟩ := delayAnswered_sends (s.unit l.val st.val) st.val f tn c
    exact ⟨_, g, exec_delayReq_answers l st f c s tn hc ht hp hlen ha, (State.unit_setUnit _ _ _ _).trans hsent, hg⟩
  · refine ⟨_, exec_admitReq_admits l st f c s hc ht hp hlen hu ha, ?_⟩
    rw [State.unit_setUnit, admitAnswered, unitSend_eq]
    obtain ⟨hstate, hdelay, htimeout, hred, hport, hsafe⟩ := admitEntered_keeps (s.unit l.val st.val) f
    exact ⟨hstate, hdelay, htimeout, hred, hport, hsafe, admitEntered_fromWait _ f, admitEntered_again _ f⟩
  · obtain ⟨g, hsent, hg⟩ := diagAnswered_read (s.unit l.val st.val) st.val f c hp
    exact ⟨_, g, exec_diag_answers l st f c s hc hs hl ht hlen (Or.inl hp), (State.unit_setUnit _ _ _ _).trans hsent, hg⟩
  · obtain ⟨g, hsent, hg⟩ := diagAnswered_clear (s.unit l.val st.val) st.val f c hp
    exact ⟨_, g, exec_diag_answers l st f c s hc hs hl ht hlen (Or.inr hp), (State.unit_setUnit _ _ _ _).trans hsent, hg⟩
  · obtain ⟨g, htx, htype, hseq, hpay⟩ := acyAnswered_sends (s.unit l.val st.val) st.val f r data c
    refine ⟨_, g, exec_acy_answers l st f r data c s hc ha ht h6 h1024, ?_, htype, hseq, hpay.trans (acrPayload_fresh _ f r data hfresh)⟩
    rwa [State.unit_setUnit]
  · obtain ⟨g, htx, -, hseq, hpay⟩ := acyAnswered_sends (s.unit l.val st.val) st.val f r data c
    refine ⟨_, g, exec_acy_answers l st f r data c s hc ha ht h6 h1024, ?_, hpay.trans (acrPayload_again _ f r data p hlast), hseq⟩
    rwa [State.unit_setUnit]
  · refine ⟨_, exec_socLossTimeout_admitted l st s ha, ?_⟩
    rw [State.unit_setUnit]
    exact ⟨rfl, socMissed_goSafe_outs _, socMissed_count _⟩
  · obtain ⟨g, htx, hg⟩ := reportedUnit_sends (s.unit l.val st.val) st.val fl hr
    refine ⟨_, g, exec_reportFrame_reports l st fl s ha hr h2, ?_⟩
    rw [State.unit_setUnit]
    exact ⟨htx, hg⟩

end Sys2Proof.Machine
end

section
/-! The link quantities of rule 4 (R257). -/

namespace Sys2Proof.Machine

/-- A station without outputs adds nothing to T_OUT, as one that is left out of the sum. -/
theorem tOut_stations (l : List StnCfg) : (l.map (fun y => if y.nOut = 0 then 0 else 40 * (4 * y.nOut + 20))).sum =
    40 * ((l.filter (fun y => decide (0 < y.nOut))).map (fun y => 4 * y.nOut + 20)).sum := by
  induction l with
  | nil => rfl
  | cons y l ih =>
    rw [List.map_cons, List.sum_cons, ih]
    rcases Nat.eq_zero_or_pos y.nOut with h | h
    · simp [h]
    · simp [h, h.ne', Nat.mul_add]

/-- The larger of a bound and the delays of a list's stations in RUN. -/
def maxDelay (s : State) (l m : Nat) (q : List Nat) : Nat :=
  q.foldl (fun m st => if s.stnRun l st then max m (s.stn l st).delay else m) m

theorem dLine_eq_maxDelay (s : State) (l : Nat) : dLine s l = maxDelay s l 0 (s.stnList l) := rfl

theorem maxDelay_cons (s : State) (l m st : Nat) (q : List Nat) :
    maxDelay s l m (st :: q) = maxDelay s l (if s.stnRun l st then max m (s.stn l st).delay else m) q := rfl

theorem maxDelay_ge_start (s : State) (l m : Nat) (q : List Nat) : m ≤ maxDelay s l m q := by
  induction q generalizing m with
  | nil => exact le_rfl
  | cons st q ih =>
    rw [maxDelay_cons]
    refine le_trans ?_ (ih _)
    split
    · exact le_max_left _ _
    · exact le_rfl

theorem maxDelay_ge_run (s : State) (l m : Nat) (q : List Nat) (st : Nat) (hst : st ∈ q) (hr : s.stnRun l st = true) :
    (s.stn l st).delay ≤ maxDelay s l m q := by
  induction q generalizing m with
  | nil => exact absurd hst List.not_mem_nil
  | cons k q ih =>
    rw [maxDelay_cons]
    rcases List.mem_cons.mp hst with rfl | hin
    · rw [if_pos hr]
      exact le_trans (le_max_right _ _) (maxDelay_ge_start s l _ q)
    · exact ih _ hin

/-- It is the bound itself or the delay of a station in RUN. -/
theorem maxDelay_attained (s : State) (l m : Nat) (q : List Nat) :
    maxDelay s l m q = m ∨ ∃ st ∈ q, s.stnRun l st = true ∧ (s.stn l st).delay = maxDelay s l m q := by
  induction q generalizing m with
  | nil => exact Or.inl rfl
  | cons k q ih =>
    rw [maxDelay_cons]
    rcases ih (if s.stnRun l k then max m (s.stn l k).delay else m) with h | ⟨st, hst, hr, hd⟩
    · rw [h]
      split
      · next hk =>
        rcases max_choice m (s.stn l k).delay with hm | hm
        · exact Or.inl hm
        · exact Or.inr ⟨k, List.mem_cons_self, hk, hm.symm⟩
      · exact Or.inl rfl
    · exact Or.inr ⟨st, List.mem_cons_of_mem _ hst, hr, hd⟩

/-- Settles O60: T_OUT station by station; D_LINE bounds the delay of every station in RUN and is 0 or one of them. -/
theorem linkTimes : Obligations.LinkTimes := by
  refine ⟨fun k => tOut_stations k.stns, fun l s => ⟨fun st hst hr => maxDelay_ge_run s l 0 _ st hst hr, ?_, fun hnone => ?_⟩⟩
  · rintro ⟨st, hst, hr⟩
    rcases maxDelay_attained s l 0 (s.stnList l) with h0 | h
    · refine ⟨st, hst, hr, ?_⟩
      have hle := maxDelay_ge_run s l 0 _ st hst hr
      rw [dLine_eq_maxDelay, h0]
      omega
    · exact h
  · rcases maxDelay_attained s l 0 (s.stnList l) with h0 | ⟨st, hst, hr, -⟩
    · exact h0
    · simp [hnone st hst] at hr

end Sys2Proof.Machine
end

section
/-! Field power groups (R278 to R280): the change of a group's state, a fault, and each row of the table. -/

namespace Sys2Proof.Machine

/-! ### Events and the registers below the host interface -/

/-- An event of a partition sets registers of the host interface alone (R296, R297). -/
theorem postEvent_reg_below_hif (s : State) (part type : Nat) (data : List Nat) (b : Nat) (hb : b < R.HIF_ID) :
    (postEvent s part type data).reg b = s.reg b := by
  have hdev : b ≠ R.HIF_DEV_EVT := by simp only [R.HIF_ID, R.HIF_DEV_EVT] at hb ⊢; omega
  have hdrop : b ≠ R.HIF_EVT_DROP := by simp only [R.HIF_ID, R.HIF_EVT_DROP] at hb ⊢; omega
  have hstat : b ≠ R.HIF_PSTAT part := by simp only [R.HIF_ID, R.HIF_PSTAT] at hb ⊢; omega
  unfold postEvent
  dsimp only
  split
  · rfl
  · split
    · rfl
    · exact (devEvt_reg _ 3 b hdev).trans ((State.reg_count_ne _ _ b hstat).trans (State.reg_countReg_ne _ _ b hdrop))

theorem State.onlyRegsHif.links_eq {s t : State} (h : s.onlyRegsHif t) : t.links = s.links := by obtain ⟨r, x, rfl⟩ := h; rfl

/-! ### A group changes state (R278, R279) -/

/-- A group that is not ON changes its state, and of what is not a register the station units alone. -/
theorem fpcTo_notOn (s : State) (g k : Nat) (h : fpcState s g ≠ 2) :
    ∃ u, fpcTo s g k = State.setFld { s with units := u } (F.FPC_STATUS_STATE g) k := by
  unfold fpcTo
  dsimp only
  rw [if_neg fun hon => h hon.1]
  split
  · exact ⟨_, rfl⟩
  · exact ⟨s.units, rfl⟩

section
variable {s : State} {g : Nat} (h : fpcState s g ≠ 2)
include h

theorem fpcTo_state (k : Nat) (hk : k < 8) : fpcState (fpcTo s g k) g = k := by
  obtain ⟨u, hu⟩ := fpcTo_notOn s g k h
  rw [hu, fpcState, State.fld_setFld _ _ _ (by simp)]
  exact Nat.mod_eq_of_lt hk

theorem fpcTo_links (k : Nat) : (fpcTo s g k).links = s.links := by
  obtain ⟨u, hu⟩ := fpcTo_notOn s g k h
  rw [hu]; rfl

theorem fpcTo_mem (k : Nat) : (fpcTo s g k).mem = s.mem := by
  obtain ⟨u, hu⟩ := fpcTo_notOn s g k h
  rw [hu]; rfl

theorem fpcTo_fld_other (k : Nat) (f : Fld) (hf : f.reg ≠ R.FPC_STATUS g) : (fpcTo s g k).fld f = s.fld f := by
  obtain ⟨u, hu⟩ := fpcTo_notOn s g k h
  rw [hu, State.fld_setFld_other _ _ _ _ hf]; rfl

end

/-- A rise to ON or to LIMIT leaves the station units their supply. -/
theorem fpcTo_fed (s : State) (g k : Nat) (h : fpcState s g ≠ 2) (hk : gateOff k = false) :
    fpcTo s g k = s.setFld (F.FPC_STATUS_STATE g) k := by
  unfold fpcTo
  dsimp only
  rw [if_neg fun hon => h hon.1, if_neg (by simp [hk])]

/-- A group that leaves ON for LIMIT takes its links DOWN (R280). -/
theorem fpcTo_limit_on (s : State) (g : Nat) (h : fpcState s g = 2) : fpcTo s g 3 = eachNat (fun t l => linkDown t l 5)
    ((s.setFld (F.FPC_STATUS_STATE g) 3).setFpg g { s.fpg g with settled := false }) (fpgLinks s g) := by
  unfold fpcTo
  dsimp only
  rw [if_pos ⟨h, by decide⟩, if_neg (by simp [gateOff])]
  rfl

theorem fpcState_setRetries (s : State) (g v : Nat) : fpcState (s.setFld (F.FPC_STATUS_RETRIES g) v) g = fpcState s g :=
  State.fld_setFld_below _ (F.FPC_STATUS_RETRIES g) (F.FPC_STATUS_STATE g) v (by simp) rfl (by simp)

/-! ### Faults (R279) -/

/-- FAULT with its kind, as the status shows it. -/
def faultShown (s : State) (g : Nat) (fast : Bool) : State :=
  ((s.setFld (F.FPC_STATUS_FAULT g) 1).setFld (F.FPC_STATUS_FAST g) (if fast then 1 else 0)).setFld (F.FPC_STATUS_TIMEOUT g)
    (if fast then 0 else 1)

theorem faultShown_state (s : State) (g : Nat) (fast : Bool) : fpcState (faultShown s g fast) g = fpcState s g := by
  rw [fpcState, faultShown, State.fld_setFld_below _ _ _ _ (by simp) (by simp) (by simp),
    State.fld_setFld_below _ _ _ _ (by simp) (by simp) (by simp), State.fld_setFld_below _ _ _ _ (by simp) (by simp) (by simp)]
  rfl

theorem faultShown_fault (s : State) (g : Nat) (fast : Bool) : (faultShown s g fast).flag (F.FPC_STATUS_FAULT g) = true := by
  rw [State.flag, faultShown, State.fld_setFld_above _ _ _ _ (by simp) (by simp) (by simp),
    State.fld_setFld_above _ _ _ _ (by simp) (by simp) (by simp), State.fld_setFld _ _ _ (by simp)]
  rfl

theorem faultShown_fast (s : State) (g : Nat) (fast : Bool) : (faultShown s g fast).flag (F.FPC_STATUS_FAST g) = fast := by
  rw [State.flag, faultShown, State.fld_setFld_below _ _ _ _ (by simp) (by simp) (by simp), State.fld_setFld _ _ _ (by simp)]
  cases fast <;> rfl

theorem faultShown_timeout (s : State) (g : Nat) (fast : Bool) : (faultShown s g fast).flag (F.FPC_STATUS_TIMEOUT g) = !fast := by
  rw [faultShown, State.flag_setFld _ _ _ (by simp)]
  cases fast <;> rfl

/-- WAIT, or LOCKED after the third retry. -/
def faultState (s : State) (g : Nat) : Nat := if s.fld (F.FPC_STATUS_RETRIES g) = 3 then 5 else 4

theorem faultState_lt (s : State) (g : Nat) : faultState s g < 8 := by
  unfold faultState; split <;> decide

theorem fpcFault_eq (s : State) (g : Nat) (fast : Bool) : fpcFault s g fast =
    postEvent (evcIf (faultShown (fpcTo s g (faultState s g)) g fast) F.FPC_EVT_EN_EN 44 g) 0 0xB
      [g, fpcState (faultShown (fpcTo s g (faultState s g)) g fast) g] := rfl

/-- The events of a fault set no register of the group. -/
theorem fpcFault_status (s : State) (g : Fin 6) (fast : Bool) : (fpcFault s g.val fast).reg (R.FPC_STATUS g.val) =
    (faultShown (fpcTo s g.val (faultState s g.val)) g.val fast).reg (R.FPC_STATUS g.val) := by
  rw [fpcFault_eq, postEvent_reg_below_hif _ _ _ _ _ (by simp only [R.FPC_STATUS, R.HIF_ID]; omega),
    evcIf_reg_above _ _ _ _ _ (by omega) (by simp only [R.FPC_STATUS]; omega)]

theorem faultShown_links (s : State) (g : Nat) (fast : Bool) : (faultShown s g fast).links = s.links := by
  simp only [faultShown, State.setFld_links]

/-- A fault of a group that is not ON: its state, its kind, and no link changes. -/
theorem fpcFault_notOn (s : State) (g : Fin 6) (fast : Bool) (h : fpcState s g.val ≠ 2) :
    fpcState (fpcFault s g.val fast) g.val = faultState s g.val ∧ (fpcFault s g.val fast).flag (F.FPC_STATUS_FAULT g.val) = true ∧
      (fpcFault s g.val fast).flag (F.FPC_STATUS_FAST g.val) = fast ∧
      (fpcFault s g.val fast).flag (F.FPC_STATUS_TIMEOUT g.val) = !fast ∧ (fpcFault s g.val fast).links = s.links := by
  have hreg := fpcFault_status s g fast
  refine ⟨?_, ?_, ?_, ?_, ?_⟩
  · exact (State.fld_congr (f := F.FPC_STATUS_STATE g.val) hreg).trans
      ((faultShown_state _ g.val fast).trans (fpcTo_state h _ (faultState_lt s g.val)))
  · exact (State.flag_congr (f := F.FPC_STATUS_FAULT g.val) hreg).trans (faultShown_fault _ g.val fast)
  · exact (State.flag_congr (f := F.FPC_STATUS_FAST g.val) hreg).trans (faultShown_fast _ g.val fast)
  · exact (State.flag_congr (f := F.FPC_STATUS_TIMEOUT g.val) hreg).trans (faultShown_timeout _ g.val fast)
  · have hpost := State.onlyRegsHif_trans
      (evcIf_only (faultShown (fpcTo s g.val (faultState s g.val)) g.val fast) F.FPC_EVT_EN_EN 44 g.val).toRegsHif
      (postEvent_only _ 0 0xB [g.val, fpcState (faultShown (fpcTo s g.val (faultState s g.val)) g.val fast) g.val])
    rw [fpcFault_eq, hpost.links_eq, faultShown_links, fpcTo_links h]

/-! ### Commands (R279) -/

theorem exec_fpcCtrlEn_open (g : Fin 6) (en : Bool) (s : State) (ha : s.accepts (R.FPC_CTRL g.val) = true) :
    exec (.fpcCtrlEn g en) s = .next (fpcEn s g.val en) := atReg_open s _ _ _ ha

theorem exec_fpcClr_open (g : Fin 6) (s : State) (ha : s.accepts (R.FPC_CTRL g.val) = true) :
    exec (.fpcClr g) s = .next (fpcClr s g.val) := atReg_open s _ _ _ ha

theorem fpcCtrl_apart (g : Nat) : R.FPC_STATUS g ≠ R.FPC_CTRL g := by simp only [R.FPC_STATUS, R.FPC_CTRL]; omega

theorem fpcState_setEn (s : State) (g v : Nat) : fpcState (s.setFld (F.FPC_CTRL_EN g) v) g = fpcState s g :=
  State.fld_setFld_other _ _ _ _ (fpcCtrl_apart g)

theorem fpcEn_on (s : State) (g : Nat) (h : fpcState s g = 0) : fpcEn s g true = fpcTo (s.setFld (F.FPC_CTRL_EN g) 1) g 1 := by
  unfold fpcEn
  exact (if_pos rfl).trans (if_pos ((fpcState_setEn s g 1).trans h))

theorem fpcEn_off (s : State) (g : Nat) : fpcEn s g false =
    ((fpcTo (s.setFld (F.FPC_CTRL_EN g) 0) g 0).setFld (F.FPC_STATUS_RETRIES g) 0).setFpg g {} := rfl

@[simp] theorem State.fpg_setFpg (s : State) (g : Nat) (x : Fpg) : (s.setFpg g x).fpg g = x := SMap.get_set_same _ _ _ _

@[simp] theorem State.setFpg_links (s : State) (g : Nat) (x : Fpg) : (s.setFpg g x).links = s.links := rfl

@[simp] theorem State.fld_setFpg (s : State) (g : Nat) (x : Fpg) (f : Fld) : (s.setFpg g x).fld f = s.fld f := rfl

theorem fpcEn_on_starts (s : State) (g : Nat) (h : fpcState s g = 0) : fpcState (fpcEn s g true) g = 1 ∧
    (fpcEn s g true).flag (F.FPC_CTRL_EN g) = true ∧ (fpcEn s g true).links = s.links ∧ (fpcEn s g true).mem = s.mem := by
  have hoff : fpcState (s.setFld (F.FPC_CTRL_EN g) 1) g ≠ 2 := by rw [fpcState_setEn, h]; decide
  rw [fpcEn_on s g h]
  refine ⟨fpcTo_state hoff 1 (by decide), ?_, fpcTo_links hoff 1, fpcTo_mem hoff 1⟩
  rw [State.flag, fpcTo_fld_other hoff 1 _ (fpcCtrl_apart g).symm, State.fld_setFld _ _ _ (by simp)]
  rfl

theorem fpcEn_off_stops (s : State) (g : Nat) (h : fpcState s g ≠ 2) : fpcState (fpcEn s g false) g = 0 ∧
    (fpcEn s g false).fld (F.FPC_STATUS_RETRIES g) = 0 ∧ (fpcEn s g false).flag (F.FPC_CTRL_EN g) = false ∧
    (fpcEn s g false).links = s.links := by
  have hoff : fpcState (s.setFld (F.FPC_CTRL_EN g) 0) g ≠ 2 := by rwa [fpcState_setEn]
  rw [fpcEn_off]
  refine ⟨?_, ?_, ?_, ?_⟩
  · rw [fpcState, State.fld_setFpg]
    exact (fpcState_setRetries _ g 0).trans (fpcTo_state hoff 0 (by decide))
  · rw [State.fld_setFpg, State.fld_setFld _ _ _ (by simp)]; rfl
  · rw [State.flag, State.fld_setFpg, State.fld_setFld_other _ _ _ _ (fpcCtrl_apart g).symm,
      fpcTo_fld_other hoff 0 _ (fpcCtrl_apart g).symm, State.fld_setFld _ _ _ (by simp)]
    rfl
  · rw [State.setFpg_links, State.setFld_links, fpcTo_links hoff 0, State.setFld_links]

theorem fpcClr_locked (s : State) (g : Nat) (h : fpcState s g = 5) (hen : s.flag (F.FPC_CTRL_EN g) = true) :
    fpcState (fpcClr s g) g = 1 ∧ (fpcClr s g).fld (F.FPC_STATUS_RETRIES g) = 0 ∧ (fpcClr s g).links = s.links := by
  have hoff : fpcState s g ≠ 2 := by rw [h]; decide
  have hclr : fpcClr s g = (fpcTo s g 1).setFld (F.FPC_STATUS_RETRIES g) 0 := if_pos ⟨h, hen⟩
  rw [hclr]
  refine ⟨(fpcState_setRetries _ g 0).trans (fpcTo_state hoff 1 (by decide)), ?_, ?_⟩
  · rw [State.fld_setFld _ _ _ (by simp)]; rfl
  · rw [State.setFld_links, fpcTo_links hoff 1]

theorem fpcClr_keeps (s : State) (g : Nat) (h : fpcState s g ≠ 5) : fpcClr s g = s := if_neg fun hc => h hc.1

/-! ### The shunt (R279, R282) -/

theorem sensed_state (s : State) (x : Shunt) : fpcState (sensed s x) x.group.val = fpcState s x.group.val :=
  State.fld_setFld_other _ _ _ _ (by simp only [R.FPC_STATUS, R.FPC_SENSE]; omega)

theorem sensed_faultState (s : State) (x : Shunt) : faultState (sensed s x) x.group.val = faultState s x.group.val := by
  rw [faultState, sensed, State.fld_setFld_other _ _ _ _ (by simp only [R.FPC_STATUS, R.FPC_SENSE]; omega)]
  rfl

section
variable (x : Shunt) {s : State}

theorem sensed_ramp_notOn (h : fpcState s x.group.val = 1) : fpcState (sensed s x) x.group.val ≠ 2 := by
  rw [sensed_state, h]; decide

theorem exec_gateAtVddfp_ramp (h : fpcState s x.group.val = 1) :
    exec (.gateAtVddfp x) s = .next (fpcTo (sensed s x) x.group.val 2) := if_pos ((sensed_state s x).trans h)

theorem exec_gateAtVddfp_keeps (h : fpcState s x.group.val ≠ 1) : exec (.gateAtVddfp x) s = .next (sensed s x) :=
  if_neg fun hr => h ((sensed_state s x).symm.trans hr)

theorem exec_shuntLimit_limits (h : fpcState s x.group.val = 1 ∨ fpcState s x.group.val = 2) :
    exec (.shuntLimit x) s = .next (fpcTo (sensed s x) x.group.val 3) := by
  refine if_pos ?_
  rwa [sensed_state]

theorem exec_shuntLimit_keeps (h1 : fpcState s x.group.val ≠ 1) (h2 : fpcState s x.group.val ≠ 2) :
    exec (.shuntLimit x) s = .next (sensed s x) := by
  refine if_neg ?_
  rw [sensed_state]
  exact fun h => h.elim h1 h2

theorem exec_limitRecovery_limit (gateUp : Bool) (h : fpcState s x.group.val = 3) :
    exec (.limitRecovery ⟨x, gateUp⟩) s = .next (fpcTo (sensed s x) x.group.val (if gateUp then 2 else 1)) :=
  if_pos ((sensed_state s x).trans h)

theorem exec_limitRecovery_keeps (gateUp : Bool) (h : fpcState s x.group.val ≠ 3) :
    exec (.limitRecovery ⟨x, gateUp⟩) s = .next (sensed s x) := if_neg fun hr => h ((sensed_state s x).symm.trans hr)

theorem exec_fastTrip_trips (h : fpcState s x.group.val = 1 ∨ fpcState s x.group.val = 2 ∨ fpcState s x.group.val = 3) :
    exec (.fastTrip x) s = .next (fpcFault (sensed s x) x.group.val true) := by
  refine if_pos ?_
  rwa [sensed_state]

theorem exec_fastTrip_keeps (h : fpcState s x.group.val = 0 ∨ 3 < fpcState s x.group.val) :
    exec (.fastTrip x) s = .next (sensed s x) := by
  refine if_neg ?_
  rw [sensed_state]
  omega

end

/-! ### Timers (R279, R280) -/

theorem exec_limitTimer_limit (g : Fin 6) (s : State) (h : fpcState s g.val = 3) :
    exec (.limitTimer g) s = .next (fpcFault s g.val false) := if_pos h

theorem exec_fpcRetry_waits (g : Fin 6) (s : State) (h : fpcState s g.val = 4) (hr : s.fld (F.FPC_STATUS_RETRIES g.val) ≤ 2) :
    exec (.fpcRetry g) s = .next
      ((fpcTo s g.val 1).setFld (F.FPC_STATUS_RETRIES g.val) (s.fld (F.FPC_STATUS_RETRIES g.val) + 1)) := if_pos ⟨h, hr⟩

theorem powerReady_iff (s : State) (l : Nat) : powerReady s l = true ↔
    5 < (s.thePlan.link l).fpg ∨ (s.fpg (s.thePlan.link l).fpg).settled = true := by
  simp [powerReady]

/-! ### The statement -/

/-- Settles O43: a group that is not ON changes its status and its stations' supply alone, a fault shows its kind besides, and in any
other state the row leaves the group as it is. -/
theorem fieldPower : Obligations.FieldPower := by
  refine ⟨fun g s ha => ⟨fun h => ?_, fun h => ?_, fun _ => exec_fpcCtrlEn_open g false s ha, ?_, fun h hen => ?_, fun h => ?_⟩,
    fun g uv s => ⟨sensed s ⟨g, uv⟩, rfl, fun h => ?_, exec_gateAtVddfp_keeps ⟨g, uv⟩, fun h => ?_, fun h => ?_,
      exec_shuntLimit_keeps ⟨g, uv⟩, fun up h => ?_, exec_limitRecovery_keeps ⟨g, uv⟩,
      fun h => exec_fastTrip_trips ⟨g, uv⟩ (Or.inr h), exec_fastTrip_keeps ⟨g, uv⟩, fun h => ?_⟩,
    fun g s => ⟨fun h => if_neg h, fun h => ?_, fun h hr => ?_, fun h => if_neg fun hw => h hw.1, fun h => if_pos h,
      fun h => ⟨if_neg h, if_neg h⟩, fun h => if_pos h⟩,
    fun l s => powerReady_iff s l.val⟩
  · exact ⟨_, exec_fpcCtrlEn_open g true s ha, fpcEn_on_starts s g.val h⟩
  · exact ⟨_, exec_fpcCtrlEn_open g false s ha, fpcEn_off_stops s g.val h⟩
  · rw [fpcEn_off, State.fpg_setFpg]
  · exact ⟨_, exec_fpcClr_open g s ha, fpcClr_locked s g.val h hen⟩
  · rw [exec_fpcClr_open g s ha, fpcClr_keeps s g.val h]
  · have hoff := sensed_ramp_notOn ⟨g, uv⟩ h
    exact ⟨_, exec_gateAtVddfp_ramp ⟨g, uv⟩ h, fpcTo_state hoff 2 (by decide),
      fpcTo_fld_other hoff 2 _ (by simp only [R.FPC_STATUS, R.FPC_SENSE]; omega), fpcTo_links hoff 2⟩
  · rw [exec_shuntLimit_limits ⟨g, uv⟩ (Or.inl h), fpcTo_fed _ _ 3 (sensed_ramp_notOn ⟨g, uv⟩ h) (by decide)]
  · rw [exec_shuntLimit_limits ⟨g, uv⟩ (Or.inr h), fpcTo_limit_on _ _ ((sensed_state s ⟨g, uv⟩).trans h)]
    rfl
  · have hoff : fpcState (sensed s ⟨g, uv⟩) g.val ≠ 2 := by rw [sensed_state s ⟨g, uv⟩, h]; decide
    rw [exec_limitRecovery_limit ⟨g, uv⟩ up h, fpcTo_fed _ _ _ hoff (by cases up <;> decide)]
  · obtain ⟨hstate, hfault, hfast, htimeout, hlinks⟩ := fpcFault_notOn (sensed s ⟨g, uv⟩) g true (sensed_ramp_notOn ⟨g, uv⟩ h)
    exact ⟨_, exec_fastTrip_trips ⟨g, uv⟩ (Or.inl h), hstate.trans (sensed_faultState s ⟨g, uv⟩), hfault, hfast, htimeout, hlinks⟩
  · obtain ⟨hstate, hfault, hfast, htimeout, hlinks⟩ := fpcFault_notOn s g false (by rw [h]; decide)
    exact ⟨_, exec_limitTimer_limit g s h, hstate, hfault, htimeout, hfast, hlinks⟩
  · have hoff : fpcState s g.val ≠ 2 := by rw [h]; decide
    refine ⟨_, exec_fpcRetry_waits g s h hr, (fpcState_setRetries _ g.val _).trans (fpcTo_state hoff 1 (by decide)), ?_,
      fpcTo_links hoff 1⟩
    rw [State.fld_setFld _ _ _ (by simp)]
    exact Nat.mod_eq_of_lt (by simp only; omega)

end Sys2Proof.Machine
end

section
/-! Acknowledgements of readmitted stations, the counters of a link and pattern tests (R268, R275 to R277, R281). -/

namespace Sys2Proof.Machine

/-! ### Acknowledgements (R268) -/

theorem releaseGate_late (s : State) (l st : Nat) (h : s.cyc.deadline = true) : releaseGate s l st = s := by
  simp [releaseGate, h]

theorem stnAck_taken (s : State) (l st p : Nat) (h3 : (s.stn l st).state = 3) (hp : has (s.stn l st).acks p = true)
    (hd : s.cyc.deadline = true) :
    stnAck s l st p = s.setStn l st { s.stn l st with acks := dropFrom (s.stn l st).acks p } :=
  (if_pos ⟨h3, hp⟩).trans (releaseGate_late _ l st hd)

theorem stnAck_none (s : State) (l st p : Nat) (hp : has (s.stn l st).acks p = false) : stnAck s l st p = s := by
  simp [stnAck, hp]

theorem exec_sflnResume_open (l : Fin 24) (st : Fin 32) (p : Fin 64) (s : State) (ha : s.accepts (R.SFL_RESUME l.val) = true) :
    exec (.sflnResume l st p) s = .next (stnAck s l.val st.val p.val) := atReg_open s _ _ _ ha

/-! ### Counters (R281) -/

theorem regReset_linkCounter : ∀ l < 24, ∀ k < 9, regReset (R.SFL_RX_GOOD l + 4 * k) = 0 := by decide

theorem sflCntClr_counter (s : State) (l k : Nat) (hl : l < 24) (hk : k < 9) : (sflCntClr s l).reg (R.SFL_RX_GOOD l + 4 * k) = 0 := by
  have hin : within (R.SFL_RX_GOOD l + 4 * k) (R.SFL_RX_GOOD l) 0x24 = true := by
    simp only [within, Bool.and_eq_true, decide_eq_true_eq]; omega
  rw [sflCntClr, State.reg_resetRegs, if_pos hin, regReset_linkCounter l hl k hk]

theorem sflCntClr_other (s : State) (l a : Nat) (h : a < R.SFL_RX_GOOD l ∨ R.SFL_RX_GOOD l + 0x24 ≤ a) :
    (sflCntClr s l).reg a = s.reg a := by
  have hout : ¬within a (R.SFL_RX_GOOD l) 0x24 = true := by
    simp only [within, Bool.and_eq_true, decide_eq_true_eq]; omega
  rw [sflCntClr, State.reg_resetRegs, if_neg hout]

theorem exec_sflnCntClr_open (l : Fin 24) (s : State) (ha : s.accepts (R.SFL_CNT_CLR l.val) = true) :
    exec (.sflnCntClr l) s = .next (sflCntClr s l.val) := atReg_open s _ _ _ ha

/-! ### The start of a test (R275, R276) -/

/-- What R275 asks of a start. -/
theorem testAllowed_needs (s : State) (l p c m st : Nat) (h : testAllowed s l p c m st = true) :
    p < 7 ∧ m < 3 ∧ ¬(c = 1 ∧ p = 6) ∧ (m = 1 → s.service = true ∧ s.linkState l = 4 ∧ s.stnRun l st = true) ∧
      (m ≠ 1 → s.linkState l = 0 ∨ s.service = true ∧ s.linkState l = 4) := by
  simp only [testAllowed, Bool.and_eq_true, decide_eq_true_eq] at h
  obtain ⟨⟨⟨hp, hm, hcoded⟩, -⟩, hmode⟩ := h
  refine ⟨hp, hm, hcoded, fun h1 => ?_, fun h1 => ?_⟩
  · simp only [if_pos h1, Bool.and_eq_true, decide_eq_true_eq] at hmode
    obtain ⟨⟨⟨hservice, hrun⟩, hstn⟩, -⟩ := hmode
    exact ⟨hservice, hrun, hstn⟩
  · simpa only [if_neg h1, Bool.or_eq_true, Bool.and_eq_true, decide_eq_true_eq] using hmode

/-- A start with the settings of `SFLn_PAT_CTRL` is permitted. -/
def patAllowed (s : State) (l : Nat) : Bool :=
  testAllowed s l (s.fld (F.SFL_PAT_CTRL_PATTERN l)) (s.fld (F.SFL_PAT_CTRL_CODED l)) (s.fld (F.SFL_PAT_CTRL_LOOP l))
    (s.fld (F.SFL_PAT_CTRL_STATION l))

theorem patStart_refused (s : State) (l : Nat) (h : patAllowed s l = false) :
    patStart s l none = s.setFld (F.SFL_PAT_STATUS_REFUSED l) 1 := by
  unfold patStart
  exact if_neg (ne_true_of_eq_false h)

/-- A permitted start enters TEST behind the status of a test that begins: ACTIVE, and no SYNC. -/
theorem patStart_enters (s : State) (l : Nat) (h : patAllowed s l = true) : ∃ (u : State) (x : Lnk),
    patStart s l none = linkTo (State.setLnk ((u.setFld (F.SFL_PAT_STATUS_ACTIVE l) 1).setFld (F.SFL_PAT_STATUS_SYNC l) 0) l x) l 5 := by
  unfold patStart
  dsimp only
  rw [if_pos (show testAllowed s l _ _ _ _ = true from h)]
  exact ⟨_, _, rfl⟩

/-- The entry into another state leaves the status of the test. -/
theorem linkTo_patStatus (s : State) (l : Fin 24) (k : Nat) :
    (linkTo s l.val k).reg (R.SFL_PAT_STATUS l.val) = s.reg (R.SFL_PAT_STATUS l.val) := by
  rw [linkTo_reg s l.val k _ l.isLt (by simp only [R.SFL_PAT_STATUS]; omega) (by simp only [R.SFL_PAT_STATUS]; omega),
    State.reg_setFld_ne _ _ _ _ (by simp only [R.SFL_PAT_STATUS, R.SFL_STATUS]; omega)]

theorem patStart_test (s : State) (l : Fin 24) (h : patAllowed s l.val = true) :
    (patStart s l.val none).linkState l.val = 5 ∧ (patStart s l.val none).flag (F.SFL_PAT_STATUS_ACTIVE l.val) = true := by
  obtain ⟨u, x, hstart⟩ := patStart_enters s l.val h
  rw [hstart]
  refine ⟨linkTo_linkState _ _ _ l.isLt (by decide), ?_⟩
  rw [State.flag_congr (f := F.SFL_PAT_STATUS_ACTIVE l.val) (linkTo_patStatus _ l 5), State.flag, State.fld_setLnk,
    State.fld_setFld_below _ _ _ _ (by simp) (by simp) (by simp), State.fld_setFld _ _ _ (by simp)]
  rfl

theorem exec_patStart_open (l : Fin 24) (v : Word) (s : State) (ha : s.accepts (R.SFL_PAT_CTRL l.val) = true) :
    exec (.patStart l v) s = .next (patStart (patSettings s l.val v) l.val none) := atReg_open s _ _ _ ha

/-! ### The checker (R276) -/

section
variable {s : State} {l : Nat} (hsync : s.flag (F.SFL_PAT_STATUS_SYNC l) = false)
include hsync

/-- The 64th right bit in a row synchronises the checker. -/
theorem patBit_synchronises (h : 63 ≤ (s.lnk l).patRun) : (patBit l s true).flag (F.SFL_PAT_STATUS_SYNC l) = true := by
  have hrun : 64 ≤ (s.lnk l).patRun + 1 := by omega
  simp only [patBit, hsync, Bool.true_or, if_true, Bool.not_false, if_pos hrun]
  rw [State.flag_setFld _ _ _ (by simp)]
  rfl

theorem patBit_counts (h : (s.lnk l).patRun < 63) :
    patBit l s true = s.setLnk l { s.lnk l with patRun := (s.lnk l).patRun + 1, patWin := [] } := by
  have hrun : ¬64 ≤ (s.lnk l).patRun + 1 := by omega
  simp only [patBit, hsync, Bool.true_or, if_true, Bool.not_false, if_neg hrun]

theorem patBit_restarts (ht : (s.lnk l).testLoop ≠ 0) :
    patBit l s false = s.setLnk l { s.lnk l with patRun := 0, patWin := [] } := by
  simp [patBit, hsync, ht]

end

/-- A wrong bit of a synchronised stream in the link's window of 256 and its counters. -/
def patWrong (s : State) (l : Nat) : State :=
  let s1 := s.setLnk l { s.lnk l with
    patRun := 0, patWin := true :: (s.lnk l).patWin.take 255, patCnt := (s.lnk l).patCnt + 1 }
  (if ((s.lnk l).patCnt + 1) % 1024 = 0 then s1.countReg (R.SFL_PAT_BITS l) else s1).countReg (R.SFL_PAT_ERR l)

/-- Of the registers, the counters of bits and errors alone may differ. -/
theorem patWrong_status (s : State) (l : Nat) : (patWrong s l).reg (R.SFL_PAT_STATUS l) = s.reg (R.SFL_PAT_STATUS l) := by
  unfold patWrong
  dsimp only
  rw [State.reg_countReg_ne _ _ _ (by simp)]
  split
  · exact State.reg_countReg_ne _ _ _ (by simp)
  · rfl

/-- A counter counts from what it reads. -/
theorem State.reg_countReg_congr {s t : State} {a : Nat} (h : t.reg a = s.reg a) : (t.countReg a).reg a = (s.countReg a).reg a := by
  have hfld : t.fld ⟨a, 0, 32⟩ = s.fld ⟨a, 0, 32⟩ := State.fld_congr h
  unfold State.countReg State.count
  rw [hfld]
  split
  · rw [State.setFld, State.setFld, State.reg_setReg, State.reg_setReg, h]
  · exact h

theorem patWrong_errors (s : State) (l : Nat) :
    (patWrong s l).reg (R.SFL_PAT_ERR l) = (s.countReg (R.SFL_PAT_ERR l)).reg (R.SFL_PAT_ERR l) := by
  unfold patWrong
  dsimp only
  refine State.reg_countReg_congr ?_
  split
  · exact State.reg_countReg_ne _ _ _ (by simp)
  · rfl

/-- The 16th wrong bit among 256 loses synchronisation. -/
theorem patBit_wrong (s : State) (l : Nat) (hsync : s.flag (F.SFL_PAT_STATUS_SYNC l) = true) (ht : (s.lnk l).testLoop ≠ 0) :
    patBit l s false = if 15 ≤ (((s.lnk l).patWin.take 255).filter id).length then
      sflEvent (((patWrong s l).setFld (F.SFL_PAT_STATUS_SYNC l) 0).setFld (F.SFL_PAT_STATUS_SYNC_LOST l) 1) l 3
      else patWrong s l := by
  simp [patBit, patWrong, hsync, ht]

theorem patBit_loses (s : State) (l : Fin 24) (hsync : s.flag (F.SFL_PAT_STATUS_SYNC l.val) = true)
    (ht : (s.lnk l.val).testLoop ≠ 0) (h : 15 ≤ (((s.lnk l.val).patWin.take 255).filter id).length) :
    (patBit l.val s false).flag (F.SFL_PAT_STATUS_SYNC l.val) = false ∧
      (patBit l.val s false).flag (F.SFL_PAT_STATUS_SYNC_LOST l.val) = true := by
  have hevent : ∀ t : State, (sflEvent t l.val 3).reg (R.SFL_PAT_STATUS l.val) = t.reg (R.SFL_PAT_STATUS l.val) :=
    fun t => sflEvent_reg t l.val 3 _ l.isLt (by decide) (by simp only [R.SFL_PAT_STATUS]; omega)
  rw [patBit_wrong s l.val hsync ht, if_pos h, State.flag_congr (f := F.SFL_PAT_STATUS_SYNC l.val) (hevent _),
    State.flag_congr (f := F.SFL_PAT_STATUS_SYNC_LOST l.val) (hevent _)]
  constructor
  · rw [State.flag, State.fld_setFld_below _ _ _ _ (by simp) (by simp) (by simp), State.fld_setFld _ _ _ (by simp)]; rfl
  · rw [State.flag_setFld _ _ _ (by simp)]; rfl

theorem patBit_compares (s : State) (l : Nat) (hsync : s.flag (F.SFL_PAT_STATUS_SYNC l) = true) (ht : (s.lnk l).testLoop ≠ 0)
    (h : (((s.lnk l).patWin.take 255).filter id).length < 15) :
    (patBit l s false).flag (F.SFL_PAT_STATUS_SYNC l) = true ∧
      (patBit l s false).reg (R.SFL_PAT_ERR l) = (s.countReg (R.SFL_PAT_ERR l)).reg (R.SFL_PAT_ERR l) := by
  rw [patBit_wrong s l hsync ht, if_neg (by omega)]
  exact ⟨(State.flag_congr (f := F.SFL_PAT_STATUS_SYNC l) (patWrong_status s l)).trans hsync, patWrong_errors s l⟩

/-! ### The end of a test (R276) -/

theorem exec_patStop_open (l : Fin 24) (s : State) (ha : s.accepts (R.SFL_PAT_CTRL l.val) = true) :
    exec (.patStop l) s = .next (patStop s l.val) := atReg_open s _ _ _ ha

theorem patStop_elsewhere (s : State) (l : Nat) (h : s.linkState l ≠ 5) : patStop s l = s := if_pos h

theorem patStop_near (s : State) (l : Nat) (h5 : s.linkState l = 5) (h : (s.lnk l).testLoop ≠ 1) : patStop s l = leaveTest s l := by
  simp [patStop, h5, h]

/-- In far-end mode TEST LOOP_OFF goes out first. -/
theorem patStop_far (s : State) (l : Nat) (h5 : s.linkState l = 5) (h : (s.lnk l).testLoop = 1) : patStop s l =
    leaveTest (sendFrame s l (s.lnk l).testStn 7 2 ([2, 0, 0, 0] ++ leBytes 4 (s.fld (F.SFL_PAT_CTRL_LOOP_MS l))) none) l := by
  simp [patStop, h5, h]

/-! ### The statement -/

/-- Settles O41: a clear touches the nine counters alone, a start is decided by R275 and enters TEST as every link does, and each bit of
the stream is one branch of the checker. -/
theorem linkRegisters : Obligations.LinkRegisters := by
  refine ⟨fun l st p s ha => ⟨fun h3 hp hd => ?_, fun hp => ?_⟩, fun l s ha => ?_, exec_patStart_open,
    fun l s h => patStart_refused s l.val h, fun l s h => patStart_test s l h, testAllowed_needs,
    fun l s => ⟨patBit_synchronises, fun hs h => ?_, fun hs ht => ?_, fun hs ht => ⟨patBit_loses s l hs ht,
      patBit_compares s l.val hs ht⟩⟩,
    fun l s ha => ⟨fun h => ?_, fun h5 h => ?_, fun h5 h => ?_⟩⟩
  · rw [exec_sflnResume_open l st p s ha, stnAck_taken s l.val st.val p.val h3 hp hd]
  · rw [exec_sflnResume_open l st p s ha, stnAck_none s l.val st.val p.val hp]
  · exact ⟨_, exec_sflnCntClr_open l s ha, fun k hk => sflCntClr_counter s l.val k l.isLt hk, rfl, rfl,
      fun a h => sflCntClr_other s l.val a h⟩
  · rw [patBit_counts hs h, State.flag, State.fld_setLnk, State.lnk_setLnk]
    exact ⟨hs, rfl⟩
  · rw [patBit_restarts hs ht, State.flag, State.fld_setLnk, State.lnk_setLnk]
    exact ⟨hs, rfl⟩
  · rw [exec_patStop_open l s ha, patStop_elsewhere s l.val h]
  · rw [exec_patStop_open l s ha, patStop_near s l.val h5 h]
  · rw [exec_patStop_open l s ha, patStop_far s l.val h5 h]

end Sys2Proof.Machine
end

section
/-! Polls and acyclic requests (R264, R270 to R274). -/

namespace Sys2Proof.Machine

/-! ### Frames to a station (R225, R228) -/

/-- A frame to a station changes its link's controller alone, and there no acyclic request. -/
theorem sendFrame_link (s : State) (l st ty ch : Nat) (p : List Byte) (seq : Option Nat) : sendFrame s l st ty ch p seq = s ∨
    ∃ x, sendFrame s l st ty ch p seq = s.setLnk l x ∧ x.acyq = (s.lnk l).acyq := by
  unfold sendFrame
  split
  · exact Or.inl rfl
  · refine Or.inr ⟨_, rfl, ?_⟩
    dsimp only
    split
    · rfl
    · split <;> rfl

theorem sendFrame_mem (s : State) (l st ty ch : Nat) (p : List Byte) (seq : Option Nat) : (sendFrame s l st ty ch p seq).mem = s.mem := by
  obtain h | ⟨x, h, -⟩ := sendFrame_link s l st ty ch p seq
  · rw [h]
  · rw [h, State.setLnk_mem]

theorem sendFrame_regs (s : State) (l st ty ch : Nat) (p : List Byte) (seq : Option Nat) :
    (sendFrame s l st ty ch p seq).regs = s.regs := by
  obtain h | ⟨x, h, -⟩ := sendFrame_link s l st ty ch p seq
  · rw [h]
  · rw [h, State.setLnk_regs]

theorem sendFrame_acyq (s : State) (l st ty ch : Nat) (p : List Byte) (seq : Option Nat) :
    ((sendFrame s l st ty ch p seq).lnk l).acyq = (s.lnk l).acyq := by
  obtain h | ⟨x, h, hq⟩ := sendFrame_link s l st ty ch p seq
  · rw [h]
  · rw [h, State.lnk_setLnk, hq]

/-! ### Polls (R264) -/

/-- A poll that is due goes out, and its answer is awaited. -/
def polled (s : State) (l st : Nat) : State :=
  (sendFrame s l st 6 2 [1, 0, 0, 0] none).setStn l st
    { (sendFrame s l st 6 2 [1, 0, 0, 0] none).stn l st with pollWait := true, pollCnt := 0 }

theorem exec_diagPoll_sends (l : Fin 24) (st : Fin 32) (c : StnCfg) (s : State) (hc : s.thePlan.station l.val st.val = some c)
    (h : s.linkState l.val = 4 ∧ freeSpan s l.val = true ∧ (s.stn l.val st.val).state = 3 ∧ c.nIn = 0 ∧
      (s.stn l.val st.val).pollWait = false ∧ s.fld (F.SFL_DIAG_POLL_CYCLES l.val) ≤ (s.stn l.val st.val).pollCnt) :
    exec (.diagPoll l st) s = .next (polled s l.val st.val) := by
  show execDiagPoll l st s = _
  unfold execDiagPoll
  rw [hc]
  exact if_pos h

theorem polled_awaits (s : State) (l st : Nat) : ((polled s l st).stn l st).pollWait = true ∧ ((polled s l st).stn l st).pollCnt = 0 ∧
    (polled s l st).mem = s.mem ∧ (polled s l st).regs = s.regs := by
  rw [polled, State.stn_setStn, State.setStn_mem, State.setStn_regs, sendFrame_mem, sendFrame_regs]
  exact ⟨rfl, rfl, rfl, rfl⟩

/-- A further miss of a station in RUN. -/
def missCounted (s : State) (l st : Nat) : State := s.setStn l st { s.stn l st with miss := (s.stn l st).miss + 1 }

theorem stnMiss_counts (s : State) (l st cause : Nat) (h : (s.stn l st).miss < 2) : stnMiss s l st cause = missCounted s l st :=
  if_pos (by omega)

theorem stnMiss_lost (s : State) (l st cause : Nat) (h : 2 ≤ (s.stn l st).miss) :
    stnMiss s l st cause = stnOut (missCounted s l st) l st 4 cause := if_neg (by omega)

/-- No answer to the poll is awaited any more. -/
def unpolled (s : State) (l st : Nat) : State := s.setStn l st { s.stn l st with pollWait := false }

theorem unpolled_stn (s : State) (l st : Nat) : (unpolled s l st).stn l st = { s.stn l st with pollWait := false } :=
  State.stn_setStn _ _ _ _

theorem missCounted_unpolled (s : State) (l st : Nat) : (missCounted (unpolled s l st) l st).stn l st =
    { s.stn l st with pollWait := false, miss := (s.stn l st).miss + 1 } := by
  rw [missCounted, State.stn_setStn, unpolled_stn]

theorem exec_diagPollTimeout_misses (l : Fin 24) (st : Fin 32) (s : State) (h3 : (s.stn l.val st.val).state = 3)
    (hw : (s.stn l.val st.val).pollWait = true) :
    exec (.diagPollTimeout l st) s = .next (stnMiss (unpolled s l.val st.val) l.val st.val 2) := if_pos ⟨h3, hw⟩

/-! ### Grants (R271) -/

/-- What goes before the grants of a slot: the frames of the link's admissions (R263, R497). -/
def slotBegun (s : State) (l : Nat) : State := takenMeasure (eachNat (takenAdmit l) (pumpLink s l) (s.stnList l)) l

theorem exec_acyclicSlot_free (l : Fin 24) (s : State) (h4 : s.linkState l.val = 4) (hf : freeSpan s l.val = true) :
    exec (.acyclicSlot l) s = .next (if exchanging (slotBegun s l.val) l.val then slotBegun s l.val
      else acyMany (slotBegun s l.val) l.val ((slotBegun s l.val).fld (F.SFL_ACY_CFG_BURST l.val))) :=
  if_neg (by simp [h4, hf])

/-! ### ACYs without an answer (R272) -/

/-- An ACY that is sent again counts in its entry, and no other entry changes. -/
theorem acyAgain_counts (s : State) (l st seq k : Nat) (a : Acy)
    (hk : acyAt s l (fun a => decide (a.station = st ∧ a.state = acyGranted ∧ a.seq = seq)) = some k)
    (ha : (s.lnk l).acyq[k]? = some a) :
    (acyAgain s l st seq).mem = s.mem ∧ ((acyAgain s l st seq).lnk l).acyq = (s.lnk l).acyq.set k { a with sent := a.sent + 1 } := by
  unfold acyAgain
  simp only [hk, ha, State.setLnk_mem, sendFrame_mem, State.lnk_setLnk, sendFrame_acyq, and_self]

section
variable {l : Fin 24} {st : Fin 32} {k : Nat} {a : Acy} {s : State}
  (hk : acyAt s l.val (fun a => decide (a.station = st.val ∧ a.state = acyGranted)) = some k)
  (ha : (s.lnk l.val).acyq[k]? = some a) (hd : (s.lnk l.val).due.contains (.again st.val a.seq) = false)
include hk ha hd

theorem exec_acrTimeout_again (h : a.sent < 3) :
    exec (.acrTimeout l st) s = .next (askFrame s l.val (.again st.val a.seq)) := by
  show Host.Outcome.next (acrTimeout s l.val st.val) = _
  simp only [acrTimeout, hk, ha, hd, Bool.false_eq_true, if_false, if_pos h]

theorem exec_acrTimeout_ends (h : 3 ≤ a.sent) :
    exec (.acrTimeout l st) s = .next (acyComplete s l.val k St.timeout 0 []) := by
  have hout : ¬a.sent < 3 := by omega
  show Host.Outcome.next (acrTimeout s l.val st.val) = _
  simp only [acrTimeout, hk, ha, hd, Bool.false_eq_true, if_false, if_neg hout]

end

/-- A WAITING entry is due again. -/
def dueAgain (a : Acy) : Acy := if a.state = acyWaiting then { a with due := true } else a

theorem dueAgain_waiting (a : Acy) (h : a.state = acyWaiting) : dueAgain a = { a with due := true } := if_pos h

/-- The entry at a position of the queue is due again, where it is WAITING. -/
def repeatDue (s : State) (l k : Nat) : State := s.setLnk l { s.lnk l with acyq := (s.lnk l).acyq.modify k dueAgain }

theorem repeatDue_acyq (s : State) (l k : Nat) : ((repeatDue s l k).lnk l).acyq = (s.lnk l).acyq.modify k dueAgain := by
  rw [repeatDue, State.lnk_setLnk]

theorem exec_acyRepeatDue_eq (l : Fin 24) (k : Fin 64) (s : State) :
    exec (.acyRepeatDue l k) s = .next (repeatDue s l.val k.val) := rfl

theorem exec_acyRequestTimeout_at (l : Fin 24) (k : Fin 64) (a : Acy) (s : State) (ha : (s.lnk l.val).acyq[k.val]? = some a) :
    exec (.acyRequestTimeout l k) s =
      if a.state = acyQueued then .next s else .next (acyComplete s l.val k.val St.timeout 0 []) := by
  show execAcyRequestTimeout l k s = _
  unfold execAcyRequestTimeout
  rw [ha]

/-! ### Submission and cancel (R270, R273, R274) -/

/-- The request of an accepted record. -/
def recordAcy (s : State) (r : Nat) : Acy := {
  owner := .record r, part := s.rd (r + 1) 1, station := s.rd r 1, tag := s.rd (r + 4) 4,
  state := acyQueued, seq := 0, sent := 0, due := false,
  payload := s.bytes (s.rd (r + 8) 4) (s.rd (r + 0xC) 2), rspMax := s.rd (r + 0xE) 2, rspAddr := s.rd (r + 0x10) 4 }

theorem acySubmitRecord_accepted (s : State) (l r : Nat) (hz : s.rd (r + 2) 2 = 0)
    (hok : acyRefuse s l (s.rd r 1) (s.rd (r + 1) 1) (s.rd (r + 0xC) 2) = St.ok) :
    acySubmitRecord s l r = acyPut s l (recordAcy s r) := by
  unfold acySubmitRecord
  simp only [hz, ne_eq, not_true_eq_false, if_false, hok, if_true]
  rfl

theorem exec_sflnAcySub_open (l : Fin 24) (a : Word) (s : State) (ha : s.accepts (R.SFL_ACY_SUB l.val) = true)
    (hin : inMgs a.toNat 32 32 = true) : exec (.sflnAcySub l a) s = .next (acySubmitRecord s l.val a.toNat) :=
  (atReg_open s _ _ _ ha).trans (congrArg Host.Outcome.next (if_pos hin))

theorem acyPut_acyq (s : State) (l : Nat) (a : Acy) : ((acyPut s l a).lnk l).acyq = (s.lnk l).acyq ++ [a] := by
  rw [acyPut, State.lnk_setLnk]

/-- The conditions of R270 for a request that is accepted. -/
theorem acyRefuse_ok (s : State) (l st p n : Nat) (h : acyRefuse s l st p n = St.ok) :
    (s.lnk l).acyq.length < 64 ∧ s.stnRun l st = true ∧ 6 ≤ n ∧ n ≤ 1024 ∧ (p = 0 ∨ p ∈ s.thePlan.stationOwners l st) := by
  unfold acyRefuse at h
  split at h
  · exact absurd h (by decide)
  · next hroom =>
    split at h
    · exact absurd h (by decide)
    · next hrun =>
      split at h
      · exact absurd h (by decide)
      · next howner =>
        split at h
        · exact absurd h (by decide)
        · next hlen =>
          refine ⟨by omega, by simpa using hrun, by omega, by omega, ?_⟩
          by_contra hp
          obtain ⟨hp0, hnot⟩ := not_or.mp hp
          exact howner ⟨hp0, fun ⟨hown, _⟩ => hnot (List.contains_iff_mem.mp hown)⟩

theorem exec_sflnAcyCancel_open (l : Fin 24) (tag : Word) (s : State) (ha : s.accepts (R.SFL_ACY_CANCEL l.val) = true) :
    exec (.sflnAcyCancel l tag) s = .next (acyCancelTag s l.val tag.toNat) := atReg_open s _ _ _ ha

theorem acyCancelAt_some (s : State) (l k : Nat) (a : Acy) (ha : (s.lnk l).acyq[k]? = some a) : acyCancelAt s l (some k) =
    if a.state = acyQueued then (St.cancelled, acyComplete s l k St.cancelled 0 []) else (St.tooLate, s) := by
  unfold acyCancelAt
  simp only [ha]

/-! ### The statement -/

/-- Settles O40: frames leave memory, registers and the queue, so a poll and an ACY sent again change what their rows say; every other
row is the one branch that the entry's state and count choose. -/
theorem acyclicRequests : Obligations.AcyclicRequests := by
  refine ⟨fun l st c s hc h3 h4 hf hn hw hcnt => ?_, fun l st s h3 hw => ⟨fun h => ?_, fun h => ?_⟩, fun l s h4 hf => ?_,
    fun l s h => ?_, fun l st k a s hk ha hd => ⟨fun h hf => ?_, fun h hf => ?_, fun h => exec_acrTimeout_ends hk ha hd h⟩,
    fun l st seq k a s hk ha => acyAgain_counts s l st seq k a hk ha, fun l k s => ?_, fun l k a s ha => ⟨fun h => ?_, fun h => ?_⟩,
    fun l a s ha hin hz hok => ?_, acyRefuse_ok, exec_sflnAcyCancel_open,
    fun s l k a ha => ⟨fun h => ?_, fun h => ?_, rfl⟩⟩
  · exact ⟨_, exec_diagPoll_sends l st c s hc ⟨h4, hf, h3, hn, hw, hcnt⟩, polled_awaits s l.val st.val⟩
  · have hmiss : ((unpolled s l.val st.val).stn l.val st.val).miss < 2 := by rwa [unpolled_stn]
    exact ⟨_, (exec_diagPollTimeout_misses l st s h3 hw).trans (congrArg Host.Outcome.next (stnMiss_counts _ _ _ 2 hmiss)),
      missCounted_unpolled s l.val st.val, rfl, rfl⟩
  · have hmiss : 2 ≤ ((unpolled s l.val st.val).stn l.val st.val).miss := by rwa [unpolled_stn]
    exact ⟨_, missCounted_unpolled s l.val st.val, rfl, rfl,
      (exec_diagPollTimeout_misses l st s h3 hw).trans (congrArg Host.Outcome.next (stnMiss_lost _ _ _ 2 hmiss))⟩
  · have hslot := exec_acyclicSlot_free l s h4 hf
    exact ⟨slotBegun s l.val, rfl, fun hx => hslot.trans (congrArg Host.Outcome.next (if_pos hx)),
      fun hx => hslot.trans (congrArg Host.Outcome.next (if_neg (ne_true_of_eq_false hx)))⟩
  · exact if_pos h
  · rw [exec_acrTimeout_again hk ha hd h, askFrame, if_pos hf]
    rfl
  · refine ⟨_, (exec_acrTimeout_again hk ha hd h).trans (congrArg Host.Outcome.next (askFrame_waits s l.val _ hf hd)), ?_, ?_, rfl⟩ <;>
      rw [State.lnk_setLnk]
  · refine ⟨_, exec_acyRepeatDue_eq l k s, fun a ha hw => ?_, fun j hj => ?_, rfl, rfl⟩
    · rw [repeatDue_acyq, List.getElem?_modify_eq, ha, Option.map_eq_map, Option.map_some, dueAgain_waiting a hw]
    · rw [repeatDue_acyq, List.getElem?_modify_ne _ _ hj.symm]
  · rw [exec_acyRequestTimeout_at l k a s ha, if_pos h]
  · rw [exec_acyRequestTimeout_at l k a s ha, if_neg h]
  · exact ⟨_, (exec_sflnAcySub_open l a s ha hin).trans (congrArg Host.Outcome.next (acySubmitRecord_accepted s l.val a.toNat hz hok)),
      rfl, rfl, acyPut_acyq s l.val _⟩
  · rw [acyCancelAt_some s l k a ha, if_pos h]
  · rw [acyCancelAt_some s l k a ha, if_neg h]

end Sys2Proof.Machine
end

section
/-! A host command of the storage that ends (R34, R294, R295, R304, R360): what may start behind it. -/

namespace Sys2Proof.Machine

/-! ### NV_READ (R360, R363) -/

/-- A command that may start has not started before, so one that may wait for its unit starts as every other. -/
theorem onHostAgain_runs (s : State) (n op : Nat) (c : HostCmd) (k : HostCmd → State → State) (h : hostRuns s n op c) :
    onHostAgain s n (fun o => o == op) k = k c (markStarted s n) := by
  have hrun := onHost_runs s n op c k h
  obtain ⟨hfind, -, hmay, -⟩ := h
  have hstarted : c.started = false := by
    simp only [mayStart, Bool.and_eq_true, Bool.not_eq_true'] at hmay
    obtain ⟨hnot, -⟩ := hmay
    exact hnot
  simp only [onHostAgain, hfind, hstarted, Bool.false_and, Bool.false_eq_true, if_false, hrun]

theorem exec_nvRead_runs (s : State) (n : Nat) (c : HostCmd) (h : hostRuns s n 0x30 c) :
    exec (.nvRead n) s = .next (nvRead c (markStarted s n)) :=
  congrArg Host.Outcome.next (onHostAgain_runs s n 0x30 c nvRead h)

/-! ### A read of the NV area with a command of firmware behind it -/

/-- NV_READ of 4 bytes by partition 63, the first command of its ring. -/
def readCmd : HostCmd := ⟨1, 63, 0, ⟨0x30, 0, 7, 0, 0, 0, 0x1000, 4, 0⟩, false, none, false⟩

/-- The next command of the ring, which firmware serves: it may start as soon as the read before it has (R295). -/
def firmwareCmd : HostCmd := ⟨2, 63, 0, ⟨0x50, 0, 8, 0, 0, 0, 0, 0, 0⟩, false, none, false⟩

/-- The bring-up has ended, the NVR is ready, partition 63 has a window that admits writes and a completion ring with room, and
firmware's records stand from the start of MGS on (R288, R294, R304, R363, R421). -/
def servingRegs : List (Fld × Nat) :=
  [(F.RST_SEQ_STEP, 0), (F.NVR_STATUS_READY, 1), (F.HIF_WCTRL_VALID 63 0, 1), (F.HIF_WCTRL_LOG2 63 0, 24), (F.HIF_WCTRL_WR 63 0, 1),
   (F.HIF_RCTRL_ACT 63, 16), (F.HIF_RSIZE_LOG2 63 4, 4), (F.HIF_FWQ_BASE_ADDR, 0x10000000)]

/-- Partition 63, of the plan in force and with an NV area of 4 bytes, has fetched both commands. -/
def readThenFirmware : State :=
  servingRegs.foldl (fun t e => t.setFld e.1 e.2)
    { State.reset with
      plan := some { parts := [(63, { present := true })] }, nvAreas := [(63, 0, 0, 4)]
      hif := { cmds := [readCmd, firmwareCmd] } }

theorem readCmd_runs : hostRuns readThenFirmware 1 0x30 readCmd := by
  and_intros <;> decide

theorem readCmd_open : cplOpen readThenFirmware readCmd := by
  and_intros <;> decide

theorem readCmd_reaches : reaches readThenFirmware (poolBase + (nvArea readThenFirmware readCmd.part).1 + readCmd.a0) := by
  and_intros <;> decide

/-- With the read at its end the command behind it starts, and its record takes the first byte of its place in MGS. -/
theorem nvRead_places_record : (nvRead readCmd (markStarted readThenFirmware 1)).byte (0x10000000 + 64 * 2) = 0x50 := by decide

theorem record_blank : readThenFirmware.byte (0x10000000 + 64 * 2) = 0 := by decide

/-! ### The statement -/

/-- Refutes O35: an NV_READ that completes need not leave memory as it is, since it lets the command of firmware behind it in its ring
start, whose record the ring engine writes to MGS (R295, R304). -/
theorem not_hostDeviceCommands : ¬ Obligations.HostDeviceCommands := by
  rintro ⟨hrows, -⟩
  obtain ⟨-, -, -, -, -, -, -, hread, -⟩ := hrows 1 readCmd noData readThenFirmware
  obtain ⟨t, hstep, -, hmem, -⟩ := hread readCmd_open readCmd_runs (by decide) readCmd_reaches (by decide) (by decide) (by decide)
  obtain rfl : nvRead readCmd (markStarted readThenFirmware 1) = t :=
    Host.Outcome.next.inj ((exec_nvRead_runs _ 1 readCmd readCmd_runs).symm.trans hstep)
  have hbyte := nvRead_places_record
  rw [State.byte, hmem] at hbyte
  exact absurd (hbyte.symm.trans record_blank) (by decide)

end Sys2Proof.Machine
end

section
/-! Doorbells, rings and windows of the host interface (R289, R292, R293). -/

namespace Sys2Proof.Machine

/-! ### Bits of registers -/

/-- A bit that is set or cleared takes its value, and no other bit of its register changes. -/
theorem State.regBit_setRegBit (s : State) (a k j : Nat) (v : Bool) (hj : j < 32) :
    (s.setRegBit a k v).regBit a j = if j = k then v else s.regBit a j := by
  have hword : (word (2 ^ k)).getLsbD j = decide (j = k) := by
    rw [word, BitVec.getLsbD_ofNat, Nat.testBit_two_pow, decide_eq_true hj, Bool.true_and, decide_eq_decide]
    exact eq_comm
  rw [State.regBit, State.regBit, State.setRegBit, State.reg_setReg, BitVec.testBit_toNat, BitVec.testBit_toNat]
  cases v
  · simp only [Bool.false_eq_true, if_false, BitVec.getLsbD_and, BitVec.getLsbD_not, hword, decide_eq_true hj]
    by_cases h : j = k <;> simp [h]
  · simp only [if_true, BitVec.getLsbD_or, hword]
    by_cases h : j = k <;> simp [h]

theorem State.regBit_setRegBit_same (s : State) (a k : Nat) (v : Bool) (hk : k < 32) : (s.setRegBit a k v).regBit a k = v := by
  rw [s.regBit_setRegBit a k k v hk, if_pos rfl]

theorem State.regBit_setRegBit_ne (s : State) (a k j : Nat) (v : Bool) (hj : j < 32) (h : j ≠ k) :
    (s.setRegBit a k v).regBit a j = s.regBit a j := by
  rw [s.regBit_setRegBit a k j v hj, if_neg h]

theorem State.regBit_congr {s t : State} {a : Nat} (k : Nat) (h : t.reg a = s.reg a) : t.regBit a k = s.regBit a k := by
  rw [State.regBit, State.regBit, h]

/-- A field of one bit is 1 where its bit is. -/
theorem State.flag_oneBit (s : State) (a k : Nat) : s.flag ⟨a, k, 1⟩ = s.regBit a k := by
  show decide ((s.reg a).toNat / 2 ^ k % 2 ≠ 0) = (s.reg a).toNat.testBit k
  rw [Nat.testBit_eq_decide_div_mod_eq, decide_eq_decide]
  omega

/-- Only the host interface's own state is another. -/
def State.withHif (s : State) (x : Hif) : State := { s with hif := x }

theorem State.flag_withHif (s : State) (x : Hif) (f : Fld) : (s.withHif x).flag f = s.flag f := rfl

/-- A number that is added to a set is in it. -/
theorem has_addTo_same (l : List Nat) (k : Nat) : has (addTo l k) k = true := by
  have hmem : k ∈ addTo l k := by
    induction l with
    | nil => simp [addTo]
    | cons a l ih =>
      unfold addTo
      split
      · simp
      · split
        · next h => simp [h]
        · simp [ih]
  exact List.contains_iff_mem.mpr hmem

/-! ### The two bits of an enabled ring (R292) -/

/-- ACT of a ring is bit 8 and on of its partition's `HIF_RCTRL`. -/
theorem ringAct_regBit (s : State) (p k : Nat) (hk : k < 6) : ringAct s p k = s.regBit (R.HIF_RCTRL p) (8 + k) := by
  rw [ringAct, State.fld, Fld.of, Nat.testBit_mod_two_pow, Nat.testBit_div_two_pow, decide_eq_true hk, Bool.true_and, Nat.add_comm k 8,
    State.regBit]

theorem ringAct_congr {s t : State} {p : Nat} (k : Nat) (h : t.reg (R.HIF_RCTRL p) = s.reg (R.HIF_RCTRL p)) : ringAct t p k = ringAct s p k := by
  rw [ringAct, ringAct, State.fld_congr h]

theorem ringAct_setAct_same (s : State) (p k : Nat) (v : Bool) (hk : k < 6) : ringAct (setAct s p k v) p k = v := by
  rw [ringAct_regBit _ p k hk, setAct, State.regBit_setRegBit_same _ _ _ _ (by omega)]

theorem ringAct_setAct_ne (s : State) (p k j : Nat) (v : Bool) (hj : j < 6) (h : j ≠ k) : ringAct (setAct s p k v) p j = ringAct s p j := by
  rw [ringAct_regBit _ p j hj, ringAct_regBit s p j hj, setAct, State.regBit_setRegBit_ne _ _ _ _ _ (by omega) (by omega)]

/-- EN of a ring is another bit than ACT of any. -/
theorem ringAct_setEn (s : State) (p k j : Nat) (v : Bool) (hk : k < 6) (hj : j < 6) :
    ringAct (s.setRegBit (R.HIF_RCTRL p) k v) p j = ringAct s p j := by
  rw [ringAct_regBit _ p j hj, ringAct_regBit s p j hj, State.regBit_setRegBit_ne _ _ _ _ _ (by omega) (by omega)]

@[simp] theorem State.setReg_ring (s : State) (a : Nat) (v : Word) (p k : Nat) : (s.setReg a v).ring p k = s.ring p k := rfl
@[simp] theorem State.setFld_ring (s : State) (f : Fld) (v p k : Nat) : (s.setFld f v).ring p k = s.ring p k := rfl
@[simp] theorem State.setRing_mem (s : State) (p k : Nat) (x : Ring) : (s.setRing p k x).mem = s.mem := rfl

theorem State.ring_setRing (s : State) (p k : Nat) (x : Ring) : (s.setRing p k x).ring p k = x := by simp [State.ring, State.setRing]

/-! ### A ring error (R287, R298, R306) -/

/-- What `HIF_RING_ERR` captures of the first error. -/
def ringErrWord (ovf : Bool) (p k status : Nat) : Word := word (2 ^ 31 + (if ovf then 2 ^ 30 else 0) + p * 2 ^ 16 + k * 256 + status)

theorem ringErrWord_status (ovf : Bool) (p k status : Nat) (hs : status < 256) :
    F.HIF_RING_ERR_STATUS.of (ringErrWord ovf p k status) = status := by
  simp only [ringErrWord, word, Fld.of, BitVec.toNat_ofNat]
  split <;> omega

theorem ringErrWord_valid (ovf : Bool) (p k status : Nat) (hp : p < 64) (hk : k < 6) (hs : status < 256) :
    F.HIF_RING_ERR_VALID.of (ringErrWord ovf p k status) = 1 := by
  simp only [ringErrWord, word, Fld.of, BitVec.toNat_ofNat]
  split <;> omega

theorem ringErr_first (s : State) (p k status : Nat) (h : s.flag F.HIF_RING_ERR_VALID = false) :
    ringErr s p k status = evcEvent (devEvt (s.setReg R.HIF_RING_ERR (ringErrWord (s.flag F.HIF_RING_ERR_OVF) p k status)) 0) 227 := by
  simp [ringErr, h, ringErrWord]

theorem ringErr_first_reg (s : State) (p k status : Nat) (h : s.flag F.HIF_RING_ERR_VALID = false) :
    (ringErr s p k status).reg R.HIF_RING_ERR = ringErrWord (s.flag F.HIF_RING_ERR_OVF) p k status := by
  rw [ringErr_first s p k status h, evcEvent_reg_above _ _ _ (by decide) (by decide), devEvt_reg _ _ _ (by decide), State.reg_setReg]

/-- The first error is recorded with its status. -/
theorem ringErr_first_recorded (s : State) (p k status : Nat) (h : s.flag F.HIF_RING_ERR_VALID = false) (hp : p < 64) (hk : k < 6)
    (hs : status < 256) : (ringErr s p k status).fld F.HIF_RING_ERR_STATUS = status ∧
      (ringErr s p k status).flag F.HIF_RING_ERR_VALID = true := by
  simp only [State.flag, State.fld, ringErr_first_reg s p k status h, ringErrWord_status _ p k status hs,
    ringErrWord_valid _ p k status hp hk hs]
  decide

/-- An error that is recorded enables and disables no ring. -/
theorem ringErr_first_act (s : State) (p k status q j : Nat) (h : s.flag F.HIF_RING_ERR_VALID = false) :
    ringAct (ringErr s p k status) q j = ringAct s q j := by
  have habove : 0x40004280 ≤ R.HIF_RCTRL q := by simp only [R.HIF_RCTRL]; omega
  have hdev : R.HIF_RCTRL q ≠ R.HIF_DEV_EVT := by simp only [R.HIF_RCTRL, R.HIF_DEV_EVT]; omega
  have herr : R.HIF_RCTRL q ≠ R.HIF_RING_ERR := by simp only [R.HIF_RCTRL, R.HIF_RING_ERR]; omega
  apply ringAct_congr
  rw [ringErr_first s p k status h, evcEvent_reg_above _ _ _ (by decide) habove, devEvt_reg _ _ _ hdev, State.reg_setReg_ne _ _ _ _ herr]

/-! ### Doorbells (R293) -/

/-- The doorbell has raised its source and set the host's index. -/
def rung (s : State) (p : Nat) (v : Word) : State :=
  (aonEvent s 16).setRing p (v.toNat % 16) { (aonEvent s 16).ring p (v.toNat % 16) with hostIdx := v.toNat / 65536 }

theorem exec_doorbell_up (p : Fin 64) (v : Word) (s : State) (hup : hifUp s = true) :
    exec (.doorbell p v) s = .next (ringDoorbell s p.val v) := if_pos hup

theorem ringDoorbell_taken (s : State) (p : Nat) (v : Word) (h6 : v.toNat % 16 < 6) (hact : ringAct s p (v.toNat % 16) = true)
    (hsize : v.toNat / 65536 < ringSize s p (v.toNat % 16)) : ringDoorbell s p v = settle (rung s p v) :=
  if_neg (by simp [hact]; omega)

theorem rung_ring (s : State) (p : Nat) (v : Word) :
    (rung s p v).ring p (v.toNat % 16) = { s.ring p (v.toNat % 16) with hostIdx := v.toNat / 65536 } := by
  obtain ⟨r, h⟩ := aonEvent_only s 16
  rw [rung, State.ring_setRing, h]
  rfl

theorem rung_frame (s : State) (p : Nat) (v : Word) : (rung s p v).hif.cmds = s.hif.cmds ∧ (rung s p v).mem = s.mem := by
  obtain ⟨r, h⟩ := aonEvent_only s 16
  rw [rung, h]
  exact ⟨rfl, rfl⟩

theorem settle_idle (s : State) (h : s.hif.cmds = []) : settle s = s := by simp [settle, fwPump, h]

/-! ### Rings are enabled and disabled (R292) -/

theorem exec_ringEnable_up (p : Fin 64) (k : Fin 6) (s : State) (hup : hifUp s = true) :
    exec (.ringEnable p k) s = .next (ringEnable s p.val k.val) := if_pos hup

theorem exec_ringDisable_up (p : Fin 64) (k : Fin 6) (s : State) (hup : hifUp s = true) :
    exec (.ringDisable p k) s = .next (ringDisable s p.val k.val) := if_pos hup

/-- The ring is enabled anew, with its indices 0. -/
def ringOpened (s : State) (p k : Nat) : State :=
  setAct (((s.setRegBit (R.HIF_RCTRL p) k true).setFld (F.HIF_RIDX_IDX p k) 0).setRing p k {}) p k true

/-- An event ring begins with no event lost. -/
def ringBegun (s : State) (p k : Nat) : State :=
  if k = 5 then (ringOpened s p k).setFld (F.HIF_PSTAT_EVT_LOST p) 0 else ringOpened s p k

theorem ringEnable_opens (s : State) (p k : Nat) (hready : s.flag F.HIF_CTRL_READY = true) (hact : ringAct s p k = false)
    (hlo : 4 ≤ s.fld (F.HIF_RSIZE_LOG2 p k)) (hhi : s.fld (F.HIF_RSIZE_LOG2 p k) ≤ 12) (hcpl : k < 4 → ringAct s p 4 = true)
    (hwin : winOk s p (decide (4 ≤ k)) (ringBase s p k) (ringSize s p k * entryBytes k) = true) :
    ringEnable s p k = ringBegun s p k := by
  have hsize : decide (s.fld (F.HIF_RSIZE_LOG2 p k) < 4 ∨ 12 < s.fld (F.HIF_RSIZE_LOG2 p k)) = false :=
    decide_eq_false (by omega)
  have hfour : (decide (k < 4) && !ringAct s p 4) = false := by
    by_cases hk : k < 4
    · simp [hcpl hk]
    · simp [hk]
  unfold ringEnable
  simp only [hact, hready, hsize, hfour, hwin, Bool.false_eq_true, Bool.not_true, Bool.or_false, if_false]
  rfl

theorem ringEnable_refused (s : State) (p k : Nat) (hready : s.flag F.HIF_CTRL_READY = false) (hact : ringAct s p k = false) :
    ringEnable s p k = ringErr (s.setRegBit (R.HIF_RCTRL p) k true) p k St.badDescriptor := by
  unfold ringEnable
  simp only [hact, hready, Bool.false_eq_true, if_false, Bool.not_false, Bool.true_or, if_true]

theorem ringBegun_reg (s : State) (p k b : Nat) (h : b ≠ R.HIF_PSTAT p) : (ringBegun s p k).reg b = (ringOpened s p k).reg b := by
  unfold ringBegun
  split
  · exact State.reg_setFld_ne _ _ _ _ h
  · rfl

theorem ringBegun_act (s : State) (p k : Nat) (hk : k < 6) : ringAct (ringBegun s p k) p k = true := by
  have hreg : (ringBegun s p k).reg (R.HIF_RCTRL p) = (ringOpened s p k).reg (R.HIF_RCTRL p) :=
    ringBegun_reg s p k _ (by simp only [R.HIF_RCTRL, R.HIF_PSTAT]; omega)
  rw [ringAct_congr k hreg, ringOpened, ringAct_setAct_same _ p k true hk]

theorem ringBegun_idx (s : State) (p k : Nat) (hk : k < 6) : (ringBegun s p k).fld (F.HIF_RIDX_IDX p k) = 0 := by
  have hstat : R.HIF_RIDX p k ≠ R.HIF_PSTAT p := by simp only [R.HIF_RIDX, R.HIF_PSTAT]; omega
  have hctrl : R.HIF_RIDX p k ≠ R.HIF_RCTRL p := by simp only [R.HIF_RIDX, R.HIF_RCTRL]; omega
  rw [State.fld_congr (ringBegun_reg s p k _ hstat), ringOpened, setAct]
  refine (State.fld_setReg_ne _ (F.HIF_RIDX_IDX p k) _ _ hctrl).trans ?_
  exact State.fld_setFld (s.setRegBit (R.HIF_RCTRL p) k true) (F.HIF_RIDX_IDX p k) 0 (by simp)

theorem ringBegun_ring (s : State) (p k : Nat) : (ringBegun s p k).ring p k = {} := by
  unfold ringBegun ringOpened setAct State.setRegBit
  split <;> simp only [State.setFld_ring, State.setReg_ring, State.ring_setRing]

theorem ringBegun_mem (s : State) (p k : Nat) : (ringBegun s p k).mem = s.mem := by
  unfold ringBegun ringOpened setAct State.setRegBit
  split <;> simp only [State.setFld_mem, State.setReg_mem, State.setRing_mem]

/-- Neither bit of the ring is set any more. -/
def ringClosed (s : State) (p k : Nat) : State := setAct (s.setRegBit (R.HIF_RCTRL p) k false) p k false

theorem ringDisable_closes (s : State) (p k : Nat)
    (h : k = 4 → ringAct s p 4 = false ∨ s.fld (F.HIF_RCTRL_ACT p) % 16 = 0 ∧ s.fld (F.HIF_PSTAT_INFLIGHT p) = 0) :
    ringDisable s p k = settle (ringClosed s p k) := by
  refine if_neg fun ⟨hk, hact, hbusy⟩ => ?_
  rcases h hk with hoff | ⟨hrings, hnone⟩
  · rw [hact] at hoff
    exact absurd hoff (by decide)
  · omega

theorem ringDisable_busy (s : State) (p : Nat) (hact : ringAct s p 4 = true)
    (hbusy : s.fld (F.HIF_RCTRL_ACT p) % 16 ≠ 0 ∨ s.fld (F.HIF_PSTAT_INFLIGHT p) ≠ 0) :
    ringDisable s p 4 = ringErr s p 4 St.busy := if_pos ⟨rfl, hact, hbusy⟩

theorem ringClosed_act (s : State) (p k : Nat) (hk : k < 6) : ringAct (ringClosed s p k) p k = false :=
  ringAct_setAct_same _ p k false hk

theorem ringClosed_others (s : State) (p k j : Nat) (hk : k < 6) (hj : j < 6) (h : j ≠ k) :
    ringAct (ringClosed s p k) p j = ringAct s p j := by
  rw [ringClosed, ringAct_setAct_ne _ p k j false hj h, ringAct_setEn s p k j false hk hj]

/-! ### Windows (R289) -/

theorem exec_windowValid_up (p : Fin 64) (w : Fin 16) (v : Word) (s : State) (hup : hifUp s = true) :
    exec (.windowValid p w v) s = .next (windowWrite s p.val w.val v) := if_pos hup

/-- LOG2 and the rights of a window that is not valid take what is written. -/
def windowSet (s : State) (p w : Nat) (v : Word) : State :=
  ((s.setFld (F.HIF_WCTRL_LOG2 p w) (v.toNat % 32)).setFld (F.HIF_WCTRL_WR p w) (v.toNat / 128)).setFld (F.HIF_WCTRL_RD p w) (v.toNat / 64)

/-- VALID is the highest bit of its register: a field below leaves it. -/
theorem State.windowValid_setFld (s : State) (p w : Nat) (f : Fld) (v : Nat) (hreg : f.reg = R.HIF_WCTRL p w) (hlo : f.lo + f.w ≤ 31) :
    (s.setFld f v).flag (F.HIF_WCTRL_VALID p w) = s.flag (F.HIF_WCTRL_VALID p w) := by
  rw [State.flag, State.flag, s.fld_setFld_above f (F.HIF_WCTRL_VALID p w) v (by omega) hreg.symm hlo]

theorem windowSet_valid (s : State) (p w : Nat) (v : Word) :
    (windowSet s p w v).flag (F.HIF_WCTRL_VALID p w) = s.flag (F.HIF_WCTRL_VALID p w) := by
  rw [windowSet, State.windowValid_setFld _ p w (F.HIF_WCTRL_RD p w) _ rfl (by simp),
    State.windowValid_setFld _ p w (F.HIF_WCTRL_WR p w) _ rfl (by simp), State.windowValid_setFld _ p w (F.HIF_WCTRL_LOG2 p w) _ rfl (by simp)]

theorem windowSet_hif (s : State) (p w : Nat) (v : Word) : (windowSet s p w v).hif = s.hif := by
  rw [windowSet, State.setFld_hif, State.setFld_hif, State.setFld_hif]

/-- The window may become valid: VALID is written, with a size in range and a base aligned to it (R289; log entry 102). -/
def windowFits (s : State) (p w : Nat) (v : Word) : Prop :=
  v.toNat.testBit 31 = true ∧ 12 ≤ v.toNat % 32 ∧ v.toNat % 32 ≤ 24 ∧ winBase s p w % 2 ^ (v.toNat % 32) = 0

theorem windowWrite_fits (s : State) (p w : Nat) (v : Word) (hoff : s.flag (F.HIF_WCTRL_VALID p w) = false) (h : windowFits s p w v) :
    windowWrite s p w v = (windowSet s p w v).setRegBit (R.HIF_WCTRL p w) 31 true := by
  unfold windowWrite
  rw [if_neg (by simp [hoff])]
  exact if_pos h

theorem windowWrite_unfit (s : State) (p w : Nat) (v : Word) (hoff : s.flag (F.HIF_WCTRL_VALID p w) = false)
    (h : ¬windowFits s p w v) : windowWrite s p w v = windowSet s p w v := by
  unfold windowWrite
  rw [if_neg (by simp [hoff])]
  exact if_neg h

/-- A window that is not valid becomes valid only where it may. -/
theorem windowWrite_valid_iff (s : State) (p w : Nat) (v : Word) (hoff : s.flag (F.HIF_WCTRL_VALID p w) = false) :
    (windowWrite s p w v).flag (F.HIF_WCTRL_VALID p w) = true ↔ windowFits s p w v := by
  by_cases h : windowFits s p w v
  · rw [windowWrite_fits s p w v hoff h, State.flag_oneBit, State.regBit_setRegBit_same _ _ _ _ (by decide)]
    exact iff_of_true rfl h
  · rw [windowWrite_unfit s p w v hoff h, windowSet_valid, hoff]
    exact iff_of_false (by decide) h

theorem windowWrite_hif (s : State) (p w : Nat) (v : Word) (hoff : s.flag (F.HIF_WCTRL_VALID p w) = false) :
    (windowWrite s p w v).hif = s.hif := by
  by_cases h : windowFits s p w v
  · rw [windowWrite_fits s p w v hoff h, State.setRegBit, State.setReg_hif, windowSet_hif]
  · rw [windowWrite_unfit s p w v hoff h, windowSet_hif]

/-- The window takes no new transfer until its clear has ended. -/
def windowClearing (s : State) (p w : Nat) : State :=
  (s.setFld (F.HIF_WCTRL_BUSY p w) 1).withHif { s.hif with clearing := addTo s.hif.clearing (16 * p + w) }

section
variable {s : State} {p w : Nat} {v : Word} (hvalid : s.flag (F.HIF_WCTRL_VALID p w) = true) (hclear : v.toNat.testBit 31 = false)
include hvalid hclear

theorem windowWrite_held (h : ringInside s p w = true) : windowWrite s p w v = s := by
  unfold windowWrite
  simp only [hvalid, hclear, h, if_true, Bool.false_eq_true, if_false]

theorem windowWrite_clears (h : ringInside s p w = false) : windowWrite s p w v = windowClearing s p w := by
  unfold windowWrite
  simp only [hvalid, hclear, h, if_true, Bool.false_eq_true, if_false]
  rfl

end

theorem windowClearing_busy (s : State) (p w : Nat) : (windowClearing s p w).flag (F.HIF_WCTRL_BUSY p w) = true := by
  rw [windowClearing, State.flag_withHif, State.flag_setFld _ _ _ (by simp)]
  simp

theorem windowClearing_size (s : State) (p w : Nat) : winSize (windowClearing s p w) p w = 0 := by
  have hclr : has (windowClearing s p w).hif.clearing (16 * p + w) = true := has_addTo_same _ _
  rw [winSize, hclr, Bool.not_true, Bool.and_false, if_neg Bool.false_ne_true]

/-- The clear of the window has ended. -/
def windowCleared (s : State) (p w : Nat) : State :=
  ((s.setFld (F.HIF_WCTRL_VALID p w) 0).setFld (F.HIF_WCTRL_BUSY p w) 0).withHif
    { s.hif with clearing := dropFrom s.hif.clearing (16 * p + w) }

theorem exec_windowClearEnd_done (p : Fin 64) (w : Fin 16) (s : State) (hclr : has s.hif.clearing (16 * p.val + w.val) = true)
    (hidle : transferIn s p.val w.val = false) : exec (.windowClearEnd p w) s = .next (windowCleared s p.val w.val) :=
  if_pos (by simp [hclr, hidle])

theorem windowCleared_flags (s : State) (p w : Nat) : (windowCleared s p w).flag (F.HIF_WCTRL_VALID p w) = false ∧
    (windowCleared s p w).flag (F.HIF_WCTRL_BUSY p w) = false := by
  rw [windowCleared, State.flag_withHif, State.flag_withHif, State.windowValid_setFld _ p w (F.HIF_WCTRL_BUSY p w) 0 rfl (by simp),
    State.flag_setFld _ (F.HIF_WCTRL_VALID p w) _ (by simp), State.flag_setFld _ (F.HIF_WCTRL_BUSY p w) _ (by simp)]
  simp

/-! ### The statement -/

/-- Settles O32: each row is the one branch that its conditions choose; ACT and EN of the rings of a partition are bits of one
register, and VALID of a window lies above the fields that the same write sets. -/
theorem ringsAndWindows : Obligations.RingsAndWindows := by
  refine ⟨fun p v s hup => ⟨fun h6 hact hsize => ?_, fun h => ?_⟩, settle_idle, fun p k s hup hready hact hlo hhi hcpl hwin => ?_,
    fun p k s hup hready hact herr => ?_, fun p k s hup h => ?_, fun p s hup hact hbusy herr => ?_, fun p w v s hup hoff => ?_,
    fun p w v s hup hvalid hclear => ⟨fun h => ?_, fun h => ?_⟩, fun p w s hclr hidle => ?_⟩
  · obtain ⟨hcmds, hmem⟩ := rung_frame s p.val v
    refine ⟨rung s p.val v, ?_, ?_, ?_, hcmds, hmem⟩
    · rw [exec_doorbell_up p v s hup, ringDoorbell_taken s p.val v h6 hact hsize]
    · rw [rung_ring]
    · rw [rung_ring]
  · exact (exec_doorbell_up p v s hup).trans (congrArg Host.Outcome.next (if_pos h))
  · refine ⟨ringBegun s p.val k.val, ?_, ringBegun_act s p.val k.val k.isLt, ringBegun_idx s p.val k.val k.isLt,
      ringBegun_ring s p.val k.val, ringBegun_mem s p.val k.val⟩
    rw [exec_ringEnable_up p k s hup, ringEnable_opens s p.val k.val hready hact hlo hhi hcpl hwin]
  · have hne : R.HIF_RING_ERR ≠ R.HIF_RCTRL p.val := by simp only [R.HIF_RCTRL, R.HIF_RING_ERR]; omega
    have herr1 : (s.setRegBit (R.HIF_RCTRL p.val) k.val true).flag F.HIF_RING_ERR_VALID = false :=
      (State.flag_congr (State.reg_setReg_ne _ _ _ _ hne)).trans herr
    obtain ⟨hstatus, hset⟩ := ringErr_first_recorded _ p.val k.val St.badDescriptor herr1 p.isLt k.isLt (by decide)
    refine ⟨_, exec_ringEnable_up p k s hup, ?_⟩
    rw [ringEnable_refused s p.val k.val hready hact]
    refine ⟨?_, hstatus, hset⟩
    rw [ringErr_first_act _ _ _ _ _ _ herr1, ringAct_setEn s p.val k.val k.val true k.isLt k.isLt, hact]
  · refine ⟨ringClosed s p.val k.val, ?_, ringClosed_act s p.val k.val k.isLt,
      fun j hj hne => ringClosed_others s p.val k.val j k.isLt hj hne, rfl, rfl⟩
    rw [exec_ringDisable_up p k s hup, ringDisable_closes s p.val k.val h]
  · obtain ⟨hstatus, hset⟩ := ringErr_first_recorded s p.val 4 St.busy herr p.isLt (by decide) (by decide)
    refine ⟨_, (exec_ringDisable_up p 4 s hup).trans (congrArg Host.Outcome.next (ringDisable_busy s p.val hact hbusy)), ?_, hstatus, hset⟩
    rw [ringErr_first_act s _ _ _ _ _ herr, hact]
  · exact ⟨_, exec_windowValid_up p w v s hup, windowWrite_valid_iff s p.val w.val v hoff, windowWrite_hif s p.val w.val v hoff⟩
  · rw [exec_windowValid_up p w v s hup, windowWrite_held hvalid hclear h]
  · refine ⟨windowClearing s p.val w.val, ?_, windowClearing_busy s p.val w.val, windowClearing_size s p.val w.val⟩
    rw [exec_windowValid_up p w v s hup, windowWrite_clears hvalid hclear h]
  · obtain ⟨hvalid, hbusy⟩ := windowCleared_flags s p.val w.val
    exact ⟨_, exec_windowClearEnd_done p w s hclr hidle, hvalid, hbusy, rfl⟩

end Sys2Proof.Machine
end

section
/-! Commands and events of the host interface whose statements fail (R294 to R297, R299, R304, R405): an entry of an event ring, and the
command behind the one that completes. -/

namespace Sys2Proof.Machine

/-! ### Entries of an event ring (R294, R296) -/

/-- An entry leaves for the producer's place, which its own length scales. -/
theorem ringPut_out (s : State) (p k : Nat) (body : List Byte) (flags : Nat) : (ringPut s p k body flags).hif.out = s.hif.out ++
    [.write (ringBase s p k + s.fld (F.HIF_RIDX_IDX p k) * (body.length + 1))
      (body ++ [BitVec.ofNat 8 (flags + (if (s.ring p k).phase then 1 else 0))])] := rfl

/-- An event's bytes fill the entry of 32 with its FLAGS exactly where it has at most 12 bytes of data. -/
theorem evBytes_length (e : EvRec) : (evBytes e).length = 19 + max 12 e.data.length := by
  simp only [evBytes, padTo, List.length_append, leBytes_length, List.length_map, List.length_replicate, List.length_cons, List.length_nil]
  omega

/-- An event with 13 bytes of data, for partition 63. -/
def overlongEvent : EvRec := ⟨1, 63, true, 0, 0, List.replicate 13 0, 0⟩

/-- The bring-up has ended, and the event ring of partition 63 has 16 entries, of which the host has taken the first. -/
def deliveringRegs : List (Fld × Nat) :=
  [(F.RST_SEQ_STEP, 0), (F.HIF_RCTRL_ACT 63, 32), (F.HIF_RSIZE_LOG2 63 5, 4), (F.HIF_RIDX_IDX 63 5, 1)]

/-- The event waits for the ring's second place. -/
def overlongQueued : State :=
  deliveringRegs.foldl (fun t e => t.setFld e.1 e.2) { State.reset with hif := { evts := [overlongEvent] } }

/-- Refutes O33: the statement holds no bound on the data of an event that waits. One with 13 bytes makes an entry of 33, which goes to
33 and not to 32 bytes behind the base of the ring. -/
theorem not_ringEngineAndCompletions : ¬ Obligations.RingEngineAndCompletions := by
  rintro ⟨⟨-, hdelivery, -⟩, -⟩
  obtain ⟨-, hout⟩ := hdelivery 63 overlongQueued overlongEvent (by decide) (by decide) (by decide) (by decide) (by decide) (by decide)
  rw [ringPut_out, evBytes_length] at hout
  obtain ⟨haddr, -⟩ := HostOut.write.inj (List.cons.inj (List.append_cancel_left hout)).1
  revert haddr
  decide

/-! ### The command behind one that completes (R295, R304) -/

theorem mem_ne_of_byte_ne {s t : State} (a : Nat) (h : t.byte a ≠ s.byte a) : t.mem ≠ s.mem :=
  fun hmem => h (congrArg (fun m => SMap.get blank m a) hmem)

/-- HOST_NOP by partition 63, the first command of its ring. -/
def nopCmd : HostCmd := ⟨1, 63, 0, ⟨0x00, 0, 7, 0, 0, 0, 0, 0, 0⟩, false, none, false⟩

/-- Partition 63 has fetched the command and one of firmware behind it. -/
def nopThenFirmware : State := { readThenFirmware with hif := { cmds := [nopCmd, firmwareCmd] } }

theorem nopCmd_runs : hostRuns nopThenFirmware 1 0x00 nopCmd := by
  and_intros <;> decide

theorem nopCmd_open : cplOpen nopThenFirmware nopCmd := by
  and_intros <;> decide

theorem exec_hostNop_runs (s : State) (n : Nat) (c : HostCmd) (h : hostRuns s n 0x00 c) :
    exec (.hostNop n) s = .next (endCmd (markStarted s n) c St.ok) :=
  congrArg Host.Outcome.next (onHost_runs s n 0x00 c (fun c t => endCmd t c St.ok) h)

/-- The record of the command behind it takes the first byte of its place in MGS. -/
theorem hostNop_places_record : (endCmd (markStarted nopThenFirmware 1) nopCmd St.ok).byte (0x10000000 + 64 * 2) = 0x50 ∧
    nopThenFirmware.byte (0x10000000 + 64 * 2) = 0 := by decide

/-- Refutes O34: a HOST_NOP that completes need not leave memory as it is, since it lets the command of firmware behind it in its ring
start, whose record the ring engine writes to MGS (R295, R304). -/
theorem not_hostSignalCommands : ¬ Obligations.HostSignalCommands := by
  rintro ⟨hrows, -⟩
  obtain ⟨hnop, -⟩ := hrows 1 nopCmd nopThenFirmware nopCmd_open
  obtain ⟨t, hstep, -, hmem, -⟩ := hnop nopCmd_runs
  obtain rfl : endCmd (markStarted nopThenFirmware 1) nopCmd St.ok = t :=
    Host.Outcome.next.inj ((exec_hostNop_runs _ 1 nopCmd nopCmd_runs).symm.trans hstep)
  obtain ⟨hplaced, hblank⟩ := hostNop_places_record
  exact mem_ne_of_byte_ne _ (by rw [hplaced, hblank]; decide) hmem

/-! ### A command with FENCE behind one of the SP (R295, R405) -/

/-- RAGDOLL_RELEASE by P0, whose record stands. -/
def releaseCmd : HostCmd := ⟨1, 0, 0, ⟨0x71, 0, 7, 0, 0, 0, 0, 0, 0⟩, true, none, false⟩

/-- The next command of the ring, which firmware serves, has FENCE: it starts when the one before it has completed (R295). -/
def fencedCmd : HostCmd := ⟨2, 0, 0, ⟨0x50, 4, 8, 0, 0, 0, 0, 0, 0⟩, false, none, false⟩

/-- The bring-up has ended, P0 has a completion ring with room, and firmware's records stand from the start of MGS on. -/
def releasingRegs : List (Fld × Nat) :=
  [(F.RST_SEQ_STEP, 0), (F.HIF_RCTRL_ACT 0, 16), (F.HIF_RSIZE_LOG2 0 4, 4), (F.HIF_FWQ_BASE_ADDR, 0x10000000)]

/-- P0 has fetched both commands, and the record of the first, number 1, is open. -/
def releaseThenFenced : State :=
  releasingRegs.foldl (fun t e => t.setFld e.1 e.2)
    { State.reset with hif := { cmds := [releaseCmd, fencedCmd], fwOpen := [(1, 1)] } }

theorem releaseCmd_runs : fwRuns releaseThenFenced 1 0x71 releaseCmd := by
  and_intros <;> decide

theorem releaseCmd_open : cplOpen releaseThenFenced releaseCmd := by
  and_intros <;> decide

/-- The command ends, the device being in RAGDOLL or not. -/
def released (s : State) (n : Nat) (c : HostCmd) : State :=
  endCmd (ragdollRelease (markStarted s n)).2 c (ragdollRelease (markStarted s n)).1

theorem exec_ragdollRelease_runs (s : State) (n : Nat) (c : HostCmd) (h : fwRuns s n 0x71 c) :
    exec (.ragdollRelease n) s = .next (released s n c) :=
  congrArg Host.Outcome.next (onFw_runs s n 0x71 c (fun c t => endCmd (ragdollRelease t).2 c (ragdollRelease t).1) h)

/-- The record of the command with FENCE takes the first byte of its place in MGS. -/
theorem released_places_record : (released releaseThenFenced 1 releaseCmd).byte (0x10000000 + 64 * 2) = 0x50 ∧
    releaseThenFenced.byte (0x10000000 + 64 * 2) = 0 := by decide

/-- Refutes O36: a RAGDOLL_RELEASE that is refused need not leave memory as it is, since its completion lets the command with FENCE
behind it start, whose record the ring engine writes to MGS (R295, R304). -/
theorem not_firmwareCommands : ¬ Obligations.FirmwareCommands := by
  rintro ⟨hrows, -⟩
  obtain ⟨-, -, -, -, -, -, -, -, hrelease, -⟩ := hrows 1 releaseCmd 0 0 0 0 releaseThenFenced releaseCmd_open
  obtain ⟨t, hstep, -, hmem⟩ := hrelease releaseCmd_runs (by decide)
  obtain rfl : released releaseThenFenced 1 releaseCmd = t :=
    Host.Outcome.next.inj ((exec_ragdollRelease_runs _ 1 releaseCmd releaseCmd_runs).symm.trans hstep)
  obtain ⟨hplaced, hblank⟩ := released_places_record
  exact mem_ne_of_byte_ne _ (by rw [hplaced, hblank]; decide) hmem

end Sys2Proof.Machine
end

section
/-! Regions and their passwords, and the journal of the NVR (R357, R358, R361 to R363). -/

namespace Sys2Proof.Machine

/-- Bit `k` of a field is a bit of its register. -/
theorem State.fld_testBit (s : State) (f : Fld) (k : Nat) (h : k < f.w) : (s.fld f).testBit k = s.regBit f.reg (f.lo + k) := by
  rw [State.fld, Fld.of, Nat.testBit_mod_two_pow, Nat.testBit_div_two_pow, decide_eq_true h, Bool.true_and, Nat.add_comm, State.regBit]

/-- A one-bit field that was set reads 1, one that was cleared reads 0. -/
theorem State.flag_setFld_one (s : State) (f : Fld) (h : f.lo + f.w ≤ 32) (hw : f.w = 1) : (s.setFld f 1).flag f = true := by
  rw [s.flag_setFld f 1 h, hw]; rfl

theorem State.flag_setFld_zero (s : State) (f : Fld) (h : f.lo + f.w ≤ 32) : (s.setFld f 0).flag f = false := by
  rw [s.flag_setFld f 0 h, Nat.zero_mod]; rfl

/-- A field apart from one that was set reads as before. -/
theorem State.fld_setFld_apart (s : State) (f g : Fld) (v : Nat) (h : f.lo + f.w ≤ 32)
    (hg : g.reg ≠ f.reg ∨ g.lo + g.w ≤ f.lo ∨ f.lo + f.w ≤ g.lo) :
    (s.setFld f v).fld g = s.fld g := by
  by_cases hr : g.reg = f.reg
  · rcases hg with hg | hg | hg
    · exact absurd hr hg
    · exact s.fld_setFld_below f g v h hr hg
    · exact s.fld_setFld_above f g v h hr hg
  · exact s.fld_setFld_other f g v hr

theorem State.flag_setFld_apart (s : State) (f g : Fld) (v : Nat) (h : f.lo + f.w ≤ 32)
    (hg : g.reg ≠ f.reg ∨ g.lo + g.w ≤ f.lo ∨ f.lo + f.w ≤ g.lo) :
    (s.setFld f v).flag g = s.flag g := by
  rw [State.flag, State.flag, s.fld_setFld_apart f g v h hg]

/-! ### Regions and passwords (R357, R358) -/

theorem region_lt (s : State) : s.fld F.NVR_PWD_SEL_REGION < 8 := Nat.mod_lt _ (by decide)

theorem regionLocked_eq (s : State) (r : Nat) (hr : r < 8) : regionLocked s r = s.regBit R.NVR_STATUS (16 + r) :=
  s.fld_testBit F.NVR_STATUS_LOCKED r hr

/-- A region is open where it has no password, or where its unlock bit is set. -/
theorem regionOpen_eq (s : State) (r : Nat) (w : Bool) (hr : r < 8) :
    regionOpen s r w = (regionKey s r w == 0 || s.regBit R.NVR_STATUS (if w then r else 8 + r)) := by
  cases w
  · exact congrArg _ (s.fld_testBit F.NVR_STATUS_RUNLOCK r hr)
  · exact congrArg _ ((s.fld_testBit F.NVR_STATUS_WUNLOCK r hr).trans (by rw [Nat.zero_add]; rfl))

theorem regionKey_setUnlock (s : State) (r q : Nat) (w w' on : Bool) : regionKey (setUnlock s r w on) q w' = regionKey s q w' := rfl

theorem regionOpen_setUnlock_same (s : State) (r : Nat) (w : Bool) (hr : r < 8) : regionOpen (setUnlock s r w true) r w = true := by
  have hbit : (if w then r else 8 + r) < 32 := by cases w <;> simp <;> omega
  rw [regionOpen_eq _ r w hr, setUnlock, State.regBit_setRegBit_same _ _ _ _ hbit, Bool.or_true]

theorem regionOpen_setUnlock_other (s : State) (r q : Nat) (w w' on : Bool) (hr : r < 8) (hq : q < 8) (h : q ≠ r ∨ w' ≠ w) :
    regionOpen (setUnlock s r w on) q w' = regionOpen s q w' := by
  have hbit : (if w' then q else 8 + q) < 32 := by split <;> omega
  have hne : (if w' then q else 8 + q) ≠ if w then r else 8 + r := by cases w <;> cases w' <;> simp at h ⊢ <;> omega
  rw [regionOpen_eq _ q w' hq, regionOpen_eq s q w' hq, regionKey_setUnlock, setUnlock, State.regBit_setRegBit_ne _ _ _ _ _ hbit hne]

theorem lockRegion_fld (s : State) : ((lockRegion s).fld F.NVR_STATUS_WUNLOCK).testBit (s.fld F.NVR_PWD_SEL_REGION) = false ∧
    ((lockRegion s).fld F.NVR_STATUS_RUNLOCK).testBit (s.fld F.NVR_PWD_SEL_REGION) = false := by
  have hr := region_lt s
  constructor
  · rw [State.fld_testBit _ F.NVR_STATUS_WUNLOCK _ hr]
    show ((setUnlock s (s.fld F.NVR_PWD_SEL_REGION) false false).setRegBit R.NVR_STATUS _ false).regBit R.NVR_STATUS _ = false
    rw [show F.NVR_STATUS_WUNLOCK.lo + s.fld F.NVR_PWD_SEL_REGION = s.fld F.NVR_PWD_SEL_REGION from Nat.zero_add _]
    exact State.regBit_setRegBit_same _ _ _ _ (lt_trans hr (by decide))
  · rw [State.fld_testBit _ F.NVR_STATUS_RUNLOCK _ hr]
    show ((s.setRegBit R.NVR_STATUS (8 + s.fld F.NVR_PWD_SEL_REGION) false).setRegBit R.NVR_STATUS _ false).regBit R.NVR_STATUS
      (8 + s.fld F.NVR_PWD_SEL_REGION) = false
    rw [State.regBit_setRegBit_ne _ _ _ _ _ (by omega) (by simp), State.regBit_setRegBit_same _ _ _ _ (by omega)]

theorem nvrEvent_only (s : State) (k : Nat) : s.onlyRegs (nvrEvent s k) := evcIf_only s _ _ k

/-- The registers of the NVR and of the PFL lie above the Event Controller. -/
theorem nvrEvent_reg (s : State) (k b : Nat) (hk : k < 4) (hb : 0x40004280 ≤ b) : (nvrEvent s k).reg b = s.reg b :=
  evcIf_reg_above s _ _ k b (by omega) hb

theorem State.onlyRegs.nvr_eq {s t : State} (h : s.onlyRegs t) : t.nvr = s.nvr := by obtain ⟨r, rfl⟩ := h; rfl
theorem State.onlyRegs.mem_eq {s t : State} (h : s.onlyRegs t) : t.mem = s.mem := by obtain ⟨r, rfl⟩ := h; rfl
theorem State.onlyRegs.slots_eq {s t : State} (h : s.onlyRegs t) : t.slots = s.slots := by obtain ⟨r, rfl⟩ := h; rfl
theorem State.onlyRegs.pfl_eq {s t : State} (h : s.onlyRegs t) : t.pfl = s.pfl := by obtain ⟨r, rfl⟩ := h; rfl

theorem State.fld_withNvr (s : State) (x : Nvr) (f : Fld) : State.fld { s with nvr := x } f = s.fld f := rfl
theorem State.flag_withNvr (s : State) (x : Nvr) (f : Fld) : State.flag { s with nvr := x } f = s.flag f := rfl

/-- A wrong candidate is told and counted (R358). -/
def attemptFailed (s : State) : State :=
  let r := s.fld F.NVR_PWD_SEL_REGION
  let s1 := s.setFld F.NVR_PWD_STAT_FAIL 1
  { s1 with nvr := { s1.nvr with tries := SMap.set (fun _ => 0) s1.nvr.tries r (SMap.get (fun _ => 0) s.nvr.tries r + 1) } }

theorem attemptFailed_fail (s : State) : (attemptFailed s).flag F.NVR_PWD_STAT_FAIL = true := by
  rw [attemptFailed, State.flag_withNvr]
  exact s.flag_setFld_one F.NVR_PWD_STAT_FAIL (by decide) rfl

theorem attemptFailed_tries (s : State) : SMap.get (fun _ => 0) (attemptFailed s).nvr.tries (s.fld F.NVR_PWD_SEL_REGION) =
    SMap.get (fun _ => 0) s.nvr.tries (s.fld F.NVR_PWD_SEL_REGION) + 1 := by
  simp only [attemptFailed, SMap.get_set_same]

theorem attemptFailed_locked (s : State) (r : Nat) : regionLocked (attemptFailed s) r = regionLocked s r := by
  rw [regionLocked, regionLocked, attemptFailed, State.fld_withNvr, s.fld_setFld_other F.NVR_PWD_STAT_FAIL F.NVR_STATUS_LOCKED 1 (by decide)]

/-- The eighth wrong candidate locks the region and tells it (R358). -/
def attemptLocks (s : State) (r : Nat) : State := nvrEvent (s.setRegBit R.NVR_STATUS (16 + r) true) 1

theorem attemptLocks_nvr (s : State) (r : Nat) : (attemptLocks s r).nvr = s.nvr :=
  (State.onlyRegs_trans (s.onlyRegs_setRegBit _ _ _) (nvrEvent_only _ 1)).nvr_eq

theorem attemptLocks_locked (s : State) (r : Nat) (hr : r < 8) : regionLocked (attemptLocks s r) r = true := by
  rw [regionLocked_eq _ r hr, attemptLocks, State.regBit_congr _ (nvrEvent_reg _ 1 _ (by decide) (by decide)),
    State.regBit_setRegBit_same _ _ _ _ (by omega)]

theorem attemptLocks_fail (s : State) (r : Nat) : (attemptLocks s r).flag F.NVR_PWD_STAT_FAIL = s.flag F.NVR_PWD_STAT_FAIL :=
  State.flag_congr ((nvrEvent_reg _ 1 _ (by decide) (by decide)).trans (State.reg_setReg_ne _ _ _ _ (by decide)))

section
variable {s : State} {w : Bool} {v : Word}

theorem tryPassword_locked (h : regionLocked s (s.fld F.NVR_PWD_SEL_REGION) = true) : tryPassword s w v = s := by
  simp [tryPassword, h]

theorem tryPassword_right (h : regionLocked s (s.fld F.NVR_PWD_SEL_REGION) = false)
    (hv : v = regionKey s (s.fld F.NVR_PWD_SEL_REGION) w) : tryPassword s w v = setUnlock s (s.fld F.NVR_PWD_SEL_REGION) w true := by
  simp [tryPassword, h, hv]

theorem tryPassword_wrong (h : regionLocked s (s.fld F.NVR_PWD_SEL_REGION) = false)
    (hv : v ≠ regionKey s (s.fld F.NVR_PWD_SEL_REGION) w) : tryPassword s w v =
      if SMap.get (fun _ => 0) s.nvr.tries (s.fld F.NVR_PWD_SEL_REGION) = 7 then
        attemptLocks (attemptFailed s) (s.fld F.NVR_PWD_SEL_REGION)
      else attemptFailed s := by
  have hkey : ¬ regionKey s (s.fld F.NVR_PWD_SEL_REGION) w = v := fun e => hv e.symm
  unfold tryPassword
  dsimp only
  rw [h, if_neg Bool.false_ne_true, if_neg hkey]
  by_cases h7 : SMap.get (fun _ => 0) s.nvr.tries (s.fld F.NVR_PWD_SEL_REGION) = 7
  · rw [if_pos h7, if_pos (congrArg Nat.succ h7)]
    rfl
  · rw [if_neg h7, if_neg (fun e => h7 (Nat.succ.inj e))]
    rfl

/-- What a wrong candidate shows: FAIL, one more attempt, and the lock at the eighth (R358). -/
theorem tryPassword_wrong_shows (h : regionLocked s (s.fld F.NVR_PWD_SEL_REGION) = false)
    (hv : v ≠ regionKey s (s.fld F.NVR_PWD_SEL_REGION) w) :
    (tryPassword s w v).flag F.NVR_PWD_STAT_FAIL = true ∧
    SMap.get (fun _ => 0) (tryPassword s w v).nvr.tries (s.fld F.NVR_PWD_SEL_REGION) =
      SMap.get (fun _ => 0) s.nvr.tries (s.fld F.NVR_PWD_SEL_REGION) + 1 ∧
    regionLocked (tryPassword s w v) (s.fld F.NVR_PWD_SEL_REGION) =
      decide (SMap.get (fun _ => 0) s.nvr.tries (s.fld F.NVR_PWD_SEL_REGION) = 7) := by
  rw [tryPassword_wrong h hv]
  by_cases h7 : SMap.get (fun _ => 0) s.nvr.tries (s.fld F.NVR_PWD_SEL_REGION) = 7
  · rw [if_pos h7, decide_eq_true h7, attemptLocks_nvr, attemptLocks_fail, attemptFailed_fail, attemptFailed_tries,
      attemptLocks_locked _ _ (region_lt s)]
    exact ⟨rfl, rfl, rfl⟩
  · rw [if_neg h7, decide_eq_false h7, attemptFailed_fail, attemptFailed_tries, attemptFailed_locked]
    exact ⟨rfl, rfl, h⟩

end

/-! ### Rows of the passwords and of the journal (R357, R358, R362) -/

section
variable {s : State}

theorem exec_nvrPwdR (v : Word) (h : s.accepts R.NVR_PWD_R = true) : exec (.nvrPwdR v) s = .next (tryPassword s false v) :=
  atReg_open s _ v _ h

theorem exec_nvrPwdW (v : Word) (h : s.accepts R.NVR_PWD_W = true) : exec (.nvrPwdW v) s = .next (tryPassword s true v) :=
  atReg_open s _ v _ h

theorem exec_nvrPwd (w : Bool) (v : Word) (hR : s.accepts R.NVR_PWD_R = true) (hW : s.accepts R.NVR_PWD_W = true) :
    (if w then exec (.nvrPwdW v) s else exec (.nvrPwdR v) s) = .next (tryPassword s w v) := by
  cases w
  · exact exec_nvrPwdR v hR
  · exact exec_nvrPwdW v hW

theorem exec_nvrPwdLock (h : s.accepts R.NVR_PWD_CTRL = true) : exec .nvrPwdLock s = .next (lockRegion s) := atReg_open s _ 4 _ h

theorem exec_chg (w : Bool) (h : s.accepts R.NVR_PWD_CTRL = true) : exec (if w then .chgW else .chgR) s = .next (changePassword s w) := by
  cases w
  · exact atReg_open s _ 1 _ h
  · exact atReg_open s _ 2 _ h

theorem changePassword_queued (w : Bool) (hl : regionLocked s (s.fld F.NVR_PWD_SEL_REGION) = false)
    (ho : regionOpen s (s.fld F.NVR_PWD_SEL_REGION) true = true) : changePassword s w = { s with nvr := { s.nvr with
      queue := s.nvr.queue ++ [⟨.key (s.fld F.NVR_PWD_SEL_REGION) w (s.reg R.NVR_PWD_NEW), 0⟩] } } := by
  simp [changePassword, hl, ho]

theorem changePassword_refused (w : Bool) (ho : regionOpen s (s.fld F.NVR_PWD_SEL_REGION) true = false) :
    changePassword s w = s.setFld F.NVR_PWD_STAT_FAIL 1 := by
  simp [changePassword, ho]

theorem exec_chg_queued (w : Bool) (h : s.accepts R.NVR_PWD_CTRL = true) (hl : regionLocked s (s.fld F.NVR_PWD_SEL_REGION) = false)
    (ho : regionOpen s (s.fld F.NVR_PWD_SEL_REGION) true = true) : exec (if w then .chgW else .chgR) s = .next { s with nvr := { s.nvr with
      queue := s.nvr.queue ++ [⟨.key (s.fld F.NVR_PWD_SEL_REGION) w (s.reg R.NVR_PWD_NEW), 0⟩] } } := by
  rw [exec_chg w h, changePassword_queued w hl ho]

theorem exec_chg_refused (w : Bool) (h : s.accepts R.NVR_PWD_CTRL = true) (ho : regionOpen s (s.fld F.NVR_PWD_SEL_REGION) true = false) :
    exec (if w then .chgW else .chgR) s = .next (s.setFld F.NVR_PWD_STAT_FAIL 1) := by
  rw [exec_chg w h, changePassword_refused w ho]

theorem exec_nvrJctrlGo (h : s.accepts R.NVR_JCTRL = true) : exec .nvrJctrlGo s = .next (queueJournal s) := atReg_open s _ 1 _ h

/-! ### The journal (R361 to R363) -/

theorem exec_journaledWriteEnd (hs : nvrServes s = true) (hr : s.flag F.NVR_STATUS_READY = true) (hv : s.saving = false) :
    exec .journaledWriteEnd s = .next (jRun s) := by
  show execJournaledWriteEnd s = _
  simp [execJournaledWriteEnd, hs, hr, hv]

variable {q : JReq} {l : List JReq}

theorem jRun_fault (hq : s.nvr.queue = q :: l) {e : Nat} (h : jFault s q = some e) : jRun s =
    jTell (mgsUe (busErrOf { s with nvr := { s.nvr with queue := l } } codeSave 0 e false) e) q St.busError := by
  simp [jRun, hq, h]

theorem jRun_checked (hq : s.nvr.queue = q :: l) (hf : jFault s q = none) (hc : jCheck s q = St.ok) : jRun s =
    jTell ((jApply (jCommit { s with nvr := { s.nvr with queue := l } } q) q).wr journalBase 4 0) q St.ok := by
  simp [jRun, hq, hf, hc]

/-- Where a check refuses the write, its data are not read. -/
theorem jFault_refused (h : jCheck s q ≠ St.ok) : jFault s q = none := by
  unfold jFault
  split
  · rw [if_neg h]
  · rfl

theorem jRun_refused (hq : s.nvr.queue = q :: l) (h : jCheck s q ≠ St.ok) :
    jRun s = jTell { s with nvr := { s.nvr with queue := l } } q (jCheck s q) := by
  simp [jRun, hq, jFault_refused h, h]

end

theorem jCommit_state (s : State) (q : JReq) : (jCommit s q).rd journalBase 4 = 0x4A434D54 := State.rd_wr _ journalBase 4 0x4A434D54

theorem jRecover_uncommitted (s : State) (h : s.rd journalBase 4 ≠ 0x4A434D54) : jRecover s = s.setFld F.NVR_STATUS_RECOV 0 := if_neg h

theorem exec_nvsRelease_readies (s : State) (hp : s.powered 7 = true) (hr : s.flag F.NVR_STATUS_READY = false)
    (hstep : 5 ≤ s.fld F.RST_SEQ_STEP ∨ s.fld F.RST_SEQ_STEP = 0) : exec .nvsRelease s = .next (ledgerFlush (agmStart (nvrReady s))) := by
  show execNvsRelease s = _
  have hopen : (decide (5 ≤ s.fld F.RST_SEQ_STEP) || decide (s.fld F.RST_SEQ_STEP = 0)) = true := by simpa using hstep
  unfold execNvsRelease
  rw [hp, hr, hopen]
  rfl

end Sys2Proof.Machine
end

section
/-! The power-fail save and the restore (R367 to R369, R371 to R374). -/

namespace Sys2Proof.Machine

/-! ### What cuts a journaled write or a flash operation off (R368, R372) -/

/-- A change of memory, of its check bits and of the count of drawn values alone. -/
def State.onlyCells (s t : State) : Prop := ∃ m e1 e2 d, t = { s with mem := m, ecc1 := e1, ecc2 := e2, draws := d }

theorem State.onlyCells_self (s : State) : s.onlyCells s := ⟨s.mem, s.ecc1, s.ecc2, s.draws, rfl⟩

theorem State.onlyCells_trans {s t u : State} (h : s.onlyCells t) (k : t.onlyCells u) : s.onlyCells u := by
  obtain ⟨m, e1, e2, d, rfl⟩ := h
  obtain ⟨m', e1', e2', d', rfl⟩ := k
  exact ⟨m', e1', e2', d', rfl⟩

theorem State.onlyMem.toCells {s t : State} (h : s.onlyMem t) : s.onlyCells t := by
  obtain ⟨m, rfl⟩ := h
  exact ⟨m, s.ecc1, s.ecc2, s.draws, rfl⟩

theorem State.onlyCells_eachNat (f : State → Nat → State) (h : ∀ t k, State.onlyCells t (f t k)) (s : State) (l : List Nat) :
    s.onlyCells (eachNat f s l) := by
  induction l generalizing s with
  | nil => exact s.onlyCells_self
  | cons k l ih => exact State.onlyCells_trans (h s k) (ih (f s k))

theorem State.onlyMem.wr {s t : State} (h : s.onlyMem t) (a n v : Nat) : s.onlyMem (t.wr a n v) :=
  State.onlyMem_trans h (t.onlyMem_wr a n v)

theorem jCommit_only (s : State) (q : JReq) : s.onlyMem (jCommit s q) :=
  (((((s.onlyMem_setBytes _ _).wr _ _ _).wr _ _ _).wr _ _ _).wr _ _ _).wr _ _ _

/-- Only the NVR controller's own state is another. -/
def State.withNvr (s : State) (x : Nvr) : State := { s with nvr := x }

/-- Of the password writes, the key page alone. -/
theorem jApply_key (s : State) (r dst : Nat) (w : Bool) (v : Word) :
    ∃ x, jApply s ⟨.key r w v, dst⟩ = s.withNvr x ∧ x.queue = s.nvr.queue := by
  cases w
  · exact ⟨_, rfl, rfl⟩
  · exact ⟨_, rfl, rfl⟩

/-- A cut empties the queue of journaled writes; besides it may leave the journal committed, with a part of the data copied. -/
theorem jCut_only (s : State) : ∃ x, (s.withNvr x).onlyCells (jCut s) ∧ x.queue = [] := by
  unfold jCut
  split
  next h => exact ⟨s.nvr, s.onlyCells_self, h⟩
  next q l h =>
    have hcut : (s.withNvr { s.nvr with queue := [] }).onlyCells { s.draw.2 with nvr := { s.draw.2.nvr with queue := [] } } :=
      ⟨s.mem, s.ecc1, s.ecc2, s.draws + 1, rfl⟩
    dsimp only
    split
    · exact ⟨_, hcut, rfl⟩
    · obtain ⟨src, dst⟩ := q
      cases src with
      | key r w v =>
        obtain ⟨x, hx, hq⟩ := jApply_key { s.draw.2 with nvr := { s.draw.2.nvr with queue := [] } } r dst w v
        refine ⟨x, ?_, hq⟩
        dsimp only
        rw [hx]
        exact ⟨s.mem, s.ecc1, s.ecc2, s.draws + 1, rfl⟩
      | firmware a n => exact ⟨_, State.onlyCells_trans hcut (State.onlyMem_trans (jCommit_only _ _) (State.onlyMem_setBytes _ _ _)).toCells, rfl⟩
      | host n p b => exact ⟨_, State.onlyCells_trans hcut (State.onlyMem_trans (jCommit_only _ _) (State.onlyMem_setBytes _ _ _)).toCells, rfl⟩
      | param n r b => exact ⟨_, State.onlyCells_trans hcut (State.onlyMem_trans (jCommit_only _ _) (State.onlyMem_setBytes _ _ _)).toCells, rfl⟩

theorem scramble_only (s : State) (a n : Nat) : s.onlyCells (scramble s a n) := by
  obtain ⟨m, h⟩ := s.onlyMem_setBytes a ((List.range n).map (fun k => BitVec.ofNat 8 (Config.freeValue (s.draws + k))))
  exact ⟨m, s.ecc1, s.ecc2, s.draws + n, by rw [scramble, h]⟩

theorem scrambleWord_only (s : State) (a : Nat) : s.onlyCells (scrambleWord s a) := by
  have hclean : s.onlyCells { s with ecc1 := dropFrom s.ecc1 a, ecc2 := dropFrom s.ecc2 a } := ⟨s.mem, _, _, s.draws, rfl⟩
  obtain ⟨m, e1, e2, d, h⟩ := State.onlyCells_trans hclean (scramble_only _ a 8)
  refine ⟨m, putIn e1 a (decide (Config.freeValue d % 3 = 1)), putIn e2 a (decide (Config.freeValue d % 3 = 2)), d + 1, ?_⟩
  unfold scrambleWord
  rw [h]
  rfl

theorem scrambleSector_only (s : State) (k : Nat) : s.onlyCells (scrambleSector s k) :=
  State.onlyCells_eachNat _ (fun t _ => scrambleWord_only t _) s _

/-- The PFL idle, with what it holds besides. -/
def pflIdle (s : State) (p : Pfl) : State := ({ s with pfl := p }.setFld F.PFL_STATUS_BUSY 0).setFld F.PFL_STATUS_SUSPENDED 0

/-- A program or an erase that is cut off has no more of an effect on registers than that the PFL is idle. -/
theorem pflCut_only (s : State) : ∃ t p, s.onlyCells t ∧ pflCut s = pflIdle t p := by
  unfold pflCut
  extract_lets s1 s2
  have hop : s.onlyCells s1 := by
    dsimp only [s1]
    split
    · exact scrambleWord_only s _
    · exact scrambleSector_only s _
    · exact s.onlyCells_self
  have hsuspended : s1.onlyCells s2 := by
    dsimp only [s2]
    split
    · exact scrambleSector_only s1 _
    · exact s1.onlyCells_self
  exact ⟨s2, _, State.onlyCells_trans hop hsuspended, rfl⟩

/-! ### The engines stop (R368) -/

/-- One engine stops. -/
def stopEngine (s : State) (n : Nat) : State := s.setLe n { s.le n with k := { (s.le n).k with stopped := true } }

theorem stopEngines_eachNat (s : State) : stopEngines s = eachNat stopEngine s (List.range 64) := rfl

/-- Only the engines are others. -/
def State.withLes (s : State) (x : SMap Cpu) : State := { s with les := x }

theorem eachNat_stopEngine_only (s : State) (l : List Nat) : ∃ x, eachNat stopEngine s l = s.withLes x := by
  induction l generalizing s with
  | nil => exact ⟨s.les, rfl⟩
  | cons n l ih =>
    obtain ⟨x, h⟩ := ih (stopEngine s n)
    exact ⟨x, h⟩

theorem stopEngine_stopped (s : State) (n m : Nat) (h : m = n ∨ (s.le m).k.stopped = true) : ((stopEngine s n).le m).k.stopped = true := by
  by_cases hm : m = n
  · rw [hm, stopEngine, State.le_setLe]
  · rw [stopEngine, State.le_setLe_ne _ _ _ _ hm]
    exact h.resolve_left hm

theorem eachNat_stopEngine_stopped (s : State) (l : List Nat) (m : Nat) (h : m ∈ l ∨ (s.le m).k.stopped = true) :
    ((eachNat stopEngine s l).le m).k.stopped = true := by
  induction l generalizing s with
  | nil => exact h.resolve_left List.not_mem_nil
  | cons n l ih =>
    refine ih _ ?_
    rw [List.mem_cons, or_assoc] at h
    rcases h with h | h | h
    · exact .inr (stopEngine_stopped s n m (.inl h))
    · exact .inl h
    · exact .inr (stopEngine_stopped s n m (.inr h))

theorem stopEngines_stopped (s : State) (m : Nat) (h : m < 64) : ((stopEngines s).le m).k.stopped = true := by
  rw [stopEngines_eachNat]
  exact eachNat_stopEngine_stopped s _ m (.inl (List.mem_range.mpr h))

theorem stopEngines_only (s : State) : ∃ x, stopEngines s = s.withLes x := by
  rw [stopEngines_eachNat]
  exact eachNat_stopEngine_only s _

/-! ### The start of a save (R367, R368, R374) -/

theorem startSave_during (s : State) (k : Nat) (h : s.saving = true) : startSave s k = s := if_pos h

/-- The save notes its cause and the TB, and no dispatch is open. -/
def saveNoted (s : State) (cause tb : Nat) : State :=
  { s with nvr := { s.nvr with cause := cause, tbPf := tb }, dpr := { s.dpr with open' := false } }

theorem startSave_outside (s : State) (k : Nat) (hs : s.saving = false) (hd : s.dbgHalted = false) :
    startSave s k = stopEngines (saveNoted (pflCut (jCut (s.setFld F.NVR_STATUS_SAVING 1))) k s.tb) := by
  unfold startSave
  rw [hs, hd, if_neg Bool.false_ne_true, if_neg Bool.false_ne_true]
  rfl

theorem startSave_begins (s : State) (k : Nat) (hs : s.saving = false) (hd : s.dbgHalted = false) :
    ∃ x t p, ((s.setFld F.NVR_STATUS_SAVING 1).withNvr x).onlyCells t ∧ x.queue = [] ∧
      startSave s k = stopEngines (saveNoted (pflIdle t p) k s.tb) := by
  obtain ⟨x, hcut, hqueue⟩ := jCut_only (s.setFld F.NVR_STATUS_SAVING 1)
  obtain ⟨t, p, hcells, hpfl⟩ := pflCut_only (jCut (s.setFld F.NVR_STATUS_SAVING 1))
  refine ⟨x, t, p, State.onlyCells_trans hcut hcells, hqueue, ?_⟩
  rw [startSave_outside s k hs hd, hpfl]

theorem pflIdle_reg (s : State) (p : Pfl) (b : Nat) (h : b ≠ R.PFL_STATUS) : (pflIdle s p).reg b = s.reg b :=
  (State.reg_setFld_ne _ _ _ _ h).trans (State.reg_setFld_ne _ _ _ _ h)

theorem pflIdle_nvr (s : State) (p : Pfl) : (pflIdle s p).nvr = s.nvr := by
  rw [pflIdle, State.setFld_nvr, State.setFld_nvr]

theorem saveNoted_reg (s : State) (k tb b : Nat) : (saveNoted s k tb).reg b = s.reg b := rfl

theorem State.onlyCells.reg_eq {s t : State} (h : s.onlyCells t) (b : Nat) : t.reg b = s.reg b := by obtain ⟨m, e1, e2, d, rfl⟩ := h; rfl
theorem State.onlyCells.nvr_eq {s t : State} (h : s.onlyCells t) : t.nvr = s.nvr := by obtain ⟨m, e1, e2, d, rfl⟩ := h; rfl
theorem State.withLes_reg (s : State) (x : SMap Cpu) (b : Nat) : (s.withLes x).reg b = s.reg b := rfl
theorem State.withNvr_reg (s : State) (x : Nvr) (b : Nat) : (s.withNvr x).reg b = s.reg b := rfl
theorem State.withNvr_nvr (s : State) (x : Nvr) : (s.withNvr x).nvr = x := rfl

/-- What a save shows at its start: SAVING, its cause, the TB of the failure, no dispatch, no journaled write, every engine stopped. -/
theorem startSave_shows (s : State) (k : Nat) (hs : s.saving = false) (hd : s.dbgHalted = false) :
    (startSave s k).saving = true ∧ (startSave s k).nvr.cause = k ∧ (startSave s k).nvr.tbPf = s.tb ∧
    (startSave s k).dpr.open' = false ∧ (startSave s k).nvr.queue = [] ∧ ∀ n, n < 64 → ((startSave s k).le n).k.stopped = true := by
  obtain ⟨x, t, p, hcells, hqueue, h⟩ := startSave_begins s k hs hd
  rw [h]
  have hstop := stopEngines_stopped (saveNoted (pflIdle t p) k s.tb)
  obtain ⟨y, hles⟩ := stopEngines_only (saveNoted (pflIdle t p) k s.tb)
  rw [hles] at hstop ⊢
  have hsaving : ((saveNoted (pflIdle t p) k s.tb).withLes y).reg R.NVR_STATUS = (s.setFld F.NVR_STATUS_SAVING 1).reg R.NVR_STATUS := by
    rw [State.withLes_reg, saveNoted_reg, pflIdle_reg _ _ _ (by decide), hcells.reg_eq, State.withNvr_reg]
  refine ⟨?_, rfl, rfl, rfl, ?_, hstop⟩
  · rw [State.saving, State.flag_congr (f := F.NVR_STATUS_SAVING) hsaving]
    exact s.flag_setFld_one F.NVR_STATUS_SAVING (by decide) rfl
  · show (pflIdle t p).nvr.queue = []
    rw [pflIdle_nvr, hcells.nvr_eq, State.withNvr_nvr, hqueue]

/-! ### Triggers (R367, R374) -/

/-- The event of PF_N sets registers of the Event Controller and of the PMU alone. -/
theorem aonEvent_pin_reg (s : State) (b : Nat) (h : 0x40004280 ≤ b) : (aonEvent s 0).reg b = s.reg b := by
  have hpend : (s.setRegBit R.PMU_WAKE_PEND 0 true).reg b = s.reg b :=
    State.reg_setReg_ne _ _ _ _ (by simp only [R.PMU_WAKE_PEND]; omega)
  unfold aonEvent
  split
  · exact (evcEvent_reg_above _ 0 b (by decide) h).trans hpend
  · exact hpend
  · rfl

theorem aonEvent_armed (s : State) : (aonEvent s 0).armed = s.armed := by
  obtain ⟨r, h⟩ := aonEvent_only s 0
  have hready : (aonEvent s 0).flag F.NVR_STATUS_READY = s.flag F.NVR_STATUS_READY := State.flag_congr (aonEvent_pin_reg s _ (by decide))
  rw [State.armed, State.armed, hready, h]

theorem exec_powerFailTrigger_pin (s : State) (h : s.flag F.NVR_PF_CTRL_PFN_EN = true) (ha : s.armed = true) :
    exec (.powerFailTrigger true) s = .next (startSave (aonEvent s 0) 1) := by
  have hen : (aonEvent s 0).flag F.NVR_PF_CTRL_PFN_EN = true := (State.flag_congr (aonEvent_pin_reg s _ (by decide))).trans h
  show execPowerFailTrigger true s = _
  simp [execPowerFailTrigger, hen, aonEvent_armed, ha]

theorem exec_powerFailTrigger_pin_unarmed (s : State) (ha : s.armed = false) : exec (.powerFailTrigger true) s = .next (aonEvent s 0) := by
  show execPowerFailTrigger true s = _
  simp [execPowerFailTrigger, aonEvent_armed, ha]

theorem exec_powerFailTrigger_supply (s : State) (h : s.flag F.NVR_PF_CTRL_MON_EN = true) (ha : s.armed = true) :
    exec (.powerFailTrigger false) s = .next (startSave s 2) := by
  show execPowerFailTrigger false s = _
  simp [execPowerFailTrigger, h, ha]

theorem exec_powerFailTrigger_supply_unarmed (s : State) (ha : s.armed = false) : exec (.powerFailTrigger false) s = .next s := by
  show execPowerFailTrigger false s = _
  simp [execPowerFailTrigger, ha]

theorem exec_test (s : State) (h : s.accepts R.NVR_PF_CTRL = true) : exec .test s = .next (if s.service then startSave s 3 else s) :=
  atReg_open s _ _ _ h

/-! ### The end of a save (R368, R369, R371) -/

theorem State.onlyMem.rst_eq {s t : State} (h : s.onlyMem t) : t.rst = s.rst := by obtain ⟨m, rfl⟩ := h; rfl

theorem State.rst_withDpr (s : State) (d : Dpr) : State.rst { s with dpr := d } = s.rst := rfl

theorem snapCommit_rst (s : State) : (snapCommit s).rst = s.rst := by
  rw [snapCommit, State.rst_withDpr, State.setFld_rst, State.setFld_rst]

theorem snapEnd_rst (s : State) : (snapEnd s).rst = s.rst := by
  have hcopy := (snapCopy_only s).rst_eq
  unfold snapEnd
  dsimp only
  split
  · rfl
  · split
    · rw [snapCommit_rst, State.rst_withDpr, State.setFld_rst, hcopy]
    · rw [State.rst_withDpr, State.setFld_rst, hcopy]

theorem saveSnap_rst (s : State) : (saveSnap s).rst = s.rst := by
  rw [saveSnap, apply_ite State.rst, snapCommit_rst, snapEnd_rst, ite_self]

theorem retWrite_only (s : State) (half k : Nat) (l : List Byte) : s.onlyMem (retWrite s half k l) := by
  induction l generalizing s k with
  | nil => exact ⟨s.mem, rfl⟩
  | cons b l ih => exact State.onlyMem_trans ⟨_, rfl⟩ (ih (s.setByte (retAddr half k) b) (k + 1))

theorem writeRecord_rst (s : State) : (writeRecord s).rst = s.rst := by
  unfold writeRecord
  dsimp only
  rw [(retWrite_only _ _ _ _).rst_eq, (retWrite_only _ _ _ _).rst_eq, (retWrite_only _ _ _ _).rst_eq, saveSnap_rst]

theorem finishSave_rst (s : State) : (finishSave s).rst = s.rst := by
  unfold finishSave
  dsimp only
  rw [State.setFld_rst, State.setFld_rst, State.setFld_rst, State.setReg_rst, writeRecord_rst]

theorem finishSave_pfstop (s : State) : (finishSave s).pfstop = true := by
  unfold finishSave State.pfstop
  dsimp only
  rw [State.flag_setFld_apart _ F.CYC_STATUS_RUNNING F.NVR_STATUS_PFSTOP _ (by decide) (by decide),
    State.flag_setFld_apart _ F.NVR_STATUS_SAVING F.NVR_STATUS_PFSTOP _ (by decide) (by decide)]
  exact State.flag_setFld_one _ F.NVR_STATUS_PFSTOP (by decide) rfl

theorem finishSave_saving (s : State) : (finishSave s).saving = false := by
  unfold finishSave State.saving
  dsimp only
  rw [State.flag_setFld_apart _ F.CYC_STATUS_RUNNING F.NVR_STATUS_SAVING _ (by decide) (by decide)]
  exact State.flag_setFld_zero _ F.NVR_STATUS_SAVING (by decide)

theorem exec_saveSeal_waits (s : State) (hd : allDrained s = false) : exec .saveSeal s = .next s := by
  show execSaveSeal s = _
  simp [execSaveSeal, hd]

section
variable {s : State} (hs : s.saving = true) (hd : allDrained s = true)
include hs hd

theorem exec_saveSeal_ends (h : s.rst.after = none) : exec .saveSeal s = .next (finishSave s) := by
  rw [← finishSave_rst] at h
  show execSaveSeal s = _
  unfold execSaveSeal
  dsimp only
  rw [hs, hd, h]
  rfl

/-- A reset that waits for the save follows it. -/
theorem exec_saveSeal_resets {h : HeldReset} (ha : s.rst.after = some h) : exec .saveSeal s = .next (if h.scope = 4 then hifResetOf
    { finishSave s with rst := { (finishSave s).rst with after := none } } h.causes else enterReset (finishSave s) h.causes h.scope) := by
  rw [← finishSave_rst] at ha
  show execSaveSeal s = _
  unfold execSaveSeal
  dsimp only
  rw [hs, hd, ha]
  rfl

end

/-! ### Restore and invalidate (R373) -/

theorem exec_restore (s : State) (h : s.accepts R.NVR_RET_CTRL = true) : exec .restore s = .next (startRestore s) := atReg_open s _ _ _ h

theorem exec_invalidate (s : State) (h : s.accepts R.NVR_RET_CTRL = true) : exec .invalidate s = .next (invalidate s) := atReg_open s _ _ _ h

theorem exec_restoreEnd (s : State) (h : s.flag F.NVR_RET_STAT_BUSY = true) : exec .restoreEnd s = .next (restore s) := if_pos h

/-- The end of a RESTORE or INVALIDATE is told with its status. -/
def retTold (s : State) (status : Nat) : State := nvrEvent (retDone s status) 3

theorem retTold_only (s : State) (status : Nat) : s.onlyRegs (retTold s status) :=
  State.onlyRegs_trans (State.onlyRegs_trans (State.onlyRegs_trans (s.onlyRegs_setFld _ _) (State.onlyRegs_setFld _ _ _))
    (State.onlyRegs_setFld _ _ _)) (nvrEvent_only _ 3)

theorem retTold_result (s : State) (status : Nat) : (retTold s status).fld F.NVR_RET_STAT_RESULT = status % 256 := by
  rw [retTold, State.fld_congr (nvrEvent_reg _ 3 _ (by decide) (by decide)), retDone,
    State.fld_setFld_apart _ F.NVR_RET_STAT_BUSY F.NVR_RET_STAT_RESULT _ (by decide) (by decide),
    State.fld_setFld_apart _ F.NVR_RET_STAT_DONE F.NVR_RET_STAT_RESULT _ (by decide) (by decide)]
  exact s.fld_setFld F.NVR_RET_STAT_RESULT status (by decide)

theorem retTold_done (s : State) (status : Nat) : (retTold s status).flag F.NVR_RET_STAT_DONE = true := by
  rw [retTold, State.flag_congr (nvrEvent_reg _ 3 _ (by decide) (by decide)), retDone,
    State.flag_setFld_apart _ F.NVR_RET_STAT_BUSY F.NVR_RET_STAT_DONE _ (by decide) (by decide)]
  exact State.flag_setFld_one _ F.NVR_RET_STAT_DONE (by decide) rfl

theorem startRestore_refused (s : State) (h : s.cycEn = true ∨ s.plan = none ∨ s.flag F.NVR_STATUS_READY = false) :
    startRestore s = retTold (s.setFld F.NVR_RET_CTRL_OP 1) St.modeRefused := by
  have hen : (s.setFld F.NVR_RET_CTRL_OP 1).cycEn = s.cycEn := State.flag_congr (State.reg_setFld_ne _ _ _ _ (by decide))
  have hready : (s.setFld F.NVR_RET_CTRL_OP 1).flag F.NVR_STATUS_READY = s.flag F.NVR_STATUS_READY :=
    State.flag_congr (State.reg_setFld_ne _ _ _ _ (by decide))
  unfold startRestore
  dsimp only
  rw [hen, hready, State.setFld_plan]
  rcases h with h | h | h
  all_goals simp [h, retTold]

theorem startRestore_begins (s : State) (hc : s.cycEn = false) (hp : s.plan.isSome = true) (hr : s.flag F.NVR_STATUS_READY = true) :
    startRestore s = (s.setFld F.NVR_RET_CTRL_OP 1).setFld F.NVR_RET_STAT_BUSY 1 := by
  have hen : (s.setFld F.NVR_RET_CTRL_OP 1).cycEn = s.cycEn := State.flag_congr (State.reg_setFld_ne _ _ _ _ (by decide))
  have hready : (s.setFld F.NVR_RET_CTRL_OP 1).flag F.NVR_STATUS_READY = s.flag F.NVR_STATUS_READY :=
    State.flag_congr (State.reg_setFld_ne _ _ _ _ (by decide))
  obtain ⟨p, hp⟩ := Option.isSome_iff_exists.mp hp
  unfold startRestore
  dsimp only
  rw [hen, hready, State.setFld_plan, hc, hp, hr]
  rfl

theorem restore_none (s : State) (h : newest s = none) : restore s = retTold s St.checkFail := by
  unfold restore
  rw [h]
  rfl

/-- The newest record is of another plan than the one in force. -/
def retStale (s : State) (half : Nat) : Prop :=
  retLe s half 0x10 4 ≠ s.thePlan.id ∨ retLe s half 0x14 4 ≠ s.thePlan.ver ∨ retLe s half 0x18 4 ≠ packCrc s.thePlan

theorem restore_stale (s : State) {half : Nat} (hn : newest s = some half) (h : retStale s half) : restore s = retTold s St.stale := by
  unfold restore
  rw [hn]
  exact if_pos h

end Sys2Proof.Machine
end

section
/-! The Parameter Flash (R375, R376, R378). -/

namespace Sys2Proof.Machine

/-! ### The Parameter Flash: PROGRAM and ERASE (R375, R376) -/

/-- Only the PFL's own state is another. -/
def State.withPfl (s : State) (x : Pfl) : State := { s with pfl := x }

theorem State.withPfl_pfl (s : State) (x : Pfl) : (s.withPfl x).pfl = x := rfl
theorem State.withPfl_mem (s : State) (x : Pfl) : (s.withPfl x).mem = s.mem := rfl

theorem pflAddr_setOp (s : State) (v : Nat) : pflAddr (s.setFld F.PFL_CMD_OP v) = pflAddr s := by
  rw [pflAddr, pflAddr, State.fld_setFld_other _ F.PFL_CMD_OP F.PFL_ADDR_WORD _ (by decide)]

theorem pflBusy_setOp (s : State) (v : Nat) : (s.setFld F.PFL_CMD_OP v).flag F.PFL_STATUS_BUSY = s.flag F.PFL_STATUS_BUSY :=
  State.flag_congr (State.reg_setFld_ne _ _ _ _ (by decide))

theorem exec_pflProgram (w : Writer) (s : State) (h : s.accepts R.PFL_CMD = true) :
    exec (.pflProgram w) s = .next (pflProgram (s.setFld F.PFL_CMD_OP 1) w) := by
  show execPflProgram w s = _
  rw [execPflProgram, atRegBy, h]
  rfl

theorem exec_pflErase (w : Writer) (s : State) (h : s.accepts R.PFL_CMD = true) :
    exec (.pflErase w) s = .next (pflErase (s.setFld F.PFL_CMD_OP 2) w) := by
  show execPflErase w s = _
  rw [execPflErase, atRegBy, h]
  rfl

/-- An operation runs on sector `k`. -/
def pflRuns (s : State) (op : PflOp) (k : Nat) : State :=
  ((s.withPfl { s.pfl with op := some op }).setFld F.PFL_STATUS_BUSY 1).setFld F.PFL_STATUS_SECTOR k

theorem pflRuns_busy (s : State) (op : PflOp) (k : Nat) : (pflRuns s op k).flag F.PFL_STATUS_BUSY = true := by
  rw [pflRuns, State.flag_setFld_apart _ F.PFL_STATUS_SECTOR F.PFL_STATUS_BUSY _ (by decide) (by decide)]
  exact State.flag_setFld_one _ F.PFL_STATUS_BUSY (by decide) rfl

theorem pflRuns_op (s : State) (op : PflOp) (k : Nat) : (pflRuns s op k).pfl.op = some op := by
  rw [pflRuns, State.setFld_pfl, State.setFld_pfl, State.withPfl_pfl]

theorem pflRuns_mem (s : State) (op : PflOp) (k : Nat) : (pflRuns s op k).mem = s.mem := by
  rw [pflRuns, State.setFld_mem, State.setFld_mem, State.withPfl_mem]

section
variable {s : State} {w : Writer}

theorem pflProgram_notOwner (h : pflOwner w (pflAddr s / 4096) = false) : pflProgram s w = pflRefuse s St.notOwner := by
  simp [pflProgram, h]

theorem pflProgram_runs (h : pflOwner w (pflAddr s / 4096) = true) (hop : s.pfl.op = none)
    (hsus : s.pfl.suspended ≠ some (pflAddr s / 4096)) :
    pflProgram s w = pflRuns s (.program (pflAddr s) (s.reg R.PFL_DATA_LO) (s.reg R.PFL_DATA_HI)) (pflAddr s / 4096) := by
  have hfree : (s.pfl.op.isSome || s.pfl.suspended == some (pflAddr s / 4096)) = false := by simp [hop, hsus]
  unfold pflProgram
  dsimp only
  rw [h, hfree]
  rfl

theorem pflErase_notOwner (h : pflOwner w (pflAddr s / 4096) = false) : pflErase s w = pflRefuse s St.notOwner := by
  simp [pflErase, h]

theorem pflErase_busy (h : pflOwner w (pflAddr s / 4096) = true) (hb : s.flag F.PFL_STATUS_BUSY = true) :
    pflErase s w = pflRefuse s St.busy := by
  simp [pflErase, h, hb]

theorem pflErase_runs (h : pflOwner w (pflAddr s / 4096) = true) (hb : s.flag F.PFL_STATUS_BUSY = false) :
    pflErase s w = pflRuns s (.erase (pflAddr s / 4096)) (pflAddr s / 4096) := by
  unfold pflErase
  dsimp only
  rw [h, hb]
  rfl

end

/-! ### SUSPEND and RESUME (R376) -/

theorem exec_pflSuspend (s : State) (h : s.accepts R.PFL_CMD = true) : exec .pflSuspend s = .next (pflSuspend (s.setFld F.PFL_CMD_OP 3)) :=
  atReg_open s _ _ _ h

theorem exec_pflResume (s : State) (h : s.accepts R.PFL_CMD = true) : exec .pflResume s = .next (pflResume (s.setFld F.PFL_CMD_OP 4)) :=
  atReg_open s _ _ _ h

/-- The erase of sector `k` halts. -/
def pflSuspended (s : State) (k : Nat) : State :=
  (s.withPfl { s.pfl with op := none, suspended := some k }).setFld F.PFL_STATUS_SUSPENDED 1

/-- An end shows in DONE and RESULT. -/
def pflDone (s : State) : State := (s.setFld F.PFL_STATUS_DONE 1).setFld F.PFL_STATUS_RESULT St.ok

theorem pflSuspend_erase {s : State} {k : Nat} (h : s.pfl.op = some (.erase k)) :
    pflSuspend s = evcIf (pflDone (pflSuspended s k)) F.PFL_EVT_EN_EN 60 0 := by
  unfold pflSuspend
  rw [h]
  rfl

theorem pflDone_only (s : State) : s.onlyRegs (pflDone s) := State.onlyRegs_trans (s.onlyRegs_setFld _ _) (State.onlyRegs_setFld _ _ _)

theorem pflEvent_flag (s : State) (f : Fld) (h : f.reg = R.PFL_STATUS) : (evcIf s F.PFL_EVT_EN_EN 60 0).flag f = s.flag f :=
  State.flag_congr (evcIf_reg_above s _ 60 0 _ (by decide) (by rw [h]; decide))

theorem pflDone_done (s : State) : (pflDone s).flag F.PFL_STATUS_DONE = true := by
  rw [pflDone, State.flag_setFld_apart _ F.PFL_STATUS_RESULT F.PFL_STATUS_DONE _ (by decide) (by decide)]
  exact State.flag_setFld_one _ F.PFL_STATUS_DONE (by decide) rfl

theorem pflDone_suspended (s : State) : (pflDone s).flag F.PFL_STATUS_SUSPENDED = s.flag F.PFL_STATUS_SUSPENDED := by
  rw [pflDone, State.flag_setFld_apart _ F.PFL_STATUS_RESULT F.PFL_STATUS_SUSPENDED _ (by decide) (by decide),
    State.flag_setFld_apart _ F.PFL_STATUS_DONE F.PFL_STATUS_SUSPENDED _ (by decide) (by decide)]

theorem pflSuspend_shows {s : State} {k : Nat} (h : s.pfl.op = some (.erase k)) :
    (pflSuspend s).pfl.suspended = some k ∧ (pflSuspend s).pfl.op = none ∧ (pflSuspend s).flag F.PFL_STATUS_SUSPENDED = true ∧
    (pflSuspend s).mem = s.mem := by
  have honly := State.onlyRegs_trans (pflDone_only (pflSuspended s k)) (evcIf_only _ F.PFL_EVT_EN_EN 60 0)
  have hpfl : (pflSuspended s k).pfl = { s.pfl with op := none, suspended := some k } := by
    rw [pflSuspended, State.setFld_pfl, State.withPfl_pfl]
  rw [pflSuspend_erase h, honly.pfl_eq, honly.mem_eq, hpfl, pflEvent_flag _ _ rfl, pflDone_suspended]
  refine ⟨rfl, rfl, State.flag_setFld_one _ F.PFL_STATUS_SUSPENDED (by decide) rfl, ?_⟩
  rw [pflSuspended, State.setFld_mem, State.withPfl_mem]

theorem eraseOn_eq (s : State) (k : Nat) : eraseOn s k =
    ((s.withPfl { s.pfl with op := some (.erase k), suspended := none, resuming := false }).setFld F.PFL_STATUS_SUSPENDED 0).setFld
      F.PFL_STATUS_SECTOR k := rfl

theorem eraseOn_pfl (s : State) (k : Nat) :
    (eraseOn s k).pfl = { s.pfl with op := some (.erase k), suspended := none, resuming := false } := by
  rw [eraseOn_eq, State.setFld_pfl, State.setFld_pfl, State.withPfl_pfl]

theorem eraseOn_mem (s : State) (k : Nat) : (eraseOn s k).mem = s.mem := by
  rw [eraseOn_eq, State.setFld_mem, State.setFld_mem, State.withPfl_mem]

theorem eraseOn_suspended (s : State) (k : Nat) : (eraseOn s k).flag F.PFL_STATUS_SUSPENDED = false := by
  rw [eraseOn_eq, State.flag_setFld_apart _ F.PFL_STATUS_SECTOR F.PFL_STATUS_SUSPENDED _ (by decide) (by decide)]
  exact State.flag_setFld_zero _ F.PFL_STATUS_SUSPENDED (by decide)

theorem eraseOn_sector (s : State) (k : Nat) : (eraseOn s k).fld F.PFL_STATUS_SECTOR = k % 256 :=
  State.fld_setFld _ F.PFL_STATUS_SECTOR k (by decide)

theorem eraseOn_done (s : State) (k : Nat) : (eraseOn s k).flag F.PFL_STATUS_DONE = s.flag F.PFL_STATUS_DONE := by
  rw [eraseOn_eq, State.flag_setFld_apart _ F.PFL_STATUS_SECTOR F.PFL_STATUS_DONE _ (by decide) (by decide),
    State.flag_setFld_apart _ F.PFL_STATUS_SUSPENDED F.PFL_STATUS_DONE _ (by decide) (by decide)]
  rfl

theorem pflResume_free {s : State} {k : Nat} (hop : s.pfl.op = none) (hsus : s.pfl.suspended = some k) : pflResume s = eraseOn s k := by
  unfold pflResume
  rw [hop, hsus]

theorem pflResume_waits {s : State} {k : Nat} {op : PflOp} (hop : s.pfl.op = some op) (hsus : s.pfl.suspended = some k) :
    pflResume s = s.withPfl { s.pfl with resuming := true } := by
  unfold pflResume
  rw [hop, hsus]
  rfl

/-! ### The end of an operation (R376, R378) -/

/-- The operation no longer runs. -/
def pflFree (s : State) : State := s.withPfl { s.pfl with op := none }

/-- An end is told; BUSY stays where an erase is suspended. -/
def pflEnded (s : State) : State :=
  evcIf ((pflDone s).setFld F.PFL_STATUS_BUSY (if (pflDone s).pfl.suspended.isSome then 1 else 0)) F.PFL_EVT_EN_EN 60 0

theorem pflEnded_only (s : State) : s.onlyRegs (pflEnded s) :=
  State.onlyRegs_trans (State.onlyRegs_trans (pflDone_only s) (State.onlyRegs_setFld _ _ _)) (evcIf_only _ _ _ _)

theorem pflEnded_done (s : State) : (pflEnded s).flag F.PFL_STATUS_DONE = true := by
  rw [pflEnded, pflEvent_flag _ _ rfl, State.flag_setFld_apart _ F.PFL_STATUS_BUSY F.PFL_STATUS_DONE _ (by decide) (by decide), pflDone_done]

/-- A suspended erase for which a RESUME waits goes on. -/
def pflResumes (s : State) : State :=
  match s.pfl.suspended with
  | some k => if s.pfl.resuming then eraseOn s k else s
  | none => s

theorem pflResumes_alone (s : State) (h : s.pfl.suspended = none) : pflResumes s = s := by
  rw [pflResumes, h]

theorem pflResumes_waiting (s : State) (k : Nat) (h : s.pfl.suspended = some k) (hr : s.pfl.resuming = true) : pflResumes s = eraseOn s k := by
  rw [pflResumes, h]
  exact if_pos hr

theorem pflResumes_cases (s : State) : pflResumes s = s ∨ ∃ k, pflResumes s = eraseOn s k := by
  unfold pflResumes
  split
  next k _ =>
    split
    · exact .inr ⟨k, rfl⟩
    · exact .inl rfl
  next => exact .inl rfl

/-- `pflEnd` and `pflEnded` with the event left open: so stated, their cases are compared without a run of the Event Controller. -/
def pflEndBy (tell : State → Fld → Nat → Nat → State) (s : State) : State :=
  match s.pfl.op with
  | none => s
  | some op =>
    let s1 := pflEffect { s with pfl := { s.pfl with op := none } } op
    let s2 := (s1.setFld F.PFL_STATUS_DONE 1).setFld F.PFL_STATUS_RESULT St.ok
    let s3 := tell (s2.setFld F.PFL_STATUS_BUSY (if s2.pfl.suspended.isSome then 1 else 0)) F.PFL_EVT_EN_EN 60 0
    match s3.pfl.suspended with
    | some k => if s3.pfl.resuming then eraseOn s3 k else s3
    | none => s3

def pflEndedBy (tell : State → Fld → Nat → Nat → State) (s : State) : State :=
  tell ((pflDone s).setFld F.PFL_STATUS_BUSY (if (pflDone s).pfl.suspended.isSome then 1 else 0)) F.PFL_EVT_EN_EN 60 0

section
variable {s : State} {op : PflOp} (hop : s.pfl.op = some op)
include hop

theorem pflEndBy_runs (tell : State → Fld → Nat → Nat → State) :
    pflEndBy tell s = pflResumes (pflEndedBy tell (pflEffect (pflFree s) op)) := by
  unfold pflEndBy
  rw [hop]
  rfl

/-- An operation that ends has its effect, is told, and lets an erase go on for which a RESUME waits. -/
theorem pflEnd_runs : pflEnd s = pflResumes (pflEnded (pflEffect (pflFree s) op)) := pflEndBy_runs hop evcIf

theorem pflEnd_shows : (pflEnd s).mem = (pflEffect (pflFree s) op).mem ∧ (pflEnd s).flag F.PFL_STATUS_DONE = true := by
  have hmem := (pflEnded_only (pflEffect (pflFree s) op)).mem_eq
  have hdone := pflEnded_done (pflEffect (pflFree s) op)
  rw [pflEnd_runs hop]
  obtain h | ⟨k, h⟩ := pflResumes_cases (pflEnded (pflEffect (pflFree s) op))
  · rw [h]
    exact ⟨hmem, hdone⟩
  · rw [h, eraseOn_mem, eraseOn_done]
    exact ⟨hmem, hdone⟩

end

/-! ### The effects (R376, R378) -/

theorem State.onlyCells.pfl_eq {s t : State} (h : s.onlyCells t) : t.pfl = s.pfl := by obtain ⟨m, e1, e2, d, rfl⟩ := h; rfl

theorem State.withPfl_self (s : State) : s.withPfl s.pfl = s := rfl

/-- Both halves of a word are written, with new check bits. -/
def pflWritten (s : State) (a : Nat) (lo hi : Word) : State :=
  (({ s with ecc1 := dropFrom s.ecc1 a, ecc2 := dropFrom s.ecc2 a } : State).wr a 4 lo.toNat).wr (a + 4) 4 hi.toNat

theorem pflWritten_only (s : State) (a : Nat) (lo hi : Word) : s.onlyCells (pflWritten s a lo hi) :=
  have hclean : s.onlyCells { s with ecc1 := dropFrom s.ecc1 a, ecc2 := dropFrom s.ecc2 a } := ⟨s.mem, _, _, s.draws, rfl⟩
  State.onlyCells_trans hclean ((State.onlyMem_wr _ a 4 lo.toNat).wr (a + 4) 4 hi.toNat).toCells

section
variable {s : State} {a : Nat}

/-- An erased word takes what is programmed; that it holds all ones shows in the list of such words alone. -/
theorem pflEffect_erased (lo hi : Word) (h : pflErased s a = true) : ∃ l,
    pflEffect s (.program a lo hi) = (pflWritten s (0x58000000 + a) lo hi).withPfl { s.pfl with ones := l } := by
  have hpfl := (pflWritten_only s (0x58000000 + a) lo hi).pfl_eq
  have heffect : pflEffect s (.program a lo hi) = if lo = 0xFFFFFFFF ∧ hi = 0xFFFFFFFF then
      (pflWritten s (0x58000000 + a) lo hi).withPfl
        { (pflWritten s (0x58000000 + a) lo hi).pfl with ones := addTo (pflWritten s (0x58000000 + a) lo hi).pfl.ones a }
      else pflWritten s (0x58000000 + a) lo hi := if_pos h
  rw [heffect]
  clear heffect
  split
  · rw [hpfl]
    exact ⟨_, rfl⟩
  · refine ⟨s.pfl.ones, ?_⟩
    rw [show { s.pfl with ones := s.pfl.ones } = (pflWritten s (0x58000000 + a) lo hi).pfl from hpfl.symm, State.withPfl_self]

theorem pflEffect_spoilt (lo hi : Word) (h : pflErased s a = false) : pflEffect s (.program a lo hi) = scrambleWord s (0x58000000 + a) :=
  if_neg (by rw [h]; exact Bool.false_ne_true)

end

/-- A program changes neither what is suspended nor what waits. -/
theorem pflEffect_program_pfl (s : State) (a : Nat) (lo hi : Word) : ∃ l, (pflEffect s (.program a lo hi)).pfl = { s.pfl with ones := l } := by
  cases h : pflErased s a with
  | true =>
    obtain ⟨l, heffect⟩ := pflEffect_erased lo hi h
    exact ⟨l, by rw [heffect, State.withPfl_pfl]⟩
  | false => exact ⟨s.pfl.ones, by rw [pflEffect_spoilt lo hi h, (scrambleWord_only s _).pfl_eq]⟩

theorem State.bytes_setBytes_above (s : State) (a b n : Nat) (l : List Byte) (h : a + n ≤ b) : (s.setBytes b l).bytes a n = s.bytes a n := by
  induction n generalizing a with
  | zero => rfl
  | succ n ih => rw [State.bytes, State.bytes, ih (a + 1) (by omega), State.byte_setBytes_out _ _ _ _ (.inl (by omega))]

theorem State.rd_wr_above (s : State) (a b n m v : Nat) (h : a + n ≤ b) : (s.wr b m v).rd a n = s.rd a n :=
  congrArg leNat (s.bytes_setBytes_above a b n _ h)

/-- The halves of a word that was written are read back. -/
theorem pflWritten_rd (s : State) (a : Nat) (lo hi : Word) :
    (pflWritten s a lo hi).rd a 4 = lo.toNat ∧ (pflWritten s a lo hi).rd (a + 4) 4 = hi.toNat := by
  constructor
  · rw [pflWritten, State.rd_wr_above _ a (a + 4) 4 4 _ (le_refl _), State.rd_wr]
    exact Nat.mod_eq_of_lt lo.isLt
  · rw [pflWritten, State.rd_wr]
    exact Nat.mod_eq_of_lt hi.isLt

/-- An erased byte reads as it did before anything was written. -/
theorem eraseSector_byte (s : State) (k a : Nat) :
    (eraseSector s k).byte a = if within a (0x58000000 + 4096 * k) 4096 then blank a else s.byte a :=
  SMap.get_erase blank (fun x => within x (0x58000000 + 4096 * k) 4096) s.mem a

/-- Erased Parameter Flash reads 0xFF but in the factory's sector, which the model holds to read the factory's data again. -/
theorem blank_pfl (k a : Nat) (hk : k < 256) (ha : within a (0x58000000 + 4096 * k) 4096 = true) :
    blank a = if k = 1 then Config.factoryByte (a - 0x58001000) else 0xFF := by
  simp only [within, Bool.and_eq_true, decide_eq_true_eq] at ha
  obtain ⟨hlo, hhi⟩ := ha
  unfold blank
  rw [if_neg (by omega)]
  by_cases h1 : k = 1
  · rw [if_pos h1, if_pos (by omega)]
  · rw [if_neg h1, if_neg (by omega), if_pos (by omega)]

section
variable {s : State} {k : Nat} (hop : s.pfl.op = some (.erase k))
include hop

theorem pflEnd_erase_byte (a : Nat) :
    (pflEnd s).byte a = if within a (0x58000000 + 4096 * k) 4096 then blank a else s.byte a := by
  rw [State.byte_congr (pflEnd_shows hop).1]
  exact (eraseSector_byte (pflFree s) k a).trans (by rw [pflFree, State.byte_congr (State.withPfl_mem s _)])

theorem pflEnd_erase_free (hsus : s.pfl.suspended = none) : (pflEnd s).pfl.op = none := by
  have hpfl : (pflEnded (pflEffect (pflFree s) (.erase k))).pfl = (eraseSector (pflFree s) k).pfl := (pflEnded_only _).pfl_eq
  rw [pflEnd_runs hop, pflResumes_alone _ ((congrArg Pfl.suspended hpfl).trans hsus), hpfl]
  rfl

end

section
variable {s : State} {a : Nat} {lo hi : Word} (hop : s.pfl.op = some (.program a lo hi))
include hop

theorem pflEnd_program_rd (h : pflErased s a = true) :
    (pflEnd s).rd (0x58000000 + a) 4 = lo.toNat ∧ (pflEnd s).rd (0x58000000 + a + 4) 4 = hi.toNat := by
  have herased : pflErased (pflFree s) a = true := h
  obtain ⟨l, heffect⟩ := pflEffect_erased lo hi herased
  have hmem : (pflEnd s).mem = (pflWritten (pflFree s) (0x58000000 + a) lo hi).mem := by
    rw [(pflEnd_shows hop).1, heffect, State.withPfl_mem]
  rw [State.rd_congr hmem, State.rd_congr hmem]
  exact pflWritten_rd _ _ lo hi

theorem pflEnd_program_resumes {k : Nat} (hsus : s.pfl.suspended = some k) (hr : s.pfl.resuming = true) :
    (pflEnd s).pfl.op = some (.erase k) ∧ (pflEnd s).pfl.suspended = none := by
  obtain ⟨l, heffect⟩ := pflEffect_program_pfl (pflFree s) a lo hi
  have hpfl : (pflEnded (pflEffect (pflFree s) (.program a lo hi))).pfl = { (pflFree s).pfl with ones := l } :=
    (pflEnded_only _).pfl_eq.trans heffect
  rw [pflEnd_runs hop, pflResumes_waiting _ k ((congrArg Pfl.suspended hpfl).trans hsus) ((congrArg Pfl.resuming hpfl).trans hr), eraseOn_pfl]
  exact ⟨rfl, rfl⟩

end

end Sys2Proof.Machine
end

section
/-! Storage: the rows of chapter 12, and the one reading on which their statement turns (R375, R376). -/

namespace Sys2Proof.Machine

/-! ### Rows and what they show -/

theorem setUnlock_nvr (s : State) (r : Nat) (w on : Bool) : (setUnlock s r w on).nvr = s.nvr := (s.onlyRegs_setRegBit _ _ _).nvr_eq

theorem lockRegion_nvr (s : State) : (lockRegion s).nvr = s.nvr := (setUnlock_nvr _ _ _ _).trans (setUnlock_nvr s _ _ _)

theorem jRecover_uncommitted_shows (s : State) (h : s.rd journalBase 4 ≠ 0x4A434D54) :
    (jRecover s).mem = s.mem ∧ (jRecover s).fld F.NVR_STATUS_RECOV = 0 := by
  rw [jRecover_uncommitted s h, State.setFld_mem]
  exact ⟨rfl, s.fld_setFld F.NVR_STATUS_RECOV 0 (by decide)⟩

section
variable {s : State}

theorem exec_restore_refused (h : s.accepts R.NVR_RET_CTRL = true) (href : s.cycEn = true ∨ s.plan = none ∨ s.flag F.NVR_STATUS_READY = false) :
    ∃ t, exec .restore s = .next t ∧ t.fld F.NVR_RET_STAT_RESULT = St.modeRefused ∧ t.flag F.NVR_RET_STAT_DONE = true ∧ t.mem = s.mem ∧
      t.slots = s.slots := by
  have honly := State.onlyRegs_trans (s.onlyRegs_setFld F.NVR_RET_CTRL_OP 1) (retTold_only _ St.modeRefused)
  refine ⟨_, exec_restore s h, ?_⟩
  rw [startRestore_refused s href]
  exact ⟨retTold_result _ _, retTold_done _ _, honly.mem_eq, honly.slots_eq⟩

theorem exec_restore_begins (h : s.accepts R.NVR_RET_CTRL = true) (hc : s.cycEn = false) (hp : s.plan.isSome = true)
    (hr : s.flag F.NVR_STATUS_READY = true) :
    ∃ t, exec .restore s = .next t ∧ t.flag F.NVR_RET_STAT_BUSY = true ∧ t.mem = s.mem ∧ t.slots = s.slots := by
  have honly := State.onlyRegs_trans (s.onlyRegs_setFld F.NVR_RET_CTRL_OP 1) (State.onlyRegs_setFld _ F.NVR_RET_STAT_BUSY 1)
  refine ⟨_, exec_restore s h, ?_⟩
  rw [startRestore_begins s hc hp hr]
  exact ⟨State.flag_setFld_one _ F.NVR_RET_STAT_BUSY (by decide) rfl, honly.mem_eq, honly.slots_eq⟩

/-- A restore that ends with a status and restores nothing. -/
theorem exec_restoreEnd_told (hb : s.flag F.NVR_RET_STAT_BUSY = true) (status : Nat) (h : restore s = retTold s status) :
    ∃ t, exec .restoreEnd s = .next t ∧ t.fld F.NVR_RET_STAT_RESULT = status % 256 ∧ t.mem = s.mem ∧ t.slots = s.slots := by
  refine ⟨_, exec_restoreEnd s hb, ?_⟩
  rw [h]
  exact ⟨retTold_result s status, (retTold_only s status).mem_eq, (retTold_only s status).slots_eq⟩

variable {w : Writer} (h : s.accepts R.PFL_CMD = true)
include h

theorem exec_pfl_notOwner (ho : pflOwner w (pflAddr s / 4096) = false) :
    exec (.pflProgram w) s = .next (pflRefuse (s.setFld F.PFL_CMD_OP 1) St.notOwner) ∧
    exec (.pflErase w) s = .next (pflRefuse (s.setFld F.PFL_CMD_OP 2) St.notOwner) := by
  rw [exec_pflProgram w s h, exec_pflErase w s h, pflProgram_notOwner (by rwa [pflAddr_setOp]), pflErase_notOwner (by rwa [pflAddr_setOp])]
  exact ⟨rfl, rfl⟩

theorem exec_pflProgram_runs (ho : pflOwner w (pflAddr s / 4096) = true) (hop : s.pfl.op = none)
    (hsus : s.pfl.suspended ≠ some (pflAddr s / 4096)) :
    ∃ t, exec (.pflProgram w) s = .next t ∧ t.flag F.PFL_STATUS_BUSY = true ∧ t.mem = s.mem ∧
      t.pfl.op = some (.program (pflAddr s) (s.reg R.PFL_DATA_LO) (s.reg R.PFL_DATA_HI)) := by
  have hlo : (s.setFld F.PFL_CMD_OP 1).reg R.PFL_DATA_LO = s.reg R.PFL_DATA_LO := State.reg_setFld_ne _ _ _ _ (by decide)
  have hhi : (s.setFld F.PFL_CMD_OP 1).reg R.PFL_DATA_HI = s.reg R.PFL_DATA_HI := State.reg_setFld_ne _ _ _ _ (by decide)
  refine ⟨_, exec_pflProgram w s h, ?_⟩
  rw [pflProgram_runs (by rwa [pflAddr_setOp]) (by rwa [State.setFld_pfl]) (by rwa [pflAddr_setOp, State.setFld_pfl]), pflRuns_op, pflRuns_mem,
    pflAddr_setOp, hlo, hhi, State.setFld_mem]
  exact ⟨pflRuns_busy _ _ _, rfl, rfl⟩

theorem exec_pflErase_runs (ho : pflOwner w (pflAddr s / 4096) = true) (hb : s.flag F.PFL_STATUS_BUSY = false) :
    ∃ t, exec (.pflErase w) s = .next t ∧ t.flag F.PFL_STATUS_BUSY = true ∧ t.mem = s.mem ∧ t.pfl.op = some (.erase (pflAddr s / 4096)) := by
  refine ⟨_, exec_pflErase w s h, ?_⟩
  rw [pflErase_runs (by rwa [pflAddr_setOp]) (by rwa [pflBusy_setOp]), pflRuns_op, pflRuns_mem, pflAddr_setOp, State.setFld_mem]
  exact ⟨pflRuns_busy _ _ _, rfl, rfl⟩

theorem exec_pflErase_busy (ho : pflOwner w (pflAddr s / 4096) = true) (hb : s.flag F.PFL_STATUS_BUSY = true) :
    exec (.pflErase w) s = .next (pflRefuse (s.setFld F.PFL_CMD_OP 2) St.busy) := by
  rw [exec_pflErase w s h, pflErase_busy (by rwa [pflAddr_setOp]) (by rwa [pflBusy_setOp])]

variable {k : Nat}

theorem exec_pflSuspend_erase (hop : s.pfl.op = some (.erase k)) : ∃ t, exec .pflSuspend s = .next t ∧ t.pfl.suspended = some k ∧
    t.pfl.op = none ∧ t.flag F.PFL_STATUS_SUSPENDED = true ∧ t.mem = s.mem := by
  obtain ⟨hk, hnone, hflag, hmem⟩ := pflSuspend_shows (s := s.setFld F.PFL_CMD_OP 3) (by rwa [State.setFld_pfl])
  rw [State.setFld_mem] at hmem
  exact ⟨_, exec_pflSuspend s h, hk, hnone, hflag, hmem⟩

theorem exec_pflResume_free (hop : s.pfl.op = none) (hsus : s.pfl.suspended = some k) : ∃ t, exec .pflResume s = .next t ∧
    t.pfl.op = some (.erase k) ∧ t.pfl.suspended = none ∧ t.flag F.PFL_STATUS_SUSPENDED = false ∧ t.fld F.PFL_STATUS_SECTOR = k % 256 ∧
    t.mem = s.mem := by
  refine ⟨_, exec_pflResume s h, ?_⟩
  rw [pflResume_free (k := k) (by rwa [State.setFld_pfl]) (by rwa [State.setFld_pfl]), eraseOn_pfl, eraseOn_mem, State.setFld_mem]
  exact ⟨rfl, rfl, eraseOn_suspended _ k, eraseOn_sector _ k, rfl⟩

theorem exec_pflResume_waits {op : PflOp} (hop : s.pfl.op = some op) (hsus : s.pfl.suspended = some k) : ∃ t, exec .pflResume s = .next t ∧
    t.pfl.resuming = true ∧ t.pfl.op = s.pfl.op ∧ t.mem = s.mem := by
  refine ⟨_, exec_pflResume s h, ?_⟩
  rw [pflResume_waits (k := k) (op := op) (by rwa [State.setFld_pfl]) (by rwa [State.setFld_pfl]), State.withPfl_pfl, State.withPfl_mem,
    State.setFld_pfl, State.setFld_mem]
  exact ⟨rfl, rfl, rfl⟩

end

/-! ### What the statement turns on -/

/-- Sector 1, the factory's, is being erased (R375, R376). -/
def erasingFactory : State := State.reset.withPfl { op := some (.erase 1) }

/-- The statement has every erased byte read 0xFF, so it gives the factory's data of sector 1. -/
theorem factoryByte_of_storage (h : Obligations.Storage) (k : Nat) (hk : k < 4096) : Config.factoryByte k = 0xFF := by
  unfold Obligations.Storage at h
  obtain ⟨-, -, -, -, -, -, -, -, -, -, -, -, -, -, -, herase, -⟩ := h
  have hin : within (0x58001000 + k) (0x58000000 + 4096 * 1) 4096 = true := by
    simp only [within, Bool.and_eq_true, decide_eq_true_eq]
    omega
  obtain ⟨t, hstep, -, -, -, hbyte⟩ := herase 1 (0x58001000 + k) erasingFactory rfl rfl
  obtain rfl : pflEnd erasingFactory = t := Host.Outcome.next.inj hstep
  have hblank := hbyte (by decide) hin
  rw [pflEnd_erase_byte rfl, if_pos hin, blank_pfl 1 _ (by decide) hin, if_pos rfl, Nat.add_sub_cancel_left] at hblank
  exact hblank

theorem blank_erased (hf : ∀ k, k < 4096 → Config.factoryByte k = 0xFF) (k a : Nat) (hk : k < 256)
    (ha : within a (0x58000000 + 4096 * k) 4096 = true) : blank a = 0xFF := by
  rw [blank_pfl k a hk ha]
  split
  next h1 =>
    simp only [h1, within, Bool.and_eq_true, decide_eq_true_eq] at ha
    exact hf _ (by omega)
  next => rfl

theorem storage_of_factoryByte (hf : ∀ k, k < 4096 → Config.factoryByte k = 0xFF) : Obligations.Storage := by
  unfold Obligations.Storage
  refine ⟨?_, ?_, ?_, jCommit_state, exec_nvsRelease_readies, jRecover_uncommitted_shows, ?_, startSave_during, startSave_shows,
    fun s _ hd => exec_saveSeal_waits s hd, ?_, fun s h => ⟨exec_restore_refused h, exec_restore_begins h, exec_invalidate s h⟩, ?_,
    fun w s h => ⟨exec_pfl_notOwner h, exec_pflProgram_runs h, exec_pflErase_runs h, exec_pflErase_busy h⟩, ?_, ?_, ?_⟩
  · intro v s hR hW
    refine ⟨fun hl => ?_, fun hl hv => ⟨_, exec_nvrPwdR v hR, ?_⟩, fun hl hv => ⟨_, exec_nvrPwdW v hW, ?_⟩,
      fun w hl hv => ⟨_, exec_nvrPwd w v hR hW, tryPassword_wrong_shows hl hv⟩⟩
    · rw [exec_nvrPwdR v hR, exec_nvrPwdW v hW, tryPassword_locked hl, tryPassword_locked hl]
      exact ⟨rfl, rfl⟩
    · rw [tryPassword_right hl hv]
      exact ⟨regionOpen_setUnlock_same s _ false (region_lt s),
        fun r hr hne => regionOpen_setUnlock_other s _ r false false true (region_lt s) hr (.inl hne),
        fun r hr => regionOpen_setUnlock_other s _ r false true true (region_lt s) hr (.inr nofun), setUnlock_nvr _ _ _ _⟩
    · rw [tryPassword_right hl hv]
      exact ⟨regionOpen_setUnlock_same s _ true (region_lt s),
        fun r hr => regionOpen_setUnlock_other s _ r true false true (region_lt s) hr (.inr nofun), setUnlock_nvr _ _ _ _⟩
  · exact fun s hC hJ => ⟨⟨_, exec_nvrPwdLock hC, lockRegion_nvr s, lockRegion_fld s⟩,
      fun hl ho => ⟨exec_chg_queued false hC hl ho, exec_chg_queued true hC hl ho⟩,
      fun ho => ⟨exec_chg_refused false hC ho, exec_chg_refused true hC ho⟩, exec_nvrJctrlGo hJ⟩
  · intro s q l hs hr hv hq
    rw [exec_journaledWriteEnd hs hr hv]
    exact ⟨fun e he => congrArg _ (jRun_fault hq he), fun hc hf => congrArg _ (jRun_checked hq hf hc),
      fun hc => congrArg _ (jRun_refused hq hc)⟩
  · exact fun s => ⟨exec_powerFailTrigger_pin s,
      fun ha => ⟨exec_powerFailTrigger_pin_unarmed s ha, exec_powerFailTrigger_supply_unarmed s ha⟩, exec_powerFailTrigger_supply s,
      fun h hv => (exec_test s h).trans (by rw [if_pos hv]), fun h hv => (exec_test s h).trans (by rw [hv]; rfl)⟩
  · exact fun s hs hd => ⟨fun ha => ⟨_, exec_saveSeal_ends hs hd ha, rfl, finishSave_pfstop s, finishSave_saving s⟩,
      fun h ha _ => ⟨fun h4 => (exec_saveSeal_resets hs hd ha).trans (by rw [if_neg h4]),
        fun h4 => (exec_saveSeal_resets hs hd ha).trans (by rw [if_pos h4])⟩⟩
  · exact fun s hb => ⟨fun hn => exec_restoreEnd_told hb _ (restore_none s hn),
      fun h hn hst => exec_restoreEnd_told hb _ (restore_stale s hn hst)⟩
  · exact fun k s h => ⟨exec_pflSuspend_erase h, exec_pflResume_free h, fun a lo hi hop hsus =>
      ⟨exec_pflResume_waits h hop hsus, fun hr => ⟨_, rfl, pflEnd_program_resumes hop hsus hr⟩⟩⟩
  · intro k a s hop hsus
    obtain ⟨-, hdone⟩ := pflEnd_shows hop
    have hbyte := pflEnd_erase_byte hop a
    exact ⟨_, rfl, hdone, pflEnd_erase_free hop hsus, fun hout => hbyte.trans (by rw [hout]; rfl),
      fun hk hin => hbyte.trans ((if_pos hin).trans (blank_erased hf k a hk hin))⟩
  · intro a lo hi s hop her
    obtain ⟨hlo, hhi⟩ := pflEnd_program_rd hop her
    obtain ⟨-, hdone⟩ := pflEnd_shows hop
    exact ⟨_, rfl, hlo, hhi, hdone⟩

/-- The statement has every byte of an erased sector read 0xFF, and the model lets the factory's sector read the factory's data again, an
opaque constant: every other clause holds, and this one holds of exactly the devices whose factory data are 0xFF throughout. -/
theorem storage_iff_factorySector_erased : Obligations.Storage ↔ ∀ k, k < 4096 → Config.factoryByte k = 0xFF :=
  ⟨factoryByte_of_storage, storage_of_factoryByte⟩

end Sys2Proof.Machine
end

section
/-! The entry of a WARM reset with a STEP write that waits (R418, R432, R568): which register it reaches. -/

namespace Sys2Proof.Machine

/-- The cluster number at which the STEP register, 4 bytes for each cluster from `CKG_CLFREQ` on, would stand where `CYC_CTRL` does. -/
def strayCluster : Nat := (R.CYC_CTRL - R.CKG_CLFREQ 0) / 4

/-- A STEP write of value 1 waits for a boundary under that number, which names no cluster. -/
def strayStep : State := { State.reset with clk := { stepNew := [(strayCluster, 1)] } }

/-- A WARM reset lets the STEP write take effect after the registers have been reset, and bit 0 of what it writes is EN. -/
theorem enterReset_strayStep_cycEn : (enterReset strayStep (2 ^ 6) 3).cycEn = true := by decide

/-- Refutes O46: the entry of a WARM reset leaves `CYC_CTRL.EN` set in a state whose waiting STEP write stands under a cluster number
beyond 3, since the statement speaks of every state and bounds those numbers nowhere. -/
theorem not_resets : ¬ Obligations.Resets := by
  rintro ⟨-, -, -, -, -, -, -, hentry, -⟩
  obtain ⟨-, -, -, -, hoff, -⟩ := hentry strayStep (2 ^ 6) 3 (.inr rfl)
  exact Bool.false_ne_true (hoff.symm.trans enterReset_strayStep_cycEn)

end Sys2Proof.Machine
end

section
/-! A request of `ENT_REQ` behind another consumer of entropy (R295, R304, R410, R415): what the answer to that one lets start. -/

namespace Sys2Proof.Machine

/-- RANDOM of 4 bytes by partition 63, under way as the first command of its ring. -/
def randomRequest : HostCmd := ⟨1, 63, 0, ⟨0x42, 0, 7, 0, 0, 0, 0x1000, 4, 0⟩, true, none, false⟩

/-- The next command of the ring, which firmware serves, with FENCE: it may start once RANDOM has completed (R295). -/
def fencedFirmwareCmd : HostCmd := { firmwareCmd with desc := { firmwareCmd.desc with flags := 4 } }

/-- ENT is OK and RANDOM waits for it, with the fenced command behind. -/
def randomThenFirmware : State :=
  { readThenFirmware with
    hif := { readThenFirmware.hif with cmds := [randomRequest, fencedFirmwareCmd] }
    ent := { readThenFirmware.ent with waiting := [.random 1] } }.setFld F.ENT_STATUS_STATE 1

/-- GO of `ENT_REQ` for 4 bytes serves RANDOM first, and the record of the command behind it takes the first byte of its place in MGS. -/
theorem entReq_places_record : (entReq randomThenFirmware 0x80000004).byte (0x10000000 + 64 * 2) = 0x50 := by decide

theorem randomThenFirmware_record_blank : randomThenFirmware.byte (0x10000000 + 64 * 2) = 0 := by decide

/-- Refutes O47: GO of `ENT_REQ` need not leave memory as it is, since it serves the consumers that wait before it (R410), and a RANDOM
among them that completes lets the command of firmware behind it start, whose record the ring engine writes to MGS (R295, R304). -/
theorem not_bootAndEntropy : ¬ Obligations.BootAndEntropy := by
  rintro ⟨-, -, -, -, -, -, -, -, -, -, -, hreq⟩
  obtain ⟨t, hstep, -, -, -, -, hmem⟩ := hreq 0x80000004 randomThenFirmware (by decide) (by decide)
  obtain rfl : entReq randomThenFirmware 0x80000004 = t := Host.Outcome.next.inj hstep
  have hbyte := entReq_places_record
  rw [State.byte_congr hmem] at hbyte
  exact absurd (hbyte.symm.trans randomThenFirmware_record_blank) (by decide)

end Sys2Proof.Machine
end

section
/-! Clocks: failures of clock sources and their return, auto-trim, writes of STEP (R430 to R437, R439). -/

namespace Sys2Proof.Machine

/-! ### What a failure of PLL_CL leaves (R435, R436) -/

/-- A source of the AON watcher sets registers of the PMU and of the Event Controller alone, which stand above those of the CKG. -/
theorem aonEvent_reg_below (s : State) (k b : Nat) (hb : b < R.PMU_WAKE_PEND) : (aonEvent s k).reg b = s.reg b := by
  simp only [R.PMU_WAKE_PEND] at hb
  have hpend : (s.setRegBit R.PMU_WAKE_PEND k true).reg b = s.reg b :=
    State.reg_setReg_ne _ _ _ _ (by simp only [R.PMU_WAKE_PEND]; omega)
  have hevent (t : State) : (evcEvent t k).reg b = t.reg b := by
    apply evcEvent_reg <;> simp only [R.EVC_PEND, R.EVC_CNT, R.EVC_MASK, R.EVC_STORM] <;> omega
  unfold aonEvent
  split
  · exact (hevent _).trans hpend
  · exact hpend
  · rfl

theorem State.reg_congr {s t : State} (b : Nat) (h : t.regs = s.regs) : t.reg b = s.reg b := by rw [State.reg, State.reg, h]

theorem State.onlyRegs.clk_eq {s t : State} (h : s.onlyRegs t) : t.clk = s.clk := by obtain ⟨r, rfl⟩ := h; rfl

theorem cancelResume_waiting (s : State) (h : s.flag F.CKG_CL_CTRL_PENDING = true) :
    cancelResume s = (s.setFld F.CKG_CL_CTRL_PENDING 0).setFld F.CKG_CL_CTRL_REFUSED 1 := if_pos h

theorem cancelResume_reg_ne (s : State) (b : Nat) (h : b ≠ R.CKG_CL_CTRL) : (cancelResume s).reg b = s.reg b := by
  unfold cancelResume
  split
  · rw [State.reg_setFld_ne _ _ _ _ h, State.reg_setFld_ne _ _ _ _ h]
  · rfl

/-- Clusters and fabric are on their IOSC paths, and PLL_CL has no lock. -/
def clOnIosc (s : State) : State :=
  ((s.setFld F.CKG_STATUS_CL_LOCK 0).setFld F.CKG_STATUS_CL_PATH 1).setFld F.CKG_STATUS_CL_STABLE 0

theorem clOnIosc_path (s : State) : (clOnIosc s).flag F.CKG_STATUS_CL_PATH = true := by
  rw [clOnIosc, State.flag_setFld_apart _ _ _ _ (by decide) (by decide)]
  exact State.flag_setFld_one _ F.CKG_STATUS_CL_PATH (by decide) rfl

theorem clOnIosc_lock (s : State) : (clOnIosc s).flag F.CKG_STATUS_CL_LOCK = false := by
  rw [clOnIosc, State.flag_setFld_apart _ _ _ _ (by decide) (by decide), State.flag_setFld_apart _ _ _ _ (by decide) (by decide)]
  exact State.flag_setFld_zero s F.CKG_STATUS_CL_LOCK (by decide)

theorem clOnIosc_reg_ne (s : State) (b : Nat) (h : b ≠ R.CKG_STATUS) : (clOnIosc s).reg b = s.reg b := by
  rw [clOnIosc, State.reg_setFld_ne _ _ _ _ h, State.reg_setFld_ne _ _ _ _ h, State.reg_setFld_ne _ _ _ _ h]

/-- Below the PMU the response to a failure of PLL_CL changes registers by the switch of the paths and the cancelled RESUME alone. -/
theorem clFails_reg_below (s : State) (b : Nat) (h : b < R.PMU_WAKE_PEND) : (clFails s).reg b = (cancelResume (clOnIosc s)).reg b :=
  aonEvent_reg_below _ 11 b h

theorem clFails_status (s : State) (f : Fld) (h : f.reg = R.CKG_STATUS) : (clFails s).flag f = (clOnIosc s).flag f := by
  apply State.flag_congr
  rw [h, clFails_reg_below s _ (by decide), cancelResume_reg_ne _ _ (by decide)]

theorem clFails_clFailed (s : State) : (clFails s).clk.clFailed = true := by
  show (aonEvent _ 11).clk.clFailed = true
  rw [(aonEvent_only _ 11).clk_eq]

theorem clFails_monStat (s : State) (k : Nat) : (clFails s).regBit R.CKG_MON_STAT k = s.regBit R.CKG_MON_STAT k := by
  apply State.regBit_congr
  rw [clFails_reg_below s _ (by decide), cancelResume_reg_ne _ _ (by decide), clOnIosc_reg_ne _ _ (by decide)]

/-- A RESUME that waits for its boundary is refused (R436). -/
theorem clFails_refuses (s : State) (h : s.flag F.CKG_CL_CTRL_PENDING = true) :
    (clFails s).flag F.CKG_CL_CTRL_REFUSED = true ∧ (clFails s).flag F.CKG_CL_CTRL_PENDING = false := by
  have hwaits : (clOnIosc s).flag F.CKG_CL_CTRL_PENDING = true := (State.flag_congr (clOnIosc_reg_ne s _ (by decide))).trans h
  have hctrl (f : Fld) (hf : f.reg = R.CKG_CL_CTRL) : (clFails s).flag f =
      (((clOnIosc s).setFld F.CKG_CL_CTRL_PENDING 0).setFld F.CKG_CL_CTRL_REFUSED 1).flag f := by
    rw [← cancelResume_waiting _ hwaits]
    exact State.flag_congr (clFails_reg_below s _ (by rw [hf]; decide))
  rw [hctrl _ rfl, hctrl _ rfl, State.flag_setFld_apart _ _ F.CKG_CL_CTRL_PENDING _ (by decide) (by decide)]
  exact ⟨State.flag_setFld_one _ F.CKG_CL_CTRL_REFUSED (by decide) rfl, State.flag_setFld_zero _ F.CKG_CL_CTRL_PENDING (by decide)⟩

/-! ### Failures of sources (R433, R434) -/

theorem markFail_reg_ne (s : State) (k b : Nat) (h : b ≠ R.CKG_MON_STAT) : (markFail s k).reg b = s.reg b := by
  rw [markFail, State.setRegBit, State.reg_setReg_ne _ _ _ _ h, State.setRegBit, State.reg_setReg_ne _ _ _ _ h]

/-- The sticky bit of a source that fails. -/
theorem markFail_sticky (s : State) (k : Nat) (hk : k < 16) : (markFail s k).regBit R.CKG_MON_STAT k = true := by
  rw [markFail, State.regBit_setRegBit_ne _ _ _ _ _ (by omega) (by omega)]
  exact State.regBit_setRegBit_same s _ k true (by omega)

theorem markFail_promote (s : State) (k : Nat) : (markFail s k).fld F.CKG_MON_CTRL_PROMOTE = s.fld F.CKG_MON_CTRL_PROMOTE :=
  State.fld_congr (markFail_reg_ne s k _ (by decide))

theorem clockFail_promoted (s : State) (k : Nat) (hl : live s k = false) (hk : k < 4)
    (hp : (s.fld F.CKG_MON_CTRL_PROMOTE).testBit k = true) :
    clockFail s k = requestReset { markFail s k with rst := { (markFail s k).rst with
      xtalOk := (markFail s k).rst.xtalOk && decide (k ≠ 0) } } (2 ^ 5) 2 := by
  rw [clockFail, hl, if_neg Bool.false_ne_true]
  exact if_pos ⟨hk, by rwa [markFail_promote]⟩

theorem clockFail_unpromoted (s : State) (k : Nat) (hl : live s k = false)
    (hp : (s.fld F.CKG_MON_CTRL_PROMOTE).testBit k = false) : clockFail s k = clockResponse (markFail s k) k := by
  rw [clockFail, hl, if_neg Bool.false_ne_true]
  exact if_neg fun h => by rw [markFail_promote, hp] at h; exact Bool.false_ne_true h.2

/-- A failure of PLL_CL that does not reset the device (R435). -/
theorem clockFail_cl_shows (s : State) (hl : live s 1 = false) (hp : (s.fld F.CKG_MON_CTRL_PROMOTE).testBit 1 = false) :
    (clockFail s 1).flag F.CKG_STATUS_CL_PATH = true ∧ (clockFail s 1).flag F.CKG_STATUS_CL_LOCK = false ∧
    (clockFail s 1).clk.clFailed = true ∧ (clockFail s 1).regBit R.CKG_MON_STAT 1 = true ∧ (clockFail s 1).mcr.nmiNew = true ∧
    (s.flag F.CKG_CL_CTRL_PENDING = true → (clockFail s 1).flag F.CKG_CL_CTRL_REFUSED = true ∧
      (clockFail s 1).flag F.CKG_CL_CTRL_PENDING = false) := by
  have hfail : clockFail s 1 = clFails (markFail s 1) := clockFail_unpromoted s 1 hl hp
  have hctrl : (markFail s 1).flag F.CKG_CL_CTRL_PENDING = s.flag F.CKG_CL_CTRL_PENDING :=
    State.flag_congr (markFail_reg_ne s 1 _ (by decide))
  rw [hfail]
  exact ⟨(clFails_status _ _ rfl).trans (clOnIosc_path _), (clFails_status _ _ rfl).trans (clOnIosc_lock _), clFails_clFailed _,
    (clFails_monStat _ 1).trans (markFail_sticky s 1 (by decide)), rfl, fun h => clFails_refuses _ (hctrl.trans h)⟩

/-- A window that is not the second outside in a row of a monitored source is noted, and nothing else. -/
theorem exec_clockMonitorWindow_noted (k : Fin 7) (out : Bool) (s : State)
    (h : out = false ∨ has s.clk.badWin k.val = false ∨ (s.fld F.CKG_MON_CTRL_EN).testBit k.val = false) :
    exec (.clockMonitorWindow k out) s = .next { s with clk := { s.clk with badWin := putIn s.clk.badWin k.val out } } := by
  refine if_neg fun hall => ?_
  obtain ⟨⟨hout, hsecond⟩, hen⟩ := by simpa only [Bool.and_eq_true] using hall
  rcases h with h | h | h
  · exact Bool.false_ne_true (h.symm.trans hout)
  · exact Bool.false_ne_true (h.symm.trans hsecond)
  · exact Bool.false_ne_true (h.symm.trans hen)

theorem exec_clockMonitorWindow_fails (k : Fin 7) (out : Bool) (s : State) (hout : out = true) (hsecond : has s.clk.badWin k.val = true)
    (hen : (s.fld F.CKG_MON_CTRL_EN).testBit k.val = true) :
    exec (.clockMonitorWindow k out) s =
      .next (clockFail { s with clk := { s.clk with badWin := putIn s.clk.badWin k.val true } } k.val) := by
  subst hout
  exact if_pos (by simp only [hsecond, hen, Bool.and_self])

/-! ### Sources that return (R433, R434, R436) -/

theorem live_congr {s t : State} (k : Nat) (h : t.reg R.CKG_MON_STAT = s.reg R.CKG_MON_STAT) : live t k = live s k :=
  State.regBit_congr _ h

theorem clearLive_live (s : State) (k : Nat) (hk : k < 16) : live (clearLive s k) k = false :=
  State.regBit_setRegBit_same s _ _ false (by omega)

theorem clearLive_flag (s : State) (k : Nat) (f : Fld) (h : f.reg ≠ R.CKG_MON_STAT) : (clearLive s k).flag f = s.flag f :=
  State.flag_congr (State.reg_setReg_ne _ _ _ _ h)

/-- PLL_CL locks again; the clusters stay on their IOSC paths until a RESUME (R436). -/
theorem pllRelock_cl_shows (s : State) : (pllRelock s 1).flag F.CKG_STATUS_CL_LOCK = true ∧ live (pllRelock s 1) 1 = false ∧
    (pllRelock s 1).flag F.CKG_STATUS_CL_PATH = s.flag F.CKG_STATUS_CL_PATH :=
  ⟨State.flag_setFld_one _ F.CKG_STATUS_CL_LOCK (by decide) rfl,
    (live_congr 1 (State.reg_setFld_ne _ _ _ _ (by decide))).trans (clearLive_live s 1 (by decide)),
    (State.flag_setFld_apart _ _ _ _ (by decide) (by decide)).trans (clearLive_flag s 1 _ (by decide))⟩

theorem pllRelock_mc_shows (s : State) : (pllRelock s 2).flag F.CKG_STATUS_MC_LOCK = true ∧
    (pllRelock s 2).flag F.CKG_STATUS_MC_PATH = false ∧ live (pllRelock s 2) 2 = false := by
  have hlive := (live_congr 2 ((State.reg_setFld_ne ((clearLive s 2).setFld F.CKG_STATUS_MC_LOCK 1) F.CKG_STATUS_MC_PATH 0 _ (by decide)).trans
    (State.reg_setFld_ne (clearLive s 2) F.CKG_STATUS_MC_LOCK 1 _ (by decide)))).trans (clearLive_live s 2 (by decide))
  exact ⟨(State.flag_setFld_apart _ _ _ _ (by decide) (by decide)).trans (State.flag_setFld_one _ F.CKG_STATUS_MC_LOCK (by decide) rfl),
    State.flag_setFld_zero _ F.CKG_STATUS_MC_PATH (by decide), hlive⟩

/-- PLL_LK takes its lock, and the links train again, only with XTAL good. -/
theorem pllRelock_lk (s : State) : pllRelock s 3 = if s.flag F.CKG_STATUS_XTAL_GOOD = true
    then eachNat tryTrain ((clearLive s 3).setFld F.CKG_STATUS_LK_LOCK 1) (List.range 24) else clearLive s 3 := by
  rw [← clearLive_flag s 3 F.CKG_STATUS_XTAL_GOOD (by decide)]
  rfl

/-- XTAL counts well again. -/
def xtalReturned (s : State) : State :=
  ((clearLive { s with rst := { s.rst with xtalOk := true } } 0).setFld F.CKG_STATUS_XTAL_GOOD 1).setFld F.CKG_STATUS_REF_IOSC 0

theorem exec_xtalGood (s : State) : exec .xtalGood s = .next (xtalReturned s) := rfl

theorem xtalReturned_shows (s : State) : (xtalReturned s).flag F.CKG_STATUS_XTAL_GOOD = true ∧
    (xtalReturned s).flag F.CKG_STATUS_REF_IOSC = false ∧ live (xtalReturned s) 0 = false := by
  have hmon : (xtalReturned s).reg R.CKG_MON_STAT = (clearLive { s with rst := { s.rst with xtalOk := true } } 0).reg R.CKG_MON_STAT := by
    rw [xtalReturned, State.reg_setFld_ne _ _ _ _ (by decide), State.reg_setFld_ne _ _ _ _ (by decide)]
  refine ⟨?_, State.flag_setFld_zero _ F.CKG_STATUS_REF_IOSC (by decide), (live_congr 0 hmon).trans (clearLive_live _ 0 (by decide))⟩
  rw [xtalReturned, State.flag_setFld_apart _ _ _ _ (by decide) (by decide)]
  exact State.flag_setFld_one _ F.CKG_STATUS_XTAL_GOOD (by decide) rfl

theorem clResume_stable (s : State) (h : s.flag F.CKG_STATUS_CL_STABLE = true) : clResume s = s.setFld F.CKG_CL_CTRL_PENDING 1 :=
  if_pos h

theorem clResume_unstable (s : State) (h : s.flag F.CKG_STATUS_CL_STABLE = false) : clResume s = s.setFld F.CKG_CL_CTRL_REFUSED 1 :=
  if_neg (ne_true_of_eq_false h)

/-! ### Auto-trim and the rate corrector (R430, R431; log entry 194) -/

theorem steerTb_off (s : State) (n : Nat) (h : s.fld F.CKG_TRIM_CTRL_SRC ≠ 1 ∨ n = 0) : steerTb s n = s :=
  if_neg fun hon => h.elim (fun hsrc => hsrc hon.1) hon.2

theorem steerTb_reg_ne (s : State) (n a : Nat) (h : a ≠ R.CKG_TB_CORR) : (steerTb s n).reg a = s.reg a := by
  unfold steerTb
  split
  · exact State.reg_setReg_ne _ _ _ _ h
  · rfl

theorem exec_autoTrimInterval (n : Word) (e : Nat) (s : State) (h : trimExpected s = some e) :
    exec (.autoTrimInterval n) s = .next (steerTb (trimInterval s n.toNat e) n.toNat) := by
  show execAutoTrimInterval n s = _
  rw [execAutoTrimInterval, h]

theorem exec_autoTrimInterval_held (n : Word) (s : State) (h : trimExpected s = none) : exec (.autoTrimInterval n) s = .next s := by
  show execAutoTrimInterval n s = _
  rw [execAutoTrimInterval, h]

theorem trimStep_code (s : State) (n e : Nat) : (trimStep s n e).fld F.CKG_TRIM_STAT_CODE =
    if e < n then s.fld F.CKG_TRIM_STAT_CODE - 1 else min 1023 (s.fld F.CKG_TRIM_STAT_CODE + 1) := by
  have hcode : s.fld F.CKG_TRIM_STAT_CODE < 1024 := Nat.mod_lt _ (by decide)
  rw [trimStep, State.fld_setFld _ _ _ (by decide)]
  apply Nat.mod_eq_of_lt
  show _ < 1024
  split <;> omega

/-- More than 2 % off, an interval is counted as rejected. -/
theorem trimInterval_rejects (s : State) (n e : Nat) (h : 2 * e < 100 * apartBy n e) :
    trimInterval s n e = s.count F.CKG_TRIM_STAT_REJECT :=
  if_pos (by omega)

/-- Up to 2 % off, an interval changes registers by the code and TRIMMED alone. -/
theorem trimInterval_regs (s : State) (n e : Nat) (h : 100 * apartBy n e ≤ 2 * e) :
    ∃ v, (trimInterval s n e).regs =
      ((if 4 * e < 10000 * apartBy n e then trimStep s n e else s).setFld F.CKG_TRIM_STAT_TRIMMED v).regs := by
  rw [trimInterval, if_neg (by omega), Nat.mul_comm 4, Nat.mul_comm 10000]
  exact ⟨_, rfl⟩

/-- Up to 2 % off the code steps where the count is more than 400 ppm off. -/
theorem trimInterval_code (s : State) (n e : Nat) (h : 100 * apartBy n e ≤ 2 * e) :
    (trimInterval s n e).fld F.CKG_TRIM_STAT_CODE =
      if 4 * e < 10000 * apartBy n e then
        (if e < n then s.fld F.CKG_TRIM_STAT_CODE - 1 else min 1023 (s.fld F.CKG_TRIM_STAT_CODE + 1))
      else s.fld F.CKG_TRIM_STAT_CODE := by
  obtain ⟨v, hv⟩ := trimInterval_regs s n e h
  rw [State.fld_congr (State.reg_congr _ hv), State.fld_setFld_apart _ _ _ _ (by decide) (by decide)]
  split
  · exact trimStep_code s n e
  · rfl

theorem exec_autoTrimInterval_code (n : Word) (e : Nat) (s : State) (h : trimExpected s = some e)
    (hd : 100 * apartBy n.toNat e ≤ 2 * e) :
    ∃ t, exec (.autoTrimInterval n) s = .next t ∧ t.fld F.CKG_TRIM_STAT_CODE =
      (if 4 * e < 10000 * apartBy n.toNat e then
         (if e < n.toNat then s.fld F.CKG_TRIM_STAT_CODE - 1 else min 1023 (s.fld F.CKG_TRIM_STAT_CODE + 1))
       else s.fld F.CKG_TRIM_STAT_CODE) :=
  ⟨_, exec_autoTrimInterval n e s h, (State.fld_congr (steerTb_reg_ne _ _ _ (by decide))).trans (trimInterval_code s n.toNat e hd)⟩

/-! ### Writes of STEP (R432, R439, R473) -/

theorem stepWrite_above (s : State) (c v : Nat) (h : maxStep < v) : stepWrite s c v = s := if_pos h

/-- In CRIT a cluster's STEP is never raised. -/
theorem stepWrite_crit (s : State) (c v : Nat) (hcrit : (s.fld F.AGM_STATUS_CRIT).testBit c = true)
    (hv : s.fld (F.CKG_CLFREQ_STEP c) < v) : stepWrite s c v = s := by
  unfold stepWrite
  split
  · rfl
  · exact if_pos ⟨hcrit, hv⟩

/-- While the cycle runs the value waits for the boundary, in the place of one that waits already. -/
theorem stepWrite_waits (s : State) (c v : Nat) (hv : v ≤ maxStep) (hcrit : (s.fld F.AGM_STATUS_CRIT).testBit c = false)
    (hen : s.cycEn = true) (hpend : s.regBit R.AGM_STATUS (20 + c) = false) :
    stepWrite s c v = { s with clk := { s.clk with stepNew := SMap.insert (SMap.erase (fun k => k == c) s.clk.stepNew) c v } } := by
  have hdrop : dropDerate s c = s := if_neg (ne_true_of_eq_false hpend)
  rw [stepWrite, if_neg (Nat.not_lt.mpr hv), if_neg fun h => Bool.false_ne_true (hcrit.symm.trans h.1), hdrop]
  exact if_pos hen

/-! ### The statement -/

/-- Settles O48: each row is the one branch that its conditions choose; what it shows is read off the registers that the branch writes,
and the events and NMIs of a failure leave the registers of the CKG. -/
theorem clocks : Obligations.Clocks := by
  unfold Obligations.Clocks
  refine ⟨fun k out s => ⟨exec_clockMonitorWindow_noted k out s, exec_clockMonitorWindow_fails k out s⟩, fun _ _ => rfl,
    fun k s => clockFail_promoted s k, clockFail_cl_shows, ?returns,
    fun n e s he => ⟨fun hd => ?_, exec_autoTrimInterval_code n e s he⟩, exec_autoTrimInterval_held,
    fun n s => ⟨steerTb_off s n, steerTb_reg_ne s n⟩,
    fun c v s => ⟨fun h => congrArg _ (stepWrite_above s _ _ h), fun hv hcrit hen hpend => congrArg _ (stepWrite_waits s _ _ hv hcrit hen hpend),
      fun hcrit hv => congrArg _ (stepWrite_crit s _ _ hcrit hv)⟩⟩
  case returns =>
    exact fun s => ⟨⟨_, rfl, pllRelock_cl_shows s⟩, ⟨_, rfl, pllRelock_mc_shows s⟩,
      fun h => congrArg _ ((pllRelock_lk s).trans (if_pos h)),
      fun h => congrArg _ ((pllRelock_lk s).trans (if_neg (ne_true_of_eq_false h))), rfl, rfl,
      ⟨_, exec_xtalGood s, xtalReturned_shows s⟩, fun h => if_pos h, fun h => congrArg _ (clResume_stable s h),
      fun h => congrArg _ (clResume_unstable s h)⟩
  · rw [exec_autoTrimInterval n e s he, trimInterval_rejects s n.toNat e hd]

end Sys2Proof.Machine
end

section
/-! Every step keeps memory's canonical form, and every command goes on to a next state. One rule for each operation of the model
that returns a state: where the memory before it is in form, so is the memory after it (`memOk_…`); then one for each instruction
(`keepsForm_…`), which also says that it answers a next state. -/

namespace Sys2Proof.Machine

/-! ### Rules over the shape of a term -/

/-- One record update: whatever the other fields become, memory stays in form. -/
theorem memOk_update {pending : List Instr} {tb : Nat} {mem : List Host.Cell} {ecc1 ecc2 regs les mc sp mcr plan shadows loading commits unloaded
    nvAreas nvr pfl cfg boot ent rst clk pmu bkd agm twl per bmv cvu mse dpr cyc slots orphans trc dbg hif held links units fpgs draws
    readData} (h : Memory.wf mem = true) :
    State.memOk ⟨pending, tb, mem, ecc1, ecc2, regs, les, mc, sp, mcr, plan, shadows, loading, commits, unloaded, nvAreas, nvr, pfl, cfg,
      boot, ent, rst, clk, pmu, bkd, agm, twl, per, bmv, cvu, mse, dpr, cyc, slots, orphans, trc, dbg, hif, held, links, units, fpgs,
      draws, readData⟩ := h

theorem memOk_ite {c : Prop} {_ : Decidable c} {a b : State} (ha : a.memOk) (hb : b.memOk) : (if c then a else b).memOk := by
  split
  · exact ha
  · exact hb

theorem memOk_ite_snd {α : Type} {c : Prop} {_ : Decidable c} {a b : α × State} (ha : a.2.memOk) (hb : b.2.memOk) :
    (if c then a else b).2.memOk := by
  split
  · exact ha
  · exact hb

theorem memOk_snd {α : Type} {x : α} {s : State} (h : s.memOk) : (x, s).2.memOk := h

theorem State.memOk.of_eq {s t : State} (h : s.memOk) (e : t.mem = s.mem) : t.memOk := by
  unfold State.memOk; rw [e]; exact h

theorem memOk_foldl {α : Type} {f : State → α → State} {s : State} {l : List α} (hf : ∀ t x, t.memOk → (f t x).memOk) (h : s.memOk) :
    (l.foldl f s).memOk :=
  List.foldlRecOn _ _ (motive := State.memOk) h fun t ht x _ => hf t x ht

/-- What an instruction does: it goes on to a next state, of canonical memory where the state before it had that. -/
def keepsForm (s : State) (o : Outcome) : Prop := ∃ t, o = .next t ∧ (s.memOk → t.memOk)

theorem keepsForm_next {s t : State} (h : s.memOk → t.memOk) : keepsForm s (.next t) := ⟨t, rfl, h⟩

theorem keepsForm_ite {c : Prop} {_ : Decidable c} {s : State} {a b : Outcome} (ha : keepsForm s a) (hb : keepsForm s b) :
    keepsForm s (if c then a else b) := by
  split
  · exact ha
  · exact hb

theorem memOk_when {c : Prop} {_ : Decidable c} {a b : State} (ha : a.memOk) (hb : a.memOk → b.memOk) : (if c then b else a).memOk :=
  memOk_ite (hb ha) ha

theorem memOk_unless {c : Prop} {_ : Decidable c} {a b : State} (ha : a.memOk) (hb : a.memOk → b.memOk) : (if c then a else b).memOk :=
  memOk_ite ha (hb ha)

/-! ### Shared operations on the state -/

theorem memOk_setReg {s : State} {a : Nat} {v : Word} (h : s.memOk) : (s.setReg a v).memOk := h
theorem memOk_setFld {s : State} {f : Fld} {v : Nat} (h : s.memOk) : (s.setFld f v).memOk := h
theorem memOk_setRegBit {s : State} {a k : Nat} {v : Bool} (h : s.memOk) : (s.setRegBit a k v).memOk := h
theorem memOk_count {s : State} {f : Fld} (h : s.memOk) : (s.count f).memOk := memOk_ite (memOk_setFld h) h
theorem memOk_countReg {s : State} {a : Nat} (h : s.memOk) : (s.countReg a).memOk := memOk_count h
theorem memOk_setFldIn {s : State} {f : Fld} {lo hi v : Nat} (h : s.memOk) : (s.setFldIn f lo hi v).memOk := memOk_ite (memOk_setFld h) h
theorem memOk_resetRegs {s : State} {p : Nat → Bool} (h : s.memOk) : (s.resetRegs p).memOk := h
theorem memOk_setByte {s : State} {a : Nat} {v : Byte} (h : s.memOk) : (s.setByte a v).memOk := s.setByte_wf a v h
theorem memOk_setBytes {s : State} {a : Nat} {l : List Byte} (h : s.memOk) : (s.setBytes a l).memOk := s.setBytes_wf a l h
theorem memOk_define {s : State} {a n : Nat} (h : s.memOk) : (s.define a n).memOk := memOk_ite h h
theorem memOk_wr {s : State} {a n v : Nat} (h : s.memOk) : (s.wr a n v).memOk := memOk_setBytes h
theorem memOk_wipe {s : State} {p : Nat → Bool} (h : s.memOk) : (s.wipe p).memOk := s.wipe_wf p h
theorem memOk_eraseSector {s : State} {k : Nat} (h : s.memOk) : (eraseSector s k).memOk := memOk_update (memOk_wipe h)
theorem memOk_store {s : State} {a : Nat} {l : List Byte} (h : s.memOk) : (s.store a l).memOk := memOk_update (memOk_setBytes h)
theorem memOk_draw {s : State} (h : s.memOk) : (s.draw).2.memOk := h

theorem memOk_evcEvent {s : State} {src : Nat} (h : s.memOk) : (evcEvent s src).memOk :=
  memOk_ite h (memOk_ite (memOk_setRegBit (memOk_setRegBit (memOk_count (memOk_setRegBit h)))) (memOk_count (memOk_setRegBit h)))

theorem memOk_aonEvent {s : State} {src : Nat} (h : s.memOk) : (aonEvent s src).memOk := by
  unfold aonEvent
  split
  · exact memOk_evcEvent (memOk_setRegBit h)
  · exact memOk_setRegBit h
  · exact h

theorem memOk_evcIf {s : State} {en : Fld} {first k : Nat} (h : s.memOk) : (evcIf s en first k).memOk := memOk_ite (memOk_evcEvent h) h
theorem memOk_raiseNmi {s : State} {kind : Nat} (h : s.memOk) : (raiseNmi s kind).memOk := h
theorem memOk_mgsUe {s : State} {a : Nat} (h : s.memOk) : (mgsUe s a).memOk := memOk_raiseNmi (memOk_setReg (memOk_count h))
theorem memOk_setLe {s : State} {n : Nat} {c : Cpu} (h : s.memOk) : (s.setLe n c).memOk := h

theorem memOk_setCpu {s : State} {p : ProcId} {c : Cpu} (h : s.memOk) : (s.setCpu p c).memOk := by
  unfold State.setCpu
  split
  · exact memOk_setLe h
  · exact h
  · exact h

theorem memOk_upd {s : State} {p : ProcId} {f : Proc → Proc} (h : s.memOk) : (s.upd p f).memOk := memOk_setCpu h
theorem memOk_updK {s : State} {p : ProcId} {f : Core → Core} (h : s.memOk) : (s.updK p f).memOk := memOk_setCpu h

/-! ### Trace -/

theorem memOk_dbgEvent {s : State} {k : Nat} (h : s.memOk) : (dbgEvent s k).memOk := memOk_evcIf h
theorem memOk_setFifo {s : State} {src : Nat} {l : List (List Byte)} (h : s.memOk) : (setFifo s src l).memOk := h
theorem memOk_setLost {s : State} {src n : Nat} (h : s.memOk) : (setLost s src n).memOk := h
theorem memOk_setLastTime {s : State} {src : Nat} {t : Option Nat} (h : s.memOk) : (setLastTime s src t).memOk := h

theorem memOk_trcEmit {s : State} {src : Nat} {pkt : List Byte} (h : s.memOk) : (trcEmit s src pkt).memOk :=
  memOk_ite h (memOk_ite (memOk_unless (memOk_setLost (memOk_setFifo h)) memOk_setLastTime)
    (memOk_dbgEvent (memOk_count (memOk_setLost h))))

theorem memOk_trcByte {s : State} {b : Byte} (h : s.memOk) : (trcByte s b).memOk :=
  memOk_ite (memOk_ite (memOk_update (memOk_setFld (memOk_setByte h))) (memOk_setFld (memOk_setByte h))) h

theorem memOk_trcBytes {s : State} {l : List Byte} (h : s.memOk) : (trcBytes s l).memOk := by
  induction l generalizing s with
  | nil => exact h
  | cons b l ih => exact ih (memOk_trcByte h)

theorem memOk_trcTimes {s : State} {n : Nat} (h : s.memOk) : (trcTimes s n).memOk := by
  induction n with
  | zero => exact h
  | succ n ih => exact memOk_when ih fun hk => memOk_setLastTime (memOk_trcBytes hk)

theorem memOk_trcSync {s : State} (h : s.memOk) : (trcSync s).memOk := memOk_update (memOk_trcTimes (memOk_trcBytes h))

theorem memOk_trcStart {s : State} (h : s.memOk) : (trcStart s).memOk :=
  memOk_ite h (memOk_trcSync (memOk_update (memOk_setFld (memOk_setFld (memOk_setFld h)))))

theorem memOk_trcStop {s : State} (h : s.memOk) : (trcStop s).memOk := h

theorem memOk_trcServe {s : State} (h : s.memOk) : (trcServe s).memOk :=
  memOk_ite h (by split; exacts [h, by split; exacts [h, memOk_when (memOk_update (memOk_trcBytes (memOk_setFifo h))) memOk_trcSync]])

theorem memOk_trcFlush {s : State} {src : Nat} (h : s.memOk) : (trcFlush s src).memOk := memOk_trcBytes (memOk_setFifo h)
theorem memOk_trcDown {s : State} {src : Nat} (h : s.memOk) : (trcDown s src).memOk := memOk_trcFlush (memOk_trcEmit h)
theorem memOk_trcUp {s : State} {src : Nat} (h : s.memOk) : (trcUp s src).memOk := memOk_trcEmit h
theorem memOk_setHalted {s : State} {p : ProcId} {h' : Bool} (h : s.memOk) : (setHalted s p h').memOk := memOk_updK h

theorem memOk_haltEngines {s : State} {c n : Nat} {on : Bool} (h : s.memOk) : (haltEngines s c on n).memOk := by
  induction n with
  | zero => exact h
  | succ n ih => exact memOk_setLe ih

theorem memOk_haltMember {s : State} {m : Nat} {h' : Bool} (h : s.memOk) : (haltMember s m h').memOk :=
  memOk_ite (memOk_setHalted h) (memOk_ite (memOk_setHalted h) (memOk_haltEngines h))

theorem memOk_haltMembers {s : State} {mask n : Nat} {on : Bool} (h : s.memOk) : (haltMembers s mask on n).memOk := by
  induction n with
  | zero => exact h
  | succ n ih => exact memOk_when ih memOk_haltMember

theorem memOk_haltAll {s : State} {mask string : Nat} (h : s.memOk) : (haltAll s mask string).memOk :=
  memOk_unless (memOk_setFld (memOk_setFld (memOk_setFld (memOk_update (memOk_setFld (memOk_haltMembers h)))))) memOk_dbgEvent

theorem memOk_haltRelease {s : State} (h : s.memOk) : (haltRelease s).memOk :=
  memOk_dbgEvent (memOk_trcEmit (memOk_setFld (memOk_setFld (memOk_haltMembers h))))

theorem memOk_stringPulse {s : State} {k : Nat} (h : s.memOk) : (stringPulse s k).memOk := by
  unfold stringPulse
  extract_lets mask0 mask s1 s2 s3 s4
  have h1 : s1.memOk := memOk_ite h (memOk_ite (memOk_ite h (memOk_haltAll h)) (memOk_count h))
  have h2 : s2.memOk := memOk_ite (memOk_trcStop h1) h1
  have h3 : s3.memOk := memOk_ite (memOk_trcStart h2) h2
  have h4 : s4.memOk := memOk_ite (memOk_trcEmit h3) h3
  exact memOk_ite (memOk_dbgEvent h4) h4

/-! ### Event lines and pending bits -/

theorem memOk_setVec {s : State} {v : Nat} {x : Vec} (h : s.memOk) : (s.setVec v x).memOk := h
theorem memOk_post {s : State} {o : HostOut} (h : s.memOk) : (s.post o).memOk := h

theorem memOk_sendVector {s : State} {v : Nat} (h : s.memOk) : (sendVector s v).memOk :=
  memOk_ite (memOk_setVec h) (memOk_post (memOk_setVec h))

theorem memOk_vecEntry {s : State} {v : Nat} {urgent : Bool} (h : s.memOk) : (vecEntry s v urgent).memOk :=
  memOk_ite (memOk_sendVector (memOk_setVec h)) (memOk_setVec h)

theorem memOk_vecsAtLatch {s : State} {v : Nat} (h : s.memOk) : (vecsAtLatch s v).memOk := by
  induction v with
  | zero => exact h
  | succ v ih => exact memOk_when ih memOk_sendVector

theorem memOk_devEvt {s : State} {k : Nat} (h : s.memOk) : (devEvt s k).memOk :=
  memOk_ite h (memOk_ite (memOk_sendVector (memOk_setRegBit h)) (memOk_setRegBit h))

theorem memOk_bumpSeq {s : State} {part : Nat} (h : s.memOk) : (bumpSeq s part).memOk := h

theorem memOk_postEvent {s : State} {part type : Nat} {data : List Nat} (h : s.memOk) : (postEvent s part type data).memOk :=
  memOk_ite h (memOk_ite (memOk_update (memOk_bumpSeq h)) (memOk_devEvt (memOk_update (memOk_count (memOk_countReg (memOk_bumpSeq h))))))

theorem memOk_postOverflow {s : State} {part : Nat} (h : s.memOk) : (postOverflow s part).memOk :=
  memOk_ite h (memOk_update (memOk_bumpSeq h))

theorem memOk_postEvents {s : State} {type : Nat} {data l : List Nat} (h : s.memOk) : (postEvents s type data l).memOk := by
  induction l generalizing s with
  | nil => exact h
  | cons p l ih => exact ih (memOk_postEvent h)

/-! ### Safe state machine -/

theorem memOk_setTrack {s : State} {p : Nat} {t : Bool} (h : s.memOk) : (s.setTrack p t).memOk :=
  memOk_ite (memOk_setRegBit h) (memOk_setRegBit h)

theorem memOk_resumeRaster {s : State} (h : s.memOk) : (resumeRaster s).memOk := memOk_ite h h
theorem memOk_setSlot {s : State} {n : Nat} {x : Slot} (h : s.memOk) : (s.setSlot n x).memOk := h

theorem memOk_writeInternal {s : State} {n : Nat} {value : Option Word} {status : Option Nat} (h : s.memOk) :
    (s.writeInternal n value status).memOk :=
  h

theorem memOk_slotCommit {s : State} {n : Nat} {v : Word} (h : s.memOk) : (slotCommit s n v).memOk := h
theorem memOk_slotHold {s : State} {n : Nat} (h : s.memOk) : (slotHold s n).memOk := h
theorem memOk_slotSafe {s : State} {n : Nat} (h : s.memOk) : (slotSafe s n).memOk := h
theorem memOk_setLnk {s : State} {l : Nat} {x : Lnk} (h : s.memOk) : (s.setLnk l x).memOk := h
theorem memOk_setStn {s : State} {l st : Nat} {y : Stn} (h : s.memOk) : (s.setStn l st y).memOk := h

theorem memOk_eachNat {f : State → Nat → State} {s : State} {l : List Nat} (hf : ∀ t k, t.memOk → (f t k).memOk) (h : s.memOk) :
    (eachNat f s l).memOk := by
  induction l generalizing s with
  | nil => exact h
  | cons k l ih => exact ih (hf s k h)

/-! ### Calibration -/

theorem memOk_useCal {s : State} {u : SMap (Nat × Nat)} (h : s.memOk) : (useCal s u).memOk := memOk_ite (memOk_setFld h) h

theorem memOk_checkFactory {s : State} (h : s.memOk) : (checkFactory s).memOk :=
  memOk_ite (memOk_useCal (memOk_setFld (memOk_setFld (memOk_setFld h)))) (memOk_evcIf (memOk_setFld (memOk_setFld (memOk_setFld h))))

/-! ### Closed blocks and held accesses -/

theorem memOk_busErrOf {s : State} {code part a : Nat} {write : Bool} (h : s.memOk) : (busErrOf s code part a write).memOk :=
  memOk_evcEvent (memOk_ite (memOk_setFld h) (memOk_setReg (memOk_setReg h)))

theorem memOk_pmuEvent {s : State} {k : Nat} (h : s.memOk) : (pmuEvent s k).memOk := memOk_evcIf h
theorem memOk_startOn {s : State} {d : Nat} (h : s.memOk) : (startOn s d).memOk := h

theorem memOk_switchOn {s : State} {d : Nat} (h : s.memOk) : (switchOn s d).memOk :=
  memOk_ite (memOk_update (memOk_setRegBit h)) (memOk_ite (memOk_setRegBit h) (memOk_startOn h))

theorem memOk_wakeAccess {s : State} {d : Nat} (h : s.memOk) : (wakeAccess s d).2.memOk :=
  memOk_ite_snd h (memOk_snd (memOk_ite (memOk_setRegBit (memOk_switchOn h)) (memOk_pmuEvent (memOk_setRegBit (memOk_switchOn h)))))

theorem memOk_holdAccess {s : State} {w : Writer} {read : Bool} {a : Nat} {v : Word} (h : s.memOk) : (holdAccess s w read a v).memOk := h

theorem memOk_accessAway {s : State} {w : Writer} {read : Bool} {a : Nat} {v : Word} (h : s.memOk) : (accessAway s w read a v).memOk :=
  memOk_ite (memOk_busErrOf h) (by
      split
      · exact h
      · exact memOk_ite (memOk_holdAccess (memOk_wakeAccess h)) (memOk_busErrOf (memOk_wakeAccess h)))

theorem keepsForm_atRegBy {s effect : State} {w : Writer} {a : Nat} {v : Word} (heffect : s.memOk → effect.memOk) :
    keepsForm s (atRegBy s w a v effect) :=
  keepsForm_next fun h => memOk_ite (heffect h) (memOk_accessAway h)

theorem keepsForm_atReg {s effect : State} {a : Nat} {v : Word} (heffect : s.memOk → effect.memOk) : keepsForm s (atReg s a v effect) :=
  keepsForm_atRegBy heffect

theorem keepsForm_atRead {s : State} {a : Nat} {r : Word × State} (hr : s.memOk → r.2.memOk) : keepsForm s (atRead s a r) :=
  keepsForm_next fun h => memOk_ite (memOk_update (hr h)) (memOk_accessAway h)

/-! ### Host rings -/

theorem memOk_setRing {s : State} {p k : Nat} {x : Ring} (h : s.memOk) : (s.setRing p k x).memOk := h
theorem memOk_ringPut {s : State} {p k : Nat} {body : List Byte} {flags : Nat} (h : s.memOk) : (ringPut s p k body flags).memOk := h
theorem memOk_dropCmd {s : State} {serial : Nat} (h : s.memOk) : (dropCmd s serial).memOk := h
theorem memOk_markStarted {s : State} {serial : Nat} (h : s.memOk) : (markStarted s serial).memOk := h

theorem memOk_writeCpl {s : State} {c : HostCmd} {x : Cpl} (h : s.memOk) : (writeCpl s c x).memOk :=
  memOk_ite (memOk_setFld (memOk_countReg (memOk_ringPut (memOk_dropCmd h))))
    (memOk_vecEntry (memOk_setFld (memOk_countReg (memOk_ringPut (memOk_dropCmd h)))))

theorem memOk_tryCpl {s : State} {c : HostCmd} (h : s.memOk) : (tryCpl s c).memOk := by
  unfold tryCpl
  split
  · exact h
  · exact memOk_ite (memOk_dropCmd h) (memOk_ite (memOk_writeCpl h) h)

theorem memOk_freeRecord {s : State} {serial : Nat} (h : s.memOk) : (freeRecord s serial).memOk := h
theorem memOk_markDone {s : State} {serial : Nat} {x : Cpl} (h : s.memOk) : (markDone s serial x).memOk := h

theorem memOk_finishCmd {s : State} {serial : Nat} {x : Cpl} (h : s.memOk) : (finishCmd s serial x).memOk := by
  unfold finishCmd
  split
  · exact h
  · exact memOk_tryCpl (memOk_markDone (memOk_freeRecord h))

theorem memOk_fwPlace {s : State} {c : HostCmd} (h : s.memOk) : (fwPlace s c).memOk := by
  unfold fwPlace
  split
  · exact h
  · exact memOk_ite h (memOk_ite (memOk_finishCmd (memOk_busErrOf (memOk_markStarted h)))
        (memOk_evcEvent (memOk_update (memOk_setBytes (memOk_markStarted h)))))

theorem memOk_fwStep {s : State} {c : HostCmd} (h : s.memOk) : (fwStep s c).memOk :=
  memOk_ite h (memOk_ite (memOk_finishCmd (memOk_markStarted h)) (memOk_fwPlace h))

theorem memOk_fwPump {s : State} (h : s.memOk) : (fwPump s).memOk := memOk_foldl (fun _ _ ht => memOk_fwStep ht) h
theorem memOk_settle {s : State} (h : s.memOk) : (settle s).memOk := memOk_fwPump (memOk_foldl (fun _ _ ht => memOk_tryCpl ht) h)

theorem memOk_hostComplete {s : State} {serial : Nat} {x : Cpl} (h : s.memOk) : (hostComplete s serial x).memOk :=
  memOk_fwPump (memOk_finishCmd h)

theorem memOk_tellPath {s : State} {p : Path} {x : Cpl} (h : s.memOk) : (tellPath s p x).memOk := by
  unfold tellPath
  split
  · exact h
  · exact memOk_hostComplete h

theorem memOk_endCmd {s : State} {c : HostCmd} {st : Nat} (h : s.memOk) : (endCmd s c st).memOk := memOk_hostComplete h
theorem memOk_endWindow {s : State} {c : HostCmd} (h : s.memOk) : (endWindow s c).memOk := memOk_endCmd (memOk_countReg h)

theorem memOk_withHostData {s : State} {c : HostCmd} {a n : Nat} {d : HostData} {k : List Byte → State} (h : s.memOk)
    (hk : ∀ y0, (k y0).memOk) : (withHostData s c a n d k).memOk :=
  memOk_ite (memOk_endWindow h) (by split; exacts [memOk_endCmd h, hk _])

theorem memOk_answerHost {s : State} {c : HostCmd} {a : Nat} {l : List Byte} {x : Cpl} (h : s.memOk) : (answerHost s c a l x).memOk :=
  memOk_ite (memOk_endWindow h) (memOk_hostComplete (memOk_post h))

theorem memOk_postSlots {s : State} {a : Nat} {l : List Nat} (h : s.memOk) : (postSlots s a l).memOk := h

theorem memOk_answerSlots {s : State} {c : HostCmd} {a : Nat} {l : List Nat} (h : s.memOk) : (answerSlots s c a l).memOk :=
  memOk_ite (memOk_endWindow h) (memOk_hostComplete (memOk_postSlots h))

theorem memOk_drbgUsed {s : State} (h : s.memOk) : (s.drbgUsed).memOk := memOk_ite h h
theorem memOk_drbg {s : State} (h : s.memOk) : (s.drbg).2.memOk := memOk_snd (memOk_drbgUsed (memOk_draw h))
theorem memOk_healthTell {s : State} (h : s.memOk) : (healthTell s).memOk := memOk_ite h (memOk_postEvents h)

/-! ### Frames of the links -/

theorem memOk_sendFrame {s : State} {l st ty ch : Nat} {payload : List Byte} {seq : Option Nat} (h : s.memOk) :
    (sendFrame s l st ty ch payload seq).memOk :=
  memOk_ite h (memOk_setLnk h)

theorem memOk_sendBlock {s : State} {b : KBlock} (h : s.memOk) : (sendBlock s b).memOk :=
  memOk_eachNat (fun _ _ ht => memOk_ite (memOk_setLnk ht) ht) h

theorem memOk_endpointValue {s : State} {l st ep : Nat} (h : s.memOk) : (endpointValue s l st ep).2.memOk := by
  unfold endpointValue
  split
  · exact h
  · exact memOk_snd (memOk_draw h)

theorem memOk_outPayload {s : State} {l st : Nat} {eps : List Nat} (h : s.memOk) : (outPayload s l st eps).2.memOk := by
  induction eps generalizing s with
  | nil => exact h
  | cons ep eps ih => exact ih (memOk_endpointValue h)

theorem memOk_outFrame {l : Nat} {s : State} {c : StnCfg} (h : s.memOk) : (outFrame l s c).memOk := by
  unfold outFrame
  exact memOk_ite h (memOk_setLnk (memOk_sendFrame (memOk_outPayload h)))

theorem memOk_outFrames {s : State} {l : Nat} (h : s.memOk) : (outFrames s l).memOk :=
  memOk_ite h (memOk_foldl (fun _ _ ht => memOk_outFrame ht) h)

/-! ### Dispatcher -/

theorem memOk_setRun {s : State} {i : Nat} {x : BlkRun} (h : s.memOk) : (s.setRun i x).memOk := h
theorem memOk_setGen {s : State} {i g : Nat} (h : s.memOk) : (s.setGen i g).memOk := h
theorem memOk_setWindup {s : State} {i w : Nat} (h : s.memOk) : (s.setWindup i w).memOk := h
theorem memOk_bumpGen {s : State} {i : Nat} (h : s.memOk) : (s.bumpGen i).memOk := memOk_update (memOk_setGen h)
theorem memOk_dprEvent {s : State} {k : Nat} (h : s.memOk) : (dprEvent s k).memOk := memOk_evcIf h
theorem memOk_markHwm {s : State} {c : Nat} (h : s.memOk) : (markHwm s c).memOk := memOk_ite (memOk_setFld h) h

theorem memOk_place {s : State} {i : Nat} (h : s.memOk) : (place s i).memOk :=
  memOk_ite (memOk_markHwm (memOk_update (memOk_setRun h))) (memOk_unless (memOk_setFld (memOk_countReg (memOk_setRun h))) fun hk =>
    memOk_dprEvent (memOk_update hk))

theorem memOk_refill {s : State} {c : Nat} {wasFull : Bool} (h : s.memOk) : (refill s c wasFull).memOk :=
  memOk_ite h (by split; exacts [h, memOk_markHwm (memOk_update (memOk_setRun h))])

theorem memOk_makeReady {s : State} {l : List Nat} (h : s.memOk) : (makeReady s l).memOk :=
  memOk_eachNat (fun _ _ ht => memOk_place ht) (memOk_eachNat (fun _ _ ht => memOk_setRun ht) h)

theorem memOk_lowerCounts {s : State} {l : List Nat} (h : s.memOk) : (lowerCounts s l).2.memOk := by
  induction l generalizing s with
  | nil => exact h
  | cons i l ih =>
    unfold lowerCounts; dsimp only
    split
    · exact ih (memOk_setRun h)
    · exact ih h

theorem memOk_walkFrame {s : State} {l st : Nat} (h : s.memOk) : (walkFrame s l st).2.memOk := memOk_ite_snd h (memOk_lowerCounts h)
theorem memOk_frameTrigger {s : State} {l st : Nat} (h : s.memOk) : (frameTrigger s l st).memOk := memOk_makeReady (memOk_walkFrame h)

theorem memOk_failSuccs {s : State} {i fuel : Nat} (h : s.memOk) : (failSuccs s i fuel).memOk := by
  induction fuel generalizing s i with
  | zero => exact h
  | succ fuel ih =>
    refine memOk_eachNat (fun t j ht => ?_) h
    split
    · exact ih (memOk_setRun ht)
    · exact ht

theorem memOk_failBlock {s : State} {i cause report : Nat} (h : s.memOk) : (failBlock s i cause report).memOk :=
  memOk_failSuccs (memOk_setRun h)

theorem memOk_beginOut {s : State} {ls : List Nat} (h : s.memOk) : (beginOut s ls).memOk := by
  induction ls generalizing s with
  | nil => exact h
  | cons l ls ih => exact ih (memOk_ite (memOk_outFrames (memOk_update h)) h)

theorem memOk_setGroupRes {s : State} {g res : Nat} (h : s.memOk) : (setGroupRes s g res).memOk := h

theorem memOk_groupCommit {s : State} {g : Nat} (h : s.memOk) : (groupCommit s g).memOk :=
  memOk_beginOut (memOk_countReg (memOk_setGroupRes (memOk_eachNat (fun _ _ ht => memOk_ite (memOk_slotSafe ht) (memOk_slotCommit ht)) h)))

theorem memOk_groupHold {s : State} {g : Nat} (h : s.memOk) : (groupHold s g).memOk :=
  memOk_beginOut (memOk_countReg (memOk_setGroupRes (memOk_eachNat (fun _ _ ht => memOk_slotHold ht) h)))

theorem memOk_groupTrack {s : State} {g : Nat} (h : s.memOk) : (groupTrack s g).memOk :=
  memOk_beginOut (memOk_setGroupRes (memOk_eachNat (fun _ _ ht => by split; exacts [memOk_slotSafe ht, memOk_slotHold ht]) h))

theorem memOk_groupCheck {s : State} {g : Nat} (h : s.memOk) : (groupCheck s g).memOk := memOk_ite h (memOk_ite (memOk_groupCommit h) h)
theorem memOk_updLe {s : State} {n : Nat} {f : Cpu → Cpu} (h : s.memOk) : (updLe s n f).memOk := memOk_setLe h
theorem memOk_resetLe {s : State} {n : Nat} {st : ProcState} (h : s.memOk) : (resetLe s n st).memOk := h
theorem memOk_resetLeAll {s : State} {n : Nat} {st : ProcState} (h : s.memOk) : (resetLeAll s n st).memOk := h
theorem memOk_startKernel {s : State} {n : Nat} (h : s.memOk) : (startKernel s n).memOk := h

theorem memOk_abandoned {s : State} {v : Eval} {cause : Nat} (h : s.memOk) : (abandoned s v cause).memOk :=
  memOk_ite (memOk_countReg h) (memOk_ite h (memOk_ite (memOk_place (memOk_countReg (memOk_setRun h))) (memOk_failBlock h)))

theorem memOk_retireEngine {s : State} {n cause : Nat} (h : s.memOk) : (retireEngine s n cause).memOk :=
  memOk_ite h (by
      split
      · exact memOk_abandoned (memOk_dprEvent (memOk_countReg (memOk_setReg (by
            split
            · exact memOk_bumpGen (memOk_resetLe h)
            · exact memOk_resetLe h))))
      · exact memOk_dprEvent (memOk_countReg (memOk_setReg (by split; exacts [memOk_bumpGen (memOk_resetLe h), memOk_resetLe h]))))

theorem memOk_dispatchTo {s : State} {n i : Nat} (h : s.memOk) : (dispatchTo s n i).memOk :=
  memOk_trcEmit (memOk_refill (memOk_ite (memOk_update (memOk_countReg (memOk_updLe (memOk_setRun h))))
    (memOk_countReg (memOk_updLe (memOk_setRun h)))))

theorem memOk_dispatchUnit {s : State} {c : Nat} (h : s.memOk) : (dispatchUnit s c).memOk :=
  memOk_ite h (by split; exacts [memOk_dispatchTo h, h])

theorem memOk_stealArbiter {s : State} (h : s.memOk) : (stealArbiter s).memOk := by
  unfold stealArbiter
  dsimp only
  exact memOk_ite h (by split; exacts [h, by split; exacts [memOk_countReg (memOk_dispatchTo h), memOk_update h]])

theorem memOk_blockGood {s : State} {i : Nat} (h : s.memOk) : (blockGood s i).memOk := by
  unfold blockGood
  dsimp only
  split
  · exact memOk_groupCheck (memOk_makeReady (memOk_lowerCounts (memOk_update (memOk_setRun h))))
  · exact memOk_makeReady (memOk_lowerCounts (memOk_update (memOk_setRun h)))

theorem memOk_recordReport {s : State} {v : Eval} {code : Option Nat} (h : s.memOk) : (recordReport s v code).memOk :=
  memOk_ite (memOk_ite (memOk_unless (memOk_ite (memOk_countReg h) h) fun hk => memOk_update (memOk_setRun hk))
      (memOk_countReg (memOk_ite (memOk_countReg h) h))) (memOk_ite (memOk_ite (memOk_countReg h) h) (by
      split
      · exact memOk_failBlock (memOk_ite (memOk_countReg h) h)
      · exact memOk_ite (memOk_failBlock (memOk_ite (memOk_countReg h) h)) (memOk_blockGood (memOk_ite (memOk_countReg h) h))
      · exact memOk_failBlock (memOk_ite (memOk_countReg h) h)
      · exact memOk_failBlock (memOk_ite (memOk_countReg h) h)))

theorem memOk_engineReport {s : State} {n : Nat} (h : s.memOk) : (engineReport s n).memOk :=
  memOk_ite h (memOk_ite (memOk_ite (memOk_updLe h) (memOk_retireEngine h)) (by
      split
      · exact memOk_trcEmit (memOk_recordReport (memOk_updLe h))
      · exact memOk_updLe h))

theorem memOk_unqueue {s : State} {i : Nat} (h : s.memOk) : (unqueue s i).memOk := by
  unfold unqueue
  split
  · exact memOk_refill (memOk_setRun h)
  · exact memOk_setRun h
  · exact h

theorem memOk_quarantineReset {s : State} {n : Nat} {v : Eval} (h : s.memOk) : (quarantineReset s n v).memOk :=
  memOk_ite (memOk_countReg (memOk_unqueue (memOk_dprEvent (memOk_setReg
    (memOk_update (memOk_bumpGen (memOk_startKernel (memOk_resetLe h))))))))
    (memOk_unless (memOk_unqueue (memOk_dprEvent (memOk_setReg (memOk_update (memOk_bumpGen (memOk_startKernel (memOk_resetLe h)))))))
    memOk_failBlock)

theorem memOk_budgetOverrun {s : State} {n : Nat} (h : s.memOk) : (budgetOverrun s n).memOk := by
  unfold budgetOverrun
  dsimp only
  split
  · exact h
  · exact memOk_ite h (memOk_ite (memOk_quarantineReset (memOk_countReg h)) (memOk_retireEngine (memOk_update (memOk_countReg h))))

theorem memOk_releaseQuar {s : State} {l : List Nat} (h : s.memOk) : (releaseQuar s l).memOk := h
theorem memOk_loadCounts {s : State} (h : s.memOk) : (loadCounts s).memOk := h
theorem memOk_openQueues {s : State} (h : s.memOk) : (openQueues s).memOk := memOk_makeReady h
theorem memOk_countMiss {s : State} {p : Nat} (h : s.memOk) : (countMiss s p).memOk := memOk_update (memOk_countReg h)

theorem memOk_missBlock {s : State} {i : Nat} (h : s.memOk) : (missBlock s i).memOk := by
  unfold missBlock
  split
  · exact h
  · exact memOk_update (memOk_postEvent (memOk_countMiss h))

theorem memOk_closeGroup {s : State} {g : Nat} (h : s.memOk) : (closeGroup s g).memOk :=
  memOk_ite h (memOk_ite (memOk_groupTrack h) (memOk_groupHold h))

theorem memOk_markLate {s : State} {n : Nat} (h : s.memOk) : (markLate s n).memOk := by
  induction n with
  | zero => exact h
  | succ n ih => exact memOk_updLe ih

theorem memOk_cycEvent {s : State} {k : Nat} (h : s.memOk) : (cycEvent s k).memOk := memOk_evcIf h

theorem memOk_closeCompute {s : State} (h : s.memOk) : (closeCompute s).memOk :=
  memOk_update (memOk_markLate (memOk_ite (memOk_when (memOk_eachNat (fun _ _ ht => memOk_missBlock ht) h) memOk_cycEvent)
    (memOk_eachNat (fun _ _ ht => memOk_closeGroup ht) (memOk_when (memOk_eachNat (fun _ _ ht => memOk_missBlock ht) h) memOk_cycEvent))))

theorem memOk_setSpares {s : State} {c : Nat} {l : List Nat} (h : s.memOk) : (setSpares s c l).memOk := h
theorem memOk_rolesRetired {s : State} {c : Nat} (h : s.memOk) : (rolesRetired s c).memOk := h
theorem memOk_rolesWritten {s : State} {c : Nat} (h : s.memOk) : (rolesWritten s c).memOk := memOk_ite h (memOk_setSpares h)
theorem memOk_rolesCount {s : State} {c : Nat} (h : s.memOk) : (rolesCount s c).memOk := h

theorem memOk_clusterRoles {s : State} {c : Nat} (h : s.memOk) : (clusterRoles s c).memOk :=
  memOk_rolesCount (memOk_rolesWritten (memOk_rolesRetired h))

theorem memOk_writeGens {s : State} (h : s.memOk) : (writeGens s).memOk :=
  memOk_update (memOk_eachNat (fun _ _ ht => memOk_ite (memOk_setByte ht) ht) h)

theorem memOk_windupStep {s : State} {i : Nat} (h : s.memOk) : (windupStep s i).memOk :=
  memOk_ite h (memOk_ite (memOk_update (memOk_countReg (memOk_setWindup h))) (memOk_setWindup h))

theorem memOk_windupAll {s : State} (h : s.memOk) : (windupAll s).memOk := memOk_eachNat (fun _ _ ht => memOk_windupStep ht) h
theorem memOk_ownViolation {s : State} (h : s.memOk) : (ownViolation s).memOk := h

theorem memOk_cmuStore {s : State} {n : Option Nat} {b : StoreEntry} {slot part : Nat} (h : s.memOk) : (cmuStore s n b slot part).memOk :=
  memOk_ite (memOk_countReg h) (memOk_ite (memOk_countReg h) (memOk_ite h (memOk_ite h (by
      split
      · split; exacts [memOk_ite h (memOk_ownViolation h), memOk_ownViolation h]
      · exact memOk_ownViolation h))))

theorem memOk_ssmStore {s : State} {n : Option Nat} {b : StoreEntry} {slot part : Nat} (h : s.memOk) : (ssmStore s n b slot part).memOk :=
  memOk_ite (memOk_countReg h) (memOk_ite (memOk_countReg h) (memOk_ite (memOk_ownViolation h) (by split <;> exact memOk_writeInternal h)))

/-! ### Links -/

theorem memOk_countBad {s : State} {l : Nat} {x2 : FrameRes} (h : s.memOk) : (countBad s l x2).memOk := by
  unfold countBad
  split
  · exact h
  · exact memOk_countReg h
  · exact memOk_countReg h
  · exact memOk_countReg h

theorem memOk_sflEvent {s : State} {l k : Nat} (h : s.memOk) : (sflEvent s l k).memOk := memOk_evcIf h

theorem memOk_recordPut {s : State} {a : Nat} {l : List Byte} (h : s.memOk) : (recordPut s a l).memOk :=
  memOk_ite (memOk_busErrOf h) (memOk_setBytes h)

theorem memOk_acyComplete {s : State} {l k status result : Nat} {data : List Byte} (h : s.memOk) :
    (acyComplete s l k status result data).memOk := by
  unfold acyComplete
  dsimp only
  split
  · exact h
  · split; exacts [memOk_sflEvent (memOk_countReg (by
        split
        · exact memOk_recordPut (memOk_recordPut (memOk_recordPut (memOk_recordPut (memOk_unless (memOk_setLnk h) memOk_recordPut))))
        · exact memOk_ite (memOk_hostComplete (memOk_setLnk h)) (memOk_ite (memOk_hostComplete (memOk_post (memOk_setLnk h)))
              (memOk_hostComplete (memOk_countReg (memOk_setLnk h)))))), memOk_countReg (by
              split
              · exact memOk_recordPut (memOk_recordPut (memOk_recordPut (memOk_recordPut (memOk_unless (memOk_setLnk h) memOk_recordPut))))
              · exact memOk_ite (memOk_hostComplete (memOk_setLnk h)) (memOk_ite (memOk_hostComplete (memOk_post (memOk_setLnk h)))
                    (memOk_hostComplete (memOk_countReg (memOk_setLnk h)))))]

theorem memOk_acyFail {s : State} {l k : Nat} {p : Acy → Bool} (h : s.memOk) : (acyFail s l p k).memOk := by
  induction k generalizing s with
  | zero => exact h
  | succ k ih =>
    refine ih ?_
    split
    · exact memOk_ite (memOk_acyComplete h) h
    · exact h

theorem memOk_stnTo {s : State} {l st state cause : Nat} (h : s.memOk) : (stnTo s l st state cause).memOk := by
  unfold stnTo
  extract_lets y s1 _ s2 s3 s4 s5 s6
  have h2 : s2.memOk := memOk_setLnk (memOk_setStn h)
  have h3 : s3.memOk := memOk_ite (memOk_countReg h2) h2
  have h4 : s4.memOk := memOk_ite (memOk_countReg h3) h3
  have h5 : s5.memOk := memOk_ite (memOk_acyFail h4) h4
  have h6 : s6.memOk := memOk_ite h5 (memOk_sflEvent h5)
  exact memOk_ite (memOk_postEvents h6) h6

theorem memOk_setRetry {s : State} {l st : Nat} {on : Bool} (h : s.memOk) : (setRetry s l st on).memOk := h
theorem memOk_stnOut {s : State} {l st state cause : Nat} (h : s.memOk) : (stnOut s l st state cause).memOk := memOk_setStn (memOk_stnTo h)
theorem memOk_sendHold {s : State} {l st : Nat} (h : s.memOk) : (sendHold s l st).memOk := memOk_countReg (memOk_sendFrame h)

theorem memOk_linkTo {s : State} {l state : Nat} (h : s.memOk) : (linkTo s l state).memOk :=
  memOk_postEvents (memOk_sflEvent (memOk_setFld (memOk_setLnk h)))

theorem memOk_endTest {s : State} {l : Nat} (h : s.memOk) : (endTest s l).memOk := by
  unfold endTest
  dsimp only
  exact memOk_ite h (by
      split
      · exact memOk_hostComplete (memOk_sflEvent (memOk_setLnk (memOk_setFld (memOk_setFld h))))
      · exact memOk_sflEvent (memOk_setLnk (memOk_setFld (memOk_setFld h))))

theorem memOk_linkDown {s : State} {l cause : Nat} (h : s.memOk) : (linkDown s l cause).memOk :=
  memOk_ite h (memOk_acyFail (memOk_eachNat (fun _ _ ht => memOk_ite (memOk_setStn ht) (memOk_setRetry (memOk_stnTo ht)))
    (memOk_setLnk (memOk_linkTo (memOk_setFld (memOk_endTest h))))))

theorem memOk_signalLost {s : State} {l : Nat} {lasted : Bool} (h : s.memOk) : (signalLost s l lasted).memOk :=
  memOk_ite (memOk_setFld (memOk_setFld h)) (memOk_linkDown (memOk_setFld (memOk_setFld h)))

theorem memOk_setFpg {s : State} {g : Nat} {x : Fpg} (h : s.memOk) : (s.setFpg g x).memOk := h
theorem memOk_tryTrain {s : State} {l : Nat} (h : s.memOk) : (tryTrain s l).memOk := memOk_ite (memOk_linkTo h) h

theorem memOk_leaveTest {s : State} {l : Nat} (h : s.memOk) : (leaveTest s l).memOk :=
  memOk_ite h (memOk_ite (memOk_linkTo (memOk_endTest h)) (memOk_linkDown h))

theorem memOk_admitUid {s : State} {l st : Nat} {c : StnCfg} (h : s.memOk) : (admitUid s l st c).2.memOk :=
  memOk_ite_snd (by split; exacts [h, memOk_snd (memOk_setStn (memOk_draw h))]) h

theorem memOk_sendAdmit {s : State} {l st : Nat} (h : s.memOk) : (sendAdmit s l st).memOk := by
  unfold sendAdmit
  split
  · exact memOk_sendFrame (memOk_admitUid h)
  · exact h

theorem memOk_acyAgain {s : State} {l st seq : Nat} (h : s.memOk) : (acyAgain s l st seq).memOk := by
  unfold acyAgain
  split
  · exact h
  · split; exacts [h, memOk_setLnk (memOk_sendFrame h)]

theorem memOk_sendDue {l : Nat} {s : State} {x2 : DueFrame} (h : s.memOk) : (sendDue l s x2).memOk := by
  unfold sendDue
  split
  · exact memOk_ite h (memOk_sendHold h)
  · exact memOk_ite (memOk_sendAdmit h) h
  · exact memOk_acyAgain h

theorem memOk_putDue {s : State} {l : Nat} {x : DueFrame} (h : s.memOk) : (putDue s l x).memOk := memOk_ite h (memOk_setLnk h)

theorem memOk_askFrame {s : State} {l : Nat} {x : DueFrame} (h : s.memOk) : (askFrame s l x).memOk :=
  memOk_ite (memOk_sendDue h) (memOk_putDue h)

theorem memOk_pumpDue {s : State} {l : Nat} (h : s.memOk) : (pumpDue s l).memOk :=
  memOk_foldl (fun _ _ ht => memOk_sendDue ht) (memOk_setLnk h)

theorem memOk_soughtStn {s : State} {l st : Nat} (h : s.memOk) : (soughtStn s l st).memOk := memOk_setStn (memOk_stnTo h)

theorem memOk_identStn {l : Nat} {s : State} {st : Nat} (h : s.memOk) : (identStn l s st).memOk :=
  memOk_ite (memOk_sendFrame (memOk_setStn (memOk_setLnk h))) h

theorem memOk_pumpIdent {s : State} {l : Nat} (h : s.memOk) : (pumpIdent s l).memOk := memOk_eachNat (fun _ _ ht => memOk_identStn ht) h
theorem memOk_beginAdmission {s : State} {l st : Nat} (h : s.memOk) : (beginAdmission s l st).memOk := memOk_identStn (memOk_soughtStn h)

theorem memOk_exchangeStn {l : Nat} {s : State} {st : Nat} (h : s.memOk) : (exchangeStn l s st).memOk :=
  memOk_ite (memOk_sendFrame (memOk_setStn h)) h

theorem memOk_pumpDelay {s : State} {l : Nat} (h : s.memOk) : (pumpDelay s l).memOk := memOk_eachNat (fun _ _ ht => memOk_exchangeStn ht) h

theorem memOk_pumpLink {s : State} {l : Nat} (h : s.memOk) : (pumpLink s l).memOk :=
  memOk_ite (memOk_pumpDelay (memOk_pumpIdent (memOk_pumpDue h))) h

theorem memOk_askDelay {s : State} {l st : Nat} (h : s.memOk) : (askDelay s l st).memOk := memOk_exchangeStn (memOk_setStn h)
theorem memOk_delayReq {s : State} {l st : Nat} (h : s.memOk) : (delayReq s l st).memOk := memOk_askDelay (memOk_setStn h)

theorem memOk_nextAdmission {s : State} {l : Nat} (h : s.memOk) : (nextAdmission s l).memOk :=
  memOk_ite h (memOk_ite h (by split; exacts [memOk_beginAdmission h, h]))

theorem memOk_admitCheck {s : State} {l : Nat} (h : s.memOk) : (admitCheck s l).memOk :=
  memOk_ite (memOk_nextAdmission (memOk_linkTo h)) (memOk_nextAdmission h)

theorem memOk_admissionFail {s : State} {l st state cause : Nat} (h : s.memOk) : (admissionFail s l st state cause).memOk :=
  memOk_admitCheck (memOk_ite (memOk_askFrame (memOk_stnOut h)) (memOk_stnOut h))

theorem memOk_delayDone {s : State} {l st : Nat} (h : s.memOk) : (delayDone s l st).memOk :=
  memOk_ite (memOk_askFrame (memOk_setStn (memOk_setStn h))) (memOk_admissionFail (memOk_setStn h))

theorem memOk_stnMiss {s : State} {l st cause : Nat} (h : s.memOk) : (stnMiss s l st cause).memOk :=
  memOk_ite (memOk_setStn h) (memOk_stnOut (memOk_setStn h))

theorem memOk_markLink {s : State} {l st : Nat} {bad : Bool} (h : s.memOk) : (markLink s l st bad).memOk :=
  memOk_eachNat (fun _ _ ht => memOk_setSlot ht) (memOk_eachNat (fun _ _ ht => memOk_setSlot ht) h)

theorem memOk_clearLink {s : State} {l st : Nat} (h : s.memOk) : (clearLink s l st).memOk :=
  memOk_eachNat (fun _ _ ht => memOk_setSlot ht) h

theorem memOk_markStale {s : State} {l st : Nat} (h : s.memOk) : (markStale s l st).memOk :=
  memOk_eachNat (fun _ _ ht => memOk_setSlot ht) h

theorem memOk_gateSlots {s : State} {l st : Nat} (h : s.memOk) : (gateSlots s l st).memOk :=
  memOk_eachNat (fun _ _ ht => memOk_ite (memOk_slotSafe ht) ht) h

theorem memOk_releaseGate {s : State} {l st : Nat} (h : s.memOk) : (releaseGate s l st).memOk :=
  memOk_ite h (memOk_eachNat (fun _ _ ht => memOk_ite (memOk_slotCommit ht) ht) h)

theorem memOk_writeInputs {s : State} {l st : Nat} {c : StnCfg} {f : Frame} (h : s.memOk) : (writeInputs s l st c f).memOk :=
  memOk_eachNat (fun _ _ ht => memOk_update (memOk_setSlot ht)) h

theorem memOk_commitSplits {s : State} {l st : Nat} (h : s.memOk) : (commitSplits s l st).memOk :=
  memOk_eachNat (fun _ _ ht => memOk_postEvent (memOk_cycEvent (memOk_countReg ht))) h

theorem memOk_inAccepted {s : State} {l : Nat} {f : Frame} {c : StnCfg} (h : s.memOk) : (inAccepted s l f c).memOk :=
  memOk_ite (memOk_countReg (memOk_ite (memOk_setStn h) h)) (memOk_ite (memOk_countReg (memOk_ite (memOk_setStn h) h)) (memOk_frameTrigger
    (memOk_ite (memOk_setStn (memOk_countReg (memOk_writeInputs (memOk_when (memOk_ite (memOk_setStn h) h) memOk_commitSplits))))
    (memOk_releaseGate (memOk_setStn (memOk_countReg (memOk_writeInputs (memOk_when (memOk_ite (memOk_setStn h) h)
    memOk_commitSplits))))))))

theorem memOk_inFrame {s : State} {l : Nat} {f : Frame} (h : s.memOk) : (inFrame s l f).memOk :=
  memOk_ite (memOk_ite (memOk_setLnk h) (memOk_countBad h)) (memOk_ite (memOk_countBad h) (by
      split
      · split; exacts [memOk_ite (memOk_inAccepted h) (memOk_countBad h), memOk_countBad h]
      · exact memOk_countBad h))

theorem memOk_announce {s : State} {l : Nat} {f : Frame} (h : s.memOk) : (announce s l f).memOk :=
  memOk_ite (memOk_countBad h) (by
      split
      · exact memOk_ite (memOk_countBad h) (by
            split
            · exact memOk_askFrame (memOk_stnOut h)
            · exact memOk_askFrame (memOk_stnTo h)
            · exact memOk_askFrame h
            · exact memOk_askFrame h
            · exact memOk_askFrame h
            · exact h)
      · exact memOk_countBad h)

theorem memOk_identRsp {s : State} {l : Nat} {f : Frame} (h : s.memOk) : (identRsp s l f).memOk := by
  unfold identRsp
  dsimp only
  split
  · exact memOk_ite (memOk_ite h (memOk_admissionFail h)) (memOk_ite (memOk_setStn h) (memOk_ite (memOk_delayReq (memOk_setStn h))
        (memOk_admissionFail (memOk_setStn h))))
  · exact memOk_countBad h
  · exact memOk_countBad h

theorem memOk_takenDelay {s : State} {l st v : Nat} (h : s.memOk) : (takenDelay s l st v).memOk :=
  memOk_ite (memOk_when (memOk_setStn (memOk_setStn h)) memOk_askFrame) (memOk_ite (memOk_stnOut (memOk_setStn h))
    (memOk_askDelay (memOk_setStn h)))

theorem memOk_delayRsp {s : State} {l : Nat} {f : Frame} {rt : Nat} (h : s.memOk) : (delayRsp s l f rt).memOk :=
  memOk_ite (memOk_takenDelay h) (by
      split
      · exact memOk_ite (memOk_delayDone (memOk_setStn h)) (memOk_ite (memOk_admissionFail (memOk_setStn h))
            (memOk_delayReq (memOk_setStn h)))
      · exact memOk_countBad h)

theorem memOk_admitAck {s : State} {l : Nat} {f : Frame} (h : s.memOk) : (admitAck s l f).memOk :=
  memOk_ite (memOk_setStn h) (memOk_ite (memOk_setStn h) (by
      split
      · exact memOk_ite (memOk_admitCheck (memOk_setStn h)) h
      · exact memOk_countBad h
      · exact memOk_ite h (memOk_countBad h)))

theorem memOk_stnEnterRun {s : State} {l st : Nat} (h : s.memOk) : (stnEnterRun s l st).memOk := by
  unfold stnEnterRun
  split
  · exact h
  · exact memOk_eachNat (fun _ _ ht => memOk_postEvent ht) (memOk_gateSlots (memOk_clearLink (memOk_stnTo (memOk_setStn h))))

theorem memOk_stnAck {s : State} {l st p : Nat} (h : s.memOk) : (stnAck s l st p).memOk := memOk_ite (memOk_releaseGate (memOk_setStn h)) h
theorem memOk_acyPut {s : State} {l : Nat} {a : Acy} (h : s.memOk) : (acyPut s l a).memOk := h

theorem memOk_acyGrant {s : State} {l k : Nat} (h : s.memOk) : (acyGrant s l k).memOk := by
  unfold acyGrant
  split
  · exact h
  · exact memOk_setLnk (memOk_sendFrame h)

theorem memOk_acyOne {s t : State} {l : Nat} (h : s.memOk) (ht : acyOne s l = some t) : t.memOk := by
  unfold acyOne at ht; dsimp only at ht
  split at ht
  · cases ht; exact memOk_acyGrant h
  · split at ht
    · cases ht; exact memOk_setLnk (memOk_acyGrant h)
    · cases ht

theorem memOk_acyMany {s : State} {l n : Nat} (h : s.memOk) : (acyMany s l n).memOk := by
  induction n generalizing s with
  | zero => exact h
  | succ n ih =>
    unfold acyMany
    split
    next s1 hs1 => exact ih (memOk_acyOne h hs1)
    next => exact h

theorem memOk_acr {s : State} {l : Nat} {f : Frame} (h : s.memOk) : (acr s l f).memOk :=
  memOk_ite (memOk_countBad h) (by
      split
      · exact memOk_ite (memOk_countBad h) (by split; exacts [memOk_countBad h, memOk_ite (memOk_setLnk h) (memOk_acyComplete h)])
      · exact memOk_countBad h)

theorem memOk_acrTimeout {s : State} {l st : Nat} (h : s.memOk) : (acrTimeout s l st).memOk := by
  unfold acrTimeout
  split
  · exact h
  · split; exacts [h, memOk_ite h (memOk_ite (memOk_askFrame h) (memOk_acyComplete h))]

theorem memOk_acyCancelAt {s : State} {l : Nat} {k : Option Nat} (h : s.memOk) : (acyCancelAt s l k).2.memOk := by
  unfold acyCancelAt
  split
  · exact h
  · split; exacts [h, memOk_ite_snd (memOk_snd (memOk_acyComplete h)) h]

theorem memOk_acySubmitRecord {s : State} {l r : Nat} (h : s.memOk) : (acySubmitRecord s l r).memOk :=
  memOk_ite (memOk_acyPut h) (memOk_sflEvent (memOk_countReg (memOk_recordPut (memOk_recordPut (memOk_recordPut (memOk_recordPut h))))))

theorem memOk_patStart {s : State} {l : Nat} {by' : Option Nat} (h : s.memOk) : (patStart s l by').memOk :=
  memOk_ite (memOk_linkTo (memOk_setLnk (memOk_setFld (memOk_setFld (memOk_when (memOk_setReg (memOk_setReg h)) memOk_sendFrame))))) (by
      split
      · exact memOk_hostComplete (memOk_setFld h)
      · exact memOk_setFld h)

theorem memOk_patStop {s : State} {l : Nat} (h : s.memOk) : (patStop s l).memOk :=
  memOk_ite h (memOk_leaveTest (memOk_ite (memOk_sendFrame h) h))

theorem memOk_patBit {l : Nat} {s : State} {right : Bool} (h : s.memOk) : (patBit l s right).memOk :=
  memOk_ite (memOk_when (memOk_setLnk h) memOk_setFld) (memOk_ite
    (memOk_sflEvent (memOk_setFld (memOk_setFld (memOk_ite (memOk_when (memOk_setLnk h) memOk_countReg)
    (memOk_countReg (memOk_when (memOk_setLnk h) memOk_countReg)))))) (memOk_ite (memOk_when (memOk_setLnk h) memOk_countReg)
    (memOk_countReg (memOk_when (memOk_setLnk h) memOk_countReg))))

theorem memOk_patBits {s : State} {l : Nat} {rx : List Bool} (h : s.memOk) : (patBits s l rx).memOk :=
  memOk_ite (memOk_foldl (fun _ _ ht => memOk_patBit ht) h) h

theorem memOk_unitsOff {s : State} {p : Nat → Bool} (h : s.memOk) : (unitsOff s p).memOk := h

theorem memOk_fpcTo {s : State} {g state : Nat} (h : s.memOk) : (fpcTo s g state).memOk :=
  memOk_when (memOk_setFld (memOk_ite (memOk_unitsOff h) h)) fun hk => memOk_eachNat (fun _ _ ht => memOk_linkDown ht) (memOk_setFpg hk)

theorem memOk_fpcFault {s : State} {g : Nat} {fast : Bool} (h : s.memOk) : (fpcFault s g fast).memOk :=
  memOk_postEvent (memOk_evcIf (memOk_setFld (memOk_setFld (memOk_setFld (memOk_fpcTo h)))))

theorem memOk_fpcEn {s : State} {g : Nat} {en : Bool} (h : s.memOk) : (fpcEn s g en).memOk :=
  memOk_ite (memOk_ite (memOk_fpcTo (memOk_setFld h)) (memOk_setFld h)) (memOk_setFpg (memOk_setFld (memOk_fpcTo (memOk_setFld h))))

theorem memOk_fpcClr {s : State} {g : Nat} (h : s.memOk) : (fpcClr s g).memOk := memOk_ite (memOk_setFld (memOk_fpcTo h)) h

/-! ### Commands of the links and current outputs -/

theorem keepsForm_execInFrame {l : Fin 24} {f : Frame} {s : State} : keepsForm s (execInFrame l f s) := keepsForm_next memOk_inFrame
theorem keepsForm_execAnnounce {l : Fin 24} {f : Frame} {s : State} : keepsForm s (execAnnounce l f s) := keepsForm_next memOk_announce
theorem keepsForm_execIdentRsp {l : Fin 24} {f : Frame} {s : State} : keepsForm s (execIdentRsp l f s) := keepsForm_next memOk_identRsp

theorem keepsForm_execDelayRsp {l : Fin 24} {f : Frame} {rt : Word} {s : State} : keepsForm s (execDelayRsp l f rt s) :=
  keepsForm_next memOk_delayRsp

theorem keepsForm_execAdmitAck {l : Fin 24} {f : Frame} {s : State} : keepsForm s (execAdmitAck l f s) := keepsForm_next memOk_admitAck
theorem keepsForm_execAcr {l : Fin 24} {f : Frame} {s : State} : keepsForm s (execAcr l f s) := keepsForm_next memOk_acr

theorem keepsForm_execDiagResponse {l : Fin 24} {f : Frame} {s : State} : keepsForm s (execDiagResponse l f s) :=
  keepsForm_ite (keepsForm_next memOk_countBad) ((by
      split
      · exact keepsForm_ite (keepsForm_next memOk_setStn) (keepsForm_next memOk_countBad)
      · exact keepsForm_next memOk_countBad))

theorem memOk_newEpoch {s : State} {l : Nat} (h : s.memOk) : (newEpoch s l).memOk :=
  memOk_ite (memOk_setFld (memOk_setLnk (memOk_drbg h))) (memOk_ite h (memOk_setFld h))

theorem memOk_enumStart {s : State} {l : Nat} (h : s.memOk) : (enumStart s l).memOk :=
  memOk_pumpIdent (memOk_eachNat (fun _ _ ht => memOk_soughtStn ht) (memOk_linkTo (memOk_newEpoch h)))

theorem keepsForm_execTrainSync {l : LinkSync} {s : State} : keepsForm s (execTrainSync l s) :=
  keepsForm_ite (keepsForm_next fun h => memOk_setFld (memOk_setFld h)) (keepsForm_next fun h => memOk_enumStart
    (memOk_setFld (memOk_setFld h)))

theorem keepsForm_execTrainTimeout {l : Fin 24} {s : State} : keepsForm s (execTrainTimeout l s) :=
  keepsForm_ite (keepsForm_next memOk_linkDown) (keepsForm_next id)

theorem memOk_enumResult {l : Nat} {s : State} {st : Nat} (h : s.memOk) : (enumResult l s st).memOk :=
  memOk_ite h (memOk_ite (memOk_stnOut h) (memOk_ite (memOk_askFrame (memOk_stnOut h)) (memOk_delayReq h)))

theorem keepsForm_execEnumEnd {l : Fin 24} {s : State} : keepsForm s (execEnumEnd l s) :=
  keepsForm_ite (keepsForm_next id) (keepsForm_next fun h => memOk_admitCheck (memOk_eachNat (fun _ _ ht => memOk_enumResult ht)
    (memOk_linkTo h)))

theorem keepsForm_execLinkRetry {l : Fin 24} {s : State} : keepsForm s (execLinkRetry l s) :=
  keepsForm_ite (keepsForm_next fun h => memOk_tryTrain (memOk_setLnk h)) (keepsForm_next id)

theorem keepsForm_execStationRetryExpiry {l : Fin 24} {st : Fin 32} {s : State} : keepsForm s (execStationRetryExpiry l st s) :=
  keepsForm_ite (keepsForm_next fun h => memOk_nextAdmission (memOk_setStn (memOk_stnTo (memOk_setRetry h)))) (keepsForm_next id)

theorem memOk_takenTimeout {s : State} {l st : Nat} (h : s.memOk) : (takenTimeout s l st).memOk :=
  memOk_ite h (memOk_ite (memOk_stnOut h) (memOk_ite (memOk_ite (memOk_stnOut (memOk_setStn h)) (memOk_askDelay (memOk_setStn h))) h))

theorem keepsForm_execAdmissionAnswerTimeout {l : Fin 24} {st : Fin 32} {s : State} : keepsForm s (execAdmissionAnswerTimeout l st s) :=
  keepsForm_ite (keepsForm_next memOk_takenTimeout) (keepsForm_ite (keepsForm_next id) (keepsForm_ite (keepsForm_next fun h => memOk_ite
      (memOk_setStn h) h) ((by
      split
      · exact keepsForm_next memOk_admissionFail
      · exact keepsForm_ite (keepsForm_next fun h => memOk_admissionFail (memOk_setStn h)) (keepsForm_next fun h => memOk_delayReq
            (memOk_setStn h))
      · exact keepsForm_next memOk_admissionFail
      · exact keepsForm_next id))))

theorem keepsForm_execDiagPoll {l : Fin 24} {st : Fin 32} {s : State} : keepsForm s (execDiagPoll l st s) := by
  unfold execDiagPoll
  split
  · exact keepsForm_ite (keepsForm_next fun h => memOk_setStn (memOk_sendFrame h)) (keepsForm_next id)
  · exact keepsForm_next id

theorem keepsForm_execDiagPollTimeout {l : Fin 24} {st : Fin 32} {s : State} : keepsForm s (execDiagPollTimeout l st s) :=
  keepsForm_ite (keepsForm_next fun h => memOk_stnMiss (memOk_setStn h)) (keepsForm_next id)

theorem memOk_takenAdmit {l : Nat} {s : State} {st : Nat} (h : s.memOk) : (takenAdmit l s st).memOk :=
  memOk_ite (memOk_sendAdmit (memOk_setStn h)) h

theorem memOk_takenMeasure {s : State} {l : Nat} (h : s.memOk) : (takenMeasure s l).memOk :=
  memOk_ite h (by split; exacts [memOk_askDelay (memOk_setStn h), h])

theorem keepsForm_execAcyclicSlot {l : Fin 24} {s : State} : keepsForm s (execAcyclicSlot l s) :=
  keepsForm_ite (keepsForm_next id) (keepsForm_next fun h => memOk_unless (memOk_takenMeasure
    (memOk_eachNat (fun _ _ ht => memOk_takenAdmit ht) (memOk_pumpLink h))) memOk_acyMany)

theorem keepsForm_execAcrTimeout {l : Fin 24} {st : Fin 32} {s : State} : keepsForm s (execAcrTimeout l st s) :=
  keepsForm_next memOk_acrTimeout

theorem keepsForm_execAcyRepeatDue {l : Fin 24} {k : Fin 64} {s : State} : keepsForm s (execAcyRepeatDue l k s) :=
  keepsForm_next memOk_setLnk

theorem keepsForm_execAcyRequestTimeout {l : Fin 24} {k : Fin 64} {s : State} : keepsForm s (execAcyRequestTimeout l k s) := by
  unfold execAcyRequestTimeout
  split
  · exact keepsForm_ite (keepsForm_next id) (keepsForm_next memOk_acyComplete)
  · exact keepsForm_next id

theorem keepsForm_execSflnAcySub {l : Fin 24} {a : Word} {s : State} : keepsForm s (execSflnAcySub l a s) :=
  keepsForm_atReg fun h => memOk_ite (memOk_acySubmitRecord h) h

theorem memOk_acyCancelTag {s : State} {l tag : Nat} (h : s.memOk) : (acyCancelTag s l tag).memOk :=
  memOk_setFld (memOk_setFld (memOk_acyCancelAt h))

theorem keepsForm_execSflnAcyCancel {l : Fin 24} {tag : Word} {s : State} : keepsForm s (execSflnAcyCancel l tag s) :=
  keepsForm_atReg memOk_acyCancelTag

theorem memOk_sflEn {s : State} {l : Nat} {en : Bool} (h : s.memOk) : (sflEn s l en).memOk :=
  memOk_ite (memOk_tryTrain (memOk_setFld h)) (memOk_linkDown (memOk_setFld h))

theorem keepsForm_execSflnCtrlEn {l : Fin 24} {en : Bool} {s : State} : keepsForm s (execSflnCtrlEn l en s) := keepsForm_atReg memOk_sflEn
theorem memOk_retrain {s : State} {l : Nat} (h : s.memOk) : (retrain s l).memOk := memOk_ite (memOk_tryTrain (memOk_setLnk h)) h
theorem keepsForm_execRetrain {l : Fin 24} {s : State} : keepsForm s (execRetrain l s) := keepsForm_atReg memOk_retrain

theorem keepsForm_execSflnResume {l : Fin 24} {st : Fin 32} {p : Fin 64} {s : State} : keepsForm s (execSflnResume l st p s) :=
  keepsForm_atReg memOk_stnAck

theorem memOk_sflCntClr {s : State} {l : Nat} (h : s.memOk) : (sflCntClr s l).memOk := h
theorem keepsForm_execSflnCntClr {l : Fin 24} {s : State} : keepsForm s (execSflnCntClr l s) := keepsForm_atReg memOk_sflCntClr
theorem memOk_patSettings {s : State} {l : Nat} {v : Word} (h : s.memOk) : (patSettings s l v).memOk := h

theorem keepsForm_execPatStart {l : Fin 24} {v : Word} {s : State} : keepsForm s (execPatStart l v s) :=
  keepsForm_atReg fun h => memOk_patStart (memOk_patSettings h)

theorem keepsForm_execPatStop {l : Fin 24} {s : State} : keepsForm s (execPatStop l s) := keepsForm_atReg memOk_patStop

theorem keepsForm_execPatLoopEnd {l : PatEvent} {s : State} : keepsForm s (execPatLoopEnd l s) :=
  keepsForm_ite (keepsForm_next fun h => memOk_leaveTest (memOk_patBits h)) (keepsForm_next memOk_patBits)

theorem keepsForm_execFpcCtrlEn {g : Fin 6} {en : Bool} {s : State} : keepsForm s (execFpcCtrlEn g en s) := keepsForm_atReg memOk_fpcEn
theorem keepsForm_execFpcClr {g : Fin 6} {s : State} : keepsForm s (execFpcClr g s) := keepsForm_atReg memOk_fpcClr
theorem memOk_sensed {s : State} {g : Shunt} (h : s.memOk) : (sensed s g).memOk := h

theorem keepsForm_execGateAtVddfp {g : Shunt} {s : State} : keepsForm s (execGateAtVddfp g s) :=
  keepsForm_ite (keepsForm_next fun h => memOk_fpcTo (memOk_sensed h)) (keepsForm_next memOk_sensed)

theorem keepsForm_execShuntLimit {g : Shunt} {s : State} : keepsForm s (execShuntLimit g s) :=
  keepsForm_ite (keepsForm_next fun h => memOk_fpcTo (memOk_sensed h)) (keepsForm_next memOk_sensed)

theorem keepsForm_execLimitRecovery {g : LimitEnd} {s : State} : keepsForm s (execLimitRecovery g s) :=
  keepsForm_ite (keepsForm_next fun h => memOk_fpcTo (memOk_sensed h)) (keepsForm_next memOk_sensed)

theorem keepsForm_execLimitTimer {g : Fin 6} {s : State} : keepsForm s (execLimitTimer g s) :=
  keepsForm_ite (keepsForm_next memOk_fpcFault) (keepsForm_next id)

theorem keepsForm_execFastTrip {g : Shunt} {s : State} : keepsForm s (execFastTrip g s) :=
  keepsForm_ite (keepsForm_next fun h => memOk_fpcFault (memOk_sensed h)) (keepsForm_next memOk_sensed)

theorem keepsForm_execFpcRetry {g : Fin 6} {s : State} : keepsForm s (execFpcRetry g s) :=
  keepsForm_ite (keepsForm_next fun h => memOk_setFld (memOk_fpcTo h)) (keepsForm_next id)

theorem keepsForm_execOnStable {g : Fin 6} {s : State} : keepsForm s (execOnStable g s) :=
  keepsForm_ite (keepsForm_next memOk_setFld) (keepsForm_next id)

theorem keepsForm_execFpcSettle {g : Fin 6} {s : State} : keepsForm s (execFpcSettle g s) :=
  keepsForm_ite (keepsForm_next fun h => memOk_eachNat (fun _ _ ht => memOk_tryTrain ht) (memOk_setFpg h)) (keepsForm_next id)

/-! ### Loading a plan -/

theorem memOk_capStep {s : State} {c : Nat} (h : s.memOk) : (capStep s c).memOk :=
  memOk_setRegBit (memOk_ite (memOk_setRegBit (memOk_setFld h)) (memOk_setFld h))

theorem memOk_recomputeCaps {s : State} (h : s.memOk) : (recomputeCaps s).memOk := by
  unfold recomputeCaps
  exact memOk_ite (memOk_healthTell (memOk_setFld (memOk_eachNat (fun _ _ ht => memOk_capStep ht) h)))
      (memOk_eachNat (fun _ _ ht => memOk_capStep ht) h)

theorem memOk_admittedPlan {s : State} (h : s.memOk) : (admittedPlan s).memOk :=
  memOk_healthTell (memOk_recomputeCaps (memOk_setFld (memOk_setFld h)))

theorem memOk_writeAll {s : State} {l : List (Nat × List Byte)} (h : s.memOk) : (writeAll s l).memOk := by
  induction l generalizing s with
  | nil => exact h
  | cons w l ih => exact memOk_ite (ih h) (ih (memOk_define (memOk_store h)))

theorem memOk_planResult {s : State} {status : Nat} (h : s.memOk) : (planResult s status).memOk := memOk_setFld (memOk_setFld h)

theorem memOk_loadFails {s : State} {path : Path} {e : LoadErr} (h : s.memOk) : (loadFails s path e).memOk :=
  memOk_tellPath (memOk_evcEvent (memOk_setReg (memOk_setFld (memOk_planResult h))))

theorem memOk_loadPasses {s : State} {ld : Loading} {m : Img} (h : s.memOk) : (loadPasses s ld m).memOk :=
  memOk_tellPath (memOk_evcEvent (memOk_planResult (memOk_update (memOk_ite (memOk_writeAll h) h))))

theorem memOk_releaseEngines {s : State} (h : s.memOk) : (releaseEngines s).memOk :=
  memOk_eachNat (fun _ _ ht => memOk_ite (memOk_startKernel ht) ht) h

theorem memOk_limFlush {s : State} (h : s.memOk) : (limFlush s).memOk := memOk_ite h (memOk_releaseEngines (memOk_writeAll h))

theorem memOk_limCommit {s : State} {l : List (Nat × List Byte)} (h : s.memOk) : (limCommit s l).memOk :=
  memOk_ite (memOk_releaseEngines h) (memOk_limFlush h)

theorem memOk_endLoad {s : State} {ld : Loading} {m : Img} {size : Nat} (h : s.memOk) : (endLoad s ld m size).memOk := by
  unfold endLoad
  dsimp only
  split
  · exact memOk_loadFails h
  · exact memOk_ite h (memOk_loadPasses h)

theorem memOk_startLoad {s : State} {ld : Loading} (h : s.memOk) : (startLoad s ld).memOk := memOk_ite (memOk_loadFails h) h

theorem memOk_regLoad {s : State} {ld : Loading} {d : HostData} (h : s.memOk) : (regLoad s ld d).memOk := by
  unfold regLoad
  dsimp only
  exact memOk_ite (memOk_loadFails h) (memOk_ite (memOk_ite (memOk_loadFails (memOk_busErrOf h)) (by
      split
      · exact memOk_endLoad h
      · exact memOk_loadFails (memOk_busErrOf h))) (memOk_ite (memOk_loadFails (memOk_busErrOf h)) (by
            split
            · exact memOk_loadFails (memOk_mgsUe (memOk_busErrOf h))
            · exact memOk_endLoad h)))

theorem memOk_hostLoad {s : State} {ld : Loading} {d : HostData} (h : s.memOk) : (hostLoad s ld d).memOk :=
  memOk_ite (memOk_loadFails (memOk_countReg h)) (by split; exacts [memOk_loadFails h, memOk_ite (memOk_endLoad h) (memOk_loadFails h)])

theorem keepsForm_execPlanLoadEnd {d : HostData} {s : State} : keepsForm s (execPlanLoadEnd d s) := by
  unfold execPlanLoadEnd
  split
  · exact keepsForm_next id
  · split; exacts [keepsForm_next memOk_regLoad, keepsForm_next memOk_hostLoad]

theorem keepsForm_execDprPlanLoad {s : State} : keepsForm s (execDprPlanLoad s) := keepsForm_atReg fun h => memOk_startLoad (memOk_setFld h)

/-! ### Committing a plan -/

theorem memOk_initSlots {s : State} {p : Plan} (h : s.memOk) : (initSlots s p).memOk :=
  memOk_foldl (fun _ _ ht => memOk_ite (memOk_setSlot ht) ht) h

theorem memOk_enterModes {s : State} {old new : Plan} (h : s.memOk) : (enterModes s old new).memOk :=
  memOk_eachNat (fun _ _ ht => memOk_ite (memOk_update (memOk_setTrack ht)) (memOk_ite ht ht)) h

theorem memOk_staleParts {s : State} {out : Nat → Bool} (h : s.memOk) : (staleParts s out).memOk := h

theorem memOk_newGens {s : State} {old : Plan} {fresh gone : List Nat} {p : Plan} (h : s.memOk) : (newGens s old fresh gone p).memOk :=
  memOk_staleParts (memOk_update (memOk_eachNat (fun _ _ ht => memOk_ite (memOk_ite (memOk_setByte (memOk_setGen ht)) (memOk_setGen ht))
    (memOk_setGen ht)) h))

theorem memOk_newAreas {s : State} {p : Plan} (h : s.memOk) : (newAreas s p).memOk := by
  unfold newAreas
  split
  · exact h
  · exact memOk_foldl (fun _ _ ht => memOk_wipe ht) h

theorem memOk_newPacking {s : State} {old new : Plan} (h : s.memOk) : (newPacking s old new).memOk :=
  memOk_ite h (memOk_update (memOk_setFld (memOk_setFld h)))

theorem memOk_freeLim {s : State} {old new : Plan} (h : s.memOk) : (freeLim s old new).memOk := h

theorem memOk_dropStn {s : State} {l st : Nat} (h : s.memOk) : (dropStn s l st).memOk :=
  memOk_setStn (memOk_acyFail (memOk_ite h (memOk_sendFrame h)))

theorem memOk_hotLink {s : State} {old new : Plan} {l : Nat} (h : s.memOk) : (hotLink s old new l).memOk :=
  memOk_eachNat (fun _ _ ht => by
      split
      · exact memOk_ite (memOk_ite (memOk_putDue ht) (memOk_askFrame ht)) ht
      · exact ht) (memOk_eachNat (fun _ _ ht => memOk_ite (memOk_setStn ht) ht) (memOk_eachNat (fun _ _ ht => memOk_ite (memOk_dropStn ht)
            ht) h))

theorem memOk_coldLink {s : State} {new : Plan} {l : Nat} (h : s.memOk) : (coldLink s new l).memOk :=
  memOk_eachNat (fun _ _ ht => memOk_setStn ht) (memOk_setLnk (memOk_linkDown h))

theorem memOk_commitLink {s : State} {old new : Plan} {l : Nat} (h : s.memOk) : (commitLink s old new l).memOk :=
  memOk_ite (memOk_tryTrain (memOk_setLnk (memOk_ite (memOk_hotLink h) (memOk_coldLink h)))) (memOk_when (memOk_ite (memOk_hotLink h)
    (memOk_coldLink h)) memOk_linkDown)

theorem memOk_resetCluster {s : State} {c : Nat} (h : s.memOk) : (resetCluster s c).memOk :=
  memOk_eachNat (fun _ _ ht => memOk_ite ht (memOk_resetLe ht)) h

theorem memOk_forget {s : State} {p : Plan} (h : s.memOk) : (forget s p).memOk := h
theorem memOk_rekey {s : State} {p : Nat} (h : s.memOk) : (rekey s p).memOk := memOk_update (memOk_ite (memOk_update (memOk_drbg h)) h)
theorem memOk_mseTables {s : State} {old new : Plan} (h : s.memOk) : (mseTables s old new).memOk := memOk_ite h h

theorem memOk_commitWhole {s : State} {x : Shadow} (h : s.memOk) : (commitWhole s x).memOk :=
  memOk_admittedPlan (memOk_limCommit (memOk_mseTables (memOk_update (memOk_eachNat (fun _ _ ht => memOk_rekey ht)
    (memOk_eachNat (fun _ _ ht => memOk_resetCluster ht) (memOk_eachNat (fun _ _ ht => memOk_commitLink ht) (memOk_enterModes
    (memOk_setReg (memOk_setReg (memOk_update (memOk_freeLim (memOk_newPacking
    (memOk_newAreas (memOk_newGens (memOk_initSlots (memOk_forget (memOk_writeAll h)))))))))))))))))

theorem memOk_commitSeg {s : State} {x : Shadow} (h : s.memOk) : (commitSeg s x).memOk :=
  memOk_admittedPlan (memOk_limCommit (memOk_mseTables (memOk_update
    (memOk_rekey (memOk_enterModes (memOk_update (memOk_freeLim (memOk_newPacking
    (memOk_newAreas (memOk_newGens (memOk_initSlots (memOk_writeAll h))))))))))))

theorem memOk_judgeShadow {s : State} {x : Shadow} (h : s.memOk) : (judgeShadow s x).2.memOk := by
  unfold judgeShadow
  extract_lets p s0 s1 data
  have h0 : s0.memOk := h
  split
  · exact memOk_evcEvent (memOk_planResult (memOk_ite (memOk_commitWhole h0) (memOk_commitSeg h0)))
  · exact memOk_postEvents (memOk_evcEvent (memOk_planResult h0))

theorem memOk_judgeAll {s : State} {l : List Shadow} (h : s.memOk) : (judgeAll s l).2.memOk := by
  induction l generalizing s with
  | nil => exact h
  | cons x l ih => exact ih (memOk_judgeShadow h)

theorem memOk_tellCommits {s : State} {res : List (Path × Bool)} {l : List Path} (h : s.memOk) : (tellCommits s res l).memOk := by
  induction l generalizing s with
  | nil => exact h
  | cons p l ih => exact ih (memOk_tellPath h)

theorem memOk_applyShadows {s : State} (h : s.memOk) : (applyShadows s).memOk := memOk_tellCommits (memOk_update (memOk_judgeAll h))

theorem memOk_requestCommit {s : State} {path : Path} (h : s.memOk) : (requestCommit s path).memOk :=
  memOk_ite h (memOk_recomputeCaps (memOk_applyShadows h))

theorem memOk_abortShadows {s : State} (h : s.memOk) : (abortShadows s).memOk := h
theorem memOk_endPlan {s : State} (h : s.memOk) : (endPlan s).memOk := h

theorem keepsForm_execDprPlanCommit {s : State} : keepsForm s (execDprPlanCommit s) :=
  keepsForm_atReg fun h => memOk_requestCommit (memOk_setFld h)

theorem keepsForm_execDprPlanAbort {s : State} : keepsForm s (execDprPlanAbort s) :=
  keepsForm_atReg fun h => memOk_abortShadows (memOk_setFld h)

/-! ### Storage -/

theorem memOk_nvrEvent {s : State} {k : Nat} (h : s.memOk) : (nvrEvent s k).memOk := memOk_evcIf h
theorem memOk_setUnlock {s : State} {r : Nat} {write on : Bool} (h : s.memOk) : (setUnlock s r write on).memOk := h

theorem memOk_tryPassword {s : State} {write : Bool} {v : Word} (h : s.memOk) : (tryPassword s write v).memOk :=
  memOk_ite h (memOk_ite (memOk_setUnlock h) (memOk_ite (memOk_nvrEvent (memOk_setRegBit (memOk_update (memOk_setFld h))))
    (memOk_update (memOk_setFld h))))

theorem memOk_lockRegion {s : State} (h : s.memOk) : (lockRegion s).memOk := h
theorem memOk_changePassword {s : State} {write : Bool} (h : s.memOk) : (changePassword s write).memOk := memOk_ite (memOk_setFld h) h

theorem memOk_jCommit {s : State} {q : JReq} (h : s.memOk) : (jCommit s q).memOk :=
  memOk_wr (memOk_wr (memOk_wr (memOk_wr (memOk_wr (memOk_setBytes h)))))

theorem memOk_jApply {s : State} {q : JReq} (h : s.memOk) : (jApply s q).memOk := by
  unfold jApply
  split
  · exact memOk_ite h h
  · exact memOk_setBytes h

theorem memOk_jTell {s : State} {q : JReq} {status : Nat} (h : s.memOk) : (jTell s q status).memOk := by
  unfold jTell
  split
  · exact memOk_nvrEvent (memOk_setFld (memOk_setFld h))
  · exact memOk_nvrEvent (memOk_setFld (memOk_setFld h))
  · exact memOk_nvrEvent (memOk_hostComplete h)
  · exact memOk_nvrEvent (memOk_hostComplete h)

theorem memOk_jRun {s : State} (h : s.memOk) : (jRun s).memOk := by
  unfold jRun
  split
  · exact h
  · split; exacts [memOk_jTell (memOk_mgsUe (memOk_busErrOf h)), memOk_ite (memOk_jTell (memOk_wr (memOk_jApply (memOk_jCommit h))))
        (memOk_jTell h)]

theorem memOk_jCut {s : State} (h : s.memOk) : (jCut s).memOk := by
  unfold jCut
  split
  · exact h
  · exact memOk_ite (memOk_update (memOk_draw h)) (by
        split
        · exact memOk_jApply (memOk_update (memOk_draw h))
        · exact memOk_setBytes (memOk_jCommit (memOk_update (memOk_draw h))))

theorem memOk_jRecover {s : State} (h : s.memOk) : (jRecover s).memOk :=
  memOk_ite (memOk_ite (memOk_setFld (memOk_wr (memOk_setBytes h))) (memOk_setFld (memOk_wr h))) (memOk_setFld h)

theorem memOk_retWrite {s : State} {half k : Nat} {l : List Byte} (h : s.memOk) : (retWrite s half k l).memOk := by
  induction l generalizing s k with
  | nil => exact h
  | cons b l ih => exact ih (memOk_setByte h)

theorem memOk_scanRetain {s : State} (h : s.memOk) : (scanRetain s).memOk := by
  unfold scanRetain
  split
  · exact memOk_setFld (memOk_setFld (memOk_setFld (memOk_setReg (memOk_setReg (memOk_setReg (memOk_setReg (memOk_setReg h)))))))
  · exact memOk_when (memOk_setFld (memOk_setFld (memOk_setFld (memOk_setReg (memOk_setReg (memOk_setReg (memOk_setReg h)))))))
        memOk_retWrite

theorem memOk_nvrReady {s : State} (h : s.memOk) : (nvrReady s).memOk := memOk_nvrEvent (memOk_setFld (memOk_scanRetain (memOk_jRecover h)))

theorem memOk_snapCopy {s : State} (h : s.memOk) : (snapCopy s).memOk :=
  memOk_foldl (fun _ _ ht => memOk_setBytes ht) (memOk_foldl (fun _ _ ht => memOk_ite (memOk_setBytes ht) ht) h)

theorem memOk_snapCommit {s : State} (h : s.memOk) : (snapCommit s).memOk := memOk_update (memOk_setFld (memOk_setFld h))

theorem memOk_snapBegin {s : State} (h : s.memOk) : (snapBegin s).memOk :=
  memOk_ite h (memOk_ite (memOk_update (memOk_setFld h)) (memOk_update (memOk_setFld h)))

theorem memOk_snapEnd {s : State} (h : s.memOk) : (snapEnd s).memOk :=
  memOk_ite h (memOk_ite (memOk_snapCommit (memOk_update (memOk_setFld (memOk_snapCopy h))))
    (memOk_update (memOk_setFld (memOk_snapCopy h))))

theorem memOk_snapBoundary {s : State} (h : s.memOk) : (snapBoundary s).memOk := memOk_ite (memOk_snapCommit h) (memOk_ite h h)
theorem memOk_scramble {s : State} {a n : Nat} (h : s.memOk) : (scramble s a n).memOk := memOk_update (memOk_setBytes h)
theorem memOk_scrambleWord {s : State} {a : Nat} (h : s.memOk) : (scrambleWord s a).memOk := memOk_update (memOk_draw (memOk_scramble h))

theorem memOk_scrambleSector {s : State} {k : Nat} (h : s.memOk) : (scrambleSector s k).memOk :=
  memOk_eachNat (fun _ _ ht => memOk_scrambleWord ht) h

theorem memOk_pflCut {s : State} (h : s.memOk) : (pflCut s).memOk :=
  memOk_setFld (memOk_setFld (memOk_update (by
      split
      · exact memOk_scrambleSector (by split; exacts [memOk_scrambleWord h, memOk_scrambleSector h, h])
      · split; exacts [memOk_scrambleWord h, memOk_scrambleSector h, h])))

theorem memOk_stopEngines {s : State} (h : s.memOk) : (stopEngines s).memOk := memOk_eachNat (fun _ _ ht => memOk_setLe ht) h

theorem memOk_startSave {s : State} {cause : Nat} (h : s.memOk) : (startSave s cause).memOk :=
  memOk_ite h (memOk_stopEngines (memOk_update (memOk_update (memOk_pflCut
    (memOk_jCut (memOk_setFld (memOk_ite (memOk_update (memOk_resumeRaster (memOk_haltRelease h))) h)))))))

theorem memOk_saveSnap {s : State} (h : s.memOk) : (saveSnap s).memOk := memOk_ite (memOk_snapCommit (memOk_snapEnd h)) (memOk_snapEnd h)

theorem memOk_writeRecord {s : State} (h : s.memOk) : (writeRecord s).memOk :=
  memOk_retWrite (memOk_retWrite (memOk_retWrite (memOk_saveSnap h)))

theorem memOk_saveCut {s : State} (h : s.memOk) : (saveCut s).memOk := memOk_retWrite (memOk_draw (memOk_saveSnap h))

theorem memOk_finishSave {s : State} (h : s.memOk) : (finishSave s).memOk :=
  memOk_setFld (memOk_setFld (memOk_setFld (memOk_setReg (memOk_writeRecord h))))

theorem keepsForm_execPowerFailTrigger {pfn : Bool} {s : State} : keepsForm s (execPowerFailTrigger pfn s) :=
  keepsForm_ite (keepsForm_next fun h => memOk_startSave (memOk_ite (memOk_aonEvent h) h)) (keepsForm_next fun h => memOk_ite
    (memOk_aonEvent h) h)

theorem memOk_testSave {s : State} (h : s.memOk) : (testSave s).memOk := memOk_ite (memOk_startSave h) h
theorem keepsForm_execTest {s : State} : keepsForm s (execTest s) := keepsForm_atReg memOk_testSave
theorem memOk_retDone {s : State} {status : Nat} (h : s.memOk) : (retDone s status).memOk := memOk_setFld (memOk_setFld (memOk_setFld h))

theorem memOk_startRestore {s : State} (h : s.memOk) : (startRestore s).memOk :=
  memOk_ite (memOk_nvrEvent (memOk_retDone (memOk_setFld h))) (memOk_setFld (memOk_setFld h))

theorem memOk_restoreSlots {s : State} (h : s.memOk) : (restoreSlots s).memOk := memOk_foldl (fun _ _ ht => memOk_setSlot ht) h

theorem memOk_restoreEvents {s : State} {half : Nat} (h : s.memOk) : (restoreEvents s half).memOk :=
  memOk_eachNat (fun _ _ ht => memOk_postOverflow ht) h

theorem memOk_restoreFields {s : State} (h : s.memOk) : (restoreFields s).memOk :=
  memOk_foldl (fun _ _ ht => memOk_ite (memOk_setBytes ht) ht) h

theorem memOk_restore {s : State} (h : s.memOk) : (restore s).memOk := by
  unfold restore
  split
  · exact memOk_nvrEvent (memOk_retDone h)
  · exact memOk_ite (memOk_nvrEvent (memOk_retDone h)) (memOk_nvrEvent (memOk_retDone (memOk_restoreEvents (memOk_restoreSlots
        (memOk_restoreFields (memOk_update (memOk_setFld (memOk_setFld (memOk_setBytes h)))))))))

theorem keepsForm_execRestore {s : State} : keepsForm s (execRestore s) := keepsForm_atReg memOk_startRestore

theorem keepsForm_execRestoreEnd {s : State} : keepsForm s (execRestoreEnd s) :=
  keepsForm_ite (keepsForm_next memOk_restore) (keepsForm_next id)

theorem memOk_invalidate {s : State} (h : s.memOk) : (invalidate s).memOk :=
  memOk_retDone (memOk_scanRetain (memOk_retWrite (memOk_retWrite (memOk_setFld h))))

theorem keepsForm_execInvalidate {s : State} : keepsForm s (execInvalidate s) := keepsForm_atReg memOk_invalidate
theorem keepsForm_execNvrPwdR {v : Word} {s : State} : keepsForm s (execNvrPwdR v s) := keepsForm_atReg memOk_tryPassword
theorem keepsForm_execNvrPwdW {v : Word} {s : State} : keepsForm s (execNvrPwdW v s) := keepsForm_atReg memOk_tryPassword
theorem keepsForm_execNvrPwdLock {s : State} : keepsForm s (execNvrPwdLock s) := keepsForm_atReg memOk_lockRegion
theorem keepsForm_execChgR {s : State} : keepsForm s (execChgR s) := keepsForm_atReg memOk_changePassword
theorem keepsForm_execChgW {s : State} : keepsForm s (execChgW s) := keepsForm_atReg memOk_changePassword
theorem memOk_queueJournal {s : State} (h : s.memOk) : (queueJournal s).memOk := h
theorem keepsForm_execNvrJctrlGo {s : State} : keepsForm s (execNvrJctrlGo s) := keepsForm_atReg memOk_queueJournal

theorem keepsForm_execJournaledWriteEnd {s : State} : keepsForm s (execJournaledWriteEnd s) :=
  keepsForm_ite (keepsForm_next memOk_jRun) (keepsForm_next id)

theorem memOk_pflRefuse {s : State} {status : Nat} (h : s.memOk) : (pflRefuse s status).memOk := memOk_setFld (memOk_setFld h)

theorem memOk_pflProgram {s : State} {w : Writer} (h : s.memOk) : (pflProgram s w).memOk :=
  memOk_ite (memOk_pflRefuse h) (memOk_ite (memOk_pflRefuse h) (memOk_setFld (memOk_setFld h)))

theorem memOk_pflErase {s : State} {w : Writer} (h : s.memOk) : (pflErase s w).memOk :=
  memOk_ite (memOk_pflRefuse h) (memOk_ite (memOk_pflRefuse h) (memOk_setFld (memOk_setFld h)))

theorem memOk_pflSuspend {s : State} (h : s.memOk) : (pflSuspend s).memOk := by
  unfold pflSuspend
  split
  · exact memOk_evcIf (memOk_setFld (memOk_setFld (memOk_setFld h)))
  · exact h

theorem memOk_eraseOn {s : State} {k : Nat} (h : s.memOk) : (eraseOn s k).memOk := memOk_setFld (memOk_setFld h)

theorem memOk_pflResume {s : State} (h : s.memOk) : (pflResume s).memOk := by
  unfold pflResume
  split
  · exact memOk_eraseOn h
  · exact h
  · exact h

theorem memOk_pflEffect {s : State} {x1 : PflOp} (h : s.memOk) : (pflEffect s x1).memOk := by
  unfold pflEffect
  split
  · exact memOk_ite (memOk_ite (memOk_update (memOk_wr (memOk_wr h))) (memOk_wr (memOk_wr h))) (memOk_scrambleWord h)
  · exact memOk_eraseSector h

theorem memOk_pflEnd {s : State} (h : s.memOk) : (pflEnd s).memOk := by
  cases hop : s.pfl.op with
  | none => rw [pflEnd, hop]; exact h
  | some op => exact State.memOk.of_eq (s := pflEffect (pflFree s) op) (memOk_pflEffect h) (pflEnd_shows hop).1

theorem keepsForm_execPflProgram {w : Writer} {s : State} : keepsForm s (execPflProgram w s) :=
  keepsForm_atRegBy fun h => memOk_pflProgram (memOk_setFld h)

theorem keepsForm_execPflErase {w : Writer} {s : State} : keepsForm s (execPflErase w s) :=
  keepsForm_atRegBy fun h => memOk_pflErase (memOk_setFld h)

theorem keepsForm_execPflSuspend {s : State} : keepsForm s (execPflSuspend s) := keepsForm_atReg fun h => memOk_pflSuspend (memOk_setFld h)
theorem keepsForm_execPflResume {s : State} : keepsForm s (execPflResume s) := keepsForm_atReg fun h => memOk_pflResume (memOk_setFld h)
theorem keepsForm_execPflOperationEnd {s : State} : keepsForm s (execPflOperationEnd s) := keepsForm_next memOk_pflEnd

/-! ### Register resets -/

theorem memOk_plainReg {s : State} {a : Nat} {v : Word} (h : s.memOk) : (plainReg s a v).memOk := by
  unfold plainReg
  split
  · exact memOk_setReg h
  · exact h

theorem memOk_cycSet {s : State} {a : Nat} {v : Word} (h : s.memOk) : (cycSet s a v).memOk :=
  memOk_ite h (memOk_ite (memOk_ite h (memOk_recomputeCaps (memOk_setFld h)))
    (memOk_ite (memOk_ite h (memOk_ite h (memOk_recomputeCaps (memOk_setFld h)))) (memOk_ite (memOk_ite h (memOk_setReg h))
    (memOk_plainReg h))))

theorem memOk_dprTake {s : State} (h : s.memOk) : (dprTake s).memOk := h
theorem memOk_rolesAll {s : State} (h : s.memOk) : (rolesAll s).memOk := memOk_eachNat (fun _ _ ht => memOk_clusterRoles ht) h

theorem memOk_rolesNow {s : State} (h : s.memOk) : (rolesNow s).memOk :=
  memOk_eachNat (fun _ _ ht => memOk_rolesCount (memOk_rolesWritten ht)) h

theorem memOk_dprSet {s : State} {a : Nat} {v : Word} (h : s.memOk) : (dprSet s a v).memOk :=
  memOk_ite (memOk_plainReg h) (memOk_ite (memOk_recomputeCaps (memOk_dprTake (memOk_plainReg h))) (memOk_when (memOk_plainReg h) fun hk =>
    memOk_recomputeCaps (memOk_rolesNow hk)))

theorem memOk_sflSet {s : State} {l a : Nat} {v : Word} (h : s.memOk) : (sflSet s l a v).memOk :=
  memOk_ite (memOk_sflEn h) (memOk_plainReg h)

theorem memOk_fpcSet {s : State} {a : Nat} {v : Word} (h : s.memOk) : (fpcSet s a v).memOk := by
  unfold fpcSet
  split
  · exact memOk_fpcEn (memOk_plainReg h)
  · exact memOk_plainReg h

theorem memOk_hifSet {s : State} {a : Nat} {v : Word} (h : s.memOk) : (hifSet s a v).memOk :=
  memOk_ite h (memOk_ite (memOk_eachNat (fun _ _ ht => memOk_postOverflow ht) (memOk_plainReg h)) (memOk_plainReg h))

theorem memOk_regSet {s : State} {a : Nat} {v : Word} (h : s.memOk) : (regSet s a v).memOk :=
  memOk_ite (memOk_cycSet h) (memOk_ite (memOk_dprSet h) (memOk_ite (memOk_sflSet h) (memOk_ite (memOk_fpcSet h)
    (memOk_ite (memOk_hifSet h) (memOk_plainReg h)))))

theorem memOk_fieldSet {s : State} {f : Fld} {v : Nat} (h : s.memOk) : (fieldSet s f v).memOk := memOk_regSet h

/-! ### Configuration -/

theorem memOk_stateWrite {s : State} {home a v : Nat} (h : s.memOk) : (stateWrite s home a v).memOk := memOk_ite h (memOk_store h)

theorem memOk_entryWrite {who : Option Nat} {s : State} {e : CfgEntry} (h : s.memOk) : (entryWrite who s e).memOk :=
  memOk_ite (memOk_ite (memOk_stateWrite h) (memOk_countReg h)) (memOk_ite (memOk_ite (memOk_writeInternal h) (memOk_countReg h)) h)

theorem memOk_entryWrites {s : State} {m : Img} {k : Nat} (h : s.memOk) : (entryWrites s m k).memOk :=
  memOk_foldl (fun _ _ ht => memOk_entryWrite ht) h

theorem memOk_applyFields {s : State} {m : Img} {modes : SMap Nat} {svc : Bool} {old : Fld → Option (Nat × Nat)} {oldBase : Fld → Option
    Nat} (h : s.memOk) : (applyFields s m modes svc old oldBase).memOk :=
  memOk_foldl (fun _ _ ht => memOk_ite ht (by split; exacts [memOk_fieldSet ht, ht])) h

theorem memOk_cfgTell {s : State} {status : Nat} (h : s.memOk) : (cfgTell s status).memOk := by
  unfold cfgTell
  split
  · exact memOk_hostComplete h
  · exact h

theorem memOk_takeCopy {s : State} (h : s.memOk) : (takeCopy s).memOk := by
  unfold takeCopy
  split
  · exact h
  · exact memOk_cfgTell (memOk_evcIf (memOk_setFld (memOk_setFld
        (memOk_setReg (memOk_setFld (memOk_setFld (memOk_useCal (memOk_applyFields h))))))))

theorem memOk_cfgOverlays {s : State} (h : s.memOk) : (cfgOverlays s).memOk := memOk_update (by split; exacts [h, memOk_applyFields h])

theorem memOk_cfgBoundary {s : State} (h : s.memOk) : (cfgBoundary s).memOk :=
  memOk_update (by
      split
      · exact memOk_cfgOverlays (memOk_takeCopy h)
      · exact memOk_foldl (fun _ _ ht => memOk_entryWrites ht) (memOk_cfgOverlays (memOk_takeCopy h)))

theorem memOk_cfgEnd {s : State} {status : Nat} (h : s.memOk) : (cfgEnd s status).memOk := memOk_evcIf (memOk_setFld (memOk_setFld h))
theorem memOk_markValid {s : State} (h : s.memOk) : (markValid s).memOk := memOk_setFld (memOk_setFld h)
theorem memOk_loadCopy {s : State} {k h' : Nat} (h : s.memOk) : (loadCopy s k h').memOk := memOk_setBytes h

theorem memOk_useCopy {s : State} {k : Nat} (h : s.memOk) : (useCopy s k).memOk :=
  memOk_setReg (memOk_setFld (memOk_setFld (memOk_useCal (memOk_foldl (fun _ _ ht => memOk_ite (memOk_fieldSet ht) (memOk_entryWrite ht))
    (memOk_update (memOk_loadCopy h))))))

theorem memOk_noCopy {s : State} {e : LoadErr} (h : s.memOk) : (noCopy s e).memOk :=
  memOk_cfgEnd (memOk_setReg (memOk_setReg (memOk_setFld h)))

theorem memOk_cfgSelect {s : State} (h : s.memOk) : (cfgSelect s).memOk := by
  unfold cfgSelect
  dsimp only
  exact memOk_ite (memOk_cfgEnd (memOk_setFld (memOk_ite h (memOk_cfgTell h))))
      (memOk_ite (memOk_cfgEnd (memOk_setFld (memOk_ite h (memOk_cfgTell h))))
      (memOk_ite (memOk_noCopy (memOk_setFld (memOk_setFld (memOk_markValid (memOk_setFld (memOk_ite h (memOk_cfgTell h))))))) (by
      split
      · exact memOk_cfgEnd (memOk_useCopy (memOk_setFld (memOk_setFld (memOk_markValid (memOk_setFld (memOk_ite h (memOk_cfgTell h)))))))
      · exact memOk_ite (by
            split
            · exact memOk_cfgEnd (memOk_useCopy (memOk_setReg
                  (memOk_setFld (memOk_setFld (memOk_setFld (memOk_markValid (memOk_setFld (memOk_ite h (memOk_cfgTell h)))))))))
            · exact memOk_noCopy (memOk_setReg (memOk_setFld (memOk_setFld
                  (memOk_setFld (memOk_markValid (memOk_setFld (memOk_ite h (memOk_cfgTell h)))))))))
                  (memOk_noCopy (memOk_setFld (memOk_setFld (memOk_markValid (memOk_setFld (memOk_ite h (memOk_cfgTell h))))))))))

/-- A COMMIT that finds the fault `e` (`cfgCommit`). -/
def cfgRefuse (s : State) (k : Nat) (m : Img) (e : LoadErr) : State :=
  let s1 := if copyValid m k then s.wr (0x50000000 + 0x20000 * k + 0x3C) 4 0 else s
  cfgTell (cfgEnd (s1.setReg R.CYC_CFG_ERR (word e.ofs)) e.status) e.status

theorem memOk_cfgRefuse {s : State} {k : Nat} {m : Img} {e : LoadErr} (h : s.memOk) : (cfgRefuse s k m e).memOk :=
  memOk_cfgTell (memOk_cfgEnd (memOk_setReg (memOk_ite (memOk_wr h) h)))

theorem memOk_cfgCommit {s : State} (h : s.memOk) : (cfgCommit s).memOk := by
  have h0 : (s.setFld F.CYC_CFG_CTRL_OP 2).memOk := memOk_setFld h
  have h1 : (markValid (s.setFld F.CYC_CFG_CTRL_OP 2)).memOk := memOk_markValid h0
  obtain ⟨s0, hs0⟩ : ∃ t, s.setFld F.CYC_CFG_CTRL_OP 2 = t := ⟨_, rfl⟩
  obtain ⟨target, htarget⟩ : ∃ f, targetCopy = f := ⟨_, rfl⟩
  obtain ⟨img, himg⟩ : ∃ f, copyImg = f := ⟨_, rfl⟩
  obtain ⟨check, hcheck⟩ : ∃ f, checkCopy = f := ⟨_, rfl⟩
  obtain ⟨changed, hchanged⟩ : ∃ f, startChanged = f := ⟨_, rfl⟩
  unfold cfgCommit
  rw [hs0, htarget, himg, hcheck, hchanged]
  rw [hs0] at h0 h1
  refine memOk_ite (memOk_cfgEnd h0) (memOk_ite ?_ (memOk_ite ?_ ?_))
  · exact memOk_cfgRefuse (k := target s0) (m := img s0 (target s0)) h1
  · exact memOk_cfgRefuse (k := target s0) (m := img s0 (target s0)) h1
  cases check (markValid s0) (img s0 (target s0)) with
  | some e => exact memOk_cfgRefuse (k := target s0) (m := img s0 (target s0)) h1
  | none =>
    cases (if (markValid s0).cycEn then changed (markValid s0) (img s0 (target s0)) else none) with
    | some e => exact memOk_cfgRefuse (k := target s0) (m := img s0 (target s0)) h1
    | none =>
      refine memOk_ite (memOk_cfgRefuse (k := target s0) (m := img s0 (target s0)) h1) (memOk_ite ?_ ?_)
      · exact memOk_update (memOk_setFld (memOk_loadCopy h1))
      · refine memOk_recomputeCaps (memOk_cfgOverlays (memOk_takeCopy ?_))
        exact memOk_update (memOk_setFld (memOk_loadCopy h1))

theorem memOk_cfgAbort {s : State} (h : s.memOk) : (cfgAbort s).memOk :=
  memOk_ite (memOk_setFld h) (memOk_cfgTell (memOk_cfgEnd (memOk_setFld (memOk_update (memOk_setFld h)))))

theorem keepsForm_execSelect {s : State} : keepsForm s (execSelect s) := keepsForm_atReg memOk_cfgSelect
theorem keepsForm_execCfgCommit {s : State} : keepsForm s (execCfgCommit s) := keepsForm_atReg memOk_cfgCommit
theorem keepsForm_execCfgAbort {s : State} : keepsForm s (execCfgAbort s) := keepsForm_atReg memOk_cfgAbort

/-! ### Boot -/

theorem memOk_openSector {s : State} {k sseq erases : Nat} (h : s.memOk) : (openSector s k sseq erases).memOk :=
  memOk_wr (memOk_wr (memOk_wr (memOk_wr h)))

theorem memOk_putRecord {s : State} {k o key : Nat} {d : List Byte} (h : s.memOk) : (putRecord s k o key d).memOk :=
  memOk_wr (memOk_setBytes (memOk_wr h))

theorem memOk_copyNewest {s : State} {from' to' key : Nat} (h : s.memOk) : (copyNewest s from' to' key).memOk := by
  unfold copyNewest
  split
  · exact h
  · split; exacts [memOk_putRecord h, h]

theorem memOk_mirrorAppend {s : State} {key : Nat} {d : List Byte} (h : s.memOk) : (mirrorAppend s key d).memOk := by
  unfold mirrorAppend
  split
  · exact memOk_putRecord (memOk_openSector (memOk_eraseSector h))
  · split; exacts [memOk_putRecord h, memOk_wr (by
        split
        · exact memOk_putRecord (memOk_copyNewest (memOk_copyNewest (memOk_openSector (memOk_eraseSector h))))
        · exact memOk_copyNewest (memOk_copyNewest (memOk_openSector (memOk_eraseSector h))))]

theorem memOk_appendRaw {s t : State} {key : Nat} {d : List Byte} (h : s.memOk) (ht : appendRaw s key d = some t) : t.memOk := by
  unfold appendRaw at ht
  split at ht
  · cases ht
  · split at ht
    · cases ht; exact memOk_putRecord h
    · obtain ⟨j, -, rfl⟩ := Option.map_eq_some_iff.mp ht
      exact memOk_putRecord (memOk_openSector h)

theorem memOk_copyForward {s t : State} {k : Nat} {l : List Nat} (h : s.memOk) (ht : copyForward k s l = some t) : t.memOk := by
  induction l generalizing s with
  | nil => cases ht; exact h
  | cons key l ih =>
    unfold copyForward at ht
    split at ht
    · exact ih h ht
    · split at ht
      · exact ih h ht
      · split at ht
        · cases ht
        · next s1 hs1 => exact ih (memOk_appendRaw h hs1) ht

theorem memOk_retireSecond {s : State} (h : s.memOk) : (retireSecond s).memOk := by
  unfold retireSecond
  split
  · exact h
  · split
    · exact h
    · split
      · exact h
      · next t ht => exact memOk_wr (memOk_copyForward h ht)

theorem memOk_repairLog {s : State} (h : s.memOk) : (repairLog s).memOk :=
  memOk_retireSecond (memOk_foldl (fun _ _ ht => memOk_ite ht (memOk_eraseSector ht)) h)

theorem memOk_writeSec {s : State} {x : Sec} (h : s.memOk) : (writeSec s x).memOk :=
  memOk_ite (by
      split
      · exact memOk_putRecord h
      · exact memOk_putRecord (memOk_openSector (memOk_eraseSector (memOk_mirrorAppend h))))
            (memOk_putRecord (memOk_openSector (memOk_eraseSector h)))

theorem memOk_writeCounts {s : State} {c : Counts} (h : s.memOk) : (writeCounts s c).memOk := memOk_mirrorAppend (memOk_setBytes h)

theorem memOk_copySect {m : Img} {s : State} {t : BootSect} (h : s.memOk) : (copySect m s t).memOk := by
  unfold copySect
  split
  · exact memOk_setBytes h
  · exact memOk_eachNat (fun _ _ ht => memOk_ite (memOk_setBytes ht) ht) h
  · exact h

theorem memOk_releaseCpu {s : State} {p : ProcId} {pc : Nat} (h : s.memOk) : (releaseCpu s p pc).memOk := memOk_setCpu h

theorem memOk_evcFromWatch {s : State} (h : s.memOk) : (evcFromWatch s).memOk :=
  memOk_eachNat (fun _ _ ht => memOk_setReg ht) (memOk_setReg h)

theorem memOk_wdtSpLoad {s : State} {ms : Nat} (h : s.memOk) : (wdtSpLoad s ms).memOk := memOk_update (memOk_setFld (memOk_setFld h))
theorem memOk_wdtSpOwn {s : State} (h : s.memOk) : (wdtSpOwn s).memOk := memOk_wdtSpLoad (memOk_draw h)

theorem memOk_releaseMc {s : State} {slot : Nat} (h : s.memOk) : (releaseMc s slot).memOk := by
  unfold releaseMc
  exact memOk_evcFromWatch (memOk_releaseCpu (memOk_setFld (memOk_setFld
      (memOk_setFld (memOk_setFld (memOk_setFld (memOk_update (memOk_wdtSpLoad (memOk_foldl (fun _ _ ht => memOk_copySect ht) h)))))))))

theorem memOk_enterRagDoll {s : State} (h : s.memOk) : (enterRagDoll s).memOk := by
  unfold enterRagDoll
  exact memOk_evcFromWatch (memOk_releaseCpu (memOk_devEvt (memOk_update
      (memOk_setFld (memOk_setFld (memOk_setReg (memOk_update (memOk_setBytes (memOk_wdtSpOwn h)))))))))

theorem memOk_setBootErr {s : State} {slot status : Nat} (h : s.memOk) : (setBootErr s slot status).memOk := h

theorem memOk_trySlots {s : State} {flash : Nat → Nat} {l : List Nat} (h : s.memOk) : (trySlots s flash l).memOk := by
  induction l generalizing s with
  | nil => exact memOk_enterRagDoll h
  | cons k l ih =>
    unfold trySlots
    extract_lets c _ s1 m status _ s2
    have h2 : s2.memOk := memOk_update (memOk_writeCounts h)
    exact memOk_ite (memOk_ite (memOk_releaseMc h2) (ih (memOk_setBootErr (memOk_writeCounts h2)))) (ih h)

theorem memOk_startFresh {s : State} (h : s.memOk) : (startFresh s).memOk := h

theorem memOk_startSlots {s : State} {power : Bool} {flash : Nat → Nat} (h : s.memOk) : (startSlots s power flash).memOk :=
  memOk_ite (memOk_enterRagDoll h) (memOk_trySlots (memOk_ite (memOk_writeSec (memOk_ite h (memOk_writeCounts h)))
    (memOk_ite h (memOk_writeCounts h))))

theorem memOk_startOk {s : State} {v : Word} (h : s.memOk) : (startOk s v).memOk :=
  memOk_ite h (memOk_update (memOk_setFld (memOk_setFld (memOk_wdtSpOwn (memOk_writeCounts (memOk_ite (memOk_writeSec h) h))))))

theorem memOk_minverAdvance {s : State} (h : s.memOk) : (minverAdvance s).2.memOk :=
  memOk_ite_snd h (memOk_ite_snd (memOk_snd (memOk_writeSec h)) h)

theorem memOk_slotTrial {s : State} {slot : Nat} (h : s.memOk) : (slotTrial s slot).2.memOk :=
  memOk_ite_snd h (memOk_ite_snd h (memOk_snd (memOk_writeSec (memOk_writeCounts h))))

theorem memOk_ragdollRelease {s : State} (h : s.memOk) : (ragdollRelease s).2.memOk :=
  memOk_ite_snd (memOk_snd (memOk_writeCounts h)) h

theorem memOk_flashRelease {s : State} (h : s.memOk) : (flashRelease s).memOk := memOk_setFld h

theorem memOk_fuseProgram {s : State} {arg len : Nat} {l : List Byte} {verified : Bool} (h : s.memOk) :
    (fuseProgram s arg len l verified).2.memOk := by
  unfold fuseProgram
  extract_lets f slot
  exact memOk_ite_snd h (memOk_ite_snd h (memOk_ite_snd h (memOk_ite_snd h (memOk_ite_snd h (memOk_update (memOk_draw h))))))

theorem memOk_drawBytes {s : State} {n : Nat} (h : s.memOk) : (drawBytes s n).2.memOk := by
  induction n generalizing s with
  | zero => exact h
  | succ n ih => exact ih (memOk_draw h)

theorem memOk_issueChallenge {s : State} {level : Nat} (h : s.memOk) : (issueChallenge s level).2.memOk :=
  memOk_snd (memOk_update (memOk_drbgUsed (memOk_drawBytes h)))

theorem memOk_judgeResponse {s : State} {l : List Byte} (h : s.memOk) : (judgeResponse s l).2.memOk := by
  unfold judgeResponse
  split
  · exact memOk_ite_snd (memOk_snd (memOk_dbgEvent (memOk_update h))) (memOk_snd (memOk_dbgEvent (memOk_update h)))
  · exact memOk_snd (memOk_dbgEvent (memOk_update h))

theorem keepsForm_execSpmStartOk {v : Word} {s : State} : keepsForm s (execSpmStartOk v s) := keepsForm_next memOk_startOk
theorem keepsForm_execChallengeExpiry {s : State} : keepsForm s (execChallengeExpiry s) := keepsForm_next id

/-! ### Entropy and health tests -/

theorem memOk_entEvent {s : State} {k : Nat} (h : s.memOk) : (entEvent s k).memOk := memOk_evcIf h
theorem memOk_clearOut {s : State} (h : s.memOk) : (clearOut s).memOk := memOk_eachNat (fun _ _ ht => memOk_setReg ht) h
theorem memOk_putOut {s : State} {l : List Byte} (h : s.memOk) : (putOut s l).memOk := memOk_eachNat (fun _ _ ht => memOk_setReg ht) h
theorem memOk_drbgServe {s : State} {n : Nat} (h : s.memOk) : (drbgServe s n).2.memOk := memOk_snd (memOk_drbgUsed (memOk_drawBytes h))
theorem memOk_reqAnswer {s : State} (h : s.memOk) : (reqAnswer s).memOk := memOk_setReg (memOk_putOut (memOk_drbgServe h))
theorem memOk_reqFail {s : State} (h : s.memOk) : (reqFail s).memOk := h
theorem memOk_randomAnswer {s : State} {c : HostCmd} (h : s.memOk) : (randomAnswer s c).memOk := memOk_answerHost (memOk_drbgServe h)

theorem memOk_challengeAnswer {s : State} {c : HostCmd} (h : s.memOk) : (challengeAnswer s c).memOk :=
  memOk_answerHost (memOk_issueChallenge h)

theorem memOk_serveUnlock {s : State} {ok : Bool} (h : s.memOk) : (serveUnlock s ok).memOk :=
  memOk_ite h (memOk_update (memOk_ite (memOk_issueChallenge h) h))

theorem memOk_entCmd {s : State} {serial : Nat} {ok : Bool} {k : State → HostCmd → State} (h : s.memOk) (hk : ∀ y0 y1, y0.memOk →
    (k y0 y1).memOk) : (entCmd s serial ok k).memOk := by
  unfold entCmd
  split
  · exact memOk_ite (hk _ _ h) (memOk_hostComplete h)
  · exact h

theorem memOk_entServe {ok : Bool} {s : State} {x2 : EntWait} (h : s.memOk) : (entServe ok s x2).memOk := by
  unfold entServe
  split
  · exact memOk_entCmd h (fun _ _ ht => memOk_randomAnswer ht)
  · exact memOk_entCmd h (fun _ _ ht => memOk_challengeAnswer ht)
  · exact memOk_ite (memOk_ite (memOk_reqAnswer h) (memOk_reqFail h)) h
  · exact memOk_serveUnlock h

theorem memOk_serveQueue {s : State} {l : List EntWait} (h : s.memOk) : (serveQueue s l).memOk := by
  induction l generalizing s with
  | nil => exact memOk_update h
  | cons w l ih => exact memOk_ite (ih (memOk_entServe h)) (memOk_update h)

theorem memOk_entAsk {s : State} {w : EntWait} (h : s.memOk) : (entAsk s w).memOk := memOk_ite (memOk_entServe h) (memOk_serveQueue h)

theorem memOk_entFailure {s : State} {rct apt : Bool} (h : s.memOk) : (entFailure s rct apt).memOk :=
  memOk_healthTell (memOk_entEvent (memOk_foldl (fun _ _ ht => memOk_entServe ht)
    (memOk_clearOut (memOk_update (memOk_setFld (memOk_setFld (memOk_setFld (memOk_setFld (memOk_count h)))))))))

theorem memOk_entEnterOk {s : State} (h : s.memOk) : (entEnterOk s).memOk :=
  memOk_when (memOk_serveQueue (memOk_update (memOk_setFld (memOk_setFld h)))) fun hk => memOk_healthTell (memOk_entEvent hk)

theorem memOk_entReseed {s : State} (h : s.memOk) : (entReseed s).memOk := memOk_serveQueue h

theorem memOk_entPass {s : State} {window : List Byte} (h : s.memOk) : (entPass s window).memOk := by
  unfold entPass
  split
  · exact memOk_ite (memOk_entEnterOk h) h
  · exact memOk_ite (memOk_entReseed h) h
  · exact h

theorem keepsForm_execEntWindowEnd {lo hi : BitVec 512} {s : State} : keepsForm s (execEntWindowEnd lo hi s) := by
  obtain ⟨t, ht⟩ : ∃ t, rawTests s lo hi = t := ⟨_, rfl⟩
  rw [execEntWindowEnd, ht]
  exact keepsForm_ite (keepsForm_next id) (keepsForm_ite (keepsForm_next memOk_entFailure)
    (keepsForm_next fun h => memOk_entPass (memOk_update h)))

theorem keepsForm_execRetryWaitEnd {s : State} : keepsForm s (execRetryWaitEnd s) :=
  keepsForm_ite (keepsForm_next memOk_setFld) (keepsForm_next id)

theorem keepsForm_execDrbgReseed {s : State} : keepsForm s (execDrbgReseed s) :=
  keepsForm_ite (keepsForm_next id) (keepsForm_ite (keepsForm_next memOk_entReseed) (keepsForm_next id))

theorem memOk_entReq {s : State} {v : Word} (h : s.memOk) : (entReq s v).memOk :=
  memOk_ite (memOk_setFldIn h) (memOk_entAsk (memOk_setReg (memOk_clearOut (memOk_setFldIn h))))

theorem keepsForm_execEntReq {v : Word} {s : State} : keepsForm s (execEntReq v s) := keepsForm_next memOk_entReq

/-! ### Resets -/

theorem memOk_keepFields {s t : State} {scope : Nat} (ht : t.memOk) : (keepFields s t scope).memOk :=
  memOk_ite (memOk_setFld (memOk_setFld ht)) (memOk_ite (memOk_foldl (fun _ _ ht => memOk_setFld ht) ht) ht)

theorem memOk_scopeClear {s : State} {scope : Nat} {exit : Bool} (h : s.memOk) : (scopeClear s scope exit).memOk :=
  memOk_update (memOk_keepFields (memOk_wipe (memOk_resetRegs (memOk_unitsOff h))))

theorem memOk_writeLog {s : State} {tb causes scope step cycle : Nat} (h : s.memOk) : (writeLog s tb causes scope step cycle).memOk :=
  memOk_setByte (memOk_setBytes h)

theorem memOk_unlog {s : State} (h : s.memOk) : (unlog s).memOk := memOk_setByte h

theorem memOk_recordReset {s : State} {tb causes scope step cycle : Nat} (h : s.memOk) : (recordReset s tb causes scope step cycle).memOk :=
  memOk_setReg (memOk_writeLog h)

theorem memOk_stepAction {s : State} {k : Nat} (h : s.memOk) : (stepAction s k).memOk :=
  memOk_ite (memOk_ite (memOk_releaseCpu (memOk_releaseCpu h)) (memOk_releaseCpu h)) h

theorem memOk_beginStep {s : State} {k : Nat} (h : s.memOk) : (beginStep s k).memOk :=
  memOk_ite (memOk_setFld h) (memOk_stepAction (memOk_setFld h))

theorem memOk_bringUp {s : State} {scope : Nat} (h : s.memOk) : (bringUp s scope).memOk :=
  memOk_ite (memOk_releaseCpu (memOk_beginStep h)) (memOk_beginStep h)

theorem memOk_cancelResume {s : State} (h : s.memOk) : (cancelResume s).memOk := memOk_ite (memOk_setFld (memOk_setFld h)) h

theorem memOk_resetClocks {s : State} {scope : Nat} (h : s.memOk) : (resetClocks s scope).memOk :=
  memOk_ite (memOk_cancelResume (memOk_setFld (memOk_setFld (memOk_setFld (memOk_setFld h))))) h

theorem memOk_resetAon {s : State} {scope tb : Nat} {wake : Word} (h : s.memOk) : (resetAon s scope tb wake).memOk :=
  memOk_ite (memOk_update (memOk_setReg h)) h

theorem memOk_allPowered {s : State} (h : s.memOk) : (allPowered s).memOk := memOk_setFld (memOk_setFld (memOk_setFld h))

theorem memOk_tellTimeout {s : State} {slot : Option Nat} (h : s.memOk) : (tellTimeout s slot).memOk := by
  unfold tellTimeout
  split
  · exact memOk_setBootErr h
  · exact h

theorem memOk_enterResetAt {s : State} {causes scope step cycle : Nat} (h : s.memOk) : (enterResetAt s causes scope step cycle).memOk :=
  memOk_update (memOk_bringUp (memOk_tellTimeout (memOk_allPowered
    (memOk_setReg (memOk_setReg (memOk_setReg (memOk_setReg (memOk_setFld
    (memOk_setReg (memOk_recordReset (memOk_resetAon (memOk_resetClocks (memOk_scopeClear (memOk_pflCut (memOk_jCut h)))))))))))))))

theorem memOk_enterReset {s : State} {causes scope : Nat} (h : s.memOk) : (enterReset s causes scope).memOk := memOk_enterResetAt h

theorem memOk_joinReset {s : State} {f : NewReset} {causes scope : Nat} (h : s.memOk) : (joinReset s f causes scope).memOk :=
  memOk_enterResetAt (memOk_unlog h)

theorem memOk_hifClear {s : State} (h : s.memOk) : (hifClear s).memOk := h
theorem memOk_hifReset {s : State} (h : s.memOk) : (hifReset s).memOk := memOk_hifClear (memOk_evcEvent h)

theorem memOk_hifResetOf {s : State} {causes : Nat} (h : s.memOk) : (hifResetOf s causes).memOk :=
  memOk_ite (memOk_hifReset (memOk_setReg h)) (memOk_setReg h)

theorem memOk_duringSave {s : State} {causes scope : Nat} (h : s.memOk) : (duringSave s causes scope).memOk :=
  memOk_ite (memOk_enterReset (memOk_saveCut h)) (by split <;> exact h)

theorem memOk_hifResetBy {s : State} {k : Nat} (h : s.memOk) : (hifResetBy s k).memOk := memOk_ite (memOk_duringSave h) (memOk_hifResetOf h)

theorem memOk_requestReset {s : State} {causes scope : Nat} (h : s.memOk) : (requestReset s causes scope).memOk :=
  memOk_ite h (by
      split
      · exact memOk_joinReset h
      · exact memOk_ite (memOk_recordReset h) (memOk_ite (memOk_duringSave h) (memOk_ite (memOk_update (memOk_startSave h))
            (memOk_enterReset h))))

theorem memOk_resetEntry {s : State} {k scope : Nat} (h : s.memOk) : (resetEntry s k scope).memOk := memOk_requestReset h

theorem keepsForm_execSaveSeal {s : State} : keepsForm s (execSaveSeal s) := by
  unfold execSaveSeal
  dsimp only
  exact keepsForm_ite ((by
      split
      · exact keepsForm_next fun h => memOk_ite (memOk_hifResetOf (memOk_update (memOk_finishSave h))) (memOk_enterReset (memOk_finishSave
            h))
      · exact keepsForm_next memOk_finishSave)) (keepsForm_next id)

theorem keepsForm_execBor {s : State} : keepsForm s (execBor s) := keepsForm_next memOk_resetEntry
theorem keepsForm_execPowerOnReset {s : State} : keepsForm s (execPowerOnReset s) := keepsForm_next fun h => memOk_resetEntry h
theorem keepsForm_execRstN {s : State} : keepsForm s (execRstN s) := keepsForm_next fun h => memOk_resetEntry h

theorem keepsForm_execRstNRelease {s : State} : keepsForm s (execRstNRelease s) :=
  keepsForm_ite (keepsForm_next fun h => memOk_stepAction h) (keepsForm_next fun h => h)

theorem memOk_rstCtrl {s : State} {v : Word} (h : s.memOk) : (rstCtrl s v).memOk :=
  memOk_ite (by split; exacts [memOk_resetEntry h, memOk_resetEntry h, h]) h

theorem keepsForm_execRstCtrl {v : Word} {s : State} : keepsForm s (execRstCtrl v s) := keepsForm_next memOk_rstCtrl
theorem memOk_wdtSpExpire {s : State} (h : s.memOk) : (wdtSpExpire s).memOk := memOk_resetEntry (memOk_ite h h)

theorem keepsForm_execWdtSpExpiry {s : State} : keepsForm s (execWdtSpExpiry s) :=
  keepsForm_ite (keepsForm_next id) (keepsForm_next memOk_wdtSpExpire)

theorem keepsForm_execDebugSystemReset {s : State} : keepsForm s (execDebugSystemReset s) :=
  keepsForm_ite (keepsForm_next memOk_resetEntry) (keepsForm_next id)

theorem memOk_endStep1 {s : State} {straps : Nat} (h : s.memOk) : (endStep1 s straps).memOk :=
  memOk_beginStep (memOk_setFld (memOk_setFld h))

theorem memOk_warmLocks {s : State} (h : s.memOk) : (warmLocks s).memOk :=
  memOk_setRegBit (memOk_setRegBit (memOk_setFld (memOk_setFld (memOk_setFld h))))

theorem memOk_allLocks {s : State} (h : s.memOk) : (allLocks s).memOk :=
  memOk_setFld (memOk_setFld (memOk_setFld (memOk_setFld (memOk_setFld (memOk_setFld (memOk_setFld h))))))

theorem memOk_endStep3 {s : State} (h : s.memOk) : (endStep3 s).memOk :=
  memOk_beginStep (memOk_update (memOk_ite (memOk_warmLocks h) (memOk_allLocks h)))

theorem memOk_endStep6 {s : State} {flash : Nat → Nat} (h : s.memOk) : (endStep6 s flash).memOk :=
  memOk_update (memOk_setFld (memOk_checkFactory (memOk_startSlots (memOk_startFresh (memOk_repairLog h)))))

theorem memOk_endStep {s : State} {straps : Nat} {flash : Nat → Nat} (h : s.memOk) : (endStep s straps flash).memOk := by
  unfold endStep
  split
  · exact h
  · exact memOk_endStep1 h
  · exact memOk_beginStep h
  · exact memOk_ite (memOk_endStep3 h) h
  · exact memOk_beginStep h
  · exact memOk_beginStep h
  · exact memOk_endStep6 h

theorem keepsForm_execBringupStepEnd {straps : BitVec 4} {flashA flashB : Fin 3} {s : State} :
    keepsForm s (execBringupStepEnd straps flashA flashB s) :=
  keepsForm_ite (keepsForm_next fun h => h) (keepsForm_next fun h => memOk_endStep h)

theorem keepsForm_execCrystalStartDelay {good : Bool} {s : State} : keepsForm s (execCrystalStartDelay good s) :=
  keepsForm_ite (keepsForm_next id) (keepsForm_next id)

theorem memOk_twlEvent {s : State} {k : Nat} (h : s.memOk) : (twlEvent s k).memOk := memOk_evcIf h
theorem memOk_twlClear {s : State} (h : s.memOk) : (twlClear s).memOk := h

theorem memOk_twlBlockReset {s : State} (h : s.memOk) : (twlBlockReset s).memOk :=
  memOk_healthTell (memOk_twlClear (memOk_ite (memOk_twlEvent (memOk_when (memOk_ite (memOk_twlEvent h) h) memOk_twlEvent))
    (memOk_when (memOk_ite (memOk_twlEvent h) h) memOk_twlEvent)))

theorem memOk_evalLost {s : State} {n : Nat} (h : s.memOk) : (evalLost s n).memOk := by
  unfold evalLost
  split
  · exact memOk_ite (memOk_setRun h) h
  · exact h

theorem memOk_clusterBlockReset {s : State} {c : Nat} (h : s.memOk) : (clusterBlockReset s c).memOk :=
  memOk_eachNat (fun _ _ ht => memOk_ite (memOk_evalLost ht) (memOk_resetLeAll (memOk_evalLost ht))) h

theorem memOk_bmvReset {s : State} (h : s.memOk) : (bmvReset s).memOk :=
  memOk_update (memOk_resetRegs (memOk_eachNat (fun _ _ ht => memOk_setFld ht) h))

theorem memOk_sflReset {s : State} {l : Nat} (h : s.memOk) : (sflReset s l).memOk := memOk_setFld (memOk_resetRegs (memOk_linkDown h))

theorem memOk_fpcReset {s : State} (h : s.memOk) : (fpcReset s).memOk :=
  memOk_update (memOk_resetRegs (memOk_eachNat (fun _ _ ht => memOk_ite ht (memOk_fpcTo ht)) h))

theorem memOk_blockReset {s : State} {k : Nat} (h : s.memOk) : (blockReset s k).memOk :=
  memOk_ite (memOk_clusterBlockReset h) (memOk_ite (memOk_twlBlockReset h) (memOk_ite (memOk_fpcReset h) (memOk_ite (memOk_bmvReset h)
    (memOk_ite (memOk_hifReset h) (memOk_sflReset h)))))

theorem memOk_setHeld {s : State} {k : Nat} {v : Bool} (h : s.memOk) : (setHeld s k v).memOk :=
  memOk_ite (memOk_setRegBit h) (memOk_setRegBit h)

theorem memOk_wrapperClosed {s : State} {k : Nat} (h : s.memOk) : (wrapperClosed s k).memOk :=
  memOk_ite (memOk_setHeld (memOk_blockReset h)) h

theorem memOk_blockRelease {s : State} {k : Nat} (h : s.memOk) : (blockRelease s k).memOk :=
  memOk_ite (memOk_releaseEngines (memOk_setHeld (memOk_wrapperClosed h))) (memOk_when (memOk_setHeld (memOk_wrapperClosed h))
    memOk_tryTrain)

theorem memOk_blockBit {v first : Nat} {s : State} {i : Nat} (h : s.memOk) : (blockBit v first s i).memOk :=
  memOk_ite h (memOk_ite (memOk_update (memOk_setRegBit h)) (memOk_blockRelease (memOk_setRegBit h)))

theorem memOk_blockWrite {s : State} {sfl : Bool} {v : Word} (h : s.memOk) : (blockWrite s sfl v).memOk :=
  memOk_foldl (fun _ _ ht => memOk_blockBit ht) h

theorem keepsForm_execRstBlk {sfl : Bool} {v : Word} {s : State} : keepsForm s (execRstBlk sfl v s) := keepsForm_next memOk_blockWrite
theorem keepsForm_execWrapperClosed {k : Fin 32} {s : State} : keepsForm s (execWrapperClosed k s) := keepsForm_next memOk_wrapperClosed

/-! ### Ledger -/

theorem memOk_setAgmBit {s : State} {lo c : Nat} {v : Bool} (h : s.memOk) : (setAgmBit s lo c v).memOk := h
theorem memOk_agmEvent {s : State} {k : Nat} (h : s.memOk) : (agmEvent s k).memOk := memOk_evcIf h

theorem memOk_ledgerWrite {s : State} {anchor : Bool} {l : List Byte} (h : s.memOk) : (ledgerWrite s anchor l).memOk :=
  memOk_ite (memOk_update (memOk_setBytes h)) (memOk_setFld (memOk_setBytes h))

theorem memOk_ledgerPut {s : State} {anchor : Bool} {l : List Byte} (h : s.memOk) : (ledgerPut s anchor l).memOk :=
  memOk_ite h (memOk_ite (memOk_ledgerWrite h) (memOk_ite h (memOk_agmEvent (memOk_setFld h))))

theorem memOk_ledgerFlush {s : State} (h : s.memOk) : (ledgerFlush s).memOk :=
  memOk_ite (memOk_foldl (fun _ _ ht => memOk_ledgerWrite ht) h) h

theorem memOk_record {s : State} {kind cluster : Nat} (h : s.memOk) : (record s kind cluster).memOk := memOk_ledgerPut h

theorem memOk_enterWarn {s : State} {c : Nat} (h : s.memOk) : (enterWarn s c).memOk :=
  memOk_record (memOk_update (memOk_agmEvent (memOk_setAgmBit h)))

theorem memOk_clearPend {s : State} {c : Nat} (h : s.memOk) : (clearPend s c).memOk := h
theorem memOk_dropDerate {s : State} {c : Nat} (h : s.memOk) : (dropDerate s c).memOk := memOk_ite (memOk_enterWarn (memOk_clearPend h)) h

theorem memOk_sensorsOff {s : State} {c : Nat} (h : s.memOk) : (sensorsOff s c).memOk :=
  memOk_update (memOk_setFld (memOk_setFld (memOk_setFld (memOk_setReg h))))

theorem memOk_agmStart {s : State} (h : s.memOk) : (agmStart s).memOk :=
  memOk_ite h (memOk_record (memOk_ledgerFlush (memOk_update (memOk_setFld (memOk_setFld h)))))

theorem keepsForm_execNvsRelease {s : State} : keepsForm s (execNvsRelease s) :=
  keepsForm_ite (keepsForm_next fun h => memOk_ledgerFlush (memOk_agmStart (memOk_nvrReady h))) (keepsForm_next id)

/-! ### Clocks -/

theorem memOk_linksDown {s : State} {cause : Nat} (h : s.memOk) : (linksDown s cause).memOk :=
  memOk_eachNat (fun _ _ ht => memOk_ite ht (memOk_linkDown ht)) h

theorem memOk_twlTo {s : State} {st : Nat} (h : s.memOk) : (twlTo s st).memOk := memOk_ite h (memOk_twlEvent (memOk_setFld h))
theorem memOk_twlDown {s : State} (h : s.memOk) : (twlDown s).memOk := memOk_twlTo (memOk_update (memOk_ite (memOk_countReg h) h))

theorem memOk_clFails {s : State} (h : s.memOk) : (clFails s).memOk :=
  memOk_raiseNmi (memOk_aonEvent (memOk_update (memOk_cancelResume (memOk_setFld (memOk_setFld (memOk_setFld h))))))

theorem memOk_mcFails {s : State} (h : s.memOk) : (mcFails s).memOk := memOk_raiseNmi (memOk_aonEvent (memOk_setFld (memOk_setFld h)))
theorem memOk_markFail {s : State} {k : Nat} (h : s.memOk) : (markFail s k).memOk := h
theorem memOk_clearLive {s : State} {k : Nat} (h : s.memOk) : (clearLive s k).memOk := h

theorem memOk_xtalFails {s : State} (h : s.memOk) : (xtalFails s).memOk :=
  memOk_twlDown (memOk_linksDown (memOk_mcFails (memOk_markFail
    (memOk_clFails (memOk_markFail (memOk_raiseNmi (memOk_aonEvent (memOk_update (memOk_setFld (memOk_setFld (memOk_setFld h)))))))))))

theorem memOk_dataLinkDown {s : State} (h : s.memOk) : (dataLinkDown s).memOk := memOk_hifResetBy (memOk_evcEvent (memOk_setReg h))

theorem memOk_clockResponse {s : State} {k : Nat} (h : s.memOk) : (clockResponse s k).memOk := by
  unfold clockResponse
  split
  · exact memOk_xtalFails h
  · exact memOk_clFails h
  · exact memOk_mcFails h
  · exact memOk_raiseNmi (memOk_aonEvent (memOk_linksDown (memOk_setFld h)))
  · exact memOk_dataLinkDown h
  · exact memOk_twlDown h
  · exact h

theorem memOk_clockFail {s : State} {k : Nat} (h : s.memOk) : (clockFail s k).memOk :=
  memOk_ite h (memOk_ite (memOk_resetEntry (memOk_update (memOk_markFail h))) (memOk_clockResponse (memOk_markFail h)))

theorem keepsForm_execClockMonitorWindow {k : Fin 7} {outside : Bool} {s : State} : keepsForm s (execClockMonitorWindow k outside s) :=
  keepsForm_ite (keepsForm_next fun h => memOk_clockFail h) (keepsForm_next fun h => h)

theorem keepsForm_execPllLockDrop {p : Pll} {s : State} : keepsForm s (execPllLockDrop p s) := keepsForm_next memOk_clockFail

theorem memOk_pllRelock {s : State} {k : Nat} (h : s.memOk) : (pllRelock s k).memOk := by
  unfold pllRelock
  split
  · exact memOk_setFld (memOk_clearLive h)
  · exact memOk_setFld (memOk_setFld (memOk_clearLive h))
  · exact memOk_when (memOk_clearLive h) fun hk => memOk_eachNat (fun _ _ ht => memOk_tryTrain ht) (memOk_setFld hk)
  · exact memOk_clearLive h

theorem keepsForm_execPllRelock {p : Pll} {s : State} : keepsForm s (execPllRelock p s) := keepsForm_next memOk_pllRelock

theorem keepsForm_execXtalGood {s : State} : keepsForm s (execXtalGood s) :=
  keepsForm_next fun h => memOk_setFld (memOk_setFld (memOk_clearLive h))

theorem keepsForm_execClStable {s : State} : keepsForm s (execClStable s) := keepsForm_ite (keepsForm_next memOk_setFld) (keepsForm_next id)
theorem memOk_clResume {s : State} (h : s.memOk) : (clResume s).memOk := memOk_ite (memOk_setFld h) (memOk_setFld h)
theorem keepsForm_execClResume {s : State} : keepsForm s (execClResume s) := keepsForm_next memOk_clResume

theorem memOk_tellDegraded {s : State} {start : Nat} (h : s.memOk) : (tellDegraded s start).memOk :=
  memOk_eachNat (fun _ _ ht => memOk_ite ht (memOk_postEvent ht)) h

theorem memOk_degStart {s : State} (h : s.memOk) : (degStart s).memOk :=
  memOk_ite h (memOk_healthTell (memOk_tellDegraded (memOk_setFld h)))

theorem memOk_degEnd {s : State} (h : s.memOk) : (degEnd s).memOk := memOk_ite (memOk_healthTell (memOk_tellDegraded (memOk_setFld h))) h

theorem memOk_clocksAtBoundary {s : State} (h : s.memOk) : (clocksAtBoundary s).memOk :=
  memOk_ite (memOk_degEnd (memOk_update (memOk_setFld (memOk_setFld h)))) (memOk_ite (memOk_degStart h) h)

theorem memOk_trimStep {s : State} {n e : Nat} (h : s.memOk) : (trimStep s n e).memOk := h

theorem memOk_trimInterval {s : State} {n e : Nat} (h : s.memOk) : (trimInterval s n e).memOk :=
  memOk_ite (memOk_count h) (memOk_update (memOk_setFld (memOk_ite (memOk_trimStep h) h)))

theorem memOk_steerTb {s : State} {n : Nat} (h : s.memOk) : (steerTb s n).memOk := memOk_ite (memOk_setReg h) h

theorem keepsForm_execAutoTrimInterval {n : Word} {s : State} : keepsForm s (execAutoTrimInterval n s) := by
  unfold execAutoTrimInterval
  split
  · exact keepsForm_next fun h => memOk_steerTb (memOk_trimInterval h)
  · exact keepsForm_next id

theorem memOk_setStep {s : State} {c v : Nat} (h : s.memOk) : (setStep s c v).memOk :=
  memOk_ite (memOk_setFld h) (memOk_setRegBit (memOk_setFld h))

theorem memOk_stepWrite {s : State} {c v : Nat} (h : s.memOk) : (stepWrite s c v).memOk :=
  memOk_ite h (memOk_ite h (memOk_ite (memOk_update (memOk_update (memOk_dropDerate h))) (memOk_healthTell (memOk_recomputeCaps
    (memOk_setStep (memOk_update (memOk_dropDerate h)))))))

theorem keepsForm_execClfreqStepWrite {c : Fin 4} {v : BitVec 4} {s : State} : keepsForm s (execClfreqStepWrite c v s) :=
  keepsForm_next memOk_stepWrite

theorem memOk_stepsAtBoundary {s : State} (h : s.memOk) : (stepsAtBoundary s).memOk :=
  memOk_update (memOk_foldl (fun _ _ ht => memOk_setStep ht) h)

theorem keepsForm_execBrownOutWarning {s : State} : keepsForm s (execBrownOutWarning s) := keepsForm_next memOk_aonEvent

/-! ### Pins -/

theorem memOk_setUart {s : State} {n : Nat} {x : Uart} (h : s.memOk) : (s.setUart n x).memOk := h
theorem memOk_setSpi {s : State} {m : Nat} {x : Spi} (h : s.memOk) : (s.setSpi m x).memOk := h
theorem memOk_setI2c {s : State} {j : Nat} {x : I2c} (h : s.memOk) : (s.setI2c j x).memOk := h
theorem memOk_setTmr {s : State} {t : Nat} {x : Tmr} (h : s.memOk) : (s.setTmr t x).memOk := h
theorem memOk_tmrCount {s : State} {t : Nat} (h : s.memOk) : (tmrCount s t).memOk := memOk_ite (memOk_setReg h) h

/-! ### Power -/

theorem memOk_lightNow {s : State} (h : s.memOk) : (lightNow s).memOk := h
theorem memOk_startOff {s : State} {d : Nat} (h : s.memOk) : (startOff s d).memOk := h

theorem memOk_switchOff {s : State} {d : Nat} (h : s.memOk) : (switchOff s d).memOk :=
  memOk_ite (memOk_setRegBit h) (memOk_ite (memOk_setRegBit h) (memOk_ite (memOk_setRegBit h) (memOk_startOff (memOk_setRegBit h))))

theorem memOk_clusterOff {s : State} {c : Nat} (h : s.memOk) : (clusterOff s c).memOk :=
  memOk_eachNat (fun _ _ ht => memOk_resetLeAll (memOk_evalLost ht)) h

theorem memOk_loadLost {s : State} {c : Nat} (h : s.memOk) : (loadLost s c).memOk := h
theorem memOk_muteLnk {s : State} (h : s.memOk) : (muteLnk s).memOk := memOk_eachNat (fun _ _ ht => memOk_setReg ht) (memOk_setReg h)

theorem memOk_domainLost {s : State} {d : Nat} (h : s.memOk) : (domainLost s d).memOk :=
  memOk_ite (memOk_sensorsOff (memOk_clusterOff (memOk_loadLost (memOk_define (memOk_update (memOk_wipe h))))))
    (memOk_ite (memOk_update (memOk_endPlan (memOk_resetRegs (memOk_update (memOk_wipe h)))))
    (memOk_ite (memOk_update (memOk_resetRegs (memOk_twlClear (memOk_eachNat (fun _ _ ht => memOk_linkDown ht)
    (memOk_muteLnk (memOk_unitsOff (memOk_update (memOk_wipe h)))))))) (memOk_ite (memOk_hifClear (memOk_update (memOk_wipe h)))
    (memOk_update (memOk_resetRegs (memOk_update (memOk_wipe h)))))))

theorem memOk_domainOff {s : State} {d : Nat} (h : s.memOk) : (domainOff s d).memOk :=
  memOk_when (memOk_lightNow (memOk_update (memOk_setRegBit (memOk_setRegBit (memOk_domainLost (memOk_ite (memOk_trcDown h) h))))))
    memOk_startOn

theorem memOk_stbyNext {s : State} (h : s.memOk) : (stbyNext s).memOk := memOk_ite (by split; exacts [memOk_startOff h, h]) h

theorem keepsForm_execDomainOffEnd {d : Fin 8} {s : State} : keepsForm s (execDomainOffEnd d s) :=
  keepsForm_ite (keepsForm_next fun h => memOk_stbyNext (memOk_domainOff h)) (keepsForm_next id)

theorem memOk_domainUp {s0 : State} {d : Nat} (h : s0.memOk) : (domainUp s0 d).memOk :=
  memOk_ite (memOk_trcUp (memOk_when (memOk_eachNat (fun _ _ ht => memOk_resetLeAll ht)
    (memOk_lightNow (memOk_update (memOk_setRegBit (memOk_setRegBit (memOk_wipe h)))))) memOk_update))
    (memOk_lightNow (memOk_update (memOk_setRegBit (memOk_setRegBit (memOk_wipe h)))))

theorem keepsForm_execDomainSwitchOff {d : Fin 8} {s : State} : keepsForm s (execDomainSwitchOff d s) := keepsForm_next memOk_switchOff
theorem keepsForm_execDomainSwitchOn {d : Fin 8} {s : State} : keepsForm s (execDomainSwitchOn d s) := keepsForm_next memOk_switchOn

theorem keepsForm_execWakeOnDemand {d : Fin 8} {s : State} : keepsForm s (execWakeOnDemand d s) :=
  keepsForm_ite (keepsForm_next memOk_wakeAccess) (keepsForm_next id)

theorem memOk_stbyRefuse {s : State} {code : Nat} (h : s.memOk) : (stbyRefuse s code).memOk := memOk_setFld (memOk_setFld h)
theorem memOk_startStandby {s : State} {xtalOn : Bool} (h : s.memOk) : (startStandby s xtalOn).memOk := memOk_stbyNext h
theorem memOk_endEntry {s : State} (h : s.memOk) : (endEntry s).memOk := h

theorem memOk_standbyRequest {s : State} {v : Word} (h : s.memOk) : (standbyRequest s v).memOk :=
  memOk_ite h (memOk_ite (memOk_stbyRefuse h) (memOk_ite (memOk_stbyRefuse h) (memOk_startStandby h)))

theorem keepsForm_execStandbyRequest {v : Word} {s : State} : keepsForm s (execStandbyRequest v s) := keepsForm_next memOk_standbyRequest

theorem keepsForm_execSpAckTimeout {s : State} : keepsForm s (execSpAckTimeout s) :=
  keepsForm_ite (keepsForm_next fun h => memOk_endEntry (memOk_stbyRefuse h)) (keepsForm_next id)

theorem memOk_holdPins {s : State} (h : s.memOk) : (holdPins s).memOk := h

theorem memOk_leaveStandby {s : State} {k : Nat} (h : s.memOk) : (leaveStandby s k).memOk :=
  memOk_bringUp (memOk_eachNat (fun _ _ ht => memOk_trcUp ht) (memOk_allPowered
    (memOk_setFld (memOk_update (memOk_setReg (memOk_scopeClear h))))))

theorem memOk_commitStandby {s : State} (h : s.memOk) : (commitStandby s).memOk :=
  memOk_setFld (memOk_setFld (memOk_setFld (memOk_wipe (memOk_update (memOk_holdPins (memOk_eachNat (fun _ _ ht => memOk_trcDown ht) h))))))

theorem keepsForm_execSpStopAck {s : State} : keepsForm s (execSpStopAck s) :=
  keepsForm_ite (keepsForm_next id) (keepsForm_ite (keepsForm_next id) (keepsForm_next memOk_commitStandby))

theorem memOk_wakeOn {s : State} {k : Nat} (h : s.memOk) : (wakeOn s k).memOk :=
  memOk_ite h (memOk_ite (memOk_pmuEvent (memOk_endEntry (memOk_setFld h))) (memOk_ite (memOk_leaveStandby h) (memOk_ite (memOk_setFld h)
    h)))

theorem memOk_aonWake {s : State} {k : Nat} (h : s.memOk) : (aonWake s k).memOk := memOk_wakeOn (memOk_aonEvent h)
theorem keepsForm_execStandbyWake {k : Fin 32} {s : State} : keepsForm s (execStandbyWake k s) := keepsForm_next memOk_aonWake

theorem keepsForm_execMainSupplyLoss {s : State} : keepsForm s (execMainSupplyLoss s) :=
  keepsForm_next fun h => memOk_update (memOk_scopeClear (memOk_pflCut (memOk_jCut (memOk_ite (memOk_saveCut h) h))))

theorem memOk_avsSend {s : State} {mv : Nat} (h : s.memOk) : (avsSend s mv).memOk := h

theorem memOk_avsNext {s : State} (h : s.memOk) : (avsNext s).memOk :=
  memOk_ite (memOk_update (memOk_setFld h)) (memOk_avsSend (memOk_update (memOk_setFld h)))

theorem memOk_avsTarget {s : State} {mv : Nat} (h : s.memOk) : (avsTarget s mv).memOk :=
  memOk_ite (memOk_setFld h) (memOk_ite (memOk_avsNext (memOk_setFld h)) (memOk_setFld h))

theorem memOk_avsTargetWrite {s : State} {mv : Nat} (h : s.memOk) : (avsTargetWrite s mv).memOk :=
  memOk_ite (memOk_setFld h) (memOk_avsTarget h)

theorem keepsForm_execAvsTargetWrite {mv : BitVec 10} {s : State} : keepsForm s (execAvsTargetWrite mv s) :=
  keepsForm_next memOk_avsTargetWrite

theorem memOk_rungStops {s : State} (h : s.memOk) : (rungStops s).memOk := h

theorem memOk_avsError {s : State} {code : Nat} (h : s.memOk) : (avsError s code).memOk :=
  memOk_pmuEvent (memOk_rungStops (memOk_setFld (memOk_setFld (memOk_setFld (memOk_setFld h)))))

theorem memOk_avsFail {s : State} {code : Nat} (h : s.memOk) : (avsFail s code).memOk := memOk_ite (memOk_avsError h) (memOk_avsSend h)

theorem memOk_avsDone {s : State} {step : Nat} (h : s.memOk) : (avsDone s step).memOk :=
  memOk_ite (memOk_pmuEvent (memOk_update (memOk_avsNext (memOk_setFld h)))) (memOk_avsNext (memOk_setFld h))

theorem memOk_avsSettle {s : State} {step : Nat} {x2 : AvsEnd} (h : s.memOk) : (avsSettle s step x2).memOk := by
  unfold avsSettle
  split
  · exact memOk_ite (memOk_avsDone (memOk_setReg h)) (memOk_ite (memOk_update (memOk_setReg h)) (memOk_avsFail (memOk_setReg h)))
  · exact memOk_avsFail h
  · exact memOk_ite (memOk_avsFail h) h
  · exact memOk_avsFail h

theorem keepsForm_execAvsSettle {r : AvsEnd} {s : State} : keepsForm s (execAvsSettle r s) := by
  unfold execAvsSettle
  split
  · exact keepsForm_next fun h => memOk_ite (memOk_commitStandby (memOk_avsSettle h)) (memOk_avsSettle h)
  · exact keepsForm_next id

theorem keepsForm_execReadIoutPoll {raw : BitVec 16} {s : State} : keepsForm s (execReadIoutPoll raw s) :=
  keepsForm_ite (keepsForm_next memOk_setReg) (keepsForm_next id)

theorem keepsForm_execPmbAlert {status : BitVec 16} {s : State} : keepsForm s (execPmbAlert status s) :=
  keepsForm_next fun h => memOk_pmuEvent (memOk_setFld (memOk_setReg h))

theorem memOk_avsCfgWrite {s : State} {v : Word} (h : s.memOk) : (avsCfgWrite s v).memOk :=
  memOk_ite (memOk_avsNext (memOk_plainReg h)) (memOk_ite (memOk_rungStops (memOk_setFld (memOk_plainReg h))) (memOk_plainReg h))

theorem memOk_avsLimWrite {s : State} {v : Word} (h : s.memOk) : (avsLimWrite s v).memOk :=
  memOk_ite (memOk_setFld (memOk_ite h (memOk_setFld (memOk_setFld h)))) (memOk_ite h (memOk_setFld (memOk_setFld h)))

theorem memOk_domCtrlWrite {s : State} {v : Word} (h : s.memOk) : (domCtrlWrite s v).memOk :=
  memOk_eachNat (fun _ _ ht => memOk_ite (memOk_switchOn ht) (memOk_switchOff ht)) (memOk_setFld h)

theorem memOk_bkdLoss {s : State} (h : s.memOk) : (bkdLoss s).memOk := memOk_update (memOk_setFld (memOk_wipe (memOk_resetRegs h)))
theorem keepsForm_execBkdLoss {s : State} : keepsForm s (execBkdLoss s) := keepsForm_next memOk_bkdLoss
theorem memOk_rtcSecWrite {s : State} {v : Word} (h : s.memOk) : (rtcSecWrite s v).memOk := memOk_setFld (memOk_setReg (memOk_setReg h))
theorem keepsForm_execRtcSecWrite {v : Word} {s : State} : keepsForm s (execRtcSecWrite v s) := keepsForm_next memOk_rtcSecWrite
theorem memOk_rtcSubRead {s : State} (h : s.memOk) : (rtcSubRead s).memOk := h
theorem keepsForm_execRtcSubRead {s : State} : keepsForm s (execRtcSubRead s) := keepsForm_next fun h => memOk_update (memOk_rtcSubRead h)

theorem memOk_backupEvent {s : State} {src : Nat} (h : s.memOk) : (backupEvent s src).memOk :=
  memOk_ite (memOk_setFld (memOk_ite h (memOk_count h))) (memOk_ite h (memOk_count h))

theorem memOk_alarmFires {s : State} (h : s.memOk) : (alarmFires s).memOk :=
  memOk_ite (memOk_backupEvent (memOk_setFld h)) (memOk_aonWake (memOk_setFld h))

theorem keepsForm_execRtcAlarm {s : State} : keepsForm s (execRtcAlarm s) :=
  keepsForm_ite (keepsForm_next fun h => memOk_alarmFires (memOk_setReg (memOk_setReg h))) (keepsForm_next id)

theorem memOk_rtcPeriod {s : State} (h : s.memOk) : (rtcPeriod s).memOk :=
  memOk_ite (memOk_setFld h) (memOk_ite (memOk_alarmFires (memOk_setFld (memOk_setReg h))) (memOk_setFld (memOk_setReg h)))

theorem memOk_rtcTick {s : State} (h : s.memOk) : (rtcTick s).memOk := memOk_ite h (memOk_rtcPeriod h)

theorem keepsForm_execBackupEvent {k : Fin 4} {rising : Bool} {s : State} : keepsForm s (execBackupEvent k rising s) :=
  keepsForm_ite (keepsForm_next fun h => memOk_ite (memOk_backupEvent h) (memOk_aonWake h)) (keepsForm_next id)

theorem memOk_reqClr {s : State} (h : s.memOk) : (reqClr s).memOk := memOk_setFld (memOk_setFld h)
theorem keepsForm_execReqClr {s : State} : keepsForm s (execReqClr s) := keepsForm_next memOk_reqClr
theorem memOk_evqPop {s : State} (h : s.memOk) : (evqPop s).memOk := h
theorem keepsForm_execBkdEvqHiRead {s : State} : keepsForm s (execBkdEvqHiRead s) := keepsForm_next fun h => memOk_update (memOk_evqPop h)

theorem memOk_bkdReadEffect {s : State} {a : Nat} (h : s.memOk) : (bkdReadEffect s a).memOk :=
  memOk_ite (memOk_rtcSubRead h) (memOk_ite h (memOk_ite (memOk_evqPop h) h))

/-! ### Ageing monitor -/

theorem memOk_keepLeast {s : State} {f : Fld} {z : ℤ} (h : s.memOk) : (keepLeast s f z).memOk := h

theorem memOk_measureCluster {w : AgmWindow} {s : State} {c : Nat} (h : s.memOk) : (measureCluster w s c).memOk :=
  memOk_ite (memOk_sensorsOff h) (memOk_update (memOk_setFld (memOk_setFld
    (memOk_keepLeast (memOk_keepLeast (memOk_setFld (memOk_setFld h)))))))

theorem memOk_measureTemps {w : AgmWindow} {s : State} (h : s.memOk) : (measureTemps w s).memOk := by
  unfold measureTemps
  split
  · exact memOk_eachNat (fun _ _ ht => memOk_setFld ht) (memOk_foldl (fun _ _ ht => memOk_setFld ht)
        (memOk_eachNat (fun _ _ ht => memOk_setFld ht) h))
  · exact memOk_ite (memOk_unless (memOk_update (memOk_eachNat (fun _ _ ht => memOk_setFld ht) (memOk_foldl (fun _ _ ht => memOk_setFld ht)
        (memOk_eachNat (fun _ _ ht => memOk_setFld ht) h)))) fun hk => memOk_aonEvent (memOk_update hk))
        (memOk_when (memOk_update (memOk_eachNat (fun _ _ ht => memOk_setFld ht) (memOk_foldl (fun _ _ ht => memOk_setFld ht)
        (memOk_eachNat (fun _ _ ht => memOk_setFld ht) h)))) memOk_update)

theorem memOk_voltageRung {s : State} (h : s.memOk) : (voltageRung s).memOk := memOk_ite (memOk_record (memOk_update (memOk_avsTarget h))) h

theorem memOk_applyDerate {s : State} {c : Nat} (h : s.memOk) : (applyDerate s c).memOk :=
  memOk_ite (memOk_enterWarn (memOk_record (memOk_agmEvent (memOk_clearPend (memOk_setStep h))))) h

theorem memOk_enterPend {s : State} {c : Nat} (h : s.memOk) : (enterPend s c).memOk :=
  memOk_ite (memOk_setAgmBit h) (memOk_unless (memOk_record (memOk_agmEvent (memOk_setAgmBit h))) fun hk => memOk_recomputeCaps
    (memOk_applyDerate hk))

theorem memOk_critStep {s : State} {c : Nat} (h : s.memOk) : (critStep s c).memOk :=
  memOk_record (memOk_ite (memOk_setAgmBit h) (memOk_setStep h))

theorem memOk_emergency {s : State} {c : Nat} (h : s.memOk) : (emergency s c).memOk :=
  memOk_voltageRung (memOk_critStep (memOk_raiseNmi (memOk_setAgmBit (memOk_setAgmBit (memOk_clearPend h)))))

theorem memOk_critAgain {s : State} {c : Nat} (h : s.memOk) : (critAgain s c).memOk := memOk_ite (memOk_setAgmBit h) (memOk_critStep h)

theorem memOk_judgeMargin {s : State} {c : Nat} (h : s.memOk) : (judgeMargin s c).memOk :=
  memOk_ite h (by
      split
      · exact memOk_ite (memOk_critAgain h) h
      · exact memOk_ite (memOk_emergency h) (memOk_ite (memOk_enterWarn h) h)
      · exact memOk_ite (memOk_emergency h) (memOk_ite (memOk_record (memOk_setAgmBit h)) (memOk_ite (memOk_enterPend h) h))
      · exact memOk_ite (memOk_emergency h) h)

theorem memOk_deratesStopped {s : State} (h : s.memOk) : (deratesStopped s).memOk :=
  memOk_ite h (memOk_eachNat (fun _ _ ht => memOk_ite (memOk_recomputeCaps (memOk_applyDerate ht)) ht) h)

theorem memOk_agmWindow {s : State} {w : AgmWindow} (h : s.memOk) : (agmWindow s w).memOk :=
  memOk_ite (memOk_update (memOk_measureTemps (memOk_eachNat (fun _ _ ht => memOk_measureCluster ht) (memOk_deratesStopped
    (memOk_ledgerFlush (memOk_agmStart h)))))) (memOk_healthTell
    (memOk_update (memOk_voltageRung (memOk_eachNat (fun _ _ ht => memOk_judgeMargin ht) (memOk_measureTemps
    (memOk_eachNat (fun _ _ ht => memOk_measureCluster ht) (memOk_deratesStopped (memOk_ledgerFlush (memOk_agmStart h)))))))))

theorem keepsForm_execAgmWindowEnd {w : AgmWindow} {s : State} : keepsForm s (execAgmWindowEnd w s) :=
  keepsForm_ite (keepsForm_next memOk_agmWindow) (keepsForm_next id)

theorem keepsForm_execMarginProbe {c : Fin 4} {r : Fin 16} {slack : BitVec 16} {s : State} : keepsForm s (execMarginProbe c r slack s) :=
  keepsForm_ite (keepsForm_next id) (keepsForm_next id)

theorem keepsForm_execAgmSettleExpiry {s : State} : keepsForm s (execAgmSettleExpiry s) :=
  keepsForm_ite (keepsForm_next fun h => memOk_voltageRung h) (keepsForm_next fun h => h)

theorem memOk_dailyRecord {s : State} (h : s.memOk) : (dailyRecord s).memOk :=
  memOk_update (memOk_eachNat (fun _ _ ht => memOk_setFld (memOk_setReg ht)) (memOk_ite (memOk_ledgerPut (memOk_ledgerPut h))
    (memOk_ledgerPut h)))

theorem keepsForm_execDailyRecord {s : State} : keepsForm s (execDailyRecord s) :=
  keepsForm_ite (keepsForm_next memOk_dailyRecord) (keepsForm_next id)

theorem memOk_ledgerMark {s : State} {v : Word} (h : s.memOk) : (ledgerMark s v).memOk := memOk_ledgerPut h
theorem keepsForm_execAgmLedgerMark {v : Word} {s : State} : keepsForm s (execAgmLedgerMark v s) := keepsForm_next memOk_ledgerMark

theorem memOk_derateApply {s : State} {m : Nat} (h : s.memOk) : (derateApply s m).memOk :=
  memOk_eachNat (fun _ _ ht => memOk_ite (memOk_ite ht (memOk_recomputeCaps (memOk_applyDerate ht))) ht) h

theorem keepsForm_execApply {m : BitVec 4} {s : State} : keepsForm s (execApply m s) :=
  keepsForm_next fun h => memOk_healthTell (memOk_derateApply h)

theorem memOk_derateCancel {s : State} {m : Nat} (h : s.memOk) : (derateCancel s m).memOk :=
  memOk_eachNat (fun _ _ ht => memOk_ite (memOk_dropDerate ht) ht) h

theorem keepsForm_execCancel {m : BitVec 4} {s : State} : keepsForm s (execCancel m s) := keepsForm_next memOk_derateCancel

theorem memOk_critClear {s : State} {m : Nat} (h : s.memOk) : (critClear s m).memOk :=
  memOk_healthTell (memOk_eachNat (fun _ _ ht => memOk_ite (memOk_enterWarn (memOk_setAgmBit ht)) ht) h)

theorem keepsForm_execCritClear {m : BitVec 4} {s : State} : keepsForm s (execCritClear m s) := keepsForm_next memOk_critClear

theorem memOk_deratesAtBoundary {written : List Nat} {s : State} (h : s.memOk) : (deratesAtBoundary written s).memOk :=
  memOk_update (memOk_eachNat (fun _ _ ht => memOk_ite (memOk_ite (memOk_dropDerate ht) (memOk_applyDerate ht)) ht) h)

/-! ### Block Mover -/

theorem memOk_cvuRestart {s : State} {c : Nat} {seed : Option Word} (h : s.memOk) : (cvuRestart s c seed).memOk := h
theorem memOk_cvuFeed {s : State} {c : Nat} {l : List Byte} (h : s.memOk) : (cvuFeed s c l).memOk := h
theorem memOk_cvuIgnore {s : State} {c : Nat} (h : s.memOk) : (cvuIgnore s c).memOk := memOk_setFld h

theorem memOk_cvuRestartWrite {s : State} {c : Nat} (h : s.memOk) : (cvuRestartWrite s c).memOk :=
  memOk_ite (memOk_cvuIgnore h) (memOk_cvuRestart h)

theorem keepsForm_execCvuRestart {c : Fin 4} {s : State} : keepsForm s (execCvuRestart c s) := keepsForm_atReg memOk_cvuRestartWrite

theorem memOk_cvuData {s : State} {c n : Nat} {v : Word} (h : s.memOk) : (cvuData s c n v).memOk :=
  memOk_ite (memOk_cvuIgnore h) (memOk_cvuFeed h)

theorem keepsForm_execCvuData {c : Fin 4} {log2 : Fin 3} {v : Word} {s : State} : keepsForm s (execCvuData c log2 v s) :=
  keepsForm_atReg memOk_cvuData

theorem memOk_cvuCfgWrite {s : State} {c : Nat} {v : Word} (h : s.memOk) : (cvuCfgWrite s c v).memOk :=
  memOk_ite (memOk_cvuRestartWrite (memOk_ite (memOk_cvuIgnore (memOk_when (memOk_ite (memOk_setFld h) h) memOk_setFld))
    (memOk_setFld (memOk_when (memOk_ite (memOk_setFld h) h) memOk_setFld))))
    (memOk_ite (memOk_cvuIgnore (memOk_when (memOk_ite (memOk_setFld h) h) memOk_setFld))
    (memOk_setFld (memOk_when (memOk_ite (memOk_setFld h) h) memOk_setFld)))

theorem memOk_setCh {s : State} {n : Nat} {x : BmvCh} (h : s.memOk) : (s.setCh n x).memOk := h
theorem memOk_bmvEvent {s : State} {k : Nat} (h : s.memOk) : (bmvEvent s k).memOk := memOk_evcIf h

theorem memOk_bmvHalt {s : State} {a : Nat} {ch : Option Nat} (h : s.memOk) : (bmvHalt s a ch).memOk :=
  memOk_setFld (memOk_eachNat (fun _ _ ht => memOk_ite ht (memOk_setCh (memOk_setFld ht))) (memOk_ite (memOk_setFld h)
    (memOk_setReg (memOk_setReg h))))

theorem memOk_chError {s : State} {n a : Nat} {write : Bool} (h : s.memOk) : (chError s n a write).memOk := memOk_bmvHalt (memOk_busErrOf h)
theorem memOk_mgsHalt {s : State} {c a n e : Nat} (h : s.memOk) : (mgsHalt s c a n e).memOk := memOk_chError (memOk_mgsUe h)

theorem memOk_takeDesc {s : State} {n a : Nat} (h : s.memOk) : (takeDesc s n a).memOk :=
  memOk_ite (memOk_setCh (memOk_setReg (memOk_setReg h))) (by
      split
      · exact memOk_mgsHalt (memOk_setReg (memOk_setReg h))
      · exact memOk_mgsHalt (memOk_setReg (memOk_setReg h))
      · exact memOk_ite (memOk_setCh (memOk_setReg (memOk_setReg h))) (memOk_unless (memOk_setCh (memOk_setReg (memOk_setReg h))) fun hk =>
            memOk_cvuRestart (memOk_setFld hk)))

theorem memOk_bmvGo {s : State} {n : Nat} (h : s.memOk) : (bmvGo s n).memOk := memOk_ite (memOk_setFld h) (memOk_takeDesc (memOk_setFld h))
theorem keepsForm_execBmvGo {n : Fin 16} {s : State} : keepsForm s (execBmvGo n s) := keepsForm_atReg memOk_bmvGo

theorem memOk_chIdle {s : State} {n : Nat} (h : s.memOk) : (chIdle s n).memOk :=
  memOk_ite (memOk_bmvEvent (memOk_setCh (memOk_setFld h))) (memOk_setCh (memOk_setFld h))

theorem memOk_writeBack {s : State} {n a st el resid : Nat} (h : s.memOk) : (writeBack s n a st el resid).2.memOk :=
  memOk_ite_snd h (memOk_ite_snd (memOk_snd (memOk_chError h)) (memOk_snd (memOk_store h)))

theorem memOk_descEnd {s : State} {n : Nat} (h : s.memOk) : (descEnd s n).memOk := by
  unfold descEnd
  extract_lets x
  split
  · exact h
  · extract_lets resid w st ok s1 s2 s3 s4 s5 s6
    have h2 : s2.memOk := memOk_setReg (memOk_setFld (memOk_setFld (memOk_writeBack h)))
    have h3 : s3.memOk := memOk_ite h2 (memOk_setReg h2)
    have h4 : s4.memOk := by
      unfold s4
      split
      · exact memOk_ite h3 (memOk_setFld h3)
      · exact h3
    have h5 : s5.memOk := memOk_ite (memOk_bmvEvent (memOk_setRegBit h4)) h4
    have h6 : s6.memOk := memOk_ite (memOk_countReg h5) h5
    exact memOk_ite (memOk_chIdle h6) (memOk_ite (memOk_chIdle (memOk_setReg (memOk_setFld (memOk_setReg (memOk_setFld h6)))))
      (memOk_ite (memOk_chIdle h6) (memOk_takeDesc (memOk_setCh h6))))

theorem keepsForm_execBmvDescriptorEnd {n : Fin 16} {s : State} : keepsForm s (execBmvDescriptorEnd n s) :=
  keepsForm_ite (keepsForm_next id) (keepsForm_next memOk_descEnd)

theorem memOk_bmvAbort {s : State} {n : Nat} (h : s.memOk) : (bmvAbort s n).memOk :=
  memOk_ite h (by split; exacts [memOk_setCh (memOk_setFld h), memOk_setCh h, h])

theorem keepsForm_execBmvAbort {n : Fin 16} {s : State} : keepsForm s (execBmvAbort n s) := keepsForm_atReg memOk_bmvAbort

theorem keepsForm_execBmvErrorResponse {n : Fin 16} {a : Word} {write : Bool} {s : State} :
    keepsForm s (execBmvErrorResponse n a write s) :=
  keepsForm_ite (keepsForm_next id) (keepsForm_next memOk_chError)

theorem memOk_haltClr {s : State} (h : s.memOk) : (haltClr s).memOk := memOk_ite (memOk_setFld h) h
theorem keepsForm_execHaltClr {s : State} : keepsForm s (execHaltClr s) := keepsForm_atReg memOk_haltClr
theorem memOk_mseGo {s : State} (h : s.memOk) : (mseGo s).memOk := memOk_ite h (memOk_update (memOk_setFld h))
theorem keepsForm_execMseGo {s : State} : keepsForm s (execMseGo s) := keepsForm_atReg memOk_mseGo

/-! ### Commands of the dispatcher -/

theorem keepsForm_execDispatch {c : Fin 4} {s : State} : keepsForm s (execDispatch c s) := keepsForm_next memOk_dispatchUnit
theorem keepsForm_execSteal {s : State} : keepsForm s (execSteal s) := keepsForm_next memOk_stealArbiter

theorem keepsForm_execEngineReport {n : Fin 64} {s : State} : keepsForm s (execEngineReport n s) :=
  keepsForm_next fun h => memOk_limFlush (memOk_engineReport h)

theorem keepsForm_execBudgetOverrun {n : Fin 64} {s : State} : keepsForm s (execBudgetOverrun n s) :=
  keepsForm_next fun h => memOk_limFlush (memOk_budgetOverrun h)

theorem keepsForm_execEngineClockGate {n : Fin 64} {s : State} : keepsForm s (execEngineClockGate n s) :=
  keepsForm_ite (keepsForm_next memOk_updLe) (keepsForm_next id)

theorem keepsForm_execDprRetire {n : Fin 64} {s : State} : keepsForm s (execDprRetire n s) := keepsForm_atReg memOk_retireEngine

theorem memOk_quarRel {s : State} {all : Bool} {lbd : Nat} (h : s.memOk) : (quarRel s all lbd).memOk :=
  memOk_ite h (memOk_recomputeCaps (memOk_releaseQuar h))

theorem keepsForm_execDprQuarRel {all : Bool} {lbd : BitVec 15} {s : State} : keepsForm s (execDprQuarRel all lbd s) :=
  keepsForm_atReg memOk_quarRel

theorem memOk_dprCntClr {s : State} (h : s.memOk) : (dprCntClr s).memOk :=
  memOk_setFld (memOk_setFld (memOk_setFld (memOk_setFld (memOk_resetRegs h))))

theorem keepsForm_execDprCntClr {s : State} : keepsForm s (execDprCntClr s) := keepsForm_atReg memOk_dprCntClr
theorem memOk_lewinClr {s : State} {n : Nat} (h : s.memOk) : (lewinClr s n).memOk := h

theorem keepsForm_execDprLewinClr {n : Fin 64} {k : Fin 16} {s : State} : keepsForm s (execDprLewinClr n k s) :=
  keepsForm_atReg fun h => memOk_lewinClr (memOk_setFld (memOk_setFld h))

theorem memOk_csmEccClr {s : State} {m : Nat} (h : s.memOk) : (csmEccClr s m).memOk := h
theorem keepsForm_execDprCsmEccClr {m : BitVec 4} {s : State} : keepsForm s (execDprCsmEccClr m s) := keepsForm_atReg memOk_csmEccClr
theorem memOk_dprReadEffect {s : State} {ofs : Nat} (h : s.memOk) : (dprReadEffect s ofs).memOk := memOk_ite (memOk_setFld h) h

/-! ### Requests of the host -/

theorem memOk_onHost {s : State} {serial : Nat} {op : Nat → Bool} {k : HostCmd → State → State} (h : s.memOk) (hk : ∀ y0 y1, y1.memOk →
    (k y0 y1).memOk) : (onHost s serial op k).memOk := by
  unfold onHost
  split
  · exact h
  · exact memOk_ite h (memOk_ite (hk _ _ (memOk_markStarted h)) (memOk_hostComplete (memOk_markStarted h)))

theorem memOk_dropReq {s : State} {serial : Nat} (h : s.memOk) : (dropReq s serial).memOk := h
theorem memOk_failReq {s : State} {r : HReq} {k st : Nat} (h : s.memOk) : (failReq s r k st).memOk := memOk_hostComplete (memOk_dropReq h)

theorem memOk_stagingDone {s : State} {r : HReq} (h : s.memOk) : (stagingDone s r).memOk :=
  memOk_ite (by split; exacts [memOk_failReq h, h]) h

theorem memOk_stagePart {s : State} {r : HReq} {k : Nat} {d : HostData} (h : s.memOk) : (stagePart s r k d).memOk := by
  unfold stagePart
  split
  · exact h
  · exact memOk_ite h (memOk_stagingDone (memOk_ite (memOk_busErrOf h) h))

theorem keepsForm_execPartStaged {serial : Nat} {k : Fin 32} {d : HostData} {s : State} : keepsForm s (execPartStaged serial k d s) := by
  unfold execPartStaged
  split
  · exact keepsForm_next memOk_stagePart
  · exact keepsForm_next id

theorem memOk_captureParts {s : State} {r : HReq} {new : List HPart} (h : s.memOk) : (captureParts s r new).memOk :=
  memOk_foldl (fun _ _ ht => memOk_ite (memOk_busErrOf ht) ht) h

theorem memOk_applyPart {r : HReq} {s : State} {q : HPart} (h : s.memOk) : (applyPart r s q).memOk :=
  memOk_ite (memOk_stnAck h) (memOk_store h)

theorem memOk_durableRecord {s : State} {r : HReq} {result : Nat} (h : s.memOk) : (durableRecord s r result).memOk :=
  memOk_ite (memOk_hostComplete h) (memOk_update (memOk_draw h))

theorem memOk_commitReq {s : State} {r : HReq} (h : s.memOk) : (commitReq s r).memOk := by
  unfold commitReq
  dsimp only
  split
  · exact memOk_failReq (memOk_captureParts h)
  · exact memOk_ite (memOk_durableRecord (memOk_dropReq (memOk_foldl (fun _ _ ht => memOk_applyPart ht) h))) (memOk_hostComplete
        (memOk_dropReq (memOk_foldl (fun _ _ ht => memOk_applyPart ht) h)))

theorem memOk_writesAtBoundary {s : State} (h : s.memOk) : (writesAtBoundary s).memOk := memOk_foldl (fun _ _ ht => memOk_commitReq ht) h

theorem memOk_postParts {s : State} {l : List HPart} {p : Nat → Bool} (h : s.memOk) : (postParts s l p).memOk :=
  memOk_foldl (fun _ _ ht => memOk_ite (memOk_post ht) ht) h

theorem memOk_finishRead {s : State} {r : HReq} (h : s.memOk) : (finishRead s r).memOk := by
  unfold finishRead
  dsimp only
  split
  · exact memOk_hostComplete (memOk_postParts (memOk_dropReq (memOk_captureParts h)))
  · exact memOk_ite (memOk_hostComplete (memOk_postParts (memOk_dropReq (memOk_captureParts h))))
        (memOk_ite (memOk_hostComplete (memOk_postParts (memOk_dropReq (memOk_captureParts h)))) (memOk_hostComplete
        (memOk_postParts (memOk_draw (memOk_dropReq (memOk_captureParts h))))))

theorem memOk_finishSlots {s : State} {r : HReq} (h : s.memOk) : (finishSlots s r).memOk :=
  memOk_hostComplete (memOk_postSlots (memOk_dropReq h))

theorem memOk_readsAtApply {s : State} (h : s.memOk) : (readsAtApply s).memOk :=
  memOk_foldl (fun _ _ ht => memOk_ite (memOk_finishSlots ht) (memOk_finishRead ht)) h

theorem memOk_setTrend {s : State} {p : Nat} {x : Trend} (h : s.memOk) : (s.setTrend p x).memOk := h
theorem memOk_trendsAtBoundary {s : State} (h : s.memOk) : (trendsAtBoundary s).memOk := h
theorem memOk_trendStage {s : State} {e : TrendRec} (h : s.memOk) : (trendStage s e).memOk := h

theorem memOk_trendPut {s : State} {p a : Nat} {l : List Byte} {ints : List Bool} (h : s.memOk) : (trendPut s p a l ints).memOk :=
  memOk_ite (memOk_ite (memOk_post h) (memOk_post (memOk_post h))) (memOk_countReg h)

theorem memOk_trendRecord {s : State} {p : Nat} (h : s.memOk) : (trendRecord s p).memOk := memOk_ite h (memOk_trendStage (memOk_setTrend h))

theorem memOk_trendCopy {s : State} {e : TrendRec} (h : s.memOk) : (trendCopy s e).memOk :=
  memOk_setTrend (memOk_trendPut (memOk_trendPut (memOk_ite (memOk_trendPut h) h)))

theorem memOk_trendDrain {s : State} (h : s.memOk) : (trendDrain s).memOk := memOk_foldl (fun _ _ ht => memOk_trendCopy ht) h

theorem memOk_trendsAtApply {s : State} (h : s.memOk) : (trendsAtApply s).memOk :=
  memOk_ite (memOk_trendDrain (memOk_eachNat (fun _ _ ht => memOk_trendRecord ht) h)) (memOk_eachNat (fun _ _ ht => memOk_trendRecord ht) h)

theorem memOk_postMode {s : State} {q : ModeReq} (h : s.memOk) : (postMode s q).memOk := h

theorem memOk_endMode {s : State} {q : ModeReq} {st : Nat} (h : s.memOk) : (endMode s q st).memOk := by
  unfold endMode
  split
  · exact memOk_hostComplete h
  · exact memOk_setReg h

theorem memOk_enterMode {s : State} {p : Nat} {track : Bool} (h : s.memOk) : (enterMode s p track).memOk :=
  memOk_ite h (memOk_postEvent (memOk_setTrack h))

theorem memOk_partMode {gone : List Nat} {s : State} {q : ModeReq} (h : s.memOk) : (partMode gone s q).memOk :=
  memOk_ite (memOk_endMode h) (memOk_ite (memOk_ite (memOk_endMode h) (memOk_ite (memOk_endMode h) (memOk_endMode (memOk_enterMode h))))
    (memOk_endMode (memOk_enterMode h)))

theorem memOk_serviceMode {s : State} {q : ModeReq} (h : s.memOk) : (serviceMode s q).memOk :=
  memOk_ite (memOk_ite (memOk_endMode h) (memOk_ite (memOk_endMode (memOk_postEvent (memOk_setFld h))) (memOk_endMode h)))
    (memOk_ite (memOk_endMode (memOk_eachNat (fun _ _ ht => memOk_patStop ht) (memOk_postEvent (memOk_setFld h)))) (memOk_endMode h))

theorem memOk_autoMove {s : State} {p : Nat} (h : s.memOk) : (autoMove s p).memOk := memOk_ite (memOk_enterMode h) h

theorem memOk_modesAtBoundary {s : State} {gone auto : List Nat} (h : s.memOk) : (modesAtBoundary s gone auto).memOk :=
  memOk_foldl (fun _ _ ht => memOk_serviceMode ht) (memOk_when (memOk_foldl (fun _ _ ht => memOk_partMode ht) h) fun hk => memOk_eachNat
    (fun _ _ ht => memOk_autoMove ht) hk)

/-! ### Stations -/

theorem memOk_setUnit {s : State} {l st : Nat} {u : StnUnit} (h : s.memOk) : (s.setUnit l st u).memOk := h

theorem memOk_onFrame {s : State} {l st : Nat} {f : Frame} {anyEpoch row ok acts : Bool} {k : StnUnit → Nat → StnUnit} (h : s.memOk) :
    (onFrame s l st f anyEpoch row ok acts k).memOk :=
  memOk_ite h (by
      split
      · exact memOk_ite h (memOk_unless (memOk_setUnit h) fun hk => memOk_ite hk h)
      · exact memOk_setUnit h
      · exact memOk_setUnit h
      · exact memOk_setUnit h
      · exact h)

theorem keepsForm_execStationStart {l : Fin 24} {st : Fin 32} {epoch : BitVec 8} {i : Ident} {s : State} :
    keepsForm s (execStationStart l st epoch i s) :=
  keepsForm_ite (keepsForm_next memOk_setUnit) (keepsForm_next id)

theorem keepsForm_execLossOfSignal {l : LinkLos} {s : State} : keepsForm s (execLossOfSignal l s) := by
  unfold execLossOfSignal
  split
  · exact keepsForm_next memOk_signalLost
  · exact keepsForm_ite (keepsForm_next id) (keepsForm_ite (keepsForm_next fun h => memOk_ite (memOk_setUnit h) h)
        (keepsForm_next memOk_setUnit))

theorem keepsForm_execSocBlockAccept {l : Fin 24} {st : Fin 32} {portB quiet : Bool} {b : KBlock} {s : State} :
    keepsForm s (execSocBlockAccept l st portB quiet b s) :=
  keepsForm_ite (keepsForm_next id) (keepsForm_ite (keepsForm_next memOk_setUnit) (keepsForm_ite (keepsForm_next id) ((by
      split
      · exact keepsForm_next memOk_setUnit
      · exact keepsForm_next memOk_setUnit
      · exact keepsForm_ite (keepsForm_next memOk_setUnit) (keepsForm_next memOk_setUnit)))))

theorem keepsForm_execSampleMarkAccept {l : Fin 24} {st : Fin 32} {portB : Bool} {b : KBlock} {s : State} :
    keepsForm s (execSampleMarkAccept l st portB b s) :=
  keepsForm_ite (keepsForm_next id) (keepsForm_ite (keepsForm_next memOk_setUnit) (keepsForm_ite (keepsForm_next memOk_setUnit)
    (keepsForm_next id)))

theorem keepsForm_execInFrameSend {l : Fin 24} {st : Fin 32} {fault : BitVec 16} {vals : List InVal} {s : State} :
    keepsForm s (execInFrameSend l st fault vals s) :=
  keepsForm_ite (keepsForm_next memOk_setUnit) (keepsForm_next id)

theorem keepsForm_execOutFrameConsume {l : Fin 24} {st : Fin 32} {inTime : Bool} {f : Frame} {s : State} :
    keepsForm s (execOutFrameConsume l st inTime f s) :=
  keepsForm_next memOk_onFrame

theorem keepsForm_execStationApply {l : Fin 24} {st : Fin 32} {s : State} : keepsForm s (execStationApply l st s) :=
  keepsForm_ite (keepsForm_next id) (keepsForm_ite (keepsForm_next memOk_setUnit) ((by
      split
      · exact keepsForm_ite (keepsForm_next memOk_setUnit) (keepsForm_next memOk_setUnit)
      · exact keepsForm_next id)))

theorem keepsForm_execIdentReq {l : Fin 24} {st : Fin 32} {f : Frame} {s : State} : keepsForm s (execIdentReq l st f s) :=
  keepsForm_next memOk_onFrame

theorem keepsForm_execDelayReq {l : Fin 24} {st : Fin 32} {f : Frame} {turn : Word} {s : State} :
    keepsForm s (execDelayReq l st f turn s) :=
  keepsForm_next memOk_onFrame

theorem keepsForm_execAdmit {l : Fin 24} {st : Fin 32} {f : Frame} {s : State} : keepsForm s (execAdmit l st f s) :=
  keepsForm_next memOk_onFrame

theorem keepsForm_execRelease {l : Fin 24} {st : Fin 32} {f : Frame} {s : State} : keepsForm s (execRelease l st f s) :=
  keepsForm_next memOk_onFrame

theorem keepsForm_execHold {l : Fin 24} {st : Fin 32} {f : Frame} {s : State} : keepsForm s (execHold l st f s) :=
  keepsForm_next memOk_onFrame

theorem keepsForm_execAcy {l : Fin 24} {st : Fin 32} {f : Frame} {result : BitVec 16} {data : List Byte} {s : State} :
    keepsForm s (execAcy l st f result data s) :=
  keepsForm_next memOk_onFrame

theorem keepsForm_execDiag {l : Fin 24} {st : Fin 32} {f : Frame} {s : State} : keepsForm s (execDiag l st f s) :=
  keepsForm_next memOk_onFrame

theorem keepsForm_execTestLoopOn {l : Fin 24} {st : Fin 32} {f : Frame} {s : State} : keepsForm s (execTestLoopOn l st f s) :=
  keepsForm_next memOk_onFrame

theorem keepsForm_execTestLoopOff {l : Fin 24} {st : Fin 32} {f : Frame} {s : State} : keepsForm s (execTestLoopOff l st f s) :=
  keepsForm_next memOk_onFrame

theorem keepsForm_execLoopbackEnd {l : Fin 24} {st : Fin 32} {s : State} : keepsForm s (execLoopbackEnd l st s) :=
  keepsForm_ite (keepsForm_next memOk_setUnit) (keepsForm_next id)

theorem keepsForm_execSocLossTimeout {l : Fin 24} {st : Fin 32} {s : State} : keepsForm s (execSocLossTimeout l st s) :=
  keepsForm_ite (keepsForm_next memOk_setUnit) (keepsForm_next id)

theorem keepsForm_execHeldTimeout {l : Fin 24} {st : Fin 32} {s : State} : keepsForm s (execHeldTimeout l st s) :=
  keepsForm_ite (keepsForm_next memOk_setUnit) (keepsForm_next id)

theorem keepsForm_execReportFrame {l : Fin 24} {st : Fin 32} {fault : BitVec 16} {s : State} : keepsForm s (execReportFrame l st fault s) :=
  keepsForm_ite (keepsForm_next memOk_setUnit) (keepsForm_next id)

/-! ### Twin Link -/

theorem memOk_twlSend {s : State} {ty : Nat} {payload : List Byte} (h : s.memOk) : (twlSend s ty payload).memOk := memOk_ite h h

theorem memOk_onTwl {s : State} {f : TwlFrame} {ty : Nat} {k : State → State} (h : s.memOk) (hk : ∀ y0, y0.memOk → (k y0).memOk) :
    (onTwl s f ty k).memOk :=
  memOk_ite h (memOk_ite (memOk_countReg h) (memOk_ite (hk _ h) h))

theorem memOk_twlTrain {s : State} (h : s.memOk) : (twlTrain s).memOk := memOk_ite (memOk_twlTo h) h

theorem memOk_twlEn {s : State} {en : Bool} (h : s.memOk) : (twlEn s en).memOk :=
  memOk_ite (memOk_twlTrain (memOk_setFld h)) (memOk_twlDown (memOk_setFld h))

theorem keepsForm_execTwlEnable {en : Bool} {s : State} : keepsForm s (execTwlEnable en s) := keepsForm_atReg memOk_twlEn
theorem keepsForm_execTwlTrainRetry {s : State} : keepsForm s (execTwlTrainRetry s) := keepsForm_next memOk_twlTrain

theorem keepsForm_execTwlTrainTimeout {s : State} : keepsForm s (execTwlTrainTimeout s) :=
  keepsForm_ite (keepsForm_next memOk_twlDown) (keepsForm_next id)

theorem keepsForm_execTwlLaneSyncLoss {s : State} : keepsForm s (execTwlLaneSyncLoss s) :=
  keepsForm_ite (keepsForm_next id) (keepsForm_next memOk_twlDown)

theorem keepsForm_execTwlLanesDeskewed {s : State} : keepsForm s (execTwlLanesDeskewed s) :=
  keepsForm_ite (keepsForm_next fun h => memOk_twlSend h) (keepsForm_next fun h => h)

theorem memOk_echoAnswer {s : State} {f : TwlFrame} {rt : Nat} (h : s.memOk) : (echoAnswer s f rt).memOk :=
  memOk_ite (memOk_twlTo (memOk_setFld h)) (memOk_twlSend h)

theorem keepsForm_execEcho {f : TwlFrame} {rt turn : Word} {s : State} : keepsForm s (execEcho f rt turn s) :=
  keepsForm_ite (keepsForm_next id) (keepsForm_ite (keepsForm_next memOk_countReg) (keepsForm_ite (keepsForm_next id)
    (keepsForm_ite (keepsForm_next memOk_twlSend) (keepsForm_ite (keepsForm_next memOk_echoAnswer) (keepsForm_next id)))))

theorem memOk_setRole {s : State} {r : Nat} (h : s.memOk) : (setRole s r).memOk :=
  memOk_ite h (memOk_healthTell (memOk_twlEvent (memOk_update (memOk_setFld (memOk_setFld h)))))

theorem memOk_setReady {s : State} {v : Bool} (h : s.memOk) : (setReady s v).memOk := memOk_ite h (memOk_twlEvent (memOk_setFld h))

theorem memOk_twlJudge {s : State} (h : s.memOk) : (twlJudge s).memOk :=
  memOk_setReady (memOk_ite (memOk_update (memOk_setFld (memOk_setFld h))) (memOk_setFld (memOk_setFld h)))

theorem memOk_linksListen {s : State} (h : s.memOk) : (linksListen s).memOk :=
  memOk_eachNat (fun _ _ ht => memOk_setLnk (memOk_setFld (memOk_linkDown ht))) h

theorem memOk_refuse {s : State} (h : s.memOk) : (refuse s).memOk := memOk_countReg h

theorem memOk_roleWrite {s : State} {r : Nat} (h : s.memOk) : (roleWrite s r).memOk :=
  memOk_ite (memOk_ite (memOk_setFld h) h) (memOk_ite (memOk_update (memOk_ite (memOk_setFld h) h)) (memOk_ite (by
      split
      · exact memOk_ite (memOk_twlJudge (memOk_setFld (memOk_linksListen (memOk_setRole (memOk_ite (memOk_setFld h) h)))))
            (memOk_refuse (memOk_ite (memOk_setFld h) h))
      · exact memOk_refuse (memOk_ite (memOk_setFld h) h)) (memOk_ite (memOk_setFld h) h)))

theorem keepsForm_execTwlRoleWrite {r : Fin 4} {s : State} : keepsForm s (execTwlRoleWrite r s) := keepsForm_atReg memOk_roleWrite

theorem keepsForm_execPrimaryClaimEnd {s : State} : keepsForm s (execPrimaryClaimEnd s) :=
  keepsForm_ite (keepsForm_next fun h => h) (keepsForm_ite (keepsForm_next fun h => memOk_refuse h) (keepsForm_next fun h => memOk_setRole
    (memOk_setFld h)))

theorem memOk_sendHeartbeat {s : State} (h : s.memOk) : (sendHeartbeat s).memOk := memOk_ite (memOk_twlSend h) h

theorem keepsForm_execHeartbeatMillisecond {s : State} : keepsForm s (execHeartbeatMillisecond s) :=
  keepsForm_ite (keepsForm_next id) (keepsForm_next memOk_sendHeartbeat)

theorem memOk_primaryHears {s : State} {b : Beat} (h : s.memOk) : (primaryHears s b).memOk :=
  memOk_ite h (memOk_ite (memOk_raiseNmi (memOk_twlEvent h)) (memOk_ite (memOk_setFld (memOk_setRole h)) h))

theorem memOk_standbyHears {s : State} {b : Beat} {onTime : Bool} (h : s.memOk) : (standbyHears s b onTime).memOk :=
  memOk_ite h (memOk_twlJudge (memOk_when (memOk_setReg (memOk_setReg (memOk_ite (memOk_setReg h) h))) fun hk => memOk_update
    (memOk_setFld hk)))

theorem memOk_hearBeat {s : State} {b : Beat} {onTime : Bool} {claim : Option Bool} (h : s.memOk) : (hearBeat s b onTime claim).memOk := by
  unfold hearBeat
  extract_lets _ _ s1 _ s2
  have h1 : s1.memOk := h
  have h2 : s2.memOk := memOk_ite (memOk_update h1) h1
  split
  · exact memOk_primaryHears h2
  · exact memOk_standbyHears h2
  · exact h2

theorem keepsForm_execHeartbeat {f : TwlFrame} {onTime : Bool} {claim : Option Bool} {s : State} :
    keepsForm s (execHeartbeat f onTime claim s) :=
  keepsForm_next fun h => memOk_onTwl h (fun _ ht => memOk_ite (memOk_hearBeat ht) ht)

theorem keepsForm_execHeartbeatMissed {s : State} : keepsForm s (execHeartbeatMissed s) :=
  keepsForm_ite (keepsForm_next fun h => memOk_twlJudge (memOk_aonEvent (memOk_countReg (memOk_count h)))) (keepsForm_next id)

theorem memOk_lookUnits {s : State} (h : s.memOk) : (lookUnits s).memOk := h

theorem memOk_sendUnits {s : State} {set n : Nat} {l : SMap (List Byte)} (h : s.memOk) : (sendUnits s set l n).memOk := by
  induction n generalizing s l with
  | zero => cases l <;> exact h
  | succ n ih => cases l with
    | nil => exact h
    | cons e l => exact ih (memOk_twlSend h)

theorem memOk_beginSet {s : State} (h : s.memOk) : (beginSet s).memOk :=
  memOk_ite (memOk_lookUnits h) (memOk_ite (memOk_countReg (memOk_lookUnits h)) (memOk_update (memOk_sendUnits (memOk_lookUnits h))))

theorem memOk_setAtApply {s : State} (h : s.memOk) : (setAtApply s).memOk :=
  memOk_ite h (memOk_ite (memOk_update h) (memOk_ite (memOk_lookUnits h) (memOk_beginSet h)))

theorem memOk_completeSet {s : State} (h : s.memOk) : (completeSet s).memOk := by
  unfold completeSet
  split
  · exact h
  · exact memOk_update (memOk_setReg (memOk_countReg (memOk_twlSend h)))

theorem memOk_abandonSet {s : State} (h : s.memOk) : (abandonSet s).memOk := by
  unfold abandonSet
  split
  · exact h
  · exact memOk_update (memOk_countReg h)

theorem memOk_setAtDeadline {s : State} (h : s.memOk) : (setAtDeadline s).memOk := by
  unfold setAtDeadline
  split
  · exact h
  · exact memOk_ite (memOk_completeSet h) (memOk_abandonSet h)

theorem memOk_ackSet {s : State} {x : TwlSet} (h : s.memOk) : (ackSet s x).memOk := h

theorem memOk_shack {s : State} {f : TwlFrame} (h : s.memOk) : (shack s f).memOk := by
  unfold shack
  dsimp only
  exact memOk_ite h (by
      split
      · exact memOk_ite (by
            split
            · exact memOk_ite (memOk_completeSet h) h
            · exact h) (memOk_ite (memOk_ackSet (by
                  split
                  · exact memOk_ite (memOk_completeSet h) h
                  · exact h)) (memOk_update (by split; exacts [memOk_ite (memOk_completeSet h) h, h])))
      · split; exacts [memOk_ite (memOk_completeSet h) h, h])

theorem keepsForm_execShack {f : TwlFrame} {s : State} : keepsForm s (execShack f s) :=
  keepsForm_next fun h => memOk_onTwl h (fun _ ht => memOk_shack ht)

theorem memOk_receiveUnit {s : State} {x : TwlSet} {u : Nat} {l : List Byte} (h : s.memOk) : (receiveUnit s x u l).2.memOk :=
  memOk_ite_snd (memOk_snd (memOk_busErrOf h)) (memOk_snd (memOk_setBytes h))

theorem memOk_shadow {s : State} {f : TwlFrame} (h : s.memOk) : (shadow s f).memOk := by
  have hunits : ∀ (l : List (Nat × List Byte)) (q : TwlSet × State), q.2.memOk → (l.foldl (fun q e => receiveUnit q.2 q.1 e.1 e.2)
      q).2.memOk :=
    fun l q hq => List.foldlRecOn l _ (motive := fun q : TwlSet × State => q.2.memOk) hq fun _ hq _ _ => memOk_receiveUnit hq
  exact memOk_ite h (memOk_ite (memOk_update h) (memOk_update (hunits _ _ h)))

theorem keepsForm_execShadow {f : TwlFrame} {s : State} : keepsForm s (execShadow f s) :=
  keepsForm_next fun h => memOk_onTwl h (fun _ ht => memOk_shadow ht)

theorem memOk_sendShack {s : State} {set result : Nat} (h : s.memOk) : (sendShack s set result).memOk := memOk_ite (memOk_twlSend h) h

theorem memOk_shend {s : State} {f : TwlFrame} (h : s.memOk) : (shend s f).memOk :=
  memOk_ite h (memOk_ite (memOk_update h) (memOk_sendShack h))

theorem keepsForm_execShend {f : TwlFrame} {s : State} : keepsForm s (execShend f s) :=
  keepsForm_next fun h => memOk_onTwl h (fun _ ht => memOk_shend ht)

theorem memOk_takeUnit {s : State} {u : Nat} {l : List Byte} (h : s.memOk) : (takeUnit s u l).memOk := memOk_ite (memOk_setBytes h) h
theorem memOk_takeOutputs {s : State} (h : s.memOk) : (takeOutputs s).memOk := memOk_foldl (fun _ _ ht => memOk_ite (memOk_setSlot ht) ht) h

theorem memOk_applySet {s : State} {x : TwlSet} (h : s.memOk) : (applySet s x).memOk :=
  memOk_twlJudge (memOk_sendShack (memOk_update (memOk_setReg (memOk_countReg (memOk_takeOutputs (memOk_restoreSlots (memOk_restoreFields
    (memOk_foldl (fun _ _ ht => memOk_takeUnit ht) h))))))))

theorem keepsForm_execSetApplication {s : State} : keepsForm s (execSetApplication s) := by
  unfold execSetApplication
  split
  · exact keepsForm_ite (keepsForm_next fun h => h) (keepsForm_ite (keepsForm_next fun h => memOk_applySet h) (keepsForm_next fun h =>
        memOk_sendShack h))
  · exact keepsForm_next fun h => h

theorem memOk_sendLinkstates {s : State} (h : s.memOk) : (sendLinkstates s).memOk :=
  memOk_ite h (memOk_eachNat (fun _ _ ht => memOk_ite (memOk_setLnk (memOk_twlSend ht)) ht) h)

theorem memOk_keepTable {s : State} {f : TwlFrame} (h : s.memOk) : (keepTable s f).memOk := memOk_ite h h

theorem keepsForm_execLinkstate {f : TwlFrame} {s : State} : keepsForm s (execLinkstate f s) :=
  keepsForm_next fun h => memOk_onTwl h (fun _ ht => memOk_keepTable ht)

theorem keepsForm_execSocSeen {l : Fin 24} {b : KBlock} {ofs : BitVec 16} {s : State} : keepsForm s (execSocSeen l b ofs s) :=
  keepsForm_ite (keepsForm_next memOk_setLnk) (keepsForm_next id)

theorem memOk_lastTake {s : State} {kind : Nat} (h : s.memOk) : (lastTake s kind).memOk := memOk_setReg h

theorem memOk_carryStn {l : Nat} {s : State} {st : Nat} (h : s.memOk) : (carryStn l s st).memOk :=
  memOk_ite (memOk_setStn (memOk_stnTo (memOk_setStn h))) (memOk_stnTo h)

theorem memOk_carryLink {s : State} {l : Nat} (h : s.memOk) : (carryLink s l).memOk :=
  memOk_eachNat (fun _ _ ht => memOk_carryStn ht) (memOk_linkTo (memOk_setFld h))

theorem memOk_takeOver {s : State} {kind : Nat} (h : s.memOk) : (takeOver s kind).memOk :=
  memOk_eachNat (fun _ _ ht => memOk_carryLink ht) (memOk_setReady (memOk_lastTake (memOk_setFld (memOk_setFld (memOk_setRole h)))))

theorem memOk_takeRefused {s : State} {kind : Nat} (h : s.memOk) : (takeRefused s kind).memOk :=
  memOk_raiseNmi (memOk_twlEvent (memOk_lastTake h))

theorem memOk_handOff {s : State} (h : s.memOk) : (handOff s).memOk := by
  unfold handOff
  split
  · exact h
  · exact memOk_ite h (memOk_ite (memOk_linksListen (memOk_setFld (memOk_setRole h))) h)

theorem memOk_pairAtLatch {s : State} (h : s.memOk) : (pairAtLatch s).2.memOk :=
  memOk_ite_snd (memOk_snd (memOk_handOff h)) (memOk_ite_snd h
    (memOk_ite_snd (memOk_ite_snd (memOk_ite_snd (memOk_snd (memOk_takeOver (memOk_update (memOk_twlJudge h))))
    (memOk_snd (memOk_takeRefused (memOk_update (memOk_twlJudge h)))))
    (memOk_ite_snd (memOk_snd (memOk_takeOver (memOk_update (memOk_update (memOk_twlJudge h)))))
    (memOk_ite_snd (memOk_snd (memOk_takeOver (memOk_update (memOk_twlJudge h))))
    (memOk_snd (memOk_takeRefused (memOk_update (memOk_twlJudge h)))))))
    (memOk_ite_snd (memOk_snd (memOk_takeOver (memOk_update (memOk_twlJudge h)))) (memOk_snd (memOk_update (memOk_twlJudge h))))))

theorem memOk_turnSeen {s : State} (h : s.memOk) : (turnSeen s).memOk := memOk_eachNat (fun _ _ ht => memOk_setLnk ht) h
theorem memOk_requestHandover {s : State} (h : s.memOk) : (requestHandover s).memOk := memOk_ite (memOk_twlSend h) (memOk_refuse h)
theorem keepsForm_execHandoverRequest {s : State} : keepsForm s (execHandoverRequest s) := keepsForm_atReg memOk_requestHandover
theorem memOk_handoverCmd {s : State} {f : TwlFrame} (h : s.memOk) : (handoverCmd s f).memOk := memOk_ite (memOk_twlSend h) h

theorem keepsForm_execHandoverCmd {f : TwlFrame} {s : State} : keepsForm s (execHandoverCmd f s) :=
  keepsForm_next fun h => memOk_onTwl h (fun _ ht => memOk_handoverCmd ht)

theorem memOk_handoverAck {s : State} {f : TwlFrame} (h : s.memOk) : (handoverAck s f).memOk := memOk_ite h h

theorem keepsForm_execHandoverAck {f : TwlFrame} {s : State} : keepsForm s (execHandoverAck f s) :=
  keepsForm_next fun h => memOk_onTwl h (fun _ ht => memOk_handoverAck ht)

theorem memOk_wreset {s : State} (h : s.memOk) : (wreset s).memOk := memOk_ite (memOk_twlSend h) h
theorem keepsForm_execWreset {s : State} : keepsForm s (execWreset s) := keepsForm_atReg memOk_wreset

theorem memOk_warmReset {s : State} {f : TwlFrame} (h : s.memOk) : (warmReset s f).memOk :=
  memOk_ite h (memOk_ite (memOk_resetEntry h) (memOk_countReg h))

theorem keepsForm_execWarmReset {f : TwlFrame} {s : State} : keepsForm s (execWarmReset f s) :=
  keepsForm_next fun h => memOk_onTwl h (fun _ ht => memOk_warmReset ht)

theorem memOk_twlCntClr {s : State} (h : s.memOk) : (twlCntClr s).memOk := h
theorem keepsForm_execTwlCntClr {s : State} : keepsForm s (execTwlCntClr s) := keepsForm_atReg memOk_twlCntClr

theorem memOk_twlCtrlWrite {s : State} {v : Word} (h : s.memOk) : (twlCtrlWrite s v).memOk :=
  memOk_ite (memOk_requestHandover (memOk_ite (memOk_wreset (memOk_roleWrite (memOk_unless (memOk_setFld h) memOk_twlEn)))
    (memOk_roleWrite (memOk_unless (memOk_setFld h) memOk_twlEn))))
    (memOk_ite (memOk_wreset (memOk_roleWrite (memOk_unless (memOk_setFld h) memOk_twlEn))) (memOk_roleWrite (memOk_unless (memOk_setFld h)
    memOk_twlEn)))

/-! ### Cycle -/

theorem memOk_judgeTiming {s : State} (h : s.memOk) : (judgeTiming s).memOk :=
  memOk_ite h (memOk_update (memOk_ite (memOk_foldl (fun _ _ ht => memOk_setFld ht) (memOk_setFld (memOk_setFld h)))
    (memOk_cycEvent (memOk_setFld (memOk_setFld (memOk_setFld (memOk_setFld h)))))))

theorem memOk_submitTiming {s : State} (h : s.memOk) : (submitTiming s).memOk :=
  memOk_ite (memOk_setFld (memOk_setFld h)) (memOk_healthTell (memOk_recomputeCaps (memOk_judgeTiming (memOk_setFld (memOk_setFld h)))))

theorem keepsForm_execTimingSetCommit {s : State} : keepsForm s (execTimingSetCommit s) := keepsForm_atReg memOk_submitTiming

theorem memOk_takeSettings {s : State} (h : s.memOk) : (takeSettings s).memOk :=
  memOk_update (by split; exacts [memOk_setFld (by split; exacts [memOk_setFld h, h]), by split; exacts [memOk_setFld h, h]])

theorem memOk_boundaryStep2 {s : State} (h : s.memOk) : (boundaryStep2 s).memOk :=
  memOk_applyShadows (memOk_judgeTiming (memOk_stepsAtBoundary (memOk_takeSettings (memOk_clocksAtBoundary (memOk_limFlush h)))))

theorem memOk_boundaryStep3 {s : State} (h : s.memOk) : (boundaryStep3 s).memOk := by
  unfold boundaryStep3
  exact memOk_recomputeCaps (memOk_update (memOk_releaseQuar (memOk_when (memOk_dprTake (memOk_writeGens (memOk_rolesAll h)))
      memOk_windupAll)))

theorem memOk_takenModes {s : State} (h : s.memOk) : (takenModes s).memOk := by
  unfold takenModes
  split
  · exact memOk_when (memOk_setReg (memOk_setReg (memOk_eachNat (fun _ _ ht => memOk_ite (memOk_enterMode ht) ht) h))) fun hk =>
        memOk_postEvent (memOk_setFld hk)
  · exact h

theorem memOk_standbyModes {s : State} (h : s.memOk) : (standbyModes s).memOk := by
  unfold standbyModes
  split
  · exact memOk_setReg (memOk_setReg h)
  · exact h

theorem memOk_boundaryStep4 {taken : Bool} {gone auto : List Nat} {s : State} (h : s.memOk) : (boundaryStep4 taken gone auto s).memOk :=
  memOk_standbyModes (memOk_modesAtBoundary (memOk_ite (memOk_takenModes h) h))

theorem memOk_pairPlans {s : State} (h : s.memOk) : (pairPlans s).memOk := memOk_ite (memOk_twlJudge h) h

theorem memOk_boundary {s : State} (h : s.memOk) : (boundary s).memOk :=
  memOk_update (memOk_pairPlans (memOk_healthTell (memOk_trendsAtBoundary (memOk_writesAtBoundary (memOk_cfgBoundary (memOk_recomputeCaps
    (memOk_deratesAtBoundary (memOk_boundaryStep4 (memOk_boundaryStep3 (memOk_boundaryStep2 (memOk_snapBoundary
    (memOk_turnSeen (memOk_pairAtLatch (memOk_vecsAtLatch h))))))))))))))

theorem keepsForm_execBoundaryLatch {s : State} : keepsForm s (execBoundaryLatch s) :=
  keepsForm_ite (keepsForm_next memOk_boundary) (keepsForm_next id)

theorem memOk_stnAtSoc {l : Nat} {s : State} {st : Nat} (h : s.memOk) : (stnAtSoc l s st).memOk :=
  memOk_ite (memOk_ite (memOk_stnEnterRun (memOk_setStn h)) (memOk_setStn h))
    (memOk_markLink (memOk_ite (memOk_stnEnterRun (memOk_setStn h)) (memOk_setStn h)))

theorem memOk_linkAtSoc {s : State} {l : Nat} (h : s.memOk) : (linkAtSoc s l).memOk :=
  memOk_eachNat (fun _ _ ht => memOk_stnAtSoc ht) (memOk_setLnk h)

theorem memOk_safeAtSoc {s : State} (h : s.memOk) : (safeAtSoc s).memOk := memOk_ite (memOk_eachNat (fun _ _ ht => memOk_slotSafe ht) h) h

theorem memOk_timersAtSoc {s : State} (h : s.memOk) : (timersAtSoc s).memOk :=
  memOk_update (memOk_eachNat (fun _ _ ht => memOk_ite (memOk_tmrCount ht) ht) h)

theorem memOk_cycAtSoc {s : State} {n : Nat} {first : Bool} (h : s.memOk) : (cycAtSoc s n first).memOk :=
  memOk_update (memOk_setReg (memOk_setReg (memOk_setFld (memOk_setReg h))))

theorem memOk_sendSoc {s : State} (h : s.memOk) : (sendSoc s).memOk := memOk_ite h (memOk_sendBlock h)

theorem memOk_openSoc {s : State} {n : Nat} {first : Bool} (h : s.memOk) : (openSoc s n first).memOk :=
  memOk_sendLinkstates (memOk_sendHeartbeat (memOk_trcEmit (memOk_cycEvent
    (memOk_update (memOk_safeAtSoc (memOk_timersAtSoc (memOk_loadCounts (memOk_eachNat (fun _ _ ht => memOk_linkAtSoc ht)
    (memOk_sendSoc (memOk_cycAtSoc h))))))))))

theorem memOk_endCycle {s : State} (h : s.memOk) : (endCycle s).memOk := h

theorem keepsForm_execSoc {s : State} : keepsForm s (execSoc s) :=
  keepsForm_ite (keepsForm_next id) (keepsForm_ite (keepsForm_next memOk_endCycle) (keepsForm_next memOk_openSoc))

theorem keepsForm_execFirstSoc {s : State} : keepsForm s (execFirstSoc s) :=
  keepsForm_ite (keepsForm_next fun h => memOk_openSoc (memOk_endCycle h)) (keepsForm_next id)

theorem keepsForm_execSampleMark {s : State} : keepsForm s (execSampleMark s) := by
  unfold execSampleMark
  split
  · exact keepsForm_ite (keepsForm_next memOk_sendBlock) (keepsForm_next id)
  · exact keepsForm_next id

theorem memOk_releaseDep {s : State} {k : Nat} (h : s.memOk) : (releaseDep s k).2.memOk :=
  memOk_ite_snd h (memOk_walkFrame (memOk_markStale h))

theorem memOk_releaseEach {s : State} {l : List Nat} (h : s.memOk) : (releaseEach s l).2.memOk := by
  induction l generalizing s with
  | nil => exact h
  | cons k l ih => exact ih (memOk_releaseDep h)

theorem memOk_releaseDeps {s : State} {l : List Nat} (h : s.memOk) : (releaseDeps s l).memOk := memOk_makeReady (memOk_releaseEach h)
theorem memOk_spanBegins {s : State} (h : s.memOk) : (spanBegins s).memOk := memOk_eachNat (fun _ _ ht => memOk_pumpLink ht) h

theorem keepsForm_execDispatchStart {s : State} : keepsForm s (execDispatchStart s) :=
  keepsForm_ite (keepsForm_next fun h => memOk_spanBegins (memOk_openQueues (memOk_releaseDeps (memOk_limFlush h)))) (keepsForm_next id)

theorem memOk_cutoffStn {l : Nat} {s : State} {st : Nat} (h : s.memOk) : (cutoffStn l s st).memOk := by
  unfold cutoffStn
  split
  · exact memOk_ite (memOk_stnMiss h) h
  · exact h

theorem memOk_cutoffLinks {s : State} (h : s.memOk) : (cutoffLinks s).memOk :=
  memOk_eachNat (fun _ _ ht => memOk_eachNat (fun _ _ ht1 => memOk_cutoffStn ht1) ht) (memOk_releaseDeps h)

theorem keepsForm_execInputCutoff {s : State} : keepsForm s (execInputCutoff s) :=
  keepsForm_ite (keepsForm_ite (keepsForm_next fun h => h) (keepsForm_ite (keepsForm_next fun h => memOk_spanBegins h)
    (keepsForm_next fun h => memOk_spanBegins (memOk_cutoffLinks h)))) (keepsForm_next fun h => h)

theorem memOk_closeSaving {s : State} (h : s.memOk) : (closeSaving s).memOk :=
  memOk_update (memOk_markLate (memOk_eachNat (fun _ _ ht => memOk_closeGroup ht) h))

theorem memOk_beginRest {s : State} (h : s.memOk) : (beginRest s).memOk := memOk_eachNat (fun _ _ ht => memOk_ite ht (memOk_outFrames ht)) h

theorem memOk_closeCycle {s : State} (h : s.memOk) : (closeCycle s).memOk :=
  memOk_spanBegins (memOk_setAtDeadline (memOk_beginRest (memOk_update (memOk_ite (memOk_closeSaving h) (memOk_closeCompute
    (memOk_snapBegin h))))))

theorem keepsForm_execOutDeadline {s : State} : keepsForm s (execOutDeadline s) :=
  keepsForm_ite (keepsForm_ite (keepsForm_next id) (keepsForm_next memOk_closeCycle)) (keepsForm_next id)

theorem keepsForm_execSnapshotCopyEnd {s : State} : keepsForm s (execSnapshotCopyEnd s) :=
  keepsForm_ite (keepsForm_next fun h => memOk_beginSet (memOk_snapEnd h)) (keepsForm_next memOk_snapEnd)

theorem keepsForm_execApplyInstant {s : State} : keepsForm s (execApplyInstant s) :=
  keepsForm_ite (keepsForm_ite (keepsForm_next id) (keepsForm_next fun h => memOk_setAtApply (memOk_trendsAtApply (memOk_readsAtApply h))))
    (keepsForm_next id)

theorem keepsForm_execReferenceEdge {err : Word} {s : State} : keepsForm s (execReferenceEdge err s) :=
  keepsForm_ite (keepsForm_next fun h => memOk_setFld (memOk_setReg h)) (keepsForm_next id)

theorem keepsForm_execReferenceLoss {s : State} : keepsForm s (execReferenceLoss s) :=
  keepsForm_ite (keepsForm_next fun h => memOk_cycEvent (memOk_setFld h)) (keepsForm_next id)

theorem memOk_cycEnable {s : State} (h : s.memOk) : (cycEnable s).memOk := memOk_ite h (memOk_update (memOk_setFld h))

theorem memOk_cycDisable {s : State} (h : s.memOk) : (cycDisable s).memOk :=
  memOk_update (memOk_eachNat (fun _ _ ht => memOk_ite (memOk_recomputeCaps (memOk_applyDerate ht)) ht) (memOk_setFld h))

theorem keepsForm_execCycleEnable {s : State} : keepsForm s (execCycleEnable s) := keepsForm_atReg memOk_cycEnable
theorem keepsForm_execCycleDisable {s : State} : keepsForm s (execCycleDisable s) := keepsForm_atReg memOk_cycDisable

theorem memOk_cycCtrlWrite {s : State} {v : Word} (h : s.memOk) : (cycCtrlWrite s v).memOk :=
  memOk_ite (memOk_cycEnable (memOk_ite (memOk_submitTiming (memOk_unless (memOk_setFld (memOk_setFld (memOk_setFld h))) memOk_cycDisable))
    (memOk_unless (memOk_setFld (memOk_setFld (memOk_setFld h))) memOk_cycDisable)))
    (memOk_ite (memOk_submitTiming (memOk_unless (memOk_setFld (memOk_setFld (memOk_setFld h))) memOk_cycDisable))
    (memOk_unless (memOk_setFld (memOk_setFld (memOk_setFld h))) memOk_cycDisable))

theorem memOk_resumeCycle {s : State} (h : s.memOk) : (resumeCycle s).memOk :=
  memOk_ite h (memOk_resumeRaster (memOk_ite h (memOk_ite h (memOk_closeCycle h))))

theorem keepsForm_execCycModeReq {mode : Fin 4} {part : Fin 64} {tag : BitVec 16} {s : State} :
    keepsForm s (execCycModeReq mode part tag s) :=
  keepsForm_atReg memOk_postMode

theorem memOk_cycCntClr {s : State} (h : s.memOk) : (cycCntClr s).memOk := h
theorem keepsForm_execCycCntClr {s : State} : keepsForm s (execCycCntClr s) := keepsForm_atReg memOk_cycCntClr
theorem memOk_socTbLoRead {s : State} (h : s.memOk) : (socTbLoRead s).memOk := h

theorem keepsForm_execCycSocTbLoRead {s : State} : keepsForm s (execCycSocTbLoRead s) :=
  keepsForm_atRead fun h => memOk_snd (memOk_socTbLoRead h)

theorem memOk_cycReadEffect {s : State} {a : Nat} (h : s.memOk) : (cycReadEffect s a).memOk :=
  memOk_ite (memOk_socTbLoRead h) (memOk_ite h h)

/-! ### Debug -/

theorem memOk_debugResume {s : State} (h : s.memOk) : (debugResume s).memOk :=
  memOk_ite h (memOk_ite h (memOk_resumeCycle (memOk_haltRelease h)))

theorem memOk_endExtest {s : State} (h : s.memOk) : (endExtest s).memOk := by
  unfold endExtest
  split
  · exact h
  · exact memOk_ite (memOk_debugResume h) (memOk_setFld (memOk_haltMembers (memOk_haltMembers h)))

theorem memOk_selectTap {s : State} {code : Nat} (h : s.memOk) : (selectTap s code).memOk := memOk_update (memOk_ite h (memOk_endExtest h))

theorem memOk_startExtest {s : State} (h : s.memOk) : (startExtest s).memOk :=
  memOk_ite h (memOk_update (memOk_haltAll (memOk_selectTap h)))

theorem memOk_tapSelect {s : State} {code : Nat} (h : s.memOk) : (tapSelect s code).memOk :=
  memOk_ite (memOk_startExtest h) (memOk_selectTap h)

theorem keepsForm_execExtest {s : State} : keepsForm s (execExtest s) := keepsForm_next memOk_tapSelect

theorem memOk_updateCells {s : State} {d : HostData} (h : s.memOk) : (updateCells s d).memOk := by
  unfold updateCells
  split
  · exact memOk_ite h h
  · exact memOk_ite h h
  · exact h

theorem keepsForm_execDebugResume {w : Writer} {s : State} : keepsForm s (execDebugResume w s) :=
  keepsForm_ite (keepsForm_next memOk_debugResume) (keepsForm_next id)

theorem memOk_setUnlockStat {s : State} {st : Nat} (h : s.memOk) : (setUnlockStat s st).memOk := h

theorem keepsForm_execUnlock {cmd : BitVec 8} {payload : List Byte} {s : State} : keepsForm s (execUnlock cmd payload s) :=
  keepsForm_ite (keepsForm_next fun h => memOk_entAsk (memOk_setUnlockStat (memOk_update (memOk_selectTap h))))
    (keepsForm_ite (keepsForm_next fun h => memOk_setUnlockStat (memOk_judgeResponse (memOk_selectTap h))) (keepsForm_next memOk_selectTap))

theorem keepsForm_execStringPulse {w : Writer} {k : Fin 8} {s : State} : keepsForm s (execStringPulse w k s) :=
  keepsForm_ite (keepsForm_next memOk_stringPulse) (keepsForm_next id)

theorem memOk_stringPulses {s : State} {mask : Nat} (h : s.memOk) : (stringPulses s mask).memOk :=
  memOk_eachNat (fun _ _ ht => memOk_stringPulse ht) h

theorem memOk_strOutWrite {s : State} {w : Writer} {k : Nat} {v : Word} (h : s.memOk) : (strOutWrite s w k v).memOk :=
  memOk_update (memOk_plainReg h)

theorem memOk_cmpWrite {s : State} {w : Writer} {a : Nat} {v : Word} (h : s.memOk) : (cmpWrite s w a v).memOk := by
  unfold cmpWrite
  split
  · exact h
  · exact memOk_ite h (memOk_updK h)

theorem keepsForm_execDbgCmpWrite {w : Writer} {which : Fin 3} {v : Word} {s : State} : keepsForm s (execDbgCmpWrite w which v s) :=
  keepsForm_ite (keepsForm_next memOk_cmpWrite) (keepsForm_next id)

theorem memOk_trcCtrlWrite {s : State} {v : Word} (h : s.memOk) : (trcCtrlWrite s v).memOk :=
  memOk_ite (memOk_trcStart (memOk_setFld (memOk_plainReg h))) (memOk_plainReg h)

theorem keepsForm_execTrcSw {w : Writer} {v : Word} {s : State} : keepsForm s (execTrcSw w v s) :=
  keepsForm_ite (keepsForm_next memOk_trcEmit) (keepsForm_next id)

theorem keepsForm_execTraceStart {w : Writer} {s : State} : keepsForm s (execTraceStart w s) :=
  keepsForm_ite (keepsForm_next memOk_trcStart) (keepsForm_next id)

theorem keepsForm_execTraceBufferEnd {s : State} : keepsForm s (execTraceBufferEnd s) :=
  keepsForm_ite (keepsForm_next id) (keepsForm_next fun h => memOk_when (memOk_dbgEvent (memOk_ite (memOk_setFld h) (memOk_setFld h)))
    memOk_stringPulse)

theorem memOk_dbgWrite {s : State} {w : Writer} {a : Nat} {v : Word} (h : s.memOk) : (dbgWrite s w a v).memOk :=
  memOk_ite (memOk_when (memOk_ite (memOk_debugResume h) h) memOk_resetEntry) (memOk_ite (memOk_stringPulses h)
      (memOk_ite (memOk_cmpWrite h) (by
      split
      · exact memOk_strOutWrite h
      · exact memOk_plainReg h)))

theorem memOk_trcWrite {s : State} {a : Nat} {v : Word} (h : s.memOk) : (trcWrite s a v).memOk :=
  memOk_ite (memOk_trcCtrlWrite h) (memOk_ite (memOk_trcEmit h) (memOk_plainReg h))

/-! ### Host -/

theorem memOk_ringErr {s : State} {p k status : Nat} (h : s.memOk) : (ringErr s p k status).memOk :=
  memOk_evcEvent (memOk_ite (memOk_setFld h) (memOk_devEvt (memOk_setReg h)))

theorem memOk_setAct {s : State} {p k : Nat} {v : Bool} (h : s.memOk) : (setAct s p k v).memOk := h

theorem memOk_ringEnable {s : State} {p k : Nat} (h : s.memOk) : (ringEnable s p k).memOk :=
  memOk_ite (memOk_setRegBit h) (memOk_ite (memOk_ringErr (memOk_setRegBit h))
    (memOk_ite (memOk_ringErr (memOk_countReg (memOk_setRegBit h)))
    (memOk_when (memOk_setAct (memOk_setRing (memOk_setFld (memOk_setRegBit h)))) memOk_setFld)))

theorem keepsForm_execRingEnable {p : Fin 64} {k : Fin 6} {s : State} : keepsForm s (execRingEnable p k s) :=
  keepsForm_ite (keepsForm_next memOk_ringEnable) (keepsForm_next id)

theorem memOk_ringDisable {s : State} {p k : Nat} (h : s.memOk) : (ringDisable s p k).memOk :=
  memOk_ite (memOk_ringErr h) (memOk_settle (memOk_setAct (memOk_setRegBit h)))

theorem keepsForm_execRingDisable {p : Fin 64} {k : Fin 6} {s : State} : keepsForm s (execRingDisable p k s) :=
  keepsForm_ite (keepsForm_next memOk_ringDisable) (keepsForm_next id)

theorem memOk_ringBit {p v : Nat} {s : State} {k : Nat} (h : s.memOk) : (ringBit p v s k).memOk :=
  memOk_ite (memOk_ringEnable h) (memOk_ite (memOk_ringDisable h) h)

theorem memOk_rctrlWrite {s : State} {p : Nat} {v : Word} (h : s.memOk) : (rctrlWrite s p v).memOk :=
  memOk_foldl (fun _ _ ht => memOk_ite (memOk_ringBit ht) ht) (memOk_foldl (fun _ _ ht => memOk_ringBit ht)
    (memOk_foldl (fun _ _ ht => memOk_ite ht (memOk_ringBit ht)) h))

theorem memOk_ringDoorbell {s : State} {p : Nat} {v : Word} (h : s.memOk) : (ringDoorbell s p v).memOk :=
  memOk_ite (memOk_countReg (memOk_aonEvent h)) (memOk_settle (memOk_setRing (memOk_aonEvent h)))

theorem keepsForm_execDoorbell {p : Fin 64} {v : Word} {s : State} : keepsForm s (execDoorbell p v s) :=
  keepsForm_ite (keepsForm_next memOk_ringDoorbell) (keepsForm_next id)

theorem memOk_windowWrite {s : State} {p w : Nat} {v : Word} (h : s.memOk) : (windowWrite s p w v).memOk :=
  memOk_ite (memOk_ite (memOk_ite h (memOk_setFld (memOk_setFld h))) (memOk_ite h (memOk_update (memOk_setFld h))))
    (memOk_when (memOk_setFld (memOk_setFld (memOk_setFld h))) memOk_setRegBit)

theorem keepsForm_execWindowValid {p : Fin 64} {w : Fin 16} {v : Word} {s : State} : keepsForm s (execWindowValid p w v s) :=
  keepsForm_ite (keepsForm_next memOk_windowWrite) (keepsForm_next id)

theorem keepsForm_execWindowClearEnd {p : Fin 64} {w : Fin 16} {s : State} : keepsForm s (execWindowClearEnd p w s) :=
  keepsForm_ite (keepsForm_next fun h => memOk_update (memOk_setFld (memOk_setFld h))) (keepsForm_next id)

theorem keepsForm_execEventDelivery {p : Fin 64} {s : State} : keepsForm s (execEventDelivery p s) :=
  keepsForm_ite (keepsForm_next id) ((by
      split
      · exact keepsForm_next id
      · exact keepsForm_next fun h => memOk_settle (memOk_eachNat (fun _ _ ht => memOk_postOverflow ht)
            (memOk_vecEntry (memOk_ringPut h)))))

theorem keepsForm_execMsixMessage {v : Fin 128} {s : State} : keepsForm s (execMsixMessage v s) :=
  keepsForm_ite (keepsForm_next memOk_sendVector) (keepsForm_next id)

theorem memOk_sendPending {s : State} {v : Nat} (h : s.memOk) : (sendPending s v).memOk := memOk_ite (memOk_post (memOk_setVec h)) h

theorem keepsForm_execMsixUnmask {v : Option (Fin 130)} {masked : Bool} {s : State} : keepsForm s (execMsixUnmask v masked s) :=
  keepsForm_ite (keepsForm_next id) ((by
      split
      · exact keepsForm_next fun h => memOk_sendPending (memOk_setVec h)
      · exact keepsForm_next fun h => memOk_eachNat (fun _ _ ht => memOk_sendPending ht) h))

theorem memOk_takeCmd {s : State} {p k : Nat} {d : Desc} (h : s.memOk) : (takeCmd s p k d).memOk := memOk_fwPump (memOk_setFld h)
theorem memOk_turnOn {s : State} {p k : Nat} (h : s.memOk) : (turnOn s p k).memOk := h

theorem keepsForm_execDescriptorFetch {d : HostData} {s : State} : keepsForm s (execDescriptorFetch d s) :=
  keepsForm_ite (keepsForm_next id) ((by
      split
      · exact keepsForm_next id
      · split; exacts [keepsForm_next fun h => memOk_takeCmd (memOk_setFld (memOk_turnOn h)), keepsForm_next fun h => memOk_hostComplete
            (memOk_takeCmd (memOk_draw (memOk_setFld (memOk_turnOn h))))]))

theorem memOk_orphanRecord {s : State} {serial : Nat} (h : s.memOk) : (orphanRecord s serial).memOk := h

theorem keepsForm_execFwCommandTimeout {serial : Nat} {s : State} : keepsForm s (execFwCommandTimeout serial s) := by
  unfold execFwCommandTimeout
  split
  · exact keepsForm_ite (keepsForm_next fun h => memOk_devEvt (memOk_hostComplete (memOk_orphanRecord h))) (keepsForm_next id)
  · exact keepsForm_next id

theorem memOk_fwqPop {s : State} (h : s.memOk) : (fwqPop s).2.memOk := by
  unfold fwqPop
  split <;> exact h

theorem keepsForm_execHifFwqPop {s : State} : keepsForm s (execHifFwqPop s) := keepsForm_atRead memOk_fwqPop
theorem memOk_fwFreeRec {s : State} {k : Nat} (h : s.memOk) : (fwFreeRec s k).memOk := h

theorem memOk_fwComplete {s : State} {a : Nat} (h : s.memOk) : (fwComplete s a).memOk := by
  unfold fwComplete
  split
  · exact memOk_ite (memOk_hostComplete (memOk_fwFreeRec h)) (memOk_fwPump (memOk_fwFreeRec h))
  · exact h

theorem keepsForm_execHifFwCpl {a : Word} {s : State} : keepsForm s (execHifFwCpl a s) := keepsForm_atReg memOk_fwComplete
theorem memOk_hostMsg {s : State} {v : Word} (h : s.memOk) : (hostMsg s v).memOk := memOk_sendVector (memOk_setReg h)
theorem keepsForm_execHifHostMsg {v : Word} {s : State} : keepsForm s (execHifHostMsg v s) := keepsForm_atReg memOk_hostMsg
theorem keepsForm_execHifCounterClear {k : Fin 4} {s : State} : keepsForm s (execHifCounterClear k s) := keepsForm_atReg memOk_setReg
theorem keepsForm_execPcieReset {s : State} : keepsForm s (execPcieReset s) := keepsForm_next memOk_hifResetBy

theorem keepsForm_execDataLinkChange {up : Bool} {width speed : Fin 4} {s : State} : keepsForm s (execDataLinkChange up width speed s) :=
  keepsForm_ite (keepsForm_next id) (keepsForm_ite (keepsForm_ite (keepsForm_next fun h => memOk_evcEvent (memOk_setReg h))
    (keepsForm_next id)) (keepsForm_next fun h => memOk_hifResetBy (memOk_evcEvent (memOk_setReg h))))

/-! ### Commands of the host -/

theorem memOk_wellFormed {s : State} {c : HostCmd} {ok : Bool} {t : State} (h : s.memOk) (ht : t.memOk) : (wellFormed s c ok t).memOk :=
  memOk_ite ht (memOk_endCmd h)

theorem keepsForm_execHostNop {serial : Nat} {s : State} : keepsForm s (execHostNop serial s) :=
  keepsForm_next fun h => memOk_onHost h (fun _ _ ht => memOk_endCmd ht)

theorem memOk_unitError {s : State} {c : HostCmd} {a : Nat} {write : Bool} (h : s.memOk) : (unitError s c a write).memOk :=
  memOk_endCmd (memOk_busErrOf h)

theorem memOk_reachDomain {s : State} {c : HostCmd} {d : HostData} {a : Nat} {write : Bool} {t : State} (h : s.memOk) (ht : t.memOk) :
    (reachDomain s c d a write t).memOk := by
  unfold reachDomain
  split
  · exact ht
  · exact memOk_ite (memOk_update (memOk_wakeAccess h)) (memOk_unitError (memOk_wakeAccess h))

theorem memOk_reach {s : State} {c : HostCmd} {d : HostData} {a : Nat} {write : Bool} {t : State} (h : s.memOk) (ht : t.memOk) :
    (reach s c d a write t).memOk :=
  memOk_ite (memOk_unitError h) (memOk_reachDomain h ht)

theorem memOk_sigRead {c : HostCmd} {s : State} (h : s.memOk) : (sigRead c s).memOk :=
  memOk_wellFormed h (memOk_ite (memOk_endCmd h) (memOk_reach h (memOk_answerSlots h)))

theorem keepsForm_execSigRead {serial : Nat} {s : State} : keepsForm s (execSigRead serial s) :=
  keepsForm_next fun h => memOk_onHost h (fun _ _ ht => memOk_sigRead ht)

theorem memOk_sigWrite {d : HostData} {c : HostCmd} {s : State} (h : s.memOk) : (sigWrite d c s).memOk :=
  memOk_wellFormed h (memOk_withHostData h (fun _ => memOk_ite (memOk_endCmd h)
    (memOk_reach h (memOk_endCmd (memOk_foldl (fun _ _ ht => memOk_writeInternal ht) h)))))

theorem keepsForm_execSigWrite {serial : Nat} {d : HostData} {s : State} : keepsForm s (execSigWrite serial d s) :=
  keepsForm_next fun h => memOk_onHost h (fun _ _ ht => memOk_sigWrite ht)

theorem memOk_addReq {s : State} {r : HReq} (h : s.memOk) : (addReq s r).memOk := h

theorem memOk_paramRequest {write : Bool} {d : HostData} {c : HostCmd} {s : State} (h : s.memOk) : (paramRequest write d c s).memOk :=
  memOk_withHostData h (fun _ => memOk_ite (memOk_endCmd h) (memOk_ite (memOk_endWindow h) (memOk_ite (memOk_endCmd h) (memOk_addReq h))))

theorem keepsForm_execParamRead {serial : Nat} {d : HostData} {s : State} : keepsForm s (execParamRead serial d s) :=
  keepsForm_next fun h => memOk_onHost h (fun _ _ ht => memOk_paramRequest ht)

theorem keepsForm_execParamWrite {serial : Nat} {d : HostData} {s : State} : keepsForm s (execParamWrite serial d s) :=
  keepsForm_next fun h => memOk_onHost h (fun _ _ ht => memOk_paramRequest ht)

theorem memOk_snapshotReq {c : HostCmd} {s : State} (h : s.memOk) : (snapshotReq c s).memOk :=
  memOk_wellFormed h (memOk_ite (memOk_endCmd h) (memOk_ite (memOk_endWindow h) (memOk_ite (memOk_endCmd h)
    (memOk_reach h (memOk_addReq h)))))

theorem keepsForm_execSnapshot {serial : Nat} {s : State} : keepsForm s (execSnapshot serial s) :=
  keepsForm_next fun h => memOk_onHost h (fun _ _ ht => memOk_snapshotReq ht)

theorem memOk_trendSet {d : HostData} {c : HostCmd} {s : State} (h : s.memOk) : (trendSet d c s).memOk :=
  memOk_wellFormed h (memOk_ite (memOk_endCmd (memOk_setTrend h)) (memOk_withHostData h (fun _ => memOk_ite (memOk_endCmd h)
    (memOk_endCmd (memOk_setTrend h)))))

theorem keepsForm_execTrendSet {serial : Nat} {d : HostData} {s : State} : keepsForm s (execTrendSet serial d s) :=
  keepsForm_next fun h => memOk_onHost h (fun _ _ ht => memOk_trendSet ht)

theorem memOk_planLoad {c : HostCmd} {s : State} (h : s.memOk) : (planLoad c s).memOk := memOk_reach h (memOk_startLoad h)
theorem memOk_planCommit {c : HostCmd} {s : State} (h : s.memOk) : (planCommit c s).memOk := memOk_reach h (memOk_requestCommit h)

theorem memOk_planAbort {c : HostCmd} {s : State} (h : s.memOk) : (planAbort c s).memOk :=
  memOk_reach h (memOk_endCmd (memOk_abortShadows h))

theorem keepsForm_execPlanLoad {serial : Nat} {s : State} : keepsForm s (execPlanLoad serial s) :=
  keepsForm_next fun h => memOk_onHost h (fun _ _ ht => memOk_planLoad ht)

theorem keepsForm_execPlanCommit {serial : Nat} {s : State} : keepsForm s (execPlanCommit serial s) :=
  keepsForm_next fun h => memOk_onHost h (fun _ _ ht => memOk_planCommit ht)

theorem keepsForm_execPlanAbort {serial : Nat} {s : State} : keepsForm s (execPlanAbort serial s) :=
  keepsForm_next fun h => memOk_onHost h (fun _ _ ht => memOk_planAbort ht)

theorem keepsForm_execPlanStatus {serial : Nat} {s : State} : keepsForm s (execPlanStatus serial s) :=
  keepsForm_next fun h => memOk_onHost h (fun _ _ ht => memOk_wellFormed ht (memOk_answerHost ht))

theorem memOk_modeSet {c : HostCmd} {s : State} (h : s.memOk) : (modeSet c s).memOk :=
  memOk_wellFormed h (memOk_ite (memOk_endCmd h) (memOk_reach h (memOk_postMode h)))

theorem keepsForm_execModeSet {serial : Nat} {s : State} : keepsForm s (execModeSet serial s) :=
  keepsForm_next fun h => memOk_onHost h (fun _ _ ht => memOk_modeSet ht)

theorem keepsForm_execModeQuery {serial : Nat} {s : State} : keepsForm s (execModeQuery serial s) :=
  keepsForm_next fun h => memOk_onHost h (fun _ _ ht => memOk_wellFormed ht (memOk_answerHost ht))

theorem memOk_acySubmit {d : HostData} {c : HostCmd} {s : State} (h : s.memOk) : (acySubmit d c s).memOk :=
  memOk_wellFormed h (memOk_reach h (memOk_ite (memOk_endCmd h) (memOk_withHostData h (fun _ => memOk_acyPut h))))

theorem keepsForm_execAcySubmit {serial : Nat} {d : HostData} {s : State} : keepsForm s (execAcySubmit serial d s) :=
  keepsForm_next fun h => memOk_onHost h (fun _ _ ht => memOk_acySubmit ht)

theorem memOk_acyCancel {c : HostCmd} {s : State} (h : s.memOk) : (acyCancel c s).memOk :=
  memOk_wellFormed h (by
      split
      · exact memOk_endCmd h
      · exact memOk_ite (memOk_endCmd (memOk_endCmd h)) (by
            split
            · exact memOk_reach h (memOk_endCmd (memOk_acyCancelAt h))
            · exact memOk_endCmd h))

theorem keepsForm_execAcyCancel {serial : Nat} {s : State} : keepsForm s (execAcyCancel serial s) :=
  keepsForm_next fun h => memOk_onHost h (fun _ _ ht => memOk_acyCancel ht)

theorem memOk_stationResume {d : HostData} {c : HostCmd} {s : State} (h : s.memOk) : (stationResume d c s).memOk :=
  memOk_withHostData h (fun _ => memOk_ite (memOk_endCmd h) (memOk_ite (memOk_endCmd h) (memOk_ite (memOk_endCmd h) (memOk_reachDomain h
    (memOk_stagingDone (memOk_addReq (memOk_captureParts h)))))))

theorem keepsForm_execStationResume {serial : Nat} {d : HostData} {s : State} : keepsForm s (execStationResume serial d s) :=
  keepsForm_next fun h => memOk_onHost h (fun _ _ ht => memOk_stationResume ht)

theorem memOk_linkStatus {c : HostCmd} {s : State} (h : s.memOk) : (linkStatus c s).memOk :=
  memOk_wellFormed h (memOk_ite (memOk_endWindow h) (memOk_ite (memOk_endCmd h) (memOk_reachDomain h (memOk_addReq h))))

theorem keepsForm_execLinkStatus {serial : Nat} {s : State} : keepsForm s (execLinkStatus serial s) :=
  keepsForm_next fun h => memOk_onHost h (fun _ _ ht => memOk_linkStatus ht)

theorem memOk_patTest {c : HostCmd} {s : State} (h : s.memOk) : (patTest c s).memOk :=
  memOk_wellFormed h (memOk_reach h (memOk_ite (memOk_endCmd (memOk_setFld h))
    (memOk_ite (memOk_hostComplete (memOk_patStop (memOk_patSettings (memOk_setFld h))))
    (memOk_ite (memOk_patStart (memOk_patSettings (memOk_setFld h))) (memOk_endCmd (memOk_patSettings (memOk_setFld h)))))))

theorem keepsForm_execPatTest {serial : Nat} {s : State} : keepsForm s (execPatTest serial s) :=
  keepsForm_next fun h => memOk_onHost h (fun _ _ ht => memOk_patTest ht)

theorem memOk_onHostAgain {s : State} {serial : Nat} {op : Nat → Bool} {k : HostCmd → State → State} (h : s.memOk) (hk : ∀ y0 y1, y1.memOk
    → (k y0 y1).memOk) : (onHostAgain s serial op k).memOk := by
  unfold onHostAgain
  split
  · exact h
  · exact memOk_ite (hk _ _ h) (memOk_onHost h (fun _ _ ht => hk _ _ ht))

theorem memOk_nvRead {c : HostCmd} {s : State} (h : s.memOk) : (nvRead c s).memOk :=
  memOk_ite (memOk_endCmd h) (memOk_reach h (memOk_ite h (memOk_ite (memOk_endCmd h) (memOk_answerHost h))))

theorem keepsForm_execNvRead {serial : Nat} {s : State} : keepsForm s (execNvRead serial s) :=
  keepsForm_next fun h => memOk_onHostAgain h (fun _ _ ht => memOk_nvRead ht)

theorem memOk_nvWrite {d : HostData} {c : HostCmd} {s : State} (h : s.memOk) : (nvWrite d c s).memOk :=
  memOk_wellFormed h (memOk_ite (memOk_endCmd h) (memOk_withHostData h (fun _ => memOk_reach h h)))

theorem keepsForm_execNvWrite {serial : Nat} {d : HostData} {s : State} : keepsForm s (execNvWrite serial d s) :=
  keepsForm_next fun h => memOk_onHost h (fun _ _ ht => memOk_nvWrite ht)

theorem memOk_runHost {d : HostData} {c : HostCmd} {s : State} (h : s.memOk) : (runHost d c s).memOk := by
  unfold runHost
  split
  · exact memOk_sigRead h
  · exact memOk_sigWrite h
  · exact memOk_snapshotReq h
  · exact memOk_planLoad h
  · exact memOk_planCommit h
  · exact memOk_planAbort h
  · exact memOk_modeSet h
  · exact memOk_acySubmit h
  · exact memOk_acyCancel h
  · exact memOk_stationResume h
  · exact memOk_linkStatus h
  · exact memOk_patTest h
  · exact memOk_nvRead h
  · exact memOk_nvWrite h
  · exact h

theorem keepsForm_execHealthQuery {serial : Nat} {s : State} : keepsForm s (execHealthQuery serial s) :=
  keepsForm_next fun h => memOk_onHost h (fun _ _ ht => memOk_hostComplete ht)

theorem keepsForm_execMarginReport {serial : Nat} {s : State} : keepsForm s (execMarginReport serial s) :=
  keepsForm_next fun h => memOk_onHost h (fun _ _ ht => memOk_wellFormed ht (memOk_answerHost ht))

theorem memOk_randomCmd {c : HostCmd} {s : State} (h : s.memOk) : (randomCmd c s).memOk := memOk_wellFormed h (memOk_entAsk h)

theorem keepsForm_execRandom {serial : Nat} {s : State} : keepsForm s (execRandom serial s) :=
  keepsForm_next fun h => memOk_onHost h (fun _ _ ht => memOk_randomCmd ht)

theorem keepsForm_execTimeGet {serial : Nat} {s : State} : keepsForm s (execTimeGet serial s) :=
  keepsForm_next fun h => memOk_onHost h (fun _ _ ht => memOk_wellFormed ht (memOk_answerHost ht))

theorem memOk_deviceReset {c : HostCmd} {s : State} (h : s.memOk) : (deviceReset c s).memOk :=
  memOk_wellFormed h (memOk_update (memOk_sendVector (memOk_endCmd h)))

theorem keepsForm_execDeviceReset {serial : Nat} {s : State} : keepsForm s (execDeviceReset serial s) :=
  keepsForm_next fun h => memOk_onHost h (fun _ _ ht => memOk_deviceReset ht)

theorem memOk_hostReset {s : State} (h : s.memOk) : (hostReset s).memOk := by
  unfold hostReset
  split
  · exact h
  · exact memOk_resetEntry h
  · exact memOk_resetEntry h
  · exact memOk_hifResetBy h

theorem keepsForm_execHostReset {s : State} : keepsForm s (execHostReset s) := keepsForm_next memOk_hostReset

/-! ### Serial units, timers and watchdogs -/

theorem keepsForm_execEvcSourceEvent {n : Fin 256} {s : State} : keepsForm s (execEvcSourceEvent n s) :=
  keepsForm_next fun h => memOk_ite (memOk_aonWake h) (memOk_evcEvent h)

theorem memOk_srcClear {s : State} {n : Nat} (h : s.memOk) : (srcClear s n).memOk := h

theorem memOk_evcClaim {s : State} (h : s.memOk) : (evcClaim s).2.memOk := by
  unfold evcClaim
  split
  · exact h
  · exact memOk_snd (memOk_setFld (memOk_setRegBit (memOk_srcClear h)))

theorem keepsForm_execEvcClaim {s : State} : keepsForm s (execEvcClaim s) := keepsForm_next fun h => memOk_update (memOk_evcClaim h)

theorem memOk_evcEoi {s : State} {n : Nat} (h : s.memOk) : (evcEoi s n).memOk := by
  unfold evcEoi
  split
  · exact memOk_setFld (memOk_setRegBit h)
  · exact memOk_countReg h

theorem keepsForm_execEvcEoi {n : Fin 256} {s : State} : keepsForm s (execEvcEoi n s) := keepsForm_next memOk_evcEoi
theorem memOk_evcTake {s : State} {n : Nat} (h : s.memOk) : (evcTake s n).memOk := h
theorem keepsForm_execEvcTake {n : Fin 256} {s : State} : keepsForm s (execEvcTake n s) := keepsForm_next memOk_evcTake
theorem memOk_periphTell {s : State} {src : Nat} (h : s.memOk) : (periphTell s src).memOk := memOk_ite h (memOk_ite (memOk_evcEvent h) h)

theorem memOk_gpioEdge {s : State} {p i : Nat} {rising : Bool} (h : s.memOk) : (gpioEdge s p i rising).memOk :=
  memOk_ite h (memOk_ite (memOk_aonWake (memOk_when (memOk_setRegBit h) fun hk => memOk_periphTell (memOk_setRegBit hk)))
    (memOk_when (memOk_setRegBit h) fun hk => memOk_periphTell (memOk_setRegBit hk)))

theorem keepsForm_execGpioEdge {p : Fin 3} {i : Fin 16} {rising : Bool} {s : State} : keepsForm s (execGpioEdge p i rising s) :=
  keepsForm_next memOk_gpioEdge

theorem memOk_holdRelease {s : State} (h : s.memOk) : (holdRelease s).memOk := h
theorem keepsForm_execGpioHoldRelease {s : State} : keepsForm s (execGpioHoldRelease s) := keepsForm_next memOk_holdRelease

theorem memOk_uartPush {s : State} {n v : Nat} (h : s.memOk) : (uartPush s n v).memOk :=
  memOk_ite (memOk_periphTell (memOk_setUart h)) (memOk_periphTell (memOk_setFld h))

theorem keepsForm_execUartDataWrite {n : Fin 4} {v : BitVec 8} {s : State} : keepsForm s (execUartDataWrite n v s) :=
  keepsForm_next memOk_uartPush

theorem memOk_uartPop {s : State} {n : Nat} (h : s.memOk) : (uartPop s n).2.memOk := by
  unfold uartPop
  dsimp only
  split
  · exact h
  · exact memOk_snd (memOk_periphTell (memOk_setUart h))

theorem keepsForm_execUartDataRead {n : Fin 4} {s : State} : keepsForm s (execUartDataRead n s) :=
  keepsForm_next fun h => memOk_update (memOk_uartPop h)

theorem keepsForm_execUartRxByte {n : Fin 4} {v : BitVec 8} {perr ferr brk : Bool} {s : State} :
    keepsForm s (execUartRxByte n v perr ferr brk s) :=
  keepsForm_ite (keepsForm_next id) (keepsForm_next fun h => memOk_periphTell (memOk_ite (memOk_setUart (memOk_ite (memOk_setFld h) h))
    (memOk_setFld (memOk_ite (memOk_setFld h) h))))

theorem keepsForm_execUartTxByte {n : Fin 4} {s : State} : keepsForm s (execUartTxByte n s) := by
  unfold execUartTxByte
  dsimp only
  split
  · exact keepsForm_next id
  · exact keepsForm_ite (keepsForm_next id) (keepsForm_next fun h => memOk_periphTell (memOk_setUart h))

theorem memOk_spiSelect {s : State} {m : Nat} (h : s.memOk) : (spiSelect s m).memOk := h

theorem memOk_spiPush {s : State} {m v : Nat} (h : s.memOk) : (spiPush s m v).memOk :=
  memOk_ite (memOk_periphTell (memOk_spiSelect (memOk_setSpi h))) h

theorem keepsForm_execSpiDataWrite {m : Fin 2} {v : Word} {s : State} : keepsForm s (execSpiDataWrite m v s) := keepsForm_next memOk_spiPush

theorem memOk_spiPop {s : State} {m : Nat} (h : s.memOk) : (spiPop s m).2.memOk := by
  unfold spiPop
  dsimp only
  split
  · exact h
  · exact memOk_snd (memOk_periphTell (memOk_setSpi h))

theorem keepsForm_execSpiDataRead {m : Fin 2} {s : State} : keepsForm s (execSpiDataRead m s) :=
  keepsForm_next fun h => memOk_update (memOk_spiPop h)

theorem keepsForm_execSpiFrameEnd {m : Fin 2} {v : Word} {s : State} : keepsForm s (execSpiFrameEnd m v s) := by
  unfold execSpiFrameEnd
  dsimp only
  split
  · exact keepsForm_next id
  · exact keepsForm_ite (keepsForm_next id) (keepsForm_next fun h => memOk_periphTell (memOk_spiSelect (memOk_setSpi h)))

theorem memOk_i2cPush {s : State} {j op data : Nat} (h : s.memOk) : (i2cPush s j op data).memOk :=
  memOk_ite (memOk_periphTell (memOk_setI2c h)) h

theorem keepsForm_execI2cCmd {j : Fin 2} {op : BitVec 3} {data : BitVec 8} {s : State} : keepsForm s (execI2cCmd j op data s) :=
  keepsForm_next memOk_i2cPush

theorem memOk_i2cFail {s : State} {j k : Nat} (h : s.memOk) : (i2cFail s j k).memOk := memOk_periphTell (memOk_setRegBit (memOk_setI2c h))

theorem memOk_i2cEnd {s : State} {j : Nat} {r : I2cEnd} (h : s.memOk) : (i2cEnd s j r).memOk := by
  unfold i2cEnd
  dsimp only
  split
  · exact h
  · split; exacts [memOk_periphTell (memOk_ite (memOk_setReg (memOk_setI2c h)) (memOk_setI2c h)), memOk_i2cFail h, memOk_i2cFail h]

theorem keepsForm_execI2cCommandEnd {j : Fin 2} {r : I2cEnd} {s : State} : keepsForm s (execI2cCommandEnd j r s) :=
  keepsForm_ite (keepsForm_next memOk_i2cEnd) (keepsForm_next id)

theorem keepsForm_execI2cStretchTimeout {j : Fin 2} {s : State} : keepsForm s (execI2cStretchTimeout j s) :=
  keepsForm_ite (keepsForm_next memOk_i2cFail) (keepsForm_next id)

theorem memOk_i2cRecover {s : State} {j : Nat} (h : s.memOk) : (i2cRecover s j).memOk := h

theorem keepsForm_execRecover {j : Fin 2} {held : Bool} {s : State} : keepsForm s (execRecover j held s) :=
  keepsForm_ite (keepsForm_next memOk_i2cRecover) (keepsForm_next id)

theorem keepsForm_execTimerMatch {t : Fin 8} {s : State} : keepsForm s (execTimerMatch t s) :=
  keepsForm_ite (keepsForm_next id) (keepsForm_next fun h => memOk_periphTell (memOk_setFld (memOk_setTmr (by
      split
      · exact memOk_setFld h
      · exact memOk_setReg h
      · exact h))))

theorem keepsForm_execTimerCapture {t : Fin 8} {s : State} : keepsForm s (execTimerCapture t s) :=
  keepsForm_ite (keepsForm_next fun h => memOk_periphTell (memOk_setFld (memOk_setReg (memOk_setReg h)))) (keepsForm_next id)

theorem memOk_tmrCtrl {s : State} {k : Nat} {v : Word} (h : s.memOk) : (tmrCtrl s k v).memOk :=
  memOk_ite (memOk_setTmr (memOk_setReg h)) (memOk_ite (memOk_setReg h) (memOk_ite (memOk_setTmr (memOk_setReg h))
    (memOk_setTmr (memOk_setReg h))))

theorem memOk_capLatch {s : State} {k : Nat} (h : s.memOk) : (capLatch s k).memOk := h
theorem memOk_tickPer {s : State} (h : s.memOk) : (tickPer s).memOk := memOk_eachNat (fun _ _ ht => memOk_ite (memOk_tmrCount ht) ht) h
theorem memOk_wdtPause {s : State} (h : s.memOk) : (wdtPause s).memOk := h
theorem memOk_tickWdtSp {s : State} (h : s.memOk) : (tickWdtSp s).memOk := memOk_ite h (memOk_ite (memOk_aonEvent (memOk_setFld h)) h)

theorem memOk_tickTimers {s : State} (h : s.memOk) : (tickTimers s).memOk :=
  memOk_ite (memOk_wdtPause (memOk_tickWdtSp h)) (memOk_unless (memOk_tickPer (memOk_eachNat (fun _ _ ht => memOk_ite (memOk_tmrCount ht)
    ht) (memOk_tickWdtSp h))) memOk_tickPer)

theorem memOk_wdtStart {s : State} (h : s.memOk) : (wdtStart s).memOk := memOk_ite h (memOk_update (memOk_setFld h))

theorem memOk_wdtCtrl {s : State} {v : Word} (h : s.memOk) : (wdtCtrl s v).memOk :=
  memOk_ite h (memOk_ite (memOk_wdtStart (memOk_setFld (memOk_setFld (memOk_setFldIn h)))) (memOk_setFld (memOk_setFld (memOk_setFldIn h))))

theorem keepsForm_execWdtSysEn {s : State} : keepsForm s (execWdtSysEn s) := keepsForm_next memOk_wdtStart
theorem memOk_wdtExpire {s : State} {bad : Bool} (h : s.memOk) : (wdtExpire s bad).memOk := memOk_setFld (memOk_resetEntry h)
theorem memOk_wdtKick {s : State} {key : Nat} (h : s.memOk) : (wdtKick s key).memOk := memOk_ite h (by split; exacts [h, memOk_wdtExpire h])

theorem memOk_wdtSpKick {s : State} {key : Nat} (h : s.memOk) : (wdtSpKick s key).memOk :=
  memOk_ite h (by split; exacts [h, memOk_wdtSpExpire h])

theorem keepsForm_execWdtSysKick {key : BitVec 16} {s : State} : keepsForm s (execWdtSysKick key s) := keepsForm_next memOk_wdtKick

theorem keepsForm_execWdtSysEarly {s : State} : keepsForm s (execWdtSysEarly s) :=
  keepsForm_ite (keepsForm_next fun h => memOk_aonEvent (memOk_setFld h)) (keepsForm_next id)

theorem keepsForm_execWdtSysExpiry {s : State} : keepsForm s (execWdtSysExpiry s) :=
  keepsForm_ite (keepsForm_next memOk_wdtExpire) (keepsForm_next id)

/-! ### Register reads and writes -/

theorem memOk_perReadEffect {s : State} {a : Nat} {r : Word × State} (h : s.memOk) (hr : perReadEffect s a = some r) : r.2.memOk := by
  unfold perReadEffect at hr
  split at hr
  · cases hr; exact memOk_evcClaim h
  · split at hr
    · cases hr; exact memOk_uartPop h
    · split at hr
      · cases hr; exact memOk_spiPop h
      · split at hr
        · cases hr; exact memOk_spiPop h
        · split at hr
          · cases hr; exact memOk_setReg h
          · split at hr
            · cases hr; exact memOk_capLatch h
            · cases hr

theorem memOk_regRead {s : State} {init a : Nat} (h : s.memOk) : (regRead s init a).2.memOk := by
  unfold regRead
  refine memOk_ite_snd h (memOk_ite_snd h (memOk_ite_snd (memOk_fwqPop h) (memOk_ite_snd h ?_)))
  split
  next r hr => exact memOk_perReadEffect h hr
  next =>
    exact memOk_ite_snd (memOk_bkdReadEffect h) (memOk_ite_snd (memOk_cycReadEffect h) (memOk_ite_snd (memOk_dprReadEffect h) h))

theorem memOk_sysWrite {s : State} {a : Nat} {v : Word} (h : s.memOk) : (sysWrite s a v).memOk :=
  memOk_ite (memOk_setFld (memOk_plainReg h)) (memOk_plainReg h)

theorem memOk_rstWrite {s : State} {a : Nat} {v : Word} (h : s.memOk) : (rstWrite s a v).memOk :=
  memOk_ite (memOk_rstCtrl h) (memOk_ite (memOk_blockWrite h) (memOk_ite (memOk_blockWrite h) (memOk_plainReg h)))

theorem memOk_ckgWrite {s : State} {a : Nat} {v : Word} (h : s.memOk) : (ckgWrite s a v).memOk := by
  unfold ckgWrite
  split
  · exact memOk_stepWrite h
  · exact memOk_ite (memOk_clResume (memOk_plainReg h)) (memOk_plainReg h)

theorem memOk_pmuWrite {s : State} {a : Nat} {v : Word} (h : s.memOk) : (pmuWrite s a v).memOk :=
  memOk_ite (memOk_domCtrlWrite h) (memOk_ite (memOk_standbyRequest h) (memOk_ite (memOk_avsCfgWrite h) (memOk_ite (memOk_avsLimWrite h)
    (memOk_ite (memOk_avsTargetWrite h) (memOk_plainReg h)))))

theorem memOk_evcWrite {s : State} {a : Nat} {v : Word} (h : s.memOk) : (evcWrite s a v).memOk :=
  memOk_ite (memOk_evcEoi h) (memOk_ite (memOk_ite (memOk_evcTake h) h) (memOk_unless (memOk_setReg h) fun hk => memOk_ite
    (memOk_setReg hk) (memOk_plainReg h)))

theorem memOk_bkdWrite {s : State} {a : Nat} {v : Word} (h : s.memOk) : (bkdWrite s a v).memOk :=
  memOk_ite (memOk_wr h) (memOk_ite (memOk_rtcSecWrite h) (memOk_ite (memOk_setReg h) (memOk_ite (memOk_reqClr (memOk_plainReg h))
    (memOk_plainReg h))))

theorem memOk_gpioWrite {s : State} {a : Nat} {v : Word} (h : s.memOk) : (gpioWrite s a v).memOk :=
  memOk_ite (memOk_holdRelease (memOk_plainReg h)) (memOk_plainReg h)

theorem memOk_cvuWrite {s : State} {a : Nat} {v : Word} (h : s.memOk) : (cvuWrite s a v).memOk :=
  memOk_ite (memOk_ite (memOk_cvuCfgWrite h) (memOk_ite (memOk_cvuData h) (memOk_plainReg h))) (memOk_ite (memOk_when (memOk_plainReg h)
    memOk_mseGo) (memOk_ite (memOk_setReg h) (memOk_plainReg h)))

theorem memOk_bmvWrite {s : State} {a : Nat} {v : Word} (h : s.memOk) : (bmvWrite s a v).memOk :=
  memOk_ite (memOk_ite (memOk_haltClr h) h) (memOk_ite (memOk_plainReg h) (memOk_ite (memOk_when (memOk_ite (memOk_bmvGo h) h)
    memOk_bmvAbort) (memOk_ite (memOk_setReg h) (memOk_ite h (memOk_plainReg h)))))

theorem memOk_pflGo {s : State} {w : Writer} (h : s.memOk) : (pflGo s w).memOk := by
  unfold pflGo
  split
  · exact memOk_pflProgram h
  · exact memOk_pflErase h
  · exact memOk_pflSuspend h
  · exact memOk_pflResume h
  · exact h

theorem memOk_pflWrite {s : State} {w : Writer} {a : Nat} {v : Word} (h : s.memOk) : (pflWrite s w a v).memOk :=
  memOk_ite (memOk_ite (memOk_pflGo (memOk_setFld h)) (memOk_setFld h)) (memOk_ite (memOk_setReg h) (memOk_plainReg h))

theorem memOk_nvrWrite {s : State} {a : Nat} {v : Word} (h : s.memOk) : (nvrWrite s a v).memOk :=
  memOk_ite (memOk_tryPassword h) (memOk_ite (memOk_tryPassword h) (memOk_ite (memOk_setReg h)
    (memOk_ite (memOk_ite (memOk_lockRegion (memOk_when (memOk_ite (memOk_changePassword h) h) memOk_changePassword))
    (memOk_when (memOk_ite (memOk_changePassword h) h) memOk_changePassword)) (memOk_ite (memOk_ite (memOk_queueJournal h) h)
    (memOk_ite (memOk_when (memOk_plainReg h) memOk_testSave) (memOk_ite (memOk_unless (memOk_setFld h) fun hk => memOk_ite
    (memOk_startRestore h) (memOk_ite (memOk_invalidate h) hk)) (memOk_plainReg h)))))))

theorem memOk_entWrite {s : State} {a : Nat} {v : Word} (h : s.memOk) : (entWrite s a v).memOk :=
  memOk_ite (memOk_entReq h) (memOk_plainReg h)

theorem memOk_agmWrite {s : State} {a : Nat} {v : Word} (h : s.memOk) : (agmWrite s a v).memOk :=
  memOk_ite (memOk_ite (memOk_ledgerFlush (memOk_agmStart (memOk_plainReg h))) (memOk_update (memOk_plainReg h)))
    (memOk_ite (memOk_critClear (memOk_plainReg h)) (memOk_ite (memOk_healthTell (memOk_derateCancel (memOk_derateApply h)))
    (memOk_ite (memOk_ledgerMark h) (memOk_plainReg h))))

theorem memOk_cfgCtrlWrite {s : State} {v : Word} (h : s.memOk) : (cfgCtrlWrite s v).memOk :=
  memOk_ite (memOk_setFld h) (by split; exacts [memOk_cfgSelect h, memOk_cfgCommit h, memOk_cfgAbort h, memOk_setFld h])

theorem memOk_cycWrite {s : State} {a : Nat} {v : Word} (h : s.memOk) : (cycWrite s a v).memOk :=
  memOk_ite (memOk_cycCtrlWrite h) (memOk_ite (memOk_postMode h) (memOk_ite (memOk_ite (memOk_cycCntClr h) h)
    (memOk_ite (memOk_cfgCtrlWrite h) (memOk_ite (memOk_ite (memOk_setReg h) h) (memOk_cycSet h)))))

theorem memOk_planCtrlWrite {s : State} {v : Word} (h : s.memOk) : (planCtrlWrite s v).memOk :=
  memOk_ite (memOk_setFld h) (by
      split
      · exact memOk_startLoad (memOk_setFld h)
      · exact memOk_requestCommit (memOk_setFld h)
      · exact memOk_abortShadows (memOk_setFld h)
      · exact memOk_setFld h)

theorem memOk_dprWrite {s : State} {a : Nat} {v : Word} (h : s.memOk) : (dprWrite s a v).memOk :=
  memOk_ite (memOk_ite (memOk_retireEngine h) h) (memOk_ite (memOk_ite (memOk_quarRel h) h) (memOk_ite (memOk_ite (memOk_dprCntClr h) h)
    (memOk_ite (memOk_planCtrlWrite h) (memOk_ite (memOk_when (memOk_plainReg h) memOk_lewinClr) (memOk_ite (memOk_csmEccClr h)
    (memOk_dprSet h))))))

theorem memOk_sflWrite {s : State} {a : Nat} {v : Word} (h : s.memOk) : (sflWrite s a v).memOk :=
  memOk_ite (memOk_when (memOk_ite h (memOk_sflEn h)) memOk_retrain) (memOk_ite (memOk_ite (memOk_stnAck h) h)
    (memOk_ite (memOk_ite (memOk_sflCntClr h) h) (memOk_ite (memOk_ite (memOk_acySubmitRecord h) h) (memOk_ite (memOk_acyCancelTag h)
    (memOk_ite (memOk_ite (memOk_patStart (memOk_when (memOk_patSettings h) memOk_patStop)) (memOk_when (memOk_patSettings h)
    memOk_patStop)) (memOk_plainReg h))))))

theorem memOk_twlWrite {s : State} {a : Nat} {v : Word} (h : s.memOk) : (twlWrite s a v).memOk :=
  memOk_ite (memOk_twlCtrlWrite h) (memOk_ite (memOk_ite (memOk_twlCntClr h) h) (memOk_ite (memOk_ite (memOk_setReg h) h)
    (memOk_plainReg h)))

theorem memOk_fpcWrite {s : State} {a : Nat} {v : Word} (h : s.memOk) : (fpcWrite s a v).memOk := by
  unfold fpcWrite
  split
  · exact memOk_ite (memOk_fpcClr (memOk_unless (memOk_plainReg h) memOk_fpcEn)) (memOk_unless (memOk_plainReg h) memOk_fpcEn)
  · exact memOk_plainReg h

theorem memOk_setupWrite {s : State} {a : Nat} {v : Word} (h : s.memOk) : (setupWrite s a v).memOk :=
  memOk_ite (memOk_ite (memOk_windowWrite h) (memOk_ite h (memOk_plainReg h))) (memOk_ite (memOk_rctrlWrite h)
    (memOk_ite (memOk_ite h (memOk_plainReg h)) (memOk_regSet h)))

theorem memOk_bar0Write {s : State} {a : Nat} {v : Word} (h : s.memOk) : (bar0Write s a v).memOk :=
  memOk_ite h (memOk_ite (memOk_setupWrite h) (memOk_ite (memOk_setReg h) (memOk_hifSet h)))

theorem memOk_hifWrite {s : State} {a : Nat} {v : Word} (h : s.memOk) : (hifWrite s a v).memOk :=
  memOk_ite (memOk_bar0Write h) (memOk_ite (memOk_when (memOk_plainReg h) memOk_update) (memOk_ite (memOk_ite h (memOk_plainReg h))
    (memOk_unless (memOk_setReg h) fun hk => memOk_ite (memOk_bar0Write h) (memOk_ite (memOk_ite h hk) (memOk_ite (memOk_fwComplete h)
    (memOk_ite (memOk_hostMsg h) (memOk_hifSet h)))))))

theorem memOk_uartCfgWrite {s : State} {n : Nat} {v : Word} (h : s.memOk) : (uartCfgWrite s n v).memOk :=
  memOk_ite (memOk_setFld (memOk_setFld (memOk_plainReg h))) (memOk_ite (memOk_setFld (memOk_plainReg h)) (memOk_plainReg h))

theorem memOk_i2cWrite {s : State} {j a : Nat} {v : Word} (h : s.memOk) : (i2cWrite s j a v).memOk :=
  memOk_ite (memOk_i2cPush h) (memOk_ite (memOk_i2cRecover (memOk_plainReg h)) (memOk_plainReg h))

theorem memOk_spiCfgWrite {s : State} {m : Nat} {v : Word} (h : s.memOk) : (spiCfgWrite s m v).memOk :=
  memOk_spiSelect (memOk_ite (memOk_setFld (memOk_plainReg h)) (memOk_plainReg h))

theorem memOk_wdtSpCtrl {s : State} {v : Word} (h : s.memOk) : (wdtSpCtrl s v).memOk :=
  memOk_ite h (memOk_ite (memOk_wdtSpLoad (memOk_setFld (memOk_setFld (memOk_setFldIn h))))
    (memOk_setFld (memOk_setFld (memOk_setFldIn h))))

theorem memOk_perWrite {s : State} {a : Nat} {v : Word} (h : s.memOk) : (perWrite s a v).memOk :=
  memOk_ite (memOk_ite (memOk_uartPush h) (memOk_ite (memOk_uartCfgWrite h) (memOk_plainReg h))) (memOk_ite (memOk_ite (memOk_spiPush h)
    (memOk_ite (memOk_spiCfgWrite h) (memOk_plainReg h))) (memOk_ite (memOk_i2cWrite h) (memOk_ite (memOk_ite (memOk_tmrCtrl h)
    (memOk_plainReg h)) (memOk_ite (memOk_wdtCtrl h) (memOk_ite (memOk_wdtKick h) (memOk_ite (memOk_wdtSpCtrl h)
    (memOk_ite (memOk_wdtSpKick h) (memOk_plainReg h))))))))

theorem memOk_tellSource {s : State} {a : Nat} (h : s.memOk) : (tellSource s a).memOk := by
  unfold tellSource
  split
  · exact memOk_periphTell h
  · exact h

theorem memOk_regWrite {s : State} {w : Writer} {a : Nat} {v : Word} (h : s.memOk) : (regWrite s w a v).memOk := by
  unfold regWrite
  split
  · exact memOk_sysWrite h
  · exact memOk_rstWrite h
  · exact memOk_ckgWrite h
  · exact memOk_pmuWrite h
  · exact memOk_evcWrite h
  · exact memOk_bkdWrite h
  · exact memOk_tellSource (memOk_gpioWrite h)
  · exact memOk_cvuWrite h
  · exact memOk_bmvWrite h
  · exact memOk_pflWrite h
  · exact memOk_nvrWrite h
  · exact memOk_entWrite h
  · exact memOk_agmWrite h
  · exact memOk_cycWrite h
  · exact memOk_dprWrite h
  · exact memOk_twlWrite h
  · exact memOk_fpcWrite h
  · exact memOk_hifWrite h
  · exact memOk_dbgWrite h
  · exact memOk_trcWrite h
  · exact memOk_tellSource (memOk_perWrite h)
  · exact memOk_tellSource (memOk_perWrite h)
  · exact memOk_tellSource (memOk_perWrite h)
  · exact memOk_ite (memOk_startOk h) (memOk_plainReg h)
  · exact memOk_ite (memOk_sflWrite h) h

/-! ### Fabric -/

theorem memOk_passage {s : State} {a : Nat} (h : s.memOk) : (passage s a).2.memOk :=
  memOk_ite_snd h (by split; exacts [memOk_snd (memOk_wakeAccess h), memOk_ite_snd h h])

theorem memOk_busErr {s : State} {i : Init} {part a : Nat} {write : Bool} (h : s.memOk) : (busErr s i part a write).memOk :=
  memOk_busErrOf h

theorem memOk_countEcc {s : State} {n k : Nat} {lim : Bool} (h : s.memOk) : (countEcc s n k lim).memOk := h

theorem memOk_countBy {s : State} {f : Fld} {k : Nat} (h : s.memOk) : (countBy s f k).memOk := by
  induction k generalizing s with
  | zero => exact h
  | succ k ih => exact ih (memOk_count h)

theorem memOk_countCorr {s : State} {g : Region} {k : Nat} (h : s.memOk) : (countCorr s g k).memOk := by
  unfold countCorr
  split
  · exact memOk_countBy h
  · exact memOk_countBy h
  · exact memOk_countEcc h
  · exact memOk_countEcc h
  · exact memOk_countBy h
  · exact h

theorem memOk_countUncorr {s : State} {g : Region} {e : Nat} (h : s.memOk) : (countUncorr s g e).memOk := by
  unfold countUncorr
  split
  · exact memOk_setReg (memOk_count h)
  · exact memOk_mgsUe h
  · exact memOk_evcIf (memOk_setReg (memOk_count h))
  · exact h

theorem memOk_eccRead {s : State} {g : Region} {a n : Nat} (h : s.memOk) : (eccRead s g a n).2.memOk := by
  unfold eccRead
  split
  · exact memOk_snd (memOk_countUncorr h)
  · exact memOk_ite_snd h (memOk_snd (memOk_ite (memOk_countCorr h) (memOk_update (memOk_countCorr h))))

theorem memOk_eccWrite {s : State} {g : Region} {a n : Nat} (h : s.memOk) : (eccWrite s g a n).2.memOk := by
  unfold eccWrite
  dsimp only
  split
  · exact memOk_snd (memOk_countUncorr h)
  · exact memOk_ite_snd h (memOk_snd (memOk_update (memOk_countCorr h)))

theorem memOk_regWords {s : State} {init a k : Nat} (h : s.memOk) : (regWords s init a k).2.memOk := by
  induction k generalizing s a with
  | zero => exact h
  | succ k ih => exact ih (memOk_regRead h)

theorem memOk_regionRead {s : State} {i : Init} {part : Nat} {g : Region} {a n : Nat} {d : HostData} (h : s.memOk) :
    (regionRead s i part g a n d).2.memOk := by
  have hecc := memOk_eccRead (g := g) (a := a) (n := n) h
  unfold regionRead
  split
  · exact memOk_regWords h
  · exact h
  · exact h
  · split <;> exact h
  · generalize eccRead s _ a n = r at hecc ⊢
    obtain ⟨_ | _, s1⟩ := r <;> exact hecc

theorem memOk_regStore {s : State} {w : Writer} {a : Nat} {l : List Byte} (h : s.memOk) : (regStore s w a l).memOk :=
  memOk_ite (memOk_tellSource (memOk_cvuData h)) (memOk_ite (memOk_setBytes h) (memOk_regWrite h))

theorem memOk_regStores {s : State} {w : Writer} {a : Nat} {l : List (List Byte)} (h : s.memOk) : (regStores s w a l).memOk := by
  induction l generalizing s a with
  | nil => exact h
  | cons x l ih => exact ih (memOk_regStore h)

theorem memOk_slotWrite {part a : Nat} {l : List Byte} {s : State} {k : Nat} (h : s.memOk) : (slotWrite part a l s k).memOk :=
  memOk_ite (memOk_ownViolation h) (memOk_writeInternal h)

theorem memOk_regionWrite {s : State} {i : Init} {part : Nat} {g : Region} {a : Nat} {l : List Byte} (h : s.memOk) :
    (regionWrite s i part g a l).2.memOk := by
  have hecc := memOk_eccWrite (g := g) (a := a) (n := l.length) h
  unfold regionWrite
  extract_lets n
  split
  · split
    · exact memOk_regStores h
    · exact h
  · exact memOk_foldl (fun _ _ ht => memOk_slotWrite ht) h
  · exact memOk_foldl (fun _ _ ht => memOk_setByte ht) h
  · split
    · exact memOk_post h
    · exact h
  · generalize eccWrite s _ a n = r at hecc ⊢
    obtain ⟨_ | _, s1⟩ := r
    · exact memOk_define (memOk_store hecc)
    · exact hecc

theorem memOk_access {s : State} {i : Init} {part : Nat} {write : Bool} {a n : Nat} {serve : State → Region → Acc × State} (h : s.memOk)
    (hserve : ∀ t g, t.memOk → (serve t g).2.memOk) : (access s i part write a n serve).2.memOk := by
  unfold access
  extract_lets r
  have hr : r.2.memOk := by
    unfold r
    split
    · exact h
    · refine memOk_ite_snd h ?_
      have hp := memOk_passage (a := a) h
      generalize passage s a = q at hp ⊢
      obtain ⟨_ | _, s1⟩ := q
      · dsimp only
        split
        · exact hp
        · exact memOk_ite_snd (hserve s1 _ hp) hp
      · exact hp
  clear_value r
  obtain ⟨_ | _ | _ | _, s1⟩ := r
  · exact hr
  · exact memOk_busErr hr
  · exact hr
  · exact hr

theorem memOk_fabRead {s : State} {i : Init} {part a n : Nat} {d : HostData} (h : s.memOk) : (fabRead s i part a n d).2.memOk :=
  memOk_access h fun _ _ ht => memOk_regionRead ht

theorem memOk_fabWrite {s : State} {i : Init} {part a : Nat} {l : List Byte} (h : s.memOk) : (fabWrite s i part a l).2.memOk :=
  memOk_access h fun _ _ ht => memOk_regionWrite ht

theorem memOk_busRead {s : State} {i : Init} {part a size : Nat} {d : HostData} (h : s.memOk) : (busRead s i part a size d).2.memOk := by
  have hr := memOk_fabRead (i := i) (part := part) (a := a) (n := size) (d := d) h
  unfold busRead
  generalize fabRead s i part a size d = r at hr ⊢
  obtain ⟨_ | _ | _ | _, s1⟩ := r <;> exact hr

theorem memOk_sigAccess {s : State} {i : Init} {part slot k : Nat} (h : s.memOk) : (sigAccess s i part slot k).2.memOk := by
  have hp := memOk_passage (a := 0x20000000 + 8 * slot) h
  unfold sigAccess
  generalize passage s (0x20000000 + 8 * slot) = r at hp ⊢
  obtain ⟨_ | ⟨_ | _ | _ | _⟩, s1⟩ := r
  · exact memOk_ite_snd hp hp
  · exact memOk_busErr hp
  · exact memOk_busErr hp
  · exact memOk_busErr hp
  · exact hp

theorem memOk_sigStore {s : State} {i : Init} {b : StoreEntry} {slot k : Nat} (h : s.memOk) : (sigStore s i b slot k).memOk := by
  unfold sigStore
  split
  · exact memOk_ite (memOk_cmuStore h) (memOk_ownViolation h)
  · exact memOk_ssmStore h
  · exact memOk_ite (memOk_countReg h) (memOk_ite (memOk_countReg h) (memOk_ownViolation h))

theorem memOk_busStore {s : State} {i : Init} {b : StoreEntry} (h : s.memOk) : (busStore s i b).2.memOk := by
  have hp : ∀ a, (passage s a).2.memOk := fun _ => memOk_passage h
  have hw := memOk_fabWrite (i := i) (part := b.part) (a := b.addr) (l := leBytes b.size b.data.toNat) h
  obtain ⟨pass, hpass⟩ : ∃ f, passage = f := ⟨_, rfl⟩
  obtain ⟨slot, hslot⟩ : ∃ n, (b.addr - 0x20000000) / 8 = n := ⟨_, rfl⟩
  obtain ⟨w, hwrite⟩ : ∃ w, fabWrite s i b.part b.addr (leBytes b.size b.data.toNat) = w := ⟨_, rfl⟩
  rw [busStore, hpass, hslot, hwrite]
  rw [hpass] at hp
  rw [hwrite] at hw
  cases b.kind with
  | sig k =>
    have hp := hp (0x20000000 + 8 * slot)
    dsimp only
    generalize pass s (0x20000000 + 8 * slot) = q at hp ⊢
    obtain ⟨_ | ⟨_ | _ | _ | _⟩, s1⟩ := q
    · exact memOk_snd (memOk_sigStore hp)
    · exact hp
    · exact memOk_snd (memOk_busErr hp)
    · exact hp
    · exact hp
  | plain =>
    refine memOk_ite_snd (memOk_countReg h) ?_
    obtain ⟨_ | _ | _ | _, s1⟩ := w <;> exact hw

/-! ### Bursts of the Block Mover and the scan engine -/

theorem memOk_bmvReads {s : State} {part : Nat} {d : HostData} {l : List (Nat × Nat)} (h : s.memOk) : (bmvReads s part d l).2.2.memOk := by
  induction l generalizing s d with
  | nil => exact h
  | cons x l ih =>
    obtain ⟨a, n⟩ := x
    have hr := memOk_fabRead (i := .bmv) (part := part) (a := a) (n := n) (d := d) h
    unfold bmvReads
    generalize fabRead s .bmv part a n d = r at hr ⊢
    obtain ⟨_ | _ | _ | _, s1⟩ := r
    · exact ih hr
    all_goals exact hr

theorem memOk_bmvWrites {s : State} {part : Nat} {b : List Byte} {l : List (Nat × Nat)} (h : s.memOk) :
    (bmvWrites s part b l).2.2.memOk := by
  induction l generalizing s b with
  | nil => exact h
  | cons x l ih =>
    obtain ⟨a, n⟩ := x
    have hw := memOk_fabWrite (i := .bmv) (part := part) (a := a) (l := b.take n) h
    unfold bmvWrites
    generalize fabWrite s .bmv part a (b.take n) = r at hw ⊢
    obtain ⟨_ | _ | _ | _, s1⟩ := r
    · exact ih hw
    all_goals exact hw

theorem memOk_haltOn {s : State} {m : Moved} {n : Option Nat} (h : s.memOk) : (haltOn s m n).memOk := by
  unfold haltOn
  split
  · exact memOk_bmvHalt h
  · exact h

theorem memOk_movedBytes {s : State} {x : BmvDesc} {l : List Byte} (h : s.memOk) : (movedBytes s x l).2.memOk := memOk_ite_snd h h
theorem memOk_chEnds {s : State} {n st el : Nat} (h : s.memOk) : (chEnds s n st el).memOk := h

theorem memOk_checkBurst {s : State} {n part : Nat} {x : BmvDesc} {d : HostData} (h : s.memOk) : (checkBurst s n part x d).memOk := by
  unfold checkBurst
  split
  · exact memOk_ite (memOk_chEnds (memOk_setCh (memOk_bmvWrites h))) (memOk_haltOn (memOk_setCh (memOk_bmvWrites h)))
  · exact memOk_ite (memOk_haltOn (memOk_bmvReads h)) (memOk_ite (memOk_chEnds (memOk_bmvReads h))
        (memOk_chEnds (memOk_setFld (memOk_bmvReads h))))
  · exact memOk_chEnds h

theorem memOk_pieceBurst {s : State} {n part : Nat} {x : BmvDesc} {d : HostData} (h : s.memOk) : (pieceBurst s n part x d).memOk :=
  memOk_haltOn (memOk_haltOn (memOk_ite (memOk_chEnds (memOk_setCh (memOk_unless (memOk_bmvWrites (memOk_movedBytes (memOk_bmvReads h)))
    memOk_cvuFeed))) (memOk_setCh (memOk_unless (memOk_bmvWrites (memOk_movedBytes (memOk_bmvReads h))) memOk_cvuFeed))))

theorem memOk_channelBurst {s : State} {n : Nat} {x : BmvDesc} {d : HostData} (h : s.memOk) : (channelBurst s n x d).memOk :=
  memOk_ite (memOk_checkBurst h) (memOk_ite (memOk_chEnds h) (memOk_pieceBurst h))

theorem keepsForm_execBmvBurst {d : HostData} {s : State} : keepsForm s (execBmvBurst d s) :=
  keepsForm_ite (keepsForm_next id) ((by
      split
      · exact keepsForm_next id
      · split; exacts [keepsForm_next id, keepsForm_next fun h => memOk_update (memOk_channelBurst h)]))

theorem memOk_mseWay {s : State} {g : Region} {a n : Nat} (h : s.memOk) : (mseWay s g a n).2.memOk := by
  have hp := memOk_passage (a := a) h
  unfold mseWay
  generalize passage s a = r at hp ⊢
  obtain ⟨_ | _, s1⟩ := r <;> exact hp

theorem memOk_mseEnds {s : State} {st : Nat} {crc : Option Word} (h : s.memOk) : (mseEnds s st crc).memOk :=
  memOk_evcIf (memOk_update (memOk_setReg (by split; exacts [memOk_setReg h, h])))

theorem memOk_mseReads {s : State} {g : Region} {a n : Nat} {cmp : Bool} (h : s.memOk) : (mseReads s g a n cmp).memOk := by
  have hw := memOk_mseWay (g := g) (a := a) (n := n) h
  unfold mseReads
  generalize mseWay s g a n = r at hw ⊢
  obtain ⟨_ | ⟨_ | _ | _ | _, x⟩, s1⟩ := r
  · have he := memOk_eccRead (s := s1) (g := g) (a := a) (n := n) hw
    dsimp only
    generalize eccRead s1 g a n = q at he ⊢
    obtain ⟨_ | _, s2⟩ := q
    · exact memOk_mseEnds he
    · exact memOk_mseEnds (memOk_busErrOf he)
  · exact memOk_mseEnds (memOk_busErrOf hw)
  · exact memOk_mseEnds (memOk_busErrOf hw)
  · exact memOk_mseEnds (memOk_busErrOf hw)
  · exact hw

theorem keepsForm_execMseJobEnd {s : State} : keepsForm s (execMseJobEnd s) := by
  unfold execMseJobEnd
  split
  · exact keepsForm_next id
  · exact keepsForm_ite (keepsForm_next id) ((by
        split
        · exact keepsForm_next memOk_mseEnds
        · exact keepsForm_ite (keepsForm_next memOk_mseReads) (keepsForm_next memOk_mseEnds)))

theorem memOk_nextEngine {s : State} {n : Nat} (h : s.memOk) : (nextEngine s n).memOk := by
  unfold nextEngine
  split
  · exact h
  · exact memOk_update (memOk_countReg h)

theorem memOk_nextProg {s : State} (h : s.memOk) : (nextProg s).memOk := memOk_ite h (memOk_nextEngine h)

theorem memOk_scrubMismatch {s : State} {kind n id : Nat} (h : s.memOk) : (scrubMismatch s kind n id).memOk :=
  memOk_evcIf (memOk_countReg (memOk_setReg h))

theorem memOk_scrubBlock {s : State} {p : Prog} (h : s.memOk) : (scrubBlock s p).memOk := by
  unfold scrubBlock
  extract_lets n s1 start k
  have he : (eccRead s1 (.lim n) (limBase n + start) k).2.memOk := memOk_eccRead (memOk_setFld (memOk_setFld h))
  generalize eccRead s1 (.lim n) (limBase n + start) k = r at he ⊢
  obtain ⟨_ | _, s2⟩ := r
  · exact memOk_ite (memOk_update he) (memOk_ite (memOk_nextProg he) (memOk_nextProg (memOk_scrubMismatch he)))
  · exact memOk_nextProg (memOk_scrubMismatch he)

theorem keepsForm_execMseScrubRead {s : State} : keepsForm s (execMseScrubRead s) := by
  unfold execMseScrubRead
  dsimp only
  exact keepsForm_ite (keepsForm_next id) ((by
      split
      · exact keepsForm_next fun h => memOk_scrubBlock (memOk_ite h (memOk_nextEngine h))
      · exact keepsForm_next fun h => memOk_ite h (memOk_nextEngine h)))

/-! ### Firmware and configuration commands -/

theorem memOk_onFw {s : State} {serial : Nat} {op : Nat → Bool} {k : HostCmd → State → State} (h : s.memOk) (hk : ∀ y0 y1, y1.memOk →
    (k y0 y1).memOk) : (onFw s serial op k).memOk := by
  unfold onFw
  split
  · exact h
  · exact memOk_ite (hk _ _ (memOk_markStarted h)) h

theorem keepsForm_execCfgStatus {serial : Nat} {s : State} : keepsForm s (execCfgStatus serial s) :=
  keepsForm_next fun h => memOk_onFw h (fun _ _ ht => memOk_wellFormed ht (memOk_answerHost ht))

theorem memOk_cfgReadCmd {c : HostCmd} {s : State} (h : s.memOk) : (cfgReadCmd c s).memOk :=
  memOk_wellFormed h (by split; exacts [memOk_ite (memOk_endCmd h) (memOk_answerHost h), memOk_endCmd h])

theorem keepsForm_execCfgRead {serial : Nat} {s : State} : keepsForm s (execCfgRead serial s) :=
  keepsForm_next fun h => memOk_onFw h (fun _ _ ht => memOk_cfgReadCmd ht)

theorem memOk_writeCopy {s : State} {c : HostCmd} {l : List Byte} (h : s.memOk) : (writeCopy s c l).memOk := by
  refine memOk_ite (memOk_endCmd h) (memOk_ite (memOk_endCmd h) (memOk_ite (memOk_endCmd h) ?_))
  refine memOk_cfgCommit ?_
  exact memOk_update (memOk_setBytes h)

theorem memOk_cfgWriteCmd {d : HostData} {c : HostCmd} {s : State} (h : s.memOk) : (cfgWriteCmd d c s).memOk :=
  memOk_wellFormed h (memOk_ite (memOk_endCmd h) (memOk_withHostData h (fun _ => memOk_writeCopy h)))

theorem keepsForm_execCfgWrite {serial : Nat} {d : HostData} {s : State} : keepsForm s (execCfgWrite serial d s) :=
  keepsForm_next fun h => memOk_onFw h (fun _ _ ht => memOk_cfgWriteCmd ht)

theorem memOk_costumeWrite {s : State} {c : HostCmd} {d : List Byte} (h : s.memOk) : (costumeWrite s c d).memOk :=
  memOk_ite (memOk_endCmd h) (memOk_ite (memOk_endCmd h) (memOk_writeCopy h))

theorem memOk_costumeCmd {d : HostData} {c : HostCmd} {s : State} (h : s.memOk) : (costumeCmd d c s).memOk :=
  memOk_wellFormed h (memOk_ite (memOk_endCmd h) (memOk_ite (memOk_endCmd h) (memOk_ite (memOk_costumeWrite h) (memOk_withHostData h
    (fun _ => memOk_costumeWrite h)))))

theorem keepsForm_execCostumeWrite {serial : Nat} {d : HostData} {s : State} : keepsForm s (execCostumeWrite serial d s) :=
  keepsForm_next fun h => memOk_onFw h (fun _ _ ht => memOk_costumeCmd ht)

theorem memOk_ucalWrite {s : State} {c : HostCmd} {d : List Byte} (h : s.memOk) : (ucalWrite s c d).memOk := by
  unfold ucalWrite
  exact memOk_ite (memOk_endCmd h) (memOk_writeCopy h)

theorem memOk_ucalCmd {d : HostData} {c : HostCmd} {s : State} (h : s.memOk) : (ucalCmd d c s).memOk :=
  memOk_wellFormed h (memOk_ite (memOk_endCmd h) (memOk_ite (memOk_ucalWrite h) (memOk_withHostData h (fun _ => memOk_ucalWrite h))))

theorem keepsForm_execUcalWrite {serial : Nat} {d : HostData} {s : State} : keepsForm s (execUcalWrite serial d s) :=
  keepsForm_next fun h => memOk_onFw h (fun _ _ ht => memOk_ucalCmd ht)

theorem keepsForm_execCalRead {serial : Nat} {s : State} : keepsForm s (execCalRead serial s) :=
  keepsForm_next fun h => memOk_onFw h (fun _ _ ht => memOk_wellFormed ht (memOk_answerHost ht))

theorem keepsForm_execBoardMakerCommand {serial : Nat} {status : BitVec 8} {detail : BitVec 16} {result : Word} {result2 : BitVec 16}
    {s : State} : keepsForm s (execBoardMakerCommand serial status detail result result2 s) :=
  keepsForm_next fun h => memOk_onFw h (fun _ _ ht => memOk_hostComplete ht)

theorem keepsForm_execRagdollRelease {serial : Nat} {s : State} : keepsForm s (execRagdollRelease serial s) :=
  keepsForm_next fun h => memOk_onFw h (fun _ _ ht => memOk_endCmd (memOk_ragdollRelease ht))

theorem memOk_imageVerify {d : HostData} {c : HostCmd} {s : State} (h : s.memOk) : (imageVerify d c s).memOk :=
  memOk_wellFormed h (memOk_withHostData h (fun _ => memOk_hostComplete h))

theorem keepsForm_execImageVerify {serial : Nat} {d : HostData} {s : State} : keepsForm s (execImageVerify serial d s) :=
  keepsForm_next fun h => memOk_onFw h (fun _ _ ht => memOk_imageVerify ht)

theorem keepsForm_execFlashRelease {serial : Nat} {s : State} : keepsForm s (execFlashRelease serial s) :=
  keepsForm_next fun h => memOk_onFw h (fun _ _ ht => memOk_endCmd (memOk_flashRelease ht))

theorem keepsForm_execSlotTrial {serial : Nat} {s : State} : keepsForm s (execSlotTrial serial s) :=
  keepsForm_next fun h => memOk_onFw h (fun _ _ ht => memOk_wellFormed ht (memOk_endCmd (memOk_slotTrial ht)))

theorem keepsForm_execBootStatus {serial : Nat} {s : State} : keepsForm s (execBootStatus serial s) :=
  keepsForm_next fun h => memOk_onFw h (fun _ _ ht => memOk_wellFormed ht (memOk_answerHost ht))

theorem memOk_debugChallenge {c : HostCmd} {s : State} (h : s.memOk) : (debugChallenge c s).memOk := memOk_wellFormed h (memOk_entAsk h)

theorem keepsForm_execDebugChallenge {serial : Nat} {s : State} : keepsForm s (execDebugChallenge serial s) :=
  keepsForm_next fun h => memOk_onFw h (fun _ _ ht => memOk_debugChallenge ht)

theorem memOk_debugResponse {d : HostData} {c : HostCmd} {s : State} (h : s.memOk) : (debugResponse d c s).memOk :=
  memOk_wellFormed h (memOk_withHostData h (fun _ => memOk_endCmd (memOk_judgeResponse h)))

theorem keepsForm_execDebugResponse {serial : Nat} {d : HostData} {s : State} : keepsForm s (execDebugResponse serial d s) :=
  keepsForm_next fun h => memOk_onFw h (fun _ _ ht => memOk_debugResponse ht)

theorem keepsForm_execMinverAdvance {serial : Nat} {s : State} : keepsForm s (execMinverAdvance serial s) :=
  keepsForm_next fun h => memOk_onFw h (fun _ _ ht => memOk_hostComplete (memOk_minverAdvance ht))

theorem memOk_fuseCmd {d : HostData} {verified : Bool} {c : HostCmd} {s : State} (h : s.memOk) : (fuseCmd d verified c s).memOk :=
  memOk_wellFormed h (memOk_withHostData h (fun _ => memOk_endCmd (memOk_fuseProgram h)))

theorem keepsForm_execFuseProgram {serial : Nat} {d : HostData} {verified : Bool} {s : State} :
    keepsForm s (execFuseProgram serial d verified s) :=
  keepsForm_next fun h => memOk_onFw h (fun _ _ ht => memOk_fuseCmd ht)

/-! ### Processors -/

theorem memOk_enterExc {s : State} {p : ProcId} {cause : Nat} {async : Bool} (h : s.memOk) : (enterExc s p cause async).memOk :=
  memOk_trcEmit (memOk_updK (memOk_upd h))

theorem memOk_doubleFault {s : State} {p : ProcId} (h : s.memOk) : (doubleFault s p).memOk := by
  unfold doubleFault
  split
  · exact memOk_retireEngine h
  · exact memOk_resetEntry (memOk_updK h)

theorem memOk_raise {s : State} {p : ProcId} {cause : Nat} (h : s.memOk) : (raise s p cause).memOk :=
  memOk_ite (memOk_doubleFault h) (memOk_enterExc h)

theorem memOk_takeAsync {s : State} {p : ProcId} {cause : Nat} (h : s.memOk) : (takeAsync s p cause).memOk :=
  memOk_ite (memOk_update (memOk_enterExc h)) (memOk_enterExc h)

theorem memOk_mpuRecord {s : State} {a : Nat} {info : Word} (h : s.memOk) : (mpuRecord s a info).memOk := h

theorem memOk_cmpActs {s : State} {p : ProcId} {o : Seen} {l : List Nat} (h : s.memOk) : (cmpActs s p o l).memOk := by
  induction l generalizing s with
  | nil => exact h
  | cons i l ih => exact ih (memOk_when (memOk_when h memOk_stringPulse) memOk_trcEmit)

theorem memOk_cmpSee {s : State} {p : ProcId} {o : Seen} (h : s.memOk) : (cmpSee s p o).2.memOk := memOk_snd (memOk_cmpActs h)

theorem memOk_predUpdate {s : State} {p : ProcId} {target : Word} {taken predicted : Bool} (h : s.memOk) :
    (predUpdate s p target taken predicted).memOk :=
  memOk_updK h

/-! ### Gurno instructions -/

theorem memOk_charge {s : State} {p : ProcId} {n : Nat} (h : s.memOk) : (charge s p n).memOk := by
  unfold charge
  split
  · exact memOk_upd h
  · exact h

theorem memOk_correctLim {s : State} {p : ProcId} {words : List Nat} (h : s.memOk) : (correctLim s p words).memOk :=
  memOk_ite h (memOk_update (memOk_updK h))

theorem memOk_fetched {s : State} {p : ProcId} {words : Fin 64 → List Nat} (h : s.memOk) : (fetched s p words).memOk := by
  unfold fetched
  split
  · exact memOk_ite (memOk_retireEngine h) (memOk_correctLim h)
  · exact h

theorem memOk_squashed {s : State} {p : ProcId} {pc : Word} {k : Nat} (h : s.memOk) : (squashed s p pc k).memOk := memOk_fetched h
theorem memOk_noted {s : State} {p : ProcId} {op : GOp} {e : Enc} {on : Bool} (h : s.memOk) : (noted s p op e on).memOk := memOk_updK h

theorem memOk_raiseAt {s : State} {p : ProcId} {e : Enc} {cost cause : Nat} (h : s.memOk) : (raiseAt s p e cost cause).memOk :=
  memOk_squashed (memOk_raise (memOk_charge h))

theorem memOk_complete {s : State} {p : ProcId} {e : Enc} {cost : Nat} {r : Proc} (h : s.memOk) : (complete s p e cost r).memOk :=
  memOk_charge (memOk_upd (memOk_updK h))

theorem memOk_ldmCorrect {s : State} {n w : Nat} (h : s.memOk) : (ldmCorrect s n w).memOk := memOk_ite (memOk_update (memOk_setLe h)) h

theorem memOk_ldmRead {s : State} {n a size : Nat} (h : s.memOk) : (ldmRead s n a size).2.memOk :=
  memOk_ite_snd (memOk_snd (memOk_retireEngine h)) (memOk_snd (memOk_ite (memOk_ldmCorrect (memOk_ldmCorrect h)) (memOk_ldmCorrect h)))

theorem memOk_refuseAccess {s : State} {p : ProcId} {e : Enc} {cost a : Nat} {info : Option Word} (h : s.memOk) :
    (refuseAccess s p e cost a info).memOk := by
  unfold refuseAccess
  split
  · exact memOk_raiseAt (memOk_mpuRecord h)
  · exact memOk_raiseAt h

theorem memOk_secondOperand {s : State} {p : ProcId} {op : GOp} {e : Enc} {cost : Nat} {outside : HostData} (h : s.memOk) :
    (secondOperand s p op e cost outside).2.memOk := by
  unfold secondOperand
  refine memOk_ite_snd ?_ h
  split
  next n =>
    have hr := memOk_ldmRead (n := n.val) (a := (s.cpu (.le n)).r.y.toNat) (size := 4) h
    generalize ldmRead s n.val (s.cpu (.le n)).r.y.toNat 4 = r at hr ⊢
    obtain ⟨_ | _, s1⟩ := r <;> exact hr
  next =>
    have hr := memOk_busRead (i := cpuInit s p) (part := (s.cpu p).r.part) (a := (s.cpu p).r.y.toNat) (size := 4) (d := outside) h
    generalize busRead s (cpuInit s p) (s.cpu p).r.part (s.cpu p).r.y.toNat 4 outside = r at hr ⊢
    obtain ⟨_ | _ | _ | _ | _, s1⟩ := r
    · exact hr
    · exact memOk_raiseAt hr
    · exact memOk_raiseAt hr
    · exact memOk_raiseAt hr
    · exact hr

theorem memOk_loaded {s : State} {p : ProcId} {op : GOp} {e : Enc} {a : Word} {v cost : Nat} {m : Word} {writeHalf : State → State}
    (h : s.memOk) (hwriteHalf : ∀ y0, y0.memOk → (writeHalf y0).memOk) : (loaded s p op e a v cost m writeHalf).memOk :=
  memOk_ite (memOk_raiseAt (memOk_cmpSee h)) (memOk_complete (hwriteHalf _ (memOk_cmpSee h)))

theorem memOk_hold {s : State} {p : ProcId} {op : GOp} {e : Enc} {why : StallWhy} (h : s.memOk) : (hold s p op e why).memOk := memOk_updK h

theorem memOk_ldmWrite {s t : State} {n a size : Nat} {v : Word} (h : s.memOk) (ht : ldmWrite s n a size v = some t) : t.memOk := by
  unfold ldmWrite at ht
  split at ht
  · cases ht; exact memOk_update (memOk_wr h)
  · have hr := memOk_ldmRead (n := n) (a := a) (size := size) h
    generalize ldmRead s n a size = r at hr ht
    obtain ⟨_ | _, s1⟩ := r
    · cases ht
    · cases ht; exact memOk_wr hr

theorem memOk_ldmWrite_getD {s : State} {n a size : Nat} {v : Word} (h : s.memOk) : ((ldmWrite s n a size v).getD s).memOk := by
  cases ht : ldmWrite s n a size v with
  | none => exact h
  | some t => exact memOk_ldmWrite h ht

theorem memOk_loadOwn {s : State} {n : Fin 64} {op : GOp} {e : Enc} {a : Word} {cost size : Nat} (h : s.memOk) :
    (match ldmRead s n.val a.toNat size with
     | (none, s1) => s1
     | (some v, s1) =>
       (match secondOperand s1 (.le n) op e cost .error with
        | (none, s2) => s2
        | (some m, s2) =>
          loaded s2 (.le n) op e a v cost m (fun t =>
            if op = GOp.xch then (ldmWrite t n.val a.toNat 4 (t.cpu (.le n)).r.a).getD t else t))).memOk := by
  have hr := memOk_ldmRead (n := n.val) (a := a.toNat) (size := size) h
  generalize ldmRead s n.val a.toNat size = r at hr ⊢
  obtain ⟨_ | v, s1⟩ := r
  · exact hr
  · have hs := memOk_secondOperand (s := s1) (p := .le n) (op := op) (e := e) (cost := cost) (outside := .error) hr
    dsimp only
    generalize secondOperand s1 (.le n) op e cost .error = q at hs ⊢
    obtain ⟨_ | m, s2⟩ := q
    · exact hs
    · exact memOk_loaded hs fun _ ht => memOk_ite (memOk_ldmWrite_getD ht) ht

theorem memOk_loadFrom {s : State} {p : ProcId} {op : GOp} {e : Enc} {a : Word} {cost : Nat} (h : s.memOk) :
    (loadFrom s p op e a cost).memOk := by
  unfold loadFrom
  extract_lets size y
  split
  · exact memOk_refuseAccess h
  · refine memOk_ite (memOk_raiseAt h) (memOk_ite (memOk_raiseAt h) (memOk_ite (memOk_raiseAt h) ?_))
    split
    · exact memOk_loadOwn h
    · exact memOk_hold (memOk_charge h)

theorem memOk_loadSig {s : State} {p : ProcId} {op : GOp} {e : Enc} {slot cost : Nat} (h : s.memOk) : (loadSig s p op e slot cost).memOk :=
  memOk_ite (memOk_raiseAt h) (memOk_ite (memOk_raiseAt h) (memOk_ite (memOk_raiseAt h) (by
      split
      · split; exacts [memOk_refuseAccess h, memOk_hold (memOk_charge h)]
      · exact memOk_hold (memOk_charge h))))

theorem memOk_execValue {s : State} {p : ProcId} {op : GOp} {e : Enc} {cost : Nat} (h : s.memOk) : (execValue s p op e cost).memOk := by
  unfold execValue
  split
  · exact memOk_complete h
  · exact memOk_loadFrom h
  · exact memOk_loadSig h

theorem memOk_storeBuffered {s : State} {p : ProcId} {op : GOp} {e : Enc} {a : Nat} {kind : StoreKind} {cost : Nat} (h : s.memOk) :
    (storeBuffered s p op e a kind cost).memOk :=
  memOk_ite (memOk_complete (memOk_updK h)) (memOk_hold (memOk_charge h))

theorem memOk_execStore {s : State} {p : ProcId} {op : GOp} {e : Enc} {cost : Nat} (h : s.memOk) : (execStore s p op e cost).memOk := by
  unfold execStore
  extract_lets size d
  split
  · exact memOk_raiseAt h
  · split
    · exact memOk_refuseAccess h
    · refine memOk_ite (memOk_raiseAt h) (memOk_ite (memOk_raiseAt (memOk_cmpSee h)) ?_)
      split
      · split
        · exact memOk_retireEngine (memOk_cmpSee h)
        next s2 hs2 => exact memOk_complete (memOk_ldmWrite (memOk_cmpSee h) hs2)
      · exact memOk_storeBuffered (memOk_cmpSee h)
  · refine memOk_ite (memOk_raiseAt h) ?_
    split
    · exact memOk_refuseAccess h
    · exact memOk_ite (memOk_raiseAt (memOk_cmpSee h)) (memOk_storeBuffered (memOk_cmpSee h))

theorem memOk_traceFlow {s : State} {p : ProcId} {target : Word} (h : s.memOk) : (traceFlow s p target).memOk :=
  memOk_ite (memOk_trcEmit h) h

theorem memOk_jump {s : State} {p : ProcId} {cost : Nat} {r : Proc} {target : Word} (h : s.memOk) : (jump s p cost r target).memOk :=
  memOk_charge (memOk_upd h)

theorem memOk_doBr {s : State} {p : ProcId} {e : Enc} {cost : Nat} (h : s.memOk) : (doBr s p e cost).memOk :=
  memOk_ite (memOk_fetched (memOk_traceFlow (memOk_jump (memOk_ite (memOk_predUpdate h) h))))
    (memOk_squashed (memOk_traceFlow (memOk_jump (memOk_ite (memOk_predUpdate h) h))))

theorem memOk_doCall {s : State} {p : ProcId} {e : Enc} {cost : Nat} (h : s.memOk) : (doCall s p e cost).memOk :=
  memOk_ite (memOk_raiseAt h) (memOk_squashed (memOk_traceFlow (memOk_jump h)))

theorem memOk_doRet {s : State} {p : ProcId} {e : Enc} {cost : Nat} (h : s.memOk) : (doRet s p e cost).memOk :=
  memOk_ite (memOk_raiseAt h) (memOk_squashed (memOk_traceFlow (memOk_jump h)))

theorem memOk_doLoop {s : State} {p : ProcId} {e : Enc} {cost : Nat} (h : s.memOk) : (doLoop s p e cost).memOk :=
  memOk_ite (by split <;> exact memOk_complete h) (memOk_ite (memOk_squashed (memOk_jump h)) (by
      split
      · exact memOk_raiseAt h
      · exact memOk_complete h))

theorem memOk_execSys {s : State} {p : ProcId} {e : Enc} {cost : Nat} (h : s.memOk) : (execSys s p e cost).memOk :=
  memOk_squashed (memOk_updK (memOk_jump h))

theorem memOk_followMode {s : State} {p : ProcId} (h : s.memOk) : (followMode s p).memOk := memOk_updK h

theorem memOk_execSretOp {s : State} {p : ProcId} {cost : Nat} (h : s.memOk) : (execSretOp s p cost).memOk :=
  memOk_squashed (memOk_followMode (memOk_jump h))

theorem memOk_execEretOp {s : State} {p : ProcId} {cost : Nat} (h : s.memOk) : (execEretOp s p cost).memOk :=
  memOk_squashed (memOk_followMode (memOk_jump h))

theorem memOk_execYieldOp {s : State} {p : ProcId} {cost : Nat} (h : s.memOk) : (execYieldOp s p cost).memOk :=
  memOk_squashed (memOk_updK (memOk_charge h))

theorem memOk_execWaitOp {s : State} {p : ProcId} {e : Enc} {cost : Nat} (h : s.memOk) : (execWaitOp s p e cost).memOk :=
  memOk_updK (memOk_complete h)

theorem memOk_execFenceOp {s : State} {p : ProcId} {e : Enc} {cost : Nat} (h : s.memOk) : (execFenceOp s p e cost).memOk :=
  memOk_ite (memOk_complete h) (memOk_hold (memOk_charge h))

theorem memOk_execMfsOp {s : State} {p : ProcId} {e : Enc} {cost : Nat} (h : s.memOk) : (execMfsOp s p e cost).memOk :=
  memOk_complete (memOk_ite (memOk_draw h) h)

theorem memOk_execMtsOp {s : State} {p : ProcId} {e : Enc} {cost : Nat} (h : s.memOk) : (execMtsOp s p e cost).memOk :=
  memOk_complete (memOk_ite h h)

theorem memOk_execOp {s : State} {p : ProcId} {op : GOp} {e : Enc} {cost : Nat} (h : s.memOk) : (execOp s p op e cost).memOk := by
  unfold execOp
  split
  · exact memOk_execStore h
  · exact memOk_execStore h
  · exact memOk_execStore h
  · exact memOk_execStore h
  · exact memOk_execStore h
  · exact memOk_complete h
  · exact memOk_complete h
  · exact memOk_complete h
  · exact memOk_complete h
  · exact memOk_complete h
  · exact memOk_complete h
  · exact memOk_complete h
  · exact memOk_complete h
  · exact memOk_doBr h
  · exact memOk_doCall h
  · exact memOk_doRet h
  · exact memOk_doLoop h
  · exact memOk_execSys h
  · exact memOk_execSretOp h
  · exact memOk_execEretOp h
  · exact memOk_complete h
  · exact memOk_execYieldOp h
  · exact memOk_execWaitOp h
  · exact memOk_execFenceOp h
  · exact memOk_execMfsOp h
  · exact memOk_execMtsOp h
  · exact memOk_execValue h

theorem memOk_fetchCorrect {s : State} {p : ProcId} {e : Enc} (h : s.memOk) : (fetchCorrect s p e).memOk := by
  unfold fetchCorrect
  split
  · exact memOk_correctLim h
  · exact h

theorem memOk_predicatedOff {s : State} {p : ProcId} {op : GOp} {e : Enc} {waited : Nat} (h : s.memOk) :
    (predicatedOff s p op e waited).memOk :=
  memOk_ite (memOk_ite (memOk_complete (memOk_predUpdate h)) (memOk_fetched (memOk_complete (memOk_predUpdate h)))) (memOk_complete h)

theorem memOk_executed {s : State} {p : ProcId} {op : GOp} {e : Enc} {cost : Nat} (h : s.memOk) : (executed s p op e cost).memOk :=
  memOk_ite (memOk_raiseAt h) (memOk_ite (memOk_raiseAt h) (memOk_ite (memOk_raiseAt (memOk_cmpSee h)) (memOk_execOp (memOk_cmpSee h))))

theorem memOk_interrupted {s : State} {p : ProcId} {cause : Nat} (h : s.memOk) : (interrupted s p cause).memOk :=
  memOk_squashed (memOk_takeAsync h)

theorem memOk_gurno {op : GOp} {g : Issue} {s : State} (h : s.memOk) : (gurno op g s).memOk :=
  memOk_ite h (by
      split
      · exact memOk_interrupted h
      · split; exacts [memOk_raise (memOk_charge h), memOk_raise (memOk_mpuRecord h), memOk_retireEngine h, memOk_ite
            (memOk_executed (memOk_noted (memOk_fetchCorrect h))) (memOk_predicatedOff (memOk_noted (memOk_fetchCorrect h)))])

theorem memOk_xchWrite {s : State} {p : ProcId} {a : Nat} (h : s.memOk) : (xchWrite s p a).memOk :=
  memOk_ite (memOk_countReg h) (memOk_define (memOk_store h))

theorem memOk_xchRead {s : State} {i : Init} {part a : Nat} (h : s.memOk) : (xchRead s i part a).2.memOk := by
  unfold xchRead
  extract_lets serve
  have hserve : ∀ t g, t.memOk → (serve t g).2.memOk := by
    intro t g ht
    have he := memOk_eccRead (g := g) (a := a) (n := 4) ht
    unfold serve
    generalize eccRead t g a 4 = r at he ⊢
    obtain ⟨_ | _, t1⟩ := r <;> exact he
  have ha := memOk_access (i := i) (part := part) (write := false) (a := a) (n := 4) h hserve
  generalize access s i part false a 4 serve = r at ha ⊢
  obtain ⟨_ | _ | _ | _, s1⟩ := r <;> exact ha

theorem memOk_waits {s : State} {a : Nat} {h' : HeldAcc} (h : s.memOk) : (waits s a h').memOk := memOk_ite h h

theorem memOk_loadAnswered {s1 : State} {p : ProcId} {op : GOp} {e : Enc} {a v : Nat} {outside : HostData} (h : s1.memOk) :
    (match secondOperand s1 p op e 0 outside with
     | (none, s2) => s2
     | (some m, s2) => loaded s2 p op e (word a) v 0 m (fun t => if op = GOp.xch then xchWrite t p a else t)).memOk := by
  have hs := memOk_secondOperand (p := p) (op := op) (e := e) (cost := 0) (outside := outside) h
  generalize secondOperand s1 p op e 0 outside = q at hs ⊢
  obtain ⟨_ | m, s2⟩ := q
  · exact hs
  · exact memOk_loaded hs fun _ ht => memOk_ite (memOk_xchWrite ht) ht

theorem memOk_loadResponse {s : State} {p : ProcId} {outside : HostData} (h : s.memOk) : (loadResponse s p outside).memOk := by
  unfold loadResponse
  extract_lets c
  split
  next op e _ =>
    dsimp only
    refine memOk_ite h ?_
    have hanswer : ∀ res : BusRes × State, res.2.memOk → State.memOk (match res with
      | (.ok v, s1) =>
        (match secondOperand s1 p op e 0 outside with
         | (none, s2) => s2
         | (some m, s2) => loaded s2 p op e (word (heldRange p c.r op e).1) v 0 m (fun t => if op = GOp.xch then xchWrite t p
             (heldRange p c.r op e).1 else t))
      | (.err, s1) => raiseAt s1 p e 0 4
      | (.ecc, s1) => raiseAt s1 p e 0 0xC
      | (.signal, s1) => raiseAt s1 p e 0 6
      | (.held, s1) => waits s1 (heldRange p c.r op e).1 (.load p (heldRange p c.r op e).1)) := by
      rintro ⟨_ | _ | _ | _ | _, s1⟩ hres
      · exact memOk_loadAnswered hres
      · exact memOk_raiseAt hres
      · exact memOk_raiseAt hres
      · exact memOk_raiseAt hres
      · exact memOk_waits hres
    refine hanswer _ ?_
    split
    · exact memOk_sigAccess h
    · exact memOk_ite_snd (memOk_busErr h) (memOk_ite_snd (memOk_xchRead h) (memOk_busRead h))
  next => exact h

theorem memOk_lateStoreError {s : State} {p : ProcId} {b : StoreEntry} {kind : Nat} (h : s.memOk) : (lateStoreError s p b kind).memOk :=
  memOk_ite (memOk_upd (memOk_updK h)) (memOk_evcEvent (memOk_upd (memOk_updK h)))

theorem memOk_releaseStall {s : State} {p : ProcId} (h : s.memOk) : (releaseStall s p).memOk := by
  unfold releaseStall
  dsimp only
  split
  · split; exacts [memOk_storeBuffered (memOk_updK h), memOk_storeBuffered (memOk_updK h), memOk_updK h]
  · exact memOk_ite (memOk_complete h) h
  · exact h

theorem memOk_dropEntry {s : State} {p : ProcId} {k : Nat} (h : s.memOk) : (dropEntry s p k).memOk := memOk_updK h

theorem memOk_storeResponse {s : State} {p : ProcId} {k : Nat} (h : s.memOk) : (storeResponse s p k).memOk := by
  unfold storeResponse
  split
  next b _ =>
    refine memOk_ite h ?_
    have hb := memOk_busStore (i := .cpu p (!b.task)) (b := b) h
    generalize busStore s (.cpu p (!b.task)) b = r at hb ⊢
    obtain ⟨_ | kind, s1⟩ := r
    · exact memOk_waits hb
    · exact memOk_releaseStall (memOk_unless (memOk_dropEntry hb) memOk_lateStoreError)
  next => exact h

theorem memOk_storeError {s : State} {p : ProcId} {k kind : Nat} (h : s.memOk) : (storeError s p k kind).memOk := by
  unfold storeError
  split
  · exact memOk_releaseStall (memOk_lateStoreError (memOk_dropEntry (memOk_busErr (by
        split
        · exact memOk_ite (memOk_countUncorr h) h
        · exact h))))
  · exact h

/-! ### Gurno responses -/

theorem keepsForm_execWaitTimeout {p : ProcId} {s : State} : keepsForm s (execWaitTimeout p s) := by
  unfold execWaitTimeout
  split
  · exact keepsForm_next fun h => memOk_charge (memOk_updK h)
  · exact keepsForm_next id

theorem keepsForm_execLoadResponse {p : ProcId} {outside : HostData} {s : State} : keepsForm s (execLoadResponse p outside s) :=
  keepsForm_next memOk_loadResponse

theorem memOk_orphanResponse {s : State} {p : ProcId} {k : Nat} (h : s.memOk) : (orphanResponse s p k).memOk := by
  unfold orphanResponse
  extract_lets mine
  split
  next o _ =>
    refine memOk_ite h ?_
    have hb := memOk_busStore (s := { s with orphans := s.orphans.erase o }) (i := .cpu p (!o.2.task)) (b := o.2) h
    generalize busStore { s with orphans := s.orphans.erase o } (.cpu p (!o.2.task)) o.2 = r at hb ⊢
    obtain ⟨_ | kind, s1⟩ := r <;> exact hb
  next => exact h

theorem keepsForm_execStoreResponse {p : ProcId} {k : Fin 4} {s : State} : keepsForm s (execStoreResponse p k s) :=
  keepsForm_ite (keepsForm_next memOk_orphanResponse) (keepsForm_next memOk_storeResponse)

theorem keepsForm_execLateStoreError {p : ProcId} {k kind : Fin 4} {s : State} : keepsForm s (execLateStoreError p k kind s) :=
  keepsForm_next memOk_storeError

theorem memOk_waitEnded {s : State} {p : ProcId} (h : s.memOk) : (waitEnded s p).memOk := by
  unfold waitEnded
  split
  · exact memOk_charge (memOk_draw h)
  · exact h

theorem keepsForm_execLse {p : ProcId} {s : State} : keepsForm s (execLse p s) :=
  keepsForm_ite (keepsForm_next fun h => memOk_interrupted (memOk_waitEnded h)) (keepsForm_next id)

/-! ### Host bus -/

theorem memOk_putCfg {s : State} {f : HostCfg → HostCfg} (h : s.memOk) : (putCfg s f).memOk := h
theorem memOk_sendAllPending {s : State} (h : s.memOk) : (sendAllPending s).memOk := memOk_eachNat (fun _ _ ht => memOk_sendPending ht) h

theorem memOk_cfgWrite {s : State} {i : CfgItem} {v : Word} (h : s.memOk) : (cfgWrite s i v).memOk := by
  unfold cfgWrite
  split
  · exact memOk_putCfg h
  · exact memOk_putCfg h
  · exact memOk_ite h (memOk_ite (memOk_sendAllPending h) h)
  · exact memOk_putCfg h
  · exact memOk_sendAllPending (memOk_update (memOk_putCfg h))
  · exact h
  · exact h
  · exact h
  · exact h
  · exact h
  · exact h
  · exact h
  · exact h
  · exact h
  · exact h
  · exact h
  · exact h

theorem memOk_bar4Write {s : State} {ofs : Nat} {v : Word} (h : s.memOk) : (bar4Write s ofs v).memOk :=
  memOk_ite (by split; exacts [memOk_setVec h, memOk_setVec h, memOk_setVec h, memOk_sendPending (memOk_setVec h)]) h

theorem memOk_hostRead {s : State} {x : HostAcc} {ofs : Nat} (h : s.memOk) : (hostRead s x ofs).2.memOk := by
  unfold hostRead
  split
  · exact memOk_ite_snd h (memOk_snd (memOk_countReg h))
  · exact memOk_ite_snd h (memOk_snd (memOk_countReg h))
  · exact h
  · exact h

theorem memOk_hostWrite {s : State} {x : HostAcc} {ofs : Nat} {v : Word} (h : s.memOk) : (hostWrite s x ofs v).memOk := by
  unfold hostWrite
  split
  · exact memOk_ite (memOk_countReg h) (memOk_ite (memOk_bar0Write h) h)
  · exact memOk_ite (memOk_countReg h) (memOk_ite (memOk_ringDoorbell h) h)
  · exact memOk_ite (memOk_bar4Write h) h
  · exact memOk_cfgWrite h

theorem memOk_hostAccess {s : State} {x : HostAcc} {ofs : Nat} {v : Word} (h : s.memOk) : (hostAccess s x ofs v).memOk :=
  memOk_ite h (memOk_ite (memOk_update (memOk_hostRead h)) (memOk_hostWrite h))

/-! ### Commands of the Management Core -/

theorem keepsForm_execInterrupt {p : ProcId} {s : State} : keepsForm s (execInterrupt p s) :=
  keepsForm_ite (keepsForm_next memOk_takeAsync) (keepsForm_next id)

theorem keepsForm_execNmi {s : State} : keepsForm s (execNmi s) := keepsForm_ite (keepsForm_next memOk_takeAsync) (keepsForm_next id)
theorem memOk_lockstepReset {s : State} (h : s.memOk) : (lockstepReset s).memOk := h
theorem memOk_lockstepCount {s : State} (h : s.memOk) : (lockstepCount s).memOk := h
theorem memOk_lockstepNmi {s : State} (h : s.memOk) : (lockstepNmi s).memOk := memOk_upd (memOk_takeAsync (memOk_raiseNmi h))
theorem memOk_lockstepStop {s : State} (h : s.memOk) : (lockstepStop s).memOk := memOk_resetEntry h

theorem keepsForm_execLockstepMismatch {s : State} : keepsForm s (execLockstepMismatch s) :=
  keepsForm_ite (keepsForm_next id) (keepsForm_ite (keepsForm_next memOk_lockstepStop) (keepsForm_next fun h => memOk_lockstepNmi
    (memOk_lockstepCount (memOk_lockstepReset h))))

theorem memOk_regAccess {s : State} {i : Init} {w : Writer} {a : Nat} {v : Word} (h : s.memOk) : (regAccess s i w a v).memOk := by
  have hw := memOk_fabWrite (i := i) (part := writerPart s w) (a := a) (l := leBytes 4 v.toNat) h
  unfold regAccess
  generalize fabWrite s i (writerPart s w) a (leBytes 4 v.toNat) = r at hw ⊢
  obtain ⟨_ | _ | _ | _, s1⟩ := r
  · exact hw
  · exact hw
  · exact hw
  · exact memOk_holdAccess hw

theorem keepsForm_execRegisterWrite {w : Writer} {a v : Word} {s : State} : keepsForm s (execRegisterWrite w a v s) := by
  unfold execRegisterWrite
  split
  · exact keepsForm_next memOk_hostAccess
  · exact keepsForm_ite (keepsForm_next memOk_regAccess) (keepsForm_next id)
  · exact keepsForm_ite (keepsForm_next memOk_regAccess) (keepsForm_next id)
  · exact keepsForm_ite (keepsForm_next memOk_regAccess) (keepsForm_next id)

theorem memOk_setDp {s : State} {status a : Nat} {v : Word} (h : s.memOk) : (setDp s status a v).memOk := h

theorem memOk_dpAccess {s : State} {op a : Nat} {v : Word} {d : HostData} (h : s.memOk) : (dpAccess s op a v d).memOk := by
  have hr := memOk_fabRead (i := .dbg) (part := 0) (a := a) (n := 4) (d := d) h
  have hw := memOk_fabWrite (i := .dbg) (part := 0) (a := a) (l := leBytes 4 v.toNat) h
  unfold dpAccess
  generalize fabRead s .dbg 0 a 4 d = r at hr ⊢
  generalize fabWrite s .dbg 0 a (leBytes 4 v.toNat) = w at hw ⊢
  refine memOk_ite (memOk_setDp h) (memOk_ite ?_ ?_)
  · obtain ⟨_ | _ | _ | _, s1⟩ := r
    · exact memOk_setDp hr
    · exact memOk_setDp hr
    · exact memOk_setDp hr
    · exact memOk_holdAccess (memOk_setDp hr)
  · obtain ⟨_ | _ | _ | _, s1⟩ := w
    · exact memOk_setDp hw
    · exact memOk_setDp hw
    · exact memOk_setDp hw
    · exact memOk_holdAccess (memOk_setDp hw)

theorem memOk_dpAgain {s : State} {d : HostData} (h : s.memOk) : (dpAgain s d).memOk := by
  unfold dpAgain
  split
  · exact memOk_dpAccess h
  · exact memOk_setDp h

theorem memOk_dpShift {s : State} {op a : Nat} {v : Word} {d : HostData} (h : s.memOk) : (dpShift s op a v d).memOk :=
  memOk_ite (memOk_ite (memOk_dpAgain h) h) (memOk_dpAccess (memOk_ite (memOk_dpAgain h) h))

theorem keepsForm_execDpacc {op : TapScan} {a v : Word} {d : HostData} {s : State} : keepsForm s (execDpacc op a v d s) := by
  unfold execDpacc
  split
  · exact keepsForm_next fun h => memOk_updateCells (memOk_tapSelect h)
  · exact keepsForm_ite (keepsForm_next memOk_selectTap) (keepsForm_ite (keepsForm_next fun h => memOk_dpShift (memOk_selectTap h))
        (keepsForm_next memOk_selectTap))

theorem memOk_serveReg {s : State} {w : Writer} {read : Bool} {a : Nat} {v : Word} (h : s.memOk) : (serveReg s w read a v).memOk := by
  unfold serveReg
  split
  · exact memOk_dpAccess h
  · exact memOk_hostAccess h
  · exact memOk_ite (memOk_update (memOk_regRead h)) (memOk_regWrite h)

theorem memOk_serveOne {s : State} {h' : HeldAcc} (h : s.memOk) : (serveOne s h').memOk := by
  unfold serveOne
  split
  · exact memOk_serveReg h
  · split; exacts [memOk_ite (memOk_loadResponse h) h, h]
  · split; exacts [memOk_storeResponse h, h]
  · split; exacts [memOk_ite (memOk_runHost h) h, h]

theorem memOk_serveHeld {s : State} {d : Nat} {l : List HeldAcc} (h : s.memOk) : (serveHeld s d l).memOk := by
  induction l generalizing s with
  | nil => exact h
  | cons x l ih => exact memOk_ite (ih (memOk_serveOne h)) (ih (memOk_update h))

theorem keepsForm_execDomainOnEnd {d : Fin 8} {s : State} : keepsForm s (execDomainOnEnd d s) :=
  keepsForm_ite (keepsForm_next fun h => memOk_stbyNext (memOk_serveHeld (memOk_update (memOk_domainUp h)))) (keepsForm_next id)

/-! ### Idle steps -/

theorem memOk_tbCount {s : State} (h : s.memOk) : (tbCount s).memOk := h
theorem memOk_cycOutTick {s : State} (h : s.memOk) : (cycOutTick s).memOk := memOk_ite h h

theorem memOk_idle {s : State} (h : s.memOk) : (idle s).memOk := by
  unfold idle
  split
  · exact memOk_rtcPeriod h
  · exact memOk_tbCount (memOk_rtcTick h)
  · exact memOk_trcServe (memOk_tickTimers (memOk_cycOutTick (memOk_tbCount (memOk_rtcTick h))))

/-! ### The statements -/

theorem keepsForm_exec (i : Instr) (s : State) : keepsForm s (exec i s) := by
  cases i with
  | ld _ => exact keepsForm_next memOk_gurno
  | st _ => exact keepsForm_next memOk_gurno
  | ldx _ => exact keepsForm_next memOk_gurno
  | stx _ => exact keepsForm_next memOk_gurno
  | ldy _ => exact keepsForm_next memOk_gurno
  | sty _ => exact keepsForm_next memOk_gurno
  | ldh _ => exact keepsForm_next memOk_gurno
  | ldb _ => exact keepsForm_next memOk_gurno
  | sth _ => exact keepsForm_next memOk_gurno
  | stb _ => exact keepsForm_next memOk_gurno
  | leax _ => exact keepsForm_next memOk_gurno
  | leay _ => exact keepsForm_next memOk_gurno
  | mov _ => exact keepsForm_next memOk_gurno
  | xch _ => exact keepsForm_next memOk_gurno
  | ldu _ => exact keepsForm_next memOk_gurno
  | add _ => exact keepsForm_next memOk_gurno
  | sub _ => exact keepsForm_next memOk_gurno
  | subr _ => exact keepsForm_next memOk_gurno
  | mul _ => exact keepsForm_next memOk_gurno
  | mulh _ => exact keepsForm_next memOk_gurno
  | and _ => exact keepsForm_next memOk_gurno
  | or _ => exact keepsForm_next memOk_gurno
  | xor _ => exact keepsForm_next memOk_gurno
  | shl _ => exact keepsForm_next memOk_gurno
  | shr _ => exact keepsForm_next memOk_gurno
  | sar _ => exact keepsForm_next memOk_gurno
  | min _ => exact keepsForm_next memOk_gurno
  | max _ => exact keepsForm_next memOk_gurno
  | addx _ => exact keepsForm_next memOk_gurno
  | addy _ => exact keepsForm_next memOk_gurno
  | fadd _ => exact keepsForm_next memOk_gurno
  | fsub _ => exact keepsForm_next memOk_gurno
  | fmul _ => exact keepsForm_next memOk_gurno
  | fdiv _ => exact keepsForm_next memOk_gurno
  | fmac _ => exact keepsForm_next memOk_gurno
  | fsubr _ => exact keepsForm_next memOk_gurno
  | fmin _ => exact keepsForm_next memOk_gurno
  | fmax _ => exact keepsForm_next memOk_gurno
  | clamp _ => exact keepsForm_next memOk_gurno
  | sat _ => exact keepsForm_next memOk_gurno
  | fabs _ => exact keepsForm_next memOk_gurno
  | fneg _ => exact keepsForm_next memOk_gurno
  | itof _ => exact keepsForm_next memOk_gurno
  | ftoi _ => exact keepsForm_next memOk_gurno
  | cmp _ => exact keepsForm_next memOk_gurno
  | fcmp _ => exact keepsForm_next memOk_gurno
  | tst _ => exact keepsForm_next memOk_gurno
  | pset _ => exact keepsForm_next memOk_gurno
  | pand _ => exact keepsForm_next memOk_gurno
  | por _ => exact keepsForm_next memOk_gurno
  | pnot _ => exact keepsForm_next memOk_gurno
  | br _ => exact keepsForm_next memOk_gurno
  | call _ => exact keepsForm_next memOk_gurno
  | ret _ => exact keepsForm_next memOk_gurno
  | loop _ => exact keepsForm_next memOk_gurno
  | sysc _ => exact keepsForm_next memOk_gurno
  | sret _ => exact keepsForm_next memOk_gurno
  | eret _ => exact keepsForm_next memOk_gurno
  | nop _ => exact keepsForm_next memOk_gurno
  | yield _ => exact keepsForm_next memOk_gurno
  | wait _ => exact keepsForm_next memOk_gurno
  | fence _ => exact keepsForm_next memOk_gurno
  | mfs _ => exact keepsForm_next memOk_gurno
  | mts _ => exact keepsForm_next memOk_gurno
  | waitTimeout _ => exact keepsForm_execWaitTimeout
  | loadResponse _ _ => exact keepsForm_execLoadResponse
  | storeResponse _ _ => exact keepsForm_execStoreResponse
  | lateStoreError _ _ _ => exact keepsForm_execLateStoreError
  | lse _ => exact keepsForm_execLse
  | interrupt _ => exact keepsForm_execInterrupt
  | nmi => exact keepsForm_execNmi
  | lockstepMismatch => exact keepsForm_execLockstepMismatch
  | boundaryLatch => exact keepsForm_execBoundaryLatch
  | soc => exact keepsForm_execSoc
  | firstSoc => exact keepsForm_execFirstSoc
  | sampleMark => exact keepsForm_execSampleMark
  | dispatchStart => exact keepsForm_execDispatchStart
  | inputCutoff => exact keepsForm_execInputCutoff
  | outDeadline => exact keepsForm_execOutDeadline
  | snapshotCopyEnd => exact keepsForm_execSnapshotCopyEnd
  | applyInstant => exact keepsForm_execApplyInstant
  | referenceEdge _ => exact keepsForm_execReferenceEdge
  | referenceLoss => exact keepsForm_execReferenceLoss
  | dispatch _ => exact keepsForm_execDispatch
  | steal => exact keepsForm_execSteal
  | engineReport _ => exact keepsForm_execEngineReport
  | budgetOverrun _ => exact keepsForm_execBudgetOverrun
  | engineClockGate _ => exact keepsForm_execEngineClockGate
  | timingSetCommit => exact keepsForm_execTimingSetCommit
  | cycleEnable => exact keepsForm_execCycleEnable
  | cycleDisable => exact keepsForm_execCycleDisable
  | cycModeReq _ _ _ => exact keepsForm_execCycModeReq
  | cycCntClr => exact keepsForm_execCycCntClr
  | cycSocTbLoRead => exact keepsForm_execCycSocTbLoRead
  | select => exact keepsForm_execSelect
  | cfgCommit => exact keepsForm_execCfgCommit
  | cfgAbort => exact keepsForm_execCfgAbort
  | dprRetire _ => exact keepsForm_execDprRetire
  | dprQuarRel _ _ => exact keepsForm_execDprQuarRel
  | dprCntClr => exact keepsForm_execDprCntClr
  | dprLewinClr _ _ => exact keepsForm_execDprLewinClr
  | dprCsmEccClr _ => exact keepsForm_execDprCsmEccClr
  | dprPlanLoad => exact keepsForm_execDprPlanLoad
  | dprPlanCommit => exact keepsForm_execDprPlanCommit
  | dprPlanAbort => exact keepsForm_execDprPlanAbort
  | planLoadEnd _ => exact keepsForm_execPlanLoadEnd
  | doorbell _ _ => exact keepsForm_execDoorbell
  | descriptorFetch _ => exact keepsForm_execDescriptorFetch
  | ringEnable _ _ => exact keepsForm_execRingEnable
  | ringDisable _ _ => exact keepsForm_execRingDisable
  | windowValid _ _ _ => exact keepsForm_execWindowValid
  | windowClearEnd _ _ => exact keepsForm_execWindowClearEnd
  | partStaged _ _ _ => exact keepsForm_execPartStaged
  | eventDelivery _ => exact keepsForm_execEventDelivery
  | msixMessage _ => exact keepsForm_execMsixMessage
  | msixUnmask _ _ => exact keepsForm_execMsixUnmask
  | pcieReset => exact keepsForm_execPcieReset
  | dataLinkChange _ _ _ => exact keepsForm_execDataLinkChange
  | fwCommandTimeout _ => exact keepsForm_execFwCommandTimeout
  | hifFwqPop => exact keepsForm_execHifFwqPop
  | hifFwCpl _ => exact keepsForm_execHifFwCpl
  | hifHostMsg _ => exact keepsForm_execHifHostMsg
  | hifCounterClear _ => exact keepsForm_execHifCounterClear
  | hostNop _ => exact keepsForm_execHostNop
  | sigRead _ => exact keepsForm_execSigRead
  | sigWrite _ _ => exact keepsForm_execSigWrite
  | paramRead _ _ => exact keepsForm_execParamRead
  | paramWrite _ _ => exact keepsForm_execParamWrite
  | snapshot _ => exact keepsForm_execSnapshot
  | trendSet _ _ => exact keepsForm_execTrendSet
  | planLoad _ => exact keepsForm_execPlanLoad
  | planCommit _ => exact keepsForm_execPlanCommit
  | planAbort _ => exact keepsForm_execPlanAbort
  | planStatus _ => exact keepsForm_execPlanStatus
  | modeSet _ => exact keepsForm_execModeSet
  | modeQuery _ => exact keepsForm_execModeQuery
  | acySubmit _ _ => exact keepsForm_execAcySubmit
  | acyCancel _ => exact keepsForm_execAcyCancel
  | stationResume _ _ => exact keepsForm_execStationResume
  | linkStatus _ => exact keepsForm_execLinkStatus
  | patTest _ => exact keepsForm_execPatTest
  | nvRead _ => exact keepsForm_execNvRead
  | nvWrite _ _ => exact keepsForm_execNvWrite
  | cfgStatus _ => exact keepsForm_execCfgStatus
  | cfgRead _ => exact keepsForm_execCfgRead
  | cfgWrite _ _ => exact keepsForm_execCfgWrite
  | costumeWrite _ _ => exact keepsForm_execCostumeWrite
  | ucalWrite _ _ => exact keepsForm_execUcalWrite
  | calRead _ => exact keepsForm_execCalRead
  | healthQuery _ => exact keepsForm_execHealthQuery
  | marginReport _ => exact keepsForm_execMarginReport
  | random _ => exact keepsForm_execRandom
  | timeGet _ => exact keepsForm_execTimeGet
  | boardMakerCommand _ _ _ _ _ => exact keepsForm_execBoardMakerCommand
  | deviceReset _ => exact keepsForm_execDeviceReset
  | hostReset => exact keepsForm_execHostReset
  | ragdollRelease _ => exact keepsForm_execRagdollRelease
  | imageVerify _ _ => exact keepsForm_execImageVerify
  | flashRelease _ => exact keepsForm_execFlashRelease
  | slotTrial _ => exact keepsForm_execSlotTrial
  | bootStatus _ => exact keepsForm_execBootStatus
  | debugChallenge _ => exact keepsForm_execDebugChallenge
  | debugResponse _ _ => exact keepsForm_execDebugResponse
  | minverAdvance _ => exact keepsForm_execMinverAdvance
  | fuseProgram _ _ _ => exact keepsForm_execFuseProgram
  | inFrame _ _ => exact keepsForm_execInFrame
  | announce _ _ => exact keepsForm_execAnnounce
  | identRsp _ _ => exact keepsForm_execIdentRsp
  | delayRsp _ _ _ => exact keepsForm_execDelayRsp
  | admitAck _ _ => exact keepsForm_execAdmitAck
  | acr _ _ => exact keepsForm_execAcr
  | diagResponse _ _ => exact keepsForm_execDiagResponse
  | trainSync _ => exact keepsForm_execTrainSync
  | trainTimeout _ => exact keepsForm_execTrainTimeout
  | enumEnd _ => exact keepsForm_execEnumEnd
  | lossOfSignal _ => exact keepsForm_execLossOfSignal
  | linkRetry _ => exact keepsForm_execLinkRetry
  | stationRetryExpiry _ _ => exact keepsForm_execStationRetryExpiry
  | admissionAnswerTimeout _ _ => exact keepsForm_execAdmissionAnswerTimeout
  | diagPoll _ _ => exact keepsForm_execDiagPoll
  | diagPollTimeout _ _ => exact keepsForm_execDiagPollTimeout
  | acyclicSlot _ => exact keepsForm_execAcyclicSlot
  | acrTimeout _ _ => exact keepsForm_execAcrTimeout
  | acyRepeatDue _ _ => exact keepsForm_execAcyRepeatDue
  | acyRequestTimeout _ _ => exact keepsForm_execAcyRequestTimeout
  | sflnCtrlEn _ _ => exact keepsForm_execSflnCtrlEn
  | retrain _ => exact keepsForm_execRetrain
  | sflnResume _ _ _ => exact keepsForm_execSflnResume
  | sflnAcySub _ _ => exact keepsForm_execSflnAcySub
  | sflnAcyCancel _ _ => exact keepsForm_execSflnAcyCancel
  | sflnCntClr _ => exact keepsForm_execSflnCntClr
  | patStart _ _ => exact keepsForm_execPatStart
  | patStop _ => exact keepsForm_execPatStop
  | patLoopEnd _ => exact keepsForm_execPatLoopEnd
  | stationStart _ _ _ _ => exact keepsForm_execStationStart
  | socBlockAccept _ _ _ _ _ => exact keepsForm_execSocBlockAccept
  | sampleMarkAccept _ _ _ _ => exact keepsForm_execSampleMarkAccept
  | inFrameSend _ _ _ _ => exact keepsForm_execInFrameSend
  | outFrameConsume _ _ _ _ => exact keepsForm_execOutFrameConsume
  | stationApply _ _ => exact keepsForm_execStationApply
  | identReq _ _ _ => exact keepsForm_execIdentReq
  | delayReq _ _ _ _ => exact keepsForm_execDelayReq
  | admitReq _ _ _ => exact keepsForm_execAdmit
  | release _ _ _ => exact keepsForm_execRelease
  | hold _ _ _ => exact keepsForm_execHold
  | acy _ _ _ _ _ => exact keepsForm_execAcy
  | diag _ _ _ => exact keepsForm_execDiag
  | testLoopOn _ _ _ => exact keepsForm_execTestLoopOn
  | testLoopOff _ _ _ => exact keepsForm_execTestLoopOff
  | loopbackEnd _ _ => exact keepsForm_execLoopbackEnd
  | socLossTimeout _ _ => exact keepsForm_execSocLossTimeout
  | heldTimeout _ _ => exact keepsForm_execHeldTimeout
  | reportFrame _ _ _ => exact keepsForm_execReportFrame
  | fpcCtrlEn _ _ => exact keepsForm_execFpcCtrlEn
  | fpcClr _ => exact keepsForm_execFpcClr
  | gateAtVddfp _ => exact keepsForm_execGateAtVddfp
  | shuntLimit _ => exact keepsForm_execShuntLimit
  | limitRecovery _ => exact keepsForm_execLimitRecovery
  | limitTimer _ => exact keepsForm_execLimitTimer
  | fastTrip _ => exact keepsForm_execFastTrip
  | fpcRetry _ => exact keepsForm_execFpcRetry
  | onStable _ => exact keepsForm_execOnStable
  | fpcSettle _ => exact keepsForm_execFpcSettle
  | bmvGo _ => exact keepsForm_execBmvGo
  | bmvBurst _ => exact keepsForm_execBmvBurst
  | bmvDescriptorEnd _ => exact keepsForm_execBmvDescriptorEnd
  | bmvErrorResponse _ _ _ => exact keepsForm_execBmvErrorResponse
  | bmvAbort _ => exact keepsForm_execBmvAbort
  | haltClr => exact keepsForm_execHaltClr
  | cvuRestart _ => exact keepsForm_execCvuRestart
  | cvuData _ _ _ => exact keepsForm_execCvuData
  | mseGo => exact keepsForm_execMseGo
  | mseJobEnd => exact keepsForm_execMseJobEnd
  | mseScrubRead => exact keepsForm_execMseScrubRead
  | nvrPwdR _ => exact keepsForm_execNvrPwdR
  | nvrPwdW _ => exact keepsForm_execNvrPwdW
  | nvrPwdLock => exact keepsForm_execNvrPwdLock
  | chgR => exact keepsForm_execChgR
  | chgW => exact keepsForm_execChgW
  | nvrJctrlGo => exact keepsForm_execNvrJctrlGo
  | journaledWriteEnd => exact keepsForm_execJournaledWriteEnd
  | nvsRelease => exact keepsForm_execNvsRelease
  | powerFailTrigger _ => exact keepsForm_execPowerFailTrigger
  | saveSeal => exact keepsForm_execSaveSeal
  | test => exact keepsForm_execTest
  | restore => exact keepsForm_execRestore
  | restoreEnd => exact keepsForm_execRestoreEnd
  | invalidate => exact keepsForm_execInvalidate
  | pflProgram _ => exact keepsForm_execPflProgram
  | pflErase _ => exact keepsForm_execPflErase
  | pflSuspend => exact keepsForm_execPflSuspend
  | pflResume => exact keepsForm_execPflResume
  | pflOperationEnd => exact keepsForm_execPflOperationEnd
  | bor => exact keepsForm_execBor
  | rstN => exact keepsForm_execRstN
  | rstCtrl _ => exact keepsForm_execRstCtrl
  | bringupStepEnd _ _ _ => exact keepsForm_execBringupStepEnd
  | crystalStartDelay _ => exact keepsForm_execCrystalStartDelay
  | spmStartOk _ => exact keepsForm_execSpmStartOk
  | wdtSpExpiry => exact keepsForm_execWdtSpExpiry
  | challengeExpiry => exact keepsForm_execChallengeExpiry
  | entWindowEnd _ _ => exact keepsForm_execEntWindowEnd
  | retryWaitEnd => exact keepsForm_execRetryWaitEnd
  | drbgReseed => exact keepsForm_execDrbgReseed
  | entReq _ => exact keepsForm_execEntReq
  | rstBlk _ _ => exact keepsForm_execRstBlk
  | wrapperClosed _ => exact keepsForm_execWrapperClosed
  | clockMonitorWindow _ _ => exact keepsForm_execClockMonitorWindow
  | pllLockDrop _ => exact keepsForm_execPllLockDrop
  | pllRelock _ => exact keepsForm_execPllRelock
  | xtalGood => exact keepsForm_execXtalGood
  | clStable => exact keepsForm_execClStable
  | clResume => exact keepsForm_execClResume
  | autoTrimInterval _ => exact keepsForm_execAutoTrimInterval
  | clfreqStepWrite _ _ => exact keepsForm_execClfreqStepWrite
  | domainSwitchOff _ => exact keepsForm_execDomainSwitchOff
  | domainSwitchOn _ => exact keepsForm_execDomainSwitchOn
  | domainOffEnd _ => exact keepsForm_execDomainOffEnd
  | domainOnEnd _ => exact keepsForm_execDomainOnEnd
  | wakeOnDemand _ => exact keepsForm_execWakeOnDemand
  | standbyRequest _ => exact keepsForm_execStandbyRequest
  | spStopAck => exact keepsForm_execSpStopAck
  | spAckTimeout => exact keepsForm_execSpAckTimeout
  | standbyWake _ => exact keepsForm_execStandbyWake
  | avsTargetWrite _ => exact keepsForm_execAvsTargetWrite
  | avsSettle _ => exact keepsForm_execAvsSettle
  | readIoutPoll _ => exact keepsForm_execReadIoutPoll
  | pmbAlert _ => exact keepsForm_execPmbAlert
  | mainSupplyLoss => exact keepsForm_execMainSupplyLoss
  | bkdLoss => exact keepsForm_execBkdLoss
  | rtcSecWrite _ => exact keepsForm_execRtcSecWrite
  | rtcSubRead => exact keepsForm_execRtcSubRead
  | rtcAlarm => exact keepsForm_execRtcAlarm
  | backupEvent _ _ => exact keepsForm_execBackupEvent
  | reqClr => exact keepsForm_execReqClr
  | bkdEvqHiRead => exact keepsForm_execBkdEvqHiRead
  | agmWindowEnd _ => exact keepsForm_execAgmWindowEnd
  | marginProbe _ _ _ => exact keepsForm_execMarginProbe
  | agmSettleExpiry => exact keepsForm_execAgmSettleExpiry
  | dailyRecord => exact keepsForm_execDailyRecord
  | agmLedgerMark _ => exact keepsForm_execAgmLedgerMark
  | apply _ => exact keepsForm_execApply
  | cancel _ => exact keepsForm_execCancel
  | critClear _ => exact keepsForm_execCritClear
  | twlEnable _ => exact keepsForm_execTwlEnable
  | twlTrainRetry => exact keepsForm_execTwlTrainRetry
  | twlLaneSyncLoss => exact keepsForm_execTwlLaneSyncLoss
  | echo _ _ _ => exact keepsForm_execEcho
  | twlRoleWrite _ => exact keepsForm_execTwlRoleWrite
  | primaryClaimEnd => exact keepsForm_execPrimaryClaimEnd
  | heartbeat _ _ _ => exact keepsForm_execHeartbeat
  | heartbeatMissed => exact keepsForm_execHeartbeatMissed
  | shadow _ => exact keepsForm_execShadow
  | shend _ => exact keepsForm_execShend
  | setApplication => exact keepsForm_execSetApplication
  | shack _ => exact keepsForm_execShack
  | linkstate _ => exact keepsForm_execLinkstate
  | handoverRequest => exact keepsForm_execHandoverRequest
  | handoverCmd _ => exact keepsForm_execHandoverCmd
  | handoverAck _ => exact keepsForm_execHandoverAck
  | wreset => exact keepsForm_execWreset
  | warmReset _ => exact keepsForm_execWarmReset
  | twlCntClr => exact keepsForm_execTwlCntClr
  | evcSourceEvent _ => exact keepsForm_execEvcSourceEvent
  | evcClaim => exact keepsForm_execEvcClaim
  | evcEoi _ => exact keepsForm_execEvcEoi
  | evcTake _ => exact keepsForm_execEvcTake
  | gpioEdge _ _ _ => exact keepsForm_execGpioEdge
  | gpioHoldRelease => exact keepsForm_execGpioHoldRelease
  | uartDataWrite _ _ => exact keepsForm_execUartDataWrite
  | uartDataRead _ => exact keepsForm_execUartDataRead
  | uartRxByte _ _ _ _ _ => exact keepsForm_execUartRxByte
  | spiDataWrite _ _ => exact keepsForm_execSpiDataWrite
  | spiDataRead _ => exact keepsForm_execSpiDataRead
  | spiFrameEnd _ _ => exact keepsForm_execSpiFrameEnd
  | i2cCmd _ _ _ => exact keepsForm_execI2cCmd
  | i2cCommandEnd _ _ => exact keepsForm_execI2cCommandEnd
  | i2cStretchTimeout _ => exact keepsForm_execI2cStretchTimeout
  | recover _ _ => exact keepsForm_execRecover
  | timerMatch _ => exact keepsForm_execTimerMatch
  | timerCapture _ => exact keepsForm_execTimerCapture
  | wdtSysEn => exact keepsForm_execWdtSysEn
  | wdtSysKick _ => exact keepsForm_execWdtSysKick
  | wdtSysEarly => exact keepsForm_execWdtSysEarly
  | wdtSysExpiry => exact keepsForm_execWdtSysExpiry
  | dpacc _ _ _ _ => exact keepsForm_execDpacc
  | unlock _ _ => exact keepsForm_execUnlock
  | extest => exact keepsForm_execExtest
  | stringPulse _ _ => exact keepsForm_execStringPulse
  | debugResume _ => exact keepsForm_execDebugResume
  | debugSystemReset => exact keepsForm_execDebugSystemReset
  | dbgCmpWrite _ _ _ => exact keepsForm_execDbgCmpWrite
  | trcSw _ _ => exact keepsForm_execTrcSw
  | traceStart _ => exact keepsForm_execTraceStart
  | traceBufferEnd => exact keepsForm_execTraceBufferEnd
  | registerWrite _ _ _ => exact keepsForm_execRegisterWrite
  | powerOnReset => exact keepsForm_execPowerOnReset
  | brownOutWarning => exact keepsForm_execBrownOutWarning
  | rstNRelease => exact keepsForm_execRstNRelease
  | heartbeatMillisecond => exact keepsForm_execHeartbeatMillisecond
  | twlTrainTimeout => exact keepsForm_execTwlTrainTimeout
  | twlLanesDeskewed => exact keepsForm_execTwlLanesDeskewed
  | socSeen _ _ _ => exact keepsForm_execSocSeen
  | uartTxByte _ => exact keepsForm_execUartTxByte

theorem exec_next (i : Instr) (s : State) : ∃ t, exec i s = .next t := by
  obtain ⟨t, ht, -⟩ := keepsForm_exec i s
  exact ⟨t, ht⟩

theorem keepsForm_step (s : State) : keepsForm s (step s) := by
  unfold step
  split
  next c q _ => exact keepsForm_exec c (s.withPending q)
  next => exact keepsForm_next memOk_idle

/-- Settles O59: each operation, and so each instruction and each idle step, keeps memory in form. -/
theorem memoryKeepsForm : Obligations.MemoryKeepsForm := by
  unfold Obligations.MemoryKeepsForm
  intro s t h ht
  obtain ⟨u, hu, hkeeps⟩ := keepsForm_step s
  rw [hu] at ht
  cases ht
  exact hkeeps h

/-- Settles O1: the step is `exec` on the queue's front by definition, and each instruction answers a next state (`keepsForm_exec`). -/
theorem stepRunsFront : Obligations.StepRunsFront := by
  unfold Obligations.StepRunsFront
  refine ⟨fun _ _ _ => rfl, exec_next, fun s => ?_⟩
  obtain ⟨t, ht, -⟩ := keepsForm_step s
  exact ⟨t, ht⟩

end Sys2Proof.Machine
end

section
/-! The backup domain: its loss, the RTC and its alarm, the events of BACKUP (R456 to R458, R460, R464). -/

namespace Sys2Proof.Machine

/-! ### The loss of the supply (R456) -/

theorem State.byte_wipe_out (s : State) (p : Nat → Bool) (a : Nat) (h : p a = false) : (s.wipe p).byte a = s.byte a := by
  unfold State.byte
  exact (SMap.get_erase _ p s.mem a).trans (by rw [h]; rfl)

/-- The registers and the RAM of the backup domain are lost. -/
def bkdCleared (s : State) : State := (s.resetRegs bkdReg).wipe (fun a => within a bkdRam 0x100)

theorem bkdLoss_regs (s : State) : (bkdLoss s).regs = ((bkdCleared s).setFld F.BKD_STATUS_LOST 1).regs := by
  unfold bkdLoss bkdCleared
  dsimp only

theorem bkdLoss_mem (s : State) : (bkdLoss s).mem = (bkdCleared s).mem := rfl

theorem bkdLoss_bkd (s : State) : (bkdLoss s).bkd = {} := by
  unfold bkdLoss
  dsimp only

theorem bkdLoss_les (s : State) : (bkdLoss s).les = s.les := by
  unfold bkdLoss
  dsimp only
  rfl

theorem bkdLoss_lost (s : State) : (bkdLoss s).flag F.BKD_STATUS_LOST = true :=
  (State.flag_congr (State.reg_congr _ (bkdLoss_regs s))).trans (State.flag_setFld_one (bkdCleared s) F.BKD_STATUS_LOST (by decide) rfl)

theorem bkdLoss_byte (s : State) (a : Nat) (h : within a bkdRam 0x100 = false) : (bkdLoss s).byte a = s.byte a :=
  (State.byte_congr (bkdLoss_mem s) a).trans (State.byte_wipe_out (s.resetRegs bkdReg) _ a h)

/-! ### The RTC and its alarm (R457, R458) -/

theorem rtcSecWrite_shows (v : Word) (s : State) :
    (rtcSecWrite s v).reg R.BKD_RTC_SEC = v ∧ (rtcSecWrite s v).reg R.BKD_RTC_SUB = 0 ∧
      (rtcSecWrite s v).flag F.BKD_STATUS_RTC_VALID = true := by
  unfold rtcSecWrite
  refine ⟨?_, ?_, State.flag_setFld_one _ F.BKD_STATUS_RTC_VALID (by decide) rfl⟩
  · rw [State.reg_setFld_ne _ F.BKD_STATUS_RTC_VALID _ _ (by decide), State.reg_setReg_ne _ _ _ _ (by decide), State.reg_setReg]
  · rw [State.reg_setFld_ne _ F.BKD_STATUS_RTC_VALID _ _ (by decide), State.reg_setReg]

theorem rtcSecWrite_mem (v : Word) (s : State) : (rtcSecWrite s v).mem = s.mem := by
  rw [rtcSecWrite, State.setFld_mem, State.setReg_mem, State.setReg_mem]

/-- The state in which the RTC has reached its alarm: it shows the alarm's second, and ALM_EN has done its work. -/
def alarmReached (s : State) : State :=
  ((s.setReg R.BKD_RTC_SEC (s.reg R.BKD_ALM_SEC)).setReg R.BKD_RTC_SUB 0).setFld F.BKD_CTRL_ALM_EN 0

theorem alarmReached_en (s : State) : (alarmReached s).flag F.BKD_CTRL_ALM_EN = false := State.flag_setFld_zero _ F.BKD_CTRL_ALM_EN (by decide)

theorem alarmReached_sec (s : State) : (alarmReached s).reg R.BKD_RTC_SEC = s.reg R.BKD_ALM_SEC := by
  unfold alarmReached
  rw [State.reg_setFld_ne _ F.BKD_CTRL_ALM_EN _ _ (by decide), State.reg_setReg_ne _ _ _ _ (by decide), State.reg_setReg]

theorem alarmReached_sub (s : State) : (alarmReached s).fld F.BKD_RTC_SUB_SUB = 0 := by
  have hsub : (alarmReached s).reg R.BKD_RTC_SUB = 0 := by
    unfold alarmReached
    rw [State.reg_setFld_ne _ F.BKD_CTRL_ALM_EN _ _ (by decide), State.reg_setReg]
  rw [State.fld, hsub]
  rfl

theorem exec_rtcAlarm_off (s : State) (h : s.flag F.BKD_CTRL_ALM_EN = false) : exec .rtcAlarm s = .next s :=
  if_neg (Bool.eq_false_iff.mp h)

theorem exec_rtcAlarm_backup (s : State) (h : s.flag F.BKD_CTRL_ALM_EN = true) (hb : s.pmu.state = .backup) :
    exec .rtcAlarm s = .next (backupEvent (alarmReached s) 1) := by
  refine (if_pos h).trans ?_
  rw [alarmFires]
  exact congrArg _ (if_pos hb)

theorem exec_rtcAlarm_wakes (s : State) (h : s.flag F.BKD_CTRL_ALM_EN = true) (hb : s.pmu.state ≠ .backup) :
    exec .rtcAlarm s = .next (aonWake (alarmReached s) 1) := by
  refine (if_pos h).trans ?_
  rw [alarmFires]
  exact congrArg _ (if_neg hb)

/-! ### Events of BACKUP and their queue (R460, R464) -/

/-- The queue's entry of a source. -/
def backupEntry (s : State) (src : Nat) : Nat :=
  2 ^ 63 + src * 2 ^ 48 + s.fld F.BKD_RTC_SUB_SUB * 2 ^ 32 + (s.reg R.BKD_RTC_SEC).toNat

/-- An event joins the queue, or is counted where that is full. -/
def backupQueued (s : State) (src : Nat) : State :=
  if s.bkd.evq.length < 8 then { s with bkd := { s.bkd with evq := s.bkd.evq ++ [backupEntry s src] } } else s.count F.BKD_STATUS_EVQ_OVF

theorem backupEvent_eq (s : State) (src : Nat) : backupEvent s src =
    if (s.fld F.BKD_CTRL_REQ_EN).testBit (src - 1) then (backupQueued s src).setFld F.BKD_STATUS_REQ 1 else backupQueued s src := rfl

/-- Whether it raises the request or not, an event leaves the backup domain and all other registers as its entry left them. -/
theorem backupEvent_cases (s : State) (src : Nat) :
    backupEvent s src = backupQueued s src ∨ backupEvent s src = (backupQueued s src).setFld F.BKD_STATUS_REQ 1 := by
  rw [backupEvent_eq]
  split
  · exact .inr rfl
  · exact .inl rfl

theorem backupEvent_bkd (s : State) (src : Nat) : (backupEvent s src).bkd = (backupQueued s src).bkd := by
  obtain h | h := backupEvent_cases s src
  · rw [h]
  · rw [h, State.setFld_bkd]

theorem backupEvent_mem (s : State) (src : Nat) : (backupEvent s src).mem = s.mem := by
  have hq : (backupQueued s src).mem = s.mem := by
    unfold backupQueued
    split
    · rfl
    · exact (State.onlyRegs_count s _).mem_eq
  obtain h | h := backupEvent_cases s src
  · rw [h, hq]
  · rw [h, State.setFld_mem, hq]

theorem backupQueued_joins (s : State) (src : Nat) (h : s.bkd.evq.length < 8) :
    (backupQueued s src).bkd.evq = s.bkd.evq ++ [backupEntry s src] := by
  rw [backupQueued, if_pos h]

theorem State.onlyRegs.bkd_eq {s t : State} (h : s.onlyRegs t) : t.bkd = s.bkd := by obtain ⟨r, rfl⟩ := h; rfl

theorem backupQueued_full (s : State) (src : Nat) (h : 8 ≤ s.bkd.evq.length) : (backupQueued s src).bkd = s.bkd := by
  rw [backupQueued, if_neg (Nat.not_lt.mpr h)]
  exact (State.onlyRegs_count s _).bkd_eq

theorem backupQueued_reg (s : State) (src b : Nat) (h : b ≠ R.BKD_STATUS) : (backupQueued s src).reg b = s.reg b := by
  unfold backupQueued
  split
  · rfl
  · exact State.reg_count_ne s F.BKD_STATUS_EVQ_OVF b h

theorem backupEvent_reg (s : State) (src b : Nat) (h : b ≠ R.BKD_STATUS) : (backupEvent s src).reg b = s.reg b := by
  have hq := backupQueued_reg s src b h
  obtain he | he := backupEvent_cases s src <;> rw [he]
  · exact hq
  · exact (State.reg_setFld_ne _ F.BKD_STATUS_REQ 1 b h).trans hq

theorem backupEvent_requests (s : State) (src : Nat) (h : (s.fld F.BKD_CTRL_REQ_EN).testBit (src - 1) = true) :
    (backupEvent s src).flag F.BKD_STATUS_REQ = true := by
  rw [backupEvent_eq, if_pos h]
  exact State.flag_setFld_one _ F.BKD_STATUS_REQ (by decide) rfl

theorem reqClr_shows (s : State) : (reqClr s).flag F.BKD_STATUS_REQ = false ∧ (reqClr s).fld F.BKD_STATUS_EVQ_OVF = 0 ∧
    (reqClr s).bkd = s.bkd := by
  unfold reqClr
  refine ⟨?_, State.fld_setFld _ F.BKD_STATUS_EVQ_OVF 0 (by decide), by rw [State.setFld_bkd, State.setFld_bkd]⟩
  rw [State.flag_setFld_apart _ F.BKD_STATUS_EVQ_OVF F.BKD_STATUS_REQ _ (by decide) (by decide)]
  exact State.flag_setFld_zero s F.BKD_STATUS_REQ (by decide)

/-! ### The statement -/

theorem exec_bkdLoss (s : State) : exec .bkdLoss s = .next (bkdLoss s) := rfl
theorem exec_rtcSecWrite (v : Word) (s : State) : exec (.rtcSecWrite v) s = .next (rtcSecWrite s v) := rfl
theorem exec_rtcSubRead (s : State) : exec .rtcSubRead s = .next { rtcSubRead s with readData := s.reg R.BKD_RTC_SUB } := rfl
theorem exec_reqClr (s : State) : exec .reqClr s = .next (reqClr s) := rfl
theorem exec_bkdEvqHiRead (s : State) :
    exec .bkdEvqHiRead s = .next { evqPop s with readData := word (s.bkd.evq.headD 0 / 2 ^ 32) } := rfl

/-- The edge of event pin `k` that BKD_WAKE_CFG selects. -/
def edgeSelected (s : State) (k : Fin 4) (up : Bool) : Bool := (s.fld F.BKD_WAKE_CFG_EDGE / 4 ^ k.val % 4).testBit (if up then 0 else 1)

theorem exec_backupEvent_not (k : Fin 4) (up : Bool) (s : State) (h : edgeSelected s k up = false) : exec (.backupEvent k up) s = .next s :=
  if_neg (Bool.eq_false_iff.mp h)

theorem exec_backupEvent (k : Fin 4) (up : Bool) (s : State) (h : edgeSelected s k up = true) : exec (.backupEvent k up) s =
    .next (if s.pmu.state = .backup then backupEvent s (k.val + 2) else aonWake s (k.val + 2)) :=
  if_pos h

/-- Settles O50: each row by what its operation shows; an event of BACKUP by `backupEvent_cases`. -/
theorem backup : Obligations.Backup := by
  unfold Obligations.Backup
  refine ⟨fun s => ⟨_, exec_bkdLoss s, bkdLoss_lost s, bkdLoss_bkd s, bkdLoss_les s, bkdLoss_byte s⟩, fun v s => ?_,
    fun s => ⟨_, exec_rtcSubRead s, rfl, rfl, rfl, rfl⟩,
    fun s => ⟨exec_rtcAlarm_off s, fun h hb => ?_, fun h hb => ?_⟩, fun k up s => ⟨fun h => ?_, fun h hb => ?_, fun h hb => ?_⟩,
    fun s => ⟨?_, fun e l h => ?_⟩⟩
  · obtain ⟨hsec, hsub, hvalid⟩ := rtcSecWrite_shows v s
    exact ⟨_, exec_rtcSecWrite v s, hsec, hsub, hvalid, rtcSecWrite_mem v s⟩
  · refine ⟨_, exec_rtcAlarm_backup s h hb, ?_, ?_, ?_, fun hl => ?_⟩
    · exact (State.flag_congr (backupEvent_reg _ 1 _ (by decide))).trans (alarmReached_en s)
    · exact (backupEvent_reg _ 1 _ (by decide)).trans (alarmReached_sec s)
    · exact (State.fld_congr (backupEvent_reg _ 1 _ (by decide))).trans (alarmReached_sub s)
    · rw [backupEvent_bkd, backupQueued_joins (alarmReached s) 1 hl, List.length_append]
      rfl
  · exact ⟨alarmReached s, exec_rtcAlarm_wakes s h hb, alarmReached_en s, alarmReached_sec s, rfl⟩
  · exact exec_backupEvent_not k up s h
  · rw [exec_backupEvent k up s h, if_neg hb]
  · refine ⟨backupEvent s (k.val + 2), ?_, fun hl => ?_, fun hl => ?_, backupEvent_requests s (k.val + 2), backupEvent_mem s _⟩
    · rw [exec_backupEvent k up s h, if_pos hb]
    · rw [backupEvent_bkd]
      exact backupQueued_joins s _ hl
    · rw [backupEvent_bkd]
      exact backupQueued_full s _ hl
  · exact ⟨_, exec_reqClr s, reqClr_shows s⟩
  · refine ⟨_, exec_bkdEvqHiRead s, ?_, ?_, rfl⟩
    · rw [h]; rfl
    · exact congrArg List.tail h

end Sys2Proof.Machine
end

section
/-! The registers of the Twin Link across events, completions of the host and links that go down. -/

namespace Sys2Proof.Machine

/-! ### What leaves the registers of the Twin Link -/

/-- The registers of the Twin Link are as they were. -/
def State.keepsTwl (s t : State) : Prop := ∀ b, 0x40030000 ≤ b → b < 0x40032000 → t.reg b = s.reg b

namespace State.keepsTwl
variable {s t u : State}

theorem of_regs (h : t.regs = s.regs) : s.keepsTwl t := fun b _ _ => State.reg_congr b h

theorem self (s : State) : s.keepsTwl s := of_regs rfl

theorem trans (h : s.keepsTwl t) (h' : t.keepsTwl u) : s.keepsTwl u := fun b hlo hhi => (h' b hlo hhi).trans (h b hlo hhi)

theorem ite {c : Prop} {_ : Decidable c} (h : s.keepsTwl t) (h' : s.keepsTwl u) : s.keepsTwl (if c then t else u) := by
  split
  · exact h
  · exact h'

theorem each {f : State → Nat → State} {l : List Nat} (h : ∀ t : State, ∀ k ∈ l, t.keepsTwl (f t k)) (s : State) : s.keepsTwl (eachNat f s l) := by
  induction l generalizing s with
  | nil => exact self s
  | cons k l ih => exact (h s k (by simp)).trans (ih (fun t j hj => h t j (by simp [hj])) _)

theorem foldl {α : Type} {f : State → α → State} (h : ∀ (t : State) (x : α), t.keepsTwl (f t x)) (l : List α) (s : State) : s.keepsTwl (l.foldl f s) := by
  induction l generalizing s with
  | nil => exact self s
  | cons x l ih => exact (h s x).trans (ih _)

end State.keepsTwl

section
open State.keepsTwl

theorem keepsTwl_setReg (s : State) (a : Nat) (v : Word) (ha : a < 0x40030000 ∨ 0x40032000 ≤ a) : s.keepsTwl (s.setReg a v) :=
  fun b _ _ => s.reg_setReg_ne a b v (by omega)

theorem keepsTwl_setFld (s : State) (f : Fld) (v : Nat) (hf : f.reg < 0x40030000 ∨ 0x40032000 ≤ f.reg) : s.keepsTwl (s.setFld f v) :=
  keepsTwl_setReg s f.reg _ hf

theorem keepsTwl_count (s : State) (f : Fld) (hf : f.reg < 0x40030000 ∨ 0x40032000 ≤ f.reg) : s.keepsTwl (s.count f) :=
  fun b _ _ => s.reg_count_ne f b (by omega)

theorem keepsTwl_countReg (s : State) (a : Nat) (ha : a < 0x40030000 ∨ 0x40032000 ≤ a) : s.keepsTwl (s.countReg a) :=
  fun b _ _ => s.reg_countReg_ne a b (by omega)

theorem keepsTwl_evcEvent (s : State) (k : Nat) (hk : k < 256) : s.keepsTwl (evcEvent s k) :=
  fun b hlo _ => evcEvent_reg_above s k b hk (by omega)

theorem keepsTwl_evcIf (s : State) (en : Fld) (a k : Nat) (hk : a + k < 256) : s.keepsTwl (evcIf s en a k) :=
  ite (keepsTwl_evcEvent s _ hk) (self s)

theorem keepsTwl_postEvent (s : State) (part type : Nat) (data : List Nat) : s.keepsTwl (postEvent s part type data) :=
  fun b _ hhi => postEvent_reg_below_hif s part type data b hhi

theorem keepsTwl_postEvents (s : State) (type : Nat) (data l : List Nat) : s.keepsTwl (postEvents s type data l) := by
  induction l generalizing s with
  | nil => exact self s
  | cons p l ih => exact (keepsTwl_postEvent s p type data).trans (ih _)

theorem keepsTwl_busErrOf (s : State) (code part a : Nat) (write : Bool) : s.keepsTwl (busErrOf s code part a write) :=
  (ite (keepsTwl_setFld s F.SYS_BERR_INFO_OVF 1 (by decide))
    ((keepsTwl_setReg s R.SYS_BERR_ADDR _ (by decide)).trans (keepsTwl_setReg _ R.SYS_BERR_INFO _ (by decide)))).trans
    (keepsTwl_evcEvent _ 32 (by decide))

theorem State.setBytes_regs (s : State) (a : Nat) (l : List Byte) : (s.setBytes a l).regs = s.regs := by
  obtain ⟨m, h⟩ := s.onlyMem_setBytes a l
  rw [h]

theorem keepsTwl_setBytes (s : State) (a : Nat) (l : List Byte) : s.keepsTwl (s.setBytes a l) := of_regs (State.setBytes_regs s a l)

theorem keepsTwl_recordPut (s : State) (a : Nat) (l : List Byte) : s.keepsTwl (recordPut s a l) :=
  ite (keepsTwl_busErrOf s _ _ _ _) (keepsTwl_setBytes s a l)

/-! A command of the host that ends, and what may start after it. -/

theorem keepsTwl_sendVector (s : State) (v : Nat) : s.keepsTwl (sendVector s v) := fun b _ _ => sendVector_reg s v b

theorem keepsTwl_vecEntry (s : State) (v : Nat) (urgent : Bool) : s.keepsTwl (vecEntry s v urgent) := by
  unfold vecEntry
  extract_lets m x s1
  exact ite ((of_regs rfl : s.keepsTwl s1).trans (keepsTwl_sendVector s1 v)) (of_regs rfl)

theorem keepsTwl_ringPut (s : State) (p k : Nat) (body : List Byte) (flags : Nat) : s.keepsTwl (ringPut s p k body flags) := by
  unfold ringPut
  extract_lets i r fl s1 j
  exact (of_regs rfl : s.keepsTwl s1).trans
    ((keepsTwl_setFld s1 (F.HIF_RIDX_IDX p k) j (.inr (by simp only [R.HIF_RIDX]; omega))).trans (of_regs rfl))

theorem keepsTwl_writeCpl (s : State) (c : HostCmd) (x : Cpl) : s.keepsTwl (writeCpl s c x) := by
  unfold writeCpl
  extract_lets s2 s3
  have h2 : s.keepsTwl s2 := (of_regs rfl : s.keepsTwl (dropCmd s c.serial)).trans (keepsTwl_ringPut _ _ _ _ _)
  have h3 : s.keepsTwl s3 := h2.trans ((keepsTwl_countReg s2 R.HIF_CPL_CNT (by decide)).trans
    (keepsTwl_setFld _ (F.HIF_PSTAT_INFLIGHT c.part) _ (.inr (by simp only [R.HIF_PSTAT]; omega))))
  exact ite h3 (h3.trans (keepsTwl_vecEntry s3 _ _))

theorem keepsTwl_tryCpl (s : State) (c : HostCmd) : s.keepsTwl (tryCpl s c) := by
  unfold tryCpl
  split
  · exact self s
  · exact ite (of_regs rfl) (ite (keepsTwl_writeCpl s c _) (self s))

theorem keepsTwl_finishCmd (s : State) (serial : Nat) (x : Cpl) : s.keepsTwl (finishCmd s serial x) := by
  unfold finishCmd
  split
  · exact self s
  · exact (of_regs rfl).trans (keepsTwl_tryCpl (markDone (freeRecord s serial) serial x) _)

theorem keepsTwl_fwPlace (s : State) (c : HostCmd) : s.keepsTwl (fwPlace s c) := by
  unfold fwPlace
  split
  · exact self s
  next n _ =>
    extract_lets s1
    have h1 : s.keepsTwl s1 := (of_regs rfl : s.keepsTwl (markStarted s c.serial)).trans (keepsTwl_setBytes _ _ _)
    clear_value s1
    refine ite (self s) (ite ?_ ?_)
    · exact (of_regs rfl : s.keepsTwl (markStarted s c.serial)).trans ((keepsTwl_busErrOf _ _ _ _ _).trans (keepsTwl_finishCmd _ _ _))
    · exact (h1.trans (of_regs rfl)).trans (keepsTwl_evcEvent _ 224 (by decide))

theorem keepsTwl_fwStep (s : State) (c : HostCmd) : s.keepsTwl (fwStep s c) :=
  ite (self s) (ite ((of_regs rfl : s.keepsTwl (markStarted s c.serial)).trans (keepsTwl_finishCmd _ _ _)) (keepsTwl_fwPlace s c))

theorem keepsTwl_hostComplete (s : State) (serial : Nat) (x : Cpl) : s.keepsTwl (hostComplete s serial x) :=
  (keepsTwl_finishCmd s serial x).trans (foldl keepsTwl_fwStep _ _)

/-! A link that goes down. -/

theorem keepsTwl_sflEvent (s : State) (l k : Nat) (hl : l < 24) (hk : k < 4) : s.keepsTwl (sflEvent s l k) :=
  keepsTwl_evcIf s _ _ k (by omega)

theorem keepsTwl_acyComplete (s : State) (l k status result : Nat) (data : List Byte) (hl : l < 24) :
    s.keepsTwl (acyComplete s l k status result data) := by
  unfold acyComplete
  split
  · exact self s
  next a _ =>
    have hdone (t : State) (ht : s.keepsTwl t) : s.keepsTwl (t.countReg (R.SFL_ACY_DONE l)) :=
      ht.trans (keepsTwl_countReg t _ (.inl (by simp only [R.SFL_ACY_DONE]; omega)))
    extract_lets _ s1 n st t s2 s3
    have h1 : s.keepsTwl s1 := of_regs rfl
    have h2 : s.keepsTwl s2 := by
      unfold s2
      split
      · have ht : s.keepsTwl t := ite h1 (h1.trans (keepsTwl_recordPut s1 _ _))
        exact ht.trans ((keepsTwl_recordPut _ _ _).trans ((keepsTwl_recordPut _ _ _).trans ((keepsTwl_recordPut _ _ _).trans
          (keepsTwl_recordPut _ _ _))))
      · refine ite (h1.trans (keepsTwl_hostComplete _ _ _)) (ite ?_ ?_)
        · exact h1.trans ((of_regs rfl).trans (keepsTwl_hostComplete _ _ _))
        · exact h1.trans ((keepsTwl_countReg s1 R.HIF_WF_CNT (by decide)).trans (keepsTwl_hostComplete _ _ _))
    have h3 : s.keepsTwl s3 := hdone s2 h2
    split
    · exact h3.trans (keepsTwl_sflEvent s3 l 2 hl (by decide))
    · exact h3

theorem keepsTwl_acyFail (s : State) (l : Nat) (p : Acy → Bool) (k : Nat) (hl : l < 24) : s.keepsTwl (acyFail s l p k) := by
  induction k generalizing s with
  | zero => exact self s
  | succ k ih =>
    refine State.keepsTwl.trans ?_ (ih _)
    split
    · exact ite (keepsTwl_acyComplete s l k _ _ _ hl) (self s)
    · exact self s

theorem keepsTwl_stnTo (s : State) (l st state cause : Nat) (hl : l < 24) : s.keepsTwl (stnTo s l st state cause) := by
  unfold stnTo
  extract_lets y s1 _ s2 s3 s4 s5 s6
  have h2 : s.keepsTwl s2 := of_regs rfl
  have h3 : s.keepsTwl s3 := ite (h2.trans (keepsTwl_countReg s2 _ (.inl (by simp only [R.SFL_LOSS_CNT]; omega)))) h2
  have h4 : s.keepsTwl s4 := ite (h3.trans (keepsTwl_countReg s3 _ (.inl (by simp only [R.SFL_READMIT_CNT]; omega)))) h3
  have h5 : s.keepsTwl s5 := ite (h4.trans (keepsTwl_acyFail s4 l _ _ hl)) h4
  have h6 : s.keepsTwl s6 := ite h5 (h5.trans (keepsTwl_sflEvent s5 l 1 hl (by decide)))
  exact ite (h6.trans (keepsTwl_postEvents s6 _ _ _)) h6

theorem keepsTwl_linkTo (s : State) (l k : Nat) (hl : l < 24) : s.keepsTwl (linkTo s l k) := by
  unfold linkTo
  extract_lets _ s0 s1
  have h1 : s.keepsTwl s1 := (of_regs rfl : s.keepsTwl s0).trans
    ((keepsTwl_setFld s0 (F.SFL_STATUS_STATE l) k (.inl (by simp only [R.SFL_STATUS]; omega))).trans
      (keepsTwl_sflEvent _ l 0 hl (by decide)))
  exact h1.trans (keepsTwl_postEvents s1 _ _ _)

theorem keepsTwl_endTest (s : State) (l : Nat) (hl : l < 24) : s.keepsTwl (endTest s l) := by
  have hreg : (F.SFL_PAT_STATUS_ACTIVE l).reg < 0x40030000 := by simp only [R.SFL_PAT_STATUS]; omega
  unfold endTest
  extract_lets x s1 s2
  have h1 : s.keepsTwl s1 :=
    (keepsTwl_setFld s (F.SFL_PAT_STATUS_ACTIVE l) 0 (.inl hreg)).trans (keepsTwl_setFld _ (F.SFL_PAT_STATUS_SYNC l) 0 (.inl hreg))
  have h2 : s.keepsTwl s2 := h1.trans ((of_regs rfl).trans (keepsTwl_sflEvent (s1.setLnk l { x with testBy := none }) l 3 hl (by decide)))
  refine ite (self s) ?_
  split
  · exact h2.trans (keepsTwl_hostComplete s2 _ _)
  · exact h2

theorem keepsTwl_endTraffic (s : State) (l : Nat) (hl : l < 24) : s.keepsTwl (endTraffic s l) := by
  unfold endTraffic
  extract_lets _ s2 s3
  have h3 : s.keepsTwl s3 := (of_regs rfl : s.keepsTwl s2).trans (each (fun t st _ => by
    refine ite (of_regs rfl) ?_
    exact (keepsTwl_stnTo t l st 4 4 hl).trans (of_regs rfl)) s2)
  exact h3.trans (keepsTwl_acyFail s3 l _ _ hl)

theorem keepsTwl_linkDown (s : State) (l cause : Nat) (hl : l < 24) : s.keepsTwl (linkDown s l cause) := by
  by_cases h0 : s.linkState l = 0
  · rw [linkDown, if_pos h0]
    exact self s
  · rw [linkDown_open s l cause h0]
    exact (keepsTwl_endTest s l hl).trans
      ((keepsTwl_setFld _ (F.SFL_STATUS_DOWN_CAUSE l) cause (.inl (by simp only [R.SFL_STATUS]; omega))).trans
        ((keepsTwl_linkTo _ l 0 hl).trans (keepsTwl_endTraffic _ l hl)))

theorem keepsTwl_linksListen (s : State) : s.keepsTwl (linksListen s) :=
  each (fun t l hl => by
    have hl : l < 24 := List.mem_range.mp hl
    exact (keepsTwl_linkDown t l 0 hl).trans
      ((keepsTwl_setFld _ (F.SFL_STATUS_DOWN_CAUSE l) 0 (.inl (by simp only [R.SFL_STATUS]; omega))).trans (of_regs (State.setLnk_regs _ _ _)))) s

end

end Sys2Proof.Machine
end

section
/-! The Twin Link (R482 to R502): frames, training, roles, heartbeats, sets, handover and the warm reset. -/

namespace Sys2Proof.Machine

/-! ### Counters -/

theorem State.fld_lt (s : State) (f : Fld) : s.fld f < 2 ^ f.w := Nat.mod_lt _ (Nat.two_pow_pos _)

/-- A counter stops at its largest value. -/
theorem State.fld_count (s : State) (f : Fld) (h : f.lo + f.w ≤ 32) : (s.count f).fld f = min (2 ^ f.w - 1) (s.fld f + 1) := by
  have hlt := s.fld_lt f
  unfold State.count
  split
  next hroom => rw [State.fld_setFld _ _ _ h, Nat.mod_eq_of_lt hroom]; omega
  next hfull => omega

theorem State.fld_whole (s : State) (a : Nat) : s.fld ⟨a, 0, 32⟩ = (s.reg a).toNat := by
  simp only [State.fld, Fld.of, Nat.pow_zero, Nat.div_one]
  exact Nat.mod_eq_of_lt (s.reg a).isLt

theorem State.reg_countReg (s : State) (a : Nat) (h : s.reg a ≠ 0xFFFFFFFF) : (s.countReg a).reg a = s.reg a + 1 := by
  have hroom : (s.reg a).toNat + 1 < 2 ^ 32 := by bv_omega
  have hcount := s.fld_count ⟨a, 0, 32⟩ (by simp)
  rw [State.fld_whole, State.fld_whole] at hcount
  refine BitVec.eq_of_toNat_eq (hcount.trans ?_)
  bv_omega

/-! ### Frames -/

section
variable {s : State} {f : TwlFrame}

/-- A frame that the unit takes does what its TYPE says. -/
theorem onTwl_taken {ty : Nat} {k : State → State} (h : twlTakes s f ty) : onTwl s f ty k = k s := by
  obtain ⟨hwrap, hpow, hup, hhalt, hpass, hty⟩ := h
  have hlink : s.fld F.TWL_STATUS_LINK = 2 := of_decide_eq_true hup
  unfold onTwl
  rw [if_neg (by simp [hwrap, hpow, hlink, hhalt]), if_neg (by simp [hpass]), if_pos ⟨hty, hup⟩]

theorem onTwl_discards {ty : Nat} {k : State → State} (hwrap : s.wrapped R.TWL_CTRL = false) (hpow : s.powered 5 = true)
    (hlink : s.fld F.TWL_STATUS_LINK ≠ 0) (hhalt : s.dbgHalted = false) (hpass : f.passes = false) :
    onTwl s f ty k = s.countReg R.TWL_CRC_ERR := by
  unfold onTwl
  rw [if_neg (by simp [hwrap, hpow, hlink, hhalt]), if_pos (by simp [hpass])]

end

theorem twlSend_halted (s : State) (ty : Nat) (p : List Byte) (h : s.dbgHalted = true) : twlSend s ty p = s := if_pos h

/-- What is sent joins the output; the counter of its TYPE goes on, and nothing else. -/
theorem twlSend_only (s : State) (ty : Nat) (p : List Byte) :
    ∃ n o, twlSend s ty p = { s with twl := { s.twl with seqs := n, out := o } } := by
  unfold twlSend
  split
  · exact ⟨s.twl.seqs, s.twl.out, rfl⟩
  · exact ⟨_, _, rfl⟩

theorem twlSend_out (s : State) (ty : Nat) (p : List Byte) (h : s.dbgHalted = false) :
    (twlSend s ty p).twl.out = s.twl.out ++ [(ty, SMap.get (fun _ => 0) s.twl.seqs ty, p)] := by
  rw [twlSend, if_neg (Bool.eq_false_iff.mp h)]

theorem twlSend_regs (s : State) (ty : Nat) (p : List Byte) : (twlSend s ty p).regs = s.regs := by
  obtain ⟨n, o, h⟩ := twlSend_only s ty p
  rw [h]

/-! ### CMD WARM_RESET (R500) -/

theorem execWarmReset_taken {s : State} {f : TwlFrame} (h : twlTakes s f 6) (hlen : f.payload.length = 8) (hcode : f.pay 0 1 = 1) :
    exec (.warmReset f) s = .next (if s.standby then resetEntry s 10 3 else s.countReg R.TWL_CMD_IGN) := by
  refine congrArg Host.Outcome.next ((onTwl_taken h).trans ?_)
  rw [warmReset, if_neg (by simp [hlen, hcode])]

theorem exec_wreset (s : State) (h : s.accepts R.TWL_CTRL = true) : exec .wreset s = .next (wreset s) := atReg_open s _ _ _ h

/-- Settles O53: a frame that is taken runs `warmReset`; the command sent is code 1 with the cycle number 0. -/
theorem warmResetCommand : Obligations.WarmResetCommand := by
  unfold Obligations.WarmResetCommand
  refine ⟨fun f s h hlen hcode => ⟨fun hs => ?_, fun hs => ?_⟩, fun s ha hup hh => ⟨_, exec_wreset s ha, ?_⟩⟩
  · rw [execWarmReset_taken h hlen hcode, if_pos hs]
    rfl
  · rw [execWarmReset_taken h hlen hcode, if_neg (Bool.eq_false_iff.mp hs)]
  · rw [wreset, if_pos hup, twlSend_out s 6 _ hh]
    rfl

/-! ### Events of the Twin Link -/

theorem State.keepsTwl.fld {s t : State} (h : s.keepsTwl t) (f : Fld) (hlo : 0x40030000 ≤ f.reg) (hhi : f.reg < 0x40032000) :
    t.fld f = s.fld f := State.fld_congr (h f.reg hlo hhi)

theorem keepsTwl_twlEvent (s : State) (k : Nat) (hk : k < 4) : s.keepsTwl (twlEvent s k) := keepsTwl_evcIf s _ 228 k (by omega)

theorem keepsTwl_healthTell (s : State) : s.keepsTwl (healthTell s) := by
  unfold healthTell
  extract_lets w k
  exact State.keepsTwl.ite (.self s) ((State.keepsTwl.of_regs rfl).trans (keepsTwl_postEvents { s with hif := { s.hif with health := k } } _ _ _))

theorem keepsTwl_aonEvent (s : State) (k : Nat) (hk : k < 256) : s.keepsTwl (aonEvent s k) := by
  have hpend := keepsTwl_setReg s R.PMU_WAKE_PEND (if true then s.reg R.PMU_WAKE_PEND ||| word (2 ^ k) else s.reg R.PMU_WAKE_PEND &&& ~~~word (2 ^ k))
    (by decide)
  unfold aonEvent
  split
  · exact hpend.trans (keepsTwl_evcEvent _ k hk)
  · exact hpend
  · exact .self s

theorem twlEvent_only (s : State) (k : Nat) : s.onlyRegs (twlEvent s k) := evcIf_only s _ _ k

theorem twlEvent_reg (s : State) (k b : Nat) (hk : k < 4) (hb : 0x40004280 ≤ b) : (twlEvent s k).reg b = s.reg b :=
  evcIf_reg_above s _ 228 k b (by omega) hb

theorem State.onlyRegs.twl_eq {s t : State} (h : s.onlyRegs t) : t.twl = s.twl := by obtain ⟨r, rfl⟩ := h; rfl

/-! ### The link's state (R482) -/

theorem twlTo_link (s : State) (st : Nat) (hst : st < 8) : (twlTo s st).fld F.TWL_STATUS_LINK = st := by
  unfold twlTo
  split
  next h => exact h
  next =>
    rw [(keepsTwl_twlEvent _ 0 (by decide)).fld F.TWL_STATUS_LINK (by decide) (by decide), State.fld_setFld _ _ _ (by decide)]
    exact Nat.mod_eq_of_lt hst

theorem twlTo_fld (s : State) (st : Nat) (f : Fld) (hlo : 0x40030000 ≤ f.reg) (hhi : f.reg < 0x40032000) (hne : f.reg ≠ R.TWL_STATUS) :
    (twlTo s st).fld f = s.fld f := by
  unfold twlTo
  split
  · rfl
  · rw [(keepsTwl_twlEvent _ 0 (by decide)).fld f hlo hhi, State.fld_setFld_other _ F.TWL_STATUS_LINK f st hne]

theorem twlDown_link (s : State) : (twlDown s).fld F.TWL_STATUS_LINK = 0 := twlTo_link _ 0 (by decide)

theorem twlTrain_off (s : State) (h : s.flag F.TWL_CTRL_EN = false) : twlTrain s = s := by
  unfold twlTrain
  exact if_neg fun hc => Bool.eq_false_iff.mp h hc.2.1

theorem twlTrain_halted (s : State) (h : s.dbgHalted = true) : twlTrain s = s := by
  unfold twlTrain
  exact if_neg fun ⟨_, _, _, _, hh⟩ => Bool.eq_false_iff.mp hh h

theorem twlTrain_starts (s : State) (hlink : s.fld F.TWL_STATUS_LINK = 0) (hen : s.flag F.TWL_CTRL_EN = true)
    (hx : s.flag F.CKG_STATUS_XTAL_GOOD = true) (hs : s.serves R.TWL_CTRL = true) (hh : s.dbgHalted = false) :
    (twlTrain s).fld F.TWL_STATUS_LINK = 1 := by
  unfold twlTrain
  rw [if_pos ⟨hlink, hen, hx, hs, hh⟩]
  exact twlTo_link _ 1 (by decide)

/-! ### Rows of the link's state -/

theorem exec_twlTrainRetry (s : State) : exec .twlTrainRetry s = .next (twlTrain s) := rfl

theorem exec_twlEnable (en : Bool) (s : State) (h : s.accepts R.TWL_CTRL = true) : exec (.twlEnable en) s = .next (twlEn s en) :=
  atReg_open s _ _ _ h

theorem exec_handoverRequest (s : State) (h : s.accepts R.TWL_CTRL = true) : exec .handoverRequest s = .next (requestHandover s) :=
  atReg_open s _ _ _ h

theorem accepts_cntClr (s : State) : s.accepts R.TWL_CNT_CLR = s.accepts R.TWL_CTRL := by
  have hwrap : behindWrapper R.TWL_CNT_CLR = behindWrapper R.TWL_CTRL := by decide
  have hdom : domainOf R.TWL_CNT_CLR = domainOf R.TWL_CTRL := by decide
  simp only [State.accepts, State.wrapped, asleep, hwrap, hdom]

theorem exec_twlCntClr (s : State) (h : s.accepts R.TWL_CTRL = true) : exec .twlCntClr s = .next (twlCntClr s) :=
  atReg_open s _ _ _ ((accepts_cntClr s).trans h)

theorem twlCntClr_counters (s : State) : ∀ a ∈ [R.TWL_HB_MISS_CNT, R.TWL_SET_CNT, R.TWL_SET_SKIP, R.TWL_CRC_ERR, R.TWL_CMD_IGN,
    R.TWL_REFUSE_CNT], (twlCntClr s).reg a = 0 := by
  have hcleared : ∀ a ∈ [R.TWL_HB_MISS_CNT, R.TWL_SET_CNT, R.TWL_SET_SKIP, R.TWL_CRC_ERR, R.TWL_CMD_IGN, R.TWL_REFUSE_CNT],
      within a R.TWL_HB_MISS_CNT 0x18 = true ∧ regReset a = 0 := by decide
  intro a ha
  obtain ⟨hin, hreset⟩ := hcleared a ha
  rw [twlCntClr, State.reg_resetRegs, if_pos hin, hreset]

theorem twlCntClr_status (s : State) : (twlCntClr s).reg R.TWL_STATUS = s.reg R.TWL_STATUS := by
  rw [twlCntClr, State.reg_resetRegs, if_neg (by decide)]

theorem exec_twlTrainTimeout_training (s : State) (h : s.fld F.TWL_STATUS_LINK = 1) (hh : s.dbgHalted = false) :
    exec .twlTrainTimeout s = .next (twlDown s) := if_pos ⟨h, hh⟩

theorem exec_twlTrainTimeout_else (s : State) (h : s.fld F.TWL_STATUS_LINK ≠ 1 ∨ s.dbgHalted = true) :
    exec .twlTrainTimeout s = .next s := by
  refine if_neg fun ⟨hl, hh⟩ => ?_
  rcases h with h | h
  · exact h hl
  · exact Bool.eq_false_iff.mp hh h

theorem exec_twlLaneSyncLoss_down (s : State) (h : s.fld F.TWL_STATUS_LINK = 0) : exec .twlLaneSyncLoss s = .next s := if_pos h

theorem exec_twlLaneSyncLoss (s : State) (h : s.fld F.TWL_STATUS_LINK ≠ 0) : exec .twlLaneSyncLoss s = .next (twlDown s) := if_neg h

theorem exec_twlLanesDeskewed (s : State) (h : s.fld F.TWL_STATUS_LINK = 1) (hd : s.twl.deskewed = false) (hh : s.dbgHalted = false) :
    exec .twlLanesDeskewed s = .next (twlSend { s with twl := { s.twl with deskewed := true, echoes := 0 } } 7 (echoPayload s 1 0)) :=
  if_pos ⟨h, hd, hh⟩

theorem exec_twlLanesDeskewed_halted (s : State) (hh : s.dbgHalted = true) : exec .twlLanesDeskewed s = .next s :=
  if_neg fun ⟨_, _, h⟩ => Bool.eq_false_iff.mp h hh

theorem exec_heartbeatMillisecond_cycle (s : State) (h : s.cyc.inCycle = true) (hh : s.cycHalted = false) :
    exec .heartbeatMillisecond s = .next s := if_pos (by simp [h, hh])

theorem exec_heartbeatMillisecond (s : State) (h : s.cyc.inCycle = false ∨ s.cycHalted = true) :
    exec .heartbeatMillisecond s = .next (sendHeartbeat s) := if_neg (by rcases h with h | h <;> simp [h])

theorem sendHeartbeat_up (s : State) (h : s.twlUp = true) : sendHeartbeat s = twlSend s 1 (heartbeat s) := if_pos h

theorem sendHeartbeat_notUp (s : State) (h : s.twlUp = false) : sendHeartbeat s = s := if_neg (Bool.eq_false_iff.mp h)

theorem cycHalted_of_dbg (s : State) (h : s.dbgHalted = true) : s.cycHalted = true := by simp [State.cycHalted, h]

theorem exec_heartbeatMillisecond_notUp (s : State) (h : s.twlUp = false) : exec .heartbeatMillisecond s = .next s := by
  by_cases hc : s.cyc.inCycle = true ∧ s.cycHalted = false
  · exact exec_heartbeatMillisecond_cycle s hc.1 hc.2
  · rw [exec_heartbeatMillisecond s (by simpa [Classical.or_iff_not_imp_left] using hc), sendHeartbeat_notUp s h]

theorem exec_heartbeatMillisecond_halted (s : State) (h : s.dbgHalted = true) : exec .heartbeatMillisecond s = .next s := by
  rw [exec_heartbeatMillisecond s (.inr (cycHalted_of_dbg s h)), sendHeartbeat]
  split
  · rw [twlSend_halted s 1 _ h]
  · rfl

/-! ### ECHO (R482, R484) -/

section
variable {s : State} {f : TwlFrame} {rt turn : Word} (hlink : s.fld F.TWL_STATUS_LINK ≠ 0) (hh : s.dbgHalted = false)
include hlink hh

theorem exec_echo_bad (hp : f.passes = false) : exec (.echo f rt turn) s = .next (s.countReg R.TWL_CRC_ERR) := by
  refine (if_neg (by simp [hlink, hh])).trans (if_pos ?_)
  simp [hp]

theorem exec_echo (hp : f.passes = true) (hty : f.type = 7) (hlen : f.payload.length = 16) : exec (.echo f rt turn) s =
    if f.pay 0 1 = 1 then .next (twlSend s 7 (echoPayload s 2 turn.toNat))
    else if f.pay 0 1 = 2 ∧ s.fld F.TWL_STATUS_LINK = 1 ∧ s.twl.deskewed = true then .next (echoAnswer s f rt.toNat)
    else .next s := by
  refine (if_neg (by simp [hlink, hh])).trans ((if_neg ?_).trans (if_neg ?_))
  · simp [hp]
  · simp [hty, hlen]

end

/-- The eighth answer ends TRAIN with the delay of the fastest exchange. -/
theorem echoAnswer_eighth (s : State) (f : TwlFrame) (rt : Nat) (h : s.twl.echoes = 7) :
    (echoAnswer s f rt).fld F.TWL_STATUS_LINK = 2 ∧
      (echoAnswer s f rt).fld F.TWL_DELAY_NS = min 65535 ((min s.twl.best (rt - f.pay 12 4) + 1) / 2) := by
  unfold echoAnswer
  extract_lets v n best s1
  have hbest : best = min s.twl.best v := if_neg (by omega)
  rw [if_pos (by omega), twlTo_link _ 2 (by decide), twlTo_fld _ 2 F.TWL_DELAY_NS (by decide) (by decide) (by decide),
    State.fld_setFld _ _ _ (by decide), hbest]
  exact ⟨rfl, Nat.mod_eq_of_lt (by show min 65535 _ < 65536; omega)⟩

/-! ### Roles (R486, R487) -/

theorem setRole_role (s : State) (r : Nat) (hr : r < 4) : twlRole (setRole s r) = r := by
  unfold setRole
  extract_lets s1 _ s2
  split
  next h => exact h
  next =>
    have h2 : s2.fld F.TWL_STATUS_ROLE = r := by
      show s1.fld F.TWL_STATUS_ROLE = r
      rw [State.fld_setFld_apart _ F.TWL_STATUS_MISSED F.TWL_STATUS_ROLE 0 (by decide) (by decide), State.fld_setFld _ _ _ (by decide)]
      exact Nat.mod_eq_of_lt hr
    exact (((keepsTwl_twlEvent s2 1 (by decide)).trans (keepsTwl_healthTell _)).fld F.TWL_STATUS_ROLE (by decide) (by decide)).trans h2

/-- A change of role leaves the other fields of the status but MISSED. -/
theorem setRole_epoch (s : State) (r : Nat) : (setRole s r).fld F.TWL_STATUS_PAIR_EPOCH = s.fld F.TWL_STATUS_PAIR_EPOCH := by
  unfold setRole
  extract_lets s1 _ s2
  split
  · rfl
  · rw [((keepsTwl_twlEvent s2 1 (by decide)).trans (keepsTwl_healthTell _)).fld F.TWL_STATUS_PAIR_EPOCH (by decide) (by decide)]
    show s1.fld F.TWL_STATUS_PAIR_EPOCH = _
    rw [State.fld_setFld_apart _ F.TWL_STATUS_MISSED F.TWL_STATUS_PAIR_EPOCH 0 (by decide) (by decide),
      State.fld_setFld_apart _ F.TWL_STATUS_ROLE F.TWL_STATUS_PAIR_EPOCH r (by decide) (by decide)]

/-! What the standby judges is told in PLAN_OK, CFG_DIFF and READY alone. -/

theorem setReady_fld (s : State) (v : Bool) (f : Fld) (hr : f.reg = R.TWL_STATUS) (hf : 4 ≤ f.lo) : (setReady s v).fld f = s.fld f := by
  unfold setReady
  split
  · rfl
  · rw [(keepsTwl_twlEvent _ 3 (by decide)).fld f (by rw [hr]; decide) (by rw [hr]; decide),
      State.fld_setFld_above _ F.TWL_STATUS_READY f _ (by decide) hr hf]

theorem setReady_reg (s : State) (v : Bool) (b : Nat) (hb : 0x40004280 ≤ b) (hne : b ≠ R.TWL_STATUS) : (setReady s v).reg b = s.reg b := by
  unfold setReady
  split
  · rfl
  · rw [twlEvent_reg _ 3 b (by decide) hb, State.reg_setFld_ne _ F.TWL_STATUS_READY _ b hne]

theorem setReady_twl (s : State) (v : Bool) : (setReady s v).twl = s.twl := by
  unfold setReady
  split
  · rfl
  · rw [(twlEvent_only _ 3).twl_eq, State.setFld_twl]

theorem twlJudge_fld (s : State) (f : Fld) (hr : f.reg = R.TWL_STATUS) (hf : 6 ≤ f.lo) : (twlJudge s).fld f = s.fld f := by
  unfold twlJudge
  extract_lets ok diff fresh s1 _ s2
  have h1 : s1.fld f = s.fld f := by
    rw [State.fld_setFld_above _ F.TWL_STATUS_CFG_DIFF f _ (by decide) hr hf,
      State.fld_setFld_above _ F.TWL_STATUS_PLAN_OK f _ (by decide) hr (by show 4 + 1 ≤ f.lo; omega)]
  have h2 : s2.fld f = s1.fld f := by
    unfold s2
    split <;> rfl
  rw [setReady_fld s2 _ f hr (by omega), h2, h1]

theorem twlJudge_reg (s : State) (b : Nat) (hb : 0x40004280 ≤ b) (hne : b ≠ R.TWL_STATUS) : (twlJudge s).reg b = s.reg b := by
  unfold twlJudge
  extract_lets ok diff fresh s1 _ s2
  have h1 : s1.reg b = s.reg b := by
    rw [State.reg_setFld_ne _ F.TWL_STATUS_CFG_DIFF _ b hne, State.reg_setFld_ne _ F.TWL_STATUS_PLAN_OK _ b hne]
  have h2 : s2.reg b = s1.reg b := by
    unfold s2
    split <;> rfl
  rw [setReady_reg s2 _ b hb hne, h2, h1]

/-- Of the unit's own state the judgement changes the mark of a full set alone. -/
theorem twlJudge_twl (s : State) : ∃ x, (twlJudge s).twl = { s.twl with fullApplied := x } := by
  unfold twlJudge
  extract_lets ok diff fresh s1 _ s2
  have h1 : s1.twl = s.twl := by rw [State.setFld_twl, State.setFld_twl]
  rw [setReady_twl]
  unfold s2
  split
  · exact ⟨false, congrArg (fun x : Twl => { x with fullApplied := false }) h1⟩
  · exact ⟨s.twl.fullApplied, h1⟩

/-! A write of ROLE. -/

section
variable {s : State}

theorem exec_twlRoleWrite (r : Fin 4) (h : s.accepts R.TWL_CTRL = true) : exec (.twlRoleWrite r) s = .next (roleWrite s r.val) :=
  atReg_open s _ _ _ h

theorem twlRole_setCtrl (s : State) (v : Nat) : twlRole (s.setFld F.TWL_CTRL_ROLE v) = twlRole s :=
  State.fld_setFld_other s F.TWL_CTRL_ROLE F.TWL_STATUS_ROLE v (by decide)

theorem cycEn_setCtrl (s : State) (v : Nat) : (s.setFld F.TWL_CTRL_ROLE v).cycEn = s.cycEn :=
  State.flag_setFld_apart s F.TWL_CTRL_ROLE F.CYC_CTRL_EN v (by decide) (by decide)

variable (h0 : twlRole s = 0) (hc : s.cycEn = false) (hcl : s.twl.claim = false)
include h0 hc hcl

theorem roleWrite_free (v : Nat) : ¬ (twlRole (s.setFld F.TWL_CTRL_ROLE v) ≠ 0 ∨ (s.setFld F.TWL_CTRL_ROLE v).cycEn = true ∨
    (s.setFld F.TWL_CTRL_ROLE v).twl.claim = true) := by
  rw [twlRole_setCtrl, cycEn_setCtrl, State.setFld_twl]
  simp [h0, hc, hcl]

/-- A claim begins. -/
theorem roleWrite_claims : roleWrite s 1 = (let t := s.setFld F.TWL_CTRL_ROLE 1
    { t with twl := { t.twl with claim := true, claimLost := false } }) := if_neg (roleWrite_free h0 hc hcl 1)

theorem roleWrite_noPeer (hp : s.twl.peer = none) : roleWrite s 2 = refuse (s.setFld F.TWL_CTRL_ROLE 2) := by
  refine (if_neg (roleWrite_free h0 hc hcl 2)).trans ((if_neg (by decide)).trans ((if_pos rfl).trans ?_))
  have hp : (s.setFld F.TWL_CTRL_ROLE 2).twl.peer = none := by rw [State.setFld_twl, hp]
  show (match (s.setFld F.TWL_CTRL_ROLE 2).twl.peer with | some b => _ | none => _) = _
  rw [hp]
  rfl

/-- The standby's role is granted: its links listen, and the pair's epoch is the primary's. -/
theorem roleWrite_standby {b : Beat} (hp : s.twl.peer = some b) (hup : s.twlUp = true) (hb : b.role = 1) :
    roleWrite s 2 = twlJudge ((linksListen (setRole (s.setFld F.TWL_CTRL_ROLE 2) 2)).setFld F.TWL_STATUS_PAIR_EPOCH b.epoch) := by
  refine (if_neg (roleWrite_free h0 hc hcl 2)).trans ((if_neg (by decide)).trans ((if_pos rfl).trans ?_))
  have hp : (s.setFld F.TWL_CTRL_ROLE 2).twl.peer = some b := by rw [State.setFld_twl, hp]
  have hup : (s.setFld F.TWL_CTRL_ROLE 2).twlUp = true := by
    rw [State.twlUp, State.fld_setFld_other s F.TWL_CTRL_ROLE F.TWL_STATUS_LINK 2 (by decide)]
    exact hup
  show (match (s.setFld F.TWL_CTRL_ROLE 2).twl.peer with | some b => _ | none => _) = _
  rw [hp]
  exact if_pos ⟨hup, hb⟩

end

theorem refuse_role (s : State) : twlRole (refuse s) = twlRole s :=
  State.fld_congr (State.reg_countReg_ne s R.TWL_REFUSE_CNT R.TWL_STATUS (by decide))

/-- The role and the pair's epoch after a grant. -/
theorem standbyGranted (s : State) (e : Nat) (he : e < 16) :
    let t := twlJudge ((linksListen (setRole s 2)).setFld F.TWL_STATUS_PAIR_EPOCH e)
    twlRole t = 2 ∧ t.fld F.TWL_STATUS_PAIR_EPOCH = e := by
  refine ⟨?_, ?_⟩
  · rw [twlRole, twlJudge_fld _ F.TWL_STATUS_ROLE rfl (by decide),
      State.fld_setFld_apart _ F.TWL_STATUS_PAIR_EPOCH F.TWL_STATUS_ROLE e (by decide) (by decide),
      (keepsTwl_linksListen (setRole s 2)).fld F.TWL_STATUS_ROLE (by decide) (by decide)]
    exact setRole_role s 2 (by decide)
  · rw [twlJudge_fld _ F.TWL_STATUS_PAIR_EPOCH rfl (by decide), State.fld_setFld _ _ _ (by decide)]
    exact Nat.mod_eq_of_lt he

/-! The end of a claim. -/

/-- The pair's epoch that a device takes with PRIMARY. -/
def claimEpoch (s : State) : Nat := match s.twl.heardEpoch with | some e => e % 15 + 1 | none => 1

theorem claimEpoch_lt (s : State) : claimEpoch s < 16 := by
  unfold claimEpoch
  split <;> omega

theorem exec_primaryClaimEnd_none (s : State) (h : s.twl.claim = false) : exec .primaryClaimEnd s = .next s := if_pos (by simp [h])

theorem exec_primaryClaimEnd_lost (s : State) (h : s.twl.claim = true) (hl : s.twl.claimLost = true) (hh : s.dbgHalted = false) :
    exec .primaryClaimEnd s = .next (refuse { s with twl := { s.twl with claim := false } }) :=
  (if_neg (by simp [h, hh])).trans (if_pos hl)

theorem exec_primaryClaimEnd (s : State) (h : s.twl.claim = true) (hl : s.twl.claimLost = false) (hh : s.dbgHalted = false) :
    exec .primaryClaimEnd s = .next (setRole (s.setFld F.TWL_STATUS_PAIR_EPOCH (claimEpoch s)) 1) :=
  (if_neg (by simp [h, hh])).trans (if_neg (Bool.eq_false_iff.mp hl))

/-! ### Heartbeats (R485, R488, R495) -/

theorem exec_heartbeat_bad (f : TwlFrame) (ok : Bool) (cl : Option Bool) (s : State) (hw : s.wrapped R.TWL_CTRL = false)
    (hp : s.powered 5 = true) (hl : s.fld F.TWL_STATUS_LINK ≠ 0) (hh : s.dbgHalted = false) (hf : f.passes = false) :
    exec (.heartbeat f ok cl) s = .next (s.countReg R.TWL_CRC_ERR) :=
  congrArg Host.Outcome.next (onTwl_discards hw hp hl hh hf)

theorem exec_heartbeat {f : TwlFrame} {ok : Bool} {cl : Option Bool} {s : State} (h : twlTakes s f 1) (hlen : f.payload.length = 0x3C) :
    exec (.heartbeat f ok cl) s = .next (hearBeat s (beatOf f) ok cl) :=
  congrArg Host.Outcome.next ((onTwl_taken h).trans (if_pos hlen))

/-- The state of a standby that has heard the primary in time, before its judgement. -/
def beatTaken (s : State) (b : Beat) : State :=
  let t := ((s.setReg R.CYC_CYCNUM (word b.cycle)).setReg R.CYC_TRACK_LO (word b.track)).setReg R.CYC_TRACK_HI (word (b.track / 2 ^ 32))
  { t.setFld F.TWL_STATUS_MISSED 0 with twl := { t.twl with sinceSet := t.twl.sinceSet + 1 } }

theorem standbyHears_eq (s : State) (b : Beat) (hb : b.role = 1) (hc : s.cycEn = true) : standbyHears s b true = twlJudge (beatTaken s b) := by
  refine (if_neg (not_not_intro hb)).trans ?_
  simp only [hc, if_true]
  rfl

theorem standbyHears_shows (s : State) (b : Beat) (hb : b.role = 1) (hc : s.cycEn = true) :
    (standbyHears s b true).fld F.TWL_STATUS_MISSED = 0 ∧ (standbyHears s b true).reg R.CYC_CYCNUM = word b.cycle ∧
      (standbyHears s b true).reg R.CYC_TRACK_LO = word b.track := by
  let t := ((s.setReg R.CYC_CYCNUM (word b.cycle)).setReg R.CYC_TRACK_LO (word b.track)).setReg R.CYC_TRACK_HI (word (b.track / 2 ^ 32))
  have hregs : (beatTaken s b).regs = (t.setFld F.TWL_STATUS_MISSED 0).regs := rfl
  rw [standbyHears_eq s b hb hc]
  refine ⟨?_, ?_, ?_⟩
  · rw [twlJudge_fld _ F.TWL_STATUS_MISSED rfl (by decide), State.fld_congr (State.reg_congr _ hregs)]
    exact State.fld_setFld t F.TWL_STATUS_MISSED 0 (by decide)
  · rw [twlJudge_reg _ R.CYC_CYCNUM (by decide) (by decide), State.reg_congr _ hregs,
      State.reg_setFld_ne t F.TWL_STATUS_MISSED 0 _ (by decide), State.reg_setReg_ne _ _ _ _ (by decide),
      State.reg_setReg_ne _ _ _ _ (by decide), State.reg_setReg]
  · rw [twlJudge_reg _ R.CYC_TRACK_LO (by decide) (by decide), State.reg_congr _ hregs,
      State.reg_setFld_ne t F.TWL_STATUS_MISSED 0 _ (by decide), State.reg_setReg_ne _ _ _ _ (by decide), State.reg_setReg]

theorem primaryHears_same (s : State) (b : Beat) (hb : b.role = 1) (he : b.epoch = s.fld F.TWL_STATUS_PAIR_EPOCH) :
    primaryHears s b = raiseNmi (twlEvent s 2) 4 := (if_neg (not_not_intro hb)).trans (if_pos he)

theorem primaryHears_newer (s : State) (b : Beat) (hb : b.role = 1) (he : b.epoch ≠ s.fld F.TWL_STATUS_PAIR_EPOCH)
    (hn : epochNewer b.epoch (s.fld F.TWL_STATUS_PAIR_EPOCH) = true) : twlRole (primaryHears s b) = 0 := by
  have heq : primaryHears s b = (setRole s 0).setFld F.TWL_STATUS_PAIR_EPOCH 0 :=
    (if_neg (not_not_intro hb)).trans ((if_neg he).trans (if_pos hn))
  rw [heq, twlRole, State.fld_setFld_apart _ F.TWL_STATUS_PAIR_EPOCH F.TWL_STATUS_ROLE 0 (by decide) (by decide)]
  exact setRole_role s 0 (by decide)

/-- The state of a standby that counts a missed heartbeat, before its judgement. -/
def beatMissed (s : State) : State := aonEvent ((s.count F.TWL_STATUS_MISSED).countReg R.TWL_HB_MISS_CNT) 15

theorem exec_heartbeatMissed (s : State) (hs : s.standby = true) (hc : s.cycEn = true) (hh : s.cycHalted = false) :
    exec .heartbeatMissed s = .next (twlJudge (beatMissed s)) := if_pos (by simp [hs, hc, hh])

theorem exec_heartbeatMissed_not (s : State) (h : s.standby = false ∨ s.cycEn = false ∨ s.cycHalted = true) :
    exec .heartbeatMissed s = .next s := if_neg (by rcases h with h | h | h <;> simp [h])

theorem beatMissed_shows (s : State) : (twlJudge (beatMissed s)).fld F.TWL_STATUS_MISSED = min 15 (s.fld F.TWL_STATUS_MISSED + 1) ∧
    (s.reg R.TWL_HB_MISS_CNT ≠ 0xFFFFFFFF → (twlJudge (beatMissed s)).reg R.TWL_HB_MISS_CNT = s.reg R.TWL_HB_MISS_CNT + 1) := by
  have hkeep : ((s.count F.TWL_STATUS_MISSED).countReg R.TWL_HB_MISS_CNT).keepsTwl (beatMissed s) := keepsTwl_aonEvent _ 15 (by decide)
  have hcnt : (s.count F.TWL_STATUS_MISSED).reg R.TWL_HB_MISS_CNT = s.reg R.TWL_HB_MISS_CNT :=
    s.reg_count_ne F.TWL_STATUS_MISSED R.TWL_HB_MISS_CNT (by decide)
  refine ⟨?_, fun h => ?_⟩
  · rw [twlJudge_fld _ F.TWL_STATUS_MISSED rfl (by decide), hkeep.fld F.TWL_STATUS_MISSED (by decide) (by decide),
      State.fld_congr (State.reg_countReg_ne _ R.TWL_HB_MISS_CNT R.TWL_STATUS (by decide)), State.fld_count s _ (by decide)]
    rfl
  · rw [twlJudge_reg _ R.TWL_HB_MISS_CNT (by decide) (by decide), hkeep R.TWL_HB_MISS_CNT (by decide) (by decide),
      State.reg_countReg _ _ (by rw [hcnt]; exact h), hcnt]

/-! ### Sets (R491 to R493) -/

section
variable {s : State} {f : TwlFrame}

theorem exec_shadow (h : twlTakes s f 2) : exec (.shadow f) s = .next (shadow s f) := congrArg Host.Outcome.next (onTwl_taken h)
theorem exec_shend (h : twlTakes s f 3) : exec (.shend f) s = .next (shend s f) := congrArg Host.Outcome.next (onTwl_taken h)
theorem exec_shack (h : twlTakes s f 4) : exec (.shack f) s = .next (shack s f) := congrArg Host.Outcome.next (onTwl_taken h)
theorem exec_linkstate (h : twlTakes s f 5) : exec (.linkstate f) s = .next (keepTable s f) := congrArg Host.Outcome.next (onTwl_taken h)

theorem shadow_notStandby (h : s.standby = false) : shadow s f = s := if_pos h
theorem shend_notStandby (h : s.standby = false) : shend s f = s := if_pos (.inl h)
theorem keepTable_notStandby (h : s.standby = false) : keepTable s f = s := if_pos (.inl h)
theorem shack_notPrimary (h : s.primary = false) : shack s f = s := if_pos (.inr h)

/-- A set that the plans do not permit is refused at its end. -/
theorem shend_refuses (hs : s.standby = true) (hlen : f.payload.length = 12) (hok : s.flag F.TWL_STATUS_PLAN_OK = false) :
    shend s f = sendShack { s with twl := { s.twl with rx := none } } (f.pay 0 4) 1 :=
  (if_neg (by simp [hs, hlen])).trans (if_neg fun ⟨_, _, _, _, h⟩ => Bool.eq_false_iff.mp hok h)

end

theorem sendShack_up (s : State) (set result : Nat) (h : s.twlUp = true) :
    sendShack s set result = twlSend s 4 (leBytes 4 set ++ [BitVec.ofNat 8 result, 0, 0, 0]) := if_pos h

theorem sendShack_only (s : State) (set result : Nat) :
    ∃ n o, sendShack s set result = { s with twl := { s.twl with seqs := n, out := o } } := by
  unfold sendShack
  split
  · exact twlSend_only s 4 _
  · exact ⟨s.twl.seqs, s.twl.out, rfl⟩

/-! ### The application of a set (R493) -/

theorem exec_setApplication_none (s : State) (h : s.twl.ready' = none) : exec .setApplication s = .next s := by
  show (match s.twl.ready' with | some x => _ | none => _) = _
  rw [h]

theorem exec_setApplication_some (s : State) (x : TwlSet) (h : s.twl.ready' = some x) : exec .setApplication s =
    if !s.standby || s.dbgHalted then .next s
    else if s.flag F.TWL_STATUS_PLAN_OK then .next (applySet s x)
    else .next (sendShack { s with twl := { s.twl with ready' := none } } x.cycle 1) := by
  show (match s.twl.ready' with | some x => _ | none => _) = _
  rw [h]

theorem exec_setApplication_not (s : State) (h : s.standby = false ∨ s.dbgHalted = true) : exec .setApplication s = .next s := by
  cases hr : s.twl.ready' with
  | none => exact exec_setApplication_none s hr
  | some x =>
    rw [exec_setApplication_some s x hr]
    exact if_pos (by rcases h with h | h <;> simp [h])

section
variable {s : State} {x : TwlSet} (hx : s.twl.ready' = some x) (hs : s.standby = true) (hh : s.dbgHalted = false)
include hx hs hh

theorem exec_setApplication_applies (hok : s.flag F.TWL_STATUS_PLAN_OK = true) : exec .setApplication s = .next (applySet s x) := by
  rw [exec_setApplication_some s x hx, if_neg (by simp [hs, hh]), if_pos hok]

theorem exec_setApplication_refuses (hok : s.flag F.TWL_STATUS_PLAN_OK = false) :
    exec .setApplication s = .next (sendShack { s with twl := { s.twl with ready' := none } } x.cycle 1) := by
  rw [exec_setApplication_some s x hx, if_neg (by simp [hs, hh]), if_neg (Bool.eq_false_iff.mp hok)]

end

/-- A refusal changes what has been sent alone. -/
theorem setRefused_shows (s : State) (cycle : Nat) (hh : s.dbgHalted = false) :
    let t := sendShack { s with twl := { s.twl with ready' := none } } cycle 1
    t.twl.ready' = none ∧ t.regs = s.regs ∧ (s.twlUp = true → t.twl.out = s.twl.out ++
      [(4, SMap.get (fun _ => 0) s.twl.seqs 4, leBytes 4 cycle ++ [1, 0, 0, 0])]) := by
  obtain ⟨n, o, h⟩ := sendShack_only { s with twl := { s.twl with ready' := none } } cycle 1
  refine ⟨by rw [h], by rw [h], fun hup => ?_⟩
  rw [sendShack_up { s with twl := { s.twl with ready' := none } } cycle 1 hup]
  exact twlSend_out { s with twl := { s.twl with ready' := none } } 4 _ hh

/-- The set that is applied is the last one, and none is held. -/
theorem applySet_twl (s : State) (x : TwlSet) :
    (applySet s x).twl.ready' = none ∧ (applySet s x).twl.lastApplied = x.cycle ∧ (applySet s x).twl.sinceSet = 0 := by
  unfold applySet
  extract_lets s1 s2 s3 _ s4
  obtain ⟨n, o, hsent⟩ := sendShack_only s4 x.cycle 0
  obtain ⟨a, hjudged⟩ := twlJudge_twl (sendShack s4 x.cycle 0)
  rw [hjudged, hsent]
  exact ⟨rfl, rfl, rfl⟩

/-! ### Handover (R499) -/

theorem requestHandover_refused (s : State) (h : s.primary = false ∨ s.twlUp = false ∨ s.twl.peer = none) :
    requestHandover s = s.countReg R.TWL_REFUSE_CNT :=
  if_neg (by rcases h with h | h | h <;> simp [h])

theorem exec_handoverCmd {s : State} {f : TwlFrame} (h : twlTakes s f 6) (hs : s.standby = true) (hr : s.flag F.TWL_STATUS_READY = true)
    (hlen : f.payload.length = 8) (hcode : f.pay 0 1 = 2) : exec (.handoverCmd f) s =
    .next (twlSend { s with twl := { s.twl with handTake := some (f.pay 4 4) } } 6 (cmdPayload 3 (f.pay 4 4))) :=
  congrArg Host.Outcome.next ((onTwl_taken h).trans (if_pos ⟨hs, hr, hlen, hcode⟩))

theorem exec_handoverAck {s : State} {f : TwlFrame} (h : twlTakes s f 6) (hp : s.primary = true) (hlen : f.payload.length = 8)
    (hcode : f.pay 0 1 = 3) (hh : s.twl.handover = some (f.pay 4 4)) : exec (.handoverAck f) s =
    .next { s with twl := { s.twl with handAcked := true } } :=
  congrArg Host.Outcome.next ((onTwl_taken h).trans (if_pos ⟨hp, hlen, hcode, hh⟩))

theorem exec_socSeen_deaf (l : Fin 24) (b : KBlock) (ofs : BitVec 16) (s : State) (h : s.listens l.val = false) :
    exec (.socSeen l b ofs) s = .next s := if_neg fun hc => Bool.eq_false_iff.mp h hc.1

theorem exec_socSeen (l : Fin 24) (b : KBlock) (ofs : BitVec 16) (s : State) (h : s.listens l.val = true) (hb : blockOk b = true)
    (he : b.flags.toNat / 16 = s.fld F.TWL_STATUS_PAIR_EPOCH) : exec (.socSeen l b ofs) s =
    .next (s.setLnk l.val { s.lnk l.val with socSeen := true, lineOfs := (ofs.toNat :: (s.lnk l.val).lineOfs).take 16 }) :=
  if_pos ⟨h, hb, he⟩

/-! ### The statement -/

theorem twlEnable_rows (s : State) (h : s.accepts R.TWL_CTRL = true) :
    ∃ t, exec .twlCntClr s = .next t ∧ t.reg R.TWL_HB_MISS_CNT = 0 ∧ t.reg R.TWL_SET_CNT = 0 ∧ t.reg R.TWL_SET_SKIP = 0 ∧
      t.reg R.TWL_CRC_ERR = 0 ∧ t.reg R.TWL_CMD_IGN = 0 ∧ t.reg R.TWL_REFUSE_CNT = 0 ∧ t.reg R.TWL_STATUS = s.reg R.TWL_STATUS :=
  have hzero := twlCntClr_counters s
  ⟨_, exec_twlCntClr s h, hzero _ (by decide), hzero _ (by decide), hzero _ (by decide), hzero _ (by decide), hzero _ (by decide),
    hzero _ (by decide), twlCntClr_status s⟩

/-- Settles O52: each row by the lemma of its case; the role after a grant since a link that goes down leaves the unit's registers
(`keepsTwl_linkDown`). -/
theorem twinLink : Obligations.TwinLink := by
  unfold Obligations.TwinLink
  refine ⟨fun s ha => ⟨exec_twlEnable false s ha, exec_twlEnable true s ha, exec_handoverRequest s ha, exec_wreset s ha,
      twlEnable_rows s ha⟩, fun s => ⟨twlDown_link s, exec_twlTrainRetry s, twlTrain_starts s, twlTrain_off s, fun hh => ?_,
      exec_twlTrainTimeout_training s, fun h => exec_twlTrainTimeout_else s (.inl h), exec_twlLaneSyncLoss_down s, exec_twlLaneSyncLoss s,
      fun h hd hh => ⟨_, exec_twlLanesDeskewed s h hd hh, ?_, ?_⟩, exec_heartbeatMillisecond_cycle s,
      exec_heartbeatMillisecond_notUp s, fun h hup _ => ?_⟩, fun f rt turn s hlink hh => ⟨exec_echo_bad hlink hh, fun hp hty hlen hreq => ?_,
      fun hp hty hlen hans hl hd h7 => ⟨_, ?_, echoAnswer_eighth s f rt.toNat h7⟩⟩,
    fun s ha h0 hc hcl => ⟨⟨_, (exec_twlRoleWrite 1 ha).trans (congrArg _ (roleWrite_claims h0 hc hcl)), rfl, rfl, ?_⟩,
      fun hp => ⟨_, (exec_twlRoleWrite 2 ha).trans (congrArg _ (roleWrite_noPeer h0 hc hcl hp)), ?_, fun hcnt => ?_⟩,
      fun b hp hup hb he => ⟨_, (exec_twlRoleWrite 2 ha).trans (congrArg _ (roleWrite_standby h0 hc hcl hp hup hb)), standbyGranted _ _ he⟩⟩,
    fun s => ⟨exec_primaryClaimEnd_none s, fun h hl hh => ⟨_, exec_primaryClaimEnd_lost s h hl hh, ?_, ?_⟩,
      fun h hl hh => ⟨_, exec_primaryClaimEnd s h hl hh, setRole_role _ 1 (by decide), ?_⟩⟩,
    fun f ok cl s => ⟨exec_heartbeat_bad f ok cl s, fun h hlen => exec_heartbeat h hlen⟩,
    fun b s hb => ⟨standbyHears_shows s b hb, primaryHears_same s b hb, primaryHears_newer s b hb⟩,
    fun s => ⟨exec_heartbeatMissed_not s, fun hs hc hh => ⟨_, exec_heartbeatMissed s hs hc hh, beatMissed_shows s⟩⟩,
    fun f s => ⟨exec_shadow, exec_shend, exec_shack, exec_linkstate,
      fun h => ⟨shadow_notStandby h, shend_notStandby h, keepTable_notStandby h⟩, shack_notPrimary, fun hs hlen hh hok => ?_⟩,
    fun s => ⟨fun h => ?_, fun x hx hs hh => ⟨fun hok => ⟨_, exec_setApplication_applies hx hs hh hok, applySet_twl s x⟩,
      fun hok => ⟨_, exec_setApplication_refuses hx hs hh hok, setRefused_shows s x.cycle hh⟩⟩⟩,
    requestHandover_refused,
    fun f s => ⟨fun h hs hr hlen hcode => ⟨_, exec_handoverCmd h hs hr hlen hcode, ?_, ?_⟩,
      fun h hp hlen hcode hho => ⟨_, exec_handoverAck h hp hlen hcode hho, rfl, rfl⟩⟩,
    fun l b ofs s => ⟨exec_socSeen_deaf l b ofs s, fun h hb he => ⟨_, exec_socSeen l b ofs s h hb he, ?_, ?_, ?_⟩⟩⟩
  · exact ⟨by rw [exec_twlTrainRetry, twlTrain_halted s hh], exec_twlTrainTimeout_else s (.inr hh), exec_twlLanesDeskewed_halted s hh,
      exec_heartbeatMillisecond_halted s hh, exec_setApplication_not s (.inr hh)⟩
  · obtain ⟨n, o, hsent⟩ := twlSend_only { s with twl := { s.twl with deskewed := true, echoes := 0 } } 7 (echoPayload s 1 0)
    rw [hsent]
  · exact twlSend_out { s with twl := { s.twl with deskewed := true, echoes := 0 } } 7 _ hh
  · rw [exec_heartbeatMillisecond s h, sendHeartbeat_up s hup]
  · rw [exec_echo hlink hh hp hty hlen, if_pos hreq]
  · rw [exec_echo hlink hh hp hty hlen, if_neg (by omega), if_pos ⟨hans, hl, hd⟩]
  · exact (twlRole_setCtrl s 1).trans h0
  · rw [refuse_role, twlRole_setCtrl, h0]
  · have hsame : (s.setFld F.TWL_CTRL_ROLE 2).reg R.TWL_REFUSE_CNT = s.reg R.TWL_REFUSE_CNT :=
      s.reg_setFld_ne F.TWL_CTRL_ROLE 2 R.TWL_REFUSE_CNT (by decide)
    rw [refuse, State.reg_countReg _ _ (by rw [hsame]; exact hcnt), hsame]
  · exact refuse_role { s with twl := { s.twl with claim := false } }
  · rw [refuse, State.countReg, (State.onlyRegs_count _ _).twl_eq]
  · rw [setRole_epoch, State.fld_setFld _ _ _ (by decide)]
    exact Nat.mod_eq_of_lt (claimEpoch_lt s)
  · rw [shend_refuses hs hlen hok]
    refine ⟨?_, fun hup => ?_⟩
    · obtain ⟨n, o, hsent⟩ := sendShack_only { s with twl := { s.twl with rx := none } } (f.pay 0 4) 1
      rw [hsent]
    · rw [sendShack_up { s with twl := { s.twl with rx := none } } _ _ hup]
      exact twlSend_out { s with twl := { s.twl with rx := none } } 4 _ hh
  · rcases h with h | h
    · exact exec_setApplication_none s h
    · exact exec_setApplication_not s (.inl h)
  · obtain ⟨n, o, hsent⟩ := twlSend_only { s with twl := { s.twl with handTake := some (f.pay 4 4) } } 6 (cmdPayload 3 (f.pay 4 4))
    rw [hsent]
  · obtain ⟨_, _, _, hh, _, _⟩ := h
    exact twlSend_out { s with twl := { s.twl with handTake := some (f.pay 4 4) } } 6 _ hh
  · rw [State.lnk_setLnk]
  · exact State.setLnk_regs _ _ _
  · rw [State.lnk_setLnk]

end Sys2Proof.Machine
end

section
/-! Events, claims, end of interrupt, takes and pins (R513, R515 to R517, R519, R523, R524). -/

namespace Sys2Proof.Machine

/-! ### Bits and fields of several registers -/

theorem State.regBit_setRegBit_apart (s : State) (a k b j : Nat) (v : Bool) (hj : j < 32) (h : b ≠ a ∨ j ≠ k) :
    (s.setRegBit a k v).regBit b j = s.regBit b j := by
  by_cases hb : b = a
  · subst hb
    exact s.regBit_setRegBit_ne b k j v hj (h.resolve_left (· rfl))
  · exact State.regBit_congr j (s.reg_setReg_ne a b _ hb)

theorem State.reg_setRegBit_ne (s : State) (a k b : Nat) (v : Bool) (h : b ≠ a) : (s.setRegBit a k v).reg b = s.reg b :=
  s.reg_setReg_ne a b _ h

theorem State.fld_setRegBit_ne (s : State) (a k : Nat) (v : Bool) (f : Fld) (h : f.reg ≠ a) : (s.setRegBit a k v).fld f = s.fld f :=
  State.fld_congr (s.reg_setRegBit_ne a k f.reg v h)

theorem State.fld_count_apart (s : State) (f g : Fld) (h : f.lo + f.w ≤ 32)
    (hg : g.reg ≠ f.reg ∨ g.lo + g.w ≤ f.lo ∨ f.lo + f.w ≤ g.lo) : (s.count f).fld g = s.fld g := by
  unfold State.count
  split
  · exact s.fld_setFld_apart f g _ h hg
  · rfl

theorem State.regBit_setFld_ne (s : State) (f : Fld) (v a k : Nat) (h : a ≠ f.reg) : (s.setFld f v).regBit a k = s.regBit a k :=
  State.regBit_congr k (s.reg_setFld_ne f v a h)

theorem State.regBit_count_ne (s : State) (f : Fld) (a k : Nat) (h : a ≠ f.reg) : (s.count f).regBit a k = s.regBit a k :=
  State.regBit_congr k (s.reg_count_ne f a h)

/-! ### The pending bits and the counts of the sources (R513, R515) -/

/-- The field that counts a source's events. -/
def cntFld (n : Nat) : Fld := ⟨R.EVC_CNT (n / 8), 4 * (n % 8), 4⟩

theorem cntFld_fits (n : Nat) : (cntFld n).lo + (cntFld n).w ≤ 32 := by
  show 4 * (n % 8) + 4 ≤ 32
  omega

theorem srcCnt_eq (s : State) (n : Nat) : srcCnt s n = s.fld (cntFld n) := rfl

theorem cntFld_apart {m n : Nat} (h : m ≠ n) : (cntFld m).reg ≠ (cntFld n).reg ∨
    (cntFld m).lo + (cntFld m).w ≤ (cntFld n).lo ∨ (cntFld n).lo + (cntFld n).w ≤ (cntFld m).lo := by
  simp only [cntFld, R.EVC_CNT]
  omega

theorem pendBit_apart {m n : Nat} (h : m ≠ n) : R.EVC_PEND (m / 32) ≠ R.EVC_PEND (n / 32) ∨ m % 32 ≠ n % 32 := by
  simp only [R.EVC_PEND]
  omega

theorem pend_ne_cnt {m : Nat} (n : Nat) (hm : m < 256) : R.EVC_PEND (m / 32) ≠ (cntFld n).reg := by
  simp only [R.EVC_PEND, cntFld, R.EVC_CNT]
  omega

theorem mask_ne_cnt {m : Nat} (n : Nat) (hm : m < 256) : R.EVC_MASK (m / 32) ≠ (cntFld n).reg := by
  simp only [R.EVC_MASK, cntFld, R.EVC_CNT]
  omega

theorem act_ne_pend (n : Nat) : R.EVC_ACT_V ≠ R.EVC_PEND (n / 32) ∧ R.EVC_ACT ≠ R.EVC_PEND (n / 32) := by
  simp only [R.EVC_ACT_V, R.EVC_ACT, R.EVC_PEND]
  omega

theorem act_ne_cnt (n : Nat) : R.EVC_ACT_V ≠ (cntFld n).reg ∧ R.EVC_ACT ≠ (cntFld n).reg := by
  simp only [R.EVC_ACT_V, R.EVC_ACT, cntFld, R.EVC_CNT]
  omega

theorem srcPend_congr {s t : State} (n : Nat) (h : t.reg (R.EVC_PEND (n / 32)) = s.reg (R.EVC_PEND (n / 32))) : srcPend t n = srcPend s n :=
  State.regBit_congr _ h

theorem srcCnt_congr {s t : State} (n : Nat) (h : t.reg (R.EVC_CNT (n / 8)) = s.reg (R.EVC_CNT (n / 8))) : srcCnt t n = srcCnt s n :=
  State.fld_congr (f := cntFld n) h

section
variable (s : State) (n : Nat)

/-- The source made pending and counted, before a storm is judged. -/
def evcMark : State := (s.setRegBit (R.EVC_PEND (n / 32)) (n % 32) true).count (cntFld n)

theorem evcMark_pend (hn : n < 256) : srcPend (evcMark s n) n = true := by
  rw [srcPend, evcMark, State.regBit_count_ne _ _ _ _ (pend_ne_cnt n hn), s.regBit_setRegBit_same _ _ _ (by omega)]

theorem evcMark_pend_ne {m : Nat} (hm : m < 256) (h : m ≠ n) : srcPend (evcMark s n) m = srcPend s m := by
  rw [srcPend, evcMark, State.regBit_count_ne _ _ _ _ (pend_ne_cnt n hm),
    s.regBit_setRegBit_apart _ _ _ _ _ (by omega) (pendBit_apart h), srcPend]

theorem evcMark_cnt (hn : n < 256) : srcCnt (evcMark s n) n = min 15 (srcCnt s n + 1) := by
  rw [srcCnt_eq, evcMark, State.fld_count _ _ (cntFld_fits n), s.fld_setRegBit_ne _ _ _ _ (pend_ne_cnt n hn).symm]
  rfl

theorem evcMark_cnt_ne {m : Nat} (hn : n < 256) (h : m ≠ n) : srcCnt (evcMark s n) m = srcCnt s m := by
  rw [srcCnt_eq, evcMark, State.fld_count_apart _ _ _ (cntFld_fits n) (cntFld_apart h),
    s.fld_setRegBit_ne _ _ _ _ (pend_ne_cnt m hn).symm, srcCnt_eq]

/-- A storm changes the mask and the storm bits, which no pending bit and no count shares. -/
theorem evcEvent_marks (h : s.mc.k.state ≠ .reset) (b : Nat) (hm : b ≠ R.EVC_MASK (n / 32)) (hs : b ≠ R.EVC_STORM (n / 32)) :
    (evcEvent s n).reg b = (evcMark s n).reg b := by
  unfold evcEvent
  rw [if_neg h]
  dsimp only
  split
  · exact (State.reg_setRegBit_ne _ _ _ b _ hs).trans (State.reg_setRegBit_ne _ _ _ b _ hm)
  · rfl

theorem evcEvent_pend_eq {m : Nat} (hn : n < 256) (hm : m < 256) (h : s.mc.k.state ≠ .reset) :
    srcPend (evcEvent s n) m = srcPend (evcMark s n) m :=
  srcPend_congr m (evcEvent_marks s n h _ (by simp only [R.EVC_PEND, R.EVC_MASK]; omega) (by simp only [R.EVC_PEND, R.EVC_STORM]; omega))

theorem evcEvent_cnt_eq {m : Nat} (hn : n < 256) (h : s.mc.k.state ≠ .reset) : srcCnt (evcEvent s n) m = srcCnt (evcMark s n) m :=
  srcCnt_congr m (evcEvent_marks s n h _ (by simp only [R.EVC_CNT, R.EVC_MASK]; omega) (by simp only [R.EVC_CNT, R.EVC_STORM]; omega))

/-! ### What `srcClear` clears -/

theorem srcClear_eq : srcClear s n = (s.setRegBit (R.EVC_PEND (n / 32)) (n % 32) false).setFld (cntFld n) 0 := rfl

theorem srcClear_pend (hn : n < 256) : srcPend (srcClear s n) n = false := by
  rw [srcPend, srcClear_eq, State.regBit_setFld_ne _ _ _ _ _ (pend_ne_cnt n hn), s.regBit_setRegBit_same _ _ _ (by omega)]

theorem srcClear_cnt : srcCnt (srcClear s n) n = 0 := by
  rw [srcCnt_eq, srcClear_eq, State.fld_setFld _ _ _ (cntFld_fits n)]
  rfl

theorem srcClear_reg {b : Nat} (hp : b ≠ R.EVC_PEND (n / 32)) (hc : b ≠ (cntFld n).reg) : (srcClear s n).reg b = s.reg b :=
  (State.reg_setFld_ne _ (cntFld n) _ _ hc).trans (s.reg_setRegBit_ne _ _ _ _ hp)

theorem srcClear_mem : (srcClear s n).mem = s.mem := State.setFld_mem _ _ _

end

/-! ### The source that is claimed (R516) -/

/-- Of two sources the one of higher priority, the earlier one at equal priority. -/
def keepBest (s : State) (b : Option Nat) (n : Nat) : Option Nat :=
  match b with
  | none => some n
  | some m => if srcPrio s m < srcPrio s n then some n else some m

theorem bestSource_eq (s : State) : bestSource s = ((List.range 256).filter (deliverable s)).foldl (keepBest s) none := rfl

/-- Of a rising list the fold keeps a member of highest priority, and the first of those. -/
theorem foldl_keepBest (s : State) (l : List Nat) (hl : l.Pairwise (· < ·)) :
    (l = [] ∧ l.foldl (keepBest s) none = none) ∨ ∃ n, l.foldl (keepBest s) none = some n ∧ n ∈ l ∧
      ∀ m ∈ l, srcPrio s m < srcPrio s n ∨ srcPrio s m = srcPrio s n ∧ n ≤ m := by
  induction l using List.reverseRecOn with
  | nil => exact .inl ⟨rfl, rfl⟩
  | append_singleton l a ih =>
    obtain ⟨hrise, -, hlast⟩ := List.pairwise_append.mp hl
    rw [List.foldl_append, List.foldl_cons, List.foldl_nil]
    rcases ih hrise with ⟨rfl, hnone⟩ | ⟨n, hbest, hmem, hmax⟩
    · exact .inr ⟨a, by rw [hnone]; rfl, by simp, by simp⟩
    · have hna : n < a := hlast n hmem a (List.mem_singleton_self a)
      rw [hbest, keepBest]
      split
      next hless =>
        refine .inr ⟨a, rfl, by simp, fun m hm => ?_⟩
        rcases List.mem_append.mp hm with hm | hm
        · have := hmax m hm
          omega
        · exact .inr ⟨by rw [List.mem_singleton.mp hm], by rw [List.mem_singleton.mp hm]⟩
      next hmore =>
        refine .inr ⟨n, rfl, List.mem_append_left _ hmem, fun m hm => ?_⟩
        rcases List.mem_append.mp hm with hm | hm
        · exact hmax m hm
        · rw [List.mem_singleton.mp hm]
          omega

theorem mem_deliverables (s : State) (m : Nat) :
    m ∈ (List.range 256).filter (deliverable s) ↔ m < 256 ∧ deliverable s m = true := by
  rw [List.mem_filter, List.mem_range]

theorem bestSource_best {s : State} {n : Nat} (h : bestSource s = some n) : n < 256 ∧ deliverable s n = true ∧
    ∀ m, m < 256 → deliverable s m = true → srcPrio s m < srcPrio s n ∨ srcPrio s m = srcPrio s n ∧ n ≤ m := by
  rw [bestSource_eq] at h
  rcases foldl_keepBest s _ (List.Pairwise.filter _ List.pairwise_lt_range) with ⟨-, hnone⟩ | ⟨k, hbest, hmem, hmax⟩
  · rw [hnone] at h
    cases h
  · obtain rfl := Option.some.inj (hbest.symm.trans h)
    obtain ⟨hlt, hdel⟩ := (mem_deliverables s k).mp hmem
    exact ⟨hlt, hdel, fun m hm hd => hmax m ((mem_deliverables s m).mpr ⟨hm, hd⟩)⟩

/-! ### Active sources -/

theorem srcActive_iff (s : State) (n : Nat) : srcActive s n = true ↔ ∃ q, q < 4 ∧ activeAt s q = some n := by
  simp only [srcActive, List.any_eq_true, List.mem_range, decide_eq_true_eq]

theorem actV_ne_act : R.EVC_ACT_V ≠ R.EVC_ACT := by decide

section
variable (s : State) (q : Nat) (hq : q < 4)
include hq

/-- Where a priority is set active its byte names the source. -/
theorem activeAt_enter (n : Nat) (hn : n < 256) :
    activeAt ((s.setRegBit R.EVC_ACT_V q true).setFld ⟨R.EVC_ACT, 8 * q, 8⟩ n) q = some n := by
  have hbit : ((s.setRegBit R.EVC_ACT_V q true).setFld ⟨R.EVC_ACT, 8 * q, 8⟩ n).regBit R.EVC_ACT_V q = true :=
    (State.regBit_setFld_ne _ _ _ _ _ actV_ne_act).trans (s.regBit_setRegBit_same _ _ _ (by omega))
  rw [activeAt, if_pos hbit, State.fld_setFld _ _ _ (by show 8 * q + 8 ≤ 32; omega)]
  exact congrArg some (Nat.mod_eq_of_lt hn)

/-- Where a priority is no longer active it names no source. -/
theorem activeAt_leave : activeAt ((s.setRegBit R.EVC_ACT_V q false).setFld ⟨R.EVC_ACT, 8 * q, 8⟩ 0) q = none := by
  have hbit : ((s.setRegBit R.EVC_ACT_V q false).setFld ⟨R.EVC_ACT, 8 * q, 8⟩ 0).regBit R.EVC_ACT_V q = false :=
    (State.regBit_setFld_ne _ _ _ _ _ actV_ne_act).trans (s.regBit_setRegBit_same _ _ _ (by omega))
  rw [activeAt, if_neg (Bool.eq_false_iff.mp hbit)]

/-- The other priorities are left. -/
theorem activeAt_other (v : Bool) (n k : Nat) (hk : k < 4) (h : k ≠ q) :
    activeAt ((s.setRegBit R.EVC_ACT_V q v).setFld ⟨R.EVC_ACT, 8 * q, 8⟩ n) k = activeAt s k := by
  have hbit : ((s.setRegBit R.EVC_ACT_V q v).setFld ⟨R.EVC_ACT, 8 * q, 8⟩ n).regBit R.EVC_ACT_V k = s.regBit R.EVC_ACT_V k :=
    (State.regBit_setFld_ne _ _ _ _ _ actV_ne_act).trans (s.regBit_setRegBit_ne _ _ _ _ (by omega) h)
  have hfld : ((s.setRegBit R.EVC_ACT_V q v).setFld ⟨R.EVC_ACT, 8 * q, 8⟩ n).fld ⟨R.EVC_ACT, 8 * k, 8⟩ = s.fld ⟨R.EVC_ACT, 8 * k, 8⟩ :=
    (State.fld_setFld_apart _ _ _ _ (by show 8 * q + 8 ≤ 32; omega)
      (.inr (by show 8 * k + 8 ≤ 8 * q ∨ 8 * q + 8 ≤ 8 * k; omega))).trans (s.fld_setRegBit_ne _ _ _ _ actV_ne_act.symm)
  rw [activeAt, activeAt, hbit, hfld]

end

section
variable (s : State) (q : Nat) (v : Bool) (n k : Nat)

/-- Pending bits and counts are no part of the registers of active sources. -/
theorem srcPend_activity : srcPend ((s.setRegBit R.EVC_ACT_V q v).setFld ⟨R.EVC_ACT, 8 * q, 8⟩ n) k = srcPend s k :=
  srcPend_congr k ((State.reg_setFld_ne _ _ _ _ (act_ne_pend k).2.symm).trans (s.reg_setRegBit_ne _ _ _ _ (act_ne_pend k).1.symm))

theorem srcCnt_activity : srcCnt ((s.setRegBit R.EVC_ACT_V q v).setFld ⟨R.EVC_ACT, 8 * q, 8⟩ n) k = srcCnt s k :=
  srcCnt_congr k ((State.reg_setFld_ne _ _ _ _ (act_ne_cnt k).2.symm).trans (s.reg_setRegBit_ne _ _ _ _ (act_ne_cnt k).1.symm))

end

/-! ### Claim, end of interrupt and take (R515 to R517, R519) -/

theorem exec_evcClaim (s : State) : exec .evcClaim s = .next { (evcClaim s).2 with readData := (evcClaim s).1 } := rfl

theorem evcClaim_none {s : State} (h : bestSource s = none) : evcClaim s = (0, s) := by rw [evcClaim, h]

/-- The state in which the claimed source is cleared and active. -/
def claimed (s : State) (n : Nat) : State :=
  ((srcClear s n).setRegBit R.EVC_ACT_V (srcPrio s n) true).setFld ⟨R.EVC_ACT, 8 * srcPrio s n, 8⟩ n

theorem evcClaim_some {s : State} {n : Nat} (h : bestSource s = some n) :
    evcClaim s = (word (2 ^ 31 + srcCnt s n * 2 ^ 24 + srcPrio s n * 2 ^ 16 + n), claimed s n) := by rw [evcClaim, h]; rfl

theorem srcPrio_lt (s : State) (n : Nat) : srcPrio s n < 4 := s.fld_lt (F.EVC_CFG_PRIO n)

theorem claimed_holds (s : State) (n : Nat) (hn : n < 256) : srcPend (claimed s n) n = false ∧ srcCnt (claimed s n) n = 0 ∧
    srcActive (claimed s n) n = true ∧ (claimed s n).mem = s.mem :=
  ⟨(srcPend_activity _ _ _ _ _).trans (srcClear_pend s n hn), (srcCnt_activity _ _ _ _ _).trans (srcClear_cnt s n),
    (srcActive_iff _ _).mpr ⟨srcPrio s n, srcPrio_lt s n, activeAt_enter _ _ (srcPrio_lt s n) n hn⟩,
    (State.setFld_mem _ _ _).trans (srcClear_mem s n)⟩

/-- The source's own priority is left at an end of interrupt. -/
def eoiAt (s : State) (q : Nat) : State := (s.setRegBit R.EVC_ACT_V q false).setFld ⟨R.EVC_ACT, 8 * q, 8⟩ 0

theorem evcEoi_idle {s : State} {n : Nat} (h : srcActive s n = false) : evcEoi s n = s.countReg R.EVC_SPUR_CNT := by
  have hnone : (List.range 4).find? (fun q => decide (activeAt s q = some n)) = none := by
    rw [List.find?_eq_none]
    intro q hq hat
    exact absurd ((srcActive_iff s n).mpr ⟨q, List.mem_range.mp hq, of_decide_eq_true hat⟩) (Bool.eq_false_iff.mp h)
  rw [evcEoi, hnone]

theorem evcEoi_active {s : State} {n q : Nat} (hq : q < 4) (hat : activeAt s q = some n)
    (hone : ∀ k, k < 4 → k ≠ q → activeAt s k ≠ some n) : evcEoi s n = eoiAt s q := by
  have hsome : ((List.range 4).find? fun q => decide (activeAt s q = some n)).isSome :=
    List.find?_isSome.mpr ⟨q, List.mem_range.mpr hq, decide_eq_true hat⟩
  obtain ⟨r, hr⟩ := Option.isSome_iff_exists.mp hsome
  have hfound : decide (activeAt s r = some n) = true := by simpa using List.find?_some hr
  have hrq : r = q := by
    by_contra hne
    exact hone r (List.mem_range.mp (List.mem_of_find?_eq_some hr)) hne (of_decide_eq_true hfound)
  rw [evcEoi, hr, hrq]
  rfl

theorem eoiAt_idle {s : State} {n q : Nat} (hq : q < 4) (hone : ∀ k, k < 4 → k ≠ q → activeAt s k ≠ some n) :
    srcActive (eoiAt s q) n = false := by
  rw [Bool.eq_false_iff]
  intro hact
  obtain ⟨k, hk, hat⟩ := (srcActive_iff _ n).mp hact
  by_cases hkq : k = q
  · subst hkq
    rw [eoiAt, activeAt_leave s k hk] at hat
    cases hat
  · rw [eoiAt, activeAt_other s q hq _ _ k hk hkq] at hat
    exact hone k hk hkq hat

section
variable (s : State) (n : Nat) (hn : n < 256)

/-- The state in which `TAKE_RES` shows the source. -/
def shown : State := s.setReg R.EVC_TAKE_RES (word ((if srcPend s n then 256 else 0) + srcCnt s n))

theorem evcTake_eq : evcTake s n = srcClear (shown s n) n := rfl

theorem evcTake_reg {b : Nat} (hp : b ≠ R.EVC_PEND (n / 32)) (hc : b ≠ (cntFld n).reg) : (evcTake s n).reg b = (shown s n).reg b := by
  rw [evcTake_eq, srcClear_reg _ _ hp hc]

theorem evcTake_res : (evcTake s n).reg R.EVC_TAKE_RES = word ((if srcPend s n then 256 else 0) + srcCnt s n) := by
  rw [evcTake_reg s n (by simp only [R.EVC_TAKE_RES, R.EVC_PEND]; omega) (by simp only [R.EVC_TAKE_RES, cntFld, R.EVC_CNT]; omega)]
  exact s.reg_setReg _ _

theorem evcTake_act : (evcTake s n).reg R.EVC_ACT_V = s.reg R.EVC_ACT_V := by
  rw [evcTake_reg s n (act_ne_pend n).1 (act_ne_cnt n).1]
  exact s.reg_setReg_ne _ _ _ (by decide)

include hn in
theorem evcTake_mask : srcMask (evcTake s n) n = srcMask s n := by
  refine State.regBit_congr _ ?_
  rw [evcTake_reg s n (by simp only [R.EVC_MASK, R.EVC_PEND]; omega) (mask_ne_cnt n hn)]
  exact s.reg_setReg_ne _ _ _ (by simp only [R.EVC_MASK, R.EVC_TAKE_RES]; omega)

end

/-! ### Edges of pins and the release of held pins (R523, R524) -/

/-- A unit that tells of its condition leaves everything above the Event Controller's registers, and memory. -/
theorem periphTell_reg_above (s : State) (src b : Nat) (hsrc : src < 256) (hb : 0x40004280 ≤ b) : (periphTell s src).reg b = s.reg b := by
  unfold periphTell
  dsimp only
  split
  · rfl
  · split
    · exact evcEvent_reg_above _ src b hsrc hb
    · rfl

theorem periphTell_mem (s : State) (src : Nat) : (periphTell s src).mem = s.mem := by
  unfold periphTell
  dsimp only
  split
  · rfl
  · split
    · exact (evcEvent_only _ src).mem_eq
    · rfl

section
variable (p i : Nat) (up : Bool) (s : State)

theorem gpioEdge_none (h : s.regBit (R.GPIO_IN p) i = up) : gpioEdge s p i up = s := by rw [gpioEdge, if_pos h]

/-- The port's input takes the level; `gpioEdge` tells of it where the edge is enabled. -/
def levelTaken : State := s.setRegBit (R.GPIO_IN p) i up

theorem gpioEdge_eq (h : s.regBit (R.GPIO_IN p) i ≠ up) (hpin : p ≠ 0 ∨ 8 ≤ i) (ha : s.pmu.state = .active) :
    gpioEdge s p i up = if edgeOn s (R.GPIO_IEDGE p) i up then
      periphTell ((levelTaken p i up s).setRegBit (R.GPIO_ISTAT p) i true) (96 + p) else levelTaken p i up s := by
  rw [gpioEdge, if_neg h]
  dsimp only
  rw [if_neg (by omega), ha]
  rfl

theorem gpioIn_ne_istat : R.GPIO_IN p ≠ R.GPIO_ISTAT p := by
  simp only [R.GPIO_IN, R.GPIO_ISTAT]
  omega

theorem gpioIn_above : 0x40004280 ≤ R.GPIO_IN p ∧ 0x40004280 ≤ R.GPIO_ISTAT p := by
  simp only [R.GPIO_IN, R.GPIO_ISTAT]
  omega

/-- The edge that is enabled raises its status bit, which the unit then tells. -/
theorem gpioEdge_on (hp : p < 3) (hi : i < 16) :
    (periphTell ((levelTaken p i up s).setRegBit (R.GPIO_ISTAT p) i true) (96 + p)).regBit (R.GPIO_IN p) i = up ∧
    (periphTell ((levelTaken p i up s).setRegBit (R.GPIO_ISTAT p) i true) (96 + p)).regBit (R.GPIO_ISTAT p) i = true := by
  obtain ⟨hin, hstat⟩ := gpioIn_above p
  constructor
  · rw [State.regBit_congr i (periphTell_reg_above _ (96 + p) _ (by omega) hin),
      State.regBit_congr i (State.reg_setRegBit_ne _ _ _ _ _ (gpioIn_ne_istat p))]
    exact s.regBit_setRegBit_same _ _ _ (by omega)
  · rw [State.regBit_congr i (periphTell_reg_above _ (96 + p) _ (by omega) hstat)]
    exact State.regBit_setRegBit_same _ _ _ _ (by omega)

theorem levelTaken_holds (hi : i < 16) : (levelTaken p i up s).regBit (R.GPIO_IN p) i = up ∧
    (levelTaken p i up s).reg (R.GPIO_ISTAT p) = s.reg (R.GPIO_ISTAT p) :=
  ⟨s.regBit_setRegBit_same _ _ _ (by omega), s.reg_setRegBit_ne _ _ _ _ (gpioIn_ne_istat p).symm⟩

end

theorem holdRelease_flag (s : State) : (holdRelease s).flag F.GPIO_HOLD_HELD = false :=
  State.flag_setFld_zero s F.GPIO_HOLD_HELD (by decide)

theorem pinsNow_released {s : State} (v p : Nat) (h : s.flag F.GPIO_HOLD_HELD = false) : pinsNow s v p = portPins s v p := by
  rw [pinsNow, h]

theorem holdRelease_out (s : State) (k : Nat) : (holdRelease s).reg (R.GPIO_OUT k) = s.reg (R.GPIO_OUT k) :=
  s.reg_setFld_ne F.GPIO_HOLD_HELD 0 _ (by simp only [R.GPIO_OUT, R.GPIO_HOLD]; omega)

/-! ### The statement -/

theorem exec_gpioEdge (p : Fin 3) (i : Fin 16) (up : Bool) (s : State) : exec (.gpioEdge p i up) s = .next (gpioEdge s p.val i.val up) := rfl

theorem exec_evcSourceEvent (n : Fin 256) (s : State) :
    exec (.evcSourceEvent n) s = .next (if n.val < 32 then aonWake s n.val else evcEvent s n.val) := rfl

theorem exec_evcEoi (n : Fin 256) (s : State) : exec (.evcEoi n) s = .next (evcEoi s n.val) := rfl

theorem exec_evcTake (n : Fin 256) (s : State) : exec (.evcTake n) s = .next (evcTake s n.val) := rfl

theorem exec_gpioHoldRelease (s : State) : exec .gpioHoldRelease s = .next (holdRelease s) := rfl

theorem levelTaken_mem (p i : Nat) (up : Bool) (s : State) : (levelTaken p i up s).mem = s.mem := (s.onlyRegs_setRegBit _ _ _).mem_eq

/-- The word that a read gives is no part of what a source shows. -/
theorem claimed_readData (s : State) (n : Nat) (w : Word) (hn : n < 256) : srcPend { claimed s n with readData := w } n = false ∧
    srcCnt { claimed s n with readData := w } n = 0 ∧ srcActive { claimed s n with readData := w } n = true ∧
    (claimed s n).mem = s.mem := claimed_holds s n hn

/-- Settles O54: an event and a claim by the registers that each writes, the claimed source as the fold's best. -/
theorem eventsAndPins : Obligations.EventsAndPins := by
  unfold Obligations.EventsAndPins
  refine ⟨fun n s => ⟨fun hn => ?_, fun hn hmc => ?_⟩, fun s => ⟨fun h => ?_, fun n h => ?_, fun n h => bestSource_best h⟩,
    fun n s => ⟨fun h => ?_, fun q hq hat hone => ?_, ?_⟩, fun p i up s => ⟨fun h => ?_, fun h hpin ha => ?_⟩,
    fun s => ⟨_, exec_gpioHoldRelease s, holdRelease_flag s, fun v p => pinsNow_released v p (holdRelease_flag s), fun k _ => holdRelease_out s k⟩⟩
  · rw [exec_evcSourceEvent, if_pos hn]
  · refine ⟨evcEvent s n.val, by rw [exec_evcSourceEvent, if_neg (by omega)], ?_, ?_, (evcEvent_only s _).mem_eq, fun m hm hne => ⟨?_, ?_⟩⟩
    · rw [evcEvent_pend_eq s n.val n.isLt n.isLt hmc, evcMark_pend s n.val n.isLt]
    · rw [evcEvent_cnt_eq s n.val n.isLt hmc, evcMark_cnt s n.val n.isLt]
    · rw [evcEvent_pend_eq s n.val n.isLt hm hmc, evcMark_pend_ne s n.val hm hne]
    · rw [evcEvent_cnt_eq s n.val n.isLt hmc, evcMark_cnt_ne s n.val n.isLt hne]
  · rw [exec_evcClaim, evcClaim_none h]
    exact ⟨_, rfl, rfl, rfl⟩
  · rw [exec_evcClaim, evcClaim_some h]
    exact ⟨_, rfl, rfl, claimed_readData s n _ (bestSource_best h).1⟩
  · rw [exec_evcEoi, evcEoi_idle h]
  · exact ⟨eoiAt s q, by rw [exec_evcEoi, evcEoi_active hq hat hone], eoiAt_idle hq hone, srcPend_activity s q _ _ _,
      fun k hk hne => activeAt_other s q hq _ _ k hk hne⟩
  · exact ⟨evcTake s n.val, exec_evcTake n s, srcClear_pend _ _ n.isLt, srcClear_cnt _ _, evcTake_res s _, evcTake_mask s _ n.isLt, evcTake_act s _,
      srcClear_mem _ _⟩
  · rw [exec_gpioEdge, gpioEdge_none _ _ _ _ h]
  · rw [exec_gpioEdge, gpioEdge_eq _ _ _ _ h hpin ha]
    cases hedge : edgeOn s (R.GPIO_IEDGE p.val) i.val up
    · obtain ⟨hin, hstat⟩ := levelTaken_holds p.val i.val up s i.isLt
      exact ⟨_, rfl, hin, levelTaken_mem _ _ _ _, fun hon => Bool.noConfusion hon, fun _ => hstat⟩
    · obtain ⟨hin, hstat⟩ := gpioEdge_on p.val i.val up s p.isLt i.isLt
      exact ⟨_, rfl, hin, periphTell_mem _ _, fun _ => hstat, fun hoff => Bool.noConfusion hoff⟩

end Sys2Proof.Machine
end

section
/-! UARTs, SPI, I2C, timers and the system watchdog (R525 to R529). -/

namespace Sys2Proof.Machine

/-! ### What a unit keeps that tells of its condition -/

theorem State.onlyRegs.per_eq {s t : State} (h : s.onlyRegs t) : t.per = s.per := by obtain ⟨r, rfl⟩ := h; rfl

/-- Of the units only the conditions told are another. -/
theorem periphTell_per (s : State) (src : Nat) : ∃ c, (periphTell s src).per = { s.per with conds := c } := by
  unfold periphTell
  dsimp only
  split
  · exact ⟨_, rfl⟩
  · split
    · exact ⟨_, (evcEvent_only _ src).per_eq⟩
    · exact ⟨_, rfl⟩

theorem uart_congr {s t : State} (n : Nat) (h : t.per.uarts = s.per.uarts) : t.uart n = s.uart n := by rw [State.uart, State.uart, h]
theorem spi_congr {s t : State} (n : Nat) (h : t.per.spis = s.per.spis) : t.spi n = s.spi n := by rw [State.spi, State.spi, h]
theorem i2c_congr {s t : State} (n : Nat) (h : t.per.i2cs = s.per.i2cs) : t.i2c n = s.i2c n := by rw [State.i2c, State.i2c, h]
theorem tmr_congr {s t : State} (n : Nat) (h : t.per.tmrs = s.per.tmrs) : t.tmr n = s.tmr n := by rw [State.tmr, State.tmr, h]

@[simp] theorem periphTell_uart (s : State) (src n : Nat) : (periphTell s src).uart n = s.uart n := by
  obtain ⟨c, h⟩ := periphTell_per s src
  exact uart_congr n (by rw [h])

@[simp] theorem periphTell_spi (s : State) (src n : Nat) : (periphTell s src).spi n = s.spi n := by
  obtain ⟨c, h⟩ := periphTell_per s src
  exact spi_congr n (by rw [h])

@[simp] theorem periphTell_i2c (s : State) (src n : Nat) : (periphTell s src).i2c n = s.i2c n := by
  obtain ⟨c, h⟩ := periphTell_per s src
  exact i2c_congr n (by rw [h])

@[simp] theorem periphTell_tmr (s : State) (src n : Nat) : (periphTell s src).tmr n = s.tmr n := by
  obtain ⟨c, h⟩ := periphTell_per s src
  exact tmr_congr n (by rw [h])

theorem periphTell_flag (s : State) (src : Nat) (f : Fld) (hsrc : src < 256) (hf : 0x40004280 ≤ f.reg) :
    (periphTell s src).flag f = s.flag f := State.flag_congr (periphTell_reg_above s src f.reg hsrc hf)

theorem periphTell_bit (s : State) (src a k : Nat) (hsrc : src < 256) (ha : 0x40004280 ≤ a) :
    (periphTell s src).regBit a k = s.regBit a k := State.regBit_congr k (periphTell_reg_above s src a hsrc ha)

/-! ### Reading a unit after it was set -/

section
variable (s : State) (n : Nat)

@[simp] theorem uart_setUart (x : Uart) : (s.setUart n x).uart n = x := SMap.get_set_same _ _ _ _
@[simp] theorem spi_setSpi (x : Spi) : (s.setSpi n x).spi n = x := SMap.get_set_same _ _ _ _
@[simp] theorem i2c_setI2c (x : I2c) : (s.setI2c n x).i2c n = x := SMap.get_set_same _ _ _ _
@[simp] theorem tmr_setTmr (x : Tmr) : (s.setTmr n x).tmr n = x := SMap.get_set_same _ _ _ _

theorem uart_readData (w : Word) : State.uart { s with readData := w } n = s.uart n := rfl
theorem spi_readData (w : Word) : State.spi { s with readData := w } n = s.spi n := rfl

theorem reg_setUart (x : Uart) (b : Nat) : (s.setUart n x).reg b = s.reg b := State.reg_congr b rfl
theorem reg_setSpi (x : Spi) (b : Nat) : (s.setSpi n x).reg b = s.reg b := State.reg_congr b rfl
theorem reg_setI2c (x : I2c) (b : Nat) : (s.setI2c n x).reg b = s.reg b := State.reg_congr b rfl
theorem reg_setTmr (x : Tmr) (b : Nat) : (s.setTmr n x).reg b = s.reg b := State.reg_congr b rfl

theorem uart_setFld (f : Fld) (v : Nat) : (s.setFld f v).uart n = s.uart n := uart_congr n (congrArg Per.uarts (State.setFld_per s f v))
theorem i2c_setRegBit (a k : Nat) (v : Bool) : (s.setRegBit a k v).i2c n = s.i2c n :=
  i2c_congr n (congrArg Per.i2cs (s.onlyRegs_setRegBit a k v).per_eq)
theorem tmr_setFld (f : Fld) (v : Nat) : (s.setFld f v).tmr n = s.tmr n := tmr_congr n (congrArg Per.tmrs (State.setFld_per s f v))

end

/-! ### UARTs (R525) -/

section
variable (s : State) (n : Nat)

theorem uartPush_room (v : Nat) (h : (s.uart n).tx.length < 16) :
    uartPush s n v = periphTell (s.setUart n { s.uart n with tx := (s.uart n).tx ++ [v % 256] }) (80 + n) := if_pos h

theorem uartPush_full (v : Nat) (h : 16 ≤ (s.uart n).tx.length) : uartPush s n v = periphTell (s.setFld (F.UART_STAT_OVR n) 1) (80 + n) :=
  if_neg (by omega)

theorem uartPop_empty (h : (s.uart n).rx = []) : uartPop s n = (0, s) := by rw [uartPop, h]

theorem uartPop_cons {e : Nat} {l : List Nat} (h : (s.uart n).rx = e :: l) :
    uartPop s n = (word e, periphTell (s.setUart n { s.uart n with rx := l }) (80 + n)) := by rw [uartPop, h]

theorem uartStat_above : 0x40004280 ≤ R.UART_STAT n := by
  simp only [R.UART_STAT]
  omega

/-- The overrun that is set stands when the UART has told of it. -/
theorem uartOverrun_flag (hn : n < 4) : (periphTell (s.setFld (F.UART_STAT_OVR n) 1) (80 + n)).flag (F.UART_STAT_OVR n) = true := by
  rw [periphTell_flag _ _ _ (by omega) (uartStat_above n)]
  exact s.flag_setFld_one _ (by simp) rfl

/-- A break leaves the other flag. -/
theorem uartOverrun_break (hn : n < 4) :
    (periphTell ((s.setFld (F.UART_STAT_BRK n) 1).setFld (F.UART_STAT_OVR n) 1) (80 + n)).flag (F.UART_STAT_BRK n) = true := by
  rw [periphTell_flag _ _ _ (by omega) (uartStat_above n), State.flag_setFld_apart _ _ _ _ (by simp) (.inr (.inr (by simp)))]
  exact s.flag_setFld_one _ (by simp) rfl

end

section
variable (n : Fin 4) (v : BitVec 8) (s : State)

theorem exec_uartDataWrite : exec (.uartDataWrite n v) s = .next (uartPush s n.val v.toNat) := rfl

theorem exec_uartDataRead : exec (.uartDataRead n) s = .next { (uartPop s n.val).2 with readData := (uartPop s n.val).1 } := rfl

theorem exec_uartRxByte_room (hen : s.flag (F.UART_CFG_EN n.val) = true) (hd : s.dbgHalted = false) (hroom : (s.uart n.val).rx.length < 16) :
    exec (.uartRxByte n v false false false) s = .next (periphTell (s.setUart n.val { s.uart n.val with
      rx := (s.uart n.val).rx ++ [v.toNat % 2 ^ (5 + s.fld (F.UART_CFG_LEN n.val)) + 256] }) (80 + n.val)) := by
  show execUartRxByte n v false false false s = _
  rw [execUartRxByte, if_neg (by simp [hen, hd])]
  dsimp only
  rw [if_pos hroom]
  rfl

theorem exec_uartRxByte_full (p f b : Bool) (hen : s.flag (F.UART_CFG_EN n.val) = true) (hd : s.dbgHalted = false)
    (hfull : 16 ≤ (s.uart n.val).rx.length) : exec (.uartRxByte n v p f b) s = .next (periphTell
      ((if b then s.setFld (F.UART_STAT_BRK n.val) 1 else s).setFld (F.UART_STAT_OVR n.val) 1) (80 + n.val)) := by
  show execUartRxByte n v p f b s = _
  rw [execUartRxByte, if_neg (by simp [hen, hd])]
  dsimp only
  rw [if_neg (by omega)]

theorem exec_uartTxByte_empty (h : (s.uart n.val).tx = []) : exec (.uartTxByte n) s = .next s := by
  show execUartTxByte n s = _
  rw [execUartTxByte, h]

theorem exec_uartTxByte_cons {e : Nat} {l : List Nat} (h : (s.uart n.val).tx = e :: l) (hen : s.flag (F.UART_CFG_EN n.val) = true)
    (hd : s.dbgHalted = false) : exec (.uartTxByte n) s = .next (periphTell (s.setUart n.val { s.uart n.val with
      tx := l, sent := some (e % 2 ^ (5 + s.fld (F.UART_CFG_LEN n.val))) }) (80 + n.val)) := by
  show execUartTxByte n s = _
  rw [execUartTxByte, h]
  exact if_neg (by simp [hen, hd])

/-- The UART's rows. -/
theorem uartRows :
    ((s.uart n.val).tx.length < 16 → ∃ t, exec (.uartDataWrite n v) s = .next t ∧ (t.uart n.val).tx = (s.uart n.val).tx ++ [v.toNat] ∧
      (t.uart n.val).rx = (s.uart n.val).rx ∧ t.mem = s.mem) ∧
    (16 ≤ (s.uart n.val).tx.length → ∃ t, exec (.uartDataWrite n v) s = .next t ∧ t.uart n.val = s.uart n.val ∧
      t.flag (F.UART_STAT_OVR n.val) = true) ∧
    ((s.uart n.val).rx = [] → ∃ t, exec (.uartDataRead n) s = .next t ∧ t.readData = 0 ∧ t.regs = s.regs) ∧
    (∀ e l, (s.uart n.val).rx = e :: l → ∃ t, exec (.uartDataRead n) s = .next t ∧ t.readData = word e ∧ (t.uart n.val).rx = l ∧
      (t.uart n.val).tx = (s.uart n.val).tx) ∧
    (s.flag (F.UART_CFG_EN n.val) = true → s.dbgHalted = false → (s.uart n.val).rx.length < 16 → s.fld (F.UART_CFG_LEN n.val) = 3 →
      ∃ t, exec (.uartRxByte n v false false false) s = .next t ∧ (t.uart n.val).rx = (s.uart n.val).rx ++ [v.toNat + 256]) ∧
    (s.flag (F.UART_CFG_EN n.val) = true → s.dbgHalted = false → 16 ≤ (s.uart n.val).rx.length → ∀ p f b,
      ∃ t, exec (.uartRxByte n v p f b) s = .next t ∧ (t.uart n.val).rx = (s.uart n.val).rx ∧
        t.flag (F.UART_STAT_OVR n.val) = true ∧ (b = true → t.flag (F.UART_STAT_BRK n.val) = true)) ∧
    (∀ e l, (s.uart n.val).tx = e :: l → s.flag (F.UART_CFG_EN n.val) = true → s.dbgHalted = false →
      ∃ t, exec (.uartTxByte n) s = .next t ∧ (t.uart n.val).tx = l ∧ (t.uart n.val).rx = (s.uart n.val).rx) ∧
    ((s.uart n.val).tx = [] → exec (.uartTxByte n) s = .next s) := by
  refine ⟨fun h => ?_, fun h => ?_, fun h => ?_, fun e l h => ?_, fun hen hd hroom hlen => ?_, fun hen hd hfull p f b => ?_,
    fun e l h hen hd => ?_, exec_uartTxByte_empty n s⟩
  · rw [exec_uartDataWrite, uartPush_room s n.val _ h]
    refine ⟨_, rfl, ?_, ?_, periphTell_mem _ _⟩
    · rw [periphTell_uart, uart_setUart, Nat.mod_eq_of_lt v.isLt]
    · rw [periphTell_uart, uart_setUart]
  · rw [exec_uartDataWrite, uartPush_full s n.val _ h]
    exact ⟨_, rfl, by rw [periphTell_uart, uart_setFld], uartOverrun_flag s n.val n.isLt⟩
  · rw [exec_uartDataRead, uartPop_empty s n.val h]
    exact ⟨_, rfl, rfl, rfl⟩
  · rw [exec_uartDataRead, uartPop_cons s n.val h]
    refine ⟨_, rfl, rfl, ?_, ?_⟩ <;> rw [uart_readData, periphTell_uart, uart_setUart]
  · refine ⟨_, exec_uartRxByte_room n v s hen hd hroom, ?_⟩
    rw [periphTell_uart, uart_setUart, hlen, Nat.mod_eq_of_lt v.isLt]
  · refine ⟨_, exec_uartRxByte_full n v s p f b hen hd hfull, ?_, uartOverrun_flag _ n.val n.isLt, fun hb => ?_⟩
    · cases b <;> simp only [periphTell_uart, uart_setFld, if_true, Bool.false_eq_true, if_false]
    · rw [hb, if_pos rfl]
      exact uartOverrun_break s n.val n.isLt
  · refine ⟨_, exec_uartTxByte_cons n s h hen hd, ?_, ?_⟩ <;> rw [periphTell_uart, uart_setUart]

end

/-! ### SPI (R526) -/

section
variable (s : State) (m : Nat)

theorem spiSelect_eq : ∃ cs, spiSelect s m = s.setSpi m { s.spi m with cs := cs } := ⟨_, rfl⟩

theorem spiSelect_spi : ∃ cs, (spiSelect s m).spi m = { s.spi m with cs := cs } := by
  obtain ⟨cs, h⟩ := spiSelect_eq s m
  exact ⟨cs, by rw [h, spi_setSpi]⟩

theorem spiSelect_tx : ((spiSelect s m).spi m).tx = (s.spi m).tx := by
  obtain ⟨cs, h⟩ := spiSelect_spi s m
  rw [h]

theorem spiSelect_rx : ((spiSelect s m).spi m).rx = (s.spi m).rx := by
  obtain ⟨cs, h⟩ := spiSelect_spi s m
  rw [h]

theorem spiSelect_cs : ((spiSelect s m).spi m).cs = (if s.flag (F.SPI_CFG_EN m) && (s.spi m).tx != [] then some (s.fld (F.SPI_CFG_CS m))
    else if s.flag (F.SPI_CFG_CSHOLD m) then (s.spi m).cs else none) := by
  rw [spiSelect, spi_setSpi]

/-- An enabled unit with frames to send selects. -/
theorem spiSelect_sends (hen : s.flag (F.SPI_CFG_EN m) = true) (htx : (s.spi m).tx ≠ []) :
    ((spiSelect s m).spi m).cs = some (s.fld (F.SPI_CFG_CS m)) := by
  rw [spiSelect_cs, if_pos (by simp [hen, htx])]

/-- A unit with nothing left to send holds the select where `CSHOLD` is set. -/
theorem spiSelect_rests (htx : (s.spi m).tx = []) :
    ((spiSelect s m).spi m).cs = if s.flag (F.SPI_CFG_CSHOLD m) then (s.spi m).cs else none := by
  rw [spiSelect_cs, if_neg (by simp [htx])]

theorem flag_setSpi (x : Spi) (f : Fld) : (s.setSpi m x).flag f = s.flag f := State.flag_congr (reg_setSpi s m x f.reg)
theorem fld_setSpi (x : Spi) (f : Fld) : (s.setSpi m x).fld f = s.fld f := State.fld_congr (reg_setSpi s m x f.reg)

theorem spiPush_room (v : Nat) (h : (s.spi m).tx.length < 8) : spiPush s m v =
    periphTell (spiSelect (s.setSpi m { s.spi m with tx := (s.spi m).tx ++ [v % 2 ^ spiBits s m] }) m) (84 + m) := if_pos h

theorem spiPush_full (v : Nat) (h : (s.spi m).tx.length = 8) : spiPush s m v = s := if_neg (by omega)

theorem spiPop_empty (h : (s.spi m).rx = []) : spiPop s m = (0, s) := by rw [spiPop, h]

theorem spiPop_cons {e : Nat} {l : List Nat} (h : (s.spi m).rx = e :: l) :
    spiPop s m = (word e, periphTell (s.setSpi m { s.spi m with rx := l }) (84 + m)) := by rw [spiPop, h]

/-- The unit when a frame has gone and come, before it selects again. -/
def spiMoved (v f : Nat) (l : List Nat) : State := s.setSpi m { s.spi m with
  rx := if (s.spi m).rx.length < 8 then (s.spi m).rx ++ [v % 2 ^ spiBits s m] else (s.spi m).rx
  tx := l
  sent := some f }

theorem spiMoved_spi (v f : Nat) (l : List Nat) : (spiMoved s m v f l).spi m = { s.spi m with
    rx := if (s.spi m).rx.length < 8 then (s.spi m).rx ++ [v % 2 ^ spiBits s m] else (s.spi m).rx
    tx := l
    sent := some f } := spi_setSpi _ _ _

theorem spiMoved_tx (v f : Nat) (l : List Nat) : ((spiMoved s m v f l).spi m).tx = l := by rw [spiMoved_spi]
theorem spiMoved_cs (v f : Nat) (l : List Nat) : ((spiMoved s m v f l).spi m).cs = (s.spi m).cs := by rw [spiMoved_spi]
theorem spiMoved_rx (v f : Nat) (l : List Nat) (h : (s.spi m).rx.length < 8) :
    ((spiMoved s m v f l).spi m).rx = (s.spi m).rx ++ [v % 2 ^ spiBits s m] := by rw [spiMoved_spi, if_pos h]

end

section
variable (m : Fin 2) (v : Word) (s : State)

theorem exec_spiDataWrite : exec (.spiDataWrite m v) s = .next (spiPush s m.val v.toNat) := rfl

theorem exec_spiDataRead : exec (.spiDataRead m) s = .next { (spiPop s m.val).2 with readData := (spiPop s m.val).1 } := rfl

theorem exec_spiFrameEnd_empty (h : (s.spi m.val).tx = []) : exec (.spiFrameEnd m v) s = .next s := by
  show execSpiFrameEnd m v s = _
  rw [execSpiFrameEnd, h]

theorem exec_spiFrameEnd_cons {f : Nat} {l : List Nat} (h : (s.spi m.val).tx = f :: l) (hen : s.flag (F.SPI_CFG_EN m.val) = true)
    (hd : s.dbgHalted = false) : exec (.spiFrameEnd m v) s =
      .next (periphTell (spiSelect (spiMoved s m.val v.toNat f l) m.val) (84 + m.val)) := by
  show execSpiFrameEnd m v s = _
  rw [execSpiFrameEnd, h]
  exact if_neg (by simp [hen, hd])

/-- The SPI unit's rows. -/
theorem spiRows :
    ((s.spi m.val).tx.length < 8 → ∃ t, exec (.spiDataWrite m v) s = .next t ∧
      (t.spi m.val).tx = (s.spi m.val).tx ++ [v.toNat % 2 ^ spiBits s m.val] ∧
      (s.flag (F.SPI_CFG_EN m.val) = true → (t.spi m.val).cs = some (s.fld (F.SPI_CFG_CS m.val)))) ∧
    ((s.spi m.val).tx.length = 8 → exec (.spiDataWrite m v) s = .next s) ∧
    ((s.spi m.val).rx = [] → ∃ t, exec (.spiDataRead m) s = .next t ∧ t.readData = 0 ∧ t.regs = s.regs) ∧
    (∀ e l, (s.spi m.val).rx = e :: l → ∃ t, exec (.spiDataRead m) s = .next t ∧ t.readData = word e ∧ (t.spi m.val).rx = l) ∧
    ((s.spi m.val).tx = [] → exec (.spiFrameEnd m v) s = .next s) ∧
    (∀ e l, (s.spi m.val).tx = e :: l → s.flag (F.SPI_CFG_EN m.val) = true → s.dbgHalted = false →
      ∃ t, exec (.spiFrameEnd m v) s = .next t ∧ (t.spi m.val).tx = l ∧
        ((s.spi m.val).rx.length < 8 → (t.spi m.val).rx = (s.spi m.val).rx ++ [v.toNat % 2 ^ spiBits s m.val]) ∧
        (l = [] → s.flag (F.SPI_CFG_CSHOLD m.val) = false → (t.spi m.val).cs = none) ∧
        (l ≠ [] → (t.spi m.val).cs = some (s.fld (F.SPI_CFG_CS m.val))) ∧
        (l = [] → s.flag (F.SPI_CFG_CSHOLD m.val) = true → (t.spi m.val).cs = (s.spi m.val).cs)) := by
  refine ⟨fun h => ?_, fun h => ?_, fun h => ?_, fun e l h => ?_, exec_spiFrameEnd_empty m v s, fun e l h hen hd => ?_⟩
  · rw [exec_spiDataWrite, spiPush_room s m.val _ h]
    refine ⟨_, rfl, ?_, fun hen => ?_⟩
    · rw [periphTell_spi, spiSelect_tx, spi_setSpi]
    · rw [periphTell_spi, spiSelect_sends, fld_setSpi]
      · rw [flag_setSpi, hen]
      · rw [spi_setSpi]
        exact List.append_ne_nil_of_right_ne_nil _ (List.cons_ne_nil _ _)
  · rw [exec_spiDataWrite, spiPush_full s m.val _ h]
  · rw [exec_spiDataRead, spiPop_empty s m.val h]
    exact ⟨_, rfl, rfl, rfl⟩
  · rw [exec_spiDataRead, spiPop_cons s m.val h]
    refine ⟨_, rfl, rfl, ?_⟩
    rw [spi_readData, periphTell_spi, spi_setSpi]
  · have hhold : (spiMoved s m.val v.toNat e l).flag (F.SPI_CFG_CSHOLD m.val) = s.flag (F.SPI_CFG_CSHOLD m.val) := flag_setSpi s _ _ _
    refine ⟨_, exec_spiFrameEnd_cons m v s h hen hd, ?_, fun hroom => ?_, fun hl hoff => ?_, fun hl => ?_, fun hl hon => ?_⟩ <;>
      rw [periphTell_spi]
    · rw [spiSelect_tx, spiMoved_tx]
    · rw [spiSelect_rx, spiMoved_rx _ _ _ _ _ hroom]
    · rw [spiSelect_rests _ _ ((spiMoved_tx _ _ _ _ _).trans hl), hhold, hoff, if_neg Bool.false_ne_true]
    · have hon : (spiMoved s m.val v.toNat e l).flag (F.SPI_CFG_EN m.val) = true := (flag_setSpi s _ _ _).trans hen
      rw [spiSelect_sends _ _ hon (by rwa [spiMoved_tx])]
      exact congrArg some (fld_setSpi s _ _ _)
    · rw [spiSelect_rests _ _ ((spiMoved_tx _ _ _ _ _).trans hl), hhold, hon, if_pos rfl, spiMoved_cs]

end

/-! ### I2C (R527) -/

section
variable (s : State) (j : Nat)

theorem i2cPush_room (op d : Nat) (h1 : 1 ≤ op) (h5 : op ≤ 5) (h : (s.i2c j).fifo.length < 8) :
    i2cPush s j op d = periphTell (s.setI2c j { s.i2c j with fifo := (s.i2c j).fifo ++ [(op, d)] }) (86 + j) := if_pos ⟨h1, h5, h⟩

theorem i2cPush_lost (op d : Nat) (h : op = 0 ∨ 5 < op ∨ 8 ≤ (s.i2c j).fifo.length) : i2cPush s j op d = s := if_neg (by omega)

theorem i2cRuns_of (hen : s.flag (F.I2C_CFG_EN j) = true) (hd : s.dbgHalted = false) : i2cRuns s j = true := by rw [i2cRuns, hen, hd]; rfl

theorem i2cRuns_off (hen : s.flag (F.I2C_CFG_EN j) = false) : i2cRuns s j = false := by rw [i2cRuns, hen]; rfl

theorem i2cFail_fifo (k : Nat) : ((i2cFail s j k).i2c j).fifo = [] := by
  rw [i2cFail, periphTell_i2c, i2c_setRegBit, i2c_setI2c]

theorem i2cStat_above : 0x40004280 ≤ R.I2C_STAT j ∧ 0x40004280 ≤ R.I2C_RX j := by
  simp only [R.I2C_STAT, R.I2C_RX]
  omega

theorem i2cFail_bit (k : Nat) (hj : j < 2) (hk : k < 32) : (i2cFail s j k).regBit (R.I2C_STAT j) k = true := by
  rw [i2cFail, periphTell_bit _ _ _ _ (by omega) (i2cStat_above j).1]
  exact State.regBit_setRegBit_same _ _ _ _ hk

/-- The command gone, its byte in the receive register where it reads. -/
def i2cDone (c : Nat × Nat) (l : List (Nat × Nat)) (b : BitVec 8) : State :=
  if c.1 = 3 ∨ c.1 = 4 then (s.setI2c j { fifo := l, did := .cmd c.1 c.2 }).setReg (R.I2C_RX j) (word (256 + b.toNat))
  else s.setI2c j { fifo := l, did := .cmd c.1 c.2 }

theorem i2cDone_fifo (c : Nat × Nat) (l : List (Nat × Nat)) (b : BitVec 8) : ((i2cDone s j c l b).i2c j).fifo = l := by
  have hset : ((s.setI2c j { fifo := l, did := .cmd c.1 c.2 }).i2c j).fifo = l := by rw [i2c_setI2c]
  unfold i2cDone
  split
  · exact hset
  · exact hset

theorem i2cDone_rx (c : Nat × Nat) (l : List (Nat × Nat)) (b : BitVec 8) (h : c.1 = 3 ∨ c.1 = 4) :
    (i2cDone s j c l b).reg (R.I2C_RX j) = word (256 + b.toNat) := by
  rw [i2cDone, if_pos h]
  exact State.reg_setReg _ _ _

theorem i2cEnd_done {c : Nat × Nat} {l : List (Nat × Nat)} (h : (s.i2c j).fifo = c :: l) (b : BitVec 8) :
    i2cEnd s j (.done b) = periphTell (i2cDone s j c l b) (86 + j) := by
  rw [i2cEnd, h]
  rfl

theorem i2cEnd_nack {c : Nat × Nat} {l : List (Nat × Nat)} (h : (s.i2c j).fifo = c :: l) : i2cEnd s j .nack = i2cFail s j 3 := by
  rw [i2cEnd, h]

theorem i2cEnd_busError {c : Nat × Nat} {l : List (Nat × Nat)} (h : (s.i2c j).fifo = c :: l) : i2cEnd s j .busError = i2cFail s j 1 := by
  rw [i2cEnd, h]

end

section
variable (j : Fin 2) (s : State)

theorem exec_i2cCmd (op : BitVec 3) (b : BitVec 8) : exec (.i2cCmd j op b) s = .next (i2cPush s j.val op.toNat b.toNat) := rfl

theorem exec_i2cCommandEnd_off (h : i2cRuns s j.val = false) (r : I2cEnd) : exec (.i2cCommandEnd j r) s = .next s :=
  if_neg (Bool.eq_false_iff.mp h)

theorem exec_i2cCommandEnd_on (h : i2cRuns s j.val = true) (r : I2cEnd) : exec (.i2cCommandEnd j r) s = .next (i2cEnd s j.val r) := if_pos h

theorem exec_i2cStretchTimeout_off (h : i2cRuns s j.val = false) : exec (.i2cStretchTimeout j) s = .next s := if_neg (by simp [h])

theorem exec_i2cStretchTimeout_on (h : i2cRuns s j.val = true) (hf : (s.i2c j.val).fifo ≠ []) :
    exec (.i2cStretchTimeout j) s = .next (i2cFail s j.val 2) := if_pos (by simp [h, hf])

theorem exec_recover_free : exec (.recover j false) s = .next s := rfl

theorem exec_recover_held : exec (.recover j true) s = .next (i2cRecover s j.val) := rfl

theorem i2cRecover_i2c (n : Nat) : (i2cRecover s n).i2c n = { s.i2c n with did := .recover } := i2c_setI2c _ _ _

/-- The I2C unit's rows. -/
theorem i2cRows (op : BitVec 3) (b : BitVec 8) :
    (1 ≤ op.toNat → op.toNat ≤ 5 → (s.i2c j.val).fifo.length < 8 → ∃ t, exec (.i2cCmd j op b) s = .next t ∧
      (t.i2c j.val).fifo = (s.i2c j.val).fifo ++ [(op.toNat, b.toNat)]) ∧
    (op.toNat = 0 ∨ 5 < op.toNat ∨ 8 ≤ (s.i2c j.val).fifo.length → exec (.i2cCmd j op b) s = .next s) ∧
    (s.flag (F.I2C_CFG_EN j.val) = false → (∀ r, exec (.i2cCommandEnd j r) s = .next s) ∧ exec (.i2cStretchTimeout j) s = .next s) ∧
    (∀ c l, (s.i2c j.val).fifo = c :: l → s.flag (F.I2C_CFG_EN j.val) = true → s.dbgHalted = false →
      (∃ t, exec (.i2cCommandEnd j (.done b)) s = .next t ∧ (t.i2c j.val).fifo = l ∧
        (c.1 = 3 ∨ c.1 = 4 → t.reg (R.I2C_RX j.val) = word (256 + b.toNat))) ∧
      (∃ t, exec (.i2cCommandEnd j .nack) s = .next t ∧ (t.i2c j.val).fifo = [] ∧ t.regBit (R.I2C_STAT j.val) 3 = true) ∧
      (∃ t, exec (.i2cCommandEnd j .busError) s = .next t ∧ (t.i2c j.val).fifo = [] ∧ t.regBit (R.I2C_STAT j.val) 1 = true) ∧
      ∃ t, exec (.i2cStretchTimeout j) s = .next t ∧ (t.i2c j.val).fifo = [] ∧ t.regBit (R.I2C_STAT j.val) 2 = true) ∧
    exec (.recover j false) s = .next s ∧
    ∃ t, exec (.recover j true) s = .next t ∧ (t.i2c j.val).did = .recover ∧ (t.i2c j.val).fifo = (s.i2c j.val).fifo ∧ t.regs = s.regs := by
  refine ⟨fun h1 h5 h => ?_, fun h => ?_, fun hen => ?_, fun c l h hen hd => ?_, exec_recover_free j s,
    ⟨_, exec_recover_held j s, by rw [i2cRecover_i2c], by rw [i2cRecover_i2c], rfl⟩⟩
  · rw [exec_i2cCmd, i2cPush_room s j.val _ _ h1 h5 h]
    exact ⟨_, rfl, by rw [periphTell_i2c, i2c_setI2c]⟩
  · rw [exec_i2cCmd, i2cPush_lost s j.val _ _ h]
  · exact ⟨exec_i2cCommandEnd_off j s (i2cRuns_off s _ hen), exec_i2cStretchTimeout_off j s (i2cRuns_off s _ hen)⟩
  · have hruns := i2cRuns_of s j.val hen hd
    have hfail (k : Nat) (hk : k < 32) := And.intro (i2cFail_fifo s j.val k) (i2cFail_bit s j.val k j.isLt hk)
    refine ⟨⟨_, exec_i2cCommandEnd_on j s hruns _, ?_, fun hread => ?_⟩, ⟨_, exec_i2cCommandEnd_on j s hruns _, ?_⟩,
      ⟨_, exec_i2cCommandEnd_on j s hruns _, ?_⟩, ⟨_, exec_i2cStretchTimeout_on j s hruns (by simp [h]), hfail 2 (by decide)⟩⟩
    · rw [i2cEnd_done s _ h, periphTell_i2c, i2cDone_fifo]
    · rw [i2cEnd_done s _ h, periphTell_reg_above _ _ _ (by omega) (i2cStat_above _).2, i2cDone_rx s _ c l b hread]
    · rw [i2cEnd_nack s _ h]
      exact hfail 3 (by decide)
    · rw [i2cEnd_busError s _ h]
      exact hfail 1 (by decide)

end

/-! ### Timers (R528) -/

section
variable (s : State) (k : Nat)

/-- What the mode does to the timer's registers at a match. -/
def matchRegs (mode : Nat) : State :=
  match mode with
  | 0 => s.setFld (F.TMR_CTRL_EN k) 0
  | 1 => s.setReg (R.TMR_CNT k) 0
  | _ => s

/-- The timer as a match leaves it. -/
def matchTmr (mode : Nat) : Tmr :=
  { s.tmr k with running := decide (mode ≠ 0), pin := if s.flag (F.TMR_CTRL_OUT_EN k) then !(s.tmr k).pin else (s.tmr k).pin }

/-- A match: the mode's registers, the timer, and the status bit that the timer tells. -/
def matched (mode : Nat) : State :=
  periphTell (((matchRegs s k mode).setTmr k (matchTmr s k mode)).setFld (F.TMR_STAT_MATCH k) 1) (88 + k)

theorem tmrReg_above (b : Nat) (h : 0x40037000 ≤ b) : 0x40004280 ≤ b := by omega

theorem tmr_above : 0x40037000 ≤ R.TMR_CTRL k ∧ 0x40037000 ≤ R.TMR_CNT k ∧ 0x40037000 ≤ R.TMR_CAP_LO k ∧ 0x40037000 ≤ R.TMR_CAP_HI k ∧
    0x40037000 ≤ R.TMR_STAT k := by
  simp only [R.TMR_CTRL, R.TMR_CNT, R.TMR_CAP_LO, R.TMR_CAP_HI, R.TMR_STAT]
  omega

theorem tmr_apart : R.TMR_CTRL k ≠ R.TMR_STAT k ∧ R.TMR_CNT k ≠ R.TMR_STAT k ∧ R.TMR_CAP_LO k ≠ R.TMR_STAT k ∧
    R.TMR_CAP_HI k ≠ R.TMR_STAT k ∧ R.TMR_CAP_LO k ≠ R.TMR_CAP_HI k := by
  simp only [R.TMR_CTRL, R.TMR_CNT, R.TMR_CAP_LO, R.TMR_CAP_HI, R.TMR_STAT]
  omega

theorem matched_reg (mode b : Nat) (hk : k < 8) (hb : 0x40037000 ≤ b) (hne : b ≠ R.TMR_STAT k) :
    (matched s k mode).reg b = (matchRegs s k mode).reg b := by
  rw [matched, periphTell_reg_above _ _ _ (by omega) (tmrReg_above b hb), State.reg_setFld_ne _ _ _ _ hne, reg_setTmr]

theorem matched_tmr (mode : Nat) : (matched s k mode).tmr k = matchTmr s k mode := by
  rw [matched, periphTell_tmr, tmr_setFld, tmr_setTmr]

theorem matched_bit (mode : Nat) (hk : k < 8) : (matched s k mode).regBit (R.TMR_STAT k) 0 = true := by
  rw [matched, periphTell_bit _ _ _ _ (by omega) (tmrReg_above _ (tmr_above k).2.2.2.2), ← State.flag_oneBit]
  exact State.flag_setFld_one _ (F.TMR_STAT_MATCH k) (by simp) rfl

/-- The time captured, and the status bit that the timer tells. -/
def captured : State :=
  periphTell (((s.setReg (R.TMR_CAP_LO k) (word s.tb)).setReg (R.TMR_CAP_HI k) (word (s.tb / 2 ^ 32))).setFld (F.TMR_STAT_CAP k) 1) (88 + k)

theorem captured_holds (hk : k < 8) : (captured s k).reg (R.TMR_CAP_LO k) = word s.tb ∧
    (captured s k).reg (R.TMR_CAP_HI k) = word (s.tb / 2 ^ 32) ∧ (captured s k).regBit (R.TMR_STAT k) 1 = true := by
  obtain ⟨-, -, hlo, hhi, hstat⟩ := tmr_above k
  obtain ⟨-, -, hlo', hhi', hboth⟩ := tmr_apart k
  refine ⟨?_, ?_, ?_⟩
  · rw [captured, periphTell_reg_above _ _ _ (by omega) (tmrReg_above _ hlo), State.reg_setFld_ne _ _ _ _ hlo',
      State.reg_setReg_ne _ _ _ _ hboth, State.reg_setReg]
  · rw [captured, periphTell_reg_above _ _ _ (by omega) (tmrReg_above _ hhi), State.reg_setFld_ne _ _ _ _ hhi', State.reg_setReg]
  · rw [captured, periphTell_bit _ _ _ _ (by omega) (tmrReg_above _ hstat), ← State.flag_oneBit]
    exact State.flag_setFld_one _ (F.TMR_STAT_CAP k) (by simp) rfl

end

section
variable (k : Fin 8) (s : State)

theorem exec_timerMatch (hrun : (s.tmr k.val).running = true) (hd : s.dbgHalted = false)
    (hcnt : s.reg (R.TMR_CNT k.val) = s.reg (R.TMR_CMP k.val)) (hmode : s.fld (F.TMR_CTRL_MODE k.val) ≠ 3) :
    exec (.timerMatch k) s = .next (matched s k.val (s.fld (F.TMR_CTRL_MODE k.val))) := if_neg (by simp [hrun, hd, hcnt, hmode])

theorem exec_timerMatch_none (h : s.fld (F.TMR_CTRL_MODE k.val) = 3 ∨ s.reg (R.TMR_CNT k.val) ≠ s.reg (R.TMR_CMP k.val)) :
    exec (.timerMatch k) s = .next s := if_pos (by rcases h with h | h <;> simp [h])

theorem exec_timerCapture (hmode : s.fld (F.TMR_CTRL_MODE k.val) = 2) (hrun : (s.tmr k.val).running = true) (hd : s.dbgHalted = false) :
    exec (.timerCapture k) s = .next (captured s k.val) := if_pos ⟨hmode, hrun, hd⟩

theorem exec_timerCapture_none (hmode : s.fld (F.TMR_CTRL_MODE k.val) ≠ 2) : exec (.timerCapture k) s = .next s :=
  if_neg fun h => hmode h.1

/-- A timer's rows. -/
theorem timerRows (hrun : (s.tmr k.val).running = true) (hd : s.dbgHalted = false) :
    (s.reg (R.TMR_CNT k.val) = s.reg (R.TMR_CMP k.val) →
      (s.fld (F.TMR_CTRL_MODE k.val) = 0 → ∃ t, exec (.timerMatch k) s = .next t ∧ (t.tmr k.val).running = false ∧
        t.flag (F.TMR_CTRL_EN k.val) = false ∧ t.regBit (R.TMR_STAT k.val) 0 = true) ∧
      (s.fld (F.TMR_CTRL_MODE k.val) = 1 → ∃ t, exec (.timerMatch k) s = .next t ∧ (t.tmr k.val).running = true ∧
        t.reg (R.TMR_CNT k.val) = 0 ∧ t.regBit (R.TMR_STAT k.val) 0 = true) ∧
      (s.fld (F.TMR_CTRL_MODE k.val) = 2 → ∃ t, exec (.timerMatch k) s = .next t ∧ (t.tmr k.val).running = true ∧
        t.reg (R.TMR_CNT k.val) = s.reg (R.TMR_CNT k.val) ∧ t.regBit (R.TMR_STAT k.val) 0 = true) ∧
      (s.fld (F.TMR_CTRL_MODE k.val) = 3 → exec (.timerMatch k) s = .next s)) ∧
    (s.reg (R.TMR_CNT k.val) ≠ s.reg (R.TMR_CMP k.val) → exec (.timerMatch k) s = .next s) ∧
    (s.fld (F.TMR_CTRL_MODE k.val) = 2 → ∃ t, exec (.timerCapture k) s = .next t ∧ t.reg (R.TMR_CAP_LO k.val) = word s.tb ∧
      t.reg (R.TMR_CAP_HI k.val) = word (s.tb / 2 ^ 32) ∧ t.regBit (R.TMR_STAT k.val) 1 = true) ∧
    (s.fld (F.TMR_CTRL_MODE k.val) ≠ 2 → exec (.timerCapture k) s = .next s) := by
  obtain ⟨hctrl, hcnt, -, -, -⟩ := tmr_above k.val
  obtain ⟨hctrl', hcnt', -, -, -⟩ := tmr_apart k.val
  have hexec (heq : s.reg (R.TMR_CNT k.val) = s.reg (R.TMR_CMP k.val)) (mode : Nat) (hmode : s.fld (F.TMR_CTRL_MODE k.val) = mode)
      (h3 : mode ≠ 3) : exec (.timerMatch k) s = .next (matched s k.val mode) := by
    rw [exec_timerMatch k s hrun hd heq (by rwa [hmode]), hmode]
  refine ⟨fun heq => ⟨fun hm => ?_, fun hm => ?_, fun hm => ?_, fun hm => exec_timerMatch_none k s (.inl hm)⟩,
    fun hne => exec_timerMatch_none k s (.inr hne),
    fun hm => ⟨_, exec_timerCapture k s hm hrun hd, captured_holds s k.val k.isLt⟩, exec_timerCapture_none k s⟩
  · refine ⟨_, hexec heq 0 hm (by decide), by rw [matched_tmr]; rfl, ?_, matched_bit s _ 0 k.isLt⟩
    rw [State.flag_congr (matched_reg s k.val 0 _ k.isLt hctrl hctrl')]
    exact State.flag_setFld_zero s _ (by simp)
  · refine ⟨_, hexec heq 1 hm (by decide), by rw [matched_tmr]; rfl, ?_, matched_bit s _ 1 k.isLt⟩
    rw [matched_reg s k.val 1 _ k.isLt hcnt hcnt']
    exact s.reg_setReg _ _
  · refine ⟨_, hexec heq 2 hm (by decide), by rw [matched_tmr]; rfl, ?_, matched_bit s _ 2 k.isLt⟩
    rw [matched_reg s k.val 2 _ k.isLt hcnt hcnt']
    rfl

end

/-! ### WDT_SYS (R529) -/

section
variable (s : State)

theorem exec_wdtSysEn : exec .wdtSysEn s = .next (wdtStart s) := rfl

theorem exec_wdtSysKick (key : BitVec 16) : exec (.wdtSysKick key) s = .next (wdtKick s key.toNat) := rfl

theorem exec_wdtSysEarly (h : wdtRuns s = true) : exec .wdtSysEarly s = .next (aonEvent (s.setFld F.WDT_SYS_STAT_EARLY 1) 18) := if_pos h

theorem exec_wdtSysExpiry (h : wdtRuns s = true) : exec .wdtSysExpiry s = .next (wdtExpire s false) := if_pos h

theorem exec_wdtSys_rests (h : wdtRuns s = false) : exec .wdtSysEarly s = .next s ∧ exec .wdtSysExpiry s = .next s :=
  ⟨if_neg (Bool.eq_false_iff.mp h), if_neg (Bool.eq_false_iff.mp h)⟩

/-- The watchdog started: `EN` set, the period counted from here. -/
def wdtStarted : State := { s.setFld F.WDT_SYS_CTRL_EN 1 with per := { s.per with wdtSys := { since := s.tb } } }

theorem wdtStart_again (h : s.flag F.WDT_SYS_CTRL_EN = true) : wdtStart s = s := if_pos h

theorem wdtStart_off (h : s.flag F.WDT_SYS_CTRL_EN = false) : wdtStart s = wdtStarted s := if_neg (Bool.eq_false_iff.mp h)

theorem wdtStarted_flag : (wdtStarted s).flag F.WDT_SYS_CTRL_EN = true := s.flag_setFld_one F.WDT_SYS_CTRL_EN (by decide) rfl

/-- The watchdog's period has passed. -/
def wdtLate : Prop := s.per.wdtSys.since + s.fld F.WDT_SYS_CTRL_PERIOD * 100000 ≤ s.tb

/-- What a kick does to a watchdog that runs. -/
def wdtKicked (key : Nat) : State :=
  match kickWdt s.tb (s.fld F.WDT_SYS_CTRL_WINDOW) key s.per.wdtSys with
  | some x => { s with per := { s.per with wdtSys := x } }
  | none => wdtExpire s true

theorem wdtKick_rests (key : Nat) (h : wdtRuns s = false) : wdtKick s key = s := if_pos (by simp [h])

theorem wdtKick_late (key : Nat) (h : wdtLate s) : wdtKick s key = s := by
  have hlate : s.per.wdtSys.since + s.fld F.WDT_SYS_CTRL_PERIOD * msTb ≤ s.tb := h
  exact if_pos (by simp [hlate])

theorem wdtKick_runs (key : Nat) (h : wdtRuns s = true) (hl : ¬ wdtLate s) : wdtKick s key = wdtKicked s key := by
  have hlate : ¬ s.per.wdtSys.since + s.fld F.WDT_SYS_CTRL_PERIOD * msTb ≤ s.tb := hl
  exact if_neg (by simp [h, hlate])

theorem wdtKicked_some {key : Nat} {x : Wdt} (h : kickWdt s.tb (s.fld F.WDT_SYS_CTRL_WINDOW) key s.per.wdtSys = some x) :
    wdtKicked s key = { s with per := { s.per with wdtSys := x } } := by rw [wdtKicked, h]

theorem wdtKicked_none {key : Nat} (h : kickWdt s.tb (s.fld F.WDT_SYS_CTRL_WINDOW) key s.per.wdtSys = none) :
    wdtKicked s key = wdtExpire s true := by rw [wdtKicked, h]

end

section
variable (tb win key : Nat) (w : Wdt)

/-- The first key is taken once, and at any time. -/
theorem kickWdt_first (h : w.key = none) : kickWdt tb win key w = if key = 0x5A5A then some { w with key := some tb } else none := by
  rw [kickWdt, h]

/-- The second key is taken within 10000 ticks of the first and not before the window opens. -/
theorem kickWdt_second {k : Nat} (h : w.key = some k) : kickWdt tb win key w =
    if key = 0xA5A5 ∧ tb ≤ k + 10000 ∧ w.since + win * 100000 ≤ tb then some { since := tb } else none := by
  rw [kickWdt, h]
  rfl

end

theorem key_eq_iff (key : BitVec 16) (v : Nat) (hv : v < 2 ^ 16) : key.toNat = v ↔ key = BitVec.ofNat 16 v := by
  rw [← BitVec.toNat_inj, BitVec.toNat_ofNat, Nat.mod_eq_of_lt hv]

theorem aonEvent_reg_above (s : State) (k b : Nat) (hk : k < 256) (h : 0x40004280 ≤ b) : (aonEvent s k).reg b = s.reg b := by
  have hpend : (s.setRegBit R.PMU_WAKE_PEND k true).reg b = s.reg b :=
    s.reg_setRegBit_ne _ _ _ _ (by simp only [R.PMU_WAKE_PEND]; omega)
  unfold aonEvent
  split
  · exact (evcEvent_reg_above _ k b hk h).trans hpend
  · exact hpend
  · rfl

theorem wdtEarly_flag (s : State) : (aonEvent (s.setFld F.WDT_SYS_STAT_EARLY 1) 18).flag F.WDT_SYS_STAT_EARLY = true := by
  rw [State.flag_congr (aonEvent_reg_above _ 18 _ (by decide) (by decide))]
  exact s.flag_setFld_one F.WDT_SYS_STAT_EARLY (by decide) rfl

theorem wdtEarly_mem (s : State) : (aonEvent (s.setFld F.WDT_SYS_STAT_EARLY 1) 18).mem = s.mem :=
  (State.onlyRegs_trans (s.onlyRegs_setFld _ _) (aonEvent_only _ 18)).mem_eq

/-- The kicks of a watchdog that runs and is not late. -/
theorem exec_kick_runs (key : BitVec 16) (s : State) (h : wdtRuns s = true) (hl : ¬ wdtLate s) :
    exec (.wdtSysKick key) s = .next (wdtKicked s key.toNat) := by rw [exec_wdtSysKick, wdtKick_runs s _ h hl]

theorem exec_kick_kept (key : BitVec 16) {s : State} {x : Wdt} (h : wdtRuns s = true) (hl : ¬ wdtLate s)
    (hk : kickWdt s.tb (s.fld F.WDT_SYS_CTRL_WINDOW) key.toNat s.per.wdtSys = some x) :
    ∃ t, exec (.wdtSysKick key) s = .next t ∧ t.per.wdtSys = x ∧ t.regs = s.regs := by
  rw [exec_kick_runs key s h hl, wdtKicked_some s hk]
  exact ⟨_, rfl, rfl, rfl⟩

theorem exec_kick_bad (key : BitVec 16) {s : State} (h : wdtRuns s = true) (hl : ¬ wdtLate s)
    (hk : kickWdt s.tb (s.fld F.WDT_SYS_CTRL_WINDOW) key.toNat s.per.wdtSys = none) :
    exec (.wdtSysKick key) s = .next (wdtExpire s true) := by
  rw [exec_kick_runs key s h hl, wdtKicked_none s hk]

/-- Settles O55: each unit's rows, with its FIFO and registers read through `periphTell`. -/
theorem serialUnitsAndTimers : Obligations.SerialUnitsAndTimers := by
  unfold Obligations.SerialUnitsAndTimers
  refine ⟨fun n v s => uartRows n v s, fun m v s => spiRows m v s, fun j op b s => i2cRows j s op b, fun k s => timerRows k s,
    fun s => ⟨fun h => ?_, fun h => ?_⟩, fun key s => ⟨fun h => ⟨?_, exec_wdtSys_rests s h⟩, fun _ hl => ?_, fun h hl hk hkey => ?_,
      fun h hl hk hkey => ?_, fun k h hl hk hkey hsoon hwin => ?_, fun k h hl hk hbad => ?_,
      fun h => ⟨exec_wdtSysExpiry s h, ⟨_, exec_wdtSysEarly s h, wdtEarly_flag s, wdtEarly_mem s⟩⟩⟩⟩
  · rw [exec_wdtSysEn, wdtStart_again s h]
  · exact ⟨wdtStarted s, by rw [exec_wdtSysEn, wdtStart_off s h], wdtStarted_flag s, rfl⟩
  · rw [exec_wdtSysKick, wdtKick_rests s _ h]
  · rw [exec_wdtSysKick, wdtKick_late s _ hl]
  · exact exec_kick_kept key h hl ((kickWdt_first _ _ _ _ hk).trans (if_pos ((key_eq_iff key 0x5A5A (by decide)).mpr hkey)))
  · exact exec_kick_bad key h hl ((kickWdt_first _ _ _ _ hk).trans (if_neg fun heq => hkey ((key_eq_iff key 0x5A5A (by decide)).mp heq)))
  · have hword := (key_eq_iff key 0xA5A5 (by decide)).mpr hkey
    exact exec_kick_kept key h hl ((kickWdt_second _ _ _ _ hk).trans (if_pos ⟨hword, hsoon, hwin⟩))
  · refine exec_kick_bad key h hl ((kickWdt_second _ _ _ _ hk).trans (if_neg fun ⟨hword, hsoon, hwin⟩ => ?_))
    rcases hbad with hbad | hbad | hbad
    · exact hbad ((key_eq_iff key 0xA5A5 (by decide)).mp hword)
    · omega
    · omega

end Sys2Proof.Machine
end

section
/-! The ageing monitor (R465, R468, R470, R471, R473 to R477). -/

namespace Sys2Proof.Machine

/-! ### Steps over clusters -/

theorem eachNat_notMem {α : Type} {f : State → Nat → State} {g : State → Nat → α} {n : Nat}
    (hf : ∀ t k c, k < n → c < n → c ≠ k → g (f t k) c = g t c) {l : List Nat} (hl : ∀ k ∈ l, k < n) {c : Nat} (hc : c < n) (h : c ∉ l)
    (s : State) : g (eachNat f s l) c = g s c := by
  induction l generalizing s with
  | nil => rfl
  | cons k l ih =>
    obtain ⟨hk, hrest⟩ := List.forall_mem_cons.mp hl
    rw [eachNat, ih hrest (fun hm => h (List.mem_cons_of_mem _ hm))]
    exact hf s k c hk hc (fun heq => h (heq ▸ List.mem_cons_self))

/-- Where a step for one cluster leaves what is read of another, each cluster of a list without repetition meets its own step once. -/
theorem eachNat_mem {α : Type} {f : State → Nat → State} {g : State → Nat → α} {n : Nat}
    (hf : ∀ t k c, k < n → c < n → c ≠ k → g (f t k) c = g t c) {l : List Nat} (hl : ∀ k ∈ l, k < n) (hd : l.Nodup) {c : Nat} (h : c ∈ l)
    (s : State) : ∃ t, g t c = g s c ∧ g (eachNat f s l) c = g (f t c) c := by
  induction l generalizing s with
  | nil => cases h
  | cons k l ih =>
    obtain ⟨hk, hrest⟩ := List.forall_mem_cons.mp hl
    obtain ⟨hnot, hd'⟩ := List.nodup_cons.mp hd
    rw [eachNat]
    by_cases hck : c = k
    · subst hck
      exact ⟨s, rfl, eachNat_notMem hf hrest hk hnot _⟩
    · obtain ⟨t, ht, hend⟩ := ih hrest hd' ((List.mem_cons.mp h).resolve_left hck) (f s k)
      exact ⟨t, ht.trans (hf s k c hk (hl c h) hck), hend⟩

/-- A step that leaves the state does so over a list. -/
theorem eachNat_still {f : State → Nat → State} {s : State} {l : List Nat} (h : ∀ k ∈ l, f s k = s) : eachNat f s l = s := by
  induction l with
  | nil => rfl
  | cons k l ih =>
    obtain ⟨hk, hrest⟩ := List.forall_mem_cons.mp h
    rw [eachNat, hk, ih hrest]

theorem mem_addTo (l : List Nat) (k a : Nat) : a ∈ addTo l k ↔ a = k ∨ a ∈ l := by
  induction l with
  | nil => simp [addTo]
  | cons b l ih =>
    unfold addTo
    split
    · simp
    · split
      next heq => simp [heq]
      next => simp only [List.mem_cons, ih]; tauto

theorem has_iff (l : List Nat) (k : Nat) : has l k = true ↔ k ∈ l := List.contains_iff_mem

/-! ### What a record, an event and a supply step leave -/

/-- The registers from which margins are judged: the clusters' clock steps and the monitor's readings. -/
def readingReg (b : Nat) : Prop := 0x40002010 ≤ b ∧ b < 0x40002020 ∨ 0x4000D010 ≤ b ∧ b < 0x4000D0C4

/-- What the judgement of margins reads, beside the state bits, is as it was. -/
structure State.keepsReadings (s t : State) : Prop where
  regs : ∀ b, readingReg b → t.reg b = s.reg b
  ratios : t.agm.ratios = s.agm.ratios
  user : t.cfg.user = s.cfg.user
  fact : ∀ a, 0x58000000 ≤ a → t.byte a = s.byte a

/-- The state bits of the clusters are too. -/
structure State.keepsMargins (s t : State) : Prop extends s.keepsReadings t where
  bits : ∀ k, k < 32 → k ≠ 14 → t.regBit R.AGM_STATUS k = s.regBit R.AGM_STATUS k

namespace State
variable {s t u : State}

theorem keepsReadings.trans (h : s.keepsReadings t) (k : t.keepsReadings u) : s.keepsReadings u :=
  ⟨fun b hb => (k.regs b hb).trans (h.regs b hb), k.ratios.trans h.ratios, k.user.trans h.user,
    fun a ha => (k.fact a ha).trans (h.fact a ha)⟩

theorem keepsMargins.self (s : State) : s.keepsMargins s := ⟨⟨fun _ _ => rfl, rfl, rfl, fun _ _ => rfl⟩, fun _ _ _ => rfl⟩

theorem keepsMargins.trans (h : s.keepsMargins t) (k : t.keepsMargins u) : s.keepsMargins u :=
  ⟨h.tokeepsReadings.trans k.tokeepsReadings, fun b hb hne => (k.bits b hb hne).trans (h.bits b hb hne)⟩

theorem keepsMargins.ite {p : Prop} [Decidable p] (h : s.keepsMargins t) (k : s.keepsMargins u) : s.keepsMargins (if p then t else u) := by
  split
  · exact h
  · exact k

theorem onlyRegs.cfg_eq (h : s.onlyRegs t) : t.cfg = s.cfg := by obtain ⟨r, rfl⟩ := h; rfl
theorem onlyRegs.agm_eq (h : s.onlyRegs t) : t.agm = s.agm := by obtain ⟨r, rfl⟩ := h; rfl

theorem onlyRegs.readings (h : s.onlyRegs t) (hregs : ∀ b, readingReg b → t.reg b = s.reg b) : s.keepsReadings t :=
  ⟨hregs, by rw [h.agm_eq], by rw [h.cfg_eq], fun a _ => State.byte_congr h.mem_eq a⟩

theorem onlyRegs.margins (h : s.onlyRegs t) (hregs : ∀ b, readingReg b ∨ b = R.AGM_STATUS → t.reg b = s.reg b) : s.keepsMargins t :=
  ⟨h.readings fun b hb => hregs b (.inl hb), fun k _ _ => State.regBit_congr k (hregs _ (.inr rfl))⟩

/-- A field outside the monitor's readings and its status. -/
theorem keepsMargins_setFld (s : State) (f : Fld) (v : Nat) (h : ¬ readingReg f.reg ∧ f.reg ≠ R.AGM_STATUS) : s.keepsMargins (s.setFld f v) :=
  (s.onlyRegs_setFld f v).margins fun b hb => s.reg_setFld_ne f v b fun heq => by
    subst heq
    exact hb.elim h.1 h.2

end State

theorem evcEvent_reg_apart (s : State) (k b : Nat) (hk : k < 256) (h : b < 0x40004100 ∨ 0x40004280 ≤ b) : (evcEvent s k).reg b = s.reg b := by
  apply evcEvent_reg <;> simp only [R.EVC_PEND, R.EVC_CNT, R.EVC_MASK, R.EVC_STORM] <;> omega

theorem readingReg_apart {b : Nat} (h : readingReg b ∨ b = R.AGM_STATUS) : b < 0x40004100 ∨ 0x40004280 ≤ b := by
  simp only [readingReg, R.AGM_STATUS] at h
  omega

theorem keepsMargins_agmEvent (s : State) (k : Nat) (hk : k < 4) : s.keepsMargins (agmEvent s k) := by
  unfold agmEvent evcIf
  refine .ite ((evcEvent_only s _).margins fun b hb => ?_) (.self s)
  exact evcEvent_reg_apart s _ b (by omega) (readingReg_apart hb)

/-- The monitor's own state, but not its ratios, changes. -/
theorem keepsMargins_withAgm (s : State) (x : Agm) (h : x.ratios = s.agm.ratios) : s.keepsMargins { s with agm := x } :=
  ⟨⟨fun _ _ => rfl, h, rfl, fun _ _ => rfl⟩, fun _ _ _ => rfl⟩

theorem keepsMargins_setBytes (s : State) (a : Nat) (l : List Byte) (h : a + l.length ≤ 0x58000000) : s.keepsMargins (s.setBytes a l) := by
  have hregs (b : Nat) : (s.setBytes a l).reg b = s.reg b := State.reg_congr b (s.setBytes_regs a l)
  obtain ⟨m, hm⟩ := s.onlyMem_setBytes a l
  exact ⟨⟨fun b _ => hregs b, by rw [hm], by rw [hm], fun b hb => s.byte_setBytes_out a l b (by omega)⟩,
    fun k _ _ => State.regBit_congr k (hregs _)⟩

/-! ### The ledger (R476, R477) -/

section
variable (s : State) (anchor : Bool) (l : List Byte)

/-- The number that the next record of a kind takes. -/
def ledgerSeq : Nat :=
  if anchor then s.agm.anchor else if 0xFFFFFFFE ≤ s.fld F.AGM_LEDGER_SEQ_VAL then 1 else s.fld F.AGM_LEDGER_SEQ_VAL + 1

/-- The slot of a number: the last eight for anchors, the others for the ring. -/
def ledgerSlot (seq : Nat) : Nat := if anchor then 120 + seq % 8 else seq % 120

/-- A record as it stands in its slot. -/
def ledgerData (seq : Nat) : List Byte :=
  (l.take 8 ++ leBytes 4 seq ++ l.drop 8) ++ leBytes 4 (ledgerCrc (ledgerSlot anchor seq) seq (l.take 8 ++ leBytes 4 seq ++ l.drop 8))

/-- The record in its slot, before its number is kept. -/
def ledgerStored : State := s.setBytes (ledgerAt (ledgerSlot anchor (ledgerSeq s anchor))) (ledgerData anchor l (ledgerSeq s anchor))

theorem ledgerWrite_eq : ledgerWrite s anchor l = if anchor then
    { ledgerStored s anchor l with agm := { (ledgerStored s anchor l).agm with anchor := ledgerSeq s anchor + 1 } }
    else (ledgerStored s anchor l).setFld F.AGM_LEDGER_SEQ_VAL (ledgerSeq s anchor) := rfl

theorem ledgerData_length (seq : Nat) : (ledgerData anchor l seq).length = l.length + 8 := by
  have hsplit : (l.take 8).length + (l.drop 8).length = l.length := by rw [← List.length_append, List.take_append_drop]
  simp only [ledgerData, List.length_append, leBytes_length]
  omega

theorem ledgerSlot_lt (seq : Nat) : ledgerSlot anchor seq < 128 := by
  unfold ledgerSlot
  split <;> omega

theorem ledgerStored_byte (hl : l.length = 24) {a : Nat}
    (h : within a (ledgerAt (ledgerSlot anchor (ledgerSeq s anchor))) 32 = false) : (ledgerStored s anchor l).byte a = s.byte a := by
  refine s.byte_setBytes_out _ _ _ ?_
  rw [ledgerData_length, hl]
  simp only [within, Bool.and_eq_false_iff, decide_eq_false_iff_not] at h
  omega

theorem keepsMargins_ledgerWrite (hl : l.length < 4096) : s.keepsMargins (ledgerWrite s anchor l) := by
  have hslot := ledgerSlot_lt anchor (ledgerSeq s anchor)
  have hstored : s.keepsMargins (ledgerStored s anchor l) := keepsMargins_setBytes s _ _ (by
    rw [ledgerData_length, ledgerAt, ledgerBase]
    omega)
  rw [ledgerWrite_eq]
  refine .ite (hstored.trans (keepsMargins_withAgm _ _ rfl)) (hstored.trans (State.keepsMargins_setFld _ _ _ ?_))
  simp only [readingReg, R.AGM_LEDGER_SEQ, R.AGM_STATUS]
  omega

theorem keepsMargins_ledgerPut (hl : l.length < 4096) : s.keepsMargins (ledgerPut s anchor l) := by
  have herr : s.keepsMargins (s.setFld F.AGM_STATUS_LEDGER_ERR 1) := by
    refine ⟨(s.onlyRegs_setFld _ _).readings fun b hb => s.reg_setFld_ne _ _ b ?_, fun k hk hne => ?_⟩
    · simp only [readingReg, R.AGM_STATUS] at hb ⊢
      omega
    · rw [← State.flag_oneBit, ← State.flag_oneBit]
      exact s.flag_setFld_apart F.AGM_STATUS_LEDGER_ERR ⟨R.AGM_STATUS, k, 1⟩ 1 (by decide) (.inr (by show k + 1 ≤ 14 ∨ 14 + 1 ≤ k; omega))
  unfold ledgerPut
  exact .ite (.self s) (.ite (keepsMargins_ledgerWrite s anchor l hl)
    (.ite (keepsMargins_withAgm s _ rfl) (herr.trans (keepsMargins_agmEvent _ 3 (by decide)))))

theorem ledgerPut_off (h : s.flag F.AGM_CTRL_LEDGER_EN = false) : ledgerPut s anchor l = s := if_pos (by simp [h])

theorem ledgerPut_writes (hen : s.flag F.AGM_CTRL_LEDGER_EN = true) (ho : ledgerOpen s = true) :
    ledgerPut s anchor l = ledgerWrite s anchor l := by rw [ledgerPut, if_neg (by simp [hen]), if_pos ho]

theorem ledgerPut_holds (hen : s.flag F.AGM_CTRL_LEDGER_EN = true) (ho : ledgerOpen s = false) (hr : s.agm.held.length < 4) :
    ledgerPut s anchor l = { s with agm := { s.agm with held := s.agm.held ++ [(anchor, l)] } } := by
  rw [ledgerPut, if_neg (by simp [hen]), if_neg (by simp [ho]), if_pos hr]

theorem ledgerPut_loses (hen : s.flag F.AGM_CTRL_LEDGER_EN = true) (ho : ledgerOpen s = false) (hr : 4 ≤ s.agm.held.length) :
    ledgerPut s anchor l = agmEvent (s.setFld F.AGM_STATUS_LEDGER_ERR 1) 3 := by
  rw [ledgerPut, if_neg (by simp [hen]), if_neg (by simp [ho]), if_neg (by omega)]

theorem agmEvent_flag (k : Nat) (hk : k < 4) (f : Fld) (hf : 0x40004280 ≤ f.reg) : (agmEvent s k).flag f = s.flag f :=
  State.flag_congr (evcIf_reg_above s _ 69 k f.reg (by omega) hf)

theorem ledgerLost_flag : (agmEvent (s.setFld F.AGM_STATUS_LEDGER_ERR 1) 3).flag F.AGM_STATUS_LEDGER_ERR = true := by
  rw [agmEvent_flag _ 3 (by decide) _ (by decide)]
  exact s.flag_setFld_one F.AGM_STATUS_LEDGER_ERR (by decide) rfl

theorem ledgerLost_mem : (agmEvent (s.setFld F.AGM_STATUS_LEDGER_ERR 1) 3).mem = s.mem :=
  (State.onlyRegs_trans (s.onlyRegs_setFld _ _) (evcIf_only _ _ _ _)).mem_eq

/-- The rows of the record: an anchor's slot, and a ring's with its number. -/
theorem ledgerWrite_anchor_byte (hl : l.length = 24) {a : Nat} (h : within a (ledgerAt (120 + s.agm.anchor % 8)) 32 = false) :
    (ledgerWrite s true l).byte a = s.byte a := by
  rw [ledgerWrite_eq, if_pos rfl]
  exact ledgerStored_byte s true l hl h

theorem ledgerSeq_ring (h : s.fld F.AGM_LEDGER_SEQ_VAL < 0xFFFFFFFE) : ledgerSeq s false = s.fld F.AGM_LEDGER_SEQ_VAL + 1 := by
  rw [ledgerSeq, if_neg Bool.false_ne_true, if_neg (by omega)]

theorem ledgerWrite_ring_byte (hl : l.length = 24) (hs : s.fld F.AGM_LEDGER_SEQ_VAL < 0xFFFFFFFE) {a : Nat}
    (h : within a (ledgerAt ((s.fld F.AGM_LEDGER_SEQ_VAL + 1) % 120)) 32 = false) : (ledgerWrite s false l).byte a = s.byte a := by
  rw [ledgerWrite_eq, if_neg Bool.false_ne_true, State.byte_congr (State.setFld_mem _ _ _) a]
  refine ledgerStored_byte s false l hl ?_
  rw [ledgerSeq_ring s hs]
  exact h

theorem ledgerWrite_ring_seq (hs : s.fld F.AGM_LEDGER_SEQ_VAL < 0xFFFFFFFE) :
    (ledgerWrite s false l).fld F.AGM_LEDGER_SEQ_VAL = s.fld F.AGM_LEDGER_SEQ_VAL + 1 := by
  rw [ledgerWrite_eq, if_neg Bool.false_ne_true, State.fld_setFld _ _ _ (by decide), ledgerSeq_ring s hs]
  exact Nat.mod_eq_of_lt (by show _ < 4294967296; omega)

end

theorem marginsNow_length (s : State) : (marginsNow s).length = 8 := by
  simp [marginsNow, List.range_succ, leBytes_length]

theorem record_length (s : State) (kind c : Nat) (temp : Int) (margin : List Byte) (h : margin.length = 8) :
    (ledgerBytes s kind c temp margin).length = 24 := by
  simp only [ledgerBytes, List.length_append, leBytes_length, h]

theorem keepsMargins_record (s : State) (kind c : Nat) : s.keepsMargins (record s kind c) := by
  refine keepsMargins_ledgerPut s false _ ?_
  rw [record_length _ _ _ _ _ (marginsNow_length s)]
  decide

/-! ### The state of a cluster (R470, R471) -/

section
variable (s : State) (lo c : Nat) (v : Bool)

theorem setAgmBit_readings : s.keepsReadings (setAgmBit s lo c v) :=
  (s.onlyRegs_setRegBit _ _ _).readings fun b hb => s.reg_setRegBit_ne _ _ b _ (by
    simp only [readingReg, R.AGM_STATUS] at hb ⊢
    omega)

theorem setAgmBit_bit (k : Nat) (hk : k < 32) :
    (setAgmBit s lo c v).regBit R.AGM_STATUS k = if k = lo + c then v else s.regBit R.AGM_STATUS k := s.regBit_setRegBit _ _ k v hk

end

/-- The three bits of a cluster's state. -/
theorem marginState_of {s t : State} {c : Nat} (hcrit : t.regBit R.AGM_STATUS (28 + c) = s.regBit R.AGM_STATUS (28 + c))
    (hpend : t.regBit R.AGM_STATUS (20 + c) = s.regBit R.AGM_STATUS (20 + c))
    (hwarn : t.regBit R.AGM_STATUS (24 + c) = s.regBit R.AGM_STATUS (24 + c)) : marginState t c = marginState s c := by
  unfold marginState agmBit
  rw [hcrit, hpend, hwarn]

theorem marginState_crit (s : State) (c : Nat) (h : s.regBit R.AGM_STATUS (28 + c) = true) : marginState s c = .crit := if_pos h

theorem marginState_bits {s : State} {c : Nat} (h : marginState s c ≠ .crit) : s.regBit R.AGM_STATUS (28 + c) = false := by
  rw [Bool.eq_false_iff]
  exact fun hbit => h (marginState_crit s c hbit)

theorem marginState_pend {s : State} {c : Nat} (h : marginState s c ≠ .crit) (hp : marginState s c ≠ .pend) :
    s.regBit R.AGM_STATUS (20 + c) = false := by
  rw [Bool.eq_false_iff]
  refine fun hbit => hp ?_
  rw [marginState, agmBit, marginState_bits h, if_neg Bool.false_ne_true, agmBit, hbit, if_pos rfl]

theorem marginState_calm {s : State} {c : Nat} (hcrit : s.regBit R.AGM_STATUS (28 + c) = false)
    (hpend : s.regBit R.AGM_STATUS (20 + c) = false) :
    marginState s c = if s.regBit R.AGM_STATUS (24 + c) then .warn else .ok := by
  rw [marginState, agmBit, hcrit, if_neg Bool.false_ne_true, agmBit, hpend, if_neg Bool.false_ne_true, agmBit]

namespace State.keepsMargins
variable {s t : State} (h : s.keepsMargins t)
include h

theorem marginState_eq {c : Nat} (hc : c < 4) : marginState t c = marginState s c :=
  marginState_of (h.bits _ (by omega) (by omega)) (h.bits _ (by omega) (by omega)) (h.bits _ (by omega) (by omega))

end State.keepsMargins

namespace State.keepsReadings
variable {s t : State} (h : s.keepsReadings t)
include h

theorem stepOf_eq {c : Nat} (hc : c < 4) : stepOf t c = stepOf s c :=
  State.fld_congr (h.regs _ (.inl (by simp only [R.CKG_CLFREQ]; omega)))

theorem eff_eq (i : Nat) : eff t i = eff s i := by
  have himg : factImg t = factImg s := funext fun k => h.fact _ (by omega)
  have hval : factVal t i = factVal s i := by
    unfold factVal factGood
    rw [himg]
  unfold eff effOf
  rw [h.user, hval]

theorem ratio_eq (c : Nat) : ratio t c = ratio s c := by rw [ratio, ratio, h.ratios]

theorem lowCrit_eq {c : Nat} (hc : c < 4) : lowCrit t c = lowCrit s c := by
  have hlim : t.fld F.AGM_CANARY_LIM_CRIT = s.fld F.AGM_CANARY_LIM_CRIT :=
    State.fld_congr (h.regs _ (.inr (by simp only [R.AGM_CANARY_LIM]; omega)))
  have hwin : t.fld (F.AGM_CANARY_WIN c) = s.fld (F.AGM_CANARY_WIN c) :=
    State.fld_congr (h.regs _ (.inr (by simp only [R.AGM_CANARY]; omega)))
  unfold lowCrit mCrit
  rw [h.ratio_eq, h.eff_eq, hlim, hwin]

theorem clearOk_eq {c : Nat} (hc : c < 4) : clearOk t c = clearOk s c := by
  unfold clearOk mCrit
  rw [h.lowCrit_eq hc, h.ratio_eq, h.eff_eq]

end State.keepsReadings

/-! ### Steps between states (R471 to R473) -/

/-- A cluster enters WARN: its bit, an event and a record. -/
theorem keepsMargins_enterWarn (s : State) (c : Nat) : (setAgmBit s 24 c true).keepsMargins (enterWarn s c) := by
  unfold enterWarn
  exact (keepsMargins_agmEvent _ 0 (by decide)).trans ((keepsMargins_withAgm _ _ (by rfl)).trans (keepsMargins_record _ 2 c))

theorem enterWarn_readings (s : State) (c : Nat) : s.keepsReadings (enterWarn s c) :=
  (setAgmBit_readings s 24 c true).trans (keepsMargins_enterWarn s c).tokeepsReadings

theorem enterWarn_bit (s : State) (c k : Nat) (hk : k < 32) (hne : k ≠ 14) :
    (enterWarn s c).regBit R.AGM_STATUS k = if k = 24 + c then true else s.regBit R.AGM_STATUS k := by
  rw [(keepsMargins_enterWarn s c).bits k hk hne, setAgmBit_bit s 24 c true k hk]

theorem enterWarn_state (s : State) (c : Nat) (hc : c < 4) (h : marginState s c = .ok) : marginState (enterWarn s c) c = .warn := by
  have hcrit := marginState_bits (s := s) (c := c) (by rw [h]; decide)
  have hpend := marginState_pend (s := s) (c := c) (by rw [h]; decide) (by rw [h]; decide)
  rw [marginState_calm, enterWarn_bit _ _ _ (by omega) (by omega), if_pos rfl, if_pos rfl]
  · rw [enterWarn_bit _ _ _ (by omega) (by omega), if_neg (by omega), hcrit]
  · rw [enterWarn_bit _ _ _ (by omega) (by omega), if_neg (by omega), hpend]

/-- A cluster leaves WARN: its bit and a record. -/
theorem leaveWarn_state (s : State) (c : Nat) (hc : c < 4) (h : marginState s c = .warn) :
    marginState (record (setAgmBit s 24 c false) 3 c) c = .ok := by
  have hcrit := marginState_bits (s := s) (c := c) (by rw [h]; decide)
  have hpend := marginState_pend (s := s) (c := c) (by rw [h]; decide) (by rw [h]; decide)
  rw [(keepsMargins_record _ 3 c).marginState_eq hc, marginState_calm, setAgmBit_bit _ _ _ _ _ (by omega), if_pos rfl,
    if_neg Bool.false_ne_true]
  · rw [setAgmBit_bit _ _ _ _ _ (by omega), if_neg (by omega), hcrit]
  · rw [setAgmBit_bit _ _ _ _ _ (by omega), if_neg (by omega), hpend]

/-- The supply's target and its next step are no reading of margins. -/
theorem keepsMargins_withPmu (s : State) (x : Pmu) : s.keepsMargins { s with pmu := x } :=
  ⟨⟨fun _ _ => rfl, rfl, rfl, fun _ _ => rfl⟩, fun _ _ _ => rfl⟩

theorem avsReg_apart (b : Nat) (h : b = R.PMU_AVS_STAT ∨ b = R.PMU_AVS_TGT) : ¬ readingReg b ∧ b ≠ R.AGM_STATUS := by
  simp only [readingReg, R.AGM_STATUS, R.PMU_AVS_STAT, R.PMU_AVS_TGT] at h ⊢
  omega

theorem keepsMargins_avsNext (s : State) : s.keepsMargins (avsNext s) := by
  have hbusy (v : Nat) : s.keepsMargins (s.setFld F.PMU_AVS_STAT_BUSY v) := State.keepsMargins_setFld _ _ _ (avsReg_apart _ (.inl rfl))
  unfold avsNext
  dsimp only
  split
  · exact (hbusy 0).trans (keepsMargins_withPmu _ _)
  · exact (hbusy 1).trans ((keepsMargins_withPmu _ _).trans (keepsMargins_withPmu _ _))

theorem keepsMargins_avsTarget (s : State) (mv : Nat) : s.keepsMargins (avsTarget s mv) := by
  have htgt : s.keepsMargins (s.setFld F.PMU_AVS_TGT_MV mv) := State.keepsMargins_setFld _ _ _ (avsReg_apart _ (.inr rfl))
  unfold avsTarget
  exact .ite (State.keepsMargins_setFld _ _ _ (avsReg_apart _ (.inl rfl))) (.ite (htgt.trans (keepsMargins_avsNext _)) htgt)

theorem keepsMargins_voltageRung (s : State) : s.keepsMargins (voltageRung s) := by
  unfold voltageRung
  exact .ite ((keepsMargins_avsTarget s _).trans ((keepsMargins_withAgm _ _ (by rfl)).trans (keepsMargins_record _ 4 0xFF))) (.self s)

/-! ### The emergency step of the clock (R471) -/

/-- A cluster's clock step lowered by one, or its floor told. -/
def stepLowered (s : State) (c : Nat) : State := if stepOf s c = 0 then setAgmBit s 16 c true else setStep s c (stepOf s c - 1)

theorem critStep_eq (s : State) (c : Nat) : critStep s c = record (stepLowered s c) 7 c := rfl

theorem stepOf_lt (s : State) (c : Nat) : stepOf s c < 16 := s.fld_lt (F.CKG_CLFREQ_STEP c)

theorem setStep_step (s : State) (c v : Nat) (hc : c < 4) (hv : v < 16) : stepOf (setStep s c v) c = v := by
  have hset : stepOf (s.setFld (F.CKG_CLFREQ_STEP c) v) c = v :=
    (s.fld_setFld (F.CKG_CLFREQ_STEP c) v (by simp)).trans (Nat.mod_eq_of_lt hv)
  unfold setStep
  dsimp only
  split
  · exact hset
  · exact ((setAgmBit_readings _ 16 c false).stepOf_eq hc).trans hset

theorem stepLowered_step (s : State) (c : Nat) (hc : c < 4) (h : 0 < stepOf s c) : stepOf (stepLowered s c) c = stepOf s c - 1 := by
  have hlt := stepOf_lt s c
  rw [stepLowered, if_neg (by omega), setStep_step _ _ _ hc (by omega)]

/-- Only the floor's bit of the status changes. -/
theorem stepLowered_bit (s : State) (c k : Nat) (hk : k < 32) (hne : k ≠ 16 + c) (hc : c < 4) :
    (stepLowered s c).regBit R.AGM_STATUS k = s.regBit R.AGM_STATUS k := by
  have hset : (s.setFld (F.CKG_CLFREQ_STEP c) (stepOf s c - 1)).regBit R.AGM_STATUS k = s.regBit R.AGM_STATUS k :=
    s.regBit_setFld_ne _ _ _ _ (by simp only [R.AGM_STATUS, R.CKG_CLFREQ]; omega)
  unfold stepLowered
  split
  · rw [setAgmBit_bit _ _ _ _ _ hk, if_neg hne]
  · unfold setStep
    dsimp only
    split
    · exact hset
    · exact (State.regBit_setRegBit_ne _ _ _ _ _ hk hne).trans hset

theorem critStep_step (s : State) (c : Nat) (hc : c < 4) (h : 0 < stepOf s c) : stepOf (critStep s c) c = stepOf s c - 1 := by
  rw [critStep_eq, (keepsMargins_record _ 7 c).tokeepsReadings.stepOf_eq hc, stepLowered_step s c hc h]

theorem critStep_crit (s : State) (c : Nat) (hc : c < 4) (h : s.regBit R.AGM_STATUS (28 + c) = true) :
    (critStep s c).regBit R.AGM_STATUS (28 + c) = true := by
  rw [critStep_eq, (keepsMargins_record _ 7 c).bits _ (by omega) (by omega), stepLowered_bit _ _ _ (by omega) (by omega) hc, h]

/-- The cluster's state set to CRIT, its pending step and derate dropped. -/
def critEntered (s : State) (c : Nat) : State :=
  raiseNmi (setAgmBit (setAgmBit (clearPend { s with clk := { s.clk with stepNew := SMap.erase (fun k => k == c) s.clk.stepNew } } c) 24 c false)
    28 c true) 2

theorem emergency_eq (s : State) (c : Nat) : emergency s c = voltageRung (critStep (critEntered s c) c) := rfl

theorem critEntered_crit (s : State) (c : Nat) (hc : c < 4) : (critEntered s c).regBit R.AGM_STATUS (28 + c) = true := by
  have hset (t : State) : (setAgmBit t 28 c true).regBit R.AGM_STATUS (28 + c) = true := by
    rw [setAgmBit_bit _ _ _ _ _ (by omega), if_pos rfl]
  exact hset _

theorem clearPend_readings (s : State) (c : Nat) : s.keepsReadings (clearPend s c) :=
  (setAgmBit_readings s 20 c false).trans (keepsMargins_withAgm _ _ (by rfl)).tokeepsReadings

theorem keepsReadings_withClk (s : State) (x : Clk) : s.keepsReadings { s with clk := x } := ⟨fun _ _ => rfl, rfl, rfl, fun _ _ => rfl⟩

theorem raiseNmi_readings (s : State) (k : Nat) : s.keepsReadings (raiseNmi s k) := ⟨fun _ _ => rfl, rfl, rfl, fun _ _ => rfl⟩

theorem critEntered_readings (s : State) (c : Nat) : s.keepsReadings (critEntered s c) :=
  (keepsReadings_withClk s _).trans ((clearPend_readings _ c).trans ((setAgmBit_readings _ 24 c false).trans
    ((setAgmBit_readings _ 28 c true).trans (raiseNmi_readings _ 2))))

theorem emergency_state (s : State) (c : Nat) (hc : c < 4) : marginState (emergency s c) c = .crit := by
  rw [emergency_eq, (keepsMargins_voltageRung _).marginState_eq hc]
  exact marginState_crit _ _ (critStep_crit _ c hc (critEntered_crit s c hc))

theorem emergency_step (s : State) (c : Nat) (hc : c < 4) (h : 0 < stepOf s c) : stepOf (emergency s c) c = stepOf s c - 1 := by
  have hentered := (critEntered_readings s c).stepOf_eq hc
  rw [emergency_eq, (keepsMargins_voltageRung _).tokeepsReadings.stepOf_eq hc, critStep_step _ c hc (by omega), hentered]

/-! ### Judgement -/

section
variable {s : State} {c : Nat} (hp : s.powered c = true)
include hp

theorem judgeMargin_low (hm : marginState s c ≠ .crit) (hl : lowCrit s c = true) : judgeMargin s c = emergency s c := by
  rw [judgeMargin, if_neg (by simp [hp])]
  cases hst : marginState s c with
  | crit => exact absurd hst hm
  | ok => exact if_pos hl
  | warn => exact if_pos hl
  | pend => exact if_pos hl

theorem judgeMargin_crit (hm : marginState s c = .crit) : judgeMargin s c = if lowCrit s c then critAgain s c else s := by
  rw [judgeMargin, if_neg (by simp [hp]), hm]

theorem judgeMargin_ok (hm : marginState s c = .ok) (hl : lowCrit s c = false) (hw : lowWarn s c = true) :
    judgeMargin s c = enterWarn s c := by
  rw [judgeMargin, if_neg (by simp [hp]), hm]
  exact (if_neg (by simp [hl])).trans (if_pos hw)

theorem judgeMargin_warn (hm : marginState s c = .warn) (hl : lowCrit s c = false) (hh : highOk s c = true) :
    judgeMargin s c = record (setAgmBit s 24 c false) 3 c := by
  rw [judgeMargin, if_neg (by simp [hp]), hm]
  exact (if_neg (by simp [hl])).trans (if_pos (by simp [hh]))

/-- What the judgement of one cluster does. -/
theorem judgeRows (hc : c < 4) :
    (marginState s c = .ok → lowCrit s c = false → lowWarn s c = true → marginState (judgeMargin s c) c = .warn) ∧
    (marginState s c = .warn → lowCrit s c = false → highOk s c = true → marginState (judgeMargin s c) c = .ok) ∧
    (marginState s c = .crit → lowCrit s c = false → judgeMargin s c = s) ∧
    (marginState s c ≠ .crit → lowCrit s c = true → marginState (judgeMargin s c) c = .crit ∧
      (0 < stepOf s c → stepOf (judgeMargin s c) c = stepOf s c - 1)) ∧
    (marginState s c = .crit → lowCrit s c = true → 0 < stepOf s c → stepOf (judgeMargin s c) c = stepOf s c - 1) := by
  refine ⟨fun hm hl hw => ?_, fun hm hl hh => ?_, fun hm hl => ?_, fun hm hl => ?_, fun hm hl hpos => ?_⟩
  · rw [judgeMargin_ok hp hm hl hw, enterWarn_state s c hc hm]
  · rw [judgeMargin_warn hp hm hl hh, leaveWarn_state s c hc hm]
  · rw [judgeMargin_crit hp hm, if_neg (by simp [hl])]
  · rw [judgeMargin_low hp hm hl]
    exact ⟨emergency_state s c hc, emergency_step s c hc⟩
  · rw [judgeMargin_crit hp hm, if_pos hl, critAgain, if_neg (by omega), critStep_step s c hc hpos]

end

/-! ### A window over a cluster that is off (R465) -/

theorem measureCluster_off (w : AgmWindow) (s : State) (c : Nat) (h : s.powered c = false) : measureCluster w s c = sensorsOff s c :=
  if_pos (by simp [h])

/-- A cluster's margins and canary count without a reading. -/
def blankCluster (s : State) (c : Nat) : State := (s.setReg (R.AGM_MARGIN c) 0x80008000).setFld (F.AGM_CANARY_WIN c) 0x8000

theorem blankCluster_margin (s : State) (c : Nat) : (blankCluster s c).reg (R.AGM_MARGIN c) = 0x80008000 := by
  rw [blankCluster, State.reg_setFld_ne _ _ _ _ (by simp only [R.AGM_MARGIN, R.AGM_CANARY]; omega), State.reg_setReg]

theorem blankCluster_canary (s : State) (c : Nat) : (blankCluster s c).fld (F.AGM_CANARY_WIN c) = 0x8000 :=
  State.fld_setFld _ (F.AGM_CANARY_WIN c) _ (by simp)

theorem sensorsOff_regs (s : State) (c : Nat) : (sensorsOff s c).regs =
    (((blankCluster s c).setFld (F.AGM_TEMP_VAL (2 * c)) 0x8000).setFld (F.AGM_TEMP_VAL (2 * c + 1)) 0x8000).regs := by
  unfold sensorsOff blankCluster
  dsimp only

theorem sensorsOff_reg (s : State) (c b : Nat) (hb : b < R.AGM_TEMP 0) : (sensorsOff s c).reg b = (blankCluster s c).reg b := by
  have htemp (k : Nat) : b ≠ (F.AGM_TEMP_VAL k).reg := by
    simp only [R.AGM_TEMP] at hb ⊢
    omega
  rw [State.reg_congr b (sensorsOff_regs s c), State.reg_setFld_ne _ _ _ b (htemp _), State.reg_setFld_ne _ _ _ b (htemp _)]

theorem sensorsOff_margin (s : State) (c : Nat) (hc : c < 4) : (sensorsOff s c).reg (R.AGM_MARGIN c) = 0x80008000 := by
  rw [sensorsOff_reg _ _ _ (by simp only [R.AGM_MARGIN, R.AGM_TEMP]; omega), blankCluster_margin s c]

theorem sensorsOff_canary (s : State) (c : Nat) (hc : c < 4) : (sensorsOff s c).fld (F.AGM_CANARY_WIN c) = 0x8000 := by
  rw [State.fld_congr (sensorsOff_reg s c _ (by simp only [R.AGM_CANARY, R.AGM_TEMP]; omega)), blankCluster_canary]

theorem exec_agmWindowEnd_on (w : AgmWindow) (s : State) (h : s.flag F.AGM_CTRL_EN = true) :
    exec (.agmWindowEnd w) s = .next (agmWindow s w) := if_pos h

theorem exec_agmWindowEnd_off (w : AgmWindow) (s : State) (h : s.flag F.AGM_CTRL_EN = false) :
    exec (.agmWindowEnd w) s = .next { s with agm := { s.agm with fresh := [] } } := if_neg (Bool.eq_false_iff.mp h)

/-! ### A probe and the settle time (R468, R472) -/

/-- A probe's slack kept. -/
def probed (s : State) (c r slack : Nat) : State := { s with agm := { s.agm with
  probed := if s.cyc.house then addTo s.agm.probed c else s.agm.probed
  probes := SMap.set (fun _ => 0xFFFF) s.agm.probes (16 * c + r) slack
  fresh := SMap.insert (SMap.erase (fun j => j == 16 * c + r) s.agm.fresh) (16 * c + r) slack } }

theorem exec_marginProbe (c : Fin 4) (r : Fin 16) (slack : BitVec 16) (s : State) (h : mayProbe s c.val = true) :
    exec (.marginProbe c r slack) s = .next (probed s c.val r.val slack.toNat) := if_pos h

theorem exec_marginProbe_none (c : Fin 4) (r : Fin 16) (slack : BitVec 16) (s : State) (h : mayProbe s c.val = false) :
    exec (.marginProbe c r slack) s = .next s := if_neg (Bool.eq_false_iff.mp h)

theorem probed_house (s : State) (c r slack : Nat) (h : s.cyc.house = true) : has (probed s c r slack).agm.probed c = true := by
  show has (if s.cyc.house then addTo s.agm.probed c else s.agm.probed) c = true
  rw [h, if_pos rfl, has_addTo_same]

theorem probed_slack (s : State) (c r slack : Nat) : SMap.get (fun _ => 0xFFFF) (probed s c r slack).agm.probes (16 * c + r) = slack :=
  SMap.get_set_same _ _ _ _

theorem exec_agmSettleExpiry_none (s : State) (h : s.agm.settling = false ∨ s.dbgHalted = true) : exec .agmSettleExpiry s = .next s :=
  if_neg (by rcases h with h | h <;> simp [h])

theorem exec_agmSettleExpiry (s : State) (h : s.agm.settling = true) (hd : s.dbgHalted = false) :
    exec .agmSettleExpiry s = .next (voltageRung { s with agm := { s.agm with settling := false, settled := true } }) :=
  if_pos (by simp [h, hd])

/-! ### The record of a day (R476) -/

/-- A cluster's least margins and canary total begin again. -/
def dayBegins (t : State) (c : Nat) : State := (t.setReg (R.AGM_MIN c) 0x80008000).setFld (F.AGM_CANARY_TOTAL c) 0

/-- A cluster's least margins and canary total. -/
def dayView (t : State) (c : Nat) : Word × Nat := (t.reg (R.AGM_MIN c), t.fld (F.AGM_CANARY_TOTAL c))

theorem dayBegins_self (t : State) (c : Nat) : dayView (dayBegins t c) c = (0x80008000, 0) := by
  have hmin : (dayBegins t c).reg (R.AGM_MIN c) = 0x80008000 := by
    rw [dayBegins, State.reg_setFld_ne _ _ _ _ (by simp only [R.AGM_MIN, R.AGM_CANARY]; omega), State.reg_setReg]
  have htotal : (dayBegins t c).fld (F.AGM_CANARY_TOTAL c) = 0 := State.fld_setFld _ (F.AGM_CANARY_TOTAL c) 0 (by simp)
  rw [dayView, hmin, htotal]

theorem dayBegins_other (t : State) (k c : Nat) (hk : k < 4) (hc : c < 4) (h : c ≠ k) : dayView (dayBegins t k) c = dayView t c := by
  have hreg (b : Nat) (hmin : b ≠ R.AGM_MIN k) (hcan : b ≠ R.AGM_CANARY k) : (dayBegins t k).reg b = t.reg b := by
    rw [dayBegins, State.reg_setFld_ne _ _ _ _ hcan, t.reg_setReg_ne _ _ _ hmin]
  have hmin : (dayBegins t k).reg (R.AGM_MIN c) = t.reg (R.AGM_MIN c) :=
    hreg _ (by simp only [R.AGM_MIN]; omega) (by simp only [R.AGM_MIN, R.AGM_CANARY]; omega)
  have htotal : (dayBegins t k).fld (F.AGM_CANARY_TOTAL c) = t.fld (F.AGM_CANARY_TOTAL c) :=
    State.fld_congr (hreg _ (by simp only [R.AGM_MIN, R.AGM_CANARY]; omega) (by simp only [R.AGM_CANARY]; omega))
  rw [dayView, dayView, hmin, htotal]

/-- The state in which the day's records stand, before the next day begins. -/
def dayRecorded (s : State) : State :=
  let s1 := ledgerPut s false (ledgerBytes s 1 0xFF s.agm.dayTemp (marginsDay s))
  if anchorDue s1 then ledgerPut s1 true (ledgerBytes s 10 0xFF s.agm.dayTemp (marginsDay s)) else s1

theorem dailyRecord_regs (s : State) : (dailyRecord s).regs = (eachNat dayBegins (dayRecorded s) (List.range 4)).regs := by
  unfold dailyRecord dayRecorded
  dsimp only
  rfl

theorem dayView_congr {s t : State} (c : Nat) (h : t.regs = s.regs) : dayView t c = dayView s c := by
  rw [dayView, dayView, State.reg_congr _ h, State.fld_congr (State.reg_congr _ h)]

theorem dailyRecord_view (s : State) (c : Nat) (hc : c < 4) : dayView (dailyRecord s) c = (0x80008000, 0) := by
  obtain ⟨t, -, ht⟩ := eachNat_mem dayBegins_other (fun k hk => List.mem_range.mp hk) List.nodup_range (List.mem_range.mpr hc) (dayRecorded s)
  rw [dayView_congr c (dailyRecord_regs s), ht, dayBegins_self t c]

theorem dailyRecord_last (s : State) : (dailyRecord s).agm.lastDaily = s.tb := by
  unfold dailyRecord
  dsimp only

theorem exec_dailyRecord (s : State) (h : s.flag F.AGM_CTRL_EN = true) : exec .dailyRecord s = .next (dailyRecord s) := if_pos h

theorem exec_dailyRecord_off (s : State) (h : s.flag F.AGM_CTRL_EN = false) : exec .dailyRecord s = .next s :=
  if_neg (Bool.eq_false_iff.mp h)

/-! ### The health tells (R472) -/

theorem postEvents_reg_below_hif (s : State) (type : Nat) (data l : List Nat) (b : Nat) (hb : b < R.HIF_ID) :
    (postEvents s type data l).reg b = s.reg b := by
  induction l generalizing s with
  | nil => rfl
  | cons p l ih => exact (ih _).trans (postEvent_reg_below_hif s p type data b hb)

theorem healthTell_reg (s : State) (b : Nat) (hb : b < R.HIF_ID) : (healthTell s).reg b = s.reg b := by
  unfold healthTell
  dsimp only
  split
  · rfl
  · exact postEvents_reg_below_hif _ _ _ _ b hb

theorem healthTell_status (s : State) (k : Nat) : (healthTell s).regBit R.AGM_STATUS k = s.regBit R.AGM_STATUS k :=
  State.regBit_congr k (healthTell_reg s _ (by decide))

theorem State.onlyRegsHif.agm_eq {s t : State} (h : s.onlyRegsHif t) : t.agm = s.agm := by obtain ⟨r, x, rfl⟩ := h; rfl

/-! ### APPLY (R473) -/

/-- One cluster of APPLY. -/
def applyStep (m : Nat) (t : State) (c : Nat) : State :=
  if m.testBit c ∧ marginState t c = .pend then
    (if t.cycEn then { t with agm := { t.agm with apply := addTo t.agm.apply c } } else recomputeCaps (applyDerate t c))
  else t

theorem derateApply_eq (s : State) (m : Nat) : derateApply s m = eachNat (applyStep m) s (List.range 4) := rfl

theorem derateApply_still (s : State) (m : Nat) (h : ∀ c, c < 4 → ¬ (m.testBit c = true ∧ marginState s c = .pend)) : derateApply s m = s :=
  eachNat_still fun c hc => if_neg (h c (List.mem_range.mp hc))

/-- Only the derates that are asked for. -/
def withApply (s : State) (l : List Nat) : State := { s with agm := { s.agm with apply := l } }

theorem applyStep_cycle (s : State) (m c : Nat) (l : List Nat) (h : s.cycEn = true) : applyStep m (withApply s l) c =
    withApply s (if m.testBit c ∧ marginState s c = .pend then addTo l c else l) := by
  unfold applyStep
  by_cases hc : m.testBit c = true ∧ marginState s c = .pend
  · have hc' : m.testBit c = true ∧ marginState (withApply s l) c = .pend := hc
    have hen : (withApply s l).cycEn = true := h
    rw [if_pos hc', if_pos hen, if_pos hc]
    rfl
  · have hc' : ¬ (m.testBit c = true ∧ marginState (withApply s l) c = .pend) := hc
    rw [if_neg hc', if_neg hc]

/-- While cycles run APPLY only asks for the derates. -/
theorem eachNat_applyStep (s : State) (m : Nat) (cs l : List Nat) (h : s.cycEn = true) :
    ∃ l', eachNat (applyStep m) (withApply s l) cs = withApply s l' ∧ (∀ c ∈ l, c ∈ l') ∧
      ∀ c ∈ cs, m.testBit c = true → marginState s c = .pend → c ∈ l' := by
  induction cs generalizing l with
  | nil => exact ⟨l, rfl, fun c hc => hc, fun c hc => by cases hc⟩
  | cons k cs ih =>
    obtain ⟨l', heq, hkeeps, hasks⟩ := ih (if m.testBit k ∧ marginState s k = .pend then addTo l k else l)
    refine ⟨l', by rw [eachNat, applyStep_cycle s m k l h, heq], fun c hc => hkeeps c ?_, fun c hc hm hp => ?_⟩
    · split
      · exact (mem_addTo l k c).mpr (.inr hc)
      · exact hc
    · rcases List.mem_cons.mp hc with rfl | hc
      · refine hkeeps c ?_
        rw [if_pos ⟨hm, hp⟩]
        exact (mem_addTo l c c).mpr (.inl rfl)
      · exact hasks c hc hm hp

theorem derateApply_cycle (s : State) (m : Nat) (h : s.cycEn = true) : (derateApply s m).mem = s.mem ∧
    ∀ c, c < 4 → m.testBit c = true → marginState s c = .pend → has (derateApply s m).agm.apply c = true := by
  obtain ⟨l, heq, -, hasks⟩ := eachNat_applyStep s m (List.range 4) s.agm.apply h
  have hall : derateApply s m = withApply s l := heq
  rw [hall]
  exact ⟨rfl, fun c hc hm hp => (has_iff l c).mpr (hasks c (List.mem_range.mpr hc) hm hp)⟩

theorem exec_apply (m : BitVec 4) (s : State) : exec (.apply m) s = .next (healthTell (derateApply s m.toNat)) := rfl

/-! ### CANCEL and the clearing of CRIT (R471, R473) -/

/-- What is read of a cluster: its three bits, and whether its margin allows CRIT to be cleared. -/
def clusterView (t : State) (c : Nat) : (Bool × Bool) × Bool × Bool :=
  ((t.regBit R.AGM_STATUS (20 + c), t.regBit R.AGM_STATUS (24 + c)), t.regBit R.AGM_STATUS (28 + c), clearOk t c)

theorem clusterView_of {s t : State} {c : Nat} (hc : c < 4) (hr : s.keepsReadings t)
    (hbits : ∀ lo, lo = 20 ∨ lo = 24 ∨ lo = 28 → t.regBit R.AGM_STATUS (lo + c) = s.regBit R.AGM_STATUS (lo + c)) :
    clusterView t c = clusterView s c := by
  rw [clusterView, clusterView, hr.clearOk_eq hc, hbits 20 (by decide), hbits 24 (by decide), hbits 28 (by decide)]

theorem clearPend_bit (s : State) (c k : Nat) (hk : k < 32) :
    (clearPend s c).regBit R.AGM_STATUS k = if k = 20 + c then false else s.regBit R.AGM_STATUS k := setAgmBit_bit s 20 c false k hk

/-- One cluster of CANCEL. -/
def cancelStep (m : Nat) (t : State) (c : Nat) : State := if m.testBit c then dropDerate t c else t

theorem derateCancel_eq (s : State) (m : Nat) : derateCancel s m = eachNat (cancelStep m) s (List.range 4) := rfl

theorem dropDerate_other (t : State) (k c : Nat) (hk : k < 4) (hc : c < 4) (h : c ≠ k) : clusterView (dropDerate t k) c = clusterView t c := by
  unfold dropDerate
  split
  · refine clusterView_of hc ((clearPend_readings t k).trans (enterWarn_readings _ k)) fun lo hlo => ?_
    rw [enterWarn_bit _ _ _ (by omega) (by omega), if_neg (by omega), clearPend_bit _ _ _ (by omega), if_neg (by omega)]
  · rfl

theorem dropDerate_self (t : State) (c : Nat) (hc : c < 4) : (dropDerate t c).regBit R.AGM_STATUS (20 + c) = false ∧
    (t.regBit R.AGM_STATUS (20 + c) = true → (dropDerate t c).regBit R.AGM_STATUS (24 + c) = true) := by
  unfold dropDerate
  split
  · rw [enterWarn_bit _ _ _ (by omega) (by omega), if_neg (by omega), clearPend_bit _ _ _ (by omega), if_pos rfl,
      enterWarn_bit _ _ _ (by omega) (by omega), if_pos rfl]
    exact ⟨rfl, fun _ => rfl⟩
  · next hoff => exact ⟨Bool.eq_false_iff.mpr hoff, fun hon => absurd hon hoff⟩

theorem cancelStep_other (m : Nat) (t : State) (k c : Nat) (hk : k < 4) (hc : c < 4) (h : c ≠ k) :
    clusterView (cancelStep m t k) c = clusterView t c := by
  unfold cancelStep
  split
  · exact dropDerate_other t k c hk hc h
  · rfl

/-- Over the clusters one of them meets its own step once. -/
theorem cluster_meets {f : State → Nat → State} (hf : ∀ t k c, k < 4 → c < 4 → c ≠ k → clusterView (f t k) c = clusterView t c)
    (s : State) {c : Nat} (hc : c < 4) :
    ∃ t, clusterView t c = clusterView s c ∧ clusterView (eachNat f s (List.range 4)) c = clusterView (f t c) c :=
  eachNat_mem hf (fun _ hk => List.mem_range.mp hk) List.nodup_range (List.mem_range.mpr hc) s

theorem clusterView_inj {s t : State} {c : Nat} (h : clusterView t c = clusterView s c) :
    t.regBit R.AGM_STATUS (20 + c) = s.regBit R.AGM_STATUS (20 + c) ∧ t.regBit R.AGM_STATUS (24 + c) = s.regBit R.AGM_STATUS (24 + c) ∧
      t.regBit R.AGM_STATUS (28 + c) = s.regBit R.AGM_STATUS (28 + c) ∧ clearOk t c = clearOk s c := by
  simp only [clusterView, Prod.mk.injEq] at h
  obtain ⟨⟨h20, h24⟩, h28, hclear⟩ := h
  exact ⟨h20, h24, h28, hclear⟩

theorem derateCancel_bits (s : State) (m c : Nat) (hc : c < 4) :
    (m.testBit c = true → (derateCancel s m).regBit R.AGM_STATUS (20 + c) = false ∧
      (s.regBit R.AGM_STATUS (20 + c) = true → (derateCancel s m).regBit R.AGM_STATUS (24 + c) = true)) ∧
    (m.testBit c = false → (derateCancel s m).regBit R.AGM_STATUS (20 + c) = s.regBit R.AGM_STATUS (20 + c)) := by
  obtain ⟨t, hbefore, hafter⟩ := cluster_meets (cancelStep_other m) s hc
  obtain ⟨h20, -, -, -⟩ := clusterView_inj hbefore
  obtain ⟨h20', h24', -, -⟩ := clusterView_inj hafter
  rw [derateCancel_eq, h20', h24']
  refine ⟨fun hm => ?_, fun hm => ?_⟩
  · obtain ⟨hclear, hwarn⟩ := dropDerate_self t c hc
    rw [cancelStep, if_pos hm]
    exact ⟨hclear, fun hs => hwarn (h20.trans hs)⟩
  · rw [cancelStep, if_neg (Bool.eq_false_iff.mp hm), h20]

/-- One cluster of the clearing of CRIT. -/
def clearStep (m : Nat) (t : State) (c : Nat) : State :=
  if m.testBit c && agmBit t 28 c && clearOk t c then enterWarn (setAgmBit t 28 c false) c else t

theorem critClear_eq (s : State) (m : Nat) : critClear s m = healthTell (eachNat (clearStep m) s (List.range 4)) := rfl

theorem clearStep_other (m : Nat) (t : State) (k c : Nat) (hk : k < 4) (hc : c < 4) (h : c ≠ k) :
    clusterView (clearStep m t k) c = clusterView t c := by
  unfold clearStep
  split
  · refine clusterView_of hc ((setAgmBit_readings t 28 k false).trans (enterWarn_readings _ k)) fun lo hlo => ?_
    rw [enterWarn_bit _ _ _ (by omega) (by omega), if_neg (by omega), setAgmBit_bit _ _ _ _ _ (by omega), if_neg (by omega)]
  · rfl

theorem clearStep_clears (m : Nat) (t : State) (c : Nat) (hc : c < 4) (hm : m.testBit c = true)
    (hcrit : t.regBit R.AGM_STATUS (28 + c) = true) (hok : clearOk t c = true) :
    (clearStep m t c).regBit R.AGM_STATUS (28 + c) = false ∧ (clearStep m t c).regBit R.AGM_STATUS (24 + c) = true := by
  have hall : (m.testBit c && agmBit t 28 c && clearOk t c) = true := by simp [hm, agmBit, hcrit, hok]
  rw [clearStep, if_pos hall, enterWarn_bit _ _ _ (by omega) (by omega), if_neg (by omega), setAgmBit_bit _ _ _ _ _ (by omega), if_pos rfl,
    enterWarn_bit _ _ _ (by omega) (by omega), if_pos rfl]
  exact ⟨rfl, rfl⟩

theorem clearStep_none (m : Nat) (t : State) (c : Nat) (h : m.testBit c = false ∨ clearOk t c = false) : clearStep m t c = t :=
  if_neg (by rcases h with h | h <;> simp [h])

theorem critClear_bits (s : State) (m c : Nat) (hc : c < 4) :
    (m.testBit c = true → s.regBit R.AGM_STATUS (28 + c) = true → clearOk s c = true →
      (critClear s m).regBit R.AGM_STATUS (28 + c) = false ∧ (critClear s m).regBit R.AGM_STATUS (24 + c) = true) ∧
    (m.testBit c = false ∨ clearOk s c = false →
      (critClear s m).regBit R.AGM_STATUS (28 + c) = s.regBit R.AGM_STATUS (28 + c)) := by
  obtain ⟨t, hbefore, hafter⟩ := cluster_meets (clearStep_other m) s hc
  obtain ⟨-, -, h28, hclear⟩ := clusterView_inj hbefore
  obtain ⟨-, h24', h28', -⟩ := clusterView_inj hafter
  rw [critClear_eq, healthTell_status, healthTell_status, h24', h28']
  refine ⟨fun hm hcrit hok => clearStep_clears m t c hc hm (h28.trans hcrit) (hclear.trans hok), fun hnot => ?_⟩
  rw [clearStep_none m t c (by rwa [hclear]), h28]

theorem exec_cancel (m : BitVec 4) (s : State) : exec (.cancel m) s = .next (derateCancel s m.toNat) := rfl

theorem exec_critClear (m : BitVec 4) (s : State) : exec (.critClear m) s = .next (critClear s m.toNat) := rfl

theorem derateCancel_still (s : State) (m : Nat) (h : ∀ c, c < 4 → m.testBit c = false) : derateCancel s m = s :=
  eachNat_still fun c hc => if_neg (Bool.eq_false_iff.mp (h c (List.mem_range.mp hc)))

theorem critClear_still (s : State) (m : Nat) (h : ∀ c, c < 4 → m.testBit c = false) : critClear s m = healthTell s := by
  rw [critClear_eq, eachNat_still fun c hc => clearStep_none m s c (.inl (h c (List.mem_range.mp hc)))]

theorem exec_apply_cycle (m : BitVec 4) (s : State) (h : s.cycEn = true) : ∃ t, exec (.apply m) s = .next t ∧ t.mem = s.mem ∧
    ∀ c, c < 4 → m.toNat.testBit c = true → marginState s c = .pend → has t.agm.apply c = true := by
  obtain ⟨hmem, happly⟩ := derateApply_cycle s m.toNat h
  have hhealth := healthTell_only (derateApply s m.toNat)
  refine ⟨_, exec_apply m s, hhealth.mem_eq.trans hmem, fun c hc hm hp => ?_⟩
  rw [hhealth.agm_eq]
  exact happly c hc hm hp

theorem exec_agmLedgerMark (v : Word) (s : State) : exec (.agmLedgerMark v) s = .next (ledgerMark s v) := rfl

/-- Settles O51: margins by the state's bits and readings, which records and events leave; the masks by each cluster's own step. -/
theorem ageing : Obligations.Ageing := by
  unfold Obligations.Ageing
  refine ⟨fun w s => ⟨exec_agmWindowEnd_on w s, exec_agmWindowEnd_off w s, fun c hc hp => ?_⟩, fun c s hc hp => judgeRows hp hc,
    fun c r slack s => ⟨fun h => ⟨_, exec_marginProbe c r slack s h, rfl, rfl, probed_house s _ _ _, probed_slack s _ _ _⟩,
      fun h => exec_marginProbe_none c r slack s h⟩,
    fun s => ⟨exec_agmSettleExpiry_none s, exec_agmSettleExpiry s⟩,
    fun s => ⟨exec_dailyRecord_off s, fun h => ⟨_, exec_dailyRecord s h, dailyRecord_last s, fun c hc => ?_⟩⟩,
    fun an l s hl => ⟨ledgerPut_off s an l, ledgerPut_writes s an l, fun hen ho hr => ?_, fun hen ho hr => ?_⟩,
    fun l s hl => ⟨fun a h => ledgerWrite_anchor_byte s l hl h, fun hs => ⟨ledgerWrite_ring_seq s l hs, fun a h => ?_⟩⟩,
    exec_agmLedgerMark, fun m s => ⟨fun h => ?_, fun h => ⟨?_, ?_, ?_⟩, exec_apply_cycle m s,
      ⟨_, exec_cancel m s, fun c hc => derateCancel_bits s m.toNat c hc⟩, ⟨_, exec_critClear m s, fun c hc => critClear_bits s m.toNat c hc⟩⟩⟩
  · rw [measureCluster_off w s c hp]
    exact ⟨sensorsOff_margin s c hc, sensorsOff_canary s c hc⟩
  · have hview := dailyRecord_view s c hc
    exact ⟨congrArg Prod.fst hview, congrArg Prod.snd hview⟩
  · rw [ledgerPut_holds s an l hen ho hr]
    exact ⟨rfl, rfl⟩
  · rw [ledgerPut_loses s an l hen ho hr]
    exact ⟨ledgerLost_flag s, ledgerLost_mem s⟩
  · exact ledgerWrite_ring_byte s l hl hs h
  · rw [exec_apply, derateApply_still s _ fun c hc hboth => h c hc hboth.2]
  · rw [exec_apply, derateApply_still s _ fun c hc hboth => Bool.noConfusion (hboth.1.symm.trans (h c hc))]
  · rw [exec_cancel, derateCancel_still s _ h]
  · rw [exec_critClear, critClear_still s _ h]

end Sys2Proof.Machine
end

section
/-! Responses to buffered stores (R24, R101, R110, R125). -/

namespace Sys2Proof.Machine

/-! ### The response to a buffered store (R101) -/

theorem exec_storeResponse {p : ProcId} {k : Fin 4} {s : State} {b : StoreEntry} (h : (s.cpu p).k.buf[k.val]? = some b) :
    exec (.storeResponse p k) s = .next (storeResponse s p k.val) := by
  have hne : (s.cpu p).k.buf ≠ [] := fun hnil => by
    rw [hnil] at h
    cases h
  exact if_neg hne

section
variable {s s1 : State} {p : ProcId} {k : Nat} {b : StoreEntry} (hb : (s.cpu p).k.buf[k]? = some b)
include hb

theorem storeResponse_waits (h : mayAnswer s (s.cpu p).k.buf k = false ∨ s.held.contains (.store p b) = true) : storeResponse s p k = s := by
  rw [storeResponse, hb]
  refine if_pos ?_
  rcases h with h | h
  · rw [h]
    rfl
  · rw [h, Bool.or_true]

theorem storeResponse_answered (hm : mayAnswer s (s.cpu p).k.buf k = true) (hh : s.held.contains (.store p b) = false) {kind : Nat}
    (hbus : busStore s (.cpu p (!b.task)) b = (some kind, s1)) : storeResponse s p k =
      releaseStall (if kind = 0 then dropEntry s1 p k else lateStoreError (dropEntry s1 p k) p b kind) p := by
  rw [storeResponse, hb]
  dsimp only
  rw [if_neg (by rw [hm, hh]; exact Bool.false_ne_true), hbus]

theorem storeResponse_ok (hm : mayAnswer s (s.cpu p).k.buf k = true) (hh : s.held.contains (.store p b) = false)
    (hbus : busStore s (.cpu p (!b.task)) b = (some 0, s1)) : storeResponse s p k = releaseStall (dropEntry s1 p k) p := by
  rw [storeResponse_answered hb hm hh hbus, if_pos rfl]

theorem storeResponse_error (hm : mayAnswer s (s.cpu p).k.buf k = true) (hh : s.held.contains (.store p b) = false) {kind : Nat}
    (hbus : busStore s (.cpu p (!b.task)) b = (some (kind + 1), s1)) :
    storeResponse s p k = releaseStall (lateStoreError (dropEntry s1 p k) p b (kind + 1)) p := by
  rw [storeResponse_answered hb hm hh hbus, if_neg (Nat.succ_ne_zero kind)]

/-- An older store to the same target block is answered first. -/
theorem mayAnswer_older {j : Nat} {o : StoreEntry} (hj : j < k) (ho : (s.cpu p).k.buf[j]? = some o) (hblock : targetBlock s o = targetBlock s b) :
    mayAnswer s (s.cpu p).k.buf k = false := by
  rw [mayAnswer, hb, Bool.eq_false_iff]
  intro hall
  have hmem : o ∈ (s.cpu p).k.buf.take k := List.mem_of_getElem? ((List.getElem?_take_of_lt hj).trans ho)
  exact of_decide_eq_true (List.all_eq_true.mp hall o hmem) hblock

end

/-- With no instruction that waits, nothing is released. -/
theorem releaseStall_none (s : State) (p : ProcId) (h : (s.cpu p).k.stall = none) : releaseStall s p = s := by
  rw [releaseStall, h]

theorem dropEntry_cpu (s : State) (p : ProcId) (k : Nat) :
    (dropEntry s p k).cpu p = { s.cpu p with k := { (s.cpu p).k with buf := (s.cpu p).k.buf.eraseIdx k } } := s.cpu_updK p _

theorem releaseStall_dropEntry (s : State) (p : ProcId) (k : Nat) (h : (s.cpu p).k.stall = none) :
    releaseStall (dropEntry s p k) p = dropEntry s p k := releaseStall_none _ p (by rw [dropEntry_cpu]; exact h)

theorem dropEntry_buf (s : State) (p : ProcId) (k : Nat) : ((dropEntry s p k).cpu p).k.buf = (s.cpu p).k.buf.eraseIdx k := by
  rw [dropEntry_cpu]

theorem dropEntry_r (s : State) (p : ProcId) (k : Nat) : ((dropEntry s p k).cpu p).r = (s.cpu p).r := by rw [dropEntry_cpu]

/-! ### A store of the MC to the MGS or a CSM (R110) -/

/-- A write without error marks in its way. -/
theorem eccWrite_clean (s : State) (g : Region) (a n : Nat) (h1 : s.ecc1 = []) (h2 : s.ecc2 = []) : eccWrite s g a n = (none, s) := by
  rw [eccWrite, h1, h2]
  rfl

theorem regionWrite_ram (s : State) (i : Init) (part : Nat) (g : Region) (a : Nat) (l : List Byte) (hg : g = .mgs ∨ ∃ c, g = .csm c)
    (h1 : s.ecc1 = []) (h2 : s.ecc2 = []) : regionWrite s i part g a l = (.ok [], (s.store a l).define a l.length) := by
  rcases hg with rfl | ⟨c, rfl⟩ <;> simp only [regionWrite, eccWrite_clean s _ a _ h1 h2]

/-- Bytes are stored: memory, the error marks and the words held undefined, and nothing else. -/
theorem store_define_only (s : State) (a : Nat) (l : List Byte) (n : Nat) :
    ∃ e1 e2 d, (s.store a l).define a n = { s with mem := (s.setBytes a l).mem, ecc1 := e1, ecc2 := e2, dpr := d } := by
  obtain ⟨m, hm⟩ := s.onlyMem_setBytes a l
  have hstore : s.store a l = { s with
      mem := (s.setBytes a l).mem
      ecc1 := s.ecc1.filter (fun e => !coversWord a l.length e)
      ecc2 := s.ecc2.filter (fun e => !coversWord a l.length e) } := by rw [State.store, hm]
  rw [State.define, hstore]
  split
  · exact ⟨_, _, _, rfl⟩
  · exact ⟨_, _, _, rfl⟩

section
variable {s : State} {b : StoreEntry} {g : Region} (hkind : b.kind = .plain) (hg : regionFor b.addr b.size = some g)
  (hram : g = .mgs ∨ ∃ c, g = .csm c) (hmay : initMay s (.cpu .mc (!b.task)) g true = true)
  (hregion : regionMay s (.cpu .mc (!b.task)) b.part g true b.addr b.size = true) (hway : passage s b.addr = (none, s))
  (hfree : busyAt s g b.addr = none) (h1 : s.ecc1 = []) (h2 : s.ecc2 = [])
include hkind hg hram hmay hregion hway hfree h1 h2

/-- The bytes that such a store writes. -/
theorem busStore_mc : busStore s (.cpu .mc (!b.task)) b =
    (some 0, (s.store b.addr (leBytes b.size b.data.toNat)).define b.addr b.size) := by
  have hstale : staleTask s (.cpu .mc (!b.task)) b = false := by
    have hnone : staleStore s b (Init.cpu .mc (!b.task)).engine = false := by cases h : b.blk <;> simp only [staleStore, h, Init.engine]
    rw [staleTask, hnone, Bool.and_false]
  have hserve := regionWrite_ram s (.cpu .mc (!b.task)) b.part g b.addr (leBytes b.size b.data.toNat) hram h1 h2
  have hwrite : fabWrite s (.cpu .mc (!b.task)) b.part b.addr (leBytes b.size b.data.toNat) =
      (.ok [], (s.store b.addr (leBytes b.size b.data.toNat)).define b.addr b.size) := by
    rw [leBytes_length] at hserve
    refine access_served s _ _ _ true _ _ _ g [] ?_ hmay ?_ hway hfree hserve
    · rwa [leBytes_length]
    · rwa [leBytes_length]
  rw [busStore, hkind]
  dsimp only
  rw [if_neg (by rw [hstale]; exact Bool.false_ne_true), hwrite]

end

theorem rd_setBytes (s : State) (a : Nat) (n v : Nat) : (s.setBytes a (leBytes n v)).rd a n = v % 256 ^ n := s.rd_wr a n v

section
variable {s t : State} {a n v k : Nat} (ht : (s.store a (leBytes n v)).define a n = t)
include ht

theorem stored_mem : t.mem = (s.wr a n v).mem := by
  obtain ⟨e1, e2, d, h⟩ := store_define_only s a (leBytes n v) n
  rw [← ht, h]
  rfl

theorem stored_rest : t.mc = s.mc ∧ t.slots = s.slots ∧ t.regs = s.regs := by
  obtain ⟨e1, e2, d, h⟩ := store_define_only s a (leBytes n v) n
  rw [← ht, h]
  exact ⟨rfl, rfl, rfl⟩

/-- What stands when the MC's entry is gone. -/
theorem stored_dropped (hs : s.mc.k.stall = none) : releaseStall (dropEntry t .mc k) .mc = dropEntry t .mc k ∧
    (dropEntry t .mc k).rd a n = v % 256 ^ n ∧ (∀ b, b < a ∨ a + n ≤ b → (dropEntry t .mc k).byte b = s.byte b) ∧
    (dropEntry t .mc k).mc.k.buf = s.mc.k.buf.eraseIdx k ∧ (dropEntry t .mc k).mc.r = s.mc.r ∧ (dropEntry t .mc k).slots = s.slots ∧
    (dropEntry t .mc k).regs = s.regs := by
  obtain ⟨hmc, hslots, hregs⟩ := stored_rest ht
  have hmem : (dropEntry t .mc k).mem = (s.wr a n v).mem := (t.updK_mem _ _).trans (stored_mem ht)
  have hbuf : (dropEntry t .mc k).mc.k.buf = t.mc.k.buf.eraseIdx k := dropEntry_buf t .mc k
  have hr : (dropEntry t .mc k).mc.r = t.mc.r := dropEntry_r t .mc k
  refine ⟨releaseStall_dropEntry t .mc k (by rw [State.cpu, hmc]; exact hs), (State.rd_congr hmem a n).trans (s.rd_wr a n v),
    fun b hb => (State.byte_congr hmem b).trans (s.byte_wr_out a n v b hb), by rw [hbuf, hmc], by rw [hr, hmc],
    (t.updK_slots _ _).trans hslots, (t.updK_regs _ _).trans hregs⟩

end

/-! ### A store to an internal slot (R24, R125) -/

/-- What a store writes of a slot: the value for part 0, the status for part 1, both for an 8 byte store. -/
def slotPart (b : StoreEntry) : Nat → Option Word × Option Nat
  | 0 => (some b.data, none)
  | 1 => (none, some (b.data.toNat % 65536))
  | _ => (some b.data, some (b.hi.toNat % 65536))

theorem ssmStore_taken {s : State} {e : Option Nat} {b : StoreEntry} {n : Nat} (part : Nat) (hown : (s.thePlan.bind n).owner = b.part)
    (hstale : staleStore s b e = false) (hlate : lateStore s e b = false) :
    ssmStore s e b n part = s.writeInternal n (slotPart b part).1 (slotPart b part).2 := by
  unfold ssmStore
  rw [if_neg (Bool.eq_false_iff.mp hstale), if_neg (Bool.eq_false_iff.mp hlate), if_neg (fun h => h hown)]
  match part with
  | 0 => rfl
  | 1 => rfl
  | _ + 2 => rfl

theorem sigStore_internal {s : State} {i : Init} {b : StoreEntry} {n : Nat} (part : Nat) (hbind : (s.thePlan.bind n).kind = 0) :
    sigStore s i b n part = ssmStore s i.engine b n part := by
  simp only [sigStore, hbind]

theorem busStore_slot {s : State} {i : Init} {b : StoreEntry} {n part : Nat} (hkind : b.kind = .sig part)
    (hn : (b.addr - 0x20000000) / 8 = n) (hway : passage s (0x20000000 + 8 * n) = (none, s)) :
    busStore s i b = (some 0, sigStore s i b n part) := by
  obtain ⟨pass, hpass⟩ : ∃ f, passage = f := ⟨_, rfl⟩
  rw [hpass] at hway
  rw [busStore, hkind, hpass, hn]
  dsimp only
  rw [hway]

theorem slot_writeInternal (s : State) (n : Nat) (value : Option Word) (status : Option Nat) : (s.writeInternal n value status).slot n =
    { value := value.getD (s.slot n).value, status := status.getD (s.slot n).status, fresh := some s.cyc.socCount } :=
  SMap.get_set_same _ _ _ _

theorem slot_writeInternal_ne (s : State) (n m : Nat) (value : Option Word) (status : Option Nat) (h : m ≠ n) :
    (s.writeInternal n value status).slot m = s.slot m := SMap.get_set_ne _ _ _ _ _ h

theorem writeInternal_cpu (s : State) (n : Nat) (value : Option Word) (status : Option Nat) (p : ProcId) :
    (s.writeInternal n value status).cpu p = s.cpu p := by cases p <;> rfl

theorem slot_dropEntry (s : State) (p : ProcId) (k m : Nat) : (dropEntry s p k).slot m = s.slot m := by
  have hslots : (dropEntry s p k).slots = s.slots := s.updK_slots p _
  rw [State.slot, State.slot, hslots]

/-- Settles O10: the response takes the target's write, drops the entry and releases what waited. -/
theorem storeResponses : Obligations.StoreResponses := by
  unfold Obligations.StoreResponses
  refine ⟨fun p k s s1 b hb hm => ⟨fun hh => ?_, fun hh hbus => ?_, fun kind hh hbus => ?_⟩, fun p k s b hb ⟨j, o, hj, ho, hblock⟩ => ?_,
    fun k s b g hb hm hs hkind hg hram hmay hregion hh hway hfree h1 h2 => ?_,
    fun p k s b n part hb hm hh hs hkind hn hway hbind hown hstale hlate => ?_⟩
  · rw [exec_storeResponse hb, storeResponse_waits hb (.inr hh)]
  · rw [exec_storeResponse hb, storeResponse_ok hb hm hh hbus]
  · rw [exec_storeResponse hb, storeResponse_error hb hm hh hbus]
  · rw [exec_storeResponse hb, storeResponse_waits hb (.inl (mayAnswer_older hb hj ho hblock))]
  · have hbus := busStore_mc hkind hg hram hmay hregion hway hfree h1 h2
    obtain ⟨t, ht⟩ : ∃ t, (s.store b.addr (leBytes b.size b.data.toNat)).define b.addr b.size = t := ⟨_, rfl⟩
    rw [ht] at hbus
    obtain ⟨hrest, hholds⟩ := stored_dropped ht (k := k.val) hs
    refine ⟨_, ?_, hholds⟩
    have hentry : (s.cpu .mc).k.buf[k.val]? = some b := hb
    rw [exec_storeResponse hentry, storeResponse_ok hentry hm hh hbus, hrest]
  · have hbus := busStore_slot (i := .cpu p (!b.task)) hkind hn hway
    rw [sigStore_internal part hbind, ssmStore_taken part hown (hstale _) (hlate _)] at hbus
    obtain ⟨value, hvalue⟩ : ∃ v, (slotPart b part).1 = v := ⟨_, rfl⟩
    obtain ⟨status, hstatus⟩ : ∃ v, (slotPart b part).2 = v := ⟨_, rfl⟩
    rw [hvalue, hstatus] at hbus
    have hcpu := writeInternal_cpu s n value status p
    have hslot := (slot_dropEntry (s.writeInternal n value status) p k.val n).trans (slot_writeInternal s n value status)
    have hstep : exec (.storeResponse p k) s = .next (dropEntry (s.writeInternal n value status) p k.val) := by
      rw [exec_storeResponse hb, storeResponse_ok hb hm hh hbus, releaseStall_dropEntry _ _ _ (by rw [hcpu]; exact hs)]
    refine ⟨_, hstep, fun hp => ?_, fun hp => ?_, fun m hne => ?_, State.updK_mem _ _ _, by rw [dropEntry_buf, hcpu], by rw [dropEntry_r, hcpu]⟩
    · subst hp hvalue hstatus
      rw [hslot]
      exact ⟨rfl, rfl⟩
    · subst hp hvalue hstatus
      rw [hslot]
      exact ⟨rfl, rfl⟩
    · rw [slot_dropEntry, slot_writeInternal_ne s n m _ _ hne]

end Sys2Proof.Machine
end

section
/-! Debug and trace (R531 to R537, R539, R541 to R545). -/

namespace Sys2Proof.Machine

/-! ### Halting members (R535) -/

/-- Only processors change. -/
def State.onlyCpus (s t : State) : Prop := ∃ l m p, t = { s with les := l, mc := m, sp := p }

namespace State.onlyCpus
variable {s t u : State}

theorem self (s : State) : s.onlyCpus s := ⟨s.les, s.mc, s.sp, rfl⟩

theorem trans (h : s.onlyCpus t) (k : t.onlyCpus u) : s.onlyCpus u := by
  obtain ⟨l, m, p, rfl⟩ := h
  obtain ⟨l', m', p', rfl⟩ := k
  exact ⟨l', m', p', rfl⟩

theorem regs_eq (h : s.onlyCpus t) : t.regs = s.regs := by obtain ⟨l, m, p, rfl⟩ := h; rfl
theorem dbg_eq (h : s.onlyCpus t) : t.dbg = s.dbg := by obtain ⟨l, m, p, rfl⟩ := h; rfl

end State.onlyCpus

theorem haltEngines_only (s : State) (c : Nat) (h : Bool) (n : Nat) : s.onlyCpus (haltEngines s c h n) := by
  induction n with
  | zero => exact .self s
  | succ n ih => exact ih.trans ⟨_, _, _, rfl⟩

theorem haltMember_only (s : State) (m : Nat) (h : Bool) : s.onlyCpus (haltMember s m h) := by
  unfold haltMember
  split
  · exact ⟨_, _, _, rfl⟩
  · split
    · exact ⟨_, _, _, rfl⟩
    · exact haltEngines_only s _ h 16

theorem haltMembers_only (s : State) (mask : Nat) (h : Bool) (n : Nat) : s.onlyCpus (haltMembers s mask h n) := by
  induction n with
  | zero => exact .self s
  | succ n ih =>
    unfold haltMembers
    dsimp only
    split
    · exact ih.trans (haltMember_only _ n h)
    · exact ih

/-- A member stands halted, or runs: the SP, the MC, or the engines of a cluster. -/
def memberHolds (s : State) (h : Bool) : Nat → Prop
  | 0 => s.sp.k.halted = h
  | 1 => s.mc.k.halted = h
  | c + 2 => ∀ n, 16 * c ≤ n → n < 16 * c + 16 → (s.le n).k.halted = h

theorem memberHolds_congr {s t : State} {h : Bool} {m : Nat} (hles : t.les = s.les) (hmc : t.mc = s.mc) (hsp : t.sp = s.sp)
    (hs : memberHolds s h m) : memberHolds t h m := by
  match m with
  | 0 => exact (congrArg (fun c : Cpu => c.k.halted) hsp).trans hs
  | 1 => exact (congrArg (fun c : Cpu => c.k.halted) hmc).trans hs
  | c + 2 =>
    intro n hlo hhi
    rw [State.le, hles]
    exact hs n hlo hhi

theorem haltEngines_succ (s : State) (c : Nat) (h : Bool) (n : Nat) : haltEngines s c h (n + 1) =
    (haltEngines s c h n).setLe (16 * c + n) { (haltEngines s c h n).le (16 * c + n) with
      k := { ((haltEngines s c h n).le (16 * c + n)).k with halted := h } } := rfl

theorem haltEngines_halted (s : State) (c : Nat) (h : Bool) (n m : Nat)
    (hm : (16 * c ≤ m ∧ m < 16 * c + n) ∨ (s.le m).k.halted = h) : ((haltEngines s c h n).le m).k.halted = h := by
  induction n with
  | zero => exact hm.resolve_left (by omega)
  | succ n ih =>
    rw [haltEngines_succ]
    by_cases heq : m = 16 * c + n
    · rw [heq, State.le_setLe]
    · rw [State.le_setLe_ne _ _ _ _ heq]
      exact ih (hm.imp_left (by omega))

/-- The MC and the SP are no engines. -/
theorem haltEngines_others (s : State) (c : Nat) (h : Bool) (n : Nat) :
    (haltEngines s c h n).mc = s.mc ∧ (haltEngines s c h n).sp = s.sp := by
  induction n with
  | zero => exact ⟨rfl, rfl⟩
  | succ n ih => exact ih

theorem haltMember_holds (s : State) (m : Nat) (h : Bool) : memberHolds (haltMember s m h) h m := by
  match m with
  | 0 => exact rfl
  | 1 => exact rfl
  | c + 2 =>
    intro n hlo hhi
    rw [haltMember, if_neg (by omega), if_neg (by omega), Nat.add_sub_cancel]
    exact haltEngines_halted s c h 16 n (.inl ⟨hlo, hhi⟩)

theorem haltMember_keeps {s : State} {h : Bool} {j : Nat} (m : Nat) (hj : memberHolds s h j) : memberHolds (haltMember s m h) h j := by
  match m with
  | 0 =>
    match j with
    | 0 => exact haltMember_holds s 0 h
    | 1 => exact hj
    | c + 2 => exact hj
  | 1 =>
    match j with
    | 0 => exact hj
    | 1 => exact haltMember_holds s 1 h
    | c + 2 => exact hj
  | c + 2 =>
    obtain ⟨hmc, hsp⟩ := haltEngines_others s c h 16
    have hmember : haltMember s (c + 2) h = haltEngines s c h 16 := by
      rw [haltMember, if_neg (by omega), if_neg (by omega), Nat.add_sub_cancel]
    rw [hmember]
    match j with
    | 0 => exact (congrArg (fun x : Cpu => x.k.halted) hsp).trans hj
    | 1 => exact (congrArg (fun x : Cpu => x.k.halted) hmc).trans hj
    | d + 2 =>
      intro n hlo hhi
      exact haltEngines_halted s c h 16 n (.inr (hj n hlo hhi))
theorem haltMembers_succ (s : State) (mask : Nat) (h : Bool) (n : Nat) : haltMembers s mask h (n + 1) =
    if mask.testBit n then haltMember (haltMembers s mask h n) n h else haltMembers s mask h n := rfl

theorem haltMembers_holds (s : State) (mask : Nat) (h : Bool) (n m : Nat) (hm : m < n) (hbit : mask.testBit m = true) :
    memberHolds (haltMembers s mask h n) h m := by
  induction n with
  | zero => omega
  | succ n ih =>
    rw [haltMembers_succ]
    by_cases heq : m = n
    · subst heq
      rw [if_pos hbit]
      exact haltMember_holds _ m h
    · have hbefore := ih (by omega)
      split
      · exact haltMember_keeps n hbefore
      · exact hbefore

/-! ### Events of the debug unit -/

theorem dbgEvent_only (s : State) (k : Nat) : s.onlyRegs (dbgEvent s k) := evcIf_only s _ _ k

theorem dbgEvent_reg (s : State) (k b : Nat) (hk : k < 16) (hb : 0x40004280 ≤ b) : (dbgEvent s k).reg b = s.reg b :=
  evcIf_reg_above s _ 232 k b (by omega) hb

theorem State.onlyRegs.cpus_eq {s t : State} (h : s.onlyRegs t) : t.les = s.les ∧ t.mc = s.mc ∧ t.sp = s.sp := by
  obtain ⟨r, rfl⟩ := h
  exact ⟨rfl, rfl, rfl⟩

theorem State.onlyRegs.dbg_eq {s t : State} (h : s.onlyRegs t) : t.dbg = s.dbg := by obtain ⟨r, rfl⟩ := h; rfl
theorem State.onlyRegs.boot_eq {s t : State} (h : s.onlyRegs t) : t.boot = s.boot := by obtain ⟨r, rfl⟩ := h; rfl
theorem State.onlyRegs.trc_eq {s t : State} (h : s.onlyRegs t) : t.trc = s.trc := by obtain ⟨r, rfl⟩ := h; rfl

/-! ### A halt of all (R535) -/

/-- The mask of members shown, and kept where EXTEST will release them. -/
def haltNoted (s : State) (mask : Nat) : State :=
  let s1 := haltMembers s mask true 6
  let s2 := s1.setFld F.DBG_HALT_STAT_MEMBERS (s1.fld F.DBG_HALT_STAT_MEMBERS ||| mask)
  { s2 with dbg := { s2.dbg with extest := s2.dbg.extest.map (fun m => m ||| mask) } }

/-- The halt told in the registers. -/
def haltShown (s : State) (mask string : Nat) : State :=
  (((haltNoted s mask).setFld F.DBG_HALT_STAT_HALTED 1).setFld F.DBG_HALT_STAT_STRING string).setFld F.CYC_STATUS_RUNNING 0

theorem haltAll_eq (s : State) (mask string : Nat) : haltAll s mask string =
    if s.flag F.DBG_HALT_STAT_HALTED then haltShown s mask string else dbgEvent (haltShown s mask string) 12 := rfl

section
variable (s : State) (mask string : Nat)

theorem haltNoted_regs : (haltNoted s mask).regs =
    ((haltMembers s mask true 6).setFld F.DBG_HALT_STAT_MEMBERS ((haltMembers s mask true 6).fld F.DBG_HALT_STAT_MEMBERS ||| mask)).regs := by
  unfold haltNoted
  dsimp only

theorem haltNoted_members : (haltNoted s mask).fld F.DBG_HALT_STAT_MEMBERS = (s.fld F.DBG_HALT_STAT_MEMBERS ||| mask) % 64 := by
  have hfld : (haltMembers s mask true 6).fld F.DBG_HALT_STAT_MEMBERS = s.fld F.DBG_HALT_STAT_MEMBERS :=
    State.fld_congr (State.reg_congr _ (haltMembers_only s mask true 6).regs_eq)
  rw [State.fld_congr (State.reg_congr _ (haltNoted_regs s mask)), State.fld_setFld _ _ _ (by decide), hfld]
  rfl

theorem haltNoted_reg (b : Nat) (hb : b ≠ R.DBG_HALT_STAT) : (haltNoted s mask).reg b = s.reg b := by
  rw [State.reg_congr b (haltNoted_regs s mask), State.reg_setFld_ne _ _ _ _ hb, State.reg_congr b (haltMembers_only s mask true 6).regs_eq]

theorem haltNoted_dbg : (haltNoted s mask).dbg = { s.dbg with extest := s.dbg.extest.map (fun m => m ||| mask) } := by
  have hdbg := (haltMembers_only s mask true 6).dbg_eq
  unfold haltNoted
  dsimp only
  rw [State.setFld_dbg, hdbg]

theorem haltNoted_cpus : (haltNoted s mask).les = (haltMembers s mask true 6).les ∧ (haltNoted s mask).mc = (haltMembers s mask true 6).mc ∧
    (haltNoted s mask).sp = (haltMembers s mask true 6).sp := by
  unfold haltNoted
  dsimp only
  exact ⟨State.setFld_les _ _ _, State.setFld_mc _ _ _, State.setFld_sp _ _ _⟩

theorem haltShown_only : (haltNoted s mask).onlyRegs (haltShown s mask string) :=
  State.onlyRegs_trans (State.onlyRegs_setFld _ _ _) (State.onlyRegs_trans (State.onlyRegs_setFld _ _ _) (State.onlyRegs_setFld _ _ _))

theorem haltAll_only : (haltNoted s mask).onlyRegs (haltAll s mask string) := by
  rw [haltAll_eq]
  split
  · exact haltShown_only s mask string
  · exact State.onlyRegs_trans (haltShown_only s mask string) (dbgEvent_only _ 12)

theorem haltAll_reg_shown (b : Nat) (hb : 0x40004280 ≤ b) : (haltAll s mask string).reg b = (haltShown s mask string).reg b := by
  rw [haltAll_eq]
  split
  · rfl
  · exact dbgEvent_reg _ 12 b (by decide) hb

theorem haltAll_halted : (haltAll s mask string).dbgHalted = true := by
  rw [State.dbgHalted, State.flag_congr (haltAll_reg_shown s mask string _ (by decide)), haltShown,
    State.flag_setFld_apart _ _ _ _ (by decide) (by decide), State.flag_setFld_apart _ _ _ _ (by decide) (by decide)]
  exact State.flag_setFld_one _ F.DBG_HALT_STAT_HALTED (by decide) rfl

theorem haltAll_string : (haltAll s mask string).fld F.DBG_HALT_STAT_STRING = string % 8 := by
  rw [State.fld_congr (haltAll_reg_shown s mask string _ (by decide)), haltShown, State.fld_setFld_apart _ _ _ _ (by decide) (by decide)]
  exact State.fld_setFld _ F.DBG_HALT_STAT_STRING _ (by decide)

theorem haltAll_members : (haltAll s mask string).fld F.DBG_HALT_STAT_MEMBERS = (s.fld F.DBG_HALT_STAT_MEMBERS ||| mask) % 64 := by
  rw [State.fld_congr (haltAll_reg_shown s mask string _ (by decide)), haltShown, State.fld_setFld_apart _ _ _ _ (by decide) (by decide),
    State.fld_setFld_apart _ _ _ _ (by decide) (by decide), State.fld_setFld_apart _ _ _ _ (by decide) (by decide), haltNoted_members]

theorem haltAll_reg (b : Nat) (hb : 0x40004280 ≤ b) (hhalt : b ≠ R.DBG_HALT_STAT) (hcyc : b ≠ R.CYC_STATUS) :
    (haltAll s mask string).reg b = s.reg b := by
  rw [haltAll_reg_shown s mask string b hb, haltShown, State.reg_setFld_ne _ _ _ _ hcyc, State.reg_setFld_ne _ _ _ _ hhalt,
    State.reg_setFld_ne _ _ _ _ hhalt, haltNoted_reg s mask b hhalt]

theorem haltAll_dbg : (haltAll s mask string).dbg = { s.dbg with extest := s.dbg.extest.map (fun m => m ||| mask) } :=
  (haltAll_only s mask string).dbg_eq.trans (haltNoted_dbg s mask)

theorem haltAll_holds (m : Nat) (hm : m < 6) (hbit : mask.testBit m = true) : memberHolds (haltAll s mask string) true m := by
  obtain ⟨hles, hmc, hsp⟩ := (haltAll_only s mask string).cpus_eq
  obtain ⟨hles', hmc', hsp'⟩ := haltNoted_cpus s mask
  exact memberHolds_congr (hles.trans hles') (hmc.trans hmc') (hsp.trans hsp') (haltMembers_holds s mask true 6 m hm hbit)

end

theorem or63_mod (x : Nat) : (x ||| 63) % 64 = 63 := by
  refine Nat.eq_of_testBit_eq fun k => ?_
  rw [show (64 : Nat) = 2 ^ 6 from rfl, Nat.testBit_mod_two_pow, Nat.testBit_or]
  rw [show (63 : Nat) = 2 ^ 6 - 1 from rfl, Nat.testBit_two_pow_sub_one]
  by_cases hk : k < 6 <;> simp [hk]

/-! ### The release of a halt -/

/-- All members run and the registers show it, before the trace tells it. -/
def haltEnded (s : State) : State := ((haltMembers s 63 false 6).setFld F.DBG_HALT_STAT_MEMBERS 0).setFld F.DBG_HALT_STAT_HALTED 0

theorem haltRelease_eq (s : State) : haltRelease s =
    dbgEvent (trcEmit (haltEnded s) 7 (pktHalt (haltEnded s) ((haltEnded s).fld F.DBG_HALT_STAT_STRING) true)) 13 := rfl

theorem State.onlyRegsTrace.cpus_eq {s t : State} (h : s.onlyRegsTrace t) : t.les = s.les ∧ t.mc = s.mc ∧ t.sp = s.sp := by
  obtain ⟨r, x, rfl⟩ := h
  exact ⟨rfl, rfl, rfl⟩

/-- What is emitted counts a loss at most, and tells of it. -/
theorem trcEmit_reg (s : State) (src : Nat) (p : List Byte) (b : Nat) (hb : 0x40004280 ≤ b) (hne : b ≠ R.TRC_STAT) :
    (trcEmit s src p).reg b = s.reg b := by
  unfold trcEmit
  split
  · rfl
  · extract_lets time ovf add
    split
    · split
      · rfl
      · rfl
    · exact (dbgEvent_reg _ 9 b (by decide) hb).trans (State.reg_count_ne _ F.TRC_STAT_LOST b hne)

theorem haltRelease_reg (s : State) (b : Nat) (hb : 0x40004280 ≤ b) (hne : b ≠ R.TRC_STAT) : (haltRelease s).reg b = (haltEnded s).reg b := by
  rw [haltRelease_eq, dbgEvent_reg _ 13 b (by decide) hb, trcEmit_reg _ _ _ b hb hne]

theorem haltRelease_holds (s : State) (m : Nat) (hm : m < 6) : memberHolds (haltRelease s) false m := by
  have hbit : (63 : Nat).testBit m = true := by
    rw [show (63 : Nat) = 2 ^ 6 - 1 from rfl, Nat.testBit_two_pow_sub_one, decide_eq_true hm]
  rw [haltRelease_eq]
  obtain ⟨hles, hmc, hsp⟩ := (dbgEvent_only (trcEmit (haltEnded s) 7 (pktHalt (haltEnded s) ((haltEnded s).fld F.DBG_HALT_STAT_STRING) true)) 13).cpus_eq
  obtain ⟨hles', hmc', hsp'⟩ := (trcEmit_only (haltEnded s) 7 (pktHalt (haltEnded s) ((haltEnded s).fld F.DBG_HALT_STAT_STRING) true)).cpus_eq
  have hended : (haltMembers s 63 false 6).onlyRegs (haltEnded s) :=
    State.onlyRegs_trans (State.onlyRegs_setFld _ _ _) (State.onlyRegs_setFld _ _ _)
  obtain ⟨hles'', hmc'', hsp''⟩ := hended.cpus_eq
  exact memberHolds_congr (hles.trans (hles'.trans hles'')) (hmc.trans (hmc'.trans hmc'')) (hsp.trans (hsp'.trans hsp''))
    (haltMembers_holds s 63 false 6 m hm hbit)

theorem haltRelease_halted (s : State) : (haltRelease s).dbgHalted = false := by
  rw [State.dbgHalted, State.flag_congr (haltRelease_reg s _ (by decide) (by decide))]
  exact State.flag_setFld_zero _ F.DBG_HALT_STAT_HALTED (by decide)

theorem haltRelease_members (s : State) : (haltRelease s).fld F.DBG_HALT_STAT_MEMBERS = 0 := by
  rw [State.fld_congr (haltRelease_reg s _ (by decide) (by decide)), haltEnded, State.fld_setFld_apart _ _ _ _ (by decide) (by decide)]
  exact State.fld_setFld _ F.DBG_HALT_STAT_MEMBERS 0 (by decide)

theorem haltRelease_engines (s : State) (n : Nat) (hn : n < 64) : ((haltRelease s).le n).k.halted = false := by
  have hcluster := haltRelease_holds s (n / 16 + 2) (by omega)
  exact hcluster n (by omega) (by omega)

/-! ### The start of trace and the end of its buffer (R541 to R545) -/

theorem setByte_reg (s : State) (a : Nat) (v : Byte) (b : Nat) : (s.setByte a v).reg b = s.reg b := State.reg_congr b (s.setByte_regs a v)

/-- A byte of trace moves the write pointer alone. -/
theorem trcByte_reg (s : State) (v : Byte) (b : Nat) (h : b ≠ R.TRC_WPTR) : (trcByte s v).reg b = s.reg b := by
  unfold trcByte
  dsimp only
  split
  · split
    · exact (State.reg_setFld_ne _ F.TRC_WPTR_OFS 0 b h).trans (setByte_reg s _ v b)
    · exact (State.reg_setFld_ne _ F.TRC_WPTR_OFS _ b h).trans (setByte_reg s _ v b)
  · rfl

theorem trcBytes_reg (s : State) (l : List Byte) (b : Nat) (h : b ≠ R.TRC_WPTR) : (trcBytes s l).reg b = s.reg b := by
  induction l generalizing s with
  | nil => rfl
  | cons v l ih => exact (ih _).trans (trcByte_reg s v b h)

theorem setLastTime_reg (s : State) (src : Nat) (t : Option Nat) (b : Nat) : (setLastTime s src t).reg b = s.reg b := rfl

theorem trcTimes_reg (s : State) (n b : Nat) (h : b ≠ R.TRC_WPTR) : (trcTimes s n).reg b = s.reg b := by
  induction n with
  | zero => rfl
  | succ n ih =>
    unfold trcTimes
    dsimp only
    split
    · rw [setLastTime_reg, trcBytes_reg _ _ b h, ih]
    · exact ih

theorem trcSync_reg (s : State) (b : Nat) (h : b ≠ R.TRC_WPTR) : (trcSync s).reg b = s.reg b :=
  (trcTimes_reg (trcBytes s pktSync) 8 b h).trans (trcBytes_reg s pktSync b h)

theorem trcSync_since (s : State) : (trcSync s).trc.sinceSync = 0 := by
  unfold trcSync
  dsimp only

/-- Trace enabled with its counts cleared, before the first synchronisation. -/
def trcCleared (s : State) : State := ((s.setFld F.TRC_CTRL_EN 1).setFld F.TRC_STAT_LOST 0).setFld F.TRC_STAT_FULL 0

theorem trcStart_eq (s : State) (h : s.flag F.TRC_CTRL_EN = false) :
    trcStart s = trcSync { trcCleared s with trc := { (trcCleared s).trc with atEnd := false } } := if_neg (Bool.eq_false_iff.mp h)

theorem trcStart_on (s : State) (h : s.flag F.TRC_CTRL_EN = true) : trcStart s = s := if_pos h

theorem trcStart_reg (s : State) (b : Nat) (hb : b ≠ R.TRC_WPTR) (h : s.flag F.TRC_CTRL_EN = false) :
    (trcStart s).reg b = (trcCleared s).reg b := by
  rw [trcStart_eq s h, trcSync_reg _ b hb]
  exact State.reg_congr b rfl

theorem trcStart_holds (s : State) (h : s.flag F.TRC_CTRL_EN = false) : (trcStart s).flag F.TRC_CTRL_EN = true ∧
    (trcStart s).fld F.TRC_STAT_LOST = 0 ∧ (trcStart s).trc.sinceSync = 0 := by
  refine ⟨?_, ?_, ?_⟩
  · rw [State.flag_congr (trcStart_reg s _ (by decide) h), trcCleared, State.flag_setFld_apart _ _ _ _ (by decide) (by decide),
      State.flag_setFld_apart _ _ _ _ (by decide) (by decide)]
    exact s.flag_setFld_one F.TRC_CTRL_EN (by decide) rfl
  · rw [State.fld_congr (trcStart_reg s _ (by decide) h), trcCleared, State.fld_setFld_apart _ _ _ _ (by decide) (by decide)]
    exact State.fld_setFld _ F.TRC_STAT_LOST 0 (by decide)
  · rw [trcStart_eq s h, trcSync_since]

theorem trcEmit_off (s : State) (src : Nat) (p : List Byte) (h : trcOn s src = false) : trcEmit s src p = s := if_pos (by simp [h])

/-- The buffer's end marked full or wrapped, and told. -/
def bufferTold (s : State) : State :=
  let s1 := { s with trc := { s.trc with atEnd := false } }
  dbgEvent (if s1.flag F.TRC_CTRL_STOPFULL then s1.setFld F.TRC_STAT_FULL 1 else s1.setFld F.TRC_STAT_WRAPPED 1) 8

theorem exec_traceBufferEnd_none (s : State) (h : s.trc.atEnd = false) : exec .traceBufferEnd s = .next s := if_pos (by simp [h])

/-- The end not yet told. -/
def endTaken (s : State) : State := { s with trc := { s.trc with atEnd := false } }

theorem endTaken_flag (s : State) (f : Fld) : (endTaken s).flag f = s.flag f := State.flag_congr (State.reg_congr _ rfl)

/-- The field of `TRC_STAT` that a full buffer sets. -/
def endFld (stop : Bool) : Fld := if stop then F.TRC_STAT_FULL else F.TRC_STAT_WRAPPED

theorem endFld_reg (stop : Bool) : (endFld stop).reg = R.TRC_STAT := by cases stop <;> rfl

theorem bufferTold_eq (s : State) : bufferTold s = dbgEvent ((endTaken s).setFld (endFld (s.flag F.TRC_CTRL_STOPFULL)) 1) 8 := by
  have hstop := endTaken_flag s F.TRC_CTRL_STOPFULL
  show dbgEvent (if (endTaken s).flag F.TRC_CTRL_STOPFULL then (endTaken s).setFld F.TRC_STAT_FULL 1
    else (endTaken s).setFld F.TRC_STAT_WRAPPED 1) 8 = _
  rw [hstop]
  cases s.flag F.TRC_CTRL_STOPFULL <;> rfl

theorem bufferTold_flag (s : State) : (bufferTold s).flag (endFld (s.flag F.TRC_CTRL_STOPFULL)) = true := by
  rw [bufferTold_eq, State.flag_congr (dbgEvent_reg _ 8 _ (by decide) (by rw [endFld_reg]; decide))]
  cases s.flag F.TRC_CTRL_STOPFULL
  · exact State.flag_setFld_one _ F.TRC_STAT_WRAPPED (by decide) rfl
  · exact State.flag_setFld_one _ F.TRC_STAT_FULL (by decide) rfl

theorem bufferTold_only (s : State) : (endTaken s).onlyRegs (bufferTold s) := by
  rw [bufferTold_eq]
  exact State.onlyRegs_trans (State.onlyRegs_setFld _ _ _) (dbgEvent_only _ 8)

theorem bufferTold_fsen (s : State) : (bufferTold s).flag F.TRC_CTRL_FSEN = s.flag F.TRC_CTRL_FSEN := by
  have hreg : (bufferTold s).reg R.TRC_CTRL = s.reg R.TRC_CTRL := by
    rw [bufferTold_eq, dbgEvent_reg _ 8 _ (by decide) (by decide), State.reg_setFld_ne _ _ _ _ (by rw [endFld_reg]; decide)]
    exact State.reg_congr _ rfl
  exact State.flag_congr hreg

theorem exec_traceBufferEnd (s : State) (h : s.trc.atEnd = true) (hf : s.flag F.TRC_CTRL_FSEN = false) :
    exec .traceBufferEnd s = .next (bufferTold s) := by
  have hfsen : (bufferTold s).flag F.TRC_CTRL_FSEN = false := (bufferTold_fsen s).trans hf
  show execTraceBufferEnd s = _
  rw [execTraceBufferEnd, if_neg (by simp [h])]
  exact congrArg Host.Outcome.next (if_neg (Bool.eq_false_iff.mp hfsen))

theorem traceBufferRow (s : State) (h : s.trc.atEnd = true) (hf : s.flag F.TRC_CTRL_FSEN = false) :
    ∃ t, exec .traceBufferEnd s = .next t ∧ t.trc.atEnd = false ∧
      (s.flag F.TRC_CTRL_STOPFULL = true → t.flag F.TRC_STAT_FULL = true) ∧
      (s.flag F.TRC_CTRL_STOPFULL = false → t.flag F.TRC_STAT_WRAPPED = true) ∧ t.mem = s.mem := by
  have hflag := bufferTold_flag s
  refine ⟨_, exec_traceBufferEnd s h hf, ?_, fun hstop => ?_, fun hstop => ?_, (bufferTold_only s).mem_eq⟩
  · rw [(bufferTold_only s).trc_eq]
    rfl
  · rwa [hstop] at hflag
  · rwa [hstop] at hflag

/-! ### Strings (R535, R537) -/

section
variable (s : State) (k : Nat)

theorem strOut_fld (f : Fld) (h : s.reg f.reg = 0) : s.fld f = 0 := by
  rw [State.fld, h, Fld.of]
  simp

/-- What a string does beside halting. -/
def stringActs (t : State) : State :=
  let s2 := if t.flag (F.DBG_STR_OUT_TSTOP k) then trcStop t else t
  let s3 := if s2.flag (F.DBG_STR_OUT_TSTART k) then trcStart s2 else s2
  let s4 := if s3.flag (F.DBG_STR_OUT_THALT k) then trcEmit s3 7 (pktHalt s3 k false) else s3
  if s4.flag (F.DBG_STR_OUT_EVT k) then dbgEvent s4 k else s4

/-- The halt of a string, where the level allows it. -/
def stringHalts : State :=
  let mask0 := s.fld (F.DBG_STR_OUT_HALT k)
  let mask := if has s.dbg.spStrings k then mask0 else mask0 - mask0 % 2
  if mask0 = 0 then s
  else if debugLevel s = 2 then (if mask = 0 then s else haltAll s mask k)
  else s.count F.DBG_STATUS_REFUSED

theorem stringPulse_eq : stringPulse s k = stringActs k (stringHalts s k) := rfl

theorem stringActs_quiet (t : State) (hstop : t.flag (F.DBG_STR_OUT_TSTOP k) = false) (hstart : t.flag (F.DBG_STR_OUT_TSTART k) = false)
    (hhalt : t.flag (F.DBG_STR_OUT_THALT k) = false) :
    stringActs k t = if t.flag (F.DBG_STR_OUT_EVT k) then dbgEvent t k else t := by
  unfold stringActs
  dsimp only
  rw [hstop, if_neg Bool.false_ne_true, hstart, if_neg Bool.false_ne_true, hhalt, if_neg Bool.false_ne_true]

theorem stringHalts_none (h : s.fld (F.DBG_STR_OUT_HALT k) = 0) : stringHalts s k = s := if_pos h

theorem stringHalts_cluster (hl : debugLevel s = 2) (h : s.fld (F.DBG_STR_OUT_HALT k) = 4) : stringHalts s k = haltAll s 4 k := by
  unfold stringHalts
  dsimp only
  rw [h, ite_self, if_neg (by decide), if_pos hl, if_neg (by decide)]

theorem stringHalts_refused (hl : debugLevel s ≠ 2) (h : s.fld (F.DBG_STR_OUT_HALT k) ≠ 0) :
    stringHalts s k = s.count F.DBG_STATUS_REFUSED := (if_neg h).trans (if_neg hl)

theorem flag_zero (f : Fld) (h : s.fld f = 0) : s.flag f = false := by rw [State.flag, h]; rfl

theorem stringPulse_blank (h : s.reg (R.DBG_STR_OUT k) = 0) : stringPulse s k = s := by
  have hflag (lo w : Nat) : s.flag ⟨R.DBG_STR_OUT k, lo, w⟩ = false := flag_zero s _ (strOut_fld s _ h)
  rw [stringPulse_eq, stringHalts_none s k (strOut_fld s _ h), stringActs_quiet k s (hflag 11 1) (hflag 10 1) (hflag 9 1),
    hflag 12 1, if_neg Bool.false_ne_true]

theorem strOut_apart (hk : k < 8) : 0x40004280 ≤ R.DBG_STR_OUT k ∧ R.DBG_STR_OUT k ≠ R.DBG_HALT_STAT ∧ R.DBG_STR_OUT k ≠ R.CYC_STATUS ∧
    R.DBG_STR_OUT k ≠ R.DBG_STATUS := by
  simp only [R.DBG_STR_OUT, R.DBG_HALT_STAT, R.CYC_STATUS, R.DBG_STATUS]
  omega

theorem stringPulse_halts (hk : k < 8) (hl : debugLevel s = 2) (h : s.fld (F.DBG_STR_OUT_HALT k) = 4)
    (hstop : s.flag (F.DBG_STR_OUT_TSTOP k) = false) (hstart : s.flag (F.DBG_STR_OUT_TSTART k) = false)
    (hhalt : s.flag (F.DBG_STR_OUT_THALT k) = false) :
    (stringPulse s k).dbgHalted = true ∧ (stringPulse s k).fld F.DBG_HALT_STAT_STRING = k ∧
      ∀ n, n < 16 → ((stringPulse s k).le n).k.halted = true := by
  obtain ⟨habove, hst, hcyc, -⟩ := strOut_apart k hk
  have hflag (f : Fld) (hf : f.reg = R.DBG_STR_OUT k) : (haltAll s 4 k).flag f = s.flag f :=
    State.flag_congr (by rw [hf]; exact haltAll_reg s 4 k _ habove hst hcyc)
  have hpulse : stringPulse s k = if (haltAll s 4 k).flag (F.DBG_STR_OUT_EVT k) then dbgEvent (haltAll s 4 k) k else haltAll s 4 k := by
    rw [stringPulse_eq, stringHalts_cluster s k hl h, stringActs_quiet k _ ((hflag _ rfl).trans hstop) ((hflag _ rfl).trans hstart)
      ((hflag _ rfl).trans hhalt)]
  have hreg (b : Nat) (hb : 0x40004280 ≤ b) : (stringPulse s k).reg b = (haltAll s 4 k).reg b := by
    rw [hpulse]
    split
    · exact dbgEvent_reg _ k b (by omega) hb
    · rfl
  have honly : (haltAll s 4 k).onlyRegs (stringPulse s k) := by
    rw [hpulse]
    split
    · exact dbgEvent_only _ k
    · exact State.onlyRegs_self _
  refine ⟨?_, ?_, fun n hn => ?_⟩
  · exact (State.flag_congr (hreg _ (by decide))).trans (haltAll_halted s 4 k)
  · rw [State.fld_congr (hreg _ (by decide)), haltAll_string, Nat.mod_eq_of_lt hk]
  · obtain ⟨hles, hmc, hsp⟩ := honly.cpus_eq
    have hcluster : memberHolds (stringPulse s k) true 2 :=
      memberHolds_congr hles hmc hsp (haltAll_holds s 4 k 2 (by decide) (by decide))
    exact hcluster n (Nat.zero_le n) hn

theorem stringPulse_refused (hk : k < 8) (hl : debugLevel s ≠ 2) (h : s.reg (R.DBG_STR_OUT k) = 4) :
    stringPulse s k = s.count F.DBG_STATUS_REFUSED := by
  obtain ⟨-, -, -, hne⟩ := strOut_apart k hk
  have hfld (lo w : Nat) : s.fld ⟨R.DBG_STR_OUT k, lo, w⟩ = 4 / 2 ^ lo % 2 ^ w := by
    rw [State.fld, h]
    rfl
  have hflag (lo : Nat) (hlo : 3 ≤ lo) : (s.count F.DBG_STATUS_REFUSED).flag ⟨R.DBG_STR_OUT k, lo, 1⟩ = false := by
    have hpow : 2 ^ 3 ≤ 2 ^ lo := Nat.pow_le_pow_right (by decide) hlo
    have hreg : (s.count F.DBG_STATUS_REFUSED).reg (R.DBG_STR_OUT k) = s.reg (R.DBG_STR_OUT k) := s.reg_count_ne _ _ hne
    rw [State.flag_congr (f := ⟨R.DBG_STR_OUT k, lo, 1⟩) hreg]
    refine flag_zero s _ ((hfld lo 1).trans ?_)
    rw [Nat.div_eq_of_lt (by omega)]
    rfl
  have hmask : s.fld (F.DBG_STR_OUT_HALT k) = 4 := hfld 0 6
  rw [stringPulse_eq, stringHalts_refused s k hl (by rw [hmask]; decide),
    stringActs_quiet k _ (hflag 11 (by decide)) (hflag 10 (by decide)) (hflag 9 (by decide)), hflag 12 (by decide), if_neg Bool.false_ne_true]

end

/-! ### The TAP (R531, R533) -/

/-- A number made of bits: each of its bits is the one put there. -/
theorem bitSum_testBit (f : Nat → Bool) (n : Nat) : ((List.range n).map (fun k => if f k then 2 ^ k else 0)).sum < 2 ^ n ∧
    ∀ j, j < n → ((List.range n).map (fun k => if f k then 2 ^ k else 0)).sum.testBit j = f j := by
  induction n with
  | zero => exact ⟨Nat.zero_lt_one, fun j hj => absurd hj (Nat.not_lt_zero j)⟩
  | succ n ih =>
    obtain ⟨hlt, hbits⟩ := ih
    rw [List.range_succ, List.map_append, List.sum_append, List.map_singleton, List.sum_singleton]
    generalize ((List.range n).map (fun k => if f k then 2 ^ k else 0)).sum = x at hlt hbits
    have hpow : 2 ^ (n + 1) = 2 ^ n + 2 ^ n := by omega
    cases hf : f n
    · rw [if_neg Bool.false_ne_true, Nat.add_zero]
      refine ⟨by omega, fun j hj => ?_⟩
      by_cases heq : j = n
      · rw [heq, hf, Nat.testBit_lt_two_pow hlt]
      · exact hbits j (by omega)
    · rw [if_pos rfl, Nat.add_comm]
      refine ⟨by omega, fun j hj => ?_⟩
      by_cases heq : j = n
      · rw [heq, hf, Nat.testBit_two_pow_add_eq, Nat.testBit_lt_two_pow hlt]
        rfl
      · rw [Nat.testBit_two_pow_add_gt (by omega)]
        exact hbits j (by omega)

section
variable (s : State)

theorem selectTap_tap (c : Nat) : (selectTap s c).dbg.tap = c := rfl

theorem endExtest_none (h : s.dbg.extest = none) : endExtest s = s := by rw [endExtest, h]

theorem selectTap_outside (c : Nat) (h : s.dbg.extest = none) : selectTap s c = { s with dbg := { s.dbg with tap := c } } := by
  have hend := endExtest_none s h
  unfold selectTap
  rw [hend, ite_self]

theorem tapActs_one : tapActs s 1 = 1 := rfl

theorem tapActs_low (c : Nat) (h : c = 0 ∨ c = 2) (hl : debugLevel s ≠ 2) : tapActs s c = 0x1F := by
  rw [tapActs, if_neg (by omega), if_neg (fun hc => hl hc.2), if_neg (by omega)]

theorem tapActs_full (c : Nat) (h : c = 0 ∨ c = 2) (hl : debugLevel s = 2) : tapActs s c = c := by
  rw [tapActs, if_neg (by omega), if_pos ⟨h, hl⟩]

theorem tapActs_bypass (c : Nat) (h : c ≠ 0 ∧ c ≠ 1 ∧ c ≠ 2 ∧ c ≠ 8 ∧ c ≠ 9) : tapActs s c = 0x1F := by
  rw [tapActs, if_neg (by omega), if_neg (by omega), if_neg (by omega)]

theorem tapSelect_of {c k : Nat} (h : tapActs s c = k) (hk : k ≠ 0) : tapSelect s c = selectTap s k := by
  rw [tapSelect, h, if_neg hk]

/-- Only PRELOAD and EXTEST take the boundary cells. -/
theorem updateCells_other (d : HostData) (h0 : s.dbg.tap ≠ 0) (h2 : s.dbg.tap ≠ 2) : updateCells s d = s := by
  unfold updateCells
  split
  · next h => exact absurd h h0
  · next h => exact absurd h h2
  · rfl

theorem updateCells_preload (d : HostData) (h : s.dbg.tap = 2) : ∃ c, updateCells s d = { s with dbg := { s.dbg with cells := c } } ∧
    ∀ l, d = .bytes l → l ≠ [] → c = leNat l % 2 ^ 88 := by
  unfold updateCells
  rw [h]
  split
  · next l heq => cases heq
  · next l heq =>
    split
    · next hnil => exact ⟨s.dbg.cells, rfl, fun l' hl' hne => by cases hl'; exact absurd hnil hne⟩
    · exact ⟨_, rfl, fun l' hl' _ => by cases hl'; rfl⟩
  · next _ hnot => exact ⟨s.dbg.cells, rfl, fun l hl _ => absurd hl (hnot l rfl)⟩

theorem tapData_cells (h : s.dbg.tap = 2) :
    tapData s = (88, ((List.range 88).map (fun k => if ballLevel s s.draw.1 k then 2 ^ k else 0)).sum) := by
  rw [tapData, h]
  rfl

theorem tapData_bypass (h : s.dbg.tap = 0x1F) : tapData s = (1, 0) := by simp only [tapData, h]

theorem tapData_id (h : s.dbg.tap = 1) : tapData s =
    (32, s.fld F.SYS_REV_MAJOR % 16 * 2 ^ 28 + 0x6400 * 2 ^ 12 + Config.jedecCode % 2 ^ 11 * 2 + 1) := by simp only [tapData, h]

theorem ballLevel_driven (h : s.dbg.extest.isSome = true) (x k : Nat) : ballLevel s x k = s.dbg.cells.testBit k := by
  have hdrive : cellDrive s k = some (s.dbg.cells.testBit k) := if_pos h
  unfold ballLevel
  rw [hdrive]

theorem idCode_parts (major code : Nat) : (major * 2 ^ 28 + 0x6400 * 2 ^ 12 + code % 2 ^ 11 * 2 + 1) / 2 ^ 12 % 2 ^ 16 = 0x6400 ∧
    (major * 2 ^ 28 + 0x6400 * 2 ^ 12 + code % 2 ^ 11 * 2 + 1) % 2 = 1 := by omega

end

theorem exec_select (code : BitVec 5) (a v : Word) (d : HostData) (s : State) :
    exec (.dpacc (.select code) a v d) s = .next (updateCells (tapSelect s code.toNat) d) := rfl

theorem exec_extest (s : State) : exec .extest s = .next (tapSelect s 0) := rfl

/-- A code that acts as one without cells selects it alone. -/
theorem exec_select_plain {code : BitVec 5} {s : State} {c : Nat} (a v : Word) (d : HostData) (h : tapActs s code.toNat = c)
    (h0 : c ≠ 0) (h2 : c ≠ 2) : exec (.dpacc (.select code) a v d) s = .next (selectTap s c) := by
  rw [exec_select, tapSelect_of s h h0, updateCells_other _ d (by rwa [selectTap_tap]) (by rwa [selectTap_tap])]

theorem exec_preload (a v : Word) (d : HostData) (s : State) (hl : debugLevel s = 2) :
    ∃ t, exec (.dpacc (.select 2) a v d) s = .next t ∧ t.dbg.tap = 2 ∧ t.mem = (selectTap s 2).mem ∧ t.regs = (selectTap s 2).regs ∧
      (tapData t).1 = 88 ∧ (∀ k, k < 88 → (tapData t).2.testBit k = ballLevel t t.draw.1 k) ∧
      ∀ l, d = .bytes l → l ≠ [] → t.dbg.cells = leNat l % 2 ^ 88 := by
  have hcode : (2 : BitVec 5).toNat = 2 := rfl
  obtain ⟨c, hcells, hc⟩ := updateCells_preload (selectTap s 2) d (selectTap_tap s 2)
  have hstep : exec (.dpacc (.select 2) a v d) s = .next (updateCells (selectTap s 2) d) := by
    rw [exec_select, hcode, tapSelect_of s (tapActs_full s 2 (.inr rfl) hl) (by decide)]
  obtain ⟨t, ht⟩ : ∃ t, updateCells (selectTap s 2) d = t := ⟨_, rfl⟩
  rw [ht] at hstep hcells
  have htap : t.dbg.tap = 2 := by rw [hcells, selectTap_tap]
  have hdata := tapData_cells t htap
  refine ⟨t, hstep, htap, by rw [hcells], by rw [hcells], by rw [hdata], fun k hk => ?_, fun l hd hl => ?_⟩
  · rw [hdata]
    exact (bitSum_testBit (ballLevel t t.draw.1) 88).2 k hk
  · rw [hcells, hc l hd hl]

/-- EXTEST halts all members and keeps what stood halted before it. -/
theorem exec_extest_starts (s : State) (hl : debugLevel s = 2) (he : s.dbg.extest = none) :
    ∃ t, exec .extest s = .next t ∧ t.dbgHalted = true ∧ t.fld F.DBG_HALT_STAT_MEMBERS = 63 ∧ t.dbg.tap = 0 ∧
      t.dbg.extest.isSome = true := by
  have hnone : s.dbg.extest.isSome = false := by rw [he]; rfl
  have hstep : exec .extest s = .next (startExtest s) := by rw [exec_extest, tapSelect, tapActs_full s 0 (.inl rfl) hl, if_pos rfl]
  obtain ⟨u, hu⟩ : ∃ u, haltAll (selectTap s 0) 63 (s.fld F.DBG_HALT_STAT_STRING) = u := ⟨_, rfl⟩
  have hstart : startExtest s = { u with dbg := { u.dbg with extest := some (if s.dbgHalted then s.fld F.DBG_HALT_STAT_MEMBERS else 0) } } := by
    rw [startExtest, hu, if_neg (by rw [hnone]; exact Bool.false_ne_true)]
  have hhalted : u.dbgHalted = true := hu ▸ haltAll_halted _ 63 _
  have hmembers : u.fld F.DBG_HALT_STAT_MEMBERS = 63 := hu ▸ (haltAll_members _ 63 _).trans (or63_mod _)
  have htap : u.dbg.tap = 0 := by rw [← hu, haltAll_dbg, selectTap_tap]
  rw [hstep, hstart]
  exact ⟨_, rfl, hhalted, hmembers, htap, rfl⟩

/-! ### The debug port (R533) -/

section
variable (a v : Word) (d : HostData) (s : State)

theorem exec_dpacc_bypass (op : BitVec 2) (h : debugLevel s = 0 ∨ op = 2 ∧ debugLevel s ≠ 2) :
    exec (.dpacc (.access op) a v d) s = .next (selectTap s 0x1F) := if_pos h

theorem exec_dpacc_idle (op : BitVec 2) (hl : debugLevel s ≠ 0) (h : op = 0 ∨ op = 3) :
    exec (.dpacc (.access op) a v d) s = .next (selectTap s 8) := by
  have hno : ¬ (debugLevel s = 0 ∨ op = 2 ∧ debugLevel s ≠ 2) := by rcases h with rfl | rfl <;> simp [hl]
  have hrun : ¬ (op = 1 ∨ op = 2) := by rcases h with rfl | rfl <;> decide
  exact (if_neg hno).trans (if_neg hrun)

theorem exec_dpacc_runs (op : BitVec 2) (hl : debugLevel s ≠ 0) (h2 : op = 2 → debugLevel s = 2) (h : op = 1 ∨ op = 2)
    (hs : (selectTap s 8).dbg.dpStatus ≠ 1) :
    exec (.dpacc (.access op) a v d) s = .next (dpAccess (selectTap s 8) op.toNat a.toNat v d) := by
  have hno : ¬ (debugLevel s = 0 ∨ op = 2 ∧ debugLevel s ≠ 2) := fun hor => hor.elim hl fun hand => hand.2 (h2 hand.1)
  refine ((if_neg hno).trans (if_pos h)).trans (congrArg Host.Outcome.next ?_)
  rw [dpShift, if_neg hs]
  exact if_neg hs

theorem dpAccess_unaligned (op : Nat) (h : a.toNat % 4 ≠ 0) : dpAccess s op a.toNat v d = setDp s 2 a.toNat 0 := if_pos h

theorem dpAccess_read {s1 : State} {l : List Byte} (h : a.toNat % 4 = 0) (hr : fabRead s .dbg 0 a.toNat 4 d = (.ok l, s1)) :
    dpAccess s 1 a.toNat v d = setDp s1 0 a.toNat (word (leNat l)) := by
  rw [dpAccess, if_neg (fun hne => hne h), if_pos rfl, hr]

theorem dpAccess_write {s1 : State} {l : List Byte} (h : a.toNat % 4 = 0)
    (hw : fabWrite s .dbg 0 a.toNat (leBytes 4 v.toNat) = (.ok l, s1)) : dpAccess s 2 a.toNat v d = setDp s1 0 a.toNat 0 := by
  rw [dpAccess, if_neg (fun hne => hne h), if_neg (by decide), hw]

theorem dpAccess_held {s1 : State} (h : a.toNat % 4 = 0) (hw : fabWrite s .dbg 0 a.toNat (leBytes 4 v.toNat) = (.held, s1)) :
    dpAccess s 2 a.toNat v d = holdAccess (setDp s1 1 a.toNat 0) .dbg false a.toNat v := by
  rw [dpAccess, if_neg (fun hne => hne h), if_neg (by decide), hw]

end

/-! ### UNLOCK (R532, R539) -/

theorem serveUnlock_fails (u : State) (h : u.dbg.want ≠ 0) :
    serveUnlock u false = { u with dbg := { u.dbg with want := 0, unlockStatus := St.entFail } } := if_neg h

section
variable (p : List Byte) (s : State) (he : s.dbg.extest = none)
include he

theorem exec_unlock_other (cmd : BitVec 8) (h1 : cmd ≠ 1) (h2 : cmd ≠ 2) (h3 : cmd ≠ 3) :
    exec (.unlock cmd p) s = .next { s with dbg := { s.dbg with tap := 9 } } := by
  rw [← selectTap_outside s 9 he]
  exact (if_neg (fun h => h.elim h1 h2)).trans (if_neg h3)

theorem exec_unlock_response (hc : s.boot.challenge = none) : ∃ t, exec (.unlock 3 p) s = .next t ∧ t.dbg.unlockStatus = St.authFail ∧
    t.boot.unlock = s.boot.unlock ∧ t.boot.authFails = s.boot.authFails + 1 := by
  have hstep : exec (.unlock 3 p) s = .next (setUnlockStat (judgeResponse (selectTap s 9) (padTo (p.take 128) 128)).2
      (judgeResponse (selectTap s 9) (padTo (p.take 128) 128)).1) := by
    show execUnlock 3 p s = _
    rw [execUnlock, if_neg (by decide), if_pos rfl]
  have hboot : (selectTap s 9).boot = s.boot := by rw [selectTap_outside s 9 he]
  obtain ⟨u, hu⟩ : ∃ u, selectTap s 9 = u := ⟨_, rfl⟩
  rw [hu] at hstep hboot
  have hjudge (l : List Byte) : judgeResponse u l = (St.authFail, dbgEvent { u with boot :=
      { u.boot with challenge := none, authFails := u.boot.authFails + 1 } } 11) := by
    rw [judgeResponse, hboot, hc]
  have hevent := (dbgEvent_only { u with boot := { u.boot with challenge := none, authFails := u.boot.authFails + 1 } } 11).boot_eq
  rw [hjudge] at hstep
  refine ⟨_, hstep, rfl, (congrArg Boot.unlock hevent).trans ?_, (congrArg Boot.authFails hevent).trans ?_⟩ <;> rw [hboot]

theorem exec_unlock_failed (cmd : BitVec 8) (hcmd : cmd = 1 ∨ cmd = 2) (hf : s.entFailed = true) :
    ∃ t, exec (.unlock cmd p) s = .next t ∧ t.dbg.unlockStatus = St.entFail ∧ t.boot = s.boot := by
  have hwant : cmd.toNat ≠ 0 := by rcases hcmd with rfl | rfl <;> decide
  have hstep : exec (.unlock cmd p) s = .next (entAsk (setUnlockStat { selectTap s 9 with
      dbg := { (selectTap s 9).dbg with want := cmd.toNat } } St.busy) .unlock) := if_pos hcmd
  rw [selectTap_outside s 9 he] at hstep
  have hask : entAsk (setUnlockStat { s with dbg := { s.dbg with tap := 9, want := cmd.toNat } } St.busy) .unlock =
      serveUnlock (setUnlockStat { s with dbg := { s.dbg with tap := 9, want := cmd.toNat } } St.busy) false := if_pos hf
  refine ⟨_, hstep.trans (congrArg Host.Outcome.next (hask.trans (serveUnlock_fails _ hwant))), rfl, rfl⟩

end

/-! ### A comparator's write (R536) -/

section
variable (w : Fin 3) (v : Word) (s : State)

theorem exec_dbgCmpWrite : exec (.dbgCmpWrite .mc w v) s = .next (cmpWrite s .mc (R.DBG_CMP_CTRL + 4 * w.val) v) := rfl

theorem cmpWrite_none (a : Nat) (h : cmpSel s = none) : cmpWrite s .mc a v = s := by rw [cmpWrite, h]

theorem cmpWrite_sp (a k : Nat) (h : cmpSel s = some (.sp, k)) : cmpWrite s .mc a v = s := by
  rw [cmpWrite, h]
  rfl

/-- A comparator after a write of one of its registers. -/
def cmpSet (c : Cmp) (a : Nat) (v : Word) : Cmp :=
  if a = R.DBG_CMP_CTRL then { c with ctrl := v &&& 0xBF870717 } else if a = R.DBG_CMP_VAL then { c with val := v } else { c with mask := v }

theorem cmpWrite_sel (a : Nat) {p : ProcId} {k : Nat} (h : cmpSel s = some (p, k)) (hp : p ≠ .sp) : cmpWrite s .mc a v =
    s.updK p (fun x => { x with cmps := SMap.set (fun _ => {}) x.cmps k (cmpSet (SMap.get (fun _ => {}) (s.cpu p).k.cmps k) a v) }) := by
  rw [cmpWrite, h]
  exact if_neg (by simp [hp])

theorem cmpSet_regs (c : Cmp) (v : Word) : (cmpSet c (R.DBG_CMP_CTRL + 4 * 0) v).ctrl = v &&& 0xBF870717 ∧
    (cmpSet c (R.DBG_CMP_CTRL + 4 * 1) v).val = v ∧ (cmpSet c (R.DBG_CMP_CTRL + 4 * 2) v).mask = v := by
  refine ⟨?_, ?_, ?_⟩
  · rw [cmpSet, if_pos (by decide)]
  · rw [cmpSet, if_neg (by decide), if_pos (by decide)]
  · rw [cmpSet, if_neg (by decide), if_neg (by decide)]

theorem cmpRow {p : ProcId} {k : Nat} (h : cmpSel s = some (p, k)) (hp : p ≠ .sp) : ∃ t, exec (.dbgCmpWrite .mc w v) s = .next t ∧
    (w = 0 → (SMap.get (fun _ => ({} : Cmp)) (t.cpu p).k.cmps k).ctrl = v &&& 0xBF870717) ∧
    (w = 1 → (SMap.get (fun _ => ({} : Cmp)) (t.cpu p).k.cmps k).val = v) ∧
    (w = 2 → (SMap.get (fun _ => ({} : Cmp)) (t.cpu p).k.cmps k).mask = v) ∧ (t.cpu p).r = (s.cpu p).r ∧ t.mem = s.mem := by
  obtain ⟨c, hc⟩ : ∃ c, SMap.get (fun _ => ({} : Cmp)) (s.cpu p).k.cmps k = c := ⟨_, rfl⟩
  obtain ⟨hctrl, hval, hmask⟩ := cmpSet_regs c v
  rw [exec_dbgCmpWrite, cmpWrite_sel v s _ h hp, hc]
  refine ⟨_, rfl, fun hw => ?_, fun hw => ?_, fun hw => ?_, by rw [State.cpu_updK], State.updK_mem _ _ _⟩
  · rw [State.cpu_updK, SMap.get_set_same, hw]
    exact hctrl
  · rw [State.cpu_updK, SMap.get_set_same, hw]
    exact hval
  · rw [State.cpu_updK, SMap.get_set_same, hw]
    exact hmask

end

/-! ### A resume (R535) -/

section
variable (s : State)

theorem exec_resume_mc (h : s.mc.k.halted = false) : exec (.debugResume .mc) s = .next (debugResume s) := if_pos (by simp [dbgWrites, h])

theorem exec_resume_mc_halted (h : s.mc.k.halted = true) : exec (.debugResume .mc) s = .next s := if_neg (by simp [h])

theorem exec_resume_dbg (h : debugLevel s = 2) : exec (.debugResume .dbg) s = .next (debugResume s) := if_pos (by simp [dbgWrites, h])

theorem exec_resume_dbg_low (h : debugLevel s ≠ 2) : exec (.debugResume .dbg) s = .next s := if_neg (by simp [dbgWrites, h])

theorem debugResume_none (h : s.dbgHalted = false) : debugResume s = s := if_pos (by simp [h])

theorem debugResume_halted (h : s.dbgHalted = true) (he : s.dbg.extest = none) : debugResume s = resumeCycle (haltRelease s) := by
  rw [debugResume, if_neg (by simp [h]), if_neg (by simp [he])]

theorem exec_resume_none (h : s.dbgHalted = false) : exec (.debugResume .mc) s = .next s ∧ exec (.debugResume .dbg) s = .next s := by
  constructor
  · cases hm : s.mc.k.halted
    · rw [exec_resume_mc s hm, debugResume_none s h]
    · exact exec_resume_mc_halted s hm
  · by_cases hl : debugLevel s = 2
    · rw [exec_resume_dbg s hl, debugResume_none s h]
    · exact exec_resume_dbg_low s hl

end

theorem exec_stringPulse (k : Fin 8) (s : State) : exec (.stringPulse .mc k) s = .next (stringPulse s k.val) := rfl

theorem exec_stringPulse_dbg (k : Fin 8) (s : State) (h : debugLevel s = 2) : exec (.stringPulse .dbg k) s = .next (stringPulse s k.val) :=
  if_pos (decide_eq_true h)

theorem exec_stringPulse_dbg_low (k : Fin 8) (s : State) (h : debugLevel s ≠ 2) : exec (.stringPulse .dbg k) s = .next s :=
  if_neg (by simp [dbgWrites, h])

theorem exec_stringPulse_no (k : Fin 8) (s : State) :
    (∀ x, exec (.stringPulse (.host x) k) s = .next s) ∧ exec (.stringPulse .sp k) s = .next s := ⟨fun _ => rfl, rfl⟩

theorem exec_trcSw (v : Word) (s : State) : exec (.trcSw .mc v) s = .next (trcEmit s 4 (pktSw s v)) := rfl

theorem exec_traceStart (s : State) : exec (.traceStart .mc) s = .next (trcStart s) := rfl

theorem bitVec5_ne {code : BitVec 5} (h0 : code ≠ 0) (h1 : code ≠ 1) (h2 : code ≠ 2) (h8 : code ≠ 8) (h9 : code ≠ 9) :
    code.toNat ≠ 0 ∧ code.toNat ≠ 1 ∧ code.toNat ≠ 2 ∧ code.toNat ≠ 8 ∧ code.toNat ≠ 9 := by
  bv_omega

/-- Settles O56: the TAP by the code that acts, halts by the members that they set, trace by the registers that it leaves. -/
theorem debugAndTrace : Obligations.DebugAndTrace := by
  unfold Obligations.DebugAndTrace
  refine ⟨fun op a v d s => ⟨exec_dpacc_bypass a v d s op, exec_dpacc_idle a v d s op, fun hl hop hs => ?_, fun hl hop hs => ?_⟩,
    fun a v d s s1 h hw => ?_, fun a v d s h => ?_, fun a v d s s1 l h => ⟨fun hr => ?_, fun hw => ?_⟩,
    fun a v d s => ⟨fun hl => ⟨?_, ?_⟩, exec_extest_starts s, exec_preload a v d s, ballLevel_driven s, ?_, fun code h0 h1 h2 h8 h9 => ?_,
      ?_, ?_, ?_, selectTap_tap s, tapData_bypass s⟩,
    fun cmd p s he => ⟨exec_unlock_other p s he cmd, fun hc hnone => ?_, exec_unlock_failed p s he cmd⟩,
    fun k s => ⟨exec_stringPulse k s, (exec_stringPulse_no k s).1, (exec_stringPulse_no k s).2, exec_stringPulse_dbg k s,
      exec_stringPulse_dbg_low k s, stringPulse_blank s k.val, stringPulse_halts s k.val k.isLt, stringPulse_refused s k.val k.isLt⟩,
    fun s => ⟨exec_resume_none s, fun h he hl => ?_, exec_resume_mc_halted s, haltRelease_halted s, haltRelease_members s,
      haltRelease_holds s 1 (by decide), haltRelease_holds s 0 (by decide), haltRelease_engines s⟩,
    fun w v s => ⟨fun p k h hp => cmpRow w v s h hp, fun h => ?_, fun k h => ?_⟩,
    fun v s => ⟨exec_trcSw v s, fun h => ?_, fun h => ⟨_, exec_traceStart s, trcStart_holds s h⟩, trcEmit_off s 4 _⟩,
    fun s => ⟨exec_traceBufferEnd_none s, traceBufferRow s⟩⟩
  · subst hop
    exact exec_dpacc_runs a v d s 1 hl (fun h => absurd h (by decide)) (.inl rfl) hs
  · subst hop
    exact exec_dpacc_runs a v d s 2 (by omega) (fun _ => hl) (.inr rfl) hs
  · rw [dpAccess_held a v d s h hw]
    exact ⟨rfl, rfl⟩
  · rw [dpAccess_unaligned a v d s 1 h, dpAccess_unaligned a v d s 2 h]
    exact ⟨rfl, rfl, rfl⟩
  · rw [dpAccess_read a v d s h hr]
    exact ⟨rfl, rfl⟩
  · rw [dpAccess_write a v d s h hw]
    exact ⟨rfl, rfl⟩
  · rw [exec_extest, tapSelect_of s (tapActs_low s 0 (.inl rfl) hl) (by decide)]
  · exact exec_select_plain a v d (tapActs_low s 2 (.inr rfl) hl) (by decide) (by decide)
  · exact exec_select_plain a v d (tapActs_one s) (by decide) (by decide)
  · exact exec_select_plain a v d (tapActs_bypass s _ (bitVec5_ne h0 h1 h2 h8 h9)) (by decide) (by decide)
  · rw [tapData_id _ (selectTap_tap s 1)]
  · rw [tapData_id _ (selectTap_tap s 1)]
    exact (idCode_parts _ _).1
  · rw [tapData_id _ (selectTap_tap s 1)]
    exact (idCode_parts _ _).2
  · subst hc
    exact exec_unlock_response p s he hnone
  · rw [exec_resume_dbg s hl, debugResume_halted s h he]
  · rw [exec_dbgCmpWrite, cmpWrite_none v s _ h]
  · rw [exec_dbgCmpWrite, cmpWrite_sp v s _ k h]
  · rw [exec_traceStart, trcStart_on s h]

end Sys2Proof.Machine
end

section
/-! Power domains, STANDBY and the adaptive supply (R440 to R446, R448 to R455). -/

namespace Sys2Proof.Machine

theorem State.onlyRegs.pmu_eq {s t : State} (h : s.onlyRegs t) : t.pmu = s.pmu := by obtain ⟨r, rfl⟩ := h; rfl

/-! ### Switching domains (R440 to R446) -/

theorem domReg_apart : R.PMU_DOM_CTRL ≠ R.PMU_DOM_STAT := by decide

section
variable (s : State) (d : Nat)

theorem powered_eq (hd : d < 8) : s.powered d = s.regBit R.PMU_DOM_STAT d := by
  rw [State.powered, s.fld_testBit F.PMU_DOM_STAT_PWR d hd]
  exact congrArg _ (Nat.zero_add d)

theorem switchOff_coming (h : has s.pmu.comingOn d = true ∨ has s.pmu.wanted d = true) :
    switchOff s d = s.setRegBit R.PMU_DOM_STAT (24 + d) true := if_pos (by rcases h with h | h <;> simp [h])

theorem switchOff_off (h : s.powered d = false ∨ has s.pmu.goingOff d = true) (hc : has s.pmu.comingOn d = false)
    (hw : has s.pmu.wanted d = false) : switchOff s d = s.setRegBit R.PMU_DOM_CTRL d false := by
  rw [switchOff, if_neg (by simp [hc, hw]), if_pos (by rcases h with h | h <;> simp [h])]

section
variable (hp : s.powered d = true) (hg : has s.pmu.goingOff d = false) (hc : has s.pmu.comingOn d = false)
  (hw : has s.pmu.wanted d = false)
include hp hg hc hw

theorem switchOff_refused (hr : offRefused s d = true) : switchOff s d = s.setRegBit R.PMU_DOM_STAT (24 + d) true := by
  rw [switchOff, if_neg (by simp [hc, hw]), if_neg (by simp [hp, hg]), if_pos hr]

theorem switchOff_starts (hr : offRefused s d = false) : switchOff s d = startOff (s.setRegBit R.PMU_DOM_CTRL d false) d := by
  rw [switchOff, if_neg (by simp [hc, hw]), if_neg (by simp [hp, hg]), if_neg (by simp [hr])]

end

theorem startOff_holds (hd : d < 8) : (startOff (s.setRegBit R.PMU_DOM_CTRL d false) d).regBit R.PMU_DOM_STAT (8 + d) = true ∧
    (startOff (s.setRegBit R.PMU_DOM_CTRL d false) d).regBit R.PMU_DOM_CTRL d = false ∧
    has (startOff (s.setRegBit R.PMU_DOM_CTRL d false) d).pmu.goingOff d = true := by
  obtain ⟨u, hu⟩ : ∃ u, s.setRegBit R.PMU_DOM_CTRL d false = u := ⟨_, rfl⟩
  have hctrl : u.regBit R.PMU_DOM_CTRL d = false := hu ▸ s.regBit_setRegBit_same _ _ _ (by omega)
  rw [hu]
  refine ⟨u.regBit_setRegBit_same _ _ _ (by omega), ?_, has_addTo_same _ _⟩
  exact (State.regBit_congr d (u.reg_setRegBit_ne R.PMU_DOM_STAT (8 + d) R.PMU_DOM_CTRL true domReg_apart)).trans hctrl

theorem startOff_rest (u : State) : (startOff u d).mem = u.mem ∧ (startOff u d).les = u.les := ⟨rfl, rfl⟩

theorem startOn_holds (hd : d < 8) : (startOn s d).regBit R.PMU_DOM_CTRL d = true ∧ (startOn s d).regBit R.PMU_DOM_STAT (8 + d) = true ∧
    has (startOn s d).pmu.comingOn d = true ∧ (startOn s d).mem = s.mem := by
  obtain ⟨u, hu⟩ : ∃ u, s.setRegBit R.PMU_DOM_CTRL d true = u := ⟨_, rfl⟩
  have hctrl : u.regBit R.PMU_DOM_CTRL d = true := hu ▸ s.regBit_setRegBit_same _ _ _ (by omega)
  have hmem : u.mem = s.mem := hu ▸ (s.onlyRegs_setRegBit _ _ _).mem_eq
  have hon : startOn s d = { u.setRegBit R.PMU_DOM_STAT (8 + d) true with pmu := { u.pmu with comingOn := addTo u.pmu.comingOn d } } := by
    rw [startOn, hu]
  rw [hon]
  refine ⟨?_, u.regBit_setRegBit_same _ _ _ (by omega), has_addTo_same _ _, hmem⟩
  exact (State.regBit_congr d (u.reg_setRegBit_ne R.PMU_DOM_STAT (8 + d) R.PMU_DOM_CTRL true domReg_apart)).trans hctrl

theorem switchOn_starts (hp : s.powered d = false) (hg : has s.pmu.goingOff d = false) (hc : has s.pmu.comingOn d = false) :
    switchOn s d = startOn s d := by
  rw [switchOn, if_neg (by simp [hg]), if_neg (by simp [hp, hc])]

theorem switchOn_on (hp : s.powered d = true) (hg : has s.pmu.goingOff d = false) : switchOn s d = s.setRegBit R.PMU_DOM_CTRL d true := by
  rw [switchOn, if_neg (by simp [hg]), if_pos (by simp [hp])]

theorem switchOn_wants (hg : has s.pmu.goingOff d = true) : switchOn s d =
    { s.setRegBit R.PMU_DOM_CTRL d true with pmu := { s.pmu with wanted := addTo s.pmu.wanted d } } := if_pos hg

/-! ### A wake by an access (R444, R445) -/

theorem wakeAccess_locked (hl : domLocked s d = true) (hc : has s.pmu.comingOn d = false) : wakeAccess s d = (false, s) :=
  if_pos (by simp [hl, hc])

/-- The domain on its way, with its wake noted. -/
def woken : State := (switchOn s d).setRegBit R.PMU_DOM_STAT (16 + d) true

theorem wakeAccess_open (h : domLocked s d = false ∨ has s.pmu.comingOn d = true) :
    wakeAccess s d = (true, woken s d) ∨ wakeAccess s d = (true, pmuEvent (woken s d) 3) := by
  have hno : ¬ (domLocked s d && !has s.pmu.comingOn d) = true := by rcases h with h | h <;> simp [h]
  rw [wakeAccess, if_neg hno]
  dsimp only
  split
  · exact .inl rfl
  · exact .inr rfl

theorem pmuEvent_only (k : Nat) : s.onlyRegs (pmuEvent s k) := evcIf_only s _ _ k

theorem pmuEvent_reg (k b : Nat) (hk : k < 8) (hb : b < 0x40004100 ∨ 0x40004280 ≤ b) : (pmuEvent s k).reg b = s.reg b := by
  unfold pmuEvent evcIf
  split
  · exact evcEvent_reg_apart s _ b (by omega) hb
  · rfl

theorem wakeAccess_bit (hd : d < 16) (h : domLocked s d = false ∨ has s.pmu.comingOn d = true) : (wakeAccess s d).1 = true ∧
    (wakeAccess s d).2.regBit R.PMU_DOM_STAT (16 + d) = true := by
  have hbit : (woken s d).regBit R.PMU_DOM_STAT (16 + d) = true := State.regBit_setRegBit_same _ _ _ _ (by omega)
  rcases wakeAccess_open s d h with heq | heq
  · rw [heq]
    exact ⟨rfl, hbit⟩
  · rw [heq]
    exact ⟨rfl, (State.regBit_congr _ (pmuEvent_reg (woken s d) 3 _ (by decide) (by decide))).trans hbit⟩

theorem State.onlyRegsPmu.mem_eq {s t : State} (h : s.onlyRegsPmu t) : t.mem = s.mem := by obtain ⟨r, p, rfl⟩ := h; rfl
theorem State.onlyRegsPmu.held_eq {s t : State} (h : s.onlyRegsPmu t) : t.held = s.held := by obtain ⟨r, p, rfl⟩ := h; rfl

end

theorem domainOf_lt {a d : Nat} (h : domainOf a = some d) : d < 8 := by
  unfold domainOf at h
  split at h
  · cases h
    omega
  · split at h
    · cases h
      omega
    · split at h
      · cases h
        decide
      · split at h
        · cases h
          decide
        · split at h
          · cases h
            decide
          · split at h
            · cases h
              decide
            · cases h

theorem asleep_lt {s : State} {a d : Nat} (h : asleep s a = some d) : d < 8 := by
  unfold asleep at h
  split at h
  next k hk =>
    split at h
    · cases h
      exact domainOf_lt hk
    · cases h
  next => cases h

section
variable {a d : Nat} (v : Word) {s : State} (hw : s.wrapped a = false) (ha : asleep s a = some d)
include hw ha

theorem accessAway_wakes (h : domLocked s d = false ∨ has s.pmu.comingOn d = true) :
    (accessAway s .mc false a v).held = s.held ++ [.reg .mc s.mc.r.part false a v] ∧
    (accessAway s .mc false a v).regBit R.PMU_DOM_STAT (16 + d) = true ∧ (accessAway s .mc false a v).mem = s.mem := by
  have hd := asleep_lt ha
  obtain ⟨hserved, hbit⟩ := wakeAccess_bit s d (by omega) h
  have honly := wakeAccess_only s d
  have haway : accessAway s .mc false a v = holdAccess (wakeAccess s d).2 .mc false a v := by
    rw [accessAway, if_neg (Bool.eq_false_iff.mp hw), ha]
    exact if_pos hserved
  have hpart : writerPart (wakeAccess s d).2 .mc = s.mc.r.part := honly.writerPart_eq .mc
  rw [haway]
  refine ⟨?_, hbit, honly.mem_eq⟩
  rw [holdAccess, hpart, honly.held_eq]

theorem accessAway_locked (hl : domLocked s d = true) (hc : has s.pmu.comingOn d = false) :
    accessAway s .mc false a v = busErrOf s 0x40 s.mc.r.part a true := by
  have hwake := wakeAccess_locked s d hl hc
  rw [accessAway, if_neg (Bool.eq_false_iff.mp hw), ha]
  dsimp only
  rw [hwake]
  exact if_neg Bool.false_ne_true

end

section
variable (d : Fin 8) (s : State)

theorem exec_domainSwitchOff : exec (.domainSwitchOff d) s = .next (switchOff s d.val) := rfl
theorem exec_domainSwitchOn : exec (.domainSwitchOn d) s = .next (switchOn s d.val) := rfl

theorem exec_wakeOnDemand_on (hp : s.powered d.val = true) (hg : has s.pmu.goingOff d.val = false) :
    exec (.wakeOnDemand d) s = .next s := if_neg (by simp [hp, hg])

theorem exec_wakeOnDemand_off (hp : s.powered d.val = false) : exec (.wakeOnDemand d) s = .next (wakeAccess s d.val).2 :=
  if_pos (by simp [hp])

end

/-! ### STANDBY (R448 to R450) -/

section
variable (s : State)

theorem stbyNext_idle (h : s.pmu.entering = false) : stbyNext s = s := if_neg (by simp [h])

theorem stbyNext_off {d : Nat} (h : s.pmu.entering = true) (hg : s.pmu.goingOff = []) (hc : s.pmu.comingOn = [])
    (hd : stbyOrder.find? s.powered = some d) : stbyNext s = startOff s d := by
  rw [stbyNext, if_pos (by simp [h, hg, hc]), hd]

theorem exec_standbyRequest (v : Word) : exec (.standbyRequest v) s = .next (standbyRequest s v) := rfl

theorem standbyRequest_ignored (v : Word) (h : v.toNat / 65536 ≠ 0x5354 ∨ v.toNat % 2 = 0) : standbyRequest s v = s := if_pos h

section
variable (v : Word) (hkey : v.toNat / 65536 = 0x5354) (hgo : v.toNat % 2 = 1)
include hkey hgo

theorem standbyRequest_runs (hr : s.flag F.CYC_STATUS_RUNNING = true) : standbyRequest s v = stbyRefuse s 1 := by
  rw [standbyRequest, if_neg (by omega), if_pos hr]

theorem standbyRequest_saves (hr : s.flag F.CYC_STATUS_RUNNING = false) (h : s.saving = true ∨ s.pfstop = true) :
    standbyRequest s v = stbyRefuse s 2 := by
  rw [standbyRequest, if_neg (by omega), if_neg (by simp [hr]), if_pos (by rcases h with h | h <;> simp [h])]

theorem standbyRequest_starts (hr : s.flag F.CYC_STATUS_RUNNING = false) (hs : s.saving = false) (hp : s.pfstop = false) :
    standbyRequest s v = startStandby s (v.toNat.testBit 1) := by
  rw [standbyRequest, if_neg (by omega), if_neg (by simp [hr]), if_neg (by simp [hs, hp])]

end

theorem stbyAsked_not (h : s.pmu.entering = false ∨ s.pmu.goingOff ≠ []) : stbyAsked s = false := by
  rcases h with h | h <;> simp [stbyAsked, h]

theorem exec_stbyUnasked (h : stbyAsked s = false) : exec .spStopAck s = .next s ∧ exec .spAckTimeout s = .next s :=
  ⟨if_pos (by simp [h]), if_neg (by simp [h])⟩

theorem exec_spStopAck_commits (h : stbyAsked s = true) (hstep : s.pmu.step = none) : exec .spStopAck s = .next (commitStandby s) := by
  show execSpStopAck s = _
  rw [execSpStopAck, if_neg (by simp [h]), if_neg (by simp [hstep])]

theorem exec_spStopAck_waits (h : stbyAsked s = true) (hstep : s.pmu.step.isSome = true) :
    exec .spStopAck s = .next { s with pmu := { s.pmu with acked := true } } := by
  show execSpStopAck s = _
  rw [execSpStopAck, if_neg (by simp [h]), if_pos hstep]

theorem exec_spAckTimeout_acked (h : s.pmu.acked = true) : exec .spAckTimeout s = .next s := if_neg (by simp [h])

theorem exec_spAckTimeout (h : stbyAsked s = true) (ha : s.pmu.acked = false) : exec .spAckTimeout s = .next (endEntry (stbyRefuse s 3)) :=
  if_pos (by simp [h, ha])

/-- Everything of the commit point but the trace memory and the locks. -/
def standbyEntered : State :=
  let s1 := holdPins (eachNat trcDown s (List.range 8))
  { s1 with
    pmu := { s1.pmu with entering := false, acked := false, state := .standby }
    mc := { s1.mc with k := { s1.mc.k with state := .reset } }
    sp := { s1.sp with k := { s1.sp.k with state := .reset } }
    trc := {}
    held := [] }

theorem commitStandby_eq : commitStandby s = ((((standbyEntered s).wipe (fun a => within a 0x80000000 0x40000)).setFld
    F.CKG_STATUS_CL_LOCK 0).setFld F.CKG_STATUS_MC_LOCK 0).setFld F.CKG_STATUS_LK_LOCK 0 := rfl

theorem standbyEntered_holds : (standbyEntered s).pmu.state = .standby ∧ (standbyEntered s).pmu.entering = false ∧
    (standbyEntered s).mc.k.state = .reset ∧ (standbyEntered s).sp.k.state = .reset := by
  unfold standbyEntered
  dsimp only
  exact ⟨rfl, rfl, rfl, rfl⟩

theorem commitStandby_holds : (commitStandby s).pmu.state = .standby ∧ (commitStandby s).pmu.entering = false ∧
    (commitStandby s).mc.k.state = .reset ∧ (commitStandby s).sp.k.state = .reset := by
  have hentered := standbyEntered_holds s
  rw [commitStandby_eq]
  obtain ⟨u, hu⟩ : ∃ u, standbyEntered s = u := ⟨_, rfl⟩
  rw [hu] at hentered ⊢
  simp only [State.setFld_pmu, State.setFld_mc, State.setFld_sp]
  exact hentered

theorem endEntry_reg (b : Nat) (hb : b ≠ R.PMU_DOM_STAT) : (endEntry s).reg b = s.reg b := by
  have hregs : (endEntry s).regs = (s.setFld F.PMU_DOM_STAT_BUSY 0).regs := by
    unfold endEntry
    dsimp only
  rw [State.reg_congr b hregs, State.reg_setFld_ne _ _ _ _ hb]

theorem endEntry_pmu : (endEntry s).pmu = { s.pmu with entering := false, acked := false, goingOff := [], wanted := [] } := by
  unfold endEntry
  dsimp only

theorem stbyRefuse_pmu (code : Nat) : (stbyRefuse s code).pmu = s.pmu := by
  rw [stbyRefuse, State.setFld_pmu, State.setFld_pmu]

theorem endEntry_refused : (endEntry (stbyRefuse s 3)).pmu.entering = false ∧ (endEntry (stbyRefuse s 3)).pmu.state = s.pmu.state ∧
    (endEntry (stbyRefuse s 3)).flag F.PMU_STBY_STAT_REFUSED = true ∧ (endEntry (stbyRefuse s 3)).fld F.PMU_STBY_STAT_RCODE = 3 := by
  have hreg : (endEntry (stbyRefuse s 3)).reg R.PMU_STBY_STAT = (stbyRefuse s 3).reg R.PMU_STBY_STAT :=
    endEntry_reg _ _ (by decide)
  refine ⟨by rw [endEntry_pmu], by rw [endEntry_pmu, stbyRefuse_pmu], ?_, ?_⟩
  · rw [State.flag_congr (f := F.PMU_STBY_STAT_REFUSED) hreg, stbyRefuse, State.flag_setFld_apart _ _ _ _ (by decide) (by decide)]
    exact s.flag_setFld_one F.PMU_STBY_STAT_REFUSED (by decide) rfl
  · rw [State.fld_congr (f := F.PMU_STBY_STAT_RCODE) hreg]
    exact State.fld_setFld _ F.PMU_STBY_STAT_RCODE 3 (by decide)

/-! ### Wake sources (R449, R450) -/

theorem exec_standbyWake (k : Fin 32) : exec (.standbyWake k) s = .next (wakeOn (aonEvent s k.val) k.val) := rfl

theorem wakeOn_unlatched (k : Nat) (h : wakeLatched s k = false) : wakeOn s k = s := if_pos (by simp [h])

theorem wakeOn_aborts (k : Nat) (h : wakeLatched s k = true) (he : s.pmu.entering = true) :
    wakeOn s k = pmuEvent (endEntry (s.setFld F.PMU_STBY_STAT_ABORTED 1)) 4 := by
  rw [wakeOn, if_neg (by simp [h]), if_pos he]

theorem wakeOn_leaves (k : Nat) (h : wakeLatched s k = true) (he : s.pmu.entering = false) (hs : s.pmu.state = .standby) :
    wakeOn s k = leaveStandby s k := by
  rw [wakeOn, if_neg (by simp [h]), if_neg (by simp [he]), if_pos hs]

theorem aborted_holds : (pmuEvent (endEntry (s.setFld F.PMU_STBY_STAT_ABORTED 1)) 4).pmu.entering = false ∧
    (pmuEvent (endEntry (s.setFld F.PMU_STBY_STAT_ABORTED 1)) 4).flag F.PMU_STBY_STAT_ABORTED = true := by
  have hend : (endEntry (s.setFld F.PMU_STBY_STAT_ABORTED 1)).reg R.PMU_STBY_STAT = (s.setFld F.PMU_STBY_STAT_ABORTED 1).reg R.PMU_STBY_STAT :=
    endEntry_reg _ _ (by decide)
  refine ⟨?_, ?_⟩
  · rw [(pmuEvent_only _ 4).pmu_eq, endEntry_pmu]
  · rw [State.flag_congr (pmuEvent_reg _ 4 _ (by decide) (by decide)), State.flag_congr (f := F.PMU_STBY_STAT_ABORTED) hend]
    exact s.flag_setFld_one F.PMU_STBY_STAT_ABORTED (by decide) rfl

end

/-! ### Frames of the engines' and the trace's parts -/

/-- Only engines and the stores that they leave behind change. -/
def State.onlyEngines (s t : State) : Prop := ∃ l o, t = { s with les := l, orphans := o }

namespace State.onlyEngines
variable {s t u : State}

theorem self (s : State) : s.onlyEngines s := ⟨s.les, s.orphans, rfl⟩

theorem trans (h : s.onlyEngines t) (k : t.onlyEngines u) : s.onlyEngines u := by
  obtain ⟨l, o, rfl⟩ := h
  obtain ⟨l', o', rfl⟩ := k
  exact ⟨l', o', rfl⟩

theorem eachNat {f : State → Nat → State} (h : ∀ t k, State.onlyEngines t (f t k)) (s : State) (l : List Nat) :
    s.onlyEngines (Machine.eachNat f s l) := by
  induction l generalizing s with
  | nil => exact self s
  | cons k l ih => exact (h s k).trans (ih (f s k))

end State.onlyEngines

theorem resetLeAll_only (s : State) (n : Nat) (st : ProcState) : s.onlyEngines (resetLeAll s n st) := ⟨_, _, rfl⟩

/-! ### A domain that has come on (R445, R446) -/

/-- The domain's supply is on and its memory is blank. -/
def domainSupplied (s : State) (d : Nat) : State :=
  let s1 := ((s.wipe (domByte d)).setRegBit R.PMU_DOM_STAT d true).setRegBit R.PMU_DOM_STAT (8 + d) false
  lightNow { s1 with pmu := { s1.pmu with comingOn := dropFrom s1.pmu.comingOn d } }

/-- The engines of a cluster reset, and the cluster without an image where a plan is in force. -/
def clusterUp (s : State) (d : Nat) : State :=
  let s3 := eachNat (fun t n => resetLeAll t n .reset) s (clusterEngines d)
  if s3.plan.isSome then { s3 with unloaded := addTo s3.unloaded d } else s3

theorem domainUp_eq (s : State) (d : Nat) : domainUp s d = if d < 4 then trcUp (clusterUp (domainSupplied s d) d) d else domainSupplied s d := rfl

section
variable (s : State) (d : Nat)

theorem lightNow_only : s.onlyRegs (lightNow s) := s.onlyRegs_setFld _ _

theorem lightNow_reg (b : Nat) (hb : b ≠ R.PMU_STATE) : (lightNow s).reg b = s.reg b := s.reg_setFld_ne _ _ _ hb

theorem dropFrom_has (l : List Nat) : has (dropFrom l d) d = false := by
  rw [Bool.eq_false_iff]
  intro h
  have hmem := (has_iff _ _).mp h
  rw [dropFrom, List.mem_filter] at hmem
  exact of_decide_eq_true hmem.2 rfl

theorem onlyRegs_held {s t : State} (h : s.onlyRegs t) : t.held = s.held ∧ t.plan = s.plan ∧ t.unloaded = s.unloaded := by
  obtain ⟨r, rfl⟩ := h
  exact ⟨rfl, rfl, rfl⟩

theorem onlyRegsTrace_held {s t : State} (h : s.onlyRegsTrace t) : t.held = s.held ∧ t.plan = s.plan ∧ t.unloaded = s.unloaded := by
  obtain ⟨r, x, rfl⟩ := h
  exact ⟨rfl, rfl, rfl⟩

/-- The supply's own effect on the rest of the state. -/
theorem domainSupplied_rest : (domainSupplied s d).held = s.held ∧ (domainSupplied s d).plan = s.plan ∧
    (domainSupplied s d).mem = (s.wipe (domByte d)).mem ∧ (domainSupplied s d).pmu.comingOn = dropFrom s.pmu.comingOn d := by
  have hbits := State.onlyRegs_trans ((s.wipe (domByte d)).onlyRegs_setRegBit R.PMU_DOM_STAT d true)
    (State.onlyRegs_setRegBit _ R.PMU_DOM_STAT (8 + d) false)
  obtain ⟨u, hu⟩ : ∃ u, ((s.wipe (domByte d)).setRegBit R.PMU_DOM_STAT d true).setRegBit R.PMU_DOM_STAT (8 + d) false = u := ⟨_, rfl⟩
  rw [hu] at hbits
  have hsupplied : domainSupplied s d = lightNow { u with pmu := { u.pmu with comingOn := dropFrom u.pmu.comingOn d } } := by
    rw [domainSupplied, hu]
  have hlight := lightNow_only { u with pmu := { u.pmu with comingOn := dropFrom u.pmu.comingOn d } }
  obtain ⟨hheld, hplan, -⟩ := onlyRegs_held hlight
  obtain ⟨hheld', hplan', -⟩ := onlyRegs_held hbits
  have hpmu : u.pmu = s.pmu := hbits.pmu_eq
  rw [hsupplied]
  refine ⟨hheld.trans hheld', hplan.trans hplan', hlight.mem_eq.trans hbits.mem_eq, ?_⟩
  rw [hlight.pmu_eq, hpmu]

theorem domainSupplied_reg (b : Nat) (hb : b ≠ R.PMU_STATE) : (domainSupplied s d).reg b =
    (((s.wipe (domByte d)).setRegBit R.PMU_DOM_STAT d true).setRegBit R.PMU_DOM_STAT (8 + d) false).reg b := by
  unfold domainSupplied
  dsimp only
  rw [lightNow_reg _ b hb]
  exact State.reg_congr b rfl

theorem domainSupplied_powered (hd : d < 8) : (domainSupplied s d).powered d = true := by
  rw [powered_eq _ d hd, State.regBit_congr d (domainSupplied_reg s d _ (by decide)), State.regBit_setRegBit_ne _ _ _ _ _ (by omega) (by omega)]
  exact State.regBit_setRegBit_same _ _ _ _ (by omega)

theorem clusterUp_held : (clusterUp s d).held = s.held := by
  obtain ⟨l, o, h⟩ := State.onlyEngines.eachNat (fun t n => resetLeAll_only t n .reset) s (clusterEngines d)
  unfold clusterUp
  dsimp only
  rw [h]
  split <;> rfl

theorem clusterUp_unloaded (hp : s.plan.isSome = true) : has (clusterUp s d).unloaded d = true := by
  obtain ⟨l, o, h⟩ := State.onlyEngines.eachNat (fun t n => resetLeAll_only t n .reset) s (clusterEngines d)
  unfold clusterUp
  dsimp only
  rw [h]
  dsimp only
  rw [if_pos hp]
  exact has_addTo_same _ _

theorem domainUp_cluster (hd : d < 4) : domainUp s d = trcUp (clusterUp (domainSupplied s d) d) d := by rw [domainUp_eq, if_pos hd]

theorem domainUp_block (hd : 4 ≤ d) : domainUp s d = domainSupplied s d := by rw [domainUp_eq, if_neg (by omega)]

theorem domainUp_held : (domainUp s d).held = s.held := by
  obtain ⟨hheld, -, -, -⟩ := domainSupplied_rest s d
  rw [domainUp_eq]
  split
  · exact (onlyRegsTrace_held (trcEmit_only _ _ _)).1.trans ((clusterUp_held _ d).trans hheld)
  · exact hheld

theorem domainUp_unloaded (hd : d < 4) (hp : s.plan.isSome = true) : has (domainUp s d).unloaded d = true := by
  obtain ⟨-, hplan, -, -⟩ := domainSupplied_rest s d
  have hunloaded : (trcUp (clusterUp (domainSupplied s d) d) d).unloaded = (clusterUp (domainSupplied s d) d).unloaded :=
    (onlyRegsTrace_held (trcEmit_only _ _ _)).2.2
  rw [domainUp_cluster s d hd, hunloaded]
  exact clusterUp_unloaded _ d (by rw [hplan, hp])

/-- A block's domain holds no byte that its supply takes. -/
theorem domByte_block (hd : 4 ≤ d) (a : Nat) : domByte d a = false := by
  rw [domByte, decide_eq_false (by omega), Bool.false_and]

theorem wipe_nothing (p : Nat → Bool) (h : ∀ a, p a = false) : (s.wipe p).mem = s.mem := by
  show SMap.erase p s.mem = s.mem
  rw [SMap.erase, List.filter_eq_self]
  intro e _
  rw [h]
  rfl

theorem domainUp_rows (hd : 4 ≤ d) (hd' : d < 8) : (domainUp s d).powered d = true ∧ has (domainUp s d).pmu.comingOn d = false ∧
    (domainUp s d).mem = s.mem := by
  obtain ⟨-, -, hmem, hcoming⟩ := domainSupplied_rest s d
  rw [domainUp_block s d hd]
  refine ⟨domainSupplied_powered s d hd', ?_, hmem.trans (wipe_nothing s _ (domByte_block d hd))⟩
  rw [hcoming]
  exact dropFrom_has d _

/-! ### Held accesses served (R444, R445) -/

theorem with_held_nil (h : s.held = []) : { s with held := [] } = s := by
  rw [← h]

theorem serveHeld_nil : serveHeld s d [] = s := rfl

theorem serveHeld_one (h : HeldAcc) (ha : domainOf h.addr = some d) : serveHeld s d [h] = serveOne s h := by
  rw [serveHeld, if_pos ha, serveHeld_nil]

end

section
variable (d : Fin 8) (s : State)

theorem exec_domainOnEnd (h : has s.pmu.comingOn d.val = true) : exec (.domainOnEnd d) s =
    .next (stbyNext (serveHeld { domainUp s d.val with held := [] } d.val (domainUp s d.val).held)) := if_pos h

theorem exec_domainOnEnd_none (h : has s.pmu.comingOn d.val = false) : exec (.domainOnEnd d) s = .next s := if_neg (Bool.eq_false_iff.mp h)

theorem exec_domainOnEnd_free (h : has s.pmu.comingOn d.val = true) (hh : s.held = []) :
    exec (.domainOnEnd d) s = .next (stbyNext (domainUp s d.val)) := by
  have hheld := (domainUp_held s d.val).trans hh
  rw [exec_domainOnEnd d s h, hheld, serveHeld_nil, with_held_nil _ hheld]

theorem exec_domainOnEnd_one (h : has s.pmu.comingOn d.val = true) (x : HeldAcc) (hh : s.held = [x]) (hx : domainOf x.addr = some d.val) :
    exec (.domainOnEnd d) s = .next (stbyNext (serveOne { domainUp s d.val with held := [] } x)) := by
  have hheld := (domainUp_held s d.val).trans hh
  rw [exec_domainOnEnd d s h, hheld, serveHeld_one _ _ _ hx]

theorem exec_domainOffEnd (h : offReady s d.val = true) : exec (.domainOffEnd d) s = .next (stbyNext (domainOff s d.val)) := if_pos h

theorem exec_domainOffEnd_none (h : offReady s d.val = false) : exec (.domainOffEnd d) s = .next s := if_neg (Bool.eq_false_iff.mp h)

theorem offReady_staying (h : has s.pmu.goingOff d.val = false) : offReady s d.val = false := by rw [offReady, h]; rfl

end

/-- A cluster drains while one of its engines holds a store. -/
theorem offReady_cluster (c : Fin 4) (s : State) (hg : has s.pmu.goingOff c.val = true) :
    offReady s c.val = true ↔ ∀ n, 16 * c.val ≤ n → n < 16 * c.val + 16 → (s.le n).k.buf = [] := by
  have hready : offReady s c.val = !draining s c.val := by
    have h7 : c.val ≠ 7 := by omega
    rw [offReady, hg, decide_eq_true h7, Bool.true_or, Bool.true_and, Bool.and_true]
  have hdrain : draining s c.val = (clusterEngines c.val).any (fun n => decide ((s.le n).k.buf ≠ [])) := by
    rw [draining, decide_eq_true c.isLt, Bool.true_and]
  rw [hready, hdrain, Bool.not_eq_true', List.any_eq_false]
  constructor
  · intro h n hlo hhi
    have hmem : n ∈ clusterEngines c.val := List.mem_map.mpr ⟨n - 16 * c.val, List.mem_range.mpr (by omega), by omega⟩
    have hempty := h n hmem
    rwa [decide_eq_true_eq, not_not] at hempty
  · intro h n hmem
    obtain ⟨i, hi, rfl⟩ := List.mem_map.mp hmem
    have hi' := List.mem_range.mp hi
    rw [decide_eq_true_eq, not_not]
    exact h _ (by omega) (by omega)

/-! ### A domain that has gone off (R441, R443, R446) -/

/-- The supply taken, before the domain is asked for again. -/
def supplyTaken (s : State) (d : Nat) : State :=
  let s2 := (s.setRegBit R.PMU_DOM_STAT d false).setRegBit R.PMU_DOM_STAT (8 + d) false
  lightNow { s2 with pmu := { s2.pmu with goingOff := dropFrom s2.pmu.goingOff d, wanted := dropFrom s2.pmu.wanted d } }

/-- What the loss of the supply takes, after the cluster's trace. -/
def domainLoses (s : State) (d : Nat) : State := domainLost (if d < 4 then trcDown s d else s) d

theorem domainOff_eq (s : State) (d : Nat) : domainOff s d = if has (domainLoses s d).pmu.wanted d
    then startOn (supplyTaken (domainLoses s d) d) d else supplyTaken (domainLoses s d) d := by
  obtain ⟨lost, hlost⟩ : ∃ f, domainLost = f := ⟨_, rfl⟩
  unfold domainOff domainLoses supplyTaken
  rw [hlost]
  rfl

theorem domainOff_cases (s : State) (d : Nat) :
    domainOff s d = startOn (supplyTaken (domainLoses s d) d) d ∨ domainOff s d = supplyTaken (domainLoses s d) d := by
  rw [domainOff_eq]
  split
  · exact .inl rfl
  · exact .inr rfl

section
variable (s : State) (d : Nat)

theorem supplyTaken_off (hd : d < 8) : (supplyTaken s d).powered d = false := by
  have hreg : (supplyTaken s d).reg R.PMU_DOM_STAT =
      ((s.setRegBit R.PMU_DOM_STAT d false).setRegBit R.PMU_DOM_STAT (8 + d) false).reg R.PMU_DOM_STAT := by
    unfold supplyTaken
    dsimp only
    rw [lightNow_reg _ _ (by decide)]
    exact State.reg_congr _ rfl
  rw [powered_eq _ d hd, State.regBit_congr d hreg, State.regBit_setRegBit_ne _ _ _ _ _ (by omega) (by omega)]
  exact State.regBit_setRegBit_same _ _ _ _ (by omega)

theorem startOn_powered (hd : d < 8) : (startOn s d).powered d = s.powered d := by
  have hregs : (startOn s d).regs = ((s.setRegBit R.PMU_DOM_CTRL d true).setRegBit R.PMU_DOM_STAT (8 + d) true).regs := by
    unfold startOn
    dsimp only
  rw [powered_eq _ d hd, powered_eq _ d hd, State.regBit_congr d (State.reg_congr _ hregs),
    State.regBit_setRegBit_ne _ _ _ _ _ (by omega) (by omega)]
  exact State.regBit_congr d (s.reg_setRegBit_ne _ _ _ _ domReg_apart.symm)

theorem domainOff_powered (hd : d < 8) : (domainOff s d).powered d = false := by
  rcases domainOff_cases s d with h | h
  · rw [h, startOn_powered _ d hd, supplyTaken_off _ d hd]
  · rw [h, supplyTaken_off _ d hd]

theorem supplyTaken_mem : (supplyTaken s d).mem = s.mem := by
  have hbits := State.onlyRegs_trans (s.onlyRegs_setRegBit R.PMU_DOM_STAT d false) (State.onlyRegs_setRegBit _ R.PMU_DOM_STAT (8 + d) false)
  unfold supplyTaken
  dsimp only
  rw [(lightNow_only _).mem_eq]
  exact hbits.mem_eq

theorem startOn_mem : (startOn s d).mem = s.mem := by
  unfold startOn
  dsimp only
  exact (State.onlyRegs_trans (s.onlyRegs_setRegBit R.PMU_DOM_CTRL d true) (State.onlyRegs_setRegBit _ R.PMU_DOM_STAT (8 + d) true)).mem_eq

theorem domainOff_mem : (domainOff s d).mem = (domainLoses s d).mem := by
  rcases domainOff_cases s d with h | h
  · rw [h, startOn_mem, supplyTaken_mem]
  · rw [h, supplyTaken_mem]

theorem trcByte_mem (b : Byte) :
    (trcByte s b).mem = (s.setByte (trcBase + s.fld F.TRC_WPTR_OFS) b).mem ∨ (trcByte s b).mem = s.mem := by
  unfold trcByte
  dsimp only
  split
  · refine .inl ?_
    split
    · rw [State.setFld_mem]
    · rw [State.setFld_mem]
  · exact .inr rfl

/-- A byte of trace lies in the trace memory. -/
theorem trcByte_out (b : Byte) (a : Nat) (h : within a trcBase trcSize = false) : (trcByte s b).byte a = s.byte a := by
  have hofs : s.fld F.TRC_WPTR_OFS < trcSize := s.fld_lt F.TRC_WPTR_OFS
  have hne : a ≠ trcBase + s.fld F.TRC_WPTR_OFS := by
    intro heq
    have hin : within a trcBase trcSize = true := by
      rw [within, heq, decide_eq_true (Nat.le_add_right _ _), decide_eq_true (Nat.add_lt_add_left hofs _), Bool.and_self]
    rw [hin] at h
    cases h
  rcases trcByte_mem s b with hmem | hmem
  · exact (State.byte_congr hmem a).trans (s.byte_setByte_ne _ _ _ hne)
  · exact State.byte_congr hmem a

theorem trcBytes_out (l : List Byte) (a : Nat) (h : within a trcBase trcSize = false) : (trcBytes s l).byte a = s.byte a := by
  induction l generalizing s with
  | nil => rfl
  | cons b l ih => exact (ih _).trans (trcByte_out s b a h)

theorem trcDown_out (src a : Nat) (h : within a trcBase trcSize = false) : (trcDown s src).byte a = s.byte a := by
  unfold trcDown trcFlush
  rw [trcBytes_out _ _ a h]
  exact State.byte_congr (trcEmit_only s src _).mem_eq a

theorem evalLost_mem (n : Nat) : (evalLost s n).mem = s.mem := by
  unfold evalLost
  split
  · split <;> rfl
  · rfl

theorem clusterOff_mem (c : Nat) : (clusterOff s c).mem = s.mem := by
  unfold clusterOff
  generalize clusterEngines c = l
  induction l generalizing s with
  | nil => rfl
  | cons n l ih => exact (ih _).trans (evalLost_mem s n)

theorem sensorsOff_mem (c : Nat) : (sensorsOff s c).mem = s.mem := by
  unfold sensorsOff
  dsimp only
  rw [State.setFld_mem, State.setFld_mem, State.setFld_mem]
  exact State.setReg_mem _ _ _

theorem define_mem (a n : Nat) : (s.define a n).mem = s.mem := by
  unfold State.define
  split <;> rfl

/-- A cluster's loss leaves every byte that is not its own. -/
theorem domainLost_cluster (hd : d < 4) (a : Nat) (h : domByte d a = false) : (domainLost s d).byte a = s.byte a := by
  obtain ⟨u, hu⟩ : ∃ u : State, { s.wipe (domByte d) with
      ecc1 := (s.wipe (domByte d)).ecc1.filter (fun a => !domByte d a)
      ecc2 := (s.wipe (domByte d)).ecc2.filter (fun a => !domByte d a) } = u := ⟨_, rfl⟩
  have hlost : domainLost s d = sensorsOff (clusterOff (loadLost (u.define (csmBase d) 0x100000) d) d) d := by
    rw [domainLost, if_pos hd, hu]
  have hmem : (domainLost s d).mem = u.mem := by
    rw [hlost, sensorsOff_mem, clusterOff_mem]
    exact define_mem u _ _
  rw [State.byte_congr hmem a, ← hu]
  exact s.byte_wipe_out _ a h

theorem domainOff_byte (hd : d < 4) (a : Nat) (h : domByte d a = false) (ht : within a trcBase trcSize = false) :
    (domainOff s d).byte a = s.byte a := by
  rw [State.byte_congr (domainOff_mem s d) a, domainLoses, if_pos hd, domainLost_cluster _ d hd a h, trcDown_out s d a ht]

end

/-! ### Loss of the main supply (R441) -/

/-- What the loss cuts short, before the state is cleared. -/
def supplyCut (s : State) : State := pflCut (jCut (if s.saving then saveCut s else s))

theorem exec_mainSupplyLoss (s : State) : exec .mainSupplyLoss s = .next { scopeClear (supplyCut s) 1 false with
    rst := { (scopeClear (supplyCut s) 1 false).rst with supplyOut := true }
    pmu := { (scopeClear (supplyCut s) 1 false).pmu with state := .backup } } := rfl

theorem scopeClear_plan (s : State) (scope : Nat) (exit : Bool) : (scopeClear s scope exit).plan = none := by
  unfold scopeClear
  dsimp only

/-! ### The adaptive supply (R452 to R455) -/

section
variable (s : State)

theorem exec_avsTargetWrite (mv : BitVec 10) : exec (.avsTargetWrite mv) s = .next (avsTargetWrite s mv.toNat) := rfl

theorem avsTargetWrite_owned (mv : Nat) (h : s.flag F.PMU_AVS_CFG_OWNER = true) : avsTargetWrite s mv = s.setFld F.PMU_AVS_STAT_IGN 1 := if_pos h

theorem avsTargetWrite_free (mv : Nat) (h : s.flag F.PMU_AVS_CFG_OWNER = false) : avsTargetWrite s mv = avsTarget s mv :=
  if_neg (Bool.eq_false_iff.mp h)

theorem avsTarget_outside (mv : Nat) (h : mv < s.fld F.PMU_AVS_LIM_MIN ∨ s.fld F.PMU_AVS_LIM_MAX < mv) :
    avsTarget s mv = s.setFld F.PMU_AVS_STAT_IGN 1 := if_pos h

/-- The target in its register. -/
def targetSet (mv : Nat) : State := s.setFld F.PMU_AVS_TGT_MV mv

theorem avsTarget_inside (mv : Nat) (hlo : s.fld F.PMU_AVS_LIM_MIN ≤ mv) (hhi : mv ≤ s.fld F.PMU_AVS_LIM_MAX) : avsTarget s mv =
    if (targetSet s mv).flag F.PMU_AVS_CFG_EN && (targetSet s mv).pmu.step.isNone then avsNext (targetSet s mv) else targetSet s mv := by
  rw [avsTarget, if_neg (by omega)]
  rfl

theorem targetSet_reg (mv b : Nat) (hb : b ≠ R.PMU_AVS_TGT) : (targetSet s mv).reg b = s.reg b := s.reg_setFld_ne _ _ _ hb

theorem targetSet_mv (mv : Nat) (hmv : mv < 1024) : (targetSet s mv).fld F.PMU_AVS_TGT_MV = mv := by
  rw [targetSet, State.fld_setFld _ _ _ (by decide)]
  exact Nat.mod_eq_of_lt hmv

theorem targetSet_pmu (mv : Nat) : (targetSet s mv).pmu = s.pmu := State.setFld_pmu _ _ _

/-- The step from a voltage towards the target. -/
def stepToward (now goal : Nat) : Nat := if now < goal then min goal (now + 10) else max goal (now - 10)

/-- A step begun: `BUSY`, and the step with its command sent. -/
def stepBegun (next : Nat) : State :=
  avsSend { s.setFld F.PMU_AVS_STAT_BUSY 1 with pmu := { s.pmu with step := some next, repeated := false, misses := 0 } } next

/-- The target reached. -/
def targetReached : State :=
  { s.setFld F.PMU_AVS_STAT_BUSY 0 with pmu := { s.pmu with step := none, repeated := false, misses := 0 } }

theorem avsNext_eq : avsNext s = if s.fld F.PMU_AVS_STAT_MV = s.fld F.PMU_AVS_TGT_MV then targetReached s
    else stepBegun s (stepToward (s.fld F.PMU_AVS_STAT_MV) (s.fld F.PMU_AVS_TGT_MV)) := rfl

theorem stepBegun_regs (next : Nat) : (stepBegun s next).regs = (s.setFld F.PMU_AVS_STAT_BUSY 1).regs := by
  unfold stepBegun avsSend
  dsimp only

theorem targetReached_regs : (targetReached s).regs = (s.setFld F.PMU_AVS_STAT_BUSY 0).regs := by
  unfold targetReached
  dsimp only

theorem stepBegun_busy (next : Nat) : (stepBegun s next).flag F.PMU_AVS_STAT_BUSY = true := by
  rw [State.flag_congr (State.reg_congr _ (stepBegun_regs s next))]
  exact s.flag_setFld_one F.PMU_AVS_STAT_BUSY (by decide) rfl

theorem stepBegun_step (next : Nat) : (stepBegun s next).pmu.step = some next := by
  unfold stepBegun avsSend
  dsimp only

theorem avsExp_congr {s t : State} (h : t.reg R.PMU_AVS_CFG = s.reg R.PMU_AVS_CFG) : avsExp t = avsExp s := by
  rw [avsExp, avsExp, State.fld_congr (f := F.PMU_AVS_CFG_EXP) h]

theorem avsSend_sent (mv : Nat) : (avsSend s mv).pmu.sent = some (voutWord mv (avsExp s) % 65536, s.flag F.PMU_AVS_CFG_PEC) := rfl

theorem stepBegun_sent (next : Nat) :
    (stepBegun s next).pmu.sent = some (voutWord next (avsExp s) % 65536, s.flag F.PMU_AVS_CFG_PEC) := by
  have hcfg : (s.setFld F.PMU_AVS_STAT_BUSY 1).reg R.PMU_AVS_CFG = s.reg R.PMU_AVS_CFG := s.reg_setFld_ne _ _ _ (by decide)
  obtain ⟨u, hu⟩ : ∃ u, s.setFld F.PMU_AVS_STAT_BUSY 1 = u := ⟨_, rfl⟩
  rw [hu] at hcfg
  have hreg : State.reg { u with pmu := { s.pmu with step := some next, repeated := false, misses := 0 } } R.PMU_AVS_CFG = s.reg R.PMU_AVS_CFG :=
    (State.reg_congr _ rfl).trans hcfg
  rw [stepBegun, hu, avsSend_sent, avsExp_congr hreg, State.flag_congr (f := F.PMU_AVS_CFG_PEC) hreg]

theorem avsNext_tgt (h : R.PMU_AVS_TGT ≠ R.PMU_AVS_STAT) : (avsNext s).fld F.PMU_AVS_TGT_MV = s.fld F.PMU_AVS_TGT_MV := by
  refine State.fld_congr ?_
  rw [avsNext_eq]
  split
  · rw [State.reg_congr _ (targetReached_regs s), State.reg_setFld_ne _ _ _ _ h]
  · rw [State.reg_congr _ (stepBegun_regs s _), State.reg_setFld_ne _ _ _ _ h]

theorem avsTarget_mv (mv : Nat) (hmv : mv < 1024) (hlo : s.fld F.PMU_AVS_LIM_MIN ≤ mv) (hhi : mv ≤ s.fld F.PMU_AVS_LIM_MAX) :
    (avsTarget s mv).fld F.PMU_AVS_TGT_MV = mv := by
  rw [avsTarget_inside s mv hlo hhi]
  split
  · rw [avsNext_tgt _ (by decide), targetSet_mv s mv hmv]
  · exact targetSet_mv s mv hmv

/-- With no step in progress the first step towards the target begins. -/
theorem avsTarget_begins (mv : Nat) (hmv : mv < 1024) (hlo : s.fld F.PMU_AVS_LIM_MIN ≤ mv) (hhi : mv ≤ s.fld F.PMU_AVS_LIM_MAX)
    (hen : s.flag F.PMU_AVS_CFG_EN = true) (hstep : s.pmu.step = none) (hne : s.fld F.PMU_AVS_STAT_MV ≠ mv) :
    avsTarget s mv = stepBegun (targetSet s mv) (stepToward (s.fld F.PMU_AVS_STAT_MV) mv) := by
  have hnow : (targetSet s mv).fld F.PMU_AVS_STAT_MV = s.fld F.PMU_AVS_STAT_MV := State.fld_congr (targetSet_reg s mv _ (by decide))
  have hrun : ((targetSet s mv).flag F.PMU_AVS_CFG_EN && (targetSet s mv).pmu.step.isNone) = true := by
    rw [State.flag_congr (targetSet_reg s mv _ (by decide)), hen, targetSet_pmu, hstep]
    rfl
  rw [avsTarget_inside s mv hlo hhi, if_pos hrun, avsNext_eq, hnow, targetSet_mv s mv hmv, if_neg hne]

theorem stepToward_up {now goal : Nat} (h : now < goal) : stepToward now goal = min goal (now + 10) := if_pos h

theorem stepToward_down {now goal : Nat} (h : goal < now) : stepToward now goal = max goal (now - 10) := if_neg (by omega)

theorem avsTarget_sent (mv next : Nat) : (stepBegun (targetSet s mv) next).pmu.sent =
    some (voutWord next (avsExp s) % 65536, s.flag F.PMU_AVS_CFG_PEC) := by
  have hcfg := targetSet_reg s mv R.PMU_AVS_CFG (by decide)
  rw [stepBegun_sent, avsExp_congr hcfg, State.flag_congr (f := F.PMU_AVS_CFG_PEC) hcfg]

theorem avsRows (mv : BitVec 10) (hown : s.flag F.PMU_AVS_CFG_OWNER = false) (hlo : s.fld F.PMU_AVS_LIM_MIN ≤ mv.toNat)
    (hhi : mv.toNat ≤ s.fld F.PMU_AVS_LIM_MAX) :
    ∃ t, exec (.avsTargetWrite mv) s = .next t ∧ t.fld F.PMU_AVS_TGT_MV = mv.toNat ∧
      (s.flag F.PMU_AVS_CFG_EN = true → s.pmu.step = none → s.fld F.PMU_AVS_STAT_MV < mv.toNat →
        t.pmu.step = some (min mv.toNat (s.fld F.PMU_AVS_STAT_MV + 10)) ∧
        t.pmu.sent = some (voutWord (min mv.toNat (s.fld F.PMU_AVS_STAT_MV + 10)) (avsExp s) % 65536, s.flag F.PMU_AVS_CFG_PEC) ∧
        t.flag F.PMU_AVS_STAT_BUSY = true) ∧
      (s.flag F.PMU_AVS_CFG_EN = true → s.pmu.step = none → mv.toNat < s.fld F.PMU_AVS_STAT_MV →
        t.pmu.step = some (max mv.toNat (s.fld F.PMU_AVS_STAT_MV - 10)) ∧ t.flag F.PMU_AVS_STAT_BUSY = true) := by
  have hmv := mv.isLt
  refine ⟨avsTarget s mv.toNat, by rw [exec_avsTargetWrite, avsTargetWrite_free s _ hown], avsTarget_mv s _ hmv hlo hhi,
    fun hen hstep hup => ?_, fun hen hstep hdown => ?_⟩
  · rw [avsTarget_begins s _ hmv hlo hhi hen hstep (by omega), stepToward_up hup]
    exact ⟨stepBegun_step _ _, avsTarget_sent s _ _, stepBegun_busy _ _⟩
  · rw [avsTarget_begins s _ hmv hlo hhi hen hstep (by omega), stepToward_down hdown]
    exact ⟨stepBegun_step _ _, stepBegun_busy _ _⟩

/-! ### The end of a step (R453, R455) -/

/-- The failure told, the monitor of the supply off. -/
def errorShown (code : Nat) : State :=
  (((s.setFld F.PMU_AVS_STAT_ERR 1).setFld F.PMU_AVS_STAT_ECODE code).setFld F.PMU_AVS_CFG_EN 0).setFld F.PMU_AVS_STAT_BUSY 0

theorem avsError_eq (code : Nat) : avsError s code = pmuEvent (rungStops (errorShown s code)) 1 := rfl

theorem avsFail_again (code : Nat) (h : s.pmu.repeated = true) : avsFail s code = avsError s code := if_pos h

theorem avsFail_repeats (code v : Nat) (h : s.pmu.repeated = false) (hv : s.pmu.step = some v) :
    avsFail s code = avsSend { s with pmu := { s.pmu with repeated := true, misses := 0 } } v := by
  rw [avsFail, if_neg (Bool.eq_false_iff.mp h), hv, Option.getD_some]

theorem rungStops_pmu : (rungStops s).pmu = { s.pmu with step := none, repeated := false, misses := 0 } := rfl

theorem rungStops_reg (b : Nat) : (rungStops s).reg b = s.reg b := State.reg_congr b rfl

theorem errorShown_pmu (code : Nat) : (errorShown s code).pmu = s.pmu := by
  rw [errorShown, State.setFld_pmu, State.setFld_pmu, State.setFld_pmu, State.setFld_pmu]

theorem avsError_pmu (code : Nat) : (avsError s code).pmu = { s.pmu with step := none, repeated := false, misses := 0 } := by
  rw [avsError_eq, (pmuEvent_only _ 1).pmu_eq, rungStops_pmu, errorShown_pmu]

theorem avsError_reg (code b : Nat) (hb : b < 0x40004100) : (avsError s code).reg b = (errorShown s code).reg b := by
  rw [avsError_eq, pmuEvent_reg _ 1 b (by decide) (.inl hb), rungStops_reg]

theorem avsError_holds (code : Nat) (hcode : code < 16) : (avsError s code).flag F.PMU_AVS_STAT_ERR = true ∧
    (avsError s code).fld F.PMU_AVS_STAT_ECODE = code ∧ (avsError s code).flag F.PMU_AVS_CFG_EN = false := by
  refine ⟨?_, ?_, ?_⟩
  · rw [State.flag_congr (avsError_reg s code _ (by decide)), errorShown, State.flag_setFld_apart _ _ _ _ (by decide) (by decide),
      State.flag_setFld_apart _ _ _ _ (by decide) (by decide), State.flag_setFld_apart _ _ _ _ (by decide) (by decide)]
    exact s.flag_setFld_one F.PMU_AVS_STAT_ERR (by decide) rfl
  · rw [State.fld_congr (avsError_reg s code _ (by decide)), errorShown, State.fld_setFld_apart _ _ _ _ (by decide) (by decide),
      State.fld_setFld_apart _ _ _ _ (by decide) (by decide), State.fld_setFld _ _ _ (by decide)]
    exact Nat.mod_eq_of_lt hcode
  · rw [State.flag_congr (avsError_reg s code _ (by decide)), errorShown, State.flag_setFld_apart _ _ _ _ (by decide) (by decide)]
    exact State.flag_setFld_zero _ F.PMU_AVS_CFG_EN (by decide)

theorem avsError_powered (code d : Nat) : (avsError s code).powered d = s.powered d := by
  have hreg : (avsError s code).reg R.PMU_DOM_STAT = s.reg R.PMU_DOM_STAT := by
    rw [avsError_reg s code _ (by decide), errorShown, State.reg_setFld_ne _ _ _ _ (by decide), State.reg_setFld_ne _ _ _ _ (by decide),
      State.reg_setFld_ne _ _ _ _ (by decide), State.reg_setFld_ne _ _ _ _ (by decide)]
  rw [State.powered, State.powered, State.fld_congr (f := F.PMU_DOM_STAT_PWR) hreg]

theorem avsError_asked (code : Nat) : stbyAsked (avsError s code) = stbyAsked s := by
  simp only [stbyAsked, avsError_pmu, avsError_powered]

theorem exec_avsSettle_none (r : AvsEnd) (h : s.pmu.step = none) : exec (.avsSettle r) s = .next s := by
  show execAvsSettle r s = _
  rw [execAvsSettle, h]

theorem exec_avsSettle (r : AvsEnd) {v : Nat} (h : s.pmu.step = some v) : exec (.avsSettle r) s =
    .next (if (avsSettle s v r).pmu.acked && stbyAsked (avsSettle s v r) then commitStandby (avsSettle s v r) else avsSettle s v r) := by
  show execAvsSettle r s = _
  rw [execAvsSettle, h]

theorem exec_avsSettle_alone (r : AvsEnd) {v : Nat} {t : State} (h : s.pmu.step = some v) (ht : avsSettle s v r = t)
    (ha : t.pmu.acked = false) : exec (.avsSettle r) s = .next t := by
  rw [exec_avsSettle s r h, ht, ha, Bool.false_and, if_neg Bool.false_ne_true]

theorem avsSettle_nack (v : Nat) : avsSettle s v .nack = avsFail s 1 := rfl

theorem avsSettle_near (v : Nat) (raw : BitVec 16) (h : voutNear raw.toNat v (avsExp s) = true) :
    avsSettle s v (.vout raw) = avsDone (s.setReg R.PMU_AVS_VOUT (word raw.toNat)) v := if_pos h

theorem avsSettle_pec_off (v : Nat) (h : s.flag F.PMU_AVS_CFG_PEC = false) : avsSettle s v .pec = s := if_neg (Bool.eq_false_iff.mp h)

theorem stepBegun_pmu (next : Nat) : ∃ sent, (stepBegun s next).pmu =
    { s.pmu with step := some next, repeated := false, misses := 0, sent := sent } := by
  unfold stepBegun avsSend
  exact ⟨_, rfl⟩

theorem targetReached_pmu : (targetReached s).pmu = { s.pmu with step := none, repeated := false, misses := 0 } := by
  unfold targetReached
  dsimp only

theorem avsNext_acked : (avsNext s).pmu.acked = s.pmu.acked := by
  rw [avsNext_eq]
  split
  · rw [targetReached_pmu]
  · obtain ⟨sent, hsent⟩ := stepBegun_pmu s (stepToward (s.fld F.PMU_AVS_STAT_MV) (s.fld F.PMU_AVS_TGT_MV))
    rw [hsent]

theorem avsDone_acked (v : Nat) : (avsDone s v).pmu.acked = s.pmu.acked := by
  have hnext : (avsNext (s.setFld F.PMU_AVS_STAT_MV v)).pmu.acked = s.pmu.acked := by rw [avsNext_acked, State.setFld_pmu]
  unfold avsDone
  generalize avsNext (s.setFld F.PMU_AVS_STAT_MV v) = u at hnext ⊢
  dsimp only
  split
  · rw [(pmuEvent_only _ 0).pmu_eq]
    exact hnext
  · exact hnext

/-- The rows of a failing step. -/
theorem exec_nack_commits {v : Nat} (h : s.pmu.step = some v) (ha : s.pmu.acked = true) (hs : stbyAsked s = true)
    (hr : s.pmu.repeated = true) : ∃ t, exec (.avsSettle .nack) s = .next t ∧ t.pmu.state = .standby := by
  have hacked : ((avsError s 1).pmu.acked && stbyAsked (avsError s 1)) = true := by rw [avsError_pmu, avsError_asked, hs, ha]; rfl
  refine ⟨commitStandby (avsError s 1), ?_, (commitStandby_holds _).1⟩
  rw [exec_avsSettle s .nack h, avsSettle_nack, avsFail_again s 1 hr, if_pos hacked]

theorem exec_nack_repeats {v : Nat} (h : s.pmu.step = some v) (ha : s.pmu.acked = false) (hr : s.pmu.repeated = false) :
    ∃ t, exec (.avsSettle .nack) s = .next t ∧ t.pmu.repeated = true ∧ t.pmu.step = some v ∧ t.regs = s.regs :=
  ⟨_, exec_avsSettle_alone s .nack h (avsFail_repeats s 1 v hr h) ha, rfl, h, rfl⟩

theorem exec_nack_errs {v : Nat} (h : s.pmu.step = some v) (ha : s.pmu.acked = false) (hr : s.pmu.repeated = true) :
    ∃ t, exec (.avsSettle .nack) s = .next t ∧ t.flag F.PMU_AVS_STAT_ERR = true ∧ t.fld F.PMU_AVS_STAT_ECODE = 1 ∧
      t.flag F.PMU_AVS_CFG_EN = false ∧ t.pmu.step = none := by
  obtain ⟨herr, hcode, hen⟩ := avsError_holds s 1 (by decide)
  have hstep : (avsError s 1).pmu.step = none := by rw [avsError_pmu]
  exact ⟨_, exec_avsSettle_alone s .nack h (avsFail_again s 1 hr) (by rw [avsError_pmu]; exact ha), herr, hcode, hen, hstep⟩

theorem exec_readIoutPoll (raw : BitVec 16) (h : s.flag F.PMU_AVS_CFG_EN = true) :
    exec (.readIoutPoll raw) s = .next (s.setReg R.PMU_AVS_IOUT (word raw.toNat)) := if_pos h

theorem exec_readIoutPoll_off (raw : BitVec 16) (h : s.flag F.PMU_AVS_CFG_EN = false) : exec (.readIoutPoll raw) s = .next s :=
  if_neg (Bool.eq_false_iff.mp h)

/-- The alert's status word kept and told. -/
def alertShown (raw : BitVec 16) : State := (s.setReg R.PMU_AVS_SW (word raw.toNat)).setFld F.PMU_AVS_STAT_ALERT 1

theorem exec_pmbAlert (raw : BitVec 16) : exec (.pmbAlert raw) s = .next (pmuEvent (alertShown s raw) 2) := rfl

theorem alert_holds (raw : BitVec 16) : (pmuEvent (alertShown s raw) 2).reg R.PMU_AVS_SW = word raw.toNat ∧
    (pmuEvent (alertShown s raw) 2).flag F.PMU_AVS_STAT_ALERT = true ∧ (pmuEvent (alertShown s raw) 2).mem = s.mem := by
  refine ⟨?_, ?_, ?_⟩
  · rw [pmuEvent_reg _ 2 _ (by decide) (by decide), alertShown, State.reg_setFld_ne _ _ _ _ (by decide), State.reg_setReg]
  · rw [State.flag_congr (pmuEvent_reg _ 2 _ (by decide) (by decide))]
    exact State.flag_setFld_one _ F.PMU_AVS_STAT_ALERT (by decide) rfl
  · rw [(pmuEvent_only _ 2).mem_eq, alertShown, State.setFld_mem]
    exact State.setReg_mem _ _ _

end

/-! ### The statement -/

/-- The switching on of a domain that is going off: noted, to begin when the switch-off has ended. -/
theorem switchOn_wanting (d : Fin 8) (s : State) (hg : has s.pmu.goingOff d.val = true) :
    ∃ t, exec (.domainSwitchOn d) s = .next t ∧ t.regBit R.PMU_DOM_CTRL d.val = true ∧ has t.pmu.wanted d.val = true := by
  have hbit : (s.setRegBit R.PMU_DOM_CTRL d.val true).regBit R.PMU_DOM_CTRL d.val = true := s.regBit_setRegBit_same _ _ _ (by omega)
  refine ⟨_, (exec_domainSwitchOn d s).trans (congrArg Host.Outcome.next (switchOn_wants s d.val hg)), ?_, has_addTo_same _ _⟩
  obtain ⟨u, hu⟩ : ∃ u, s.setRegBit R.PMU_DOM_CTRL d.val true = u := ⟨_, rfl⟩
  rw [hu] at hbit ⊢
  exact (State.regBit_congr d.val (State.reg_congr _ rfl)).trans hbit

/-- Settles O49: each row by the branch that its hypotheses take, and by the registers and the domain's parts that it leaves. -/
theorem power : Obligations.Power := by
  unfold Obligations.Power
  refine ⟨fun d s => ⟨fun hp hg hc hw hr => ?_, fun hp hg hc hw hr => ?_, fun h => ?_, fun h hc hw => ?_⟩,
    fun d s => ⟨fun hp hg hc => ?_, fun hp hg => ?_, fun hg => ?_⟩,
    fun d s => ⟨fun h => exec_domainOffEnd_none d s (offReady_staying d s h), exec_domainOffEnd d s, exec_domainOffEnd_none d s,
      exec_domainOnEnd_none d s, exec_domainOnEnd_free d s, exec_domainOnEnd_one d s, domainOff_powered s d.val d.isLt,
      domainOff_byte s d.val⟩,
    fun s => ⟨stbyNext_idle s, fun h hg hc d hd => stbyNext_off s h hg hc hd⟩, offReady_cluster,
    fun a d v s hw ha => ⟨accessAway_wakes v hw ha, accessAway_locked v hw ha⟩, fun d s => domainUp_rows s d,
    fun d s => domainUp_unloaded s d, fun d s => ⟨exec_wakeOnDemand_on d s, fun hp hl hc => ?_, fun hp hl => ?_⟩,
    fun v s => ⟨fun h => ?_, fun hkey hgo hr => ?_, fun hkey hgo hr h => ?_, fun hkey hgo hr hs hp => ?_⟩,
    fun s => ⟨stbyAsked_not s, exec_stbyUnasked s, fun h hstep => ⟨_, exec_spStopAck_commits s h hstep, commitStandby_holds s⟩,
      exec_spStopAck_waits s, fun _ => exec_spAckTimeout_acked s, fun h ha => ⟨_, exec_spAckTimeout s h ha, endEntry_refused s⟩⟩,
    fun k s => ⟨fun h => ?_, fun h he => ?_, fun h he hs => ?_⟩,
    fun s => ⟨_, exec_mainSupplyLoss s, rfl, rfl, scopeClear_plan (supplyCut s) 1 false⟩,
    fun mv s => ⟨fun h => ?_, fun h hout => ?_, fun h hlo hhi => avsRows s mv h hlo hhi⟩,
    fun s => ⟨fun h r => exec_avsSettle_none s r h, fun v h => ⟨exec_nack_commits s h, fun ha => ⟨exec_nack_repeats s h ha,
      exec_nack_errs s h ha, fun raw hnear => ?_, fun hpec => ?_⟩⟩⟩,
    fun raw s => ⟨fun h => ⟨_, exec_readIoutPoll s raw h, s.reg_setReg _ _, State.setReg_mem _ _ _⟩, exec_readIoutPoll_off s raw,
      ⟨_, exec_pmbAlert s raw, alert_holds s raw⟩⟩⟩
  · rw [exec_domainSwitchOff, switchOff_refused s _ hp hg hc hw hr]
  · obtain ⟨hbusy, hctrl, hgoing⟩ := startOff_holds s d.val d.isLt
    obtain ⟨hmem, hles⟩ := startOff_rest d.val (s.setRegBit R.PMU_DOM_CTRL d.val false)
    have hbit := s.onlyRegs_setRegBit R.PMU_DOM_CTRL d.val false
    exact ⟨_, by rw [exec_domainSwitchOff, switchOff_starts s _ hp hg hc hw hr], hbusy, hctrl, hgoing, hmem.trans hbit.mem_eq,
      hles.trans hbit.cpus_eq.1⟩
  · rw [exec_domainSwitchOff, switchOff_coming s _ h]
  · rw [exec_domainSwitchOff, switchOff_off s _ h hc hw]
  · exact ⟨_, by rw [exec_domainSwitchOn, switchOn_starts s _ hp hg hc], startOn_holds s d.val d.isLt⟩
  · rw [exec_domainSwitchOn, switchOn_on s _ hp hg]
  · exact switchOn_wanting d s hg
  · rw [exec_wakeOnDemand_off d s hp, wakeAccess_locked s _ hl hc]
  · exact ⟨_, exec_wakeOnDemand_off d s hp, (wakeAccess_bit s d.val (by omega) (.inl hl)).2, (wakeAccess_only s d.val).mem_eq⟩
  · rw [exec_standbyRequest, standbyRequest_ignored s v h]
  · rw [exec_standbyRequest, standbyRequest_runs s v hkey hgo hr]
  · rw [exec_standbyRequest, standbyRequest_saves s v hkey hgo hr h]
  · rw [exec_standbyRequest, standbyRequest_starts s v hkey hgo hr hs hp]
  · rw [exec_standbyWake, wakeOn_unlatched _ _ h]
  · have hent : (aonEvent s k.val).pmu.entering = true := by rw [(aonEvent_only s k.val).pmu_eq, he]
    exact ⟨_, by rw [exec_standbyWake, wakeOn_aborts _ _ h hent], aborted_holds _⟩
  · have hpmu := (aonEvent_only s k.val).pmu_eq
    rw [exec_standbyWake, wakeOn_leaves _ _ h (by rw [hpmu, he]) (by rw [hpmu, hs])]
  · rw [exec_avsTargetWrite, avsTargetWrite_owned s _ h]
  · rw [exec_avsTargetWrite, avsTargetWrite_free s _ h, avsTarget_outside s _ hout]
  · refine exec_avsSettle_alone s _ h (avsSettle_near s v raw hnear) ?_
    rw [avsDone_acked]
    exact ha
  · exact exec_avsSettle_alone s _ h (avsSettle_pec_off s v hpec) ha

end Sys2Proof.Machine
end
